-- ==== Sys2Proof/Word.lean ====
section
/-!
DEFINITION. The word types of the model: bytes, byte strings and sparse tables.
-/
namespace Sys2Proof

/-- The smallest addressable unit of every memory of the device (00 R8). -/
abbrev Byte := BitVec 8

/-- A byte string, first byte at the lowest address (00 R8). -/
abbrev Bytes := List Byte

/-- A sparse table: keys strictly rising, no entry equal to the table's default. -/
abbrev Tab (α : Type) := List (Nat × α)

end Sys2Proof
end

