-- ==== Sys2Proof/Syntax.lean ====
section
/-!
DEFINITION. The commands of the block: one constructor per row of the table of operations and events, with its operands.
-/
namespace Sys2Proof

/-- RoCE v2 packet kinds (07 R177, R183 to R185). -/
inductive RoceOp where
  | sendFirst | sendMiddle | sendLast | sendOnly
  | writeFirst | writeMiddle | writeLast | writeOnly | writeLastImm | writeOnlyImm
  | ack | nak | cnp | other
  deriving DecidableEq, Repr

/-- A RoCE v2 packet, parsed (log 11). -/
structure RocePkt where
  op : RoceOp
  dqpn : BitVec 24
  psn : BitVec 24
  ce : Bool
  icrcOk : Bool
  va : BitVec 64
  rkey : BitVec 32
  dmaLen : BitVec 32
  imm : BitVec 32
  /-- AETH syndrome of an ACK or NAK packet -/
  syndrome : BitVec 8
  payload : Bytes
  deriving DecidableEq, Repr

/-- What a received Ethernet frame is (07 R170). -/
inductive EthKind where
  | pfc (prio : BitVec 3) (pause : Bool)
  | roce (p : RocePkt)
  | other
  deriving DecidableEq, Repr

/-- A received Ethernet frame: its length and its content, parsed (log 11). -/
structure EthFrame where
  len : Nat
  kind : EthKind
  deriving DecidableEq, Repr

/-- What the partner's Keyholder shows at binding (10 R273, 11 R300): its Pair Role and Partner UID, the UID and the identity key that
its certificate gives (none where it is no Horulama manufacturing certificate), its ephemeral key, and its signature on that. -/
structure PairPeer where
  role : Nat := 0
  partnerUid : BitVec 64 := 0
  cert : Option (BitVec 64 × Bytes) := none
  eph : Bytes := []
  sig : Bytes := []
  deriving DecidableEq, Repr

/-- A write of OBJ_CMD without its OP (05 R106): ID, VECTOR, IRQ, and its two Reserved fields. -/
structure ObjCmd where
  id : BitVec 16
  vector : BitVec 11 := 0
  irq : Bool := false
  rsvLo : BitVec 8 := 0
  rsvHi : BitVec 20 := 0
  deriving DecidableEq, Repr

/-- A write of NET_CMD without its OP (07 R172): ID and its Reserved field. -/
structure NetCmd where
  id : BitVec 16
  rsv : BitVec 8 := 0
  deriving DecidableEq, Repr

/-- A register write: byte offset within the register, and the bytes written (00 R14). -/
structure RegWr where
  off : Nat := 0
  data : Bytes
  deriving DecidableEq, Repr

/-- A request of the device on host memory that the host refuses (06 R147): an outstanding write, the read of a MOVE, of a
submission entry, of a Job Launch Table, of a tile's images, of an object to be digested (freeze or verify), of the table of the
job Solo Replay runs again, or of a queue pair's ring or source data as a packet is sent. -/
inductive HostReqRef where
  | write (id : Nat)
  | move (t n : Nat)
  | entry (q : Nat)
  | table (q : Nat)
  | image (q : Nat)
  | digest (freeze : Bool) (x : ObjCmd)
  | replay
  | roce (q : Nat)
  deriving DecidableEq, Repr

/-- The rate the PCI Express link has trained at (06 R138). -/
inductive LinkRate where
  | gt64
  | gt32
  | gt16
  deriving DecidableEq, Repr

/-- The PCI Express link as it has trained: its rate and its width in lanes (06 R138). -/
structure HostLink where
  rate : LinkRate
  width : Nat := 16
  deriving DecidableEq, Repr

/-- The capabilities and features 06 R138 and R139 name. -/
inductive PciCap where
  | powerManagement | pciExpress | msix | advancedErrorReporting | deviceSerialNumber | dataLinkFeature
  | physical16 | physical32 | physical64 | laneMargining | cxlDvsec | flexBusPort
  | cxlMem | srIov | ats | pri | pasid | resizableBar | msi | expansionRom | ide
  deriving DecidableEq, Repr

/-- What a configuration read asks for (06 R138, R140, R141, R149, 13 R335; log 67). -/
inductive CfgItem where
  | has (c : PciCap)
  | classCode
  | serialNumber
  | powerStatus
  | linkStatus
  | bar (k : Nat)
  | msixControl
  | deviceControl
  | cxlControl
  deriving DecidableEq, Repr

/-- A configuration request: a read; a write of a base address register, of Message Control of MSI-X (06 R138), of the enable of
CXL.cache in the CXL DVSEC (06 R140), of Enable Relaxed Ordering in the Device Control register (06 R149); or one no rule speaks
of. -/
inductive CfgReq where
  | read (i : CfgItem)
  | bar (k : Nat) (v : BitVec 64)
  | msixControl (enable maskAll : Bool)
  | cxlCache (on : Bool)
  | relaxedOrdering (on : Bool)
  | other
  deriving DecidableEq, Repr

/-- The readings of one telemetry sample (13 R351): none where the source was busy and the sample dropped. -/
structure TeleSample where
  volt : List (Option (BitVec 32))
  curr : List (Option (BitVec 32))
  die : List (Option (BitVec 32))
  hbm : List (Option (BitVec 32))
  /-- device power over the period as binary32, and its energy in mJ -/
  power : BitVec 32
  energy : Nat
  /-- PMBus transactions that failed (18 R443) -/
  pmbErr : Nat
  deriving DecidableEq, Repr

/-- Who reads or writes a register: the host in BAR0 or BAR4, or the MC; `src` is the fetch source of the MC's store (16 R406). -/
inductive RegView where
  | host
  | bar4
  | mc (src : Nat)
  deriving DecidableEq, Repr

/-- What a debugger does through the JTAG port while TRACE or DBG_ACCESS is selected (11 R304, R307; log 53): a look at the trace,
reads and writes of registers, of stored bytes of HBM, of a tile's scratchpad, of the MC's memory, and control of the MC. -/
inductive DbgAccess where
  | trace
  | readReg (view : RegView) (addr n : Nat)
  | writeReg (view : RegView) (addr : Nat) (data : Bytes)
  | readHbm (pa n : Nat)
  | writeHbm (pa : Nat) (data : Bytes)
  | readTile (t off n : Nat)
  | writeTile (t off : Nat) (data : Bytes)
  | readMc (addr n : Nat)
  | haltMc
  | stepMc
  | runMc
  deriving DecidableEq, Repr

/-- A JTAG instruction, and what is done with it while it is selected. -/
structure JtagScan where
  op : BitVec 8
  acc : List DbgAccess := []
  deriving DecidableEq, Repr

/-- The commands of the block: one constructor per row of the table (log 1). -/
inductive Instr where
  -- Registers (00, 01)
  /-- REGISTER_WRITE (00 R10) -/
  | registerWrite (view : RegView) (addr : Nat) (data : Bytes)
  /-- RC_COUNTER_READ (00 R10) -/
  | rcCounterRead (view : RegView) (addr : Nat) (n : Nat)
  /-- BAR0_OFF_DOMAIN_ACCESS (01 R19) -/
  | bar0OffDomainAccess (addr : Nat) (n : Nat) (data : Option Bytes)
  /-- BAR2_READ (01 R25) -/
  | bar2Read
  -- Tiles (03)
  /-- DESCRIPTOR_ADMIT (03 R65) -/
  | descriptorAdmit (t : Nat)
  /-- DECODE_FAILURE_END (03 R85) -/
  | decodeFailureEnd (t : Nat)
  /-- DESCRIPTOR_ISSUE (03 R66) -/
  | descriptorIssue (t : Nat) (n : Nat)
  /-- MATMUL (03 R72) -/
  | matmul (t : Nat) (n : Nat)
  /-- EXA_READ (02 R44) -/
  | exaRead (t : Nat) (n : Nat)
  /-- VEC (02 R49) -/
  | vec (t : Nat) (n : Nat)
  /-- MOVE (03 R77) -/
  | move (t : Nat) (n : Nat) (hr : List Host.Cell)
  /-- SEND (03 R80) -/
  | send (t : Nat) (n : Nat)
  /-- RECV (03 R80) -/
  | recv (t : Nat) (n : Nat)
  /-- REDUCE (03 R82) -/
  | reduce (t : Nat) (n : Nat)
  /-- REDUCE_ROOT_COMPLETE (03 R82) -/
  | reduceRootComplete (t : Nat) (n : Nat)
  /-- WAIT_EVENT (05 R130) -/
  | waitEvent (t : Nat) (n : Nat)
  /-- SIGNAL_EVENT (03 R83) -/
  | signalEvent (t : Nat) (n : Nat)
  /-- HALT (03 R68) -/
  | halt (t : Nat) (n : Nat)
  /-- DESCRIPTOR_SIGNAL_SEND (03 R87) -/
  | descriptorSignalSend (t : Nat) (n : Nat) (k : Nat)
  /-- TOKEN_ARRIVAL (03 R89) -/
  | tokenArrival (i : Nat)
  /-- CREDIT_RETURN (03 R88) -/
  | creditReturn (i : Nat)
  -- Objects and queues (05)
  /-- CTX_CREATE (05 R109) -/
  | ctxCreate (x : ObjCmd) (dur : Nat)
  /-- CTX_DESTROY (05 R113) -/
  | ctxDestroy (x : ObjCmd)
  /-- CONTEXT_FREE (05 R113) -/
  | contextFree (c : Nat)
  /-- CTX_ABORT (05 R108) -/
  | ctxAbort (x : ObjCmd)
  /-- CTX_RESTART (05 R114) -/
  | ctxRestart (x : ObjCmd)
  /-- Q_CREATE (05 R119) -/
  | qCreate (x : ObjCmd)
  /-- Q_DESTROY (05 R108) -/
  | qDestroy (x : ObjCmd)
  /-- Q_STOP (05 R108) -/
  | qStop (x : ObjCmd)
  /-- Q_START (05 R108) -/
  | qStart (x : ObjCmd)
  /-- MEM_CREATE (05 R460) -/
  | memCreate (x : ObjCmd)
  /-- MEM_DESTROY (05 R118) -/
  | memDestroy (x : ObjCmd)
  /-- MEM_FREEZE (05 R108) -/
  | memFreeze (x : ObjCmd) (hr : List Host.Cell)
  /-- MEM_VERIFY (05 R108) -/
  | memVerify (x : ObjCmd) (hr : List Host.Cell)
  /-- EV_CREATE (05 R128) -/
  | evCreate (x : ObjCmd)
  /-- EV_DESTROY (05 R130) -/
  | evDestroy (x : ObjCmd)
  /-- EV_ADD (05 R129) -/
  | evAdd (x : ObjCmd)
  /-- EV_SET (05 R130) -/
  | evSet (x : ObjCmd)
  /-- EV_ARM (05 R131) -/
  | evArm (x : ObjCmd)
  /-- SUBMISSION_DOORBELL (05 R121) -/
  | submissionDoorbell (q : Nat) (data : Bytes)
  /-- COMPLETION_DOORBELL (05 R121) -/
  | completionDoorbell (q : Nat) (data : Bytes)
  /-- NOP (05 R123) -/
  | nop (q : Nat) (hr : List Host.Cell)
  /-- RUN (05 R125) -/
  | run (q : Nat) (hr : List Host.Cell)
  /-- SIGNAL (05 R123) -/
  | signal (q : Nat) (hr : List Host.Cell)
  /-- QUADRANT_ACQUIRE (05 R125) -/
  | quadrantAcquire
  /-- OWNER_CHANGE_SCRUB_DONE (11 R297) -/
  | ownerChangeScrubDone (q : Nat)
  /-- JOB_START (05 R125) -/
  | jobStart (q : Nat) (hr : List Host.Cell)
  /-- JOB_COMPLETE (05 R125) -/
  | jobComplete (q : Nat)
  -- The error queue (05)
  /-- ERROR_RECORD_ACCEPT (05 R133) -/
  | errorRecordAccept (i : Nat)
  /-- ERQ_BASE_WRITE (05 R135) -/
  | erqBaseWrite (w : RegWr)
  /-- ERQ_HEAD_WRITE (05 R135) -/
  | erqHeadWrite (w : RegWr)
  /-- ERQ_ENABLE (06 R164) -/
  | erqEnable (w : RegWr)
  -- Host interface (06)
  /-- HB_GO (06 R145) -/
  | hbGo
  /-- BIAS_CHANGE_DONE (06 R145) -/
  | biasChangeDone
  /-- HOST_ACCESS_REFUSED (06 R147) -/
  | hostAccessRefused (who : HostReqRef) (addr : Nat) (hr : List Host.Cell)
  /-- DEPOSIT_ARM (06 R152) -/
  | depositArm (e : Nat) (w : RegWr)
  /-- DEPOSIT_DISARM (06 R153) -/
  | depositDisarm (e : Nat) (w : RegWr)
  /-- DEPOSIT_DRAIN_DONE (06 R153) -/
  | depositDrainDone (e : Nat)
  /-- DEPOSIT_WRITE (06 R154) -/
  | depositWrite (off : Nat) (data : Bytes) (req : Nat) (poisoned : Bool)
  /-- DEPOSIT_FLAG (06 R155) -/
  | depositFlag (off : Nat) (data : Bytes) (req : Nat)
  /-- DEPOSIT_FLAG_APPLY (06 R156) -/
  | depositFlagApply (i : Nat)
  -- Bivouac (06)
  /-- DECLARE (06 R158) -/
  | declare (r : Nat) (c : Nat) (dur : Nat)
  /-- RELEASE (06 R158) -/
  | release (r : Nat)
  /-- CLAIM (06 R167) -/
  | claim (r : Nat) (c : Nat) (damaged : Bool) (dur : Nat)
  /-- DISCARD (06 R168) -/
  | discard (r : Nat)
  /-- HOST_LOSS_TRIGGER (06 R162) -/
  | hostLossTrigger (cause : Nat)
  /-- HOST_LOSS_DRAIN_END (06 R162) -/
  | hostLossDrainEnd
  /-- BIVOUAC_SEAL_DONE (06 R162) -/
  | bivouacSealDone
  -- Ethernet and RoCE (07)
  /-- QP_CREATE (07 R173) -/
  | qpCreate (x : NetCmd)
  /-- QP_DESTROY (07 R172) -/
  | qpDestroy (x : NetCmd)
  /-- QP_FAIL (07 R174) -/
  | qpFail (x : NetCmd)
  /-- QP_RECOVER (07 R172) -/
  | qpRecover (x : NetCmd)
  /-- MR_REG (07 R175) -/
  | mrReg (x : NetCmd)
  /-- MR_DEREG (07 R175) -/
  | mrDereg (x : NetCmd)
  /-- ETH_FRAME_RECEIVE (07 R170) -/
  | ethFrameReceive (p : Nat) (f : EthFrame)
  /-- PFC_PAUSE_RECEIVED (07 R171) -/
  | pfcPauseReceived (p : Nat)
  /-- ROCE_INBOUND_PACKET (07 R177) -/
  | roceInboundPacket (p : Nat)
  /-- ROCE_PACKET_LANDED (07 R180) -/
  | rocePacketLanded (q : Nat)
  /-- ROCE_WRITE_POST (07 R183) -/
  | roceWritePost (q : Nat) (hr : List Host.Cell)
  /-- ROCE_ACK_RECEIVED (07 R183) -/
  | roceAckReceived (p : Nat)
  /-- ROCE_NAK_RECEIVED (07 R174) -/
  | roceNakReceived (p : Nat) (hr : List Host.Cell)
  /-- ROCE_ACK_TIMEOUT (07 R174) -/
  | roceAckTimeout (q : Nat) (hr : List Host.Cell)
  /-- ROCE_CNP_RECEIVED (07 R185) -/
  | roceCnpReceived (p : Nat)
  /-- ROCE_RATE_INCREASE (07 R185) -/
  | roceRateIncrease (q : Nat)
  /-- ETH_LINK_DOWN (07 R174) -/
  | ethLinkDown (p : Nat)
  -- Nalfa ports (08)
  /-- FEC_BLOCK_RECEIVE (08 R191) -/
  | fecBlockReceive (p : Nat) (l0 l1 l2 l3 : List (BitVec 10)) (skew : Nat)
  /-- LINK_FRAME_RECEIVE (08 R199) -/
  | linkFrameReceive (p : Nat)
  /-- LINK_FRAME_TRANSMIT (08 R214) -/
  | linkFrameTransmit (p : Nat)
  /-- REPLAY_TIMEOUT (08 R201) -/
  | replayTimeout (p : Nat)
  /-- LOSS_OF_SIGNAL (08 R202) -/
  | lossOfSignal (p : Nat) (handshake : Bool)
  /-- NLK_RETRAIN (08 R203) -/
  | nlkRetrain (p : Nat) (w : RegWr)
  /-- NLK_TRAIN (08 R203) -/
  | nlkTrain (p : Nat) (w : RegWr)
  /-- NLK_ENABLE (08 R203) -/
  | nlkEnable (p : Nat) (w : RegWr)
  /-- NLK_FLOW_WRITE (08 R218) -/
  | nlkFlowWrite (p : Nat) (w : RegWr)
  /-- TRAINING_COMPLETE (08 R207) -/
  | trainingComplete (p : Nat) (lanes : Nat) (pol : BitVec 4) (coef : List (List (BitVec 8))) (precode : BitVec 4) (skew : List Nat)
  /-- TRAINING_TIMEOUT (08 R203) -/
  | trainingTimeout (p : Nat)
  /-- RETRAIN_TIMEOUT (08 R204) -/
  | retrainTimeout (p : Nat)
  /-- AUTO_TRAIN (08 R203) -/
  | autoTrain (p : Nat)
  /-- RECAL_WINDOW_START (08 R219) -/
  | recalWindowStart (p : Nat)
  /-- RECAL_WINDOW_END (08 R219) -/
  | recalWindowEnd (p : Nat)
  /-- RECAL_PERIOD_END (08 R220) -/
  | recalPeriodEnd (p : Nat)
  -- Transactions (09)
  /-- SEGMENT_SEND (09 R230) -/
  | segmentSend (id : Nat)
  /-- LOAD (09 R223) -/
  | load (src : Nat)
  /-- STORE (09 R236) -/
  | store (src : Nat)
  /-- COPY (09 R223) -/
  | copy (src : Nat)
  /-- ATOMIC_ADD (09 R238) -/
  | atomicAdd (src : Nat)
  /-- ATOMIC_MIN (09 R238) -/
  | atomicMin (src : Nat)
  /-- ATOMIC_MAX (09 R238) -/
  | atomicMax (src : Nat)
  /-- ATOMIC_SWAP (09 R238) -/
  | atomicSwap (src : Nat)
  /-- ATOMIC_CAS (09 R238) -/
  | atomicCas (src : Nat)
  /-- EXA_ADD (09 R239) -/
  | exaAdd (src : Nat)
  /-- EXA_RED (09 R239) -/
  | exaRed (src : Nat)
  /-- REDUCE_DONE (09 R239) -/
  | reduceDone (src : Nat)
  /-- FENCE (09 R232) -/
  | fence (src : Nat)
  /-- DONE_RESPONSE (09 R224) -/
  | doneResponse (src : Nat)
  /-- DATA_RESPONSE (09 R224) -/
  | dataResponse (src : Nat)
  -- Fabric and Roped Pairs (10)
  /-- TRANSIT_FORWARD (10 R271) -/
  | transitForward (p : Nat) (vcA : Bool)
  /-- NTX_LOAD (09 R254) -/
  | ntxLoad
  /-- NTX_STORE (09 R254) -/
  | ntxStore
  /-- NTX_ATOMIC (09 R254) -/
  | ntxAtomic
  /-- NTX_FENCE (09 R254) -/
  | ntxFence
  /-- TAG_QUARANTINE_END (09 R231) -/
  | tagQuarantineEnd (tag : Nat)
  /-- CAIRN_SEND (10 R255) -/
  | cairnSend (p : Nat)
  /-- CAIRN_RECEIVE (10 R256) -/
  | cairnReceive (p : Nat)
  /-- CAIRN_TIMEOUT (10 R259) -/
  | cairnTimeout (p : Nat)
  /-- ROUTE_RECOMPUTE (10 R267) -/
  | routeRecompute
  /-- ADDRESS_ASSIGN (10 R264) -/
  | addressAssign
  /-- ADDRESS_CONFLICT (10 R265) -/
  | addressConflict
  /-- PAIR_BIND (10 R273) -/
  | pairBind (peer : PairPeer) (dur : Nat)
  /-- PAIR_SYNC_DONE (10 R273) -/
  | pairSyncDone
  /-- MIRROR_HEARTBEAT_SEND (10 R279) -/
  | mirrorHeartbeatSend
  /-- HEARTBEAT (10 R279) -/
  | heartbeat
  /-- WRITE (10 R276) -/
  | write
  /-- REGION (10 R277) -/
  | region
  /-- CKPT (10 R278) -/
  | ckpt
  /-- ACK (10 R275) -/
  | ack
  /-- UNBIND (10 R284) -/
  | unbind
  /-- HEARTBEAT_MISS (10 R279) -/
  | heartbeatMiss
  /-- CK_GO (10 R278) -/
  | ckGo
  /-- PAIR_ROLE_WRITE (10 R284) -/
  | pairRoleWrite (v : BitVec 8)
  /-- UNBIND_TIMEOUT (10 R284) -/
  | unbindTimeout
  -- The Keyholder and debug (11)
  /-- JK_INSTALL (11 R288) -/
  | jkInstall (slot : Nat) (snum : Nat) (dur : Nat)
  /-- JK_ERASE (11 R288) -/
  | jkErase (slot : Nat) (dur : Nat)
  /-- CHASSIS_SET (11 R288) -/
  | chassisSet (dur : Nat)
  /-- DBG_CHALLENGE (11 R288) -/
  | dbgChallenge (jtag : Bool)
  /-- DBG_GRANT (11 R305) -/
  | dbgGrant (jtag : Option Bytes)
  /-- DBG_LOWER (11 R288) -/
  | dbgLower (jtag : Bool)
  /-- SECURE_HOLD_LIMIT (11 R301) -/
  | secureHoldLimit
  /-- TAMPER_RESPONSE (11 R302) -/
  | tamperResponse (cause : Nat)
  /-- ENTROPY_HEALTH_FAIL (11 R286) -/
  | entropyHealthFail
  /-- JTAG_INSTRUCTION (11 R307) -/
  | jtagInstruction (scan : JtagScan)
  /-- TAP_RESET (11 R306) -/
  | tapReset
  -- Check-value units and seals (12)
  /-- CVU_START (12 R314) -/
  | cvuStart (c : Nat)
  /-- CVU_FINISH (12 R319) -/
  | cvuFinish (c : Nat)
  /-- CVU_FOLD (12 R320) -/
  | cvuFold (c : Nat) (v : BitVec 64)
  /-- CVU_DATA8 (12 R317) -/
  | cvuData8 (c : Nat) (v : BitVec 8)
  /-- CVU_DATA16 (12 R317) -/
  | cvuData16 (c : Nat) (v : BitVec 16)
  /-- CVU_DATA32 (12 R317) -/
  | cvuData32 (c : Nat) (v : BitVec 32)
  /-- CVU_PRESET (12 R315) -/
  | cvuPreset (c : Nat) (w : RegWr)
  /-- CVU_ALV_TX (12 R322) -/
  | cvuAlvTx (c : Nat)
  /-- CVU_ALV_RX (12 R322) -/
  | cvuAlvRx (c : Nat) (a : BitVec 8)
  /-- OPEN (12 R323) -/
  | openSlot (slot : Nat) (rsv : Nat)
  /-- SEAL_DISCARD (12 R323) -/
  | sealDiscard (slot : Nat) (rsv : Nat)
  /-- SEAL_ROW_LANDED (12 R324) -/
  | sealRowLanded (n : Nat)
  -- Power, resets, boot (13)
  /-- PCR_DOMREQ (13 R331) -/
  | pcrDomreq (host : Bool) (w : RegWr)
  /-- DOMAIN_REQUEST_RESUME (13 R337) -/
  | domainRequestResume
  /-- PCR_PSTATE_REQ (13 R335) -/
  | pcrPstateReq (host : Bool) (v : BitVec 3)
  /-- POWER_STATE_REQUEST (13 R335) -/
  | powerStateRequest (v : BitVec 8)
  /-- P1_ENTER (13 R335) -/
  | p1Enter
  /-- PCI_POWER_STATE (13 R335) -/
  | pciPowerState (d3 : Bool)
  /-- PERST_ASSERT_IN_P3 (13 R336) -/
  | perstAssertInP3
  /-- PERST_DEASSERT (13 R335) -/
  | perstDeassert
  /-- CONFIG_REQUEST (13 R348) -/
  | configRequest (q : CfgReq)
  /-- REFCLK_LOSS (13 R340) -/
  | refclkLoss (which : Nat)
  /-- COLD_RESET (13 R343) -/
  | coldReset (cause : Nat)
  /-- BOOT_STAGE_COMPLETE (13 R347) -/
  | bootStageComplete
  /-- DEVICE_CORE_RESET (13 R343) -/
  | deviceCoreReset (core : Nat)
  /-- QUADRANT_RESET (13 R343) -/
  | quadrantReset (q : Nat)
  /-- SCRUB_LINE (13 R350) -/
  | scrubLine (k : Nat) (res : Nat)
  /-- SCRUB_FORCED_SLOT (13 R350) -/
  | scrubForcedSlot (k : Nat) (bad : List (Nat × Nat))
  /-- TELEMETRY_SAMPLE (13 R351) -/
  | telemetrySample (x : TeleSample)
  -- Recovery (14)
  /-- TILE_PROGRESS_WATCHDOG (14 R354) -/
  | tileProgressWatchdog (t : Nat)
  /-- ABSEIL_DRAIN_END (14 R364) -/
  | abseilDrainEnd
  /-- ABSEIL_SAMPLE_DONE (14 R364) -/
  | abseilSampleDone
  /-- ABSEIL_RESET_DONE (14 R364) -/
  | abseilResetDone (hr : List Host.Cell)
  /-- SOLO_REPLAY_END (14 R371) -/
  | soloReplayEnd
  /-- SOLO_REPLAY_LIMIT (14 R370) -/
  | soloReplayLimit
  /-- ABSEIL_ABANDON (14 R366) -/
  | abseilAbandon
  /-- JOB_WATCHDOG (14 R355) -/
  | jobWatchdog (q : Nat)
  /-- LINK_TRANSACTION_TIMEOUT (14 R357) -/
  | linkTransactionTimeout (tag : Nat)
  /-- MC_WATCHDOG (14 R376) -/
  | mcWatchdog
  /-- MC_WDOG_KICK (14 R376) -/
  | mcWdogKick (v : BitVec 16)
  /-- RCV_EXPORT_GO (14 R369) -/
  | rcvExportGo
  -- The dictionary and the field bus (15, 16)
  /-- STOLEG_READ (15 R381) -/
  | stolegRead (target : Nat) (frame : Bytes)
  /-- STOLEG_WRITE (15 R391) -/
  | stolegWrite (target : Nat) (frame : Bytes)
  /-- WRITE_SEG (15 R392) -/
  | writeSeg (target : Nat) (frame : Bytes)
  /-- SEG_DOWN (15 R394) -/
  | segDown (target : Nat) (frame : Bytes)
  /-- ABORT (15 R395) -/
  | stolegAbort (target : Nat) (frame : Bytes)
  /-- SEGMENT_TIMEOUT (15 R395) -/
  | segmentTimeout
  /-- IDENTIFY (15 R398) -/
  | identify (target : Nat) (frame : Bytes)
  /-- STOLEG_HEARTBEAT_SEND (15 R396) -/
  | stolegHeartbeatSend
  /-- HEARTBEAT_RECEIVE (15 R388) -/
  | heartbeatReceive (node : Nat)
  /-- MBX_GO (15 R399) -/
  | mbxGo (w : RegWr)
  /-- WRITE_CHALLENGE (15 R385) -/
  | writeChallenge
  /-- FABRIC_EPOCH_WRITE (10 R262) -/
  | fabricEpochWrite (v : BitVec 64)
  /-- DEVICE_ADDRESS_WRITE (10 R263) -/
  | deviceAddressWrite (v : BitVec 8)
  /-- LOADED_ROUTING_TABLE (10 R269) -/
  | loadedRoutingTable (b : Bytes)
  /-- RESET_REQUEST (13 R343) -/
  | resetRequest (v : BitVec 8)
  /-- OUT_OF_SERVICE_CLEAR (14 R374) -/
  | outOfServiceClear
  /-- REVOKE_SIGNING_KEY (11 R312) -/
  | revokeSigningKey (v : BitVec 8)
  /-- CHASSIS_KEY_WRITE (15 R386) -/
  | chassisKeyWrite (key : BitVec 256)
  /-- CONFIRM_IMAGE (16 R414) -/
  | confirmImage
  /-- BEGIN (16 R412) -/
  | updateBegin
  /-- FINISH (16 R412) -/
  | updateFinish
  /-- UPDATE_ABORT (16 R412) -/
  | updateAbort
  /-- UPDATE_DATA (16 R412) -/
  | updateData (b : Bytes)
  /-- RESTORE_DEFAULTS (16 R422) -/
  | restoreDefaults
  -- Flash and real-time clock (16, 17)
  /-- PROGRAM (16 R405) -/
  | program (bank : Bool) (src : Nat)
  /-- ERASE_4K (16 R406) -/
  | erase4K (bank : Bool) (src : Nat)
  /-- ERASE_64K (16 R406) -/
  | erase64K (bank : Bool) (src : Nat)
  /-- READ (16 R404) -/
  | flashRead (bank : Bool) (src : Nat)
  /-- BLANK_CHECK (16 R404) -/
  | blankCheck (bank : Bool) (src : Nat)
  /-- FLASH_COMMAND_DONE (16 R407) -/
  | flashCommandDone (good : Bool)
  /-- CAPTURE (17 R431) -/
  | capture
  /-- SET (17 R432) -/
  | rtcSet
  /-- SHIFT (17 R433) -/
  | shift (n : BitVec 16)
  /-- RTC_TICK (17 R425) -/
  | rtcTick
  /-- SET_TIME (17 R432) -/
  | setTime (b : Bytes)
  /-- SUBSECOND_SHIFT (17 R433) -/
  | subsecondShift (n : BitVec 32)
  /-- CURRENT_TIME (17 R431) -/
  | currentTime
  -- Supplies and the rest (18)
  /-- MAIN_POWER_FAIL (18 R446) -/
  | mainPowerFail
  /-- RTC_UNLOCK (17 R436) -/
  | rtcUnlock
  /-- PWR_OK_RISE (18 R445) -/
  | pwrOkRise
  /-- THERMAL_TRIP (18 R457) -/
  | thermalTrip (n : Nat) (t : Nat)
  /-- PMBUS_ALERT (18 R443) -/
  | pmbusAlert (more : List Nat) (errs : Nat)
  /-- TRAINING_PATTERNS_RECEIVED (08 R202) -/
  | trainingPatternsReceived (p : Nat) (handshake : Bool)
  /-- ETH_LINK_UP (07 R169) -/
  | ethLinkUp (p : Nat)
  /-- DATA_LINK_LAYER_UP (13 R347) -/
  | dataLinkLayerUp (link : HostLink)
  /-- HOST_COMPLETION (06 R146) -/
  | hostCompletion (id : Nat)
  /-- HOST_SNOOP (06 R143) -/
  | hostSnoop (addr : Nat)
  /-- BUS_OFF (15 R387) -/
  | busOff
  /-- BUS_OFF_RECOVERY (15 R387) -/
  | busOffRecovery
  /-- VBAT_SUPPLY_APPLIED (17 R429) -/
  | vbatSupplyApplied
  /-- VBAT_SUPPLY_LOSS (18 R452) -/
  | vbatSupplyLoss
  deriving DecidableEq, Repr

end Sys2Proof
end

