-- ==== Sys2Proof/WellFormed.lean ====
section
/-!
DEFINITION. Which commands are well formed: every number an operand gives lies in the range the manual gives it.
-/
namespace Sys2Proof

/-- The range of a tile (03 R59). -/
def tileOk (t : Nat) : Bool := decide (t < 96)
/-- The range of a window slot (03 R65). -/
def slotOk (n : Nat) : Bool := decide (n < 16)
/-- The range of a SIG of a descriptor (03 R71). -/
def sigOk (k : Nat) : Bool := decide (k < 4)
/-- The range of a context (05 R106). -/
def ctxOk (c : Nat) : Bool := decide (c < 128)
/-- The range of a queue (05 R106). -/
def queueOk (q : Nat) : Bool := decide (q < 1024)
/-- The range of a quadrant (01 R16). -/
def quadOk (q : Nat) : Bool := decide (q < 4)
/-- The range of a Deposit entry (06 R151). -/
def depOk (e : Nat) : Bool := decide (e < 4096)
/-- The range of a Bivouac Region (06 R158). -/
def regionOk (r : Nat) : Bool := decide (r < 16)
/-- The range of an Ethernet port (07 R169). -/
def ethOk (p : Nat) : Bool := decide (p < 2)
/-- The range of a Nalfa port (08). -/
def portOk (p : Nat) : Bool := decide (p < 8)
/-- The range of a queue pair (07 R172). -/
def qpOk (q : Nat) : Bool := decide (q < 4096)
/-- The range of a SEQ of a link frame (08 R194). -/
def seqOk (n : Nat) : Bool := decide (n < 4096)
/-- The range of where a segment arrived: a port, or 8 for the loopback path (09 R235). -/
def arrivalOk (src : Nat) : Bool := decide (src < 9)
/-- The range of a tag (09 R229). -/
def tagOk (tag : Nat) : Bool := decide (tag < 2 ^ 17)
/-- The range of a job key slot, a sender number or a seal slot (11 R288, 12 R323). -/
def byteOk (x : Nat) : Bool := decide (x < 256)
/-- The range of a check-value channel (12 R313). -/
def chanOk (c : Nat) : Bool := decide (c < 4)
/-- The range of an HBM stack (01 R16). -/
def stackOk (k : Nat) : Bool := decide (k < 4)
/-- The range of the ECC result of a line: good, corrected, uncorrectable (13 R350). -/
def eccOk (r : Nat) : Bool := decide (r < 3)
/-- The range of a reference clock without a monitor (13 R340). -/
def clkOk (c : Nat) : Bool := decide (c < 4)
/-- The range of the cause of a host loss (06 R160). -/
def lossOk (c : Nat) : Bool := decide (c < 4)
/-- The range of a Requester ID (06 R151). -/
def reqOk (r : Nat) : Bool := decide (r < 2 ^ 16)
/-- The range of a node ID of the field bus (15 R388). -/
def nodeOk (n : Nat) : Bool := decide (n < 128)
/-- The range of a fetch source: TCM, boot ROM, Bank 0, Bank 1 (16 R406). -/
def fetchOk (src : Nat) : Bool := decide (src < 4)

/-- The range of a debug access (11 R304): HBM, a tile and its scratchpad. -/
def dbgOk (a : DbgAccess) : Bool :=
  match a with
  | .readHbm pa n => decide (pa + n ≤ 0x1800000000)
  | .writeHbm pa b => decide (pa + b.length ≤ 0x1800000000)
  | .readTile t off n => tileOk t && decide (off + n ≤ 0x400000)
  | .writeTile t off b => tileOk t && decide (off + b.length ≤ 0x400000)
  | .trace | .readReg _ _ _ | .writeReg _ _ _ | .readMc _ _ | .haltMc | .stepMc | .runMc => true

/-- Causes of a Cold reset (13 R345). -/
def coldOk (c : Nat) : Bool := decide (1 ≤ c) && decide (c ≤ 6)
/-- Causes of a Device-Core reset (13 R345). -/
def coreOk (c : Nat) : Bool := decide (1 ≤ c) && decide (c ≤ 3)
/-- Tamper detectors (11 R302): supply glitch, clock monitor. -/
def tamperOk (c : Nat) : Bool := decide (1 ≤ c) && decide (c ≤ 2)
/-- Temperature sensors: 1 to 16 on the die, 17 to 20 in the stacks (18 R455). -/
def sensorOk (n : Nat) : Bool := decide (1 ≤ n) && decide (n ≤ 20)
/-- A host write of 1 to 64 bytes. -/
def bytesOk (b : Bytes) : Bool := decide (1 ≤ b.length) && decide (b.length ≤ 64)
/-- A register write holds bytes. -/
def wrOk (b : Bytes) : Bool := decide (1 ≤ b.length)
/-- A write that begins within a register of `n` bytes (00 R14). -/
def regWrOk (w : RegWr) (n : Nat) : Bool := decide (w.off < n) && decide (1 ≤ w.data.length)
/-- A CAN FD frame carries at most 64 bytes (15 R387). -/
def canOk (b : Bytes) : Bool := decide (b.length ≤ 64)
/-- The value of object 0x2411 (10 R269). -/
def tableOk (b : Bytes) : Bool := decide (b.length = 1024)
/-- The value of object 0x7022 (16 R412). -/
def pageOk (b : Bytes) : Bool := decide (b.length = 4096)
/-- A TIME value (15 R378). -/
def timeLenOk (b : Bytes) : Bool := decide (b.length = 10)

/-- A command is well formed. -/
def Instr.wf : Instr → Bool
  | .registerWrite _ _ data => wrOk data
  | .rcCounterRead _ _ n => decide (0 < n)
  | .bar0OffDomainAccess addr _ _ => decide (addr < 2 ^ 26)
  | .bar2Read => true
  | .descriptorAdmit t => tileOk t
  | .decodeFailureEnd t => tileOk t
  | .descriptorIssue t n => tileOk t && slotOk n
  | .matmul t n => tileOk t && slotOk n
  | .exaRead t n => tileOk t && slotOk n
  | .vec t n => tileOk t && slotOk n
  | .move t n _ => tileOk t && slotOk n
  | .send t n => tileOk t && slotOk n
  | .recv t n => tileOk t && slotOk n
  | .reduce t n => tileOk t && slotOk n
  | .reduceRootComplete t n => tileOk t && slotOk n
  | .waitEvent t n => tileOk t && slotOk n
  | .signalEvent t n => tileOk t && slotOk n
  | .halt t n => tileOk t && slotOk n
  | .descriptorSignalSend t n k => tileOk t && slotOk n && sigOk k
  | .tokenArrival _ => true
  | .creditReturn _ => true
  | .ctxCreate _ _ => true
  | .ctxDestroy _ => true
  | .contextFree c => ctxOk c
  | .ctxAbort _ => true
  | .ctxRestart _ => true
  | .qCreate _ => true
  | .qDestroy _ => true
  | .qStop _ => true
  | .qStart _ => true
  | .memCreate _ => true
  | .memDestroy _ => true
  | .memFreeze _ _ => true
  | .memVerify _ _ => true
  | .evCreate _ => true
  | .evDestroy _ => true
  | .evAdd _ => true
  | .evSet _ => true
  | .evArm _ => true
  | .submissionDoorbell q data => queueOk q && bytesOk data
  | .completionDoorbell q data => queueOk q && bytesOk data
  | .nop q _ => queueOk q
  | .run q _ => queueOk q
  | .signal q _ => queueOk q
  | .quadrantAcquire => true
  | .ownerChangeScrubDone q => queueOk q
  | .jobStart q _ => queueOk q
  | .jobComplete q => queueOk q
  | .errorRecordAccept _ => true
  | .erqBaseWrite w => regWrOk w 8
  | .erqHeadWrite w => regWrOk w 4
  | .erqEnable w => regWrOk w 4
  | .hbGo => true
  | .biasChangeDone => true
  | .hostAccessRefused _ _ _ => true
  | .depositArm e w => depOk e && regWrOk w 32
  | .depositDisarm e w => depOk e && regWrOk w 32
  | .depositDrainDone e => depOk e
  | .depositWrite off data req _ => decide (off < 2 ^ 38) && reqOk req && bytesOk data
  | .depositFlag off data req => decide (off < 2 ^ 15) && reqOk req && bytesOk data
  | .depositFlagApply _ => true
  | .declare r c _ => regionOk r && ctxOk c
  | .release r => regionOk r
  | .claim r c _ _ => regionOk r && ctxOk c
  | .discard r => regionOk r
  | .hostLossTrigger cause => lossOk cause
  | .hostLossDrainEnd => true
  | .bivouacSealDone => true
  | .qpCreate _ => true
  | .qpDestroy _ => true
  | .qpFail _ => true
  | .qpRecover _ => true
  | .mrReg _ => true
  | .mrDereg _ => true
  | .ethFrameReceive p _ => ethOk p
  | .pfcPauseReceived p => ethOk p
  | .roceInboundPacket p => ethOk p
  | .rocePacketLanded q => qpOk q
  | .roceWritePost q _ => qpOk q
  | .roceAckReceived p => ethOk p
  | .roceNakReceived p _ => ethOk p
  | .roceAckTimeout q _ => qpOk q
  | .roceCnpReceived p => ethOk p
  | .roceRateIncrease q => qpOk q
  | .ethLinkDown p => ethOk p
  | .fecBlockReceive p l0 l1 l2 l3 _ => portOk p && [l0, l1, l2, l3].all (fun l => decide (l.length = 272))
  | .linkFrameReceive p => portOk p
  | .linkFrameTransmit p => portOk p
  | .replayTimeout p => portOk p
  | .lossOfSignal p _ => portOk p
  | .nlkRetrain p w => portOk p && regWrOk w 4
  | .nlkTrain p w => portOk p && regWrOk w 4
  | .nlkEnable p w => portOk p && regWrOk w 4
  | .nlkFlowWrite p w => portOk p && regWrOk w 4
  | .trainingComplete p _ _ coef _ skew => portOk p && decide (coef.length = 4) && decide (skew.length = 4)
  | .trainingTimeout p => portOk p
  | .retrainTimeout p => portOk p
  | .autoTrain p => portOk p
  | .recalWindowStart p => portOk p
  | .recalWindowEnd p => portOk p
  | .recalPeriodEnd p => portOk p
  | .segmentSend _ => true
  | .load src => arrivalOk src
  | .store src => arrivalOk src
  | .copy src => arrivalOk src
  | .atomicAdd src => arrivalOk src
  | .atomicMin src => arrivalOk src
  | .atomicMax src => arrivalOk src
  | .atomicSwap src => arrivalOk src
  | .atomicCas src => arrivalOk src
  | .exaAdd src => arrivalOk src
  | .exaRed src => arrivalOk src
  | .reduceDone src => arrivalOk src
  | .fence src => arrivalOk src
  | .doneResponse src => arrivalOk src
  | .dataResponse src => arrivalOk src
  | .transitForward p _ => portOk p
  | .ntxLoad => true
  | .ntxStore => true
  | .ntxAtomic => true
  | .ntxFence => true
  | .tagQuarantineEnd tag => tagOk tag
  | .cairnSend p => portOk p
  | .cairnReceive p => portOk p
  | .cairnTimeout p => portOk p
  | .routeRecompute => true
  | .addressAssign => true
  | .addressConflict => true
  | .pairBind peer _ =>
    decide (peer.role < 3) && decide (peer.eph.length = 97) && decide (peer.sig.length = 96) &&
      peer.cert.all (fun c => decide (c.2.length = 97))
  | .pairSyncDone => true
  | .mirrorHeartbeatSend => true
  | .heartbeat => true
  | .write => true
  | .region => true
  | .ckpt => true
  | .ack => true
  | .unbind => true
  | .heartbeatMiss => true
  | .ckGo => true
  | .pairRoleWrite _ => true
  | .unbindTimeout => true
  | .jkInstall slot snum _ => byteOk slot && byteOk snum
  | .jkErase slot _ => byteOk slot
  | .chassisSet _ => true
  | .dbgChallenge _ => true
  | .dbgGrant _ => true
  | .dbgLower _ => true
  | .secureHoldLimit => true
  | .tamperResponse cause => tamperOk cause
  | .entropyHealthFail => true
  | .jtagInstruction scan => scan.acc.all dbgOk
  | .tapReset => true
  | .cvuStart c => chanOk c
  | .cvuFinish c => chanOk c
  | .cvuFold c _ => chanOk c
  | .cvuData8 c _ => chanOk c
  | .cvuData16 c _ => chanOk c
  | .cvuData32 c _ => chanOk c
  | .cvuPreset c w => chanOk c && regWrOk w 4
  | .cvuAlvTx c => chanOk c
  | .cvuAlvRx c _ => chanOk c
  | .openSlot slot _ => byteOk slot
  | .sealDiscard slot _ => byteOk slot
  | .sealRowLanded _ => true
  | .pcrDomreq _ w => regWrOk w 4
  | .domainRequestResume => true
  | .pcrPstateReq _ _ => true
  | .powerStateRequest _ => true
  | .p1Enter => true
  | .pciPowerState _ => true
  | .perstAssertInP3 => true
  | .perstDeassert => true
  | .configRequest _ => true
  | .refclkLoss which => clkOk which
  | .coldReset cause => coldOk cause
  | .bootStageComplete => true
  | .deviceCoreReset core => coreOk core
  | .quadrantReset q => quadOk q
  | .scrubLine k res => stackOk k && eccOk res
  | .scrubForcedSlot k _ => stackOk k
  | .telemetrySample _ => true
  | .tileProgressWatchdog t => tileOk t
  | .abseilDrainEnd => true
  | .abseilSampleDone => true
  | .abseilResetDone _ => true
  | .soloReplayEnd => true
  | .soloReplayLimit => true
  | .abseilAbandon => true
  | .jobWatchdog q => queueOk q
  | .linkTransactionTimeout tag => tagOk tag
  | .mcWatchdog => true
  | .mcWdogKick _ => true
  | .rcvExportGo => true
  | .stolegRead target frame => nodeOk target && canOk frame
  | .stolegWrite target frame => nodeOk target && canOk frame
  | .writeSeg target frame => nodeOk target && canOk frame
  | .segDown target frame => nodeOk target && canOk frame
  | .stolegAbort target frame => nodeOk target && canOk frame
  | .segmentTimeout => true
  | .identify target frame => nodeOk target && canOk frame
  | .stolegHeartbeatSend => true
  | .heartbeatReceive node => nodeOk node
  | .mbxGo w => regWrOk w 4
  | .writeChallenge => true
  | .fabricEpochWrite _ => true
  | .deviceAddressWrite _ => true
  | .loadedRoutingTable b => tableOk b
  | .resetRequest _ => true
  | .outOfServiceClear => true
  | .revokeSigningKey _ => true
  | .chassisKeyWrite _ => true
  | .confirmImage => true
  | .updateBegin => true
  | .updateFinish => true
  | .updateAbort => true
  | .updateData b => pageOk b
  | .restoreDefaults => true
  | .program _ src => fetchOk src
  | .erase4K _ src => fetchOk src
  | .erase64K _ src => fetchOk src
  | .flashRead _ src => fetchOk src
  | .blankCheck _ src => fetchOk src
  | .flashCommandDone _ => true
  | .capture => true
  | .rtcSet => true
  | .shift _ => true
  | .rtcTick => true
  | .setTime b => timeLenOk b
  | .subsecondShift _ => true
  | .currentTime => true
  | .mainPowerFail => true
  | .rtcUnlock => true
  | .pwrOkRise => true
  | .thermalTrip n _ => sensorOk n
  | .pmbusAlert _ _ => true
  | .trainingPatternsReceived p _ => portOk p
  | .ethLinkUp p => ethOk p
  | .dataLinkLayerUp link => [1, 2, 4, 8, 16].contains link.width
  | .hostCompletion _ => true
  | .hostSnoop _ => true
  | .busOff => true
  | .busOffRecovery => true
  | .vbatSupplyApplied => true
  | .vbatSupplyLoss => true

end Sys2Proof
end

