-- ==== Sys2Proof/Decode.lean ====
section
/-!
DEFINITION. The table of the block gives no row any bits: no word spells a command.
-/
namespace Sys2Proof

/-- The command that a word of the table's bits spells: none, since no row has bits. -/
def decodeTableWord (_nbits _w : Nat) : Option Instr := none

end Sys2Proof
end

