-- ==== Sys2Proof/Machine/Bits.lean ====
section
/-!
DEFINITION. Bit fields, byte order and the sparse tables every block of the model is built on.
-/
namespace Sys2Proof

/-- Bits [lo + n - 1 : lo] of a number (00 R8). -/
def bitsN (x lo n : Nat) : Nat := (x >>> lo) % 2 ^ n

/-- Bits [l + n - 1 : l] counted from byte `b` of a little-endian record (00 R8). -/
def fieldN (x b l n : Nat) : Nat := bitsN x (8 * b + l) n

/-- One bit of a number. -/
def bitN (x i : Nat) : Bool := Nat.testBit x i

/-- The number whose bits [lo + n - 1 : lo] are replaced by `v`. -/
def setBitsN (x lo n v : Nat) : Nat :=
  x - (bitsN x lo n) * 2 ^ lo + (v % 2 ^ n) * 2 ^ lo

/-- `n` bytes of a number, least significant first (00 R8). -/
def leBytes : Nat → Nat → Bytes
  | 0, _ => []
  | n + 1, x => BitVec.ofNat 8 x :: leBytes n (x / 256)

/-- The number a little-endian byte string holds (00 R8). -/
def ofLe : Bytes → Nat
  | [] => 0
  | b :: r => b.toNat + 256 * ofLe r

/-- The number a big-endian byte string holds (11 R305, R310). -/
def ofBe (b : Bytes) : Nat := ofLe b.reverse

/-- `n` bytes of a number, most significant first. -/
def beBytes (n x : Nat) : Bytes := (leBytes n x).reverse

/-- `n` bytes from offset `o`; missing bytes read 0x00. -/
def sliceB (b : Bytes) (o n : Nat) : Bytes :=
  let c := (b.drop o).take n
  c ++ List.replicate (n - c.length) 0

/-- Little-endian field of `n` bytes at offset `o` of a byte string. -/
def leAt (b : Bytes) (o n : Nat) : Nat := ofLe (sliceB b o n)

/-- Byte `o` of a byte string as a number. -/
def byteAt (b : Bytes) (o : Nat) : Nat := leAt b o 1

/-- Bits [l + n - 1 : l] counted from byte `o` of a byte string. -/
def bitsAt (b : Bytes) (o l n : Nat) : Nat := bitsN (leAt b o 8) l n

/-- Bytes of `b` from offset `o` replaced by `v` (within the length of `b`). -/
def putB (b : Bytes) (o : Nat) (v : Bytes) : Bytes :=
  (b.take o) ++ (v.take (b.length - o)) ++ b.drop (o + v.length)

/-- Two's-complement reading of the low `n` bits. -/
def sextN (x n : Nat) : Int :=
  let y := x % 2 ^ n
  if y ≥ 2 ^ (n - 1) then (y : Int) - 2 ^ n else y

/-- The `n`-bit two's-complement encoding of an integer. -/
def wrapZ (z : Int) (n : Nat) : Nat := (z % (2 ^ n : Int)).toNat

/-- Number of bits needed to write `x`, 0 for 0. -/
def bitLen (x : Nat) : Nat := if x = 0 then 0 else Nat.log2 x + 1

/-- Rounding up of a quotient. -/
def ceilDiv (a b : Nat) : Nat := (a + b - 1) / b

/-- Saturating addition at `2 ^ n - 1`. -/
def satAdd (n a b : Nat) : Nat := min (a + b) (2 ^ n - 1)

/-- A Boolean as one bit. -/
def b2n (b : Bool) : Nat := if b then 1 else 0

/-! ## Sparse tables -/

/-- The entry of key `k`, or the table's default `d`. -/
def tget {α : Type} (d : α) : Tab α → Nat → α
  | [], _ => d
  | (k', v) :: r, k => if k = k' then v else if k < k' then d else tget d r k

/-- The table with key `k` set to `v`, in canonical form for the default `d`. -/
def tput {α : Type} [DecidableEq α] (d : α) : Tab α → Nat → α → Tab α
  | [], k, v => if v = d then [] else [(k, v)]
  | (k', v') :: r, k, v =>
    if k < k' then (if v = d then (k', v') :: r else (k, v) :: (k', v') :: r)
    else if k = k' then (if v = d then r else (k, v) :: r)
    else (k', v') :: tput d r k v

/-- Keys strictly rise from above `lo`, and no entry equals `d`. -/
def tabWfFrom {α : Type} [DecidableEq α] (d : α) : Option Nat → Tab α → Bool
  | _, [] => true
  | lo, (k, v) :: r =>
    (match lo with
      | none => true
      | some l => decide (l < k)) && decide (v ≠ d) && tabWfFrom d (some k) r

/-- A table is canonical: keys strictly rising, no entry equal to the default. -/
def tabWf {α : Type} [DecidableEq α] (d : α) (t : Tab α) : Bool := tabWfFrom d none t

/-- Every entry changed by `f`, which gets the key; the table stays canonical for the default `d`. -/
def tmap {α : Type} [DecidableEq α] (d : α) (f : Nat → α → α) (t : Tab α) : Tab α :=
  (t.map (fun e => (e.1, f e.1 e.2))).filter (fun e => decide (e.2 ≠ d))

/-- The keys of the entries that satisfy `p`. -/
def tkeys {α : Type} (p : Nat → α → Bool) (t : Tab α) : List Nat :=
  (t.filter (fun e => p e.1 e.2)).map (·.1)

/-- `n` consecutive bytes of a memory with default byte `d`. -/
def memRead (d : Byte) (m : Tab Byte) (a : Nat) : Nat → Bytes
  | 0 => []
  | n + 1 => tget d m a :: memRead d m (a + 1) n

/-- The memory with the bytes `b` stored from address `a`. -/
def memWrite (d : Byte) (m : Tab Byte) (a : Nat) : Bytes → Tab Byte
  | [] => m
  | x :: r => memWrite d (tput d m a x) (a + 1) r

/-- The memory with `n` bytes from `a` set to the default. -/
def memClear (m : Tab Byte) (a n : Nat) : Tab Byte :=
  m.filter (fun e => decide (e.1 < a) || decide (a + n ≤ e.1))

/-- The list with element `i` replaced (unchanged when `i` is out of range). -/
def lset {α : Type} : List α → Nat → α → List α
  | [], _, _ => []
  | _ :: r, 0, v => v :: r
  | x :: r, i + 1, v => x :: lset r i v

/-- Element `i` of a list, or the default. -/
def lget {α : Type} (d : α) : List α → Nat → α
  | [], _ => d
  | x :: _, 0 => x
  | _ :: r, i + 1 => lget d r i

/-- The list without element `i`. -/
def ldel {α : Type} : List α → Nat → List α
  | [], _ => []
  | _ :: r, 0 => r
  | x :: r, i + 1 => x :: ldel r i

/-- `x` put before the first element that `le` does not place ahead of it. -/
def insertBy {α : Type} (le : α → α → Bool) (x : α) : List α → List α
  | [] => [x]
  | y :: r => if le x y then x :: y :: r else y :: insertBy le x r

/-- The list sorted by `le`; elements that `le` does not tell apart keep their order. -/
def sortBy {α : Type} (le : α → α → Bool) : List α → List α
  | [] => []
  | x :: r => insertBy le x (sortBy le r)

end Sys2Proof
end

