-- ==== Sys2Proof/Machine/Crc.lean ====
section
/-!
DEFINITION. The CRC parameter model of 12 R314, its presets (R315), and the linear shift of the Frame Seal (R325).
-/
namespace Sys2Proof

/-- The six CRC parameters of 12 R314. -/
structure CrcParams where
  width : Nat
  poly : Nat
  init : Nat
  refIn : Bool
  refOut : Bool
  xorOut : Nat
  deriving DecidableEq, Repr

/-- Bit reversal over the low `n` bits, into an accumulator. -/
def revBitsGo : Nat → Nat → Nat → Nat
  | 0, _, acc => acc
  | n + 1, x, acc => revBitsGo n (x / 2) (acc * 2 + x % 2)

/-- Bit reversal over `n` bits (R314, REFOUT). -/
def revBits (n x : Nat) : Nat := revBitsGo n x 0

/-- One bit of data entering the register of width `w` (R314). -/
def crcBit (w poly reg : Nat) (b : Nat) : Nat :=
  let top := reg / 2 ^ (w - 1) % 2
  let sh := reg * 2 % 2 ^ w
  if top = b then sh else sh ^^^ poly

/-- `n` bits of `x`, most significant first. -/
def crcBits (w poly : Nat) : Nat → Nat → Nat → Nat
  | 0, _, reg => reg
  | n + 1, x, reg => crcBits w poly n x (crcBit w poly reg (x / 2 ^ n % 2))

/-- One byte entering the register, most significant bit first, or least when REFIN is 1 (R314). -/
def crcByte (p : CrcParams) (reg : Nat) (b : Byte) : Nat :=
  let x := if p.refIn then revBits 8 b.toNat else b.toNat
  crcBits p.width (p.poly % 2 ^ p.width) 8 x reg

/-- The register after a byte string. -/
def crcFeed (p : CrcParams) (reg : Nat) (b : Bytes) : Nat := b.foldl (crcByte p) reg

/-- The register START loads (R314). -/
def crcStart (p : CrcParams) : Nat := p.init % 2 ^ p.width

/-- The result of the register: REFOUT, then XOROUT (R314). -/
def crcResult (p : CrcParams) (reg : Nat) : Nat :=
  (if p.refOut then revBits p.width reg else reg) ^^^ (p.xorOut % 2 ^ p.width)

/-- The CRC of a byte string. -/
def crcOf (p : CrcParams) (b : Bytes) : Nat := crcResult p (crcFeed p (crcStart p) b)

/-- Preset 1, CRC-32C (R315). -/
def crc32cP : CrcParams := ⟨32, 0x1EDC6F41, 0xFFFFFFFF, true, true, 0xFFFFFFFF⟩
/-- Preset 2, CRC-32 of IEEE 802.3 (R315). -/
def crc32P : CrcParams := ⟨32, 0x04C11DB7, 0xFFFFFFFF, true, true, 0xFFFFFFFF⟩
/-- Preset 3, CRC-16/CCITT-FALSE (R315). -/
def crc16P : CrcParams := ⟨16, 0x1021, 0xFFFF, false, false, 0⟩
/-- Preset 4, CRC-64/ECMA-182 (R315, 08 R195). -/
def crc64P : CrcParams := ⟨64, 0x42F0E1EBA9EA3693, 0, false, false, 0⟩

/-- The preset of a nonzero PRESET value (R315). -/
def crcPreset (n : Nat) : Option CrcParams :=
  if n = 1 then some crc32cP else if n = 2 then some crc32P
  else if n = 3 then some crc16P else if n = 4 then some crc64P else none

/-- CRC-32C of a byte string (R315). -/
def crc32c (b : Bytes) : Nat := crcOf crc32cP b

/-- CRC-64/ECMA-182 of a byte string (R315). -/
def crc64 (b : Bytes) : Nat := crcOf crc64P b

/-- One multiplication by x modulo the CRC-64 generator (R325). -/
def mulx1 (c : Nat) : Nat := crcBit 64 crc64P.poly c 0

/-- Product of two residues modulo the CRC-64 generator: bits of `b` from the top. -/
def gmul64 (a b : Nat) : Nat → Nat → Nat
  | 0, acc => acc
  | n + 1, acc => gmul64 a b n (mulx1 acc ^^^ (if Nat.testBit b n then a else 0))

/-- x^k modulo the CRC-64 generator, from the low `n` bits of `k` (square and multiply). -/
def xpow64 (k : Nat) : Nat → Nat → Nat
  | 0, acc => acc
  | n + 1, acc =>
    let sq := gmul64 acc acc 64 0
    xpow64 k n (if Nat.testBit k n then mulx1 sq else sq)

/-- mulx(c, k): c × x^k reduced modulo the generator (R325). -/
def mulx (c k : Nat) : Nat := gmul64 c (xpow64 k (bitLen k) 1) 64 0

end Sys2Proof
end

