-- ==== Sys2Proof/Config.lean ====
section
/-!
DEFINITION. What an implementation fixes and what the manual leaves open. A free value is an opaque constant applied to
a counter of State that each draw advances (log 7): nothing in Lean can evaluate it.
-/
namespace Sys2Proof

/-- DRBG output for keys, nonces and challenges (11 R286): draw `n`. -/
opaque Config.random : Nat → BitVec 256

/-- The identity scalar made from KDF(K_root, "KG9-ID", empty): how 256 bits give the bits that FIPS 186-5 A.2.2 takes is not said
(11 R290; log 47). -/
opaque Config.idScalar : BitVec 256 → Nat

/-- The 256-bit pair secret of a shared P-384 x coordinate: how it is taken from it is not said (11 R290, R300; log 47). -/
opaque Config.pairSecret : Nat → BitVec 256

/-- The doorbell cookie of a Q_CREATE (05 R119): draw `n`. -/
opaque Config.cookie : Nat → BitVec 32

/-- The TAG of an R_Key (07 R175): draw `n`. -/
opaque Config.rkeyTag : Nat → BitVec 16

/-- A byte of host memory, at draw `n` and bus address `a`, that the command reading it does not carry (log 6). -/
opaque Config.hostByte : Nat → Nat → Byte

/-- A byte the manual leaves undefined, at draw `n` and address `a` (03 R78, 16 R405). -/
opaque Config.openByte : Nat → Nat → Byte

/-- A value the manual leaves undefined, at draw `n`. -/
opaque Config.openVal : Nat → Nat

/-- N, CLASS and ANCHOR of a failed lane (02 R35), at draw `n`, for lane `l`. -/
opaque Config.openLane : Nat → Nat → Nat

/-- The value of a vector function whose enclosures do not settle it (log 16); the key names the operands. -/
opaque Config.vecOpen : Nat → Nat

/-- The ns that verifying the MAC of a dictionary write takes, at draw `n` (15 R383: no time is given; log 13). -/
opaque Config.macTime : Nat → Nat

/-- The ns that verifying an image takes, at draw `n` (16 R413: no time is given; log 58). -/
opaque Config.verifyTime : Nat → Nat

/-- Page-table pages an implementation needs for a context's objects, by draw (05 R117: the format is not visible; log 12). -/
opaque Config.ptNeed : Nat → Nat

/-- The DETAIL value of each cause for which a queue pair enters ERROR (07 R174: no encoding is given; log 20). -/
opaque Config.qpCause : Nat → Nat

/-- What a firmware image, named by its BODY_DIGEST, declares: its Schema Version, the lowest schema it reads, its Firmware
Version (16 R423, 15 R400: their place in the image is not given; log 33). -/
opaque Config.imageSchema : Nat → Nat
opaque Config.imageSchemaLo : Nat → Nat
opaque Config.imageVersion : Nat → BitVec 32

end Sys2Proof
end

