-- ==== Sys2Proof/Machine/Fp.lean ====
section
/-!
DEFINITION. The floating-point formats of 02 R29, exact dyadic values, and the one rounding of R44, R45 and R49.
-/
namespace Sys2Proof

/-- A binary format: exponent and fraction widths (R29). -/
structure FpFmt where
  ebits : Nat
  mbits : Nat
  deriving DecidableEq, Repr

/-- IEEE 754 binary16 (R29). -/
def fp16 : FpFmt := ⟨5, 10⟩
/-- BF16 (R29). -/
def bf16 : FpFmt := ⟨8, 7⟩
/-- IEEE 754 binary32 (R29). -/
def fp32 : FpFmt := ⟨8, 23⟩

/-- Bytes of an element. -/
def FpFmt.size (f : FpFmt) : Nat := (1 + f.ebits + f.mbits) / 8
/-- The exponent bias (R29). -/
def FpFmt.bias (f : FpFmt) : Int := 2 ^ (f.ebits - 1) - 1
/-- The exponent of the smallest normal value. -/
def FpFmt.emin (f : FpFmt) : Int := 1 - f.bias
/-- The encoding of +infinity. -/
def FpFmt.infEnc (f : FpFmt) : Nat := (2 ^ f.ebits - 1) * 2 ^ f.mbits
/-- The canonical NaN (R47): quiet, positive, no payload. -/
def FpFmt.nanEnc (f : FpFmt) : Nat := f.infEnc + 2 ^ (f.mbits - 1)
/-- The sign bit's weight. -/
def FpFmt.signW (f : FpFmt) : Nat := 2 ^ (f.ebits + f.mbits)

/-- A value: not a number, an infinity, or exactly (-1)^neg × m × 2^e. -/
inductive FpVal where
  | nan
  | inf (neg : Bool)
  | fin (neg : Bool) (m : Nat) (e : Int)
  deriving DecidableEq, Repr

/-- The value an encoding stands for; subnormals at their exact value (R30). -/
def fpDec (f : FpFmt) (x : Nat) : FpVal :=
  let neg := Nat.testBit x (f.ebits + f.mbits)
  let ex := bitsN x f.mbits f.ebits
  let fr := bitsN x 0 f.mbits
  if ex = 2 ^ f.ebits - 1 then (if fr = 0 then .inf neg else .nan)
  else if ex = 0 then .fin neg fr (f.emin - f.mbits)
  else .fin neg (fr + 2 ^ f.mbits) ((ex : Int) - f.bias - f.mbits)

/-- `m × 2^e` divided by `2^q`, rounded to an integer: to nearest with ties to even, or toward zero when `rtz`. -/
def roundShift (rtz : Bool) (m : Nat) (e q : Int) : Nat :=
  if q ≤ e then m * 2 ^ (e - q).toNat
  else
    let sh := (q - e).toNat
    -- beyond this shift every bit of m lies below half a unit
    if sh > bitLen m + 1 then 0
    else
      let s := m / 2 ^ sh
      let r := m % 2 ^ sh
      if rtz then s
      else if 2 * r > 2 ^ sh || (2 * r = 2 ^ sh && s % 2 = 1) then s + 1 else s

/-- An encoding and whether the rounded value overflowed (R45). -/
structure Rounded where
  enc : Nat
  ovf : Bool
  deriving DecidableEq, Repr

/-- (-1)^neg × m × 2^e rounded once to a format (R44, R45, R49); a zero keeps its sign. -/
def fpRound (f : FpFmt) (rtz neg : Bool) (m : Nat) (e : Int) : Rounded :=
  let sg := if neg then f.signW else 0
  if m = 0 then ⟨sg, false⟩
  else
    let top : Int := bitLen m - 1 + e
    let ex := max top f.emin
    let sig := roundShift rtz m e (ex - f.mbits)
    -- beyond the format by more than one binade the encoding need not be formed
    if top > f.bias + 1 then ⟨sg + (if rtz then f.infEnc - 1 else f.infEnc), true⟩
    else
      let enc := (ex - f.emin).toNat * 2 ^ f.mbits + sig
      if enc ≥ f.infEnc then ⟨sg + (if rtz then f.infEnc - 1 else f.infEnc), true⟩
      else ⟨sg + enc, false⟩

/-- A value rounded to a format; NaNs become the canonical NaN (R51). -/
def fpEnc (f : FpFmt) (rtz : Bool) : FpVal → Nat
  | .nan => f.nanEnc
  | .inf neg => (if neg then f.signW else 0) + f.infEnc
  | .fin neg m e => (fpRound f rtz neg m e).enc

/-- The integer a finite value is at exponent `q ≤ e`. -/
def fpInt (neg : Bool) (m : Nat) (e q : Int) : Int :=
  let v : Int := m * 2 ^ (e - q).toNat
  if neg then -v else v

/-- A dyadic integer `z × 2^q` as a value; an exact zero takes the sign `zneg`. -/
def fpOfInt (z q : Int) (zneg : Bool) : FpVal :=
  if z = 0 then .fin zneg 0 q else .fin (decide (z < 0)) z.natAbs q

/-- Negation. -/
def fpNeg : FpVal → FpVal
  | .nan => .nan
  | .inf s => .inf (!s)
  | .fin s m e => .fin (!s) m e

/-- Exact sum; an exact zero sum of opposite signs is +0 (IEEE 754 for RNE and RTZ). -/
def fpAdd : FpVal → FpVal → FpVal
  | .nan, _ => .nan
  | _, .nan => .nan
  | .inf a, .inf b => if a = b then .inf a else .nan
  | .inf a, _ => .inf a
  | _, .inf b => .inf b
  | .fin sa ma ea, .fin sb mb eb =>
    let q := min ea eb
    fpOfInt (fpInt sa ma ea q + fpInt sb mb eb q) q (sa && sb && decide (ma = 0) && decide (mb = 0))

/-- Exact product. -/
def fpMul : FpVal → FpVal → FpVal
  | .nan, _ => .nan
  | _, .nan => .nan
  | .inf a, .inf b => .inf (a != b)
  | .inf a, .fin b m _ => if m = 0 then .nan else .inf (a != b)
  | .fin a m _, .inf b => if m = 0 then .nan else .inf (a != b)
  | .fin sa ma ea, .fin sb mb eb => .fin (sa != sb) (ma * mb) (ea + eb)

/-- Order of two values that are not NaN: −0 lies below +0 (03 R76). -/
def fpLt : FpVal → FpVal → Bool
  | .nan, _ => false
  | _, .nan => false
  | .inf a, .inf b => a && !b
  | .inf a, .fin _ _ _ => a
  | .fin _ _ _, .inf b => !b
  | .fin sa ma ea, .fin sb mb eb =>
    let q := min ea eb
    let x := fpInt sa ma ea q
    let y := fpInt sb mb eb q
    if x = y then sa && !sb else decide (x < y)

/-- MIN (R76). -/
def fpMin (a b : FpVal) : FpVal :=
  if a = .nan || b = .nan then .nan else if fpLt b a then b else a

/-- MAX (R76). -/
def fpMax (a b : FpVal) : FpVal :=
  if a = .nan || b = .nan then .nan else if fpLt a b then b else a

/-- A value is an infinity or a NaN. -/
def fpNonFinite : FpVal → Bool
  | .fin _ _ _ => false
  | _ => true

end Sys2Proof
end

