-- ==== Sys2Proof/Machine/Exa.lean ====
section
/-!
DEFINITION. The EXA lane (02 R32 to R48): its image, the product test, the one partial-sum addition, and the readout.
-/
namespace Sys2Proof

/-- An EXA lane (R34). -/
structure Lane where
  n : BitVec 256
  lossCnt : BitVec 32
  cnt : BitVec 25
  loss : Bool
  ovf : Bool
  nonfin : Bool
  mism : Bool
  cls : BitVec 2
  anchor : BitVec 10
  deriving DecidableEq, Repr

/-- A cleared lane has every field 0 (R35). -/
def Lane.clear : Lane := ⟨0, 0, 0, false, false, false, false, 0, 0⟩

/-- The lane is empty by the first test of R39. -/
def Lane.isEmpty (a : Lane) : Bool :=
  a.cnt == 0 && !a.loss && !a.ovf && !a.nonfin && !a.mism

/-- The lane is failed, in a context of the given mode (R35). -/
def Lane.failed (archive : Bool) (a : Lane) : Bool :=
  a.ovf || a.nonfin || a.mism || (a.loss && archive)

/-- The second image word: CNT, the flags and CLASS (R34). -/
def Lane.word (a : Lane) : Nat :=
  a.cnt.toNat + 2 ^ 25 * b2n a.loss + 2 ^ 26 * b2n a.ovf + 2 ^ 27 * b2n a.nonfin + 2 ^ 28 * b2n a.mism +
    2 ^ 29 * a.cls.toNat

/-- The 48-byte lane image (R34). -/
def Lane.image (a : Lane) : Bytes :=
  leBytes 32 a.n.toNat ++ leBytes 4 a.lossCnt.toNat ++ leBytes 4 a.word ++ leBytes 2 a.anchor.toNat ++ leBytes 6 0

/-- The lane a 48-byte image holds (R34). -/
def Lane.ofImage (b : Bytes) : Lane :=
  let w := leAt b 36 4
  { n := BitVec.ofNat 256 (leAt b 0 32), lossCnt := BitVec.ofNat 32 (leAt b 32 4), cnt := BitVec.ofNat 25 w,
    loss := bitN w 25, ovf := bitN w 26, nonfin := bitN w 27, mism := bitN w 28,
    cls := BitVec.ofNat 2 (bitsN w 29 2), anchor := BitVec.ofNat 10 (leAt b 40 2) }

/-- The weight W of bit 0 (R32). -/
def Lane.weight (a : Lane) : Int :=
  if a.cls = 0 then 0 else if a.cls = 1 then -48 else sextN a.anchor.toNat 10

/-- Adding the lane image `b` into the lane `a` (R39, R33, R41). -/
def addLane (a b : Lane) : Lane :=
  let empty := a.isEmpty
  let clash := !empty && decide (b.cnt ≠ 0) && (decide (b.cls ≠ a.cls) || decide (b.anchor ≠ a.anchor))
  let cnt := min (a.cnt.toNat + b.cnt.toNat) (2 ^ 25 - 1)
  { n := a.n + b.n
    cnt := BitVec.ofNat 25 cnt
    lossCnt := BitVec.ofNat 32 (satAdd 32 a.lossCnt.toNat b.lossCnt.toNat)
    loss := a.loss || b.loss
    ovf := a.ovf || b.ovf || decide (cnt > 2 ^ 24)
    nonfin := a.nonfin || b.nonfin
    mism := a.mism || b.mism || clash
    cls := if empty then b.cls else a.cls
    anchor := if empty then b.anchor else a.anchor }

/-- The lane with its undefined fields made free when it is failed (R35); `d` is the draw and `l` the lane's number (log 7).
N is free in every failed lane. CLASS and ANCHOR are free once MISM is 1; before that every contribution had one class and one
anchor, and the lane keeps them, for the MISM of a later addition says whether contributions of different class or anchor met,
whatever their order (R34, R39, R103; log 68). No lane holds class 0b11 (R244). -/
def Lane.open (archive : Bool) (d l : Nat) (a : Lane) : Lane :=
  if a.failed archive then
    let x := Config.openLane d l
    let c := x / 2 ^ 256 % 3
    let a := { a with n := BitVec.ofNat 256 x }
    if a.mism then { a with cls := BitVec.ofNat 2 c, anchor := if c = 2 then BitVec.ofNat 10 (x / 2 ^ 260) else 0 } else a
  else a

/-- The product test and addition of R36 and R37 on the image of a MATMUL's own products: p = (-1)^neg × m × 2^e. -/
def addProduct (a : Lane) (neg : Bool) (m : Nat) (e : Int) : Lane :=
  let w := a.weight
  let cnt := min (a.cnt.toNat + 1) (2 ^ 25 - 1)
  let a := { a with cnt := BitVec.ofNat 25 cnt, ovf := a.ovf || decide (cnt > 2 ^ 24) }
  if decide (m ≠ 0) && decide ((bitLen m : Int) - 1 + e ≥ w + 231) then { a with ovf := true }
  else
    let sh := (w - e).toNat
    let lost := decide (e < w) && decide (m % 2 ^ sh ≠ 0)
    let k : Nat := if e < w then m / 2 ^ sh else m * 2 ^ (e - w).toNat
    { a with
      n := if neg then a.n - BitVec.ofNat 256 k else a.n + BitVec.ofNat 256 k
      lossCnt := if lost then BitVec.ofNat 32 (satAdd 32 a.lossCnt.toNat 1) else a.lossCnt
      loss := a.loss || lost }

/-- The statuses a failed lane gives (R42); the values are those of 05 R137. -/
def stExaWindow : Nat := 0x0201
def stExaNonfinite : Nat := 0x0202
def stExaMismatch : Nat := 0x0203

/-- The status of a lane, 0 where it is not failed (R42: the first that applies). -/
def Lane.status (archive : Bool) (a : Lane) : Nat :=
  if a.ovf || (a.loss && archive) then stExaWindow
  else if a.nonfin then stExaNonfinite
  else if a.mism then stExaMismatch else 0

/-- The status over lanes (R42: numerically lowest) and the lowest-numbered lane whose flags give it (R43). -/
def lanesStatus (archive : Bool) : List (Nat × Lane) → Nat × Nat
  | [] => (0, 0)
  | (l, a) :: r =>
    let here := a.status archive
    let rest := lanesStatus archive r
    if here = 0 then rest
    else if rest.1 = 0 ∨ here < rest.1 ∨ (here = rest.1 ∧ l < rest.2) then (here, l) else rest

/-- The lowest-numbered lane whose flags give a status, 0 where none does (R43); the lanes stand in ascending order. -/
def laneGiving (archive : Bool) (st : Nat) (l : List (Nat × Lane)) : Nat :=
  ((l.find? (fun x => decide (x.2.status archive = st))).map (·.1)).getD 0

/-- The code is one that failed lanes give (R42). -/
def isExaStatus (st : Nat) : Bool := decide (st = stExaWindow) || decide (st = stExaNonfinite) || decide (st = stExaMismatch)

/-- The first status in the order of R42, and the lowest lane that gives it (R43), of two findings. -/
def joinExa (a : Option (Nat × Nat)) (b : Nat × Nat) : Option (Nat × Nat) :=
  match a with
  | none => some b
  | some x => if b.1 < x.1 ∨ (b.1 = x.1 ∧ b.2 < x.2) then some b else some x

/-- Output formats of EXA-READ (R44, 03 R73). -/
inductive OutFmt where
  | f16 | b16 | f32 | i32
  deriving DecidableEq, Repr

/-- Bytes of an output element. -/
def OutFmt.size : OutFmt → Nat
  | .f16 => 2
  | .b16 => 2
  | .f32 => 4
  | .i32 => 4

/-- The floating-point format of an output format; INT32 has none. -/
def OutFmt.fp : OutFmt → Option FpFmt
  | .f16 => some fp16
  | .b16 => some bf16
  | .f32 => some fp32
  | .i32 => none

/-- The element a failed lane reads as (R47). -/
def OutFmt.nan : OutFmt → Nat
  | .f16 => 0x7E00
  | .b16 => 0x7FC0
  | .f32 => 0x7FC00000
  | .i32 => 0x80000000

/-- Readout of a lane that is not failed (R44, R45): the element and whether it overflowed or saturated. -/
def laneRead (f : OutFmt) (rtz : Bool) (shift : Nat) (a : Lane) : Rounded :=
  let z := a.n.toInt
  match f.fp with
  | some fm => if z = 0 then ⟨0, false⟩ else fpRound fm rtz (decide (z < 0)) z.natAbs a.weight
  | none =>
    let q := roundShift rtz z.natAbs (a.weight - shift) 0
    let v : Int := if z < 0 then -(q : Int) else q
    let c := max (-(2 ^ 31 : Int)) (min v (2 ^ 31 - 1))
    ⟨wrapZ c 32, decide (c ≠ v)⟩

end Sys2Proof
end

