-- ==== Sys2Proof/Machine/State.lean ====
section
/-!
DEFINITION. The state of the device as plain data, and the state right after reset.
-/
namespace Sys2Proof.Machine

/-- Why a step stops with a fault. There is no such reason: the device goes on after every command, and what the manual leaves
undefined is a free value or a free choice of what happens. -/
inductive Fault
  deriving DecidableEq, Repr

/-- Why a step is refused. -/
inductive Refusal where
  /-- The command has no meaning in the model. No arm of exec raises it: every command has its meaning. Safe. -/
  | notModelled (mnemonic : String)
  deriving DecidableEq, Repr

/-! ## Error records (05 R133 to R137) -/

/-- An error record raised and not yet accepted (R136); `job` is the queue whose job it belongs to (R127). -/
structure ErrRec where
  code : Nat
  src : Nat := 0
  ctx : Option Nat := none
  unit : Nat := 0
  jobId : Nat := 0
  dtag : Nat := 0
  lane : Nat := 0
  offset : Nat := 0
  count : Nat := 0
  addr : Nat := 0
  detail : Nat := 0
  job : Option Nat := none
  deriving DecidableEq, Repr

/-- A line of the error queue being written (R134): the host request that carries it, the queue of its job, its landing. -/
structure ErqLine where
  id : Nat
  job : Option Nat := none
  landed : Bool := false
  deriving DecidableEq, Repr

/-- The error queue (05 R133 to R135). -/
structure Erq where
  base : BitVec 52 := 0
  en : Bool := false
  irqEn : Bool := false
  cfgErr : Bool := false
  vector : BitVec 11 := 0
  tail : BitVec 12 := 0
  phase : Bool := true
  head : BitVec 12 := 0
  drops : BitVec 32 := 0
  time : BitVec 64 := 0
  seq : BitVec 64 := 1
  /-- records raised and not yet accepted -/
  incoming : List ErrRec := []
  /-- lines written that TAIL has not passed, in ring order -/
  lines : List ErqLine := []
  /-- TIME of the last acceptance: one record per HOST cycle -/
  lastAcc : Option (BitVec 64) := none
  /-- the run of pending drops: how many, SEQ of the first, TIME of the last (R134) -/
  dropN : Nat := 0
  dropSeq : BitVec 64 := 0
  dropTime : BitVec 64 := 0
  deriving DecidableEq, Repr

/-! ## Shared objects (05) -/

/-- States of a context (R111). -/
inductive CtxSt where
  | free | live | aborted | retiring
  deriving DecidableEq, Repr

/-- A context (R109 to R114). -/
structure Ctx where
  st : CtxSt := .free
  preview : Bool := false
  jobWd : BitVec 32 := 0
  ptBase : Nat := 0
  ptPages : Nat := 0
  jk : List Nat := []
  jkv : BitVec 8 := 0
  tagq : BitVec 17 := 0
  keyLost : Bool := false
  /-- ORIGIN of its key (11 R291), and whether it has claimed a region (06 R167) -/
  origin : Nat := 0
  claimed : Bool := false
  /-- the descriptor as created (10 R278) -/
  desc : Bytes := []
  deriving DecidableEq, Repr

/-- States of a queue (R119). -/
inductive QSt where
  | free | running | stopped | retiring
  deriving DecidableEq, Repr

/-- A Job Launch Table entry (R124). -/
structure Jlt where
  tile : Nat
  start : Nat
  caVa : Nat
  bodyVa : Nat
  bodyOff : Nat
  bodyLen : Nat
  deriving DecidableEq, Repr

/-- Something a landing waits for: a write on host memory, a mirror acknowledgement (10 R276), a sealed row (12 R324), or
the sending of a REDUCE-DONE (R82). -/
inductive Await where
  | host (id : Nat)
  | mir (ref : Nat)
  | row (n : Nat)
  | sent (txn : Nat)
  deriving DecidableEq, Repr

/-- Where a job stands in R125. -/
inductive JobPh where
  | waiting            -- step 3: quadrants not acquired
  | scrubbing (todo : List Nat)   -- step 4: quadrants still to be scrubbed, ascending
  | running            -- step 6
  | ended              -- step 7: the completion entry is due
  deriving DecidableEq, Repr

/-- The job of a queue (R123 to R127). -/
structure Job where
  entry : Bytes
  accSeq : Nat
  ph : JobPh
  jlt : List Jlt := []
  /-- ns waited for quadrants (R125 step 3), ns run since T_START (R355) -/
  waited : Nat := 0
  ran : Nat := 0
  /-- device time when its tiles started -/
  tStart : Option Nat := none
  /-- a status given by the checks, an abort or an Abseil, in place of R126 -/
  status : Option Nat := none
  firstErr : Option (BitVec 64) := none
  /-- the first tag wait of the job has been recorded (09 R230) -/
  tagWait : Bool := false
  replay : Bool := false
  /-- landings of its stopped tiles that its completion waits for (R127) -/
  owes : List Await := []
  /-- counts gathered when the job ended (R126) -/
  loss : Nat := 0
  rovf : Nat := 0
  rsat : Nat := 0
  /-- tiles that reported a failure: tile, status, DTAG -/
  reps : List (Nat × Nat × Nat) := []
  deriving DecidableEq, Repr

/-- A submission queue with its completion queue (R119 to R122). -/
structure Queue where
  st : QSt := .free
  /-- a Q_STOP waits for the running job (R108) -/
  stopping : Bool := false
  ctx : Nat := 0
  prio : Nat := 0
  vec : BitVec 11 := 0
  vecEn : Bool := false
  sqLog : Nat := 0
  cqLog : Nat := 0
  sqBase : Nat := 0
  cqBase : Nat := 0
  cookie : BitVec 32 := 0
  head : Nat := 0
  tail : Nat := 0
  cqHead : Nat := 0
  cqIdx : Nat := 0
  cqPhase : Bool := true
  job : Option Job := none
  /-- completion entries written and not yet landed (R113 step 2) -/
  landing : Nat := 0
  deriving DecidableEq, Repr

/-- States of a memory object. -/
inductive MoSt where
  | free | live | frozen
  deriving DecidableEq, Repr

/-- A memory object (R115, R116); class U is 0 and class M is 1. -/
structure MemObj where
  st : MoSt := .free
  ctx : Nat := 0
  cls : BitVec 2 := 0
  host : Bool := false
  write : Bool := false
  netw : Bool := false
  depo : Bool := false
  biv : Bool := false
  bivReg : Nat := 0
  va : Nat := 0
  pa : Nat := 0
  size : Nat := 0
  /-- page-table pages it added to its context's pool (R117, log 12) -/
  pt : Nat := 0
  /-- the TAG of its R_Key while it is registered (07 R175) -/
  rkey : Option (BitVec 16) := none
  deriving DecidableEq, Repr

/-- An event (R128 to R131). -/
structure Event where
  live : Bool := false
  ctx : Nat := 0
  vec : BitVec 11 := 0
  vecEn : Bool := false
  cnt : BitVec 64 := 0
  thresh : BitVec 64 := 0
  recAddr : BitVec 64 := 0
  armed : Bool := false
  nrec : BitVec 32 := 0
  deriving DecidableEq, Repr

/-- The object command registers and the objects (R106 to R132). -/
structure Obj where
  stage : BitVec 512 := 0
  busy : Bool := false
  done : Bool := false
  overrun : Bool := false
  code : BitVec 16 := 0
  result : BitVec 512 := 0
  /-- the value written to OBJ_CMD for the running command -/
  cmd : BitVec 64 := 0
  /-- MSI-X vector of the running command (R106) -/
  irqVec : Option (BitVec 11) := none
  /-- the context that a running CTX_DESTROY retires (R113) -/
  destroying : Option Nat := none
  ctx : Tab Ctx := []
  q : Tab Queue := []
  mo : Tab MemObj := []
  ev : Tab Event := []
  /-- acceptance order of jobs (R125 step 3) -/
  jobSeq : Nat := 0
  /-- every cookie a Q_CREATE has returned, with its queue: none is returned twice (R121) -/
  cookies : List (Nat × BitVec 32) := []
  deriving DecidableEq, Repr

/-- A quadrant: its owner, the queue whose job has acquired it, and an owner-change scrub pending (05 R125). -/
structure Quad where
  owner : Option Nat := none
  holder : Option Nat := none
  /-- `now` when the holder acquired it -/
  since : Nat := 0
  deriving DecidableEq, Repr

/-! ## Tiles (03) -/

/-- Where a window slot stands (14 R368). -/
inductive SlotSt where
  | empty | waiting | executing | signalling
  deriving DecidableEq, Repr

/-- A slot of the operation window (R65 to R67). -/
structure Slot where
  st : SlotSt := .empty
  off : Nat := 0
  desc : Bytes := []
  /-- place in list order -/
  order : Nat := 0
  /-- the execution row of the descriptor has run -/
  begun : Bool := false
  /-- status of the first failure met (R463) -/
  status : Nat := 0
  /-- what its completion waits for besides transactions (R67) -/
  waits : List Await := []
  /-- transactions outstanding (R80) -/
  txns : List Nat := []
  /-- REDUCE contributor: the status received (R82) -/
  redDone : Option Nat := none
  /-- WAIT-EVENT: the threshold has been met (R130), or the event is not, or no longer, the context's -/
  hit : Option Nat := none
  /-- HALT with CHAIN: the event's value at issue (R68, 05 R130), none where the context does not own it -/
  chain : Option Nat := none
  /-- SEND with EXAADD: status and lane of the failed lane images so far (02 R42, R43) -/
  exaFail : Option (Nat × Nat) := none
  /-- MATMUL: window-loss increments it made, and its sticky flag (02 R38) -/
  loss : Nat := 0
  lossy : Bool := false
  /-- sealed MOVE: seal slot and opening of each row (12 R324) -/
  binds : List (Nat × Nat) := []
  /-- SIGs still to be sent, ascending -/
  sigs : List Nat := []
  deriving DecidableEq, Repr

/-- A REDUCE group at the root tile (R82): contributors and segments counted. -/
structure RedGroup where
  group : Nat
  /-- (source device, source context, source tile, KSLOT, segments added) of each contribution begun -/
  contribs : List (Nat × Nat × Nat × Nat × Nat) := []
  /-- contributions complete -/
  complete : Nat := 0
  deriving DecidableEq, Repr

/-- A tile's part of a job. -/
inductive PartSt where
  | idle | running | stopped | ended
  deriving DecidableEq, Repr

/-- A tile (03; progress timer 14 R354). -/
structure Tile where
  part : PartSt := .idle
  queue : Nat := 0
  fetch : Nat := 0
  /-- the value of LIST[j] when it breaks R65 -/
  fetchBad : Option Nat := none
  /-- a HALT has been admitted (R65) -/
  halted : Bool := false
  /-- admission stopped by a decode failure, and for how many ns (R85) -/
  decFail : Option Nat := none
  /-- admission stopped by an expiry waiting for the running Abseil (14 R363) -/
  held : Bool := false
  win : Tab Slot := []
  outb : List Nat := []
  inb : List Nat := []
  tok : List Nat := []
  cred : List Nat := []
  groups : List RedGroup := []
  mem : Tab Byte := []
  exa : Tab Lane := []
  orderNext : Nat := 0
  /-- the earliest failing descriptor: list order, status, DTAG (R86) -/
  fail : Option (Nat × Nat × Nat) := none
  loss : Nat := 0
  /-- a MATMUL of the part has reported window loss: sticky (02 R38) -/
  lossy : Bool := false
  rovf : Nat := 0
  rsat : Nat := 0
  /-- ns of the progress timer (14 R354) -/
  prog : Nat := 0
  deriving DecidableEq, Repr

/-- A token or credit flit in flight on VC2 (R88, R91). -/
structure Flit where
  credit : Bool
  src : Nat
  entry : Nat
  dst : Nat
  /-- inbound channel of a token flit, outbound entry of a credit flit -/
  chan : Nat
  count : Nat
  /-- context of the sender (R89) -/
  ctx : Nat
  deriving DecidableEq, Repr

/-! ## Transactions (09) -/

/-- Who issued a transaction. -/
inductive TxnSrc where
  | tile (t slot order : Nat)
  | ntx
  /-- REDUCE-DONE of the root REDUCE in a slot -/
  | root (t slot order : Nat)
  deriving DecidableEq, Repr

/-- The transaction header (R227); `w24` holds bytes 24 to 27, whose meaning the type selects. -/
structure Hdr where
  ttype : Nat := 0
  aop : Nat := 0
  coding : Nat := 0
  order : Nat := 0
  pull : Bool := false
  last : Bool := false
  dstDev : Nat := 0
  srcDev : Nat := 0
  dstCtx : Nat := 0
  srcCtx : Nat := 0
  kslot : Nat := 0
  srcTile : Nat := 0
  tag : Nat := 0
  dlen : Nat := 0
  elen : Nat := 0
  va : Nat := 0
  w24 : Nat := 0
  status : Nat := 0
  lanes : Nat := 0
  ctr : Nat := 0
  deriving DecidableEq, Repr

/-- A request segment to be sent (R226, R227): header fields and the coded payload. -/
structure Seg where
  idx : Nat
  hdr : Hdr
  data : Bytes
  /-- where returned data lands: scratchpad offset of a tile, or VA of the NTX context -/
  land : Nat
  deriving DecidableEq, Repr

/-- A transaction in progress (R224). -/
structure Txn where
  ctx : Nat
  src : TxnSrc
  dev : Nat
  /-- looped back inside the engine (R235) -/
  loop : Bool
  jobId : Nat := 0
  dtag : Nat := 0
  queue : Option Nat := none
  /-- an NTX tag wait has been recorded (R230) -/
  waited : Bool := false
  unsent : List Seg := []
  /-- at most this many segments outstanding (R225) -/
  window : Nat := 64
  out : Nat := 0
  /-- lowest-numbered failed segment and its status (R224) -/
  fail : Option (Nat × Nat) := none
  /-- EXA-ADD: the status its images gave and the lowest lane that gives it (02 R43) -/
  exaFail : Option (Nat × Nat) := none
  deriving DecidableEq, Repr

/-- An outstanding tag (R229, 14 R356): its transaction, its segment, the port it left by, and its timer. -/
structure Tag where
  txn : Nat
  seg : Seg
  /-- first-hop port, none for loopback -/
  port : Option Nat
  run : Nat := 0
  frozen : Nat := 0
  deriving DecidableEq, Repr

/-- An aggregation window: key, `now` at its record, and what was counted since (R236, R357, R464, 10 R272). -/
structure Agg where
  kind : Nat
  key : Nat
  since : Nat
  count : Nat := 0
  /-- JOB_ID and DTAG of the first occurrence counted (14 R357) -/
  jobId : Nat := 0
  dtag : Nat := 0
  deriving DecidableEq, Repr

/-- A landed request whose mirrored bytes are not acknowledged (10 R276): what it waits for, its stream, its response. -/
structure TxnLand where
  refs : List Nat
  stream : Nat × Nat × Nat
  resp : Hdr
  arrival : Option Nat
  deriving DecidableEq, Repr

/-- The host transaction registers (R254). -/
structure Ntx where
  ctl : BitVec 64 := 0x00000000FF000000
  va : BitVec 48 := 0
  rva : BitVec 48 := 0
  busy : Bool := false
  done : Bool := false
  code : BitVec 16 := 0
  opnd : BitVec 128 := 0
  data : Bytes := List.replicate 256 0
  /-- mirror acknowledgements the landing at RVA waits for, and the status then -/
  waits : List Nat := []
  deriving DecidableEq, Repr

/-- The transaction engine (09). -/
structure TxnEng where
  txns : Tab (Option Txn) := []
  next : Nat := 0
  tags : Tab (Option Tag) := []
  /-- tags held out of use: `now` plus 1 when each transaction ended (R231) -/
  quar : Tab Nat := []
  loopQ : List Bytes := []
  loopA : List Bytes := []
  agg : List Agg := []
  /-- destinations to which requests are held back while a route changes (R233) -/
  hold : Tab Bool := []
  /-- landed request segments whose mirrored bytes await acknowledgement: the stream and the response due -/
  lands : List TxnLand := []
  ntx : Ntx := {}
  deriving DecidableEq, Repr

/-! ## Recovery (14) -/

/-- A suspect of an Abseil (14 R370). -/
structure Suspect where
  ctx : Nat
  queue : Nat
  /-- acceptance number of its job -/
  acc : Nat
  outcome : Nat := 0
  settled : Bool := false
  deriving DecidableEq, Repr

/-- The recovery engine (14). -/
structure Rcv where
  step : Nat := 0
  scope : BitVec 4 := 0
  rctx : Option Nat := none
  /-- `now` at step 1, and when step 5 began (R364) -/
  since : Nat := 0
  stepAt : Nat := 0
  trigger : Nat := 0
  firstTile : Nat := 0
  time : Nat := 0
  ended : Nat := 0
  expired : List Nat := []
  suspects : List Suspect := []
  /-- the queue whose job watchdog started the sequence (R355), and the ERR_TILE_WATCHDOG records due in step 4 -/
  jobTrig : Option Nat := none
  recs : List ErrRec := []
  /-- expiries outside the scope that wait for the end (R363) -/
  queued : List Nat := []
  replay : BitVec 128 := 0
  /-- `now` at the start of the running replay -/
  replayAt : Nat := 0
  exCtx : BitVec 7 := 0
  exObj : BitVec 16 := 0
  exBusy : Bool := false
  exDone : Bool := false
  exCode : BitVec 16 := 0
  aseq : BitVec 32 := 0
  oos : Bool := false
  /-- `now` of each counted recovery reset (R374) -/
  resets : List Nat := []
  /-- `now` of the ends of consecutive unconvicted Abseils (R366) -/
  noConv : List Nat := []
  /-- tile-watchdog and conviction counts shown by the dictionary -/
  abseils : BitVec 32 := 0
  convictions : BitVec 32 := 0
  deriving DecidableEq, Repr
/-! ## Host interface (06) -/

/-- What a write of the device on host memory is for: its landing (R146) continues that. -/
inductive HostUse where
  /-- completion entry of queue `q`, with the vector it raises (R127) -/
  | completion (q : Nat) (vec : Option (BitVec 11))
  /-- an error record line (R134) -/
  | errLine
  /-- an event record and its vector (R131) -/
  | eventRec (vec : Option (BitVec 11))
  /-- a write of the descriptor in slot `slot` of tile `t`, admitted as `order` (03 R67) -/
  | desc (t slot order : Nat)
  /-- a Frame Seal record (12 R326) -/
  | sealRec
  /-- part of the image of an Abseil export (14 R369) -/
  | image
  deriving DecidableEq, Repr

/-- A device write on host memory that has not landed (R146). -/
structure HostReq where
  id : Nat
  addr : Nat
  data : Bytes
  use : HostUse
  deriving DecidableEq, Repr

/-- States of a Deposit entry (R151). -/
inductive DepSt where
  | idle | opened | flagged | draining
  deriving DecidableEq, Repr

/-- A Deposit entry (R151 to R157). -/
structure DepEnt where
  v : Bool := false
  reqV : Bool := false
  evV : Bool := false
  dseen : Bool := false
  st : DepSt := .idle
  ctx : BitVec 7 := 0
  memobj : BitVec 16 := 0
  reqId : BitVec 16 := 0
  event : BitVec 14 := 0
  objOff : BitVec 48 := 0
  pages : BitVec 14 := 0
  lastFlag : BitVec 64 := 0
  /-- refusals counted since the entry's last record (R154) -/
  refused : Nat := 0
  deriving DecidableEq, Repr

/-- An accepted BAR2 write whose landing is awaited (R153, 10 R276). -/
structure DepWrite where
  id : Nat
  entry : Nat
  reqId : Nat
  /-- mirror acknowledgements it waits for (10 R276) -/
  refs : List Nat
  deriving DecidableEq, Repr

/-- A flag accepted and not yet applied: entry, value, and the writes it waits for (R156). -/
structure DepFlag where
  entry : Nat
  value : BitVec 64
  waits : List Nat
  deriving DecidableEq, Repr

/-- Where the host-loss sequence stands (R162). -/
inductive LossPh where
  | idle | draining | sealing
  deriving DecidableEq, Repr

/-- The host interface (06). -/
structure Hif where
  hbCtx : BitVec 7 := 0
  hbObj : BitVec 16 := 0
  hbBias : Bool := false
  hbFirst : BitVec 36 := 0
  hbCount : BitVec 36 := 0
  hbBusy : Bool := false
  hbDone : Bool := false
  hbCode : BitVec 16 := 0
  /-- the bias change in progress: object, first page, page count, bias (R145) -/
  hbRun : Option (Nat × Nat × Nat × Bool) := none
  reqs : List HostReq := []
  nextReq : Nat := 0
  /-- Device-Owned pages, keyed object × 2^36 + page (R142) -/
  owned : Tab Bool := []
  dep : Tab DepEnt := []
  depWait : List DepWrite := []
  flags : List DepFlag := []
  loss : LossPh := .idle
  /-- `now` at its trigger -/
  lossAt : Nat := 0
  lossCause : Nat := 0
  /-- cause of the Device-Core reset that ends it (13 R343) -/
  lossCore : Nat := 1
  /-- MSI-X table and PBA bytes, as they differ from their reset values (R138; log 70) -/
  msix : Tab Byte := []
  /-- MSI-X Enable and Function Mask of Message Control; the base addresses of BAR0, BAR2 and BAR4 (R138, R141; logs 67, 70) -/
  msixEn : Bool := false
  msixMask : Bool := false
  bars : List (BitVec 64) := [0, 0, 0]
  deriving DecidableEq, Repr

/-- Bivouac registers (R158 to R168). -/
structure Biv where
  busy : Bool := false
  done : Bool := false
  code : BitVec 16 := 0
  sel : BitVec 4 := 0
  secret : BitVec 256 := 0
  deriving DecidableEq, Repr
/-! ## Ethernet and RoCE (07) -/

/-- States of a queue pair (R174). -/
inductive QpSt where
  | free | rts | error
  deriving DecidableEq, Repr

/-- A WRITE request sent and not completely acknowledged (R183): its index and last PSN. -/
structure QpOut where
  idx : Nat
  psnFirst : Nat
  psnLast : Nat
  deriving DecidableEq, Repr

/-- The inbound message in progress (R176 to R180). -/
inductive QpIn where
  | none
  | send (slot got : Nat)
  | write (imm : Bool) (va rkey len got : Nat)
  deriving DecidableEq, Repr

/-- A received packet whose bytes have landed but whose acknowledgement waits (R180): PSN and what its end completes. -/
structure QpLand where
  id : Nat
  psn : Nat
  /-- the message ends here: adds to RX_EVENT -/
  ev : Bool
  dup : Bool
  /-- mirror messages whose ACK the landing waits for (10 R276) -/
  waits : List Nat
  deriving DecidableEq, Repr

/-- A queue pair (R172 to R185). -/
structure Qp where
  st : QpSt := .free
  desc : Bytes := []
  /-- next request to post, next to complete (R182, R183) -/
  sent : Nat := 0
  completed : Nat := 0
  spsn : Nat := 0
  outs : List QpOut := []
  epsn : Nat := 0
  msgs : Nat := 0
  inb : QpIn := .none
  lands : List QpLand := []
  nextLand : Nat := 0
  retries : Nat := 0
  rnr : Nat := 0
  /-- `now` when the oldest unacknowledged packet was sent or acknowledged -/
  ackAt : Nat := 0
  /-- PSN of each packet landed, newest first, with its context address and, for a WRITE, its R_Key: a duplicate lands there
  again (R180) -/
  hist : List (Nat × Nat × Option Nat) := []
  /-- send rate in b/s, `now` at the last CNP or increase, `now` plus 1 at the last CNP sent (R185) -/
  rate : Nat := 200000000000
  rateAt : Nat := 0
  cnpAt : Nat := 0
  deriving DecidableEq, Repr

/-- The headers around a RoCE packet (R171, R173, R185): addresses, the 802.1Q tag as priority and VLAN ID, DSCP and ECN of the IP
header, and the UDP destination port. -/
structure RoceHdr where
  smac : Nat := 0
  dmac : Nat := 0
  tag : Option (Nat × Nat) := none
  ipv6 : Bool := false
  sip : Nat := 0
  dip : Nat := 0
  dscp : Nat := 0
  ecn : Nat := 2
  udp : Nat := 4791
  deriving DecidableEq, Repr

/-- A RoCE packet to be sent (R177, R183, R185): the queue pair that sends it, its headers and its content. -/
structure RoceTx where
  qp : Nat := 0
  hdr : RoceHdr := {}
  dqpn : Nat
  op : RoceOp
  psn : Nat
  syndrome : Nat := 0
  va : Nat := 0
  rkey : Nat := 0
  len : Nat := 0
  payload : Bytes := []
  deriving DecidableEq, Repr

/-- An Ethernet port (R170, R171). -/
structure EthPort where
  smac : BitVec 48 := 0
  sip4 : BitVec 32 := 0
  sip6 : BitVec 128 := 0
  pfcPrio : BitVec 3 := 3
  pfcEn : Bool := false
  up : Bool := false
  rxDrop : BitVec 32 := 0
  rxIcrc : BitVec 32 := 0
  /-- paused by the link partner; pausing the link partner -/
  paused : Bool := false
  pausing : Bool := false
  /-- tagged packets held while paused -/
  heldTx : List RoceTx := []
  /-- bytes held in the receive buffer -/
  fill : Nat := 0
  /-- frames received and not yet processed -/
  inq : List EthFrame := []
  deriving DecidableEq, Repr

/-- The Ethernet block (07). -/
structure Eth where
  port : List EthPort := [{}, {}]
  stage : BitVec 512 := 0
  busy : Bool := false
  done : Bool := false
  code : BitVec 16 := 0
  result : BitVec 32 := 0
  qp : Tab Qp := []
  deriving DecidableEq, Repr

/-! ## Nalfa ports (08) -/

/-- States of a port (R203). -/
inductive PortSt where
  | disabled | training | active | replay | retrain | down
  deriving DecidableEq, Repr

/-- A DATA frame: its virtual channel, its PLEN bytes, and whether it begins a segment or mirror message. -/
structure DFrame where
  seq : Nat := 0
  vcA : Bool
  first : Bool
  /-- arrival port of a transit segment, 8 for the device's own -/
  src : Nat := 8
  data : Bytes
  deriving DecidableEq, Repr

/-- Trained link state (R208): lane order, polarity, and per lane the transmitter coefficients, the precoder and the skew in ns. -/
structure Trained where
  reversed : Bool := false
  pol : BitVec 4 := 0
  coef : List (List (BitVec 8)) := []
  precode : BitVec 4 := 0
  skew : List Nat := []
  deriving DecidableEq, Repr

/-- A Nalfa port (R187 to R222), with its Cairn side (10 R255 to R261). -/
structure Port where
  en : Bool := true
  auto : Bool := true
  replayMax : BitVec 4 := 8
  replayTo : BitVec 12 := 8
  h : BitVec 10 := 0x100
  y : BitVec 10 := 0x080
  st : PortSt := .disabled
  /-- REVERSED and POL of NLK_STATUS; the trained link state in AON -/
  reversed : Bool := false
  pol : BitVec 4 := 0
  trained : Trained := {}
  rxoffQ : Bool := false
  rxoffA : Bool := false
  txoffQ : Bool := false
  txoffA : Bool := false
  cfgErr : Bool := false
  recalSkip : Nat := 0
  fecCorr : BitVec 32 := 0
  fecUncorr : BitVec 32 := 0
  crcErr : BitVec 32 := 0
  protoErr : BitVec 32 := 0
  replays : BitVec 32 := 0
  retrains : BitVec 32 := 0
  recalForced : BitVec 32 := 0
  ovfDisc : BitVec 32 := 0
  /-- next SEQ of a new DATA frame; the replay buffer, oldest first (R198) -/
  txSeq : Nat := 0
  unack : List DFrame := []
  /-- frames still to be retransmitted, and unacknowledged frames covered by the latest replay (R201, R203) -/
  replayLeft : List DFrame := []
  cover : Nat := 0
  replayRun : Nat := 0
  ackAt : Nat := 0
  /-- expected SEQ; whether a DATA frame has been accepted since the sequence space was set up (R199) -/
  e : Nat := 0
  accepted : Bool := false
  /-- discarding after an error; a NAK to be sent; `now` when the last NAK was sent -/
  errSt : Bool := false
  nakDue : Bool := false
  nakAt : Nat := 0
  rxQ : List DFrame := []
  rxA : List DFrame := []
  /-- DATA frames waiting to be committed -/
  txQ : List DFrame := []
  txA : List DFrame := []
  /-- transit and local segments waiting at each output VC: source (port 0 to 7, engine 8) and bytes (10 R271) -/
  outQ : List (Nat × Bytes) := []
  outA : List (Nat × Bytes) := []
  rrQ : Nat := 0
  rrA : Nat := 0
  /-- frames of received FEC blocks not yet checked, and whether each touches an uncorrectable codeword (R190) -/
  inFrames : List (Bytes × Bool) := []
  /-- FEC receiver: next BCNT, failed blocks in a row, uncorrectable codewords in a row (R191) -/
  bcnt : Option Nat := none
  badBlk : Nat := 0
  badCw : Nat := 0
  /-- FEC transmitter: BCNT of the next block, frames sent in the current block -/
  txBcnt : Nat := 0
  txSlot : Nat := 0
  /-- the bytes of that block so far -/
  txBlock : Bytes := []
  /-- `now` when training, the retrain attempt or DOWN began -/
  since : Nat := 0
  /-- the running handshake carries FRESH (R209, R211) -/
  fresh : Bool := true
  /-- INIT handshake (R207): PORT, FRESH and NEXT of a good INIT received, the final INITs still to be sent, `now` at the last
  INIT sent -/
  initRx : Option (Nat × Bool × Nat) := none
  initsLeft : Nat := 2
  initAt : Option Nat := none
  /-- `now` of the end of the last completed retrain, and of each failed one (R204) -/
  lastDone : Option Nat := none
  fails : List Nat := []
  /-- port number of the partner from its INIT frame -/
  partnerPort : Nat := 0
  /-- recalibration: `now` when the period began, window taken, `now` when the window began, window forced (R219, R220) -/
  recalAt : Nat := 0
  recalTaken : Bool := false
  recalWin : Option Nat := none
  recalForce : Bool := false
  /-- Cairn: neighbour UID and port from the last good frame; `now` then, none before the first; UP -/
  nbrUid : BitVec 64 := 0
  nbrPort : BitVec 3 := 0
  nbrMirror : Bool := false
  nbrAddr : BitVec 8 := 0xFF
  heardAt : Option Nat := none
  up : Bool := false
  /-- payloads of received Cairn frames; the Cairn frame waiting for its slot; `now` plus 1 at the last periodic one -/
  cairnIn : List Bytes := []
  cairnOut : List Bytes := []
  cairnAt : Nat := 0
  /-- `now` plus 1 when a Cairn frame last left (R255) -/
  cairnSent : Nat := 0
  /-- UIDs of the LSAs queued on this port, and the rotation's place (R261) -/
  lsaQ : List Nat := []
  lsaRot : Nat := 0
  deriving DecidableEq, Repr

/-! ## Fabric and Roped Pairs (10) -/

/-- One neighbour field of an LSA (R257). -/
structure Nbr where
  uid : BitVec 64 := 0
  port : BitVec 3 := 0
  up : Bool := false
  mirror : Bool := false
  deriving DecidableEq, Repr

/-- A link-state record (R257). -/
structure Lsa where
  uid : BitVec 64
  addr : BitVec 8 := 0xFF
  oos : Bool := false
  primary : Bool := false
  partner : Bool := false
  auto : Bool := false
  lseq : BitVec 16 := 0
  adigest : BitVec 32 := 0
  nbr : List Nbr := []
  deriving DecidableEq, Repr

/-- Fabric state (R255 to R270). -/
structure Fab where
  addr : BitVec 8 := 0xFF
  epoch : BitVec 64 := 0
  lseq : BitVec 16 := 0
  adigest : BitVec 32 := 0
  /-- held LSAs of other devices, ascending by UID -/
  db : List Lsa := []
  dbFull : Bool := false
  /-- the device's own LSA as last advertised -/
  own : Option Lsa := none
  /-- `now` when the database last changed (R264) -/
  dbAt : Nat := 0
  route : Tab (BitVec 32) := []
  loaded : Tab (BitVec 32) := []
  rtSource : Bool := false
  rtDirty : Bool := false
  transitDrop : BitVec 32 := 0
  /-- held LSAs that carry the own address, keyed address × 2^64 + UID, each with `now` plus 1 when that began (R265) -/
  dup : Tab Nat := []
  deriving DecidableEq, Repr

/-- States of a Roped Pair. -/
inductive PairSt where
  | unbound | binding | syncing | paired | solo | takenOver | stoodDown
  deriving DecidableEq, Repr

/-- What a mirror message is about: its resend and what its ACK releases (R275 to R278). -/
inductive MirUse where
  | data
  | region
  | ckpt
  | unbind
  /-- sent once: a HEARTBEAT, an ACK, an UNBIND that is not waited for -/
  | once
  deriving DecidableEq, Repr

/-- A mirror message sent and not acknowledged (R275). -/
structure MirMsg where
  mseq : Nat
  mtype : Nat
  arg : Nat
  body : Bytes
  use : MirUse
  /-- BAD answers so far -/
  bad : Nat := 0
  /-- the first MSEQ under which it was sent: what waits for it names this -/
  ref : Nat
  /-- `now` when it was sent -/
  sent : Nat := 0
  deriving DecidableEq, Repr

/-- Roped Pair state (R273 to R284). -/
structure Pair where
  st : PairSt := .unbound
  role : Bool := false
  ckCtx : BitVec 7 := 0
  ckEvv : BitVec 8 := 0
  ckEv : BitVec 128 := 0
  ckBusy : Bool := false
  ckDone : Bool := false
  ckCode : BitVec 16 := 0
  ckSel : BitVec 7 := 0
  /-- checkpoints taken of each context -/
  cseq : Tab Nat := []
  aliveTx : BitVec 8 := 0
  aliveRx : Option (BitVec 8) := none
  mseqTx : Nat := 0
  out : List MirMsg := []
  /-- `now` at the last HEARTBEAT sent and at the last good one received -/
  hbTx : Nat := 0
  hbRx : Nat := 0
  hbSeen : Bool := false
  /-- regions whose records came from the partner and are not claimed (R277, R281) -/
  mirrored : List Nat := []
  /-- the contexts that existed at a failover, and the address before it (R282) -/
  before : List Nat := []
  formerAddr : BitVec 8 := 0xFF
  /-- `now` when an unbind began waiting for its ACK, and the role to bind in afterwards (R284) -/
  unbinding : Option Nat := none
  rebind : Nat := 0
  /-- STATE of the last good HEARTBEAT received (R279, R283) -/
  peerSt : Nat := 0
  /-- the former Mirror Port, until the next routing computation (R284) -/
  leaving : Option Nat := none
  /-- the mirror-wrapped key of each region, as its DECLARE made it (R277) -/
  wrapped : Tab Bytes := []
  deriving DecidableEq, Repr

/-! ## Keyholder and debug (11) -/

/-- A job key slot (11 R288, 09 R251). -/
structure JobKey where
  key : Option (BitVec 256) := none
  ctr : Nat := 0
  sender : Nat := 0
  /-- context the slot is bound to -/
  bound : Option Nat := none
  deriving DecidableEq, Repr

/-- Who waits for a response: the mailbox, or a field-bus client with its OP, index and subindex (15 R390, R399). -/
structure DictWait where
  mbx : Bool
  op : Nat
  client : Nat
  index : Nat
  sub : Nat
  deriving DecidableEq, Repr

/-- A write whose MAC the Keyholder verifies (15 R383): its request, NODE, the privilege it claims, the challenge it took, its value
and trailer. -/
structure KeyedWrite where
  w : DictWait
  node : Nat
  priv : Nat
  chal : Bytes
  value : Bytes
  trailer : Bytes
  deriving DecidableEq, Repr

/-- A Keyholder command in progress, holding the Secure Hold vote (R300, R301): what it completes. -/
inductive KhCmd where
  | ctxCreate (c : Nat) (stage : BitVec 512)
  | jkInstall (slot sender : Nat) (key : BitVec 256)
  | jkErase (slot : Nat)
  | chassisSet (key : BitVec 256)
  | declare (region c : Nat)
  | claim (region c : Nat) (damagedOk : Bool)
  | pairBind (peer : PairPeer) (scalar : Nat)
  | write (k : KeyedWrite)
  deriving DecidableEq, Repr

/-- The retention store of 11 R292: keys wrapped under K_boot. -/
structure Retained where
  ctxKey : Tab (Option Bytes)
  jobKey : Tab (Option Bytes)
  pairSecret : Option Bytes
  deriving DecidableEq, Repr

/-- The Keyholder (11). -/
structure Kh where
  ctxKey : Tab (Option (BitVec 256)) := []
  jobKey : Tab JobKey := []
  /-- the engine tables in MEM (R289, R292) -/
  memKey : Tab (Option (BitVec 256)) := []
  gcmKey : Tab (Option (BitVec 256)) := []
  ret : Option Retained := none
  pairSecret : Option (BitVec 256) := none
  chassis : Option (BitVec 256) := none
  nonce : Option (BitVec 256) := none
  dbg : BitVec 2 := 0
  rngOk : Bool := true
  busy : Bool := false
  done : Bool := false
  code : BitVec 16 := 0
  key : BitVec 256 := 0
  result : BitVec 512 := 0
  grant : Bytes := []
  /-- commands in progress, the first being served, each with the ns it still takes (log 13) -/
  run : List (KhCmd × Nat) := []
  jtag : BitVec 8 := 0x01
  extest : Bool := false
  /-- a debugger has halted the MC (11 R304) -/
  halted : Bool := false
  deriving DecidableEq, Repr

/-! ## Check-value units and Seal Engine (12) -/

/-- A check-value channel (R313 to R322). -/
structure Cvu where
  width : BitVec 7 := 0x20
  refin : Bool := true
  refout : Bool := true
  mode : BitVec 2 := 0
  preset : BitVec 3 := 1
  foldLen : BitVec 4 := 0
  alvW : BitVec 2 := 0
  irqEn : Bool := false
  attach : Bool := false
  poly : BitVec 64 := 0x1EDC6F41
  init : BitVec 64 := 0xFFFFFFFF
  xorout : BitVec 64 := 0xFFFFFFFF
  opened : Bool := false
  done : Bool := false
  mismatch : Bool := false
  matched : Bool := false
  foldLate : Bool := false
  cfgErr : Bool := false
  alvClass : BitVec 2 := 0
  fold : BitVec 64 := 0
  expect : BitVec 64 := 0
  result : BitVec 64 := 0
  alvTx : BitVec 8 := 0
  alvLast : Option (BitVec 8) := none
  run : BitVec 64 := 0
  seen : Bool := false
  /-- STRIP: the bytes held back -/
  hold : Bytes := []
  mismatches : BitVec 32 := 0
  /-- a computation has started since reset (R322) -/
  started : Bool := false
  deriving DecidableEq, Repr

/-- A seal slot (R323 to R327). -/
structure SealSlot where
  opened : Bool := false
  desc : Bytes := []
  ctx : Nat := 0
  queue : Nat := 0
  /-- opening number -/
  opening : Nat := 0
  crc : BitVec 64 := 0
  bytes : Nat := 0
  deriving DecidableEq, Repr

/-- A sealed row that has not been added to its seal: what its landing waits for, its slot, opening and frame offset
(R324, R325). -/
structure SealRow where
  n : Nat
  slot : Nat
  opening : Nat
  off : Nat
  data : Bytes
  waits : List Await := []
  deriving DecidableEq, Repr

/-- The Seal Engine's registers and slots (12). -/
structure SealEng where
  stage : BitVec 512 := 0
  busy : Bool := false
  done : Bool := false
  overrun : Bool := false
  code : BitVec 16 := 0
  slots : Tab SealSlot := []
  rows : List SealRow := []
  nextRow : Nat := 0
  opens : Nat := 0
  written : BitVec 64 := 0
  deriving DecidableEq, Repr

/-! ## Power, telemetry, VBAT (13, 18) -/

/-- Power states (13 R334). -/
inductive PState where
  | p0 | p1 | p2 | p3
  deriving DecidableEq, Repr

/-- A gating request deferred by the Secure Hold (13 R337): a domain request or a transition, and `now` when it was written. -/
inductive Gating where
  | dom (value sel : BitVec 10) (host : Bool)
  | state (target : PState)
  deriving DecidableEq, Repr

/-- Power controller, boot, pins (13, 18). -/
structure Pwr where
  main : Bool := true
  pwrOk : Bool := true
  okAt : Nat := 0
  held : Bool := false
  trip : Bool := false
  on : BitVec 10 := 0
  pend : BitVec 10 := 0
  busy : Bool := false
  done : Bool := false
  code : BitVec 16 := 0
  cur : PState := .p0
  moving : Bool := false
  pcode : BitVec 16 := 0
  goal : Option PState := none
  defer : Option (Gating × Nat) := none
  /-- `now` when the request that runs was written (13 R337) -/
  reqAt : Nat := 0
  record : BitVec 10 := 0
  stage : Nat := 0
  /-- step 1 of boot has ended: the boot ROM selects and verifies images (13 R347) -/
  romRuns : Bool := false
  bank : Bool := false
  trial : Bool := false
  bcode : BitVec 16 := 0
  parked : Bool := false
  /-- boot is a restart after a Device-Core reset (13 R349) -/
  warm : Bool := false
  perstN : Bool := false
  perstAt : Option Nat := none
  dllUp : Bool := false
  /-- the rate the link trained at, CXL.cache enabled in the CXL DVSEC, Enable Relaxed Ordering (06 R138, R140, R149) -/
  rate : Option LinkRate := none
  width : Nat := 0
  /-- reference clocks lost: PCIE_REFCLK, NLK_REFCLK0, NLK_REFCLK1, ETH_REFCLK (13 R340, 18 R449; log 72) -/
  clkLost : BitVec 4 := 0
  cxl : Bool := false
  relaxed : Bool := false
  d3 : Bool := false
  rstCold : BitVec 4 := 1
  rstCore : BitVec 4 := 0
  strapNode : BitVec 7 := 0
  strapTest : Bool := true
  nodeStrap : BitVec 7 := 0
  testN : Bool := true
  coldAt : Nat := 0
  nboot : BitVec 256 := 0
  /-- `now` when the MC watchdog was last kicked, and its period in ms (14 R376) -/
  mcAt : Nat := 0
  mcPeriod : BitVec 16 := 0x0FA0
  /-- records to be written at the first setting of ERQ EN, in order -/
  due : List ErrRec := []
  deriving DecidableEq, Repr

/-- Patrol scrub of one stack (13 R350). -/
structure Scrub where
  line : Nat := 0
  forced : BitVec 64 := 0
  corr : BitVec 64 := 0
  uncorr : BitVec 64 := 0
  passes : BitVec 32 := 0
  /-- MEM-on ns of the running pass -/
  age : Nat := 0
  /-- `now` plus 1 at the last forced slot -/
  slotAt : Nat := 0
  deriving DecidableEq, Repr

/-- Telemetry (13 R351, 18 R455 to R458). -/
structure Tele where
  volt : Tab (BitVec 32) := []
  curr : Tab (BitVec 32) := []
  power : BitVec 32 := 0
  energy : BitVec 64 := 0
  die : Tab (BitVec 32) := []
  hbm : Tab (BitVec 32) := []
  drops : BitVec 32 := 0
  pmbErr : BitVec 32 := 0
  since : Nat := 0
  deriving DecidableEq, Repr

/-- Values kept on VBAT outside the clock (11, 18). -/
structure Vbat where
  tripSensor : Option (Nat × Nat) := none
  tripCount : BitVec 32 := 0
  tripTime : Bytes := []
  zeroCause : Nat := 0
  mcResets : BitVec 32 := 0
  auth : BitVec 32 := 0
  deriving DecidableEq, Repr

/-! ## Dictionary and field bus (15) -/

/-- A segmented transfer in progress (15 R392 to R395). -/
structure SegXfer where
  index : Nat
  sub : Nat
  client : Nat
  priv : Nat
  /-- LEN of the value, the stream bytes so far, segments accepted, `now` at the previous frame -/
  len : Nat
  data : Bytes := []
  k : Nat := 0
  since : Nat
  /-- LAST has been accepted: the write waits for its turn (R382) -/
  full : Bool := false
  deriving DecidableEq, Repr

/-- A request that the arbiter holds while the one before it is applied (15 R382): a request of the mailbox or of the field bus,
or the last segment of the open write. -/
inductive DictLater where
  | request (mbx : Bool) (bytes : Bytes)
  | lastSegment
  deriving DecidableEq, Repr

/-- The request came through the mailbox. -/
def DictLater.ofMailbox (x : DictLater) : Bool :=
  match x with
  | .request m _ => m
  | .lastSegment => false

/-- The dictionary server, the mailbox and the Stoleg-FD node (15). -/
structure Dict where
  /-- written values of RW and RWP objects, keyed index × 256 + subindex; absent ones hold the catalogue's default -/
  val : Tab Bytes := []
  challenge : Option (BitVec 256) := none
  authFail : BitVec 32 := 0
  node : BitVec 8 := 0
  onBus : Bool := false
  conflict : Bool := false
  busOff : Bool := false
  busOffAt : Nat := 0
  xfer : Option SegXfer := none
  hbCount : BitVec 8 := 0
  hbAt : Nat := 0
  /-- EMERGENCY payloads raised before the node is on the bus (R397) -/
  emerg : List Bytes := []
  /-- codes sent, each with `now` then (R397) -/
  emergSent : List (Nat × Nat) := []
  /-- object 0x1026: frames sent, received, error frames, bus-off events, transfers abandoned, emergencies suppressed -/
  bus : List Nat := [0, 0, 0, 0, 0, 0]
  stat : Tab Nat := []
  hmacAt : Nat := 0
  /-- a request whose response waits for the partner's answer (10 R284) -/
  wait : Option DictWait := none
  /-- requests accepted while that one waits (15 R382) -/
  later : List DictLater := []
  /-- a write whose MAC has been verified by the Keyholder, to be completed -/
  keyed : Option KeyedWrite := none
  /-- transmit and receive error counters of ISO 11898-1 (R387) -/
  txErr : Nat := 0
  rxErr : Nat := 0
  mbxReq : Bytes := List.replicate 4128 0
  mbxRsp : Bytes := List.replicate 4096 0
  mbxIrq : Bool := false
  mbxVec : BitVec 11 := 0
  mbxBusy : Bool := false
  mbxDone : Bool := false
  mbxDetail : BitVec 8 := 0
  mbxCode : BitVec 16 := 0
  mbxRlen : BitVec 16 := 0
  deriving DecidableEq, Repr

/-! ## Firmware store (16) -/

/-- A flash command in progress (16 R404 to R407). -/
structure FlashRun where
  /-- the command is one of an update's erases (R412) -/
  upd : Bool := false
  op : Nat
  bank : Bool
  addr : Nat
  len : Nat
  data : Bytes
  deriving DecidableEq, Repr

/-- The modes of the flash interface (16 R402). -/
inductive FlashMode where
  | sdr111 | sdr144 | dtr144 | sdr888 | dtr888
  deriving DecidableEq, Repr

/-- What the SFDP table of a bank's device declares (16 R402): its modes beside 1-1-1, and 4-byte-address opcodes. -/
structure Sfdp where
  sdr144 : Bool := true
  dtr144 : Bool := false
  sdr888 : Bool := false
  dtr888 : Bool := false
  fourByte : Bool := true
  deriving DecidableEq, Repr

/-- How the controller drives the device of a bank (16 R402): mode, 4-byte-address opcodes, and the Extended Address Register of
a device without them. -/
structure FlashDev where
  mode : FlashMode := .sdr111
  wide : Bool := false
  ear : BitVec 8 := 0
  deriving DecidableEq, Repr

/-- A step of an update in progress (16 R412, R413): 64 KiB blocks still to be erased, or the ns of verification left. -/
inductive UpdRun where
  | erasing (blocks : Nat)
  | verifying (ns : Nat)
  deriving DecidableEq, Repr

/-- The flash and the update and settings firmware (16). -/
structure Flash where
  /-- bytes of the banks; unlisted bytes read 0xFF -/
  bank0 : Tab Byte := []
  bank1 : Tab Byte := []
  addr : BitVec 26 := 0
  len : BitVec 9 := 0
  buf : Bytes := List.replicate 256 0
  busy : Bool := false
  done : Bool := false
  vfail : Bool := false
  blank : Bool := false
  code : BitVec 16 := 0
  refused : BitVec 32 := 0
  run : Option FlashRun := none
  dev0 : FlashDev := {}
  dev1 : FlashDev := {}
  /-- the interfaces of both banks are in high impedance (R411) -/
  hiZ : Bool := false
  /-- reads of an XIP window held while its bank is programmed or erased (R407): bank, offset, bytes -/
  waits : List (Bool × Nat × Nat) := []
  upd : Option UpdRun := none
  /-- an update is open (R412) -/
  updOpen : Bool := false
  updOff : BitVec 32 := 0
  updStatus : BitVec 16 := 0
  /-- fuses: revoked signing keys, minimum security version (11 R312) -/
  revoked : BitVec 4 := 0
  minSvn : BitVec 6 := 0
  /-- the chassis key wrapped under K_pers (11 R290) -/
  chassis : Option Bytes := none
  /-- BODY_DIGEST of the running image, 0 where none runs; BOOTS of a Trial Image -/
  digest : Nat := 0
  trialBoots : Nat := 0
  /-- unreadable records replaced by defaults (R423) -/
  defaulted : BitVec 16 := 0
  deriving DecidableEq, Repr

/-! ## Real-time clock (17) -/

/-- A calendar time (17 R425). -/
structure CalTime where
  sub : BitVec 15 := 0
  sec : BitVec 6 := 0
  min : BitVec 6 := 0
  hour : BitVec 5 := 0
  day : BitVec 5 := 1
  month : BitVec 4 := 1
  year : BitVec 12 := 1900
  deriving DecidableEq, Repr

/-- An RTC alarm: time, fields compared, its flag, and whether it matched at the last tick (17 R429a). -/
structure RtcAlarm where
  time : BitVec 80 := 0
  mask : BitVec 6 := 0
  hit : Bool := false
  matching : Bool := false
  deriving DecidableEq, Repr

/-- The real-time clock on VBAT (17). -/
structure Rtc where
  t : CalTime := {}
  wday : BitVec 3 := 0
  prescale : BitVec 20 := 0
  /-- TRIM as written, and as taken for the running window (R434) -/
  trim : BitVec 9 := 0
  trimNow : BitVec 9 := 0
  setV : BitVec 80 := 0
  capC : CalTime := {}
  capH : CalTime := {}
  capCause : BitVec 2 := 0
  hwcap : Bool := false
  cfgErr : Bool := false
  alm0 : RtcAlarm := {}
  alm1 : RtcAlarm := {}
  /-- a command accepted and not yet applied: OP and N (R430) -/
  cmd : Option (Nat × Int) := none
  shift : Option Int := none
  locked : Bool := false
  /-- a power-fail capture is due at the next tick (R436) -/
  failCap : Bool := false
  onVbat : Bool := false
  /-- the VBAT supply is present (18 R452) -/
  vbat : Bool := true
  deriving DecidableEq, Repr
/-! ## The device -/

/-- The request types of writes on host memory (06 R140, R143): a whole 64-byte line, a part of a line, and a PCIe write, snooped
or with No Snoop. -/
inductive WrReq where
  | itoMWr
  | woWrInv
  | memWr (noSnoop : Bool)
  deriving DecidableEq, Repr

/-- What the trace shows (11 R303, R308): times, descriptors by tile, kind, tag and address, link segments by tag and address, host
requests by address, and the MC's instruction address. No data byte is among them. -/
inductive TraceEv where
  | time (now : Nat)
  | descriptor (t kind dtag off : Nat)
  | segment (tag dev va : Nat)
  | host (id addr : Nat)
  | mc (addr : Nat)
  deriving DecidableEq, Repr

/-- What the device has sent outward (log 3). -/
inductive Out where
  /-- an MSI-X message -/
  | msix (vec : Nat)
  /-- a write on host memory: request number, bus address, bytes, its requests in order (06 R143), Relaxed Ordering (R149) -/
  | hostWrite (id addr : Nat) (data : Bytes) (reqs : List WrReq) (relaxed : Bool)
  /-- read completion data, of a register, or Unsupported Request -/
  | readData (data : Bytes)
  | unsupported
  /-- a configuration completion, or Request Retry Status (13 R348) -/
  | cfgDone
  | cfgRetry
  /-- the data of a configuration read (06 R138, R141, 13 R335) -/
  | cfgData (data : Bytes)
  /-- RspIHitI to a snoop (06 R143) -/
  | rspIHitI (addr : Nat)
  /-- a link frame, a block word, and the PRBS13Q pattern of a recalibration window (08) -/
  | frame (port : Nat) (bytes : Bytes)
  | blockWord (port word : Nat)
  /-- the 10-bit symbols of a FEC block on each of the four lanes (08 R190) -/
  | lanes (port : Nat) (symbols : List (List Nat))
  | prbs (port : Nat)
  /-- an Ethernet pause or release of a priority, and a RoCE packet (07) -/
  | pfc (port prio : Nat) (pause : Bool)
  | roce (port : Nat) (p : RoceTx)
  /-- a CAN FD frame: identifier and data (15) -/
  | can (id : Nat) (data : Bytes)
  /-- CVU output bytes (12) -/
  | cvu (ch : Nat) (data : Bytes)
  | cvuIrq (ch : Nat)
  /-- THERMTRIP_N and RTC_ALARM_N driven (17, 18) -/
  | thermtrip (low : Bool)
  | rtcAlarm (low : Bool)
  /-- alarm 0 (false) or 1 (true) interrupts the MC (17 R429a) -/
  | rtcIrq (alarm1 : Bool)
  /-- the level of CAN_STBY (18 R451) -/
  | canStby (high : Bool)
  /-- a PMBus STATUS_WORD read of a regulator (18 R443) -/
  | pmbus (regulator : Nat)
  /-- a regulator is set to its nominal voltage over PMBus, in millivolts (18 R443) -/
  | pmbusSet (regulator mv : Nat)
  /-- an ephemeral public key of pair binding, signed with the identity key (11 R300) -/
  | pairKey (pub sig : Bytes)
  /-- what a DBG_MAILBOX command answers on TDO: its code and result (11 R307) -/
  | tdo (data : Bytes)
  | trace (events : List TraceEv)
  deriving DecidableEq, Repr

/-- The key hash a device is fused with: SHA-384 of the P-384 test key of RFC 6979 (log 31). -/
def fusedHash : Bytes :=
  beBytes 48 0xebe1f3b0fed114eaf158783d8c3227f2d8e05ea982ef00c64a08460b4649011fe3da6e291a22af14445ccae1981dff5b

/-- What makes a device the one it is: fuses and manufacture data (11, 15 1000 to 1018). -/
structure Ident where
  uid : BitVec 64 := 1
  stepping : BitVec 8 := 1
  rootKey : BitVec 256 := 0
  /-- fused SHA-384 hashes of the signing keys 0 to 3 -/
  bootKeys : List Bytes := [fusedHash]
  serial : Bytes := []
  romVersion : BitVec 32 := 0
  cert : Bytes := List.replicate 2048 0
  /-- the SFDP tables of the two flash devices (16 R402; log 76) -/
  sfdp0 : Sfdp := {}
  sfdp1 : Sfdp := {}
  deriving DecidableEq, Repr

/-- The machine: everything the manual gives the device, and the queue of waiting commands. -/
structure State where
  /-- waiting commands, first in first out (log 1) -/
  pending : List Instr := []
  /-- ns since State.reset (log 1) -/
  now : Nat := 0
  /-- draws of free values so far (log 7) -/
  free : Nat := 0
  /-- what has been sent outward, oldest first (log 3) -/
  out : List Out := []
  /-- what the write-only fields of the command registers hold, keyed by register address (00 R10, R14; log 62) -/
  held : Tab Nat := []
  id : Ident := {}
  pwr : Pwr := {}
  scrub : List Scrub := [{}, {}, {}, {}]
  tele : Tele := {}
  vb : Vbat := {}
  erq : Erq := {}
  hif : Hif := {}
  biv : Biv := {}
  obj : Obj := {}
  quad : List Quad := [{}, {}, {}, {}]
  tile : Tab Tile := []
  mesh : List Flit := []
  /-- stored bytes of the HBM stacks; unlisted bytes read 0x00 (13 R347, log 9) -/
  hbm : Tab Byte := []
  txn : TxnEng := {}
  port : List Port := [{}, {}, {}, {}, {}, {}, {}, {}]
  fab : Fab := {}
  pair : Pair := {}
  kh : Kh := {}
  cvu : List Cvu := [{}, {}, {}, {}]
  sealer : SealEng := {}
  rcv : Rcv := {}
  eth : Eth := {}
  dict : Dict := {}
  flash : Flash := {}
  rtc : Rtc := {}
  deriving DecidableEq, Repr

/-- The machine at the release of a power-on Cold reset (13 R343, log 5). -/
def State.reset : State := {}

end Sys2Proof.Machine
end

