-- ==== Sys2Proof/Machine/Channel.lean ====
section
/-!
DEFINITION. The computation of one check-value channel, whoever feeds it: parameters, bytes taken and passed on, its end
(12 R314 to R321).
-/
namespace Sys2Proof.Machine

/-- The bits of a value that lie below WIDTH; those at or above it are ignored and read as 0 (R314). -/
def Cvu.low (x : Cvu) (v : Nat) : Nat := v % 2 ^ x.width.toNat

/-- The six parameters of a channel (R314). -/
def Cvu.params (x : Cvu) : CrcParams :=
  ⟨x.width.toNat, x.poly.toNat, x.init.toNat, x.refin, x.refout, x.xorout.toNat⟩

/-- The result as R314 gives it now. -/
def Cvu.now (x : Cvu) : Nat := crcResult x.params x.run.toNat

/-- Bytes entering the CRC register. -/
def Cvu.take (x : Cvu) (b : Bytes) : Cvu := { x with run := BitVec.ofNat 64 (crcFeed x.params x.run.toNat b) }

/-- WIDTH in whole bytes. -/
def Cvu.bytes (x : Cvu) : Nat := x.width.toNat / 8

/-- The parameters of a preset (R315). -/
def Cvu.load (x : Cvu) (n : Nat) : Cvu :=
  match crcPreset n with
  | none => x
  | some p =>
    { x with
      width := BitVec.ofNat 7 p.width, poly := BitVec.ofNat 64 p.poly, init := BitVec.ofNat 64 p.init,
      refin := p.refIn, refout := p.refOut, xorout := BitVec.ofNat 64 p.xorOut }

/-- START (R314, R322). -/
def Cvu.start (x : Cvu) : Cvu :=
  { x with
    opened := true, run := BitVec.ofNat 64 (crcStart x.params), seen := false, hold := [],
    alvLast := if x.started then x.alvLast else none, started := true }

/-- Data bytes enter the channel (R317, R321): the channel, and the bytes it passes on. STRIP holds back the last WIDTH/8 of
them; APPEND and STRIP pass bytes on. -/
def Cvu.feed (x : Cvu) (b : Bytes) : Cvu × Bytes :=
  let x := { x with seen := true }
  match x.mode.toNat with
  | 2 => (x.take b, b)
  | 3 =>
    let all := x.hold ++ b
    let n := all.length - x.bytes
    ({ x.take (all.take n) with hold := all.drop n }, all.take n)
  | _ => (x.take b, [])

/-- A check ends (R319): MATCH, or MISMATCH. -/
def Cvu.check (x : Cvu) (ok : Bool) : Cvu :=
  if ok then { x with matched := true }
  else { x with matched := false, mismatch := true, mismatches := BitVec.ofNat 32 (satAdd 32 x.mismatches.toNat 1) }

/-- FINISH of an open computation (R318, R319, R321): the channel, and the bytes APPEND adds. -/
def Cvu.finish (x : Cvu) : Cvu × Bytes :=
  let res := x.now
  let x := { x with result := BitVec.ofNat 64 res, done := true, opened := false }
  match x.mode.toNat with
  | 1 => (x.check (decide (res = x.low x.expect.toNat)), [])
  | 2 => (x, leBytes x.bytes res)
  | 3 => ({ x.check (decide (x.bytes ≤ x.hold.length) && decide (ofLe x.hold = res)) with hold := [] }, [])
  | _ => (x, [])

/-- The last check of the channel failed where FINISH of `x` gave `y` (R319). -/
def Cvu.failed (x y : Cvu) : Bool := (decide (x.mode = 1) || decide (x.mode = 3)) && !y.matched

/-! ## Streams of Stoleg-FD (15 R394): management firmware forms and checks their CRC with channels 2 and 3 -/

/-- The channel as management firmware sets it for a stream of an object: CRC-32C, FOLD_LEN 3, fed by the CAN FD stream; then
START and the Fold Word INDEX, SUBINDEX (R313, 15 R394; log 61). -/
def Cvu.stream (x : Cvu) (mode : BitVec 2) (index sub : Nat) : Cvu :=
  let x := { x.load 1 with mode := mode, preset := 1, foldLen := 3, irqEn := false, attach := true }
  { x.start.take (leBytes 2 index ++ leBytes 1 sub) with fold := BitVec.ofNat 64 (index % 2 ^ 16 + 2 ^ 16 * sub) }

end Sys2Proof.Machine
end

