-- ==== Sys2Proof/Machine/Sha.lean ====
section
/-!
DEFINITION. SHA-256, SHA-384 (FIPS 180-4), HMAC-SHA-256 (FIPS 198-1) and the KDF of 11 R289. The manual names these
standards; their text is outside it (log 8, PRESUMED).
-/
namespace Sys2Proof

/-! ## Constants: the first bits behind the binary point of roots of primes -/

/-- The first eighty primes. -/
def primes80 : List Nat :=
  [2, 3, 5, 7, 11, 13, 17, 19, 23, 29, 31, 37, 41, 43, 47, 53] ++
  [59, 61, 67, 71, 73, 79, 83, 89, 97, 101, 103, 107, 109, 113, 127, 131] ++
  [137, 139, 149, 151, 157, 163, 167, 173, 179, 181, 191, 193, 197, 199, 211, 223] ++
  [227, 229, 233, 239, 241, 251, 257, 263, 269, 271, 277, 281, 283, 293, 307, 311] ++
  [313, 317, 331, 337, 347, 349, 353, 359, 367, 373, 379, 383, 389, 397, 401, 409]

/-- The greatest number whose power `e` is at most `goal`, its `n` low bits found from the highest down; `r` holds those above. -/
def rootGo (e goal : Nat) : Nat → Nat → Nat
  | 0, r => r
  | n + 1, r => rootGo e goal n (if (r + 2 ^ n) ^ e ≤ goal then r + 2 ^ n else r)

/-- The first `w` bits behind the point of the root `e` of a number below 512. -/
def rootBits (e w p : Nat) : Nat := rootGo e (p * 2 ^ (e * w)) (w + 5) 0 % 2 ^ w

/-! ## One family member -/

/-- What tells SHA-256 from SHA-384: word size, rounds, the rotations and the shift of each schedule term, the rotations that
mix the two chains. -/
structure Sha2 where
  w : Nat
  rounds : Nat
  near : List Nat × Nat
  far : List Nat × Nat
  mixA : List Nat
  mixE : List Nat
  deriving DecidableEq, Repr

def sha2x32 : Sha2 := ⟨32, 64, ([17, 19], 10), ([7, 18], 3), [2, 13, 22], [6, 11, 25]⟩
def sha2x64 : Sha2 := ⟨64, 80, ([19, 61], 6), ([1, 8], 7), [28, 34, 39], [14, 18, 41]⟩

/-- The sum modulo 2 of the right rotations of a word by the amounts of a list. -/
def Sha2.turn (p : Sha2) (l : List Nat) (x : Nat) : Nat :=
  l.foldl (fun acc n => acc ^^^ (x / 2 ^ n + x % 2 ^ n * 2 ^ (p.w - n))) 0

/-- A term of the message schedule. -/
def Sha2.term (p : Sha2) (l : List Nat × Nat) (x : Nat) : Nat := p.turn l.1 x ^^^ (x / 2 ^ l.2)

/-- The message schedule, latest word first, grown by `n` words. -/
def Sha2.grow (p : Sha2) : Nat → List Nat → List Nat
  | 0, l => l
  | n + 1, l =>
    p.grow n ((p.term p.near (lget 0 l 1) + lget 0 l 6 + p.term p.far (lget 0 l 14) + lget 0 l 15) % 2 ^ p.w :: l)

/-- The two chains of working words, each with its latest four, latest first. -/
structure ShaChains where
  top : List Nat
  low : List Nat
  deriving DecidableEq, Repr

/-- Each bit of `x` chooses that of `y` (1) or of `z` (0). -/
def pick (x y z : Nat) : Nat := z ^^^ (x &&& (y ^^^ z))

/-- A round: both chains get a word. `kw` is the sum of the round's constant and its schedule word. -/
def Sha2.round (p : Sha2) (c : ShaChains) (kw : Nat) : ShaChains :=
  let go := lget 0 c.low 3 + p.turn p.mixE (lget 0 c.low 0) + pick (lget 0 c.low 0) (lget 0 c.low 1) (lget 0 c.low 2) + kw
  let most := pick (lget 0 c.top 0 ^^^ lget 0 c.top 1) (lget 0 c.top 2) (lget 0 c.top 0)
  { top := (go + p.turn p.mixA (lget 0 c.top 0) + most) % 2 ^ p.w :: c.top.take 3,
    low := (lget 0 c.top 3 + go) % 2 ^ p.w :: c.low.take 3 }

/-- The eight hash words after a block, whose sixteen words come latest first. -/
def Sha2.block (p : Sha2) (hash ws : List Nat) : List Nat :=
  let sched := (p.grow (p.rounds - 16) ws).reverse
  let kws := List.zipWith (fun q w => rootBits 3 p.w q + w) primes80 sched
  let c := kws.foldl p.round { top := hash.take 4, low := hash.drop 4 }
  List.zipWith (fun x y => (x + y) % 2 ^ p.w) hash (c.top ++ c.low)

/-- A message with the single one bit, zeros and its length behind it, in whole blocks. -/
def Sha2.padded (p : Sha2) (b : Bytes) : Bytes :=
  let unit := 2 * p.w
  let blocks := ceilDiv (b.length + 1 + unit / 8) unit
  b ++ leBytes 1 0x80 ++ beBytes (blocks * unit - b.length - 1) (8 * b.length)

/-- The hash of a message whose first hash words come from the square roots of the eight primes from number `first` on. -/
def Sha2.hash (p : Sha2) (first : Nat) (b : Bytes) : Bytes :=
  let m := p.padded b
  let word := fun (k i : Nat) => ofBe (sliceB m (2 * p.w * k + p.w / 8 * (15 - i)) (p.w / 8))
  let out := (List.range (m.length / (2 * p.w))).foldl (fun h k => p.block h ((List.range 16).map (word k)))
    (((primes80.drop first).take 8).map (rootBits 2 p.w))
  out.flatMap (beBytes (p.w / 8))

/-- SHA-256. -/
def sha256 (b : Bytes) : Bytes := sha2x32.hash 0 b

/-- SHA-384. -/
def sha384 (b : Bytes) : Bytes := (sha2x64.hash 8 b).take 48

/-- HMAC-SHA-256 with a key of at most 64 bytes (every key of 11 R290 has 32). -/
def hmac256 (key msg : Bytes) : Bytes :=
  let k := sliceB key 0 64
  sha256 (k.map (· ^^^ 0x5C) ++ sha256 (k.map (· ^^^ 0x36) ++ msg))

/-- The bytes of an ASCII label of 11 R290. -/
def ascii (s : String) : Bytes := s.toList.map (fun c => BitVec.ofNat 8 c.toNat)

/-- A 256-bit key as the octet string of its bytes, least significant first (00 R8). -/
def keyBytes (k : BitVec 256) : Bytes := leBytes 32 k.toNat

/-- The key an octet string of 32 bytes holds. -/
def keyOf (b : Bytes) : BitVec 256 := BitVec.ofNat 256 (ofLe (b.take 32))

/-- KDF(K, Label, Context): the single block of 11 R289. -/
def kdf (k : BitVec 256) (label : String) (ctx : Bytes) : BitVec 256 :=
  keyOf (hmac256 (keyBytes k) (beBytes 4 1 ++ ascii label ++ [0x00] ++ ctx ++ beBytes 4 0x100))

end Sys2Proof
end

