-- ==== Sys2Proof/Machine/Aes.lean ====
section
/-!
DEFINITION. AES-256 (FIPS 197), AES-XTS-256 of 11 R293, AES-256-GCM of 09 R250 and the key wrap of 11 R291. The manual
names these standards; their text is outside it (log 8, PRESUMED).
-/
namespace Sys2Proof

/-- The S-box of AES, byte x in bits [8x + 7 : 8x]. -/
def aesSbox : Nat :=
  0x16bb54b00f2d99416842e6bf0d89a18cdf2855cee9871e9b948ed9691198f8e19e1dc186b95735610ef6034866b53e708a8bbd4b1f74dde8c6b4a61c2e2578ba08ae7a65eaf4566ca94ed58d6d37c8e779e4959162acd3c25c2406490a3a32e0db0b5ede14b8ee4688902a22dc4f816073195d643d7ea7c41744975fec130ccdd2f3ff1021dab6bcf5389d928f40a351a89f3c507f02f94585334d43fbaaefd0cf584c4a39becb6a5bb1fc20ed00d153842fe329b3d63b52a05a6e1b1a2c830975b227ebe28012079a059618c323c7041531d871f1e5a534ccf73f362693fdb7c072a49cafa2d4adf04759fa7dc982ca76abd7fe2b670130c56f6bf27b777c63

/-- The inverse S-box. -/
def aesInvSbox : Nat :=
  0x7d0c2155631469e126d677ba7e042b17619953833cbbebc8b0f52aae4d3be0a0ef9cc9939f7ae52d0d4ab519a97f51605fec8027591012b131c7078833a8dd1ff45acd78fec0db9a2079d2c64b3e56fc1bbe18aa0e62b76f89c5291d711af1476edf751ce837f9e28535ade72274ac9673e6b4f0cecff297eadc674f4111913a6b8a130103bdafc1020f3fca8f1e2cd00645b3b80558e4f70ad3bc8c00abd890849d8da75746155edab9edfd5048706c92b6655dcc5ca4d41698688664f6f87225d18b6d49a25b76b224d92866a12e084ec3fa420b954cee3d23c2a632947b54cbe9dec444438e3487ff2f9b8239e37cfbd7f3819ea340bf38a53630d56a0952

/-- A byte through a packed table. -/
def subByte (t x : Nat) : Nat := (t >>> (8 * x)) % 256

/-- Multiplication by x in GF(2^8). -/
def xtime (x : Nat) : Nat := if x < 128 then 2 * x else (2 * x) ^^^ 0x11B

/-- Product in GF(2^8) by a small constant, from its low four bits. -/
def gf8mul (c x : Nat) : Nat :=
  let x2 := xtime x
  let x4 := xtime x2
  let x8 := xtime x4
  (if Nat.testBit c 0 then x else 0) ^^^ (if Nat.testBit c 1 then x2 else 0) ^^^
    (if Nat.testBit c 2 then x4 else 0) ^^^ (if Nat.testBit c 3 then x8 else 0)

/-- Four bytes mixed by the circulant matrix of first row `m`. -/
def mixCol (m : Nat × Nat × Nat × Nat) (a b c d : Nat) : List Nat :=
  let f := fun (p q r s : Nat) => gf8mul p a ^^^ gf8mul q b ^^^ gf8mul r c ^^^ gf8mul s d
  [f m.1 m.2.1 m.2.2.1 m.2.2.2, f m.2.2.2 m.1 m.2.1 m.2.2.1,
   f m.2.2.1 m.2.2.2 m.1 m.2.1, f m.2.1 m.2.2.1 m.2.2.2 m.1]

/-- The columns of the state mixed. -/
def mixCols (m : Nat × Nat × Nat × Nat) : List Nat → List Nat
  | a :: b :: c :: d :: r => mixCol m a b c d ++ mixCols m r
  | _ => []

/-- The state with its bytes taken in the order `p`. -/
def permL (p : List Nat) (s : List Nat) : List Nat := p.map (fun i => lget 0 s i)

/-- ShiftRows as an order of the sixteen bytes. -/
def shiftRowsP : List Nat := [0, 5, 10, 15, 4, 9, 14, 3, 8, 13, 2, 7, 12, 1, 6, 11]

/-- The inverse of ShiftRows. -/
def invShiftRowsP : List Nat := [0, 13, 10, 7, 4, 1, 14, 11, 8, 5, 2, 15, 12, 9, 6, 3]

/-- Exclusive or of two lists of numbers. -/
def xorL (a b : List Nat) : List Nat := List.zipWith (fun x y => x ^^^ y) a b

/-- One step of the AES-256 key schedule: eight words held, four bytes each, word `i` is next. -/
def keyStep (st : List (List Nat) × List (List Nat) × Nat) (i : Nat) :
    List (List Nat) × List (List Nat) × Nat :=
  let w := st.1
  let t := lget [] w 7
  let t1 :=
    if i % 8 = 0 then
      let r := (t.drop 1 ++ t.take 1).map (subByte aesSbox)
      xorL r [st.2.2, 0, 0, 0]
    else if i % 8 = 4 then t.map (subByte aesSbox) else t
  let n := xorL (lget [] w 0) t1
  (w.drop 1 ++ [n], st.2.1 ++ [n], if i % 8 = 0 then xtime st.2.2 else st.2.2)

/-- Chunks of `n` elements, `c` of them. -/
def chunksN {α : Type} (n : Nat) : Nat → List α → List (List α)
  | 0, _ => []
  | c + 1, l => l.take n :: chunksN n c (l.drop n)

/-- The fifteen round keys of AES-256, sixteen bytes each. -/
def aesKeys (key : Bytes) : List (List Nat) :=
  let w := chunksN 4 8 ((sliceB key 0 32).map (·.toNat))
  let r := (List.range' 8 52).foldl keyStep (w, w, 1)
  chunksN 16 15 r.2.1.flatten

/-- The cipher of FIPS 197 on one block. -/
def aesEncBlk (ks : List (List Nat)) (blk : List Nat) : List Nat :=
  let s0 := xorL blk (lget [] ks 0)
  let s := ((ks.drop 1).take 13).foldl
    (fun s k => xorL (mixCols (2, 3, 1, 1) (permL shiftRowsP (s.map (subByte aesSbox)))) k) s0
  xorL (permL shiftRowsP (s.map (subByte aesSbox))) (lget [] ks 14)

/-- The inverse cipher of FIPS 197 on one block. -/
def aesDecBlk (ks : List (List Nat)) (blk : List Nat) : List Nat :=
  let s0 := (permL invShiftRowsP (xorL blk (lget [] ks 14))).map (subByte aesInvSbox)
  let s := ((ks.drop 1).take 13).reverse.foldl
    (fun s k => (permL invShiftRowsP (mixCols (14, 11, 13, 9) (xorL s k))).map (subByte aesInvSbox)) s0
  xorL s (lget [] ks 0)

/-- Bytes as numbers. -/
def natsOf (b : Bytes) : List Nat := b.map (·.toNat)

/-- Numbers as bytes. -/
def bytesOf (l : List Nat) : Bytes := l.map (BitVec.ofNat 8)

/-- AES-256 of one 16-byte block. -/
def aesEnc (key blk : Bytes) : Bytes := bytesOf (aesEncBlk (aesKeys key) (natsOf (sliceB blk 0 16)))

/-! ## AES-XTS-256 (IEEE 1619) on a 64-byte line (11 R293) -/

/-- Multiplication of the tweak by x in GF(2^128), little-endian (IEEE 1619). -/
def xtsMul (t : Nat) : Nat :=
  if t < 2 ^ 127 then 2 * t else ((2 * t) % 2 ^ 128) ^^^ 0x87

/-- The tweaks of `n` blocks from `t`. -/
def xtsTweaks : Nat → Nat → List Nat
  | 0, _ => []
  | n + 1, t => t :: xtsTweaks n (xtsMul t)

/-- A line through XTS with the block function `f` (the cipher or its inverse). -/
def xtsLine (f : List Nat → List Nat) (tweakKey : Bytes) (unit : Nat) (line : Bytes) : Bytes :=
  let t0 := ofLe (aesEnc tweakKey (leBytes 16 unit))
  ((xtsTweaks 4 t0).zip (chunksN 16 4 (natsOf (sliceB line 0 64)))).flatMap (fun e =>
    let tw := natsOf (leBytes 16 e.1)
    bytesOf (xorL (f (xorL e.2 tw)) tw))

/-- Encryption of the 64-byte line at HBM physical address `64 * unit` under a context key (11 R293). -/
def xtsEnc (kctx : BitVec 256) (unit : Nat) (line : Bytes) : Bytes :=
  xtsLine (aesEncBlk (aesKeys (keyBytes (kdf kctx "KG9-XTS-DATA" []))))
    (keyBytes (kdf kctx "KG9-XTS-TWEAK" [])) unit line

/-- Decryption of the 64-byte line at HBM physical address `64 * unit` under a context key (11 R293). -/
def xtsDec (kctx : BitVec 256) (unit : Nat) (line : Bytes) : Bytes :=
  xtsLine (aesDecBlk (aesKeys (keyBytes (kdf kctx "KG9-XTS-DATA" []))))
    (keyBytes (kdf kctx "KG9-XTS-TWEAK" [])) unit line

/-! ## AES-256-GCM (SP 800-38D) with a 96-bit IV and a 128-bit tag (09 R250) -/

/-- One step of the GHASH product, most significant bit of `x` first. -/
def ghashMulGo (x : Nat) : Nat → Nat → Nat → Nat
  | 0, _, z => z
  | n + 1, v, z =>
    let z := if Nat.testBit x n then z ^^^ v else z
    let v := if v % 2 = 1 then (v / 2) ^^^ (0xE1 <<< 120) else v / 2
    ghashMulGo x n v z

/-- The product of GHASH. -/
def ghashMul (x h : Nat) : Nat := ghashMulGo x 128 h 0

/-- Zero padding to a multiple of 16 bytes. -/
def pad16 (b : Bytes) : Bytes := b ++ List.replicate ((16 - b.length % 16) % 16) 0

/-- GHASH of whole blocks. -/
def ghash (h : Nat) (b : Bytes) : Nat :=
  (chunksN 16 (b.length / 16) b).foldl (fun y blk => ghashMul (y ^^^ ofBe blk) h) 0

/-- The counter-mode stream of `n` blocks from counter `c`. -/
def gcmStream (ks : List (List Nat)) (iv : Bytes) : Nat → Nat → Bytes
  | 0, _ => []
  | n + 1, c => bytesOf (aesEncBlk ks (natsOf (iv ++ beBytes 4 c))) ++ gcmStream ks iv n (c + 1)

/-- Exclusive or of two byte strings. -/
def xorB (a b : Bytes) : Bytes := List.zipWith (fun x y => x ^^^ y) a b

/-- The GCM tag over additional data `aad` and ciphertext `ct`. -/
def gcmTag (ks : List (List Nat)) (iv aad ct : Bytes) : Bytes :=
  let h := ofBe (bytesOf (aesEncBlk ks (List.replicate 16 0)))
  let s := ghash h (pad16 aad ++ pad16 ct ++ beBytes 8 (8 * aad.length) ++ beBytes 8 (8 * ct.length))
  xorB (beBytes 16 s) (gcmStream ks iv 1 1)

/-- The counter-mode half of GCM, its own inverse. -/
def gcmCrypt (ks : List (List Nat)) (iv b : Bytes) : Bytes :=
  xorB b (gcmStream ks iv (ceilDiv b.length 16) 2)

/-- Ciphertext and tag of a plaintext (09 R250). -/
def gcmSeal (key iv aad pt : Bytes) : Bytes × Bytes :=
  let ks := aesKeys key
  let ct := gcmCrypt ks iv pt
  (ct, gcmTag ks iv aad ct)

/-- The plaintext, if the tag verifies (09 R250). -/
def gcmOpen (key iv aad ct tag : Bytes) : Option Bytes :=
  let ks := aesKeys key
  if gcmTag ks iv aad ct = tag then some (gcmCrypt ks iv ct) else none

/-! ## AES Key Wrap, KW (SP 800-38F), of one 256-bit key (11 R291) -/

/-- The integrity check value of KW. -/
def kwIcv : Bytes := List.replicate 8 0xA6

/-- One step of the wrapping function: `t` counts from 1. -/
def kwStep (ks : List (List Nat)) (st : Bytes × List Bytes) (t : Nat) : Bytes × List Bytes :=
  let b := bytesOf (aesEncBlk ks (natsOf (st.1 ++ lget [] st.2 0)))
  (xorB (b.take 8) (beBytes 8 t), st.2.drop 1 ++ [b.drop 8])

/-- One step of the unwrapping function. -/
def kwUnstep (ks : List (List Nat)) (st : Bytes × List Bytes) (t : Nat) : Bytes × List Bytes :=
  let b := bytesOf (aesDecBlk ks (natsOf (xorB st.1 (beBytes 8 t) ++ lget [] st.2 3)))
  (b.take 8, b.drop 8 :: st.2.take 3)

/-- KW(kek, k): 40 bytes (11 R291). -/
def kwWrap (kek k : BitVec 256) : Bytes :=
  let r := (List.range' 1 24).foldl (kwStep (aesKeys (keyBytes kek))) (kwIcv, chunksN 8 4 (keyBytes k))
  r.1 ++ r.2.flatten

/-- The key a wrapped key holds, if the integrity check passes (11 R291). -/
def kwUnwrap (kek : BitVec 256) (w : Bytes) : Option (BitVec 256) :=
  let r := (List.range' 1 24).reverse.foldl (kwUnstep (aesKeys (keyBytes kek)))
    (sliceB w 0 8, chunksN 8 4 (sliceB w 8 32))
  if r.1 = kwIcv then some (keyOf r.2.flatten) else none

end Sys2Proof
end

