-- ==== Sys2Proof/Machine/Codes.lean ====
section
/-!
DEFINITION. The error codes and their classes (05 R137).
-/
namespace Sys2Proof.Machine

def errCmdInvalid : Nat := 0x0101
def errObjState : Nat := 0x0102
def errNotOwner : Nat := 0x0103
def errVaOverlap : Nat := 0x0104
def errPaOverlap : Nat := 0x0105
def errPtExhausted : Nat := 0x0106
def errPageFault : Nat := 0x0107
def errDoorbellOwner : Nat := 0x0108
def errDoorbellInvalid : Nat := 0x0109
def errJobInvalid : Nat := 0x010A
def errCtxAborted : Nat := 0x010B
def errEventSaturated : Nat := 0x010C
def errErqOverflow : Nat := 0x010D
def errExaWindow : Nat := 0x0201
def errExaNonfinite : Nat := 0x0202
def errExaMismatch : Nat := 0x0203
def errReduceGroup : Nat := 0x0204
def errDescInvalid : Nat := 0x0301
def errBelayOverflow : Nat := 0x0302
def errBelaySource : Nat := 0x0303
def errHbmCorrected : Nat := 0x0401
def errHbmUncorrectable : Nat := 0x0402
def errDepositRefused : Nat := 0x0501
def errHostAccess : Nat := 0x0502
def errHostLinkDown : Nat := 0x0503
def errBivouacIncomplete : Nat := 0x0504
def errBivouacClaim : Nat := 0x0505
def errLinkDown : Nat := 0x0601
def errLinkTimeout : Nat := 0x0602
def errLinkRetrain : Nat := 0x0603
def errTagQuota : Nat := 0x0604
def errCodingInvalid : Nat := 0x0605
def errLossyInArchive : Nat := 0x0606
def errGcmTag : Nat := 0x0607
def errKeySlot : Nat := 0x0608
def errUnreachable : Nat := 0x0609
def errRemoteCtx : Nat := 0x060A
def errEpochChanged : Nat := 0x0701
def errAddressConflict : Nat := 0x0702
def errMirrorFailed : Nat := 0x0703
def errFailover : Nat := 0x0704
def errRoceNotWritable : Nat := 0x0801
def errRoceQp : Nat := 0x0802
def errEthLinkDown : Nat := 0x0803
def errSecureAborted : Nat := 0x0901
def errSecureUnavailable : Nat := 0x0902
def errDebugEvict : Nat := 0x0903
def errSignature : Nat := 0x0904
def errTileWatchdog : Nat := 0x0A01
def errJobWatchdog : Nat := 0x0A02
def errConvicted : Nat := 0x0A03
def errAbseilReset : Nat := 0x0A04
def errOutOfService : Nat := 0x0A05
def errMcWatchdog : Nat := 0x0A06
def errFlashNotBlank : Nat := 0x0B01
def errFlashBankXip : Nat := 0x0B02
def errSettingsSchema : Nat := 0x0B03
def errImageFallback : Nat := 0x0B04
def errCvuMismatch : Nat := 0x0B05
def errDictAccess : Nat := 0x0B06
def errDictNoObject : Nat := 0x0B07
def errHmac : Nat := 0x0B08
def errThermal : Nat := 0x0B09
def errPmbus : Nat := 0x0B0A

/-- Codes of class N, J, C and D; every other code is of class O (R137). -/
def codesN : List Nat :=
  [errErqOverflow, errHbmCorrected, errBivouacIncomplete, errLinkRetrain, errEpochChanged, errEthLinkDown,
   errSettingsSchema]
def codesJ : List Nat := [errJobInvalid, errHbmUncorrectable, errTileWatchdog, errAbseilReset]
def codesC : List Nat := [errCtxAborted, errDescInvalid, errDebugEvict, errJobWatchdog, errConvicted]
def codesD : List Nat :=
  [errHostLinkDown, errAddressConflict, errMirrorFailed, errFailover, errSignature, errOutOfService, errMcWatchdog,
   errImageFallback, errThermal]

/-- The CLASS field of a code (R136, R137). -/
def errClass (code : Nat) : Nat :=
  if codesN.contains code then 0 else if codesJ.contains code then 2
  else if codesC.contains code then 3 else if codesD.contains code then 4 else 1

end Sys2Proof.Machine
end

