-- ==== Sys2Proof/Machine/Ops.lean ====
section
/-!
DEFINITION. The named operations every block uses: domains, outputs, error records, host writes, objects, memory, events.
-/
namespace Sys2Proof.Machine

/-! ## Domains and fields -/

def dHOST : Nat := 0
def dNET : Nat := 1
def dLNKA : Nat := 2
def dLNKB : Nat := 3
def dMEM : Nat := 4
def dCQ (q : Nat) : Nat := 5 + q
def dSEC : Nat := 9

/-- A domain is on (13 R328). -/
def domOn (s : State) (d : Nat) : Bool := s.pwr.on.toNat.testBit d

/-- The MC runs: main power is present, no Cold reset is held and the device is not in trip hold (13, 18 R445, R457). -/
def mcRuns (s : State) : Bool := s.pwr.main && !s.pwr.held && !s.pwr.trip

/-- The MC runs, and no debugger has halted it (11 R304). -/
def mcAwake (s : State) : Bool := mcRuns s && !s.kh.halted

/-- The value of a numeric dictionary object, or its catalogue default (15 R416). -/
def param (s : State) (index dflt : Nat) : Nat :=
  match tget [] s.dict.val (index * 256) with
  | [] => dflt
  | b => ofLe b

/-- CAN_STBY is high: Field Bus Enable is 0, or PWR_OK is low (18 R451). -/
def canStby (s : State) : Bool := !s.pwr.pwrOk || decide (param s 0x1028 1 = 0)
def cvuOf (s : State) (c : Nat) : Cvu := lget {} s.cvu c
def setCvu (s : State) (c : Nat) (x : Cvu) : State := { s with cvu := lset s.cvu c x }
def ctxOf (s : State) (c : Nat) : Ctx := tget {} s.obj.ctx c
def queueOf (s : State) (q : Nat) : Queue := tget {} s.obj.q q
def moOf (s : State) (m : Nat) : MemObj := tget {} s.obj.mo m
def evOf (s : State) (e : Nat) : Event := tget {} s.obj.ev e
def tileOf (s : State) (t : Nat) : Tile := tget {} s.tile t
def slotOf (s : State) (t n : Nat) : Slot := tget {} (tileOf s t).win n
def quadOf (s : State) (q : Nat) : Quad := lget {} s.quad q
def portOf (s : State) (p : Nat) : Port := lget {} s.port p
def qpOf (s : State) (q : Nat) : Qp := tget {} s.eth.qp q

def setCtx (s : State) (c : Nat) (x : Ctx) : State := { s with obj.ctx := tput {} s.obj.ctx c x }
def setQueue (s : State) (q : Nat) (x : Queue) : State := { s with obj.q := tput {} s.obj.q q x }
def setMo (s : State) (m : Nat) (x : MemObj) : State := { s with obj.mo := tput {} s.obj.mo m x }
def setEv (s : State) (e : Nat) (x : Event) : State := { s with obj.ev := tput {} s.obj.ev e x }
def setTile (s : State) (t : Nat) (x : Tile) : State := { s with tile := tput {} s.tile t x }
def setSlot (s : State) (t n : Nat) (x : Slot) : State :=
  let tl := tileOf s t
  setTile s t { tl with win := tput {} tl.win n x }
def setQuad (s : State) (q : Nat) (x : Quad) : State := { s with quad := lset s.quad q x }
def setPort (s : State) (p : Nat) (x : Port) : State := { s with port := lset s.port p x }
def setQp (s : State) (q : Nat) (x : Qp) : State := { s with eth.qp := tput {} s.eth.qp q x }

/-- The quadrant of a tile (03 R59). -/
def quadOfTile (t : Nat) : Nat := t / 24

/-- The tiles of a quadrant (03 R59). -/
def tilesOf (q : Nat) : List Nat := (List.range 24).map (fun i => 24 * q + i)

/-- The context that owns a tile's quadrant (03 R61). -/
def tileOwner (s : State) (t : Nat) : Option Nat := (quadOf s (quadOfTile t)).owner

/-- A number that a draw of a free value names; each use advances `free` (log 7). -/
def drawn (s : State) : State := { s with free := s.free + 1 }

/-- The device sends something outward (log 3). -/
def emit (o : Out) (s : State) : State := { s with out := s.out ++ [o] }

def emitAll (l : List Out) (s : State) : State := { s with out := s.out ++ l }

/-- A left fold over a list of numbers. -/
def each (l : List Nat) (f : Nat → State → State) (s : State) : State := l.foldl (fun a i => f i a) s

/-- A statistics counter of the dictionary rises (15 R416). -/
def bump (index sub n : Nat) (s : State) : State :=
  { s with dict.stat := tput 0 s.dict.stat (index * 256 + sub) (satAdd 64 (tget 0 s.dict.stat (index * 256 + sub)) n) }

/-! ## EMERGENCY messages (15 R397) -/

/-- The CAN node ID: the strap when it is 1 to 127, else object 0x1021; 0 is listen-only (15 R388). -/
def nodeId (s : State) : Nat :=
  if s.pwr.strapNode ≠ 0 then s.pwr.strapNode.toNat else s.dict.node.toNat

/-- The CAN FD data lengths above 8 bytes (15 R390). -/
def canLens : List Nat := [8, 12, 16, 20, 24, 32, 48, 64]

/-- A frame's bytes padded to the smallest CAN FD data length (15 R390). -/
def canPad (b : Bytes) : Bytes :=
  b ++ List.replicate (if b.length ≤ 8 then 0 else ((canLens.find? (fun n => decide (b.length ≤ n))).getD 64) - b.length) 0

/-- A message the node transmits: a listen-only or absent node transmits nothing (15 R387, R388). -/
def canSend (fc : Nat) (data : Bytes) (s : State) : State :=
  if s.dict.onBus && !s.dict.busOff && decide (nodeId s ≠ 0) then
    let bus := s.dict.bus
    emit (.can (fc * 128 + nodeId s) (canPad data))
      { s with dict.bus := lset bus 0 (lget 0 bus 0 + 1), dict.txErr := s.dict.txErr - 1 }
  else s

/-- The codes that send an EMERGENCY (15 R397). -/
def isEmergency (e : ErrRec) : Bool :=
  decide (errClass e.code = 4) || decide (e.code = errSettingsSchema) ||
    (decide (e.code = errLinkDown) && decide (e.src = 5))

/-- The 16-byte payload (15 R397). -/
def emergencyBytes (e : ErrRec) : Bytes :=
  leBytes 2 e.code ++ leBytes 1 (errClass e.code) ++ leBytes 1 e.src ++ leBytes 2 e.unit ++ leBytes 2 0 ++
    leBytes 8 e.detail

/-- Sending one EMERGENCY under Emergency Inhibit (15 R397). -/
def sendEmergency (b : Bytes) (s : State) : State :=
  let code := leAt b 0 2
  let lim := param s 0x1024 100 * 1000000
  match s.dict.emergSent.find? (fun x => x.1 = code && decide (s.now < x.2 + lim)) with
  | some _ =>
    let bus := s.dict.bus
    { s with dict.bus := lset bus 5 (lget 0 bus 5 + 1) }
  | none =>
    let sent := (code, s.now) :: s.dict.emergSent.filter (fun x => x.1 ≠ code)
    canSend 1 b { s with dict.emergSent := sent }

/-- An EMERGENCY is due: sent at once, or once the node has come on the bus (15 R397). -/
def emergency (e : ErrRec) (s : State) : State :=
  if isEmergency e then
    if s.dict.onBus then sendEmergency (emergencyBytes e) s
    else { s with dict.emerg := s.dict.emerg ++ [emergencyBytes e] }
  else s

/-- The device drives CAN_STBY to its level (18 R451). -/
def stbyDrive (s : State) : State := emit (.canStby (canStby s)) s

/-! ## Error records (05 R133, R136) -/

/-- A record waits for the arbiter; with HOST off it is dropped (05 R137). -/
def record (e : ErrRec) (s : State) : State :=
  if domOn s dHOST then { s with erq.incoming := s.erq.incoming ++ [e] } else s

/-- An error is raised: its record, and its EMERGENCY where its code sends one. -/
def raise (e : ErrRec) (s : State) : State := record e (emergency e s)

/-- An error whose record is written when the host driver first sets ERQ_CTRL.EN (06 R164, 14 R375, R376, 18 R458). -/
def owe (e : ErrRec) (s : State) : State :=
  let s := emergency e s
  { s with pwr.due := s.pwr.due ++ [e] }

/-- The 64-byte line of a record (05 R136). OFFSET is written whole: the value of a bad LIST entry may pass bit 21 (03 R65;
log 69). -/
def errLine (e : ErrRec) (phase : Bool) (seq time : Nat) : Bytes :=
  leBytes 2 e.code ++ leBytes 1 (errClass e.code + 8 * b2n phase) ++ leBytes 1 e.src ++
  leBytes 1 (match e.ctx with
    | some c => c % 128 + 128
    | none => 0) ++ leBytes 1 0 ++ leBytes 2 e.unit ++
  leBytes 8 time ++ leBytes 8 seq ++ leBytes 4 e.jobId ++ leBytes 2 e.dtag ++ leBytes 2 (e.lane % 4096) ++
  leBytes 4 e.offset ++ leBytes 4 e.count ++ leBytes 8 e.addr ++ leBytes 8 e.detail ++ leBytes 8 0

/-- One aggregation window of 1 ms (09 R236, R464, 10 R272, 14 R357): the count carried by a record to be written now,
or none where the occurrence is only counted. -/
def aggregate (kind key n : Nat) (s : State) : Option Nat × State :=
  match s.txn.agg.find? (fun a => a.kind = kind && decide (a.key = key)) with
  | some a =>
    let rest := s.txn.agg.filter (fun a => !(a.kind = kind && decide (a.key = key)))
    if s.now < a.since + 1000000 then (none, { s with txn.agg := rest ++ [{ a with count := a.count + n }] })
    else (some a.count, { s with txn.agg := rest ++ [{ kind := kind, key := key, since := s.now }] })
  | none => (some 0, { s with txn.agg := s.txn.agg ++ [{ kind := kind, key := key, since := s.now }] })

/-! ## Host memory (06 R143, R146) -/

/-- A byte string the device reads from host memory: the bytes the command carries, free bytes elsewhere (log 6). -/
def hostRead (s : State) (hr : List Host.Cell) (a n : Nat) : Bytes :=
  (List.range n).map (fun i =>
    match hr.find? (fun c => c.1 = a + i) with
    | some c => c.2
    | none => Config.hostByte s.free (a + i))

/-- CXL.cache carries the accesses to Shared pages (06 R140). -/
def usesCache (s : State) : Bool := s.pwr.cxl && (decide (s.pwr.rate = some .gt64) || decide (s.pwr.rate = some .gt32))

/-- The requests of a write of `n` bytes (06 R143): No Snoop on a Device-Owned page; else one for each 64-byte line, or a snooped
PCIe write where CXL.cache is not used (R140). -/
def writeReqs (s : State) (addr n : Nat) (owned : Bool) : List WrReq :=
  if owned then [.memWr true]
  else if !usesCache s then [.memWr false]
  else
    (List.range ((addr + n + 63) / 64 - addr / 64)).map (fun i =>
      let a := 64 * (addr / 64 + i)
      if addr ≤ a ∧ a + 64 ≤ addr + n then .itoMWr else .woWrInv)

/-- A write on host memory: outstanding until it lands (R146); discarded once the host link is lost (R162). Relaxed Ordering is
set on data of Device-Owned pages alone (R149). -/
def hostWrite (addr : Nat) (data : Bytes) (owned : Bool) (use : HostUse) (s : State) : State :=
  if s.hif.loss ≠ .idle then s
  else
    let id := s.hif.nextReq
    emit (.hostWrite id addr data (writeReqs s addr data.length owned) (owned && s.pwr.relaxed))
      { s with
        hif.nextReq := id + 1
        hif.reqs := s.hif.reqs ++ [{ id := id, addr := addr, data := data, use := use }] }

/-- The reset value of a byte of BAR4: a vector's Vector Control bit 0 masks it (log 70). -/
def msixReset (a : Nat) : Byte := if a < 0x8000 ∧ a % 16 = 12 then 1 else 0

/-- Bytes of the MSI-X table and PBA (R138). -/
def msixRead (s : State) (a n : Nat) : Bytes := (memRead 0 s.hif.msix a n).zipIdx.map (fun e => e.1 ^^^ msixReset (a + e.2))

def msixStore (a : Nat) (b : Bytes) (s : State) : State :=
  { s with hif.msix := memWrite 0 s.hif.msix a (b.zipIdx.map (fun e => e.1 ^^^ msixReset (a + e.2))) }

/-- A vector is masked, by its entry or for the whole function (log 70). -/
def msixMasked (s : State) (v : Nat) : Bool := s.hif.msixMask || (byteAt' s v).getLsbD 0
where byteAt' (s : State) (v : Nat) : Byte := (msixRead s (16 * v + 12) 1).headD 0

/-- The Pending Bit of a vector, in the PBA at BAR4 + 0x8000 (R138). -/
def msixPend (v : Nat) (b : Bool) (s : State) : State :=
  let a := 0x8000 + v / 8
  let m : Byte := BitVec.ofNat 8 (2 ^ (v % 8))
  let x := (msixRead s a 1).headD 0
  msixStore a [if b then x ||| m else x &&& ~~~m] s

/-- MSI-X messages leave: the function has them enabled, and the host link is not lost (R162). -/
def msixOn (s : State) : Bool := s.hif.msixEn && decide (s.hif.loss = .idle)

/-- An MSI-X message; a masked vector becomes pending (R138; log 70). -/
def msix (v : BitVec 11) (s : State) : State :=
  if !msixOn s then s
  else if msixMasked s v.toNat then msixPend v.toNat true s
  else emit (.msix v.toNat) s

/-- The pending vectors, ascending. -/
def msixPending (s : State) : List Nat :=
  s.hif.msix.flatMap (fun e =>
    if 0x8000 ≤ e.1 then
      ((List.range 8).filter (fun i => e.2.getLsbD i)).map (fun i => 8 * (e.1 - 0x8000) + i)
    else [])

/-- Every pending vector that is no longer masked sends its message (log 70). -/
def msixRelease (s : State) : State :=
  if !msixOn s then s
  else (msixPending s).foldl (fun s v => if msixMasked s v then s else emit (.msix v) (msixPend v false s)) s

def msixIf (v : Option (BitVec 11)) (s : State) : State :=
  match v with
  | some v => msix v s
  | none => s

/-! ## Address translation (05 R115 to R118) -/

/-- A piece of a virtual range inside one memory object: object number, object, offset in it, length. -/
structure Piece where
  num : Nat
  mo : MemObj
  off : Nat
  len : Nat
  deriving DecidableEq, Repr

/-- The object of context `c` that maps `va`. -/
def moAt (s : State) (c va : Nat) : Option (Nat × MemObj) :=
  s.obj.mo.find? (fun e => decide (e.2.st ≠ .free) && decide (e.2.ctx = c) && decide (e.2.va ≤ va) &&
    decide (va < e.2.va + e.2.size))

/-- The pieces of [va, va + n), in ascending order, up to the first unmapped address; and that address, if any.
Objects of one context do not overlap, so `fuel` objects bound the pieces. -/
def vaPieces (s : State) (c : Nat) : Nat → Nat → Nat → List Piece × Option Nat
  | 0, va, n => ([], if n = 0 then none else some va)
  | fuel + 1, va, n =>
    if n = 0 then ([], none)
    else
      match moAt s c va with
      | none => ([], some va)
      | some (k, m) =>
        let len := min n (m.va + m.size - va)
        let r := vaPieces s c fuel (va + len) (n - len)
        (⟨k, m, va - m.va, len⟩ :: r.1, r.2)

def translate (s : State) (c va n : Nat) : List Piece × Option Nat := vaPieces s c (s.obj.mo.length + 1) va n

/-- The object accepts a write (R118). -/
def moWritable (m : MemObj) : Bool := m.write && decide (m.st = .live)

/-! ## HBM (11 R293, 05 R116) -/

/-- Bytes stored in HBM. -/
def hbmRead (s : State) (pa n : Nat) : Bytes := memRead 0 s.hbm pa n

/-- Bytes stored into HBM. -/
def hbmWrite (pa : Nat) (b : Bytes) (s : State) : State := { s with hbm := memWrite 0 s.hbm pa b }

/-- The context key the memory engine uses, 0 where it holds none. -/
def memKeyOf (s : State) (c : Nat) : BitVec 256 := (tget none s.kh.memKey c).getD 0

/-- Lines [first, first + n) of HBM decrypted under a context key (11 R293). -/
def decLines (s : State) (k : BitVec 256) (first : Nat) : Nat → Bytes
  | 0 => []
  | n + 1 => xtsDec k first (hbmRead s (64 * first) 64) ++ decLines s k (first + 1) n

/-- Lines encrypted under a context key and stored (11 R293). -/
def encLines (k : BitVec 256) : Nat → Nat → Bytes → State → State
  | 0, _, _, s => s
  | n + 1, line, b, s => encLines k n (line + 1) (b.drop 64) (hbmWrite (64 * line) (xtsEnc k line (b.take 64)) s)

/-- Plain bytes of [pa, pa + n) under a context key: class U storage (11 R293). -/
def plainRead (s : State) (k : BitVec 256) (pa n : Nat) : Bytes :=
  if n = 0 then []
  else sliceB (decLines s k (pa / 64) ((pa + n - 1) / 64 - pa / 64 + 1)) (pa % 64) n

/-- Plain bytes stored as class U data: each 64-byte line is rewritten whole (11 R293). -/
def plainWrite (k : BitVec 256) (pa : Nat) (b : Bytes) (s : State) : State :=
  if b.isEmpty then s
  else
    let first := pa / 64
    let cnt := (pa + b.length - 1) / 64 - first + 1
    let old := decLines s k first cnt
    encLines k cnt first (putB old (pa % 64) b) s

/-- Bytes of an object in HBM, decrypted for class U (05 R116). -/
def objRead (s : State) (m : MemObj) (off n : Nat) : Bytes :=
  if m.cls = 0 then plainRead s (memKeyOf s m.ctx) (m.pa + off) n else hbmRead s (m.pa + off) n

/-- Bytes stored into an object in HBM, encrypted for class U (05 R116). -/
def objWriteRaw (m : MemObj) (off : Nat) (b : Bytes) (s : State) : State :=
  if m.cls = 0 then plainWrite (memKeyOf s m.ctx) (m.pa + off) b s else hbmWrite (m.pa + off) b s

/-! ## Mirror messages (10 R275, R276) -/

/-- The 20 + LEN bytes of a mirror message; the CRC-32C takes MSEQ first as the Fold Word (10 R275). -/
def mirBytes (mtype alive mseq arg : Nat) (body : Bytes) : Bytes :=
  let h := leBytes 1 mtype ++ leBytes 1 alive ++ leBytes 2 body.length ++ leBytes 4 mseq ++ leBytes 8 arg
  h ++ body ++ leBytes 4 (crc32c (leBytes 4 mseq ++ h ++ body))

/-- The Mirror Port (10 R273; object 0x2421, default 7). -/
def mirrorPort (s : State) : Nat := param s 0x2421 7

/-- A unit cut into DATA frames of at most 240 bytes (09 R226, 10 R275). -/
def framesOf (vcA : Bool) (b : Bytes) : List DFrame :=
  match chunksN 240 (b.length / 240 + 1) b with
  | [] => []
  | x :: r => { vcA := vcA, first := true, data := x } ::
      (r.filter (· ≠ [])).map (fun y => { vcA := vcA, first := false, data := y })

/-- Frames queued for transmission on a port. -/
def queueFrames (p : Nat) (l : List DFrame) (s : State) : State :=
  let x := portOf s p
  setPort s p { x with txQ := x.txQ ++ l.filter (fun f => !f.vcA), txA := x.txA ++ l.filter (·.vcA) }

/-- A millisecond in ns. -/
def msNs : Nat := 1000000

/-- The port that carries mirror messages: the Mirror Port, or the former one until it rejoins the bundles (10 R274, R284). -/
def mirPort (s : State) : Nat := s.pair.leaving.getD (mirrorPort s)

/-- Heartbeat Miss time in ns (10 R279; object 0x2423, default 5 ms). -/
def hbMiss (s : State) : Nat := param s 0x2423 5 * msNs

/-- A mirror message is sent: HEARTBEAT and ACK on VC-A, all others on VC-Q (10 R274, R275). It is kept until its ACK arrives, under
`ref` or, when it is first sent, its own MSEQ; one sent once is kept for the Heartbeat Miss time, so that BAD finds it (log 47). -/
def mirSend (mtype arg : Nat) (body : Bytes) (use : MirUse) (ref : Option Nat) (bad : Nat) (s : State) : State :=
  let alive := s.pair.aliveTx
  let mseq := s.pair.mseqTx
  let m := mirBytes mtype alive.toNat mseq arg body
  let s := queueFrames (mirPort s) (framesOf (decide (mtype = 1) || decide (mtype = 5)) m) s
  let kept := s.pair.out.filter (fun x => decide (x.use ≠ .once) || decide (s.now ≤ x.sent + hbMiss s))
  { s with
    pair.aliveTx := alive + 1, pair.mseqTx := (mseq + 1) % 2 ^ 32,
    pair.out := kept ++
      [{ mseq := mseq, mtype := mtype, arg := arg, body := body, use := use, bad := bad, ref := ref.getD mseq, sent := s.now }] }

/-- Stored bytes of [pa, pa + n) sent as WRITE messages of up to 4,096 bytes; answers their numbers (10 R276). -/
def mirrorChunks : Nat → Nat → Nat → State → List Nat × State
  | 0, _, _, s => ([], s)
  | fuel + 1, pa, n, s =>
    if n = 0 then ([], s)
    else
      let len := min n 4096
      let ref := s.pair.mseqTx
      let s := mirSend 2 pa (hbmRead s pa len) .data none 0 s
      let r := mirrorChunks fuel (pa + len) (n - len) s
      (ref :: r.1, r.2)

/-- The device mirrors its Bivouac writes (10 R276, R280). -/
def mirroring (s : State) : Bool :=
  !s.pair.role && (decide (s.pair.st = .paired) || decide (s.pair.st = .syncing))

/-- A write of the object's bytes: stored, and mirrored where the object is a Bivouac object of a primary (10 R276).
Answers the mirror messages the landing waits for: in PAIRED only. For class U the stored bytes are whole lines. -/
def objWrite (m : MemObj) (off : Nat) (b : Bytes) (s : State) : List Nat × State :=
  let s := objWriteRaw m off b s
  if m.biv && mirroring s && !b.isEmpty then
    let lo := if m.cls = 0 then (m.pa + off) / 64 * 64 else m.pa + off
    let hi := if m.cls = 0 then (m.pa + off + b.length + 63) / 64 * 64 else m.pa + off + b.length
    let r := mirrorChunks ((hi - lo) / 4096 + 1) lo (hi - lo) s
    (if s.pair.st = .paired then r.1 else [], r.2)
  else ([], s)

/-! ## Reading and writing context addresses -/

/-- A page of a host-memory object is Device-Owned (06 R142). -/
def isOwned (s : State) (num page : Nat) : Bool := tget false s.hif.owned (num * 2 ^ 36 + page)

/-- The bytes of one piece. -/
def pieceRead (s : State) (hr : List Host.Cell) (p : Piece) : Bytes :=
  if p.mo.host then hostRead s hr (p.mo.pa + p.off) p.len else objRead s p.mo p.off p.len

/-- A range of context addresses read: the bytes up to the first unmapped address, and that address (05 R118). -/
def vaRead (s : State) (hr : List Host.Cell) (c va n : Nat) : Bytes × Option Nat :=
  let r := translate s c va n
  (r.1.flatMap (pieceRead s hr), r.2)

/-- A write into a host-memory object, page by page under each page's bias (06 R142, R143). -/
def hostPieces (use : HostUse) (num : Nat) (m : MemObj) : Nat → Nat → Bytes → State → State
  | 0, _, _, s => s
  | fuel + 1, off, b, s =>
    if b.isEmpty then s
    else
      let len := 4096 - off % 4096
      let s := hostWrite (m.pa + off) (b.take len) (isOwned s num (off / 4096)) use s
      hostPieces use num m fuel (off + len) (b.drop len) s

/-- What a write to context addresses leaves to wait for: host requests it made and mirror messages (03 R67). -/
structure Wrote where
  st : State
  fault : Option Nat
  mirrors : List Nat
  deriving DecidableEq, Repr

/-- The pieces written in ascending order, up to the first that may not be written (05 R118). -/
def writePieces (use : HostUse) (c : Nat) : List Piece → Bytes → List Nat → State → Wrote
  | [], _, ms, s => ⟨s, none, ms⟩
  | p :: r, b, ms, s =>
    if !moWritable p.mo then ⟨s, some (p.mo.va + p.off), ms⟩
    else if p.mo.host then
      writePieces use c r (b.drop p.len) ms
        (hostPieces use p.num p.mo (p.len / 4096 + 2) p.off (b.take p.len) s)
    else
      let w := objWrite p.mo p.off (b.take p.len) s
      writePieces use c r (b.drop p.len) (ms ++ w.1) w.2

/-- Bytes written to context addresses (05 R118); what lies before the first fault is written. -/
def vaWrite (use : HostUse) (c va : Nat) (b : Bytes) (s : State) : Wrote :=
  let t := translate s c va b.length
  let w := writePieces use c t.1 b [] s
  match w.fault with
  | some _ => w
  | none => { w with fault := t.2 }

/-! ## Events (05 R129 to R131) -/

/-- An armed event whose counter meets HOST_THRESH writes its record, raises its vector and is disarmed (R131). NREC counts the
record being written too (log 69). -/
def evNotify (n : Nat) (s : State) : State :=
  let e := evOf s n
  if e.live && e.armed && decide (e.thresh ≤ e.cnt) then
    let v := if e.vecEn then some e.vec else none
    if e.recAddr = 0 then msixIf v (setEv s n { e with armed := false })
    else
      let k := e.nrec + 1
      let line := leBytes 2 n ++ leBytes 2 0 ++ leBytes 4 k.toNat ++ leBytes 8 e.cnt.toNat
      hostWrite e.recAddr.toNat line false (.eventRec v) (setEv s n { e with armed := false, nrec := k })
  else s

/-- A slot that waits in a WAIT-EVENT on event `n` of context `c` (03 R83). -/
def waitsOn (n : Nat) (x : Slot) : Bool :=
  decide (x.st = .executing) && decide (bitsAt x.desc 0 0 4 = 8) && decide (bitsAt x.desc 16 0 14 = n) &&
    decide (x.hit = none)

/-- Every waiting WAIT-EVENT whose threshold the counter meets has completed (R130). -/
def markWaits (c n : Nat) (p : Slot → Bool) (st : Nat) (s : State) : State :=
  { s with tile := tmap {} (fun t (x : Tile) =>
      if tileOwner s t = some c then
        { x with win := tmap {} (fun _ y => if waitsOn n y && p y then { y with hit := some st } else y) x.win }
      else x) s.tile }

/-- The counter takes a new value: waiters it meets complete, and the host is notified (R130, R131). -/
def evChange (n : Nat) (v : BitVec 64) (s : State) : State :=
  let e := evOf s n
  let s := setEv s n { e with cnt := v }
  evNotify n (markWaits e.ctx n (fun y => decide (leAt y.desc 24 8 ≤ v.toNat)) 0 s)

/-- An addition to an event counter; one that would pass 2^64 − 1 saturates and writes ERR_EVENT_SATURATED (R129).
`mk` names the source of the record. -/
def evAdd (n inc : Nat) (mk : ErrRec) (s : State) : State :=
  let e := evOf s n
  if e.cnt.toNat + inc > 2 ^ 64 - 1 then
    raise { mk with code := errEventSaturated, ctx := some e.ctx }
      (evChange n (BitVec.ofNat 64 (2 ^ 64 - 1)) s)
  else evChange n (BitVec.ofNat 64 (e.cnt.toNat + inc)) s

/-- Event `n` is live and owned by context `c` (05 R132). -/
def evOwned (s : State) (c n : Nat) : Bool := (evOf s n).live && decide ((evOf s n).ctx = c)

/-! ## Jobs -/

/-- JOB_ID of a submission entry (05 R123). -/
def Job.id (j : Job) : Nat := leAt j.entry 4 4
/-- QMASK (05 R123). -/
def Job.qmask (j : Job) : Nat := bitsAt j.entry 1 0 4
/-- The quadrants of QMASK, ascending. -/
def Job.quads (j : Job) : List Nat := (List.range 4).filter (fun q => j.qmask.testBit q)

/-- The job a tile runs a part of. -/
def jobOfTile (s : State) (t : Nat) : Option Job := (queueOf s (tileOf s t).queue).job

/-- The fields every record of a tile's descriptor carries (05 R136). -/
def tileRec (s : State) (t : Nat) (x : Slot) (code : Nat) : ErrRec :=
  { code := code, src := 0, ctx := tileOwner s t, unit := t,
    jobId := ((jobOfTile s t).map Job.id).getD 0, dtag := leAt x.desc 2 2, offset := x.off,
    job := some (tileOf s t).queue }

end Sys2Proof.Machine
end

