-- ==== Sys2Proof/Machine/Rtc.lean ====
section
/-!
DEFINITION. The real-time clock (17): counters, commands, trim, captures, alarms.
-/
namespace Sys2Proof.Machine

/-! ## The calendar (R425 to R428) -/

/-- The year is a leap year (R426). -/
def isLeap (y : Nat) : Bool := (decide (y % 4 = 0) && decide (y % 100 ≠ 0)) || decide (y % 400 = 0)

/-- The length of a month (R426); the manual gives none for a MONTH out of range (log 40). -/
def monthLen (y m : Nat) : Nat :=
  if m = 2 then (if isLeap y then 29 else 28)
  else if m = 4 ∨ m = 6 ∨ m = 9 ∨ m = 11 then 30
  else if 1 ≤ m ∧ m ≤ 12 then 31
  else 28 + Config.openVal m % 4

/-- A date of the calendar, and a time of day (R430). -/
def calValid (t : CalTime) : Bool :=
  decide (1900 ≤ t.year.toNat) && decide (t.year.toNat ≤ 2299) && decide (1 ≤ t.month.toNat) && decide (t.month.toNat ≤ 12) &&
    decide (1 ≤ t.day.toNat) && decide (t.day.toNat ≤ monthLen t.year.toNat t.month.toNat) && decide (t.hour.toNat ≤ 23) &&
    decide (t.min.toNat ≤ 59) && decide (t.sec.toNat ≤ 59)

/-- A calendar time in the TIME layout (15 R378, 06 R160). -/
def calBytes (t : CalTime) : Bytes :=
  leBytes 2 t.sub.toNat ++ leBytes 1 t.sec.toNat ++ leBytes 1 t.min.toNat ++ leBytes 1 t.hour.toNat ++
    leBytes 1 t.day.toNat ++ leBytes 1 t.month.toNat ++ leBytes 1 0 ++ leBytes 2 t.year.toNat

/-- The time in TIME bytes. -/
def calOf (b : Bytes) : CalTime :=
  { sub := BitVec.ofNat 15 (leAt b 0 2), sec := BitVec.ofNat 6 (byteAt b 2), min := BitVec.ofNat 6 (byteAt b 3),
    hour := BitVec.ofNat 5 (byteAt b 4), day := BitVec.ofNat 5 (byteAt b 5), month := BitVec.ofNat 4 (byteAt b 6),
    year := BitVec.ofNat 12 (leAt b 8 2) }

/-- TIME bytes that hold a valid date and no field out of its range (15 R378, R430). -/
def timeOk (b : Bytes) : Bool := decide (calBytes (calOf b) = b) && calValid (calOf b)

/-- MONTH and YEAR carry (R425, R427). -/
def nextMonth (t : CalTime) : CalTime :=
  if 12 ≤ t.month.toNat then
    { t with month := 1, year := if 2299 ≤ t.year.toNat then 1900 else t.year + 1 }
  else { t with month := t.month + 1 }

/-- DAY carries (R425, R427). -/
def nextDay (t : CalTime) : CalTime :=
  if monthLen t.year.toNat t.month.toNat ≤ t.day.toNat then nextMonth { t with day := 1 } else { t with day := t.day + 1 }

/-- The tick after the end of the calendar (R427): WDAY stays (R428). -/
def calWraps (t : CalTime) : Bool := decide (2299 ≤ t.year.toNat) && decide (12 ≤ t.month.toNat) &&
  decide (monthLen t.year.toNat t.month.toNat ≤ t.day.toNat)

/-- SEC, MIN and HOUR carry; answers whether DAY increments. -/
def nextSec (t : CalTime) : Bool × CalTime :=
  if t.sec.toNat < 59 then (false, { t with sec := t.sec + 1 })
  else if t.min.toNat < 59 then (false, { t with sec := 0, min := t.min + 1 })
  else if t.hour.toNat < 23 then (false, { t with sec := 0, min := 0, hour := t.hour + 1 })
  else (true, nextDay { t with sec := 0, min := 0, hour := 0 })

/-- WDAY advances (R428). -/
def nextWday (w : BitVec 3) : BitVec 3 := if 6 ≤ w.toNat then 0 else w + 1

/-! ## A tick (R425, R431 to R434) -/

/-- |TRIM|, TRIM being two's complement. -/
def trimPulses (v : BitVec 9) : Nat := v.toInt.natAbs

/-- What SUB advances by at a tick of prescaler value `p` under a window's TRIM (R434). -/
def trimStep (v : BitVec 9) (p : Nat) : Nat :=
  if p % 4096 = 0 ∧ p / 4096 < trimPulses v then (if v.toInt < 0 then 0 else 2) else 1

/-- The counters advance by `n` of SUB; a pending shift takes effect where SUB would pass 32,767 (R425, R433, R434). -/
def rtcAdvance (n : Nat) (r : Rtc) : Rtc :=
  let v := r.t.sub.toNat + n
  if v ≤ 32767 then { r with t := { r.t with sub := BitVec.ofNat 15 v } }
  else
    let carry := fun (sub : Nat) =>
      let c := nextSec r.t
      { r with t := { c.2 with sub := BitVec.ofNat 15 sub },
               wday := if c.1 && !calWraps r.t then nextWday r.wday else r.wday, shift := none }
    match r.shift with
    | none => carry (v - 32768)
    | some n =>
      if 0 < n then carry n.toNat
      else { r with t := { r.t with sub := BitVec.ofNat 15 (32768 - n.natAbs) }, shift := none }

/-- The accepted command is applied (R431 to R433). -/
def rtcCommand (r : Rtc) : Rtc :=
  match r.cmd with
  | none => r
  | some (op, n) =>
    let r := { r with cmd := none }
    if op = 1 then { r with capC := r.t }
    else if op = 2 then { r with t := calOf (leBytes 10 r.setV.toNat), shift := none }
    else { r with shift := some n }

/-- The alarm's selected fields equal the counters' (R429a). -/
def almMatches (t : CalTime) (a : RtcAlarm) : Bool :=
  let x := leBytes 10 a.time.toNat
  let m := a.mask.toNat
  decide (m ≠ 0) && (!m.testBit 0 || decide (t.sec.toNat = byteAt x 2)) && (!m.testBit 1 || decide (t.min.toNat = byteAt x 3)) &&
    (!m.testBit 2 || decide (t.hour.toNat = byteAt x 4)) && (!m.testBit 3 || decide (t.day.toNat = byteAt x 5)) &&
    (!m.testBit 4 || decide (t.month.toNat = byteAt x 6)) && (!m.testBit 5 || decide (t.year.toNat = leAt x 8 2))

/-- An alarm after a tick: it fires where it passes from not matching to matching (R429a). -/
def almTick (t : CalTime) (a : RtcAlarm) : RtcAlarm :=
  let m := almMatches t a
  { a with hit := a.hit || (m && !a.matching), matching := m }

/-- RTC_ALARM_N is low (R429a). -/
def rtcAlarmLow (r : Rtc) : Bool := r.alm0.hit || r.alm1.hit

/-- An alarm fires as it passes from not matching to matching (R429a). -/
def almFires (old new : RtcAlarm) : Bool := new.hit && new.matching && !old.matching

/-- The RTC changes: an alarm that fires interrupts the MC, and RTC_ALARM_N follows the flags (R429a). -/
def setRtc (r : Rtc) (s : State) : State :=
  let low := rtcAlarmLow r
  let irqs := (if almFires s.rtc.alm0 r.alm0 then [Out.rtcIrq false] else []) ++
    (if almFires s.rtc.alm1 r.alm1 then [Out.rtcIrq true] else [])
  emitAll (irqs ++ (if rtcAlarmLow s.rtc = low then [] else [.rtcAlarm low])) { s with rtc := r }

/-- SHIFT_PEND (R433): from the acceptance of a SHIFT to the tick at which it takes effect. -/
def shiftPend (r : Rtc) : Bool :=
  r.shift.isSome || (match r.cmd with
    | some (op, _) => decide (op = 3)
    | none => false)

/-- One crystal tick of the clock. -/
def rtcTick (r : Rtc) : Rtc :=
  let p := r.prescale.toNat
  let r := if p = 0 then { r with trimNow := r.trim } else r
  let r := rtcAdvance (trimStep r.trimNow p) { r with prescale := r.prescale + 1 }
  let r := rtcCommand r
  let r := if r.failCap then { r with capH := r.t, capCause := 2, hwcap := true, failCap := false } else r
  { r with alm0 := almTick r.t r.alm0, alm1 := almTick r.t r.alm1 }

/-- RTC_TICK (R425); the clock stops where neither supply is present (18 R452). -/
def effRtcTick (s : State) : State := if s.pwr.main || s.rtc.vbat then setRtc (rtcTick s.rtc) s else s

/-- A fault capture (R435, cause 1). -/
def faultCapture (s : State) : State := { s with rtc := { s.rtc with capH := s.rtc.t, capCause := 1, hwcap := true } }

/-! ## Commands (R430 to R433, R437) -/

/-- A write of RTC_CMD with an OP and N: ignored while LOCKED; with CFG_ERR where R430 or R433 says so. -/
def rtcCmd (op : Nat) (n : Int) (s : State) : State :=
  let r := s.rtc
  let bad := r.cmd.isSome || decide (op = 0) || decide (3 < op) || (decide (op = 2) && !timeOk (leBytes 10 r.setV.toNat)) ||
    (decide (op = 3) && (decide (n = 0) || decide (n = -32768) || r.shift.isSome))
  if r.locked || !mcAwake s then s
  else if bad then { s with rtc := { r with cfgErr := true } }
  else { s with rtc := { r with cmd := some (op, n) } }

/-- CAPTURE (R431). -/
def effCapture (s : State) : State := rtcCmd 1 0 s
/-- SET (R432). -/
def effSet (s : State) : State := rtcCmd 2 0 s
/-- SHIFT (R433): `n` as the 16 bits of N. -/
def effShift (n : BitVec 16) (s : State) : State := rtcCmd 3 n.toInt s

/-- A Set Time value is applied (R432). -/
def rtcSetNow (b : Bytes) (s : State) : State :=
  if s.rtc.locked then s
  else
    let t := calOf b
    setRtc { s.rtc with
      setV := BitVec.ofNat 80 (ofLe b), t := t, shift := none, alm0 := almTick t s.rtc.alm0, alm1 := almTick t s.rtc.alm1 } s

/-- Current Time: a CAPTURE and its result (R431); a locked interface takes no CAPTURE (R437). -/
def rtcCaptureNow (s : State) : Bytes × State :=
  let s := if s.rtc.locked then s else { s with rtc := { s.rtc with capC := s.rtc.t } }
  (calBytes s.rtc.capC, s)

/-- Subsecond Shift (R433): refused while one is pending. -/
def rtcShiftNow (n : Int) (s : State) : Nat × State :=
  if s.rtc.locked then (0, s)
  else if shiftPend s.rtc then (errObjState, s)
  else (0, { s with rtc := { s.rtc with shift := some n } })

/-! ## Supplies (R429, R436, 18 R452) -/

/-- Main power falls below the threshold (R436): the interface locks, a capture is due, the supply is VBAT. -/
def rtcPowerFail (s : State) : State :=
  { s with rtc := { s.rtc with locked := true, failCap := true, onVbat := true, cmd := none } }

/-! ## Meanings of the commands -/

/-- CAPTURE (17 R431). -/
def execCapture (s : State) : Host.Outcome State Fault Refusal :=
  .next (effCapture s)

/-- SET (17 R432). -/
def execRtcSet (s : State) : Host.Outcome State Fault Refusal :=
  .next (effSet s)

/-- SHIFT (17 R433). -/
def execShift (n : BitVec 16) (s : State) : Host.Outcome State Fault Refusal :=
  .next (effShift n s)

/-- RTC_TICK (17 R425). -/
def execRtcTick (s : State) : Host.Outcome State Fault Refusal :=
  .next (effRtcTick s)

end Sys2Proof.Machine
end

