-- ==== Sys2Proof/Machine/Catalog.lean ====
section
/-!
DEFINITION. The dictionary's catalogue: the type, access right, privilege and default of each object, and the range of its
values (15 R377 to R380, R400).
-/
namespace Sys2Proof.Machine

/-- Types of dictionary values (15 R378). -/
inductive DType where
  | bool | u8 | u16 | u32 | u64 | i32 | i64 | f32
  | str (n : Nat)
  | blob (n : Nat)
  | time
  deriving DecidableEq, Repr

/-- Access rights (15 R379). -/
inductive DAcc where
  | ro | rw | wo | rwp | const
  deriving DecidableEq, Repr

/-- A row of the catalogue: index, entries of an array or 0, type, access, write privilege, default of a persisted object. -/
structure CatRow where
  index : Nat
  count : Nat
  ty : DType
  acc : DAcc
  priv : Nat
  dflt : Bytes
  deriving DecidableEq, Repr

/-- 1900-01-01 00:00:00 in the TIME layout (15 R378). -/
def epoch1900 : Bytes := leBytes 5 0 ++ leBytes 1 1 ++ leBytes 1 1 ++ leBytes 1 0 ++ leBytes 2 1900

/-- Objects of identity and field bus (15 R400). -/
def cat0 : List CatRow :=
  [⟨0x1000, 0, .u32, .const, 0, []⟩, ⟨0x1001, 0, .u8, .const, 0, []⟩, ⟨0x1002, 0, (.str 16), .const, 0, []⟩,
   ⟨0x1003, 0, .u64, .const, 0, []⟩, ⟨0x1004, 0, (.str 32), .const, 0, []⟩, ⟨0x1006, 0, .u32, .ro, 0, []⟩,
   ⟨0x1007, 0, .u32, .const, 0, []⟩, ⟨0x1008, 0, .u8, .const, 0, []⟩, ⟨0x1009, 0, .u16, .ro, 0, []⟩,
   ⟨0x1020, 0, .u8, .ro, 0, []⟩, ⟨0x1021, 0, .u8, .rwp, 1, (leBytes 1 0)⟩, ⟨0x1022, 0, .u8, .ro, 0, []⟩,
   ⟨0x1023, 0, .u16, .rwp, 1, (leBytes 2 1000)⟩, ⟨0x1024, 0, .u16, .rwp, 1, (leBytes 2 100)⟩,
   ⟨0x1025, 0, .bool, .ro, 0, []⟩, ⟨0x1026, 6, .u32, .ro, 0, []⟩, ⟨0x1027, 0, .u16, .rwp, 1, (leBytes 2 500)⟩,
   ⟨0x1028, 0, .bool, .rwp, 1, (leBytes 1 1)⟩]

/-- Objects of power and thermal (15 R400). -/
def cat1 : List CatRow :=
  [⟨0x1100, 0, .u8, .wo, 1, []⟩, ⟨0x1101, 0, .u8, .ro, 0, []⟩, ⟨0x1102, 0, .bool, .rwp, 1, (leBytes 1 1)⟩,
   ⟨0x1103, 0, .u16, .ro, 0, []⟩, ⟨0x1110, 16, .f32, .ro, 0, []⟩, ⟨0x1111, 16, .f32, .ro, 0, []⟩,
   ⟨0x1112, 0, .f32, .ro, 0, []⟩, ⟨0x1113, 0, .u64, .ro, 0, []⟩, ⟨0x1200, 0, .f32, .ro, 0, []⟩,
   ⟨0x1201, 16, .f32, .ro, 0, []⟩, ⟨0x1202, 4, .f32, .ro, 0, []⟩,
   ⟨0x1210, 0, .f32, .rwp, 1, (leBytes 4 0x42BE0000)⟩, ⟨0x1211, 0, .bool, .ro, 0, []⟩,
   ⟨0x1212, 0, .f32, .const, 0, []⟩, ⟨0x1213, 0, .u32, .ro, 0, []⟩, ⟨0x1214, 0, .time, .ro, 0, []⟩]

/-- Objects of links and Ethernet (15 R400). -/
def cat2 : List CatRow :=
  [⟨0x2000, 8, .u8, .ro, 0, []⟩, ⟨0x2001, 8, .bool, .rwp, 1, (leBytes 1 1)⟩,
   ⟨0x2002, 8, .u16, .rwp, 1, (leBytes 2 256)⟩, ⟨0x2003, 8, .u16, .rwp, 1, (leBytes 2 128)⟩,
   ⟨0x2004, 8, .u8, .rwp, 1, (leBytes 1 8)⟩, ⟨0x2005, 8, .u16, .rwp, 1, (leBytes 2 8)⟩,
   ⟨0x2006, 8, .bool, .rwp, 1, (leBytes 1 1)⟩, ⟨0x2007, 8, .u64, .ro, 0, []⟩, ⟨0x2008, 8, .u8, .ro, 0, []⟩,
   ⟨0x2010, 8, .u64, .ro, 0, []⟩, ⟨0x2011, 8, .u64, .ro, 0, []⟩, ⟨0x2012, 8, .u64, .ro, 0, []⟩,
   ⟨0x2013, 8, .u64, .ro, 0, []⟩, ⟨0x2014, 8, .u64, .ro, 0, []⟩, ⟨0x2015, 8, .u64, .ro, 0, []⟩,
   ⟨0x2016, 8, .u64, .ro, 0, []⟩, ⟨0x2017, 8, .u64, .ro, 0, []⟩, ⟨0x2020, 2, .bool, .ro, 0, []⟩,
   ⟨0x2021, 2, .u64, .ro, 0, []⟩, ⟨0x2022, 2, .u64, .ro, 0, []⟩]

/-- Objects of routing and Roped Pairs (15 R400). -/
def cat3 : List CatRow :=
  [⟨0x2400, 0, .u8, .rwp, 1, (leBytes 1 255)⟩, ⟨0x2401, 0, .u8, .rwp, 1, (leBytes 1 0)⟩,
   ⟨0x2402, 0, .u64, .rw, 1, []⟩, ⟨0x2403, 0, .u32, .ro, 0, []⟩, ⟨0x2404, 0, .u16, .ro, 0, []⟩,
   ⟨0x2405, 0, .u64, .ro, 0, []⟩, ⟨0x2406, 0, .bool, .ro, 0, []⟩, ⟨0x2410, 0, .u8, .rw, 1, []⟩,
   ⟨0x2411, 0, (.blob 1024), .rw, 1, []⟩, ⟨0x2412, 0, (.blob 1024), .ro, 0, []⟩, ⟨0x2413, 0, .u32, .ro, 0, []⟩,
   ⟨0x2420, 0, .u8, .rwp, 1, (leBytes 1 0)⟩, ⟨0x2421, 0, .u8, .rwp, 1, (leBytes 1 7)⟩,
   ⟨0x2422, 0, .u64, .rwp, 1, (leBytes 8 0)⟩, ⟨0x2423, 0, .u16, .rwp, 1, (leBytes 2 5)⟩,
   ⟨0x2424, 0, .u8, .ro, 0, []⟩]

/-- Objects of contexts and statistics (15 R400). -/
def cat4 : List CatRow :=
  [⟨0x3000, 0, .u8, .ro, 0, []⟩, ⟨0x3001, 128, .u8, .ro, 0, []⟩, ⟨0x3002, 128, .u8, .ro, 0, []⟩,
   ⟨0x3003, 4, .u8, .ro, 0, []⟩, ⟨0x3010, 0, .u64, .ro, 0, []⟩, ⟨0x3011, 0, .u64, .ro, 0, []⟩,
   ⟨0x3012, 0, .u64, .ro, 0, []⟩, ⟨0x3013, 4, .u64, .ro, 0, []⟩, ⟨0x3014, 0, .u64, .ro, 0, []⟩,
   ⟨0x3015, 0, .u64, .ro, 0, []⟩, ⟨0x3016, 0, .u64, .ro, 0, []⟩, ⟨0x3020, 4, .u64, .ro, 0, []⟩,
   ⟨0x3021, 4, .u64, .ro, 0, []⟩, ⟨0x3022, 4, .u32, .ro, 0, []⟩, ⟨0x3023, 4, .u64, .ro, 0, []⟩]

/-- Objects of the real-time clock (15 R400). -/
def cat5 : List CatRow :=
  [⟨0x4000, 0, .time, .ro, 0, []⟩, ⟨0x4001, 0, .time, .wo, 1, []⟩, ⟨0x4002, 0, .u8, .rw, 1, []⟩,
   ⟨0x4003, 0, .i32, .wo, 1, []⟩, ⟨0x4004, 0, .i32, .rwp, 1, (leBytes 4 0)⟩, ⟨0x4005, 0, .time, .rw, 1, []⟩,
   ⟨0x4006, 0, .u8, .rw, 1, []⟩, ⟨0x4007, 0, .time, .rw, 1, []⟩, ⟨0x4008, 0, .u8, .rw, 1, []⟩,
   ⟨0x4009, 0, .u8, .ro, 0, []⟩, ⟨0x4010, 0, .time, .rwp, 1, epoch1900⟩, ⟨0x4011, 0, .time, .ro, 0, []⟩,
   ⟨0x4012, 0, .u8, .ro, 0, []⟩]

/-- Objects of recovery (15 R400). -/
def cat6 : List CatRow :=
  [⟨0x5001, 0, .u8, .wo, 1, []⟩, ⟨0x5002, 0, .u8, .ro, 0, []⟩, ⟨0x5003, 0, .u32, .ro, 0, []⟩,
   ⟨0x5004, 0, .u64, .ro, 0, []⟩, ⟨0x5005, 0, .u32, .ro, 0, []⟩, ⟨0x5010, 0, .u32, .rwp, 1, (leBytes 4 50)⟩,
   ⟨0x5011, 0, .u32, .rwp, 1, (leBytes 4 2000)⟩, ⟨0x5012, 0, .u32, .rwp, 1, (leBytes 4 20)⟩,
   ⟨0x5013, 0, .u32, .rwp, 1, (leBytes 4 1000)⟩, ⟨0x5014, 0, .u32, .rwp, 1, (leBytes 4 63)⟩,
   ⟨0x5015, 0, .u32, .rwp, 1, (leBytes 4 1000)⟩, ⟨0x5020, 0, .u32, .rwp, 1, (leBytes 4 4)⟩,
   ⟨0x5021, 0, .u32, .rwp, 1, (leBytes 4 900)⟩, ⟨0x5022, 0, .bool, .rw, 1, []⟩]

/-- Objects of security (15 R400). -/
def cat7 : List CatRow :=
  [⟨0x6000, 0, .u32, .ro, 0, []⟩, ⟨0x6001, 0, .u32, .ro, 0, []⟩, ⟨0x6002, 0, (.blob 16), .ro, 0, []⟩,
   ⟨0x6003, 0, .u32, .ro, 0, []⟩, ⟨0x6010, 0, (.blob 32), .wo, 2, []⟩, ⟨0x6011, 0, .bool, .ro, 0, []⟩,
   ⟨0x6020, 0, .u8, .ro, 0, []⟩, ⟨0x6030, 0, .u8, .ro, 0, []⟩, ⟨0x6031, 0, (.blob 97), .rwp, 2, []⟩,
   ⟨0x6040, 0, (.blob 2048), .const, 0, []⟩, ⟨0x6041, 0, (.blob 97), .const, 0, []⟩, ⟨0x6050, 0, .u8, .wo, 2, []⟩,
   ⟨0x6051, 0, .u8, .ro, 0, []⟩, ⟨0x6052, 0, .u8, .ro, 0, []⟩]

/-- Objects of firmware, settings and diagnostics (15 R400). -/
def cat8 : List CatRow :=
  [⟨0x7000, 0, .u8, .ro, 0, []⟩, ⟨0x7001, 0, .u8, .ro, 0, []⟩, ⟨0x7002, 0, .u8, .ro, 0, []⟩,
   ⟨0x7003, 2, (.blob 512), .ro, 0, []⟩, ⟨0x7010, 0, .bool, .wo, 1, []⟩, ⟨0x7011, 0, .u8, .ro, 0, []⟩,
   ⟨0x7012, 0, .u16, .ro, 0, []⟩, ⟨0x7020, 0, .u8, .wo, 1, []⟩, ⟨0x7021, 0, .u32, .rw, 1, []⟩,
   ⟨0x7022, 0, (.blob 4096), .wo, 1, []⟩, ⟨0x7023, 0, .u16, .ro, 0, []⟩, ⟨0x8000, 0, .u32, .ro, 0, []⟩,
   ⟨0x8001, 0, .u32, .ro, 0, []⟩, ⟨0x8002, 0, .u32, .ro, 0, []⟩, ⟨0x8003, 0, .u16, .ro, 0, []⟩,
   ⟨0x8004, 0, .u16, .ro, 0, []⟩, ⟨0x8005, 0, .u8, .wo, 1, []⟩, ⟨0x8010, 4, .u32, .ro, 0, []⟩,
   ⟨0x8011, 0, .u64, .ro, 0, []⟩, ⟨0x9000, 0, .u64, .ro, 0, []⟩, ⟨0x9001, 0, .u32, .ro, 0, []⟩,
   ⟨0x9010, 0, .u16, .rwp, 1, (leBytes 2 10)⟩, ⟨0x9011, 0, .u32, .ro, 0, []⟩, ⟨0x9020, 0, .u16, .ro, 0, []⟩,
   ⟨0x9021, 0, .u32, .ro, 0, []⟩, ⟨0x9022, 0, .u32, .ro, 0, []⟩]

/-- The catalogue (15 R400). -/
def catalog : List CatRow := cat0 ++ cat1 ++ cat2 ++ cat3 ++ cat4 ++ cat5 ++ cat6 ++ cat7 ++ cat8

/-- The row of an index. -/
def catRow (index : Nat) : Option CatRow := catalog.find? (fun r => decide (r.index = index))

/-- The object an index and subindex name: its row, and whether it is the entry count of an array (15 R377). -/
def catFind (index sub : Nat) : Option (CatRow × Bool) :=
  match catRow index with
  | none => none
  | some r =>
    if r.count = 0 then (if sub = 0 then some (r, false) else none)
    else if sub = 0 then some (r, true)
    else if sub ≤ r.count then some (r, false) else none

/-- The subindexes that hold values of a row. -/
def CatRow.subs (r : CatRow) : List Nat := if r.count = 0 then [0] else (List.range r.count).map (· + 1)

/-- LEN fits the type (15 R378). -/
def DType.fits : DType → Nat → Bool
  | .bool, n | .u8, n => decide (n = 1)
  | .u16, n => decide (n = 2)
  | .u32, n | .i32, n | .f32, n => decide (n = 4)
  | .u64, n | .i64, n => decide (n = 8)
  | .str m, n => decide (n ≤ m)
  | .blob m, n => decide (n = m)
  | .time, n => decide (n = 10)

/-- TYPE of a journal record (16 R417). -/
def DType.code : DType → Nat
  | .bool => 1
  | .u8 => 2
  | .u16 => 3
  | .u32 => 4
  | .u64 => 5
  | .i32 => 6
  | .i64 => 7
  | .f32 => 8
  | .str _ => 9
  | .blob _ => 10
  | .time => 11

/-- The range of a value's type (15 R378). -/
def DType.inType : DType → Bytes → Bool
  | .bool, b => decide (ofLe b ≤ 1)
  | .f32, b => decide (bitsN (ofLe b) 23 8 ≠ 255)
  | .time, b => timeOk b
  | _, _ => true

/-- The inclusive limits of a catalogue row, where it gives any (15 R400, 14 R353, 16 R412 to R422). -/
def catLimits (index : Nat) : Option (Nat × Nat) :=
  match index with
  | 0x1021 => some (0, 127)
  | 0x1024 => some (0, 10000)
  | 0x1027 => some (10, 10000)
  | 0x1100 => some (0, 3)
  | 0x1210 => some (0x42700000, 0x42DC0000)
  | 0x2002 => some (16, 768)
  | 0x2004 => some (1, 15)
  | 0x2005 => some (1, 4095)
  | 0x2401 => some (0, 1)
  | 0x2410 => some (0, 1)
  | 0x2420 => some (0, 2)
  | 0x2421 => some (0, 7)
  | 0x2423 => some (2, 1000)
  | 0x4002 => some (0, 6)
  | 0x4006 => some (0, 63)
  | 0x4008 => some (0, 63)
  | 0x5001 => some (1, 2)
  | 0x5010 => some (1, 10000)
  | 0x5011 => some (10, 1000000)
  | 0x5012 => some (0, 1000)
  | 0x5013 => some (10, 60000)
  | 0x5014 => some (0, 63)
  | 0x5015 => some (10, 600000)
  | 0x5020 => some (1, 255)
  | 0x5021 => some (1, 86400)
  | 0x5022 => some (0, 0)
  | 0x6050 => some (0, 3)
  | 0x7010 => some (1, 1)
  | 0x7020 => some (1, 3)
  | 0x8005 => some (0xA5, 0xA5)
  | 0x9010 => some (1, 10000)
  | _ => none

/-- A value lies in the range of its type and row (15 R381 check 7). -/
def inRange (r : CatRow) (b : Bytes) : Bool :=
  r.ty.inType b &&
    (match catLimits r.index with
      | some (lo, hi) => decide (lo ≤ ofLe b) && decide (ofLe b ≤ hi)
      | none => true) &&
    (if r.index = 0x1023 then decide (ofLe b = 0) || (decide (10 ≤ ofLe b) && decide (ofLe b ≤ 60000)) else true) &&
    (if r.index = 0x4003 then decide (sextN (ofLe b) 32 ≠ 0) && decide ((sextN (ofLe b) 32).natAbs ≤ 32767) else true) &&
    (if r.index = 0x4004 then decide ((sextN (ofLe b) 32).natAbs ≤ 255) else true)

/-- Objects held in the settings journal: the persisted ones and Boot Count (15 R379, R400, 16). -/
def CatRow.journalled (r : CatRow) : Bool := decide (r.acc = .rwp) || decide (r.index = 0x9001)

/-- The stored value of an object, or its default (15 R379). -/
def storedVal (s : State) (r : CatRow) (sub : Nat) : Bytes :=
  match tget [] s.dict.val (r.index * 256 + sub) with
  | [] => r.dflt
  | b => b

/-- The value of an object is stored; its default is held as an absent entry. -/
def storeVal (r : CatRow) (sub : Nat) (b : Bytes) (s : State) : State :=
  { s with dict.val := tput [] s.dict.val (r.index * 256 + sub) (if b = r.dflt then [] else b) }

end Sys2Proof.Machine
end

