-- ==== Sys2Proof/Machine/Journal.lean ====
section
/-!
DEFINITION. The flash banks, the image status markers, and the settings journal with its generations (16 R403, R409, R416 to
R423).
-/
namespace Sys2Proof.Machine

/-! ## Banks (R403) -/

def bankOf (s : State) (b : Bool) : Tab Byte := if b then s.flash.bank1 else s.flash.bank0

def setBank (b : Bool) (t : Tab Byte) (s : State) : State :=
  if b then { s with flash.bank1 := t } else { s with flash.bank0 := t }

/-- `n` bytes from `a` of a rising list of entries that starts at or above `a`. -/
def walkBytes (d : Byte) : Nat → Nat → Tab Byte → Bytes
  | 0, _, _ => []
  | n + 1, a, [] => d :: walkBytes d n (a + 1) []
  | n + 1, a, (k, v) :: r => if k = a then v :: walkBytes d n (a + 1) r else d :: walkBytes d n (a + 1) ((k, v) :: r)

/-- Bytes of a bank; an erased byte reads 0xFF (log 9). -/
def flashRead (s : State) (b : Bool) (a n : Nat) : Bytes :=
  walkBytes 0xFF n a ((bankOf s b).filter (fun e => decide (a ≤ e.1) && decide (e.1 < a + n)))

/-- Bytes stored into a bank. -/
def flashPut (b : Bool) (a : Nat) (d : Bytes) (s : State) : State := setBank b (memWrite 0xFF (bankOf s b) a d) s

/-- Erasure of a range. -/
def flashErase (b : Bool) (a n : Nat) (s : State) : State := setBank b (memClear (bankOf s b) a n) s

/-- Every byte is 0xFF. -/
def blankB (l : Bytes) : Bool := l.all (fun x => decide (x = 0xFF))

/-- A program: none where a target byte is not erased (R405). -/
def flashProgram (b : Bool) (a : Nat) (d : Bytes) (s : State) : Option State :=
  if blankB (flashRead s b a d.length) then some (flashPut b a d s) else none

/-! ## Markers (R409) -/

structure Marker where
  kind : Nat
  iseq : Nat
  deriving DecidableEq, Repr

def markerBase : Nat := 0x2000000

/-- The marker of 16 bytes, if its MAGIC and CRC are right. -/
def markerOf (b : Bytes) : Option Marker :=
  if leAt b 0 4 = 0x54533947 ∧ leAt b 12 4 = crc32c (b.take 12) then some ⟨byteAt b 4, leAt b 8 4⟩ else none

/-- Slots of a status area that are not erased, ascending. -/
def markerSlots (s : State) (b : Bool) : List Nat :=
  (((bankOf s b).filter (fun e => decide (markerBase ≤ e.1) && decide (e.1 < markerBase + 0x10000))).map
    (fun e => (e.1 - markerBase) / 16)).dedup

/-- The markers of a bank with a right MAGIC and CRC, in slot order. -/
def markersOf (s : State) (b : Bool) : List Marker :=
  (markerSlots s b).filterMap (fun k => markerOf (flashRead s b (markerBase + 16 * k) 16))

/-- ISEQ of a bank's image, if it is installed. -/
def installedSeq (s : State) (b : Bool) : Option Nat :=
  ((markersOf s b).find? (fun m => decide (m.kind = 1))).map (·.iseq)

/-- Valid markers of a kind. -/
def markCount (s : State) (b : Bool) (kind : Nat) : Nat :=
  match installedSeq s b with
  | none => 0
  | some n => ((markersOf s b).filter (fun m => decide (m.kind = kind) && decide (m.iseq = n))).length

/-- A marker is programmed into the first slot that is all 0xFF. -/
def putMarker (b : Bool) (kind iseq : Nat) (s : State) : State :=
  let used := markerSlots s b
  match (List.range 4096).find? (fun k => !used.contains k) with
  | none => s
  | some k =>
    let h := leBytes 4 0x54533947 ++ leBytes 1 kind ++ leBytes 3 0 ++ leBytes 4 iseq
    flashPut b (markerBase + 16 * k) (h ++ leBytes 4 (crc32c h)) s

/-! ## Sectors and records (R416, R417) -/

def journalBase : Nat := 0x1800000

structure Sector where
  num : Nat
  gen : Nat
  sseq : Nat
  iseq : Nat
  schema : Nat
  deriving DecidableEq, Repr

structure JRec where
  kind : Nat
  index : Nat
  sub : Nat
  ty : Nat
  schema : Nat
  seq : Nat
  value : Bytes
  deriving DecidableEq, Repr

def sectorBytes (s : State) (b : Bool) (k : Nat) : Bytes := flashRead s b (journalBase + 4096 * k) 4096

def sectorOf (k : Nat) (h : Bytes) : Option Sector :=
  if leAt h 0 4 = 0x4C4E524A ∧ leAt h 28 4 = crc32c (h.take 28) then
    some ⟨k, leAt h 4 4, leAt h 8 4, leAt h 12 4, leAt h 16 2⟩
  else none

/-- Sector numbers with a byte that is not erased, ascending. -/
def touchedSectors (s : State) (b : Bool) : List Nat :=
  (((bankOf s b).filter (fun e => decide (journalBase ≤ e.1) && decide (e.1 < journalBase + 0x400000))).map
    (fun e => (e.1 - journalBase) / 4096)).dedup

/-- The sectors in use of a copy. -/
def sectorsOf (s : State) (b : Bool) : List Sector :=
  (touchedSectors s b).filterMap (fun k => sectorOf k (flashRead s b (journalBase + 4096 * k) 32))

def freeSectors (s : State) (b : Bool) : Nat := 1024 - (sectorsOf s b).length

/-- The record that begins a byte string, with its length in flash, if its TAG, LEN and CRC are right. -/
def recordOf (b : Bytes) : Option (JRec × Nat) :=
  let len := leAt b 6 2
  let n := 16 + 4 * ceilDiv len 4
  if byteAt b 0 = 0x5A ∧ len ≤ 4096 ∧ n + 4 ≤ b.length ∧ leAt b n 4 = crc32c (b.take n) then
    some (⟨byteAt b 1, leAt b 2 2, byteAt b 4, byteAt b 5, leAt b 8 2, leAt b 12 4, sliceB b 16 len⟩, n + 4)
  else none

/-- The valid records of a sector's bytes from a 4-byte-aligned offset on. -/
def recordsFrom : Nat → Bytes → List JRec
  | 0, _ => []
  | fuel + 1, b =>
    if blankB b then []
    else
      match recordOf b with
      | some (r, n) => r :: recordsFrom fuel (b.drop n)
      | none => recordsFrom fuel (b.drop 4)

/-- The end of a sector's records: the lowest 4-byte-aligned offset from which every byte is 0xFF. -/
def recordsEnd (b : Bytes) : Nat :=
  4 * ceilDiv (b.length - (b.reverse.takeWhile (fun x => decide (x = 0xFF))).length) 4

/-- The records of a generation in a copy, in sector order. -/
def genRecs (s : State) (b : Bool) (g : Nat) : List JRec :=
  (sortBy (fun (x y : Sector) => decide (x.sseq ≤ y.sseq)) ((sectorsOf s b).filter (fun x => decide (x.gen = g)))).flatMap
    (fun x => recordsFrom 1024 ((sectorBytes s b x.num).drop 32))

/-- A generation is committed in a copy (R419). -/
def committedIn (s : State) (b : Bool) (g : Nat) : Bool := (genRecs s b g).any (fun r => decide (r.kind = 2))

/-- The generations a copy holds. -/
def gensOf (s : State) (b : Bool) : List Nat := ((sectorsOf s b).map (·.gen)).dedup

/-- The committed generation (R419); 0 where there is none. -/
def committedGen (s : State) : Nat :=
  [false, true].foldl (fun a b => (gensOf s b).foldl (fun a g => if committedIn s b g then max a g else a) a) 0

/-- The uncommitted generations with the ISEQ of the image that opened each. -/
def openGens (s : State) : List (Nat × Nat) :=
  ([false, true].flatMap (fun b => ((sectorsOf s b).map (fun x => (x.gen, x.iseq))))).dedup.filter (fun e =>
    !committedIn s false e.1 && !committedIn s true e.1)

/-! ## The running image -/

/-- ISEQ of the running image. -/
def runSeq (s : State) : Nat := (installedSeq s s.pwr.bank).getD 0

/-- Schema Version of the running image, and the lowest schema it reads: the image declares them (R423, log 33). -/
def imgSchema (s : State) : Nat := Config.imageSchema s.flash.digest % 2 ^ 16
def imgSchemaLo (s : State) : Nat := min (Config.imageSchemaLo s.flash.digest) (imgSchema s)

/-- The trial generation (R420). -/
def trialGen (s : State) : Option Nat :=
  if s.pwr.trial then ((openGens s).find? (fun e => decide (e.2 = runSeq s))).map (·.1) else none

/-! ## Values (R419, R423) -/

/-- A record is readable by the running image (R423). -/
def readable (s : State) (r : JRec) : Bool :=
  decide (r.schema ≤ imgSchema s) && decide (imgSchemaLo s ≤ r.schema) &&
    (match catFind r.index r.sub with
      | some (row, false) => decide (row.ty.code = r.ty) && row.ty.fits r.value.length && inRange row r.value
      | _ => false)

/-- The VALUE record of a generation with the highest SEQ for an object, across both copies. -/
def lastRec (s : State) (g index sub : Nat) : Option JRec :=
  ([false, true].flatMap (fun b => genRecs s b g)).foldl (fun a r =>
    if r.kind = 1 ∧ r.index = index ∧ r.sub = sub then
      match a with
      | some x => if x.seq < r.seq then some r else a
      | none => some r
    else a) none

/-- The value the journal gives an object, if any, and whether a record was unreadable (R419, R423). -/
def journalVal (s : State) (index sub : Nat) : Option Bytes × Bool :=
  let look := fun (g : Option Nat) => g.bind (fun g => lastRec s g index sub)
  let t := look (trialGen s)
  let c := look (some (committedGen s))
  let ok := fun (r : Option JRec) => r.filter (readable s)
  match ok t with
  | some r => (some r.value, false)
  | none => ((ok c).map (·.value), (t.isSome || c.isSome) && (ok c).isNone)

/-! ## Writing (R418, R420 to R422) -/

/-- The bytes of a record (R417). -/
def JRec.bytes (r : JRec) : Bytes :=
  let h := leBytes 1 0x5A ++ leBytes 1 r.kind ++ leBytes 2 r.index ++ leBytes 1 r.sub ++ leBytes 1 r.ty ++
    leBytes 2 r.value.length ++ leBytes 2 r.schema ++ leBytes 2 0 ++ leBytes 4 r.seq ++ r.value ++
    List.replicate (4 * ceilDiv r.value.length 4 - r.value.length) 0
  h ++ leBytes 4 (crc32c h)

/-- The next free sector of a copy is opened for a generation; the lowest free one is taken (log 34). -/
def openSector (b : Bool) (g iseq schema : Nat) (s : State) : Option (Nat × State) :=
  let used := (sectorsOf s b).map (·.num)
  match (List.range 1024).find? (fun k => !used.contains k) with
  | none => none
  | some k =>
    let sseq := ((sectorsOf s b).map (·.sseq)).foldl max 0 + 1
    let h := leBytes 4 0x4C4E524A ++ leBytes 4 g ++ leBytes 4 sseq ++ leBytes 4 iseq ++ leBytes 2 schema ++
      List.replicate 10 0
    let a := journalBase + 4096 * k
    some (k, flashPut b a (h ++ leBytes 4 (crc32c h)) (flashErase b a 4096 s))

/-- The current sector of a generation in a copy. -/
def lastSector (s : State) (b : Bool) (g : Nat) : Option Sector :=
  (sectorsOf s b).foldl (fun a x =>
    if x.gen = g then
      match a with
      | some y => if y.sseq < x.sseq then some x else a
      | none => some x
    else a) none

/-- ISEQ and Schema Version of the image that opened a generation, as a sector of either copy says; the running image's where it is
opened now (R416). -/
def openerOf (s : State) (g : Nat) : Nat × Nat :=
  match (sectorsOf s false ++ sectorsOf s true).find? (fun x => decide (x.gen = g)) with
  | some x => (x.iseq, x.schema)
  | none => (runSeq s, imgSchema s)

/-- One record is appended to a generation in one copy: a status, and the state (R418). -/
def appendRec (b : Bool) (g : Nat) (r : JRec) (s : State) : Nat × State :=
  let d := r.bytes
  let put := fun (k e : Nat) (s : State) =>
    match flashProgram b (journalBase + 4096 * k + e) d s with
    | some s => (0, s)
    | none => (errFlashNotBlank, s)
  let fresh :=
    match openSector b g (openerOf s g).1 (openerOf s g).2 s with
    | some (k, s) => put k 32 s
    | none => (errObjState, s)
  match lastSector s b g with
  | some x =>
    let e := recordsEnd (sectorBytes s b x.num)
    if e + d.length ≤ 4096 then put x.num e s else fresh
  | none => fresh

/-- One record appended first to copy 0, then to copy 1 (R418). -/
def appendBoth (g : Nat) (r : JRec) (s : State) : Nat × State :=
  let a := appendRec false g r s
  if a.1 ≠ 0 then a else appendRec true g r a.2

/-- SEQ of the next record of a generation (R417). -/
def nextSeq (s : State) (g : Nat) : Nat :=
  (([false, true].flatMap (fun b => genRecs s b g)).map (·.seq)).foldl max 0 + 1

/-- Every object held in the journal: row and subindex. -/
def journalObjs : List (CatRow × Nat) :=
  (catalog.filter CatRow.journalled).flatMap (fun r => r.subs.map (fun k => (r, k)))

/-- A VALUE record as the running image writes it. -/
def valueRec (s : State) (g : Nat) (r : CatRow) (sub : Nat) (v : Bytes) : JRec :=
  ⟨1, r.index, sub, r.ty.code, imgSchema s, nextSeq s g, v⟩

/-- Generation `g` is committed (R421): a VALUE record for each object whose value, as `val` gives it, `g` does not hold,
then COMMIT. -/
def commitGen (g : Nat) (val : CatRow → Nat → Bytes) (s : State) : Nat × State :=
  let a := journalObjs.foldl (fun (a : Nat × State) o =>
    let v := val o.1 o.2
    if a.1 ≠ 0 || v.isEmpty || decide ((lastRec a.2 g o.1.index o.2).map (·.value) = some v) then a
    else appendBoth g (valueRec a.2 g o.1 o.2 v) a.2) (0, s)
  if a.1 ≠ 0 then a else appendBoth g ⟨2, 0, 0, 0, imgSchema a.2, nextSeq a.2 g, []⟩ a.2

/-- The sectors of every generation that satisfies `p` are erased in both copies. -/
def eraseGens (p : Nat → Bool) (s : State) : State :=
  [false, true].foldl (fun s b =>
    ((sectorsOf s b).filter (fun x => p x.gen)).foldl (fun s x => flashErase b (journalBase + 4096 * x.num) 4096 s) s) s

/-- Compaction (R422): generation g + 1 is committed, and the older ones are erased. -/
def compact (s : State) : State :=
  if !s.pwr.trial && (decide (freeSectors s false < 16) || decide (freeSectors s true < 16)) then
    let g := committedGen s + 1
    let a := commitGen g (fun r k => storedVal s r k) s
    if a.1 = 0 then eraseGens (fun x => decide (x < g)) a.2 else s
  else s

/-- The generation a settings write goes to (R419, R420): the trial generation of a Trial Image, opened by its first write;
else the committed one. Where none is committed, generation 1 is committed first with the values in use (log 34). -/
def writeGen (s : State) : Nat × Nat × State :=
  if s.pwr.trial then (0, (trialGen s).getD (committedGen s + 1), s)
  else if committedGen s = 0 then
    let a := commitGen 1 (fun r k => storedVal s r k) s
    (a.1, 1, a.2)
  else (0, committedGen s, s)

/-- A value is made durable in both copies (R418): a status, and the state with it stored. One that cannot be made durable is
not applied. -/
def journalWrite (index sub : Nat) (v : Bytes) (s : State) : Nat × State :=
  match catRow index with
  | none => (errObjState, s)
  | some r =>
    let w := writeGen (compact s)
    if w.1 ≠ 0 then (w.1, s)
    else
      let a := appendBoth w.2.1 (valueRec w.2.2 w.2.1 r sub v) w.2.2
      if a.1 ≠ 0 then (a.1, a.2) else (0, compact (storeVal r sub v a.2))

/-- The device itself persists a value: one that cannot be made durable is not applied (R418). -/
def persist (index sub : Nat) (v : Bytes) (s : State) : State := (journalWrite index sub v s).2

/-! ## Boot stage 2 (R419, R420, R423) -/

/-- Each copy gets the records of the committed generation that the other holds and it lacks (R419). -/
def mergeCopies (s : State) : State :=
  let g := committedGen s
  if g = 0 then s
  else
    [false, true].foldl (fun s b =>
      let mine := genRecs s b g
      ((genRecs s (!b) g).filter (fun r => !mine.contains r)).foldl (fun s r => (appendRec b g r s).2) s) s

/-- Uncommitted generations (R420, R415). -/
def settleGens (s : State) : State :=
  (openGens s).foldl (fun s e =>
    if e.2 = runSeq s then
      (if s.pwr.trial then s else (commitGen e.1 (fun r k =>
        match lastRec s e.1 r.index k with
        | some x => if readable s x then x.value else (journalVal s r.index k).1.getD r.dflt
        | none => (journalVal s r.index k).1.getD r.dflt) s).2)
    else eraseGens (fun x => decide (x = e.1)) s) s

/-- The values in use after a Cold reset: the journal's, else the defaults; each unreadable record is counted and reported
(R419, R423). -/
def loadValues (s : State) : State :=
  journalObjs.foldl (fun s o =>
    let v := journalVal s o.1.index o.2
    let s := storeVal o.1 o.2 (v.1.getD o.1.dflt) s
    if v.2 then
      emergency { code := errSettingsSchema, src := 10, detail := o.1.index + 2 ^ 16 * o.2 }
        { s with flash.defaulted := BitVec.ofNat 16 (satAdd 16 s.flash.defaulted.toNat 1) }
    else s) s

end Sys2Proof.Machine
end

