-- ==== Sys2Proof/Machine/P384.lean ====
section
/-!
DEFINITION. ECDSA P-384 (FIPS 186-5), for debug grants (11 R305), firmware images (11 R311) and pair binding, and ECDH (11 R300). The
manual names the standard; its text is outside it (log 8, PRESUMED).
-/
namespace Sys2Proof

/-- The field prime of P-384. -/
def p384P : Nat := 2 ^ 384 - 2 ^ 128 - 2 ^ 96 + 2 ^ 32 - 1
/-- The order of the base point. -/
def p384N : Nat :=
  0xffffffffffffffffffffffffffffffffffffffffffffffffc7634d81f4372ddf581a0db248b0a77aecec196accc52973
/-- The curve coefficient b; a is -3. -/
def p384B : Nat :=
  0xb3312fa7e23ee7e4988e056be3f82d19181d9c6efe8141120314088f5013875ac656398d8a2ed19d2a85c8edd3ec2aef
/-- The base point. -/
def p384G : Nat × Nat :=
  (0xaa87ca22be8b05378eb1c71ef320ad746e1d3b628ba79b9859f741e082542a385502f25dbf55296c3a545e3872760ab7,
   0x3617de4a96262c6f5d9e98bf9292dc29f8f41dbd289a147ce9da3113b5f0b8c00a60b1ce1d7e819d7a431d7c90ea0e5f)

/-- `a ^ e` modulo `m`, from the low `n` bits of `e`. -/
def powMod (m a e : Nat) : Nat → Nat → Nat
  | 0, acc => acc
  | n + 1, acc =>
    let sq := acc * acc % m
    powMod m a e n (if Nat.testBit e n then sq * a % m else sq)

/-- The inverse modulo a prime. -/
def invMod (m a : Nat) : Nat := powMod m (a % m) (m - 2) 384 1

/-- A difference in the field. -/
def fsub (a b : Nat) : Nat := (a + p384P - b % p384P) % p384P

/-- A point in Jacobian coordinates; `z = 0` is the point at infinity. -/
structure JPoint where
  x : Nat
  y : Nat
  z : Nat
  deriving DecidableEq, Repr

/-- Doubling for a = -3. -/
def jdbl (p : JPoint) : JPoint :=
  let z2 := p.z * p.z % p384P
  let m := 3 * (fsub p.x z2) * ((p.x + z2) % p384P) % p384P
  let y2 := p.y * p.y % p384P
  let s := 4 * p.x * y2 % p384P
  let x := fsub (m * m % p384P) (2 * s % p384P)
  ⟨x, fsub (m * (fsub s x) % p384P) (8 * y2 * y2 % p384P), 2 * p.y * p.z % p384P⟩

/-- Addition. -/
def jadd (p q : JPoint) : JPoint :=
  if p.z = 0 then q else if q.z = 0 then p else
  let z1 := p.z * p.z % p384P
  let z2 := q.z * q.z % p384P
  let u1 := p.x * z2 % p384P
  let u2 := q.x * z1 % p384P
  let s1 := p.y * z2 * q.z % p384P
  let s2 := q.y * z1 * p.z % p384P
  if u1 = u2 then
    (if s1 = s2 then jdbl p else ⟨1, 1, 0⟩)
  else
    let h := fsub u2 u1
    let r := fsub s2 s1
    let h2 := h * h % p384P
    let h3 := h2 * h % p384P
    let v := u1 * h2 % p384P
    let x := fsub (fsub (r * r % p384P) h3) (2 * v % p384P)
    ⟨x, fsub (r * (fsub v x) % p384P) (s1 * h3 % p384P), p.z * q.z % p384P * h % p384P⟩

/-- `k` times a point, from the low `n` bits of `k`. -/
def jmul (p : JPoint) (k : Nat) : Nat → JPoint → JPoint
  | 0, acc => acc
  | n + 1, acc =>
    let d := jdbl acc
    jmul p k n (if Nat.testBit k n then jadd d p else d)

/-- The affine x coordinate. -/
def jx (p : JPoint) : Nat :=
  let zi := invMod p384P p.z
  p.x * zi % p384P * zi % p384P

/-- The affine y coordinate. -/
def jy (p : JPoint) : Nat :=
  let zi := invMod p384P p.z
  p.y * zi % p384P * zi % p384P * zi % p384P

/-- The point of a private scalar. -/
def basePoint (d : Nat) : JPoint := jmul ⟨p384G.1, p384G.2, 1⟩ d 384 ⟨1, 1, 0⟩

/-- The uncompressed 97-byte public key of a private scalar. -/
def pubOf (d : Nat) : Bytes :=
  let p := basePoint d
  leBytes 1 4 ++ beBytes 48 (jx p) ++ beBytes 48 (jy p)

/-- The point of an uncompressed public key, where it lies on the curve. -/
def pointOf (pub : Bytes) : Option JPoint :=
  let x := ofBe (sliceB pub 1 48)
  let y := ofBe (sliceB pub 49 48)
  let onCurve := decide (y * y % p384P = (x * x % p384P * x + p384P * 3 - 3 * x + p384B) % p384P)
  if byteAt pub 0 ≠ 4 || x ≥ p384P || y ≥ p384P || !onCurve then none else some ⟨x, y, 1⟩

/-- A number brought into the range of private scalars, 1 to n - 1. -/
def scalarOf (k : Nat) : Nat := k % (p384N - 1) + 1

/-- The shared x coordinate of ECDH with another device's public key. -/
def ecdhX (d : Nat) (pub : Bytes) : Option Nat := (pointOf pub).map (fun q => jx (jmul q d 384 ⟨1, 1, 0⟩))

/-- An ECDSA signature r ‖ s over SHA-384 with private scalar `d` and per-message scalar `k`. -/
def ecdsaSign (d k : Nat) (msg : Bytes) : Bytes :=
  let r := jx (basePoint k) % p384N
  beBytes 48 r ++ beBytes 48 (invMod p384N k * ((ofBe (sha384 msg) + r * d) % p384N) % p384N)

/-- ECDSA P-384 over SHA-384: `pub` is an uncompressed 97-byte point, `sig` is r ‖ s of 48 bytes each, big-endian. -/
def ecdsaVerify (pub msg sig : Bytes) : Bool :=
  let r := ofBe (sliceB sig 0 48)
  let s := ofBe (sliceB sig 48 48)
  match pointOf pub with
  | none => false
  | some q =>
    if r = 0 || s = 0 || r ≥ p384N || s ≥ p384N then false
    else
      let w := invMod p384N s
      let pt := jadd (basePoint (ofBe (sha384 msg) * w % p384N)) (jmul q (r * w % p384N) 384 ⟨1, 1, 0⟩)
      decide (pt.z ≠ 0) && decide (jx pt % p384N = r)

end Sys2Proof
end

