-- ==== Sys2Proof/Machine/Flash.lean ====
section
/-!
DEFINITION. The flash controller, image verification and selection, updates and confirmation (16 R402 to R415, 11 R310 to R312).
-/
namespace Sys2Proof.Machine

/-! ## The controller (R404 to R408) -/

/-- A command that ends without an array operation. -/
def flashEnd (code : Nat) (s : State) : State :=
  { s with flash.busy := false, flash.done := true, flash.code := BitVec.ofNat 16 code, flash.run := none }

/-- A refusal under R405 or R406 is counted, and recorded while HOST is on (R408). -/
def flashRefused (code : Nat) (s : State) : State :=
  raise { code := code, src := 10 } { s with flash.refused := BitVec.ofNat 32 (satAdd 32 s.flash.refused.toNat 1) }

/-- The command breaks a rule of R404. -/
def flashBad (op a len : Nat) : Bool :=
  decide (op = 0) || decide (5 < op) || (decide (op = 2) && decide (a % 0x1000 ≠ 0)) || (decide (op = 3) && decide (a % 0x10000 ≠ 0)) ||
    decide (0x4000000 ≤ a) ||
    ((decide (op = 1) || decide (3 < op)) && (decide (len = 0) || decide (256 < len) || decide (256 < a % 256 + len)))

/-- The fastest mode of R402 that a device declares. -/
def Sfdp.fastest (x : Sfdp) : FlashMode :=
  if x.dtr888 then .dtr888 else if x.sdr888 then .sdr888 else if x.dtr144 then .dtr144 else if x.sdr144 then .sdr144 else .sdr111

/-- The boot ROM has read both SFDP tables (R402). -/
def flashProbe (s : State) : State :=
  { s with
    flash.dev0 := { mode := s.id.sfdp0.fastest, wide := s.id.sfdp0.fourByte },
    flash.dev1 := { mode := s.id.sfdp1.fastest, wide := s.id.sfdp1.fourByte } }

/-- The controller addresses a bank: a device without 4-byte opcodes gets the upper address bits through its Extended Address
Register (R402). -/
def flashAim (bank : Bool) (a : Nat) (s : State) : State :=
  let d := fun (x : FlashDev) => if x.wide then x else { x with ear := BitVec.ofNat 8 (a / 2 ^ 24) }
  if bank then { s with flash.dev1 := d s.flash.dev1 } else { s with flash.dev0 := d s.flash.dev0 }

/-- A command starts on the array. -/
def flashGo (r : FlashRun) (s : State) : State := flashAim r.bank r.addr { s with flash.busy := true, flash.run := some r }

/-- A write of FL_CMD (R404, R406); `src` is the tag of the store: 0 TCM, 1 boot ROM, 2 Bank 0, 3 Bank 1. With the interfaces in
high impedance the controller drives nothing (R411). -/
def flashStart (op : Nat) (bank : Bool) (src : Nat) (s : State) : State :=
  if !mcAwake s || s.flash.busy || s.flash.hiZ then s
  else
    let a := s.flash.addr.toNat
    let len := s.flash.len.toNat
    if flashBad op a len then flashEnd errCmdInvalid s
    else if op ≤ 3 && decide (src = 2 + b2n bank) then flashEnd errFlashBankXip (flashRefused errFlashBankXip s)
    else flashGo { op := op, bank := bank, addr := a, len := len, data := s.flash.buf.take len } s

/-- PROGRAM (R405, R406). -/
def effProgram (bank : Bool) (src : Nat) (s : State) : State := flashStart 1 bank src s
/-- ERASE_4K (R404, R406). -/
def effErase4K (bank : Bool) (src : Nat) (s : State) : State := flashStart 2 bank src s
/-- ERASE_64K (R404, R406). -/
def effErase64K (bank : Bool) (src : Nat) (s : State) : State := flashStart 3 bank src s
/-- READ (R404). -/
def effFlashRead (bank : Bool) (src : Nat) (s : State) : State := flashStart 4 bank src s
/-- BLANK_CHECK (R404). -/
def effBlankCheck (bank : Bool) (src : Nat) (s : State) : State := flashStart 5 bank src s

/-- What a command does to the array, and how it ends (R404, R405): `good` is the result of the read-back after a PROGRAM; where it
differs, the target bytes are open (log 7). -/
def flashFinish (r : FlashRun) (good : Bool) (s : State) : State :=
  if r.op = 1 then
    match flashProgram r.bank r.addr r.data s with
    | none => flashEnd errFlashNotBlank (flashRefused errFlashNotBlank s)
    | some s' =>
      if good then flashEnd 0 s'
      else
        let d := (List.range r.len).map (fun i => Config.openByte s.free (r.addr + i))
        flashEnd errFlashNotBlank { drawn (flashPut r.bank r.addr d s) with flash.vfail := true }
  else if r.op = 2 then flashEnd 0 (flashErase r.bank r.addr 0x1000 s)
  else if r.op = 3 then flashEnd 0 (flashErase r.bank r.addr 0x10000 s)
  else if r.op = 4 then flashEnd 0 { s with flash.buf := putB s.flash.buf 0 (flashRead s r.bank r.addr r.len) }
  else flashEnd 0 { s with flash.blank := blankB (flashRead s r.bank r.addr r.len) }

/-! ## The XIP windows (R403, R407) -/

/-- The bank and the offset of `n` bytes that lie in an XIP window of the MC. -/
def xipAt (a n : Nat) : Option (Bool × Nat) :=
  if 0x10000000 ≤ a && decide (a + n ≤ 0x14000000) then some (false, a - 0x10000000)
  else if 0x14000000 ≤ a && decide (a + n ≤ 0x18000000) then some (true, a - 0x14000000) else none

/-- A PROGRAM or ERASE runs on the bank (R407). -/
def xipHeld (s : State) (b : Bool) : Bool :=
  match s.flash.run with
  | some r => decide (r.op ≤ 3) && decide (r.bank = b)
  | none => false

/-- The reads held for a bank are answered in order (R407). -/
def xipServe (b : Bool) (s : State) : State :=
  emitAll ((s.flash.waits.filter (fun w => decide (w.1 = b))).map (fun w => Out.readData (flashRead s b w.2.1 w.2.2)))
    { s with flash.waits := s.flash.waits.filter (fun w => decide (w.1 ≠ b)) }

/-! ## Verification and selection (11 R310, R311, R410) -/

def imageHeader (s : State) (b : Bool) : Bytes := flashRead s b 0 512

/-- verify(b): every check of 11 R311. -/
def verifyImage (s : State) (b : Bool) : Bool :=
  let h := imageHeader s b
  let ki := bitsAt h 5 0 2
  let len := leAt h 8 4
  let pub := sliceB h 112 97
  decide (leAt h 0 4 = 0x4D493947) && decide (byteAt h 4 = 1) &&
    decide (sha384 pub = lget [] s.id.bootKeys ki) && !s.flash.revoked.toNat.testBit ki &&
    decide (s.flash.minSvn.toNat ≤ bitsAt h 6 0 6) &&
    decide (1 ≤ len) && decide (len ≤ 25165312) && decide (leAt h 12 4 + leAt h 16 4 ≤ len) &&
    decide (sha384 (flashRead s b 512 len) = sliceB h 64 48) &&
    ecdsaVerify pub (h.take 256) (sliceB h 256 96)

/-- Installed banks that are not rejected, highest ISEQ first (R410). -/
def candidates (s : State) : List Bool :=
  let ok := fun (b : Bool) => (installedSeq s b).isSome && decide (markCount s b 4 = 0)
  let l := [false, true].filter ok
  if ok false && ok true && decide ((installedSeq s false).getD 0 < (installedSeq s true).getD 0) then [true, false] else l

/-- An image runs: STAGE 1 (R410, 13 R347). -/
def runImage (b trial first : Bool) (s : State) : State :=
  { s with
    pwr.stage := 1, pwr.parked := false, pwr.bank := b, pwr.trial := trial,
    pwr.bcode := if first then s.pwr.bcode else BitVec.ofNat 16 errImageFallback,
    flash.digest := ofBe (sliceB (imageHeader s b) 64 48),
    flash.trialBoots := if trial then markCount s b 2 else 0 }

def bootCode (c : Nat) (s : State) : State := { s with pwr.bcode := BitVec.ofNat 16 c }

/-- An image that does not verify is an error of CLASS Device (11 R311, 15 R397). -/
def badImage (s : State) : State := emergency { code := errSignature, src := 10 } s

/-- The loop of R410 over the candidates; the boot ROM parks where none runs (R411). -/
def selectFrom : List Bool → Bool → State → State
  | [], _, s => { s with pwr.parked := true, flash.hiZ := true }
  | b :: rest, first, s =>
    let iseq := (installedSeq s b).getD 0
    if 0 < markCount s b 3 then
      if verifyImage s b then runImage b false first s else selectFrom rest false (badImage (bootCode errSignature s))
    else if 3 ≤ markCount s b 2 then selectFrom rest false (bootCode errImageFallback (putMarker b 4 iseq s))
    else if verifyImage s b then runImage b true first (putMarker b 2 iseq s)
    else selectFrom rest false (badImage (bootCode errSignature (putMarker b 4 iseq s)))

/-- IMAGE_SELECT (R410). -/
def imageSelect (s : State) : State := selectFrom (candidates s) true s

/-! ## Updates (R412, R413) -/

/-- The bank that does not hold the running image. -/
def otherBank (s : State) : Bool := !s.pwr.bank

/-- An update step ends with a status, which Update Status shows (R413). -/
def updStep (code : Nat) (s : State) : Nat × State := (code, { s with flash.updStatus := BitVec.ofNat 16 code })

/-- The 64 KiB blocks that BEGIN erases, the status area first, so that an erase cut short leaves no INSTALLED marker (R412). -/
def updBlock (left : Nat) : Nat := if left = 385 then 0x2000000 else 0x10000 * (384 - left)

/-- The next erase of BEGIN starts once the controller is free; after the last the update is open (R412, R413). -/
def updErase (s : State) : State :=
  match s.flash.upd with
  | some (.erasing 0) => (updStep 0 { s with flash.upd := none, flash.updOpen := true, flash.updOff := 0 }).2
  | some (.erasing n) =>
    if s.flash.busy then s
    else flashGo { upd := true, op := 3, bank := otherBank s, addr := updBlock n, len := 0, data := [] } s
  | _ => s

/-- BEGIN (R412, R413): its response is sent when the erase starts. -/
def updBegin (s : State) : Nat × State :=
  if s.pwr.trial then updStep errObjState s
  else (0, updErase (updStep 1 { s with flash.updOpen := false, flash.upd := some (.erasing 385) }).2)

/-- One erase of BEGIN has ended. -/
def updErased (s : State) : State :=
  match s.flash.upd with
  | some (.erasing n) => { s with flash.upd := some (.erasing (n - 1)) }
  | _ => s

/-- FLASH_COMMAND_DONE (R404, R405, R407). -/
def effFlashDone (good : Bool) (s : State) : State :=
  match s.flash.run with
  | none => s
  | some r =>
    let s := xipServe r.bank (flashFinish r good s)
    updErase (if r.upd then updErased s else s)

/-- The verification of FINISH has ended (R412, R413). -/
def updVerified (s : State) : State :=
  let b := otherBank s
  let s := { s with flash.upd := none }
  if verifyImage s b then (updStep 0 (putMarker b 1 (runSeq s + 1) s)).2 else badImage (updStep errSignature s).2

/-- FINISH (R412, R413): its response is sent when the verification starts; the time that takes is free (log 58). -/
def updFinish (s : State) : Nat × State :=
  let n := Config.verifyTime s.free
  let s := drawn { s with flash.updOpen := false }
  (0, if n = 0 then updVerified s else (updStep 1 { s with flash.upd := some (.verifying n) }).2)

/-- 1 ns of a verification in progress passes. -/
def tickUpdate (s : State) : State :=
  match s.flash.upd with
  | some (.verifying n) =>
    if !mcAwake s then s
    else if n ≤ 1 then updVerified s else { s with flash.upd := some (.verifying (n - 1)) }
  | _ => s

/-- ABORT (R412). -/
def updAbort (s : State) : Nat × State := updStep 0 { s with flash.updOpen := false }

/-- The pages of Update Data, in ascending order, up to the first that is refused. -/
def updPages (b : Bool) : Nat → List Bytes → State → Nat × State
  | _, [], s => (0, s)
  | a, d :: r, s =>
    match flashProgram b a d s with
    | some s => updPages b (a + 256) r s
    | none => (errFlashNotBlank, flashRefused errFlashNotBlank s)

/-- Update Data (R412). -/
def updData (d : Bytes) (s : State) : Nat × State :=
  let off := s.flash.updOff.toNat
  if s.flash.upd.isSome then (errObjState, s)
  else if !s.flash.updOpen then updStep errObjState s
  else if off % 4096 ≠ 0 || 0x1800000 ≤ off then updStep errDictAccess s
  else
    let r := updPages (otherBank s) off (chunksN 256 16 d) s
    if r.1 ≠ 0 then updStep r.1 r.2
    else updStep 0 { r.2 with flash.updOff := BitVec.ofNat 32 (off + 4096) }

/-! ## Confirmation and fuses (R414, R415, 11 R312) -/

/-- MIN_SVN rises to the running image's SVN where its header asks for it (11 R312). -/
def raiseSvn (s : State) : State :=
  let h := imageHeader s s.pwr.bank
  if bitsAt h 7 0 1 = 1 && decide (s.flash.minSvn.toNat < bitsAt h 6 0 6) then
    { s with flash.minSvn := BitVec.ofNat 6 (bitsAt h 6 0 6) }
  else s

/-- The write of 1 to Confirm Image (R414). -/
def confirmImage (s : State) : Nat × State :=
  if !s.pwr.trial then (errObjState, s)
  else
    let g := trialGen s
    let s := { putMarker s.pwr.bank 3 (runSeq s) s with pwr.trial := false, flash.trialBoots := 0 }
    match g with
    | none => (0, raiseSvn s)
    | some g =>
      let a := commitGen g (fun r k => storedVal s r k) s
      (a.1, raiseSvn (if a.1 = 0 then eraseGens (fun x => decide (x < g)) a.2 else a.2))

/-- Revoke Signing Key (11 R312). -/
def revokeKey (i : Nat) (s : State) : Nat × State :=
  let v := s.flash.revoked ||| BitVec.ofNat 4 (2 ^ i)
  if i = bitsAt (imageHeader s s.pwr.bank) 5 0 2 || v.toNat = 15 then (errDictAccess, s)
  else (0, { s with flash.revoked := v })

/-- Restore Defaults (R422): in a trial every change goes to the trial generation, else a new generation is committed. Objects
of Keyholder privilege keep their values. -/
def restoreJournal (s : State) : Nat × State :=
  let val := fun (r : CatRow) (k : Nat) => if r.priv = 2 || r.acc ≠ .rwp then storedVal s r k else r.dflt
  let done := fun (s : State) => journalObjs.foldl (fun s o => storeVal o.1 o.2 (val o.1 o.2) s) s
  if s.pwr.trial then
    let a := journalObjs.foldl (fun (a : Nat × State) o =>
      if a.1 ≠ 0 || storedVal s o.1 o.2 = val o.1 o.2 then a else journalWrite o.1.index o.2 (val o.1 o.2) a.2) (0, s)
    if a.1 = 0 then (0, done a.2) else a
  else
    let g := committedGen s + 1
    let a := commitGen g val s
    if a.1 = 0 then (0, done (eraseGens (fun x => decide (x < g)) a.2)) else (a.1, s)

/-! ## Crash log (R424) -/

/-- Valid entries of the crash log of the bank that does not hold the running image. -/
def crashEntries (s : State) : Nat :=
  let b := otherBank s
  let slots := (((bankOf s b).filter (fun e => decide (0x1C00000 ≤ e.1) && decide (e.1 < 0x2000000))).map
    (fun e => (e.1 - 0x1C00000) / 256)).dedup
  (slots.filter (fun k =>
    let e := flashRead s b (0x1C00000 + 256 * k) 256
    decide (leAt e 0 4 = 0x474F4C43) && decide (leAt e 252 4 = crc32c (e.take 252)))).length

/-! ## Meanings of the commands -/

/-- PROGRAM (16 R405). -/
def execProgram (bank : Bool) (src : Nat) (s : State) : Host.Outcome State Fault Refusal :=
  .next (effProgram bank src s)

/-- ERASE_4K (16 R406). -/
def execErase4K (bank : Bool) (src : Nat) (s : State) : Host.Outcome State Fault Refusal :=
  .next (effErase4K bank src s)

/-- ERASE_64K (16 R406). -/
def execErase64K (bank : Bool) (src : Nat) (s : State) : Host.Outcome State Fault Refusal :=
  .next (effErase64K bank src s)

/-- READ (16 R404). -/
def execFlashRead (bank : Bool) (src : Nat) (s : State) : Host.Outcome State Fault Refusal :=
  .next (effFlashRead bank src s)

/-- BLANK_CHECK (16 R404). -/
def execBlankCheck (bank : Bool) (src : Nat) (s : State) : Host.Outcome State Fault Refusal :=
  .next (effBlankCheck bank src s)

/-- FLASH_COMMAND_DONE (16 R407). -/
def execFlashCommandDone (good : Bool) (s : State) : Host.Outcome State Fault Refusal :=
  .next (effFlashDone good s)

end Sys2Proof.Machine
end

