-- ==== Sys2Proof/Machine/Regs.lean ====
section
/-!
DEFINITION. Register writes: merging the bytes written, what write-only fields hold, the accesses whose effect is open (00 R10,
R13, R14).
-/
namespace Sys2Proof.Machine

/-! ## Register writes (00 R10, R14) -/

/-- BAR0 is decoded: HOST is on and boot has made the host ready (13 R347 step 6). -/
def barOn (s : State) : Bool := domOn s dHOST && decide (s.pwr.stage = 5)

/-- The value of an `n`-byte register after a write of some of its bytes (00 R14). -/
def rwMerge (w : RegWr) (n old : Nat) : Nat := ofLe (putB (leBytes n old) w.off w.data)

/-- The bits a write sets to 1, elsewhere 0. -/
def rwOnes (w : RegWr) (n : Nat) : Nat := rwMerge w n 0

/-- A write touches byte `i` of its register. -/
def rwTouches (w : RegWr) (i : Nat) : Bool := decide (w.off ≤ i) && decide (i < w.off + w.data.length)

/-- The write reaches beyond the register (00 R14). -/
def rwStraddles (w : RegWr) (n : Nat) : Bool := decide (n < w.off + w.data.length)

/-- Something that happens or not, as a draw has it: the manual leaves it open (log 62). -/
def mayBe (act : State → State) (s : State) : State :=
  if Config.openVal s.free % 2 = 1 then act (drawn s) else drawn s

/-- A write of a register of `n` bytes. Its bits in Reserved fields change nothing (R13). Where it straddles the next register
too, whether this one takes its bytes is open (R14; log 62). -/
def regWrite (w : RegWr) (n : Nat) (act : State → State) (s : State) : Host.Outcome State Fault Refusal :=
  .next (if rwStraddles w n then mayBe act s else act s)

/-! ## Write-only fields (00 R10, R14) -/

/-- What the write-only fields of the command register `key` hold. -/
def woHeld (s : State) (key : Nat) : Nat := tget 0 s.held key

/-- The bytes of a write enter the write-only fields of a command register; those it does not address keep what they hold. -/
def woStore (key n : Nat) (w : RegWr) (s : State) : State :=
  { s with held := tput 0 s.held key (rwMerge w n (woHeld s key)) }

/-- A write of a command register: its bytes are held, and writing a byte of the field that starts the command starts it. -/
def woWrite (key n : Nat) (starts : List Nat) (go : Nat → State → State) (w : RegWr) (s : State) : State :=
  let s := woStore key n w s
  if starts.any (rwTouches w) then go (woHeld s key) s else s

end Sys2Proof.Machine
end

