-- ==== Sys2Proof/Machine/Cvu.lean ====
section
/-!
DEFINITION. The check-value channels (12 R313 to R322).
-/
namespace Sys2Proof.Machine

/-- Management firmware works on a channel: MC registers (R313). -/
def onCvu (c : Nat) (act : Cvu → State → State) (s : State) : State :=
  if mcAwake s && decide (c < 4) then act (cvuOf s c) s else s

/-! ## Configuration (R315, R316) -/

/-- CVU_CFG as read. -/
def Cvu.cfg (x : Cvu) : Nat :=
  x.width.toNat + 2 ^ 7 * b2n x.refin + 2 ^ 8 * b2n x.refout + 2 ^ 9 * x.mode.toNat + 2 ^ 11 * x.preset.toNat +
    2 ^ 14 * x.foldLen.toNat + 2 ^ 18 * x.alvW.toNat + 2 ^ 20 * b2n x.irqEn + 2 ^ 21 * b2n x.attach

/-- CVU_CFG takes a value, of which the bytes from `off` on were written: PRESET and ALV_W act where they are written. -/
def Cvu.config (x : Cvu) (v : Nat) (preset alv : Bool) : Cvu :=
  let x := { x with
    width := BitVec.ofNat 7 v, refin := v.testBit 7, refout := v.testBit 8, mode := BitVec.ofNat 2 (v / 2 ^ 9),
    preset := BitVec.ofNat 3 (v / 2 ^ 11), foldLen := BitVec.ofNat 4 (v / 2 ^ 14), alvW := BitVec.ofNat 2 (v / 2 ^ 18),
    irqEn := v.testBit 20, attach := v.testBit 21, alvLast := if alv then none else x.alvLast }
  if preset then x.load x.preset.toNat else x

/-- A value that CVU_CFG ignores (R316). -/
def cvuCfgBad (c v : Nat) (x' : Cvu) : Bool :=
  decide (bitsN v 0 7 < 8) || decide (64 < bitsN v 0 7) || decide (4 < bitsN v 11 3) || decide (bitsN v 18 2 = 3) ||
    (decide (bitsN v 9 2 = 2) && decide (c ≠ 2)) || (decide (bitsN v 9 2 = 3) && decide (c ≠ 3)) ||
    (v.testBit 21 && decide (c < 2)) || (decide (2 ≤ bitsN v 9 2) && decide (x'.width.toNat % 8 ≠ 0))

/-- CVU_PRESET: a write of CVU_CFG (R315, R316). -/
def effCvuPreset (c : Nat) (w : RegWr) (s : State) : State :=
  onCvu c (fun x s =>
    let v := rwMerge w 4 x.cfg
    let x' := x.config v (rwTouches w 1) (rwTouches w 2)
    if x.opened || cvuCfgBad c v x' then setCvu s c { x with cfgErr := true } else setCvu s c x') s

/-- A write of CVU_POLY, CVU_INIT or CVU_XOROUT (R316). -/
def cvuParam (c : Nat) (f : Cvu → Cvu) (s : State) : State :=
  onCvu c (fun x s => setCvu s c (if x.opened then { x with cfgErr := true } else f x)) s

/-! ## A computation (R314, R317 to R321) -/

/-- CVU_START (R314). -/
def effCvuStart (c : Nat) (s : State) : State := onCvu c (fun x s => setCvu s c x.start) s

/-- The bytes a channel passes on (R321). -/
def cvuPass (c : Nat) (b : Bytes) (s : State) : State := if b.isEmpty then s else emit (.cvu c b) s

/-- Data bytes enter the channel (R317, R321). -/
def cvuFeed (c : Nat) (b : Bytes) (x : Cvu) (s : State) : State := cvuPass c (x.feed b).2 (setCvu s c (x.feed b).1)

/-- An MC data write of `n` bytes (R316, R317). -/
def cvuData (c n v : Nat) (s : State) : State :=
  onCvu c (fun x s =>
    if !x.opened || x.attach then setCvu s c { x with cfgErr := true } else cvuFeed c (leBytes n v) x s) s

/-- CVU_DATA8 (R317). -/
def effCvuData8 (c : Nat) (v : BitVec 8) (s : State) : State := cvuData c 1 v.toNat s
/-- CVU_DATA16 (R317). -/
def effCvuData16 (c : Nat) (v : BitVec 16) (s : State) : State := cvuData c 2 v.toNat s
/-- CVU_DATA32 (R317). -/
def effCvuData32 (c : Nat) (v : BitVec 32) (s : State) : State := cvuData c 4 v.toNat s

/-- The FOLD_LEN low bytes of FOLD; those a FOLD_LEN above 8 adds are open (R320, log 54). -/
def foldBytes (s : State) (x : Cvu) (v : BitVec 64) : Bytes :=
  (leBytes 8 v.toNat ++ (List.range 8).map (Config.openByte s.free)).take x.foldLen.toNat

/-- CVU_FOLD (R316, R320): a write made with FOLD_LEN 0 sets FOLD_LATE whether or not a computation is open. -/
def effCvuFold (c : Nat) (v : BitVec 64) (s : State) : State :=
  onCvu c (fun x s =>
    if !x.opened then setCvu s c { x with cfgErr := true, foldLate := x.foldLate || decide (x.foldLen = 0) }
    else if x.seen || decide (x.foldLen = 0) then setCvu s c { x with foldLate := true }
    else drawn (setCvu s c { x.take (foldBytes s x v) with fold := v })) s

/-- CVU_FINISH (R318, R319, R321). -/
def effCvuFinish (c : Nat) (s : State) : State :=
  onCvu c (fun x s =>
    if !x.opened then s
    else
      let y := x.finish
      let s := cvuPass c y.2 (setCvu s c y.1)
      if x.irqEn && x.failed y.1 then emit (.cvuIrq c) s else s) s

/-! ## Alive Counters (R322) -/

/-- 2^w of a channel, 1 where ALV_W is 0. -/
def Cvu.alvMod (x : Cvu) : Nat := if x.alvW = 1 then 16 else if x.alvW = 2 then 256 else 1

/-- CVU_ALV_TX: a read answers the transmit value and advances it. -/
def effCvuAlvTx (c : Nat) (s : State) : State :=
  onCvu c (fun x s =>
    let v := x.alvTx.toNat % x.alvMod
    emit (.readData (leBytes 1 v)) (setCvu s c { x with alvTx := BitVec.ofNat 8 ((v + 1) % x.alvMod) })) s

/-- CVU_ALV_RX: a received value is classified, 0 FIRST, 1 IN_ORDER, 2 REPEAT, 3 GAP. -/
def effCvuAlvRx (c : Nat) (a : BitVec 8) (s : State) : State :=
  onCvu c (fun x s =>
    if x.alvW = 0 then s
    else
      let a := a.toNat % x.alvMod
      match (if x.started then x.alvLast else none) with
      | none => setCvu s c { x with alvClass := 0, alvLast := some (BitVec.ofNat 8 a) }
      | some l =>
        let l := l.toNat
        if a = l then setCvu s c { x with alvClass := 2 }
        else if (a + x.alvMod - l % x.alvMod) % x.alvMod = 1 then
          setCvu s c { x with alvClass := 1, alvLast := some (BitVec.ofNat 8 a) }
        else setCvu s c { x with alvClass := 3 }) s

/-! ## Meanings of the commands -/

/-- CVU_START (12 R314). -/
def execCvuStart (c : Nat) (s : State) : Host.Outcome State Fault Refusal :=
  .next (effCvuStart c s)

/-- CVU_FINISH (12 R319). -/
def execCvuFinish (c : Nat) (s : State) : Host.Outcome State Fault Refusal :=
  .next (effCvuFinish c s)

/-- CVU_FOLD (12 R320). -/
def execCvuFold (c : Nat) (v : BitVec 64) (s : State) : Host.Outcome State Fault Refusal :=
  .next (effCvuFold c v s)

/-- CVU_DATA8 (12 R317). -/
def execCvuData8 (c : Nat) (v : BitVec 8) (s : State) : Host.Outcome State Fault Refusal :=
  .next (effCvuData8 c v s)

/-- CVU_DATA16 (12 R317). -/
def execCvuData16 (c : Nat) (v : BitVec 16) (s : State) : Host.Outcome State Fault Refusal :=
  .next (effCvuData16 c v s)

/-- CVU_DATA32 (12 R317). -/
def execCvuData32 (c : Nat) (v : BitVec 32) (s : State) : Host.Outcome State Fault Refusal :=
  .next (effCvuData32 c v s)

/-- CVU_PRESET (12 R315). -/
def execCvuPreset (c : Nat) (w : RegWr) (s : State) : Host.Outcome State Fault Refusal :=
  if !mcAwake s then .next s else regWrite w 4 (effCvuPreset c w) s

/-- CVU_ALV_TX (12 R322). -/
def execCvuAlvTx (c : Nat) (s : State) : Host.Outcome State Fault Refusal :=
  .next (effCvuAlvTx c s)

/-- CVU_ALV_RX (12 R322). -/
def execCvuAlvRx (c : Nat) (a : BitVec 8) (s : State) : Host.Outcome State Fault Refusal :=
  .next (effCvuAlvRx c a s)

end Sys2Proof.Machine
end

