-- ==== Sys2Proof/Machine/Coding.lean ====
section
/-!
DEFINITION. The link codings of 09: Exact Transport (R242 to R244), Pixel Lossless (R245, R246) and BEC-12 (R247 to R249).
-/
namespace Sys2Proof

/-! ## Exact Transport -/

/-- A lane image in a 64-byte slot may be sent: bytes 42 to 63 are 0, CLASS is not 0b11, Reserved bits are 0 (R244). -/
def slotFit (b : Bytes) : Bool :=
  decide (leAt b 42 6 = 0) && decide (ofLe ((sliceB b 48 16)) = 0) && decide (bitsN (leAt b 36 4) 29 2 ≠ 3) &&
    decide (bitsN (leAt b 36 4) 31 1 = 0) && decide (bitsN (leAt b 40 2) 10 6 = 0)

/-- The record of one 48-byte lane image (R242, R243). -/
def etRecord (b : Bytes) : Bytes :=
  let neg := decide (bitsN (leAt b 31 1) 7 1 = 1)
  let fill := if neg then 0xFFFFFFFF else 0
  let limbs := (List.range 8).map (fun k => (k, leAt b (4 * k) 4))
  let present := limbs.filter (fun x => decide (x.2 ≠ fill))
  let mask := (present.map (fun x => 2 ^ x.1)).sum
  let loss := leAt b 32 4
  leBytes 1 mask ++ leBytes 1 (b2n neg + 2 * b2n (decide (loss = 0))) ++ sliceB b 36 4 ++ sliceB b 40 2 ++
    (if loss = 0 then [] else leBytes 4 loss) ++ present.flatMap (fun x => leBytes 4 x.2)

/-- The limbs of a record rebuilt from the bytes after its head (R243). -/
def etLimbs (mask fill : Nat) : Nat → Nat → Bytes → Option (Bytes × Bytes)
  | 0, _, b => some ([], b)
  | n + 1, k, b =>
    if mask.testBit k then
      if b.length < 4 then none
      else (etLimbs mask fill n (k + 1) (b.drop 4)).map (fun r => (b.take 4 ++ r.1, r.2))
    else (etLimbs mask fill n (k + 1) b).map (fun r => (leBytes 4 fill ++ r.1, r.2))

/-- One record decoded: the 48-byte image and the rest of the bytes (R243, R244). -/
def etOne (b : Bytes) : Option (Bytes × Bytes) :=
  if b.length < 8 then none
  else
    let mask := byteAt b 0
    let f := byteAt b 1
    let flags := leAt b 2 4
    let anchor := leAt b 6 2
    if f / 4 ≠ 0 || bitsN flags 29 2 = 3 || bitsN flags 31 1 ≠ 0 || bitsN anchor 10 6 ≠ 0 then none
    else
      let lz := f.testBit 1
      let r := b.drop 8
      if !lz && r.length < 4 then none
      else
        let loss := if lz then 0 else leAt r 0 4
        let r := if lz then r else r.drop 4
        (etLimbs mask (if f.testBit 0 then 0xFFFFFFFF else 0) 8 0 r).map
          (fun x => (x.1 ++ leBytes 4 loss ++ leBytes 4 flags ++ leBytes 2 anchor ++ leBytes 6 0, x.2))

/-- Exactly `n` records, with nothing after them (R459). -/
def etMany : Nat → Bytes → Option (List Bytes)
  | 0, b => if b.isEmpty then some [] else none
  | n + 1, b =>
    match etOne b with
    | none => none
    | some (i, r) => (etMany n r).map (i :: ·)

/-! ## Pixel Lossless -/

/-- The 16-bit samples of a byte string (R245). -/
def plSamples (b : Bytes) : List Nat := (chunksN 2 (b.length / 2) b).map ofLe

/-- The mapped residuals of a block (R245). -/
def plResid : List Nat → List Nat
  | x :: y :: r =>
    let d := sextN (y + 2 ^ 16 - x) 16
    (if d ≥ 0 then (2 * d).toNat else (-2 * d - 1).toNat) :: plResid (y :: r)
  | _ => []

/-- Fields of `w` bits packed least significant bit first. -/
def packBits (w : Nat) : List Nat → Nat
  | [] => 0
  | x :: r => x % 2 ^ w + 2 ^ w * packBits w r

/-- One block of up to 64 samples (R245, R246). -/
def plBlock (x : List Nat) : Bytes :=
  let z := plResid x
  let w := (z.map bitLen).foldl max 0
  let raw := x.flatMap (leBytes 2)
  if w ≥ 16 then leBytes 1 16 ++ raw
  else leBytes 1 w ++ raw.take 2 ++ leBytes (ceilDiv (z.length * w) 8) (packBits w z)

/-- Pixel Lossless coding of a segment. -/
def plEncode (b : Bytes) : Bytes :=
  let x := plSamples b
  (chunksN 64 (ceilDiv x.length 64) x).flatMap plBlock

/-- Samples rebuilt from the first one and the residuals. -/
def plUnfold (w : Nat) : Nat → Nat → Nat → List Nat
  | 0, _, _ => []
  | n + 1, x, bits =>
    let z := bits % 2 ^ w
    let d : Int := if z % 2 = 0 then (z / 2 : Nat) else -((z / 2 : Nat) : Int) - 1
    let y := ((x : Int) + d) % 2 ^ 16
    y.toNat :: plUnfold w n y.toNat (bits / 2 ^ w)

/-- One block of `n` samples decoded: its samples and the rest of the bytes (R245, R246). -/
def plOne (n : Nat) (b : Bytes) : Option (List Nat × Bytes) :=
  match b with
  | [] => none
  | wb :: r =>
    let w := wb.toNat
    if w > 16 then none
    else if w = 16 then (if r.length < 2 * n then none else some (plSamples (r.take (2 * n)), r.drop (2 * n)))
    else
      let k := ceilDiv ((n - 1) * w) 8
      if r.length < 2 + k then none
      else
        let bits := ofLe ((r.drop 2).take k)
        if bits / 2 ^ ((n - 1) * w) ≠ 0 then none
        else
          let x0 := leAt r 0 2
          some (x0 :: plUnfold w (n - 1) x0 bits, r.drop (2 + k))

/-- Exactly the blocks of `n` samples, with nothing after them (R459). -/
def plMany : Nat → Nat → Bytes → Option (List Nat)
  | 0, n, b => if n = 0 && b.isEmpty then some [] else none
  | fuel + 1, n, b =>
    if n = 0 then (if b.isEmpty then some [] else none)
    else
      match plOne (min n 64) b with
      | none => none
      | some (x, r) => (plMany fuel (n - min n 64) r).map (x ++ ·)

/-! ## BEC-12 -/

/-- One block of 16 FP16 values (R247). -/
def becBlock (x : List Nat) : Bytes :=
  let es := x.map (fun v => bitsN v 10 5)
  if es.any (fun e => decide (e = 31)) then leBytes 1 31 ++ x.flatMap (leBytes 2)
  else
    let e := es.foldl max 1
    let field (v : Nat) : Nat :=
      match fpDec fp16 v with
      | .fin neg m q => roundShift false m q ((e : Int) - 25) % 2048 + 2048 * b2n neg
      | _ => 0
    leBytes 1 e ++ leBytes 24 (packBits 12 (x.map field))

/-- BEC-12 coding of a segment. -/
def becEncode (b : Bytes) : Bytes :=
  let x := plSamples b
  (chunksN 16 (ceilDiv x.length 16) x).flatMap becBlock

/-- The 16 values of a coded block (R247). -/
def becValues (e : Nat) : Nat → Nat → List Nat
  | 0, _ => []
  | n + 1, bits =>
    let f := bits % 4096
    (fpRound fp16 true (f.testBit 11) (f % 2048) ((e : Int) - 25)).enc :: becValues e n (bits / 4096)

/-- Exactly `n` blocks, with nothing after them (R249, R459). -/
def becMany : Nat → Bytes → Option (List Nat)
  | 0, b => if b.isEmpty then some [] else none
  | n + 1, b =>
    match b with
    | [] => none
    | h :: r =>
      let e := h.toNat
      if e = 0 || e / 32 ≠ 0 then none
      else if e = 31 then
        (if r.length < 32 then none else (becMany n (r.drop 32)).map (plSamples (r.take 32) ++ ·))
      else if r.length < 24 then none
      else (becMany n (r.drop 24)).map (becValues e 16 (ofLe (r.take 24)) ++ ·)

/-! ## Segments -/

/-- A segment's decoded bytes coded (R241 to R249); `none` where the bytes do not fit the coding. -/
def encodeSeg (coding : Nat) (b : Bytes) : Option Bytes :=
  match coding with
  | 0 => some b
  | 1 =>
    if b.length % 64 = 0 && (chunksN 64 (b.length / 64) b).all slotFit then
      some ((chunksN 64 (b.length / 64) b).flatMap etRecord)
    else none
  | 2 => if b.length % 2 = 0 then some (plEncode b) else none
  | 3 => if b.length % 32 = 0 then some (becEncode b) else none
  | _ => none

/-- A coded payload decoded to `dlen` bytes (R459); Exact Transport rebuilds 64-byte slots (R243). -/
def decodeSeg (coding dlen : Nat) (b : Bytes) : Option Bytes :=
  match coding with
  | 0 => if b.length = dlen then some b else none
  | 1 =>
    if dlen % 64 = 0 then (etMany (dlen / 64) b).map (fun l => l.flatMap (fun i => i ++ leBytes 16 0)) else none
  | 2 => if dlen % 2 = 0 then (plMany (ceilDiv dlen 128) (dlen / 2) b).map (fun l => l.flatMap (leBytes 2)) else none
  | 3 => if dlen % 32 = 0 then (becMany (dlen / 32) b).map (fun l => l.flatMap (leBytes 2)) else none
  | _ => none

end Sys2Proof
end

