-- ==== Sys2Proof/Machine/Slots.lean ====
section
/-!
DEFINITION. The operation window's shared steps (03 R65 to R67, R86, R463): a failure of a descriptor, what its completion
waits for, its completion and its retirement.
-/
namespace Sys2Proof.Machine

/-- KIND of a descriptor (03 R71). -/
def Slot.kind (x : Slot) : Nat := bitsAt x.desc 0 0 4

/-- The SIGs in use, ascending (03 R71). -/
def sigsOf (x : Slot) : List Nat := (List.range 4).filter (fun i => decide (bitsAt x.desc 1 (4 + i) 1 = 1))

/-- A slot holds the descriptor admitted as `order`. -/
def Slot.isDesc (x : Slot) (order : Nat) : Bool := decide (x.st ≠ .empty) && decide (x.order = order)

/-- The earliest failure in list order (03 R86). -/
def earliest (f : Option (Nat × Nat × Nat)) (x : Slot) : Option (Nat × Nat × Nat) :=
  match f with
  | some y => if x.order < y.1 then some (x.order, x.status, leAt x.desc 2 2) else some y
  | none => some (x.order, x.status, leAt x.desc 2 2)

/-- A descriptor retires: its slot is free and the progress timer restarts (03 R67, 14 R354). A HALT that does not chain
ends the tile's part (03 R68, 05 R130). -/
def retire (t n : Nat) (s : State) : State :=
  let tl := tileOf s t
  let x := slotOf s t n
  let ends := decide (x.kind = 15) && (decide (bitsAt x.desc 16 0 1 = 0) || decide (x.status ≠ 0))
  setTile s t { tl with win := tput {} tl.win n {}, prog := 0, part := if ends then .ended else tl.part }

/-- A root REDUCE frees its group's slot of the group table (03 R82). -/
def freeGroup (t : Nat) (x : Slot) (s : State) : State :=
  if decide (x.kind = 7) && decide (bitsAt x.desc 16 0 1 = 1) then
    setTile s t { tileOf s t with groups := (tileOf s t).groups.filter (fun g => decide (g.group ≠ leAt x.desc 24 2)) }
  else s

/-- A descriptor completes: its status counts for the tile's part, and its signals are due (03 R67, R86). -/
def complete (t n : Nat) (s : State) : State :=
  let x := slotOf s t n
  let s := freeGroup t x s
  let tl := tileOf s t
  let s := if x.status = 0 then s else setTile s t { tl with fail := earliest tl.fail x }
  let sigs := sigsOf x
  if sigs.isEmpty then retire t n s else setSlot s t n { x with st := .signalling, sigs := sigs }

/-- The descriptor of a slot has nothing left to wait for: a contributor REDUCE also needs its REDUCE-DONE, unless it has
failed (09 R239). -/
def slotReady (x : Slot) : Bool :=
  decide (x.st = .executing) && x.begun && x.waits.isEmpty && x.txns.isEmpty &&
    (decide (x.kind ≠ 7) || decide (bitsAt x.desc 16 0 1 = 1) || x.redDone.isSome || decide (x.status ≠ 0))

/-- A descriptor meets a failure (03 R463): the first gives the status; each distinct one writes its record, unless another
record stands for it (R86). -/
def slotFail (t n : Nat) (e : ErrRec) (quiet : Bool) (s : State) : State :=
  let x := slotOf s t n
  let s := if x.status = 0 then setSlot s t n { x with status := e.code } else s
  if quiet then s else raise e s

/-- A failure with the plain record of the descriptor. -/
def slotErr (t n code : Nat) (s : State) : State := slotFail t n (tileRec s t (slotOf s t n) code) false s

/-- The failed lanes of a descriptor's images are one failure, met and recorded once (02 R42, R43). -/
def exaFailed (t n : Nat) (s : State) : State :=
  match (slotOf s t n).exaFail with
  | none => s
  | some f => slotFail t n { tileRec s t (slotOf s t n) f.1 with lane := f.2 } false s

/-- A slot completes once nothing is left to wait for. -/
def slotTry (t n : Nat) (s : State) : State :=
  if slotReady (slotOf s t n) then complete t n (exaFailed t n s) else s

/-- Something a descriptor, a sealed row or a job's completion waited for has come about. -/
def slotGot (a : Await) (s : State) : State :=
  let s := { s with sealer.rows := s.sealer.rows.map (fun (r : SealRow) => { r with waits := r.waits.erase a }) }
  let s := { s with obj.q := tmap {} (fun _ (x : Queue) =>
    ({ x with job := x.job.map (fun (j : Job) => { j with owes := j.owes.erase a }) } : Queue)) s.obj.q }
  s.tile.foldl (fun s e =>
    e.2.win.foldl (fun s w =>
      if w.2.waits.contains a then
        let x := slotOf s e.1 w.1
        slotTry e.1 w.1 (setSlot s e.1 w.1 { x with waits := x.waits.erase a })
      else s) s) s

/-- The slot of tile `t` that holds the descriptor admitted as `order`. -/
def findSlot (s : State) (t order : Nat) : Option Nat :=
  ((tileOf s t).win.find? (fun w => w.2.isDesc order)).map (·.1)

/-- The mode of the context that owns a tile (02 R35). -/
def archiveTile (s : State) (t : Nat) : Bool :=
  match tileOwner s t with
  | some c => !(ctxOf s c).preview
  | none => true

/-! ## Scratchpad and lanes -/

/-- Scratchpad bytes of a tile (03 R62); unlisted offsets read 0x00 (log 10). -/
def spRead (s : State) (t off n : Nat) : Bytes := memRead 0 (tileOf s t).mem off n

/-- Bytes written into a tile's scratchpad. -/
def spWrite (t off : Nat) (b : Bytes) (s : State) : State :=
  let tl := tileOf s t
  setTile s t { tl with mem := memWrite 0 tl.mem off b }

def laneOf (s : State) (t l : Nat) : Lane := tget Lane.clear (tileOf s t).exa l

def setLane (t l : Nat) (a : Lane) (s : State) : State :=
  let tl := tileOf s t
  setTile s t { tl with exa := tput Lane.clear tl.exa l a }

/-- Lane images added into lanes from `first` on (02 R39); a lane that is failed afterwards has its open fields free (R35). -/
def addLanes (t : Nat) (archive : Bool) : Nat → List Lane → State → State
  | _, [], s => drawn s
  | first, a :: r, s =>
    addLanes t archive (first + 1) r
      (setLane t first ((addLane (laneOf s t first) a).open archive s.free first) s)

/-- The lanes of a block, ascending, each with its number (03 R60). -/
def blockLanes (row0 m n : Nat) : List Nat :=
  (List.range m).flatMap (fun i => (List.range n).map (fun j => 64 * (row0 + i) + j))

end Sys2Proof.Machine
end

