-- ==== Sys2Proof/Machine/Txn.lean ====
section
/-!
DEFINITION. The Nalfa transaction engine (09): headers, keys, routes, the issue and end of transactions, and the common
part of every request at its destination.
-/
namespace Sys2Proof.Machine

/-! ## The segment (R226, R227, R250) -/

/-- The 40 header bytes (R227). -/
def Hdr.bytes (h : Hdr) : Bytes :=
  leBytes 1 (h.ttype + 16 * h.aop) ++
  leBytes 1 (h.coding + 4 * h.order + 32 * b2n h.pull + 64 * b2n h.last) ++
  leBytes 1 h.dstDev ++ leBytes 1 h.srcDev ++ leBytes 1 h.dstCtx ++ leBytes 1 h.srcCtx ++
  leBytes 1 h.kslot ++ leBytes 1 h.srcTile ++ leBytes 4 h.tag ++ leBytes 2 h.dlen ++ leBytes 2 h.elen ++
  leBytes 8 h.va ++ leBytes 4 h.w24 ++ leBytes 2 h.status ++ leBytes 1 h.lanes ++ leBytes 1 0 ++ leBytes 8 h.ctr

/-- The fields of a header. -/
def parseHdr (b : Bytes) : Hdr :=
  { ttype := bitsAt b 0 0 4, aop := bitsAt b 0 4 4, coding := bitsAt b 1 0 2, order := bitsAt b 1 2 3,
    pull := decide (bitsAt b 1 5 1 = 1), last := decide (bitsAt b 1 6 1 = 1), dstDev := byteAt b 2,
    srcDev := byteAt b 3, dstCtx := bitsAt b 4 0 7, srcCtx := bitsAt b 5 0 7, kslot := byteAt b 6,
    srcTile := bitsAt b 7 0 7, tag := bitsAt b 8 0 17, dlen := bitsAt b 12 0 13, elen := bitsAt b 14 0 13,
    va := bitsAt b 16 0 48, w24 := leAt b 24 4, status := leAt b 28 2, lanes := bitsAt b 30 0 6, ctr := leAt b 32 8 }

/-- GROUP, SIDX and SCOUNT of an EXA-RED, EVENT and NOTIFY of a FENCE (R227). -/
def Hdr.group (h : Hdr) : Nat := bitsN h.w24 0 16
def Hdr.sidx (h : Hdr) : Nat := bitsN h.w24 16 6
def Hdr.scount (h : Hdr) : Nat := bitsN h.w24 24 7
def Hdr.event (h : Hdr) : Nat := bitsN h.w24 0 14
def Hdr.notify (h : Hdr) : Bool := h.w24.testBit 16

/-- The bits bytes 24 to 27 may hold, by type (R227). -/
def w24Mask (h : Hdr) : Nat :=
  if h.ttype = 3 then 2 ^ 18 - 1
  else if h.ttype = 4 && h.aop = 6 then 2 ^ 16 - 1 + 2 ^ 16 * 63 + 2 ^ 24 * 127
  else if h.ttype = 4 && h.aop = 7 then 2 ^ 16 - 1
  else if h.ttype = 5 then 2 ^ 14 - 1 + 2 ^ 16
  else 0

/-- The header is a response. -/
def Hdr.isResp (h : Hdr) : Bool := decide (h.ttype = 8) || decide (h.ttype = 9)

/-- TTYPE and AOP hold no reserved encoding (R227). -/
def hdrType (h : Hdr) : Bool :=
  [1, 2, 3, 4, 5, 8, 9].contains h.ttype && (if h.ttype = 4 then decide (h.aop ≤ 7) else decide (h.aop = 0))

/-- No Reserved bit is set: the bytes are those of the fields read from them, and bytes 24 to 31 hold only what the type
gives them (R228). -/
def hdrPlain (b : Bytes) : Bool :=
  let h := parseHdr b
  decide (h.bytes = sliceB b 0 40) && decide (h.w24 &&& w24Mask h = h.w24) &&
    (h.isResp || (decide (h.ttype = 4) && decide (h.aop = 7)) || decide (h.status = 0)) &&
    ((decide (h.ttype = 4) && (decide (h.aop = 5) || decide (h.aop = 6))) || decide (h.lanes = 0)) &&
    (decide (h.ttype = 3) || h.isResp || !h.pull)

/-- The checks of R228. -/
def hdrOk (b : Bytes) : Bool :=
  let h := parseHdr b
  hdrType h && hdrPlain b && decide (h.dlen ≤ 4096) && decide (h.elen ≤ 4224) &&
    (!(decide (h.ttype = 4) && decide (h.aop = 6)) ||
      (decide (1 ≤ h.scount) && decide (h.scount ≤ 64) && decide (h.sidx < h.scount)))

/-- The IV of a segment (R250). -/
def segIv (kslot ctr : Nat) : Bytes := leBytes 1 kslot ++ leBytes 3 0 ++ leBytes 8 ctr

/-- The engine's key of a job key slot (11 R292). -/
def gcmKeyOf (s : State) (k : Nat) : Option (BitVec 256) := tget none s.kh.gcmKey k

def jobKeyOf (s : State) (k : Nat) : JobKey := tget {} s.kh.jobKey k

/-- A segment takes the slot's next counter value and is sealed; none where the slot holds no key, or where it would take the counter
past its sender's range (R251). -/
def sealSeg (h : Hdr) (coded : Bytes) (s : State) : Option (Bytes × State) :=
  match gcmKeyOf s h.kslot with
  | none => none
  | some k =>
    let j := jobKeyOf s h.kslot
    if j.ctr ≥ j.sender * 2 ^ 56 + 2 ^ 56 - 1 then none
    else
      let h := { h with elen := coded.length, ctr := j.ctr }
      let e := gcmSeal (keyBytes k) (segIv h.kslot h.ctr) h.bytes coded
      some (h.bytes ++ e.1 ++ e.2, { s with kh.jobKey := tput {} s.kh.jobKey h.kslot { j with ctr := j.ctr + 1 } })

/-- The coded bytes of a received segment, where its tag verifies (R237, R250). -/
def openSeg (s : State) (b : Bytes) : Option Bytes :=
  let h := parseHdr b
  match gcmKeyOf s h.kslot with
  | none => none
  | some k =>
    gcmOpen (keyBytes k) (segIv h.kslot h.ctr) (sliceB b 0 40) (sliceB b 40 h.elen) (sliceB b (40 + h.elen) 16)

/-! ## Routes (10 R268) -/

/-- A port's state lets it carry frames (10 R268). -/
def portUsable (x : Port) : Bool := decide (x.st = .active) || decide (x.st = .replay) || decide (x.st = .retrain)

/-- The device is bound in a Roped Pair (10 R274): its Mirror Port carries mirror messages only. -/
def pairBound (s : State) : Bool :=
  decide (s.pair.st = .binding) || decide (s.pair.st = .syncing) || decide (s.pair.st = .paired) ||
    decide (s.pair.st = .solo) || decide (s.pair.st = .takenOver) || decide (s.pair.st = .stoodDown)

/-- The port carries mirror messages only: the Mirror Port of a bound pair, or a former one until the next routing computation
(10 R274, R284). -/
def isMirror (s : State) (p : Nat) : Bool := decide (s.pair.leaving = some p) || (pairBound s && decide (p = mirrorPort s))

/-- The ports of the bundle a table field names, ascending (10 R268). -/
def bundle (s : State) (p : Nat) : List Nat :=
  if p > 7 || isMirror s p || (portOf s p).nbrUid = 0 then []
  else (List.range 8).filter (fun i =>
    (portOf s i).up && !isMirror s i && decide ((portOf s i).nbrUid = (portOf s p).nbrUid))

/-- The member of a bundle that a stream uses (10 R268). -/
def member (s : State) (l : List Nat) (ctx order : Nat) : Option Nat :=
  let u := l.filter (fun p => portUsable (portOf s p))
  if u.isEmpty then none else u[(8 * ctx + order) % u.length]?

/-- The routing entry of an address (10 R266). -/
def routeOf (s : State) (d : Nat) : BitVec 32 := tget 0x00FF0FFF s.fab.route d

/-- The port for a segment, by PRIMARY with ALT standing in, or by DOWNP alone; a PRIMARY of 0x8 names no usable port
(10 R268, R271, R272). -/
def routePort (s : State) (down : Bool) (d ctx order : Nat) : Option Nat :=
  let r := (routeOf s d).toNat
  if down then member s (bundle s (bitsN r 8 4)) ctx order
  else if bitsN r 0 4 = 8 then none
  else
    match member s (bundle s (bitsN r 0 4)) ctx order with
    | some p => some p
    | none => member s (bundle s (bitsN r 4 4)) ctx order

/-! ## Sending (10 R271) -/

/-- A whole segment waits at an output VC of a port; `src` is the arrival port, or 8 for the engine. -/
def queueSeg (p : Nat) (vcA : Bool) (src : Nat) (b : Bytes) (s : State) : State :=
  let x := portOf s p
  setPort s p (if vcA then { x with outA := x.outA ++ [(src, b)] } else { x with outQ := x.outQ ++ [(src, b)] })

/-- A response is sealed and sent back to its request's source; without protection or a route it is not sent (R465). -/
def sendResp (src : Nat) (h : Hdr) (coded : Bytes) (s : State) : State :=
  if (jobKeyOf s h.kslot).bound ≠ some h.srcCtx then s
  else
    match sealSeg h coded s with
    | none => s
    | some (b, s) =>
      if src = 8 || h.dstDev = s.fab.addr.toNat then { s with txn.loopA := s.txn.loopA ++ [b] }
      else
        match routePort s false h.dstDev h.srcCtx h.order with
        | none => s
        | some p => queueSeg p true 8 b s

/-! ## Issue (R225, R234) -/

/-- The key slot of KEYSEL, where JKV marks it valid (05 R132, R234). -/
def keySlot (s : State) (c keysel : Nat) : Option Nat :=
  if (ctxOf s c).jkv.toNat.testBit keysel then (ctxOf s c).jk[keysel]? else none

/-- DST_DEV names this device, a reachable one, or none (R234, R235). -/
def reachable (s : State) (dev ctx order : Nat) : Bool :=
  dev ≠ 255 && (decide (dev = s.fab.addr.toNat) || (routePort s false dev ctx order).isSome)

/-- The checks of R234 in their order; 0 where all hold. `codingOk` says that the coding is allowed and the bytes fit. -/
def issueCheck (s : State) (c coding keysel dev order : Nat) (codingOk localDev : Bool) : Nat :=
  if coding = 3 && !(ctxOf s c).preview then errLossyInArchive
  else if !codingOk then errCodingInvalid
  else if (keySlot s c keysel).isNone then errKeySlot
  else if !localDev && !reachable s dev c order then errUnreachable
  else 0

/-- A transaction enters the engine; answers its number. -/
def txnNew (x : Txn) (s : State) : Nat × State :=
  (s.txn.next, { s with txn.txns := tput none s.txn.txns s.txn.next (some x), txn.next := s.txn.next + 1 })

def txnOf (s : State) (id : Nat) : Option Txn := tget none s.txn.txns id

/-! ## The end of a transaction (R224, 14 R357, R361) -/

/-- The outstanding tags of a transaction. -/
def tagsOf (s : State) (id : Nat) : List Nat :=
  tkeys (fun _ x => match x with
    | some t => decide (t.txn = id)
    | none => false) s.txn.tags

/-- Tags end and are held out of use for 100 ms (R231, 14 R359). -/
def quarantine (l : List Nat) (s : State) : State :=
  { s with
    txn.tags := s.txn.tags.filter (fun e => !l.contains e.1)
    txn.quar := l.foldl (fun q t => tput 0 q t (s.now + 1)) s.txn.quar }

/-- An NTX transaction has finished, once what it landed is acknowledged by the partner too (R254, 10 R276). -/
def ntxEnd (s : State) : State :=
  if s.txn.ntx.waits.isEmpty then { s with txn.ntx.busy := false, txn.ntx.done := true } else s

/-- An NTX transaction is among those in progress. -/
def ntxOpen (s : State) : Bool :=
  s.txn.txns.any (fun e => match e.2 with
    | some x => decide (x.src = .ntx)
    | none => false)

/-- What a transaction's end means to its issuer: the descriptor fails or goes on, NTX shows the status, a root REDUCE has
one REDUCE-DONE fewer to send. -/
def txnNotify (id : Nat) (x : Txn) (status : Nat) (quiet : Bool) (s : State) : State :=
  match x.src with
  | .tile t _ order =>
    match findSlot s t order with
    | none => s
    | some n =>
      let y := slotOf s t n
      let s := setSlot s t n { y with txns := y.txns.erase id }
      let s := match x.exaFail with
        | some f => setSlot s t n { slotOf s t n with exaFail := joinExa (slotOf s t n).exaFail f }
        | none => if status = 0 then s else slotFail t n (tileRec s t y status) quiet s
      slotTry t n s
  | .ntx => ntxEnd { s with txn.ntx.code := BitVec.ofNat 16 status }
  | .root _ _ _ => slotGot (.sent id) s

/-- A transaction ends before its responses: its tags are held out of use, its unsent segments are dropped (14 R357). -/
def endTxn (id status : Nat) (quiet : Bool) (s : State) : State :=
  match txnOf s id with
  | none => s
  | some x =>
    let s := quarantine (tagsOf s id) s
    txnNotify id x status quiet { s with txn.txns := tput none s.txn.txns id none }

/-- Every transaction that satisfies `p` ends; none writes a record of its own (14 R360, R361). -/
def endTxns (p : Txn → Bool) (status : Nat) (s : State) : State :=
  (s.txn.txns.filter (fun e => match e.2 with
    | some x => p x
    | none => false)).foldl (fun s e => endTxn e.1 status true s) s

/-- A transaction completes once every segment has its response (R224). -/
def txnTry (id : Nat) (s : State) : State :=
  match txnOf s id with
  | none => s
  | some x =>
    if x.unsent.isEmpty && x.out = 0 then
      txnNotify id x ((x.fail.map (·.2)).getD 0) false { s with txn.txns := tput none s.txn.txns id none }
    else s

/-! ## SEGMENT_SEND (R230, R233, R466) -/

/-- The lowest tag that is neither outstanding nor held out of use, below the pool's size (R229; log 17). -/
def freeTagFrom (s : State) : Nat → Nat → Option Nat
  | 0, _ => none
  | fuel + 1, n =>
    if n ≥ 131072 then none
    else if (tget none s.txn.tags n).isNone && tget 0 s.txn.quar n = 0 then some n
    else freeTagFrom s fuel (n + 1)

def freeTag (s : State) : Option Nat := freeTagFrom s (s.txn.tags.length + s.txn.quar.length + 1) 0

/-- Tags a context holds. -/
def ctxTags (s : State) (c : Nat) : Nat :=
  (s.txn.tags.filter (fun e => match e.2 with
    | some t => match txnOf s t.txn with
      | some x => decide (x.ctx = c)
      | none => false
    | none => false)).length

/-- TAGQ, 1,024 where the descriptor holds 0 (R229). -/
def tagQuota (s : State) (c : Nat) : Nat := if (ctxOf s c).tagq = 0 then 1024 else (ctxOf s c).tagq.toNat

/-- The first tag wait of a job is recorded (R230); an NTX transaction counts as a job of its own, and `recorded` marks it
on the transaction. -/
def tagWait (id : Nat) (x : Txn) (why : Nat) (s : State) : State :=
  let e : ErrRec := { code := errTagQuota, src := 6, ctx := some x.ctx, detail := why }
  let mark (s : State) : State := { s with txn.txns := tput none s.txn.txns id (some { x with waited := true }) }
  let forJob (t : Nat) (s : State) : State :=
    match x.queue with
    | none => s
    | some q =>
      match (queueOf s q).job with
      | none => s
      | some j =>
        if j.tagWait then s
        else
          raise { e with unit := t, jobId := x.jobId, job := some q }
            (setQueue s q { queueOf s q with job := some { j with tagWait := true } })
  match x.src with
  | .ntx => if x.waited then s else raise { e with unit := 0x7F } (mark s)
  | .tile t _ _ => forJob t s
  | .root t _ _ => forJob t s

/-- Requests outstanding to a destination (R233). -/
def outstandingTo (s : State) (dev : Nat) : Bool :=
  s.txn.tags.any (fun e => match e.2 with
    | some t => decide (t.seg.hdr.dstDev = dev)
    | none => false)

/-- A request outstanding to a destination has left by another port than the routing table gives its stream now (R233). -/
def rerouted (s : State) (dev : Nat) : Bool :=
  s.txn.tags.any (fun e => match e.2 with
    | some t => decide (t.seg.hdr.dstDev = dev) && t.port.isSome &&
        decide (routePort s false dev t.seg.hdr.srcCtx t.seg.hdr.order ≠ t.port)
    | none => false)

/-- Requests to a destination are held back: its route has changed, and a request is outstanding to it (R233). -/
def routeHeld (s : State) (dev : Nat) : Bool := outstandingTo s dev && (tget false s.txn.hold dev || rerouted s dev)

/-- The descriptor has an older transaction whose segments are not all sent (R225: ascending order). -/
def olderUnsent (s : State) (id : Nat) (x : Txn) : Bool :=
  s.txn.txns.any (fun e => decide (e.1 < id) && match e.2 with
    | some y => decide (y.src = x.src) && !y.unsent.isEmpty
    | none => false)

/-- The segment takes a tag and leaves by `port`, or is looped back (R229, R235, R250). -/
def sendSeg (id : Nat) (x : Txn) (g : Seg) (rest : List Seg) (port : Option Nat) (tag : Nat) (s : State) : State :=
  let h := { g.hdr with tag := tag, srcDev := s.fab.addr.toNat }
  let h := if x.loop then { h with dstDev := s.fab.addr.toNat } else h
  match sealSeg h g.data s with
  | none => endTxn id errKeySlot false s
  | some (b, s) =>
    let s := { s with
      txn.txns := tput none s.txn.txns id (some { x with unsent := rest, out := x.out + 1 })
      txn.tags := tput none s.txn.tags tag
        (some { txn := id, seg := { g with hdr := h }, port := port, run := 0, frozen := 0 }) }
    let s := match port with
      | none => { s with txn.loopQ := s.txn.loopQ ++ [b] }
      | some p => queueSeg p false 8 b s
    if rest.isEmpty then slotGot (.sent id) s else s

/-- SEGMENT_SEND (R230): the next segment of transaction `id`. -/
def segSend (id : Nat) (s : State) : State :=
  match txnOf s id with
  | none => s
  | some x =>
    match x.unsent with
    | [] => s
    | g :: rest =>
      if !domOn s dMEM || decide (x.out ≥ x.window) || olderUnsent s id x then s
      else if !x.loop && routeHeld s x.dev then { s with txn.hold := tput false s.txn.hold x.dev true }
      else
        let s := { s with txn.hold := tput false s.txn.hold x.dev false }
        let port := if x.loop then none else routePort s false x.dev x.ctx g.hdr.order
        if !x.loop && port.isNone then
          endTxn id errUnreachable true
            (raise { code := errUnreachable, src := 6, ctx := some x.ctx, jobId := x.jobId, dtag := x.dtag,
                     detail := x.dev, job := x.queue } s)
        else if ctxTags s x.ctx ≥ tagQuota s x.ctx then tagWait id x 0 s
        else
          match freeTag s with
          | none => tagWait id x 1 s
          | some tag => sendSeg id x g rest port tag s

/-! ## Segments at the head of a receive buffer (R226, R464) -/

/-- The frames of the first segment of a buffer: incomplete, malformed, or whole. -/
inductive Head where
  | partialSeg
  | malformed (rest : List DFrame)
  | whole (b : Bytes) (rest : List DFrame)
  deriving DecidableEq, Repr

/-- Frames taken until the segment's bytes are complete or a frame is short (R464). -/
def gather (need : Nat) (acc : Bytes) : List DFrame → Head
  | [] => .partialSeg
  | f :: r =>
    let acc := acc ++ f.data
    if acc.length ≥ need || f.data.length < 240 then
      (if acc.length = need then .whole acc r else .malformed r)
    else gather need acc r

/-- The first segment of a buffer; a first frame too short to hold the header ends it there (R464). -/
def headOf : List DFrame → Head
  | [] => .partialSeg
  | f :: r =>
    if f.data.length < 40 then .malformed r
    else gather (56 + bitsAt f.data 14 0 13) [] (f :: r)

/-- A malformed segment is discarded, counted and recorded (R464). -/
def malformed (p : Nat) (s : State) : State :=
  let x := portOf s p
  let s := setPort s p { x with protoErr := BitVec.ofNat 32 (satAdd 32 x.protoErr.toNat 1) }
  match aggregate 2 p 1 s with
  | (some k, s) => raise { code := errCodingInvalid, src := 5, unit := p, count := k } s
  | (none, s) => s

/-- The segment a destination row works on: from a port's VC buffer, or from the loopback (`src` 8). -/
inductive Taken where
  | nothing
  | dropped (s : State)
  | got (b : Bytes) (s : State)

def takeHead (src : Nat) (vcA : Bool) (s : State) : Taken :=
  if src = 8 then
    if vcA then
      match s.txn.loopA with
      | [] => .nothing
      | b :: r => .got b { s with txn.loopA := r }
    else
      match s.txn.loopQ with
      | [] => .nothing
      | b :: r => .got b { s with txn.loopQ := r }
  else if src > 7 || isMirror s src then .nothing
  else
    let x := portOf s src
    let put (r : List DFrame) : State := setPort s src (if vcA then { x with rxA := r } else { x with rxQ := r })
    match headOf (if vcA then x.rxA else x.rxQ) with
    | .partialSeg => .nothing
    | .malformed r => .dropped (malformed src (put r))
    | .whole b r => .got b (put r)

/-! ## Requests at their destination (R236, R237, R465) -/

/-- A refusal is recorded, aggregated for 1 ms per code and source context (R236). -/
def refusal (h : Hdr) (code : Nat) (s : State) : State :=
  match aggregate 1 ((code * 256 + h.srcDev) * 128 + h.srcCtx) 1 s with
  | (some k, s) => raise { code := code, src := 6, ctx := some h.dstCtx, addr := h.va, count := k } s
  | (none, s) => s

/-- The header of a response: addresses swapped, the request's tag, stream, key slot and tile (R227). -/
def respHdr (h : Hdr) (ttype coding dlen status : Nat) : Hdr :=
  { ttype := ttype, coding := coding, order := h.order, dstDev := h.srcDev, srcDev := h.dstDev, dstCtx := h.srcCtx,
    srcCtx := h.dstCtx, kslot := h.kslot, srcTile := h.srcTile, tag := h.tag, dlen := dlen, status := status }

/-- What a request's effect answers: a refusal or a status, the bytes of a DATA response, the mirror messages it waits for. -/
structure Effect where
  st : State
  refuse : Nat := 0
  status : Nat := 0
  data : Option Bytes := none
  refs : List Nat := []

/-- The codings a request's type may use (R240). -/
def codingAllowed (h : Hdr) : Bool :=
  if h.ttype = 4 && (h.aop = 5 || h.aop = 6) then decide (h.coding = 1)
  else if h.ttype = 2 || h.ttype = 3 then true
  else decide (h.coding = 0)

/-- The request pulls data: it carries no payload (R223). -/
def pulls (h : Hdr) : Bool := decide (h.ttype = 1) || (decide (h.ttype = 3) && h.pull)

/-- The payload of a request decoded (R236, R459): none where it is refused. -/
def payloadOf (h : Hdr) (coded : Bytes) : Option Bytes :=
  if !codingAllowed h then none
  else if pulls h then (if coded.isEmpty then some [] else none)
  else decodeSeg h.coding h.dlen coded

/-- A context can be the target of requests: it is LIVE and no host loss is under way (05 R111, 06 R162). -/
def targetLive (s : State) (c : Nat) : Bool := decide ((ctxOf s c).st = .live) && decide (s.hif.loss = .idle)

/-- The checks of R228 and R236 up to the payload, in order: a refusal code, or the decoded payload. -/
def reqCheck (s : State) (b : Bytes) : Except Nat Bytes :=
  let h := parseHdr b
  if !hdrOk b then .error errCodingInvalid
  else if !targetLive s h.dstCtx then .error errRemoteCtx
  else if (jobKeyOf s h.kslot).bound ≠ some h.dstCtx then .error errKeySlot
  else
    match openSeg s b with
    | none => .error errGcmTag
    | some coded =>
      if h.coding = 3 && !(ctxOf s h.dstCtx).preview then .error errLossyInArchive
      else
        match payloadOf h coded with
        | none => .error errCodingInvalid
        | some d => .ok d

/-- The answer to a request whose effect is `e` (R224, R465): at once, or once its mirrored bytes are acknowledged. -/
def answer (src : Nat) (h : Hdr) (e : Effect) : State :=
  if e.refuse ≠ 0 then sendResp src (respHdr h 8 0 0 e.refuse) [] (refusal h e.refuse e.st)
  else
    match e.data with
    | some d =>
      match encodeSeg h.coding d with
      | some c => sendResp src (respHdr h 9 h.coding d.length 0) c e.st
      | none => sendResp src (respHdr h 8 0 0 errCodingInvalid) [] (refusal h errCodingInvalid e.st)
    | none =>
      let r := respHdr h 8 0 0 e.status
      if e.refs.isEmpty then sendResp src r [] e.st
      else
        { e.st with txn.lands := e.st.txn.lands ++
          [{ refs := e.refs, stream := (h.srcDev, h.srcCtx, h.order), resp := r, arrival := some src }] }

/-- A request at its destination: taken from the head of a buffer where it is of the row's type (or of a reserved one),
checked, and applied by `act` (R236). -/
def destReq (src : Nat) (want : Hdr → Bool) (act : Hdr → Bytes → State → Effect) (s : State) : State :=
  match takeHead src false s with
  | .nothing => s
  | .dropped s' => s'
  | .got b s' =>
    let h := parseHdr b
    if src ≠ 8 && h.dstDev ≠ s.fab.addr.toNat then s
    else if h.isResp then s'
    else if hdrType h && !want h then s
    else if !domOn s dMEM then (if src = 8 then s else s')
    else
      match reqCheck s b with
      | .error c => answer src h { st := s', refuse := c }
      | .ok d => answer src h (act h d s')

/-- The HBM pieces of a request's range, where every byte is mapped in HBM and, if written, writable (R236). -/
def hbmPieces (s : State) (c va n : Nat) (write : Bool) : Option (List Piece) :=
  let t := translate s c va n
  if t.2.isSome || n = 0 then none
  else if t.1.all (fun p => !p.mo.host && (!write || moWritable p.mo)) then some t.1 else none

/-- Pieces read and written whole (R237). -/
def readPieces (s : State) (l : List Piece) : Bytes := l.flatMap (fun p => objRead s p.mo p.off p.len)

def landPieces : List Piece → Bytes → List Nat → State → List Nat × State
  | [], _, ms, s => (ms, s)
  | p :: r, b, ms, s =>
    let w := objWrite p.mo p.off (b.take p.len) s
    landPieces r (b.drop p.len) (ms ++ w.1) w.2

/-- LOAD (R223): 1 to 256 bytes within one memory object. -/
def actLoad (h : Hdr) (_ : Bytes) (s : State) : Effect :=
  if h.dlen = 0 || h.dlen > 256 then { st := s, refuse := errCodingInvalid }
  else
    match hbmPieces s h.dstCtx h.va h.dlen false with
    | some [p] => { st := s, data := some (objRead s p.mo p.off p.len) }
    | _ => { st := s, refuse := errPageFault }

/-- STORE (R223): 1 to 4,096 decoded bytes within one memory object. -/
def actStore (h : Hdr) (d : Bytes) (s : State) : Effect :=
  if h.dlen = 0 then { st := s, refuse := errCodingInvalid }
  else
    match hbmPieces s h.dstCtx h.va h.dlen true with
    | some [p] =>
      let w := objWrite p.mo p.off d s
      { st := w.2, refs := w.1 }
    | _ => { st := s, refuse := errPageFault }

/-- A COPY segment (R223): push data lands, pull data is returned. -/
def actCopy (h : Hdr) (d : Bytes) (s : State) : Effect :=
  if h.dlen = 0 then { st := s, refuse := errCodingInvalid }
  else
    match hbmPieces s h.dstCtx h.va h.dlen (!h.pull) with
    | none => { st := s, refuse := errPageFault }
    | some l =>
      if h.pull then { st := s, data := some (readPieces s l) }
      else
        let w := landPieces l d [] s
        { st := w.2, refs := w.1 }

/-- The new value of an integer atomic (R238). -/
def atomicNew (aop old x y : Nat) : Nat :=
  match aop with
  | 0 => (old + x) % 2 ^ 64
  | 1 => if sextN x 64 < sextN old 64 then x else old
  | 2 => if sextN old 64 < sextN x 64 then x else old
  | 3 => x
  | _ => if old = x then y else old

/-- An integer atomic (R238): the 8 bytes of an aligned HBM address; its operands are 8 bytes, or 16 for CAS (log 18). -/
def actAtomic (h : Hdr) (d : Bytes) (s : State) : Effect :=
  if d.length ≠ (if h.aop = 4 then 16 else 8) then { st := s, refuse := errCodingInvalid }
  else
    match (if h.va % 8 = 0 then hbmPieces s h.dstCtx h.va 8 true else none) with
    | some [p] =>
      let old := objRead s p.mo p.off 8
      let w := objWrite p.mo p.off (leBytes 8 (atomicNew h.aop (ofLe old) (leAt d 0 8) (leAt d 8 8))) s
      { st := w.2, data := some old, refs := w.1 }
    | _ => { st := s, refuse := errPageFault }

/-- A tile may be the target of a request: its quadrant is owned by the context, and no Abseil covers it (14 R365). -/
def tileTarget (s : State) (c t : Nat) : Bool :=
  decide (t < 96) && decide (tileOwner s t = some c) &&
    !(decide (1 ≤ s.rcv.step) && decide (s.rcv.step ≤ 5) && s.rcv.scope.toNat.testBit (quadOfTile t))

/-- The CORE clock is stopped: a write into a quadrant is discarded (13 R334). -/
def coreStopped (s : State) : Bool := decide (s.pwr.cur ≠ .p0)

/-- The lane images of an EXA-ADD or EXA-RED payload. -/
def imagesOf (d : Bytes) : List Lane := (chunksN 64 (d.length / 64) d).map Lane.ofImage

/-- EXA-ADD (R239): the status is that of R42 over the images it carries, under the mode of the lanes' context; what the lanes
held or other contributions brought does not change it (02 R462, 04 R104; log 19). -/
def actExaAdd (h : Hdr) (d : Bytes) (s : State) : Effect :=
  let t := h.va % 128
  let first := bitsN h.va 7 12
  let n := h.lanes + 1
  if d.length ≠ 64 * n || first + n > 4096 || h.va / 2 ^ 19 ≠ 0 then { st := s, refuse := errCodingInvalid }
  else if !tileTarget s h.dstCtx t then { st := s, refuse := errNotOwner }
  else if coreStopped s then { st := s }
  else
    let arch := archiveTile s t
    { st := addLanes t arch first (imagesOf d) s, status := (lanesStatus arch ((imagesOf d).map (fun a => (0, a)))).1 }

/-- The group of a tile's table, opened where a slot is free (03 R82). -/
def groupOpen (gs : List RedGroup) (g : Nat) : Option (List RedGroup) :=
  if gs.any (fun x => decide (x.group = g)) then some gs
  else if gs.length ≥ 16 then none else some (gs ++ [{ group := g }])

/-- One segment of a contribution counted: the contribution is complete once all SCOUNT have been added (R239). -/
def contribute (h : Hdr) (x : RedGroup) : RedGroup :=
  let key := (h.srcDev, h.srcCtx, h.srcTile)
  match x.contribs.find? (fun c => decide ((c.1, c.2.1, c.2.2.1) = key)) with
  | none =>
    let mask := 2 ^ h.sidx
    { x with
      contribs := x.contribs ++ [(h.srcDev, h.srcCtx, h.srcTile, h.kslot, mask)]
      complete := x.complete + b2n (decide (mask = 2 ^ h.scount - 1)) }
  | some (_, _, _, k, old) =>
    let mask := old ||| 2 ^ h.sidx
    { x with
      contribs := x.contribs.map (fun c =>
        if (c.1, c.2.1, c.2.2.1) = key then (c.1, c.2.1, c.2.2.1, k, mask) else c)
      complete := x.complete + b2n (decide (mask = 2 ^ h.scount - 1) && decide (old ≠ mask)) }

/-- EXA-RED (R239, 03 R82): refused where it would open a 17th group. -/
def actExaRed (h : Hdr) (d : Bytes) (s : State) : Effect :=
  let t := h.va % 128
  let first := bitsN h.va 7 12
  let n := h.lanes + 1
  if d.length ≠ 64 * n || first + n > 4096 || h.va / 2 ^ 19 ≠ 0 then { st := s, refuse := errCodingInvalid }
  else if !tileTarget s h.dstCtx t then { st := s, refuse := errNotOwner }
  else if coreStopped s then { st := s }
  else
    match groupOpen (tileOf s t).groups h.group with
    | none => { st := s, refuse := errReduceGroup }
    | some gs =>
      let s := addLanes t (archiveTile s t) first (imagesOf d) s
      let gs := gs.map (fun x => if x.group = h.group then contribute h x else x)
      { st := setTile s t { tileOf s t with groups := gs } }

/-- REDUCE-DONE (R239): matched by GROUP against the tile's outstanding contributor REDUCEs (03 R82). The record of a failure names
the lowest lane of the contributor's block whose flags give the status, if any (02 R43; log 19). -/
def actReduceDone (h : Hdr) (d : Bytes) (s : State) : Effect :=
  let t := h.va % 128
  if !d.isEmpty || h.va / 2 ^ 19 ≠ 0 then { st := s, refuse := errCodingInvalid }
  else if !tileTarget s h.dstCtx t then { st := s, refuse := errNotOwner }
  else
    match (tileOf s t).win.find? (fun w => decide (w.2.st = .executing) && decide (w.2.kind = 7) &&
        decide (bitsAt w.2.desc 16 0 1 = 0) && decide (leAt w.2.desc 24 2 = h.group) && w.2.redDone.isNone) with
    | none => { st := s }
    | some (n, _) =>
      let s := setSlot s t n { slotOf s t n with redDone := some h.status }
      let x := slotOf s t n
      let lanes := (blockLanes (byteAt x.desc 18) (byteAt x.desc 19 + 1) (byteAt x.desc 20 + 1)).map (fun l => (l, laneOf s t l))
      let s := if h.status = 0 then s
        else slotFail t n { tileRec s t x h.status with lane := laneGiving (archiveTile s t) h.status lanes } false s
      { st := slotTry t n s }

/-- FENCE (R232): the event of DST_CTX, if NOTIFY. -/
def actFence (h : Hdr) (d : Bytes) (s : State) : Effect :=
  if !d.isEmpty then { st := s, refuse := errCodingInvalid }
  else if h.notify then
    if evOwned s h.dstCtx h.event then { st := evAdd h.event 1 { code := 0, src := 6, ctx := some h.dstCtx } s }
    else { st := s, refuse := errNotOwner }
  else { st := s }

/-- Writes of a stream that have not landed: their mirrored bytes are not acknowledged (R232, 10 R276). -/
def streamWaits (s : State) (h : Hdr) : Bool :=
  s.txn.lands.any (fun l => decide (l.stream = (h.srcDev, h.srcCtx, h.order)))

/-! ## Responses at their source (R224, R231, R253) -/

/-- Bytes of a DATA response land: in the issuing tile's scratchpad, or at RVA (R254). A length other than the request's
ends the segment with ERR_CODING_INVALID (log 18). -/
def landData (g : Seg) (x : Txn) (d : Bytes) (s : State) : Nat × State :=
  let n := if g.hdr.ttype = 4 then 8 else g.hdr.dlen
  if d.length ≠ n then (errCodingInvalid, s)
  else
    match x.src with
    | .tile t _ _ => (0, spWrite t g.land d s)
    | .ntx =>
      let w := vaWrite .image x.ctx g.land d s
      (if w.fault.isSome then errPageFault else 0, { w.st with txn.ntx.waits := w.st.txn.ntx.waits ++ w.mirrors })
    | .root _ _ _ => (0, s)

/-- The failure that the images of an EXA-ADD gave at its destination, with the lowest of their lanes whose flags give the status:
under the issuing context's mode, or, where none does, under Archive mode (02 R43; log 19). -/
def exaFailOf (s : State) (g : Seg) (x : Txn) (status : Nat) : Option (Nat × Nat) :=
  if decide (g.hdr.ttype = 4) && decide (g.hdr.aop = 5) && isExaStatus status then
    let l := (imagesOf ((decodeSeg 1 g.hdr.dlen g.data).getD [])).zipIdx.map (fun y => (bitsN g.hdr.va 7 12 + y.2, y.1))
    let arch := !(ctxOf s x.ctx).preview || !l.any (fun y => decide (y.2.status false = status))
    some (status, laneGiving arch status l)
  else none

/-- A segment has its response: its tag is free, and the lowest-numbered failure stays (R224). -/
def segDone (tag : Nat) (g : Seg) (id : Nat) (x : Txn) (status : Nat) (s : State) : State :=
  let fail := if status = 0 then x.fail else
    match x.fail with
    | some f => if g.idx < f.1 then some (g.idx, status) else some f
    | none => some (g.idx, status)
  txnTry id { s with
    txn.tags := tput none s.txn.tags tag none
    txn.txns := tput none s.txn.txns id (some { x with out := x.out - 1, fail := fail, exaFail := exaFailOf s g x status }) }

/-- A response that fails verification (R253). -/
def badResp (h : Hdr) (m : Option (Nat × Txn)) (s : State) : State :=
  match m with
  | some (id, x) =>
    match x.src with
    | .tile _ _ _ => endTxn id errGcmTag false s
    | _ => endTxn id errGcmTag true (raise { code := errGcmTag, src := 6, ctx := some x.ctx } s)
  | none => raise { code := errGcmTag, src := 6, ctx := some h.dstCtx } s

/-- A response at its source, of the row's type (R224, R231, R253). -/
def sourceResp (src ttype : Nat) (s : State) : State :=
  match takeHead src true s with
  | .nothing => s
  | .dropped s' => s'
  | .got b s' =>
    let h := parseHdr b
    if src ≠ 8 && h.dstDev ≠ s.fab.addr.toNat then s
    else if h.isResp && h.ttype ≠ ttype then s
    else if !domOn s dMEM then (if src = 8 then s else s')
    else if !h.isResp || !hdrOk b then s'
    else
      let m : Option (Tag × Txn) := match tget none s.txn.tags h.tag with
        | some t => (txnOf s t.txn).bind (fun x =>
            if t.seg.hdr.srcDev = h.dstDev && x.ctx = h.dstCtx then some (t, x) else none)
        | none => none
      match openSeg s b with
      | none => badResp h (m.map (fun y => (y.1.txn, y.2))) s'
      | some coded =>
        match m with
        | none => s'
        | some (t, x) =>
          if h.status ≠ 0 || ttype = 8 then segDone h.tag t.seg t.txn x h.status s'
          else
            match decodeSeg h.coding h.dlen coded with
            | none => segDone h.tag t.seg t.txn x errCodingInvalid s'
            | some d =>
              let r := landData t.seg x d s'
              segDone h.tag t.seg t.txn x r.1 r.2

/-! ## Mirror acknowledgements (10 R276, R280) -/

/-- A mirrored write has landed: whatever waited for its acknowledgement goes on. -/
def mirLanded (ref : Nat) (s : State) : State :=
  let s := slotGot (.mir ref) s
  let lands := s.txn.lands.map (fun l => { l with refs := l.refs.erase ref })
  let s := { s with
    txn.lands := lands.filter (fun l => !l.refs.isEmpty)
    txn.ntx.waits := s.txn.ntx.waits.erase ref
    hif.depWait := (s.hif.depWait.map (fun w => { w with refs := w.refs.erase ref })).filter (fun w => !w.refs.isEmpty)
    eth.qp := tmap {} (fun _ (q : Qp) => { q with lands := q.lands.map (fun l => { l with waits := l.waits.erase ref }) }) s.eth.qp }
  let s := if s.txn.ntx.busy && !ntxOpen s then ntxEnd s else s
  (lands.filter (fun l => l.refs.isEmpty)).foldl (fun s l => sendResp (l.arrival.getD 8) l.resp [] s) s

end Sys2Proof.Machine
end

