-- ==== Sys2Proof/Machine/Abort.lean ====
section
/-!
DEFINITION. What several blocks share when work ends: the end and completion of a job (05 R125 to R127, 12 R326), the
Context Abort (05 R112), queue pairs entering ERROR (07 R174), the scrub of a quadrant (11 R297).
-/
namespace Sys2Proof.Machine

/-! ## Tiles and quadrants -/

/-- What the emptied window of a tile still has under way (03 R67): host writes and mirror messages. -/
def tileOwes (tl : Tile) : List Await :=
  tl.win.flatMap (fun w => w.2.waits.filter (fun a =>
    match a with
    | .host _ | .mir _ => true
    | _ => false))

/-- A tile stops: its part ends where it stands and its window is emptied (05 R112, 14 R364, 06 R162). -/
def stopTile (t : Nat) (s : State) : State :=
  let tl := tileOf s t
  if tl.part = .idle then s
  else setTile s t { tl with part := .stopped, win := [] }

/-- Tile reset (13 R343): all of a tile but its scratchpad. -/
def tileReset (t : Nat) (s : State) : State := setTile s t { mem := (tileOf s t).mem }

/-- The scrub of a quadrant: every tile is reset and its scratchpad zeroed, its flits delivered or discarded, the owner as given
(11 R297, 13 R343). -/
def scrubQuad (q : Nat) (owner : Option Nat) (s : State) : State :=
  let s := each (tilesOf q) (fun t s => setTile (tileReset t s) t { tileOf (tileReset t s) t with mem := [] }) s
  let s := { s with mesh := s.mesh.filter (fun f => !(decide (quadOfTile f.src = q) || decide (quadOfTile f.dst = q))) }
  setQuad s q { quadOf s q with owner := owner }

/-- The quadrants a context owns, ascending. -/
def ownedQuads (s : State) (c : Nat) : List Nat :=
  (List.range 4).filter (fun q => decide ((quadOf s q).owner = some c))

/-- The quadrants held for the job of a queue. -/
def heldQuads (s : State) (q : Nat) : List Nat :=
  (List.range 4).filter (fun k => decide ((quadOf s k).holder = some q))

/-! ## Queue pairs (07 R174) -/

/-- Owning context, port and an event of a queue-pair descriptor (07 R173). -/
def Qp.ctx (x : Qp) : Nat := bitsAt x.desc 0 0 7
def Qp.portNo (x : Qp) : Nat := bitsAt x.desc 0 7 1

/-- Why a queue pair enters ERROR (R174). -/
inductive QpCause where
  | retry | rnr | nak | access | fault | command | abort | hostLoss | netOff | retire | request
  deriving DecidableEq, Repr

/-- The DETAIL that encodes a cause: the manual gives no encoding, so it is open (log 20). -/
def QpCause.detail : QpCause → Nat
  | .retry => Config.qpCause 0
  | .rnr => Config.qpCause 1
  | .nak => Config.qpCause 2
  | .access => 0
  | .fault => Config.qpCause 4
  | .command => Config.qpCause 5
  | .abort => Config.qpCause 6
  | .hostLoss => Config.qpCause 7
  | .netOff => Config.qpCause 8
  | .retire => Config.qpCause 9
  | .request => Config.qpCause 10

/-- Packets of a queue pair that a paused port holds are sent no more (R174). -/
def dropHeld (q : Nat) (s : State) : State :=
  { s with eth.port := s.eth.port.map (fun x => { x with heldTx := x.heldTx.filter (fun k => decide (k.qp ≠ q)) }) }

/-- A queue pair in RTS enters ERROR and writes one record (R174); `addr` is the address an access violation named. -/
def qpError (q : Nat) (cause : QpCause) (addr : Nat) (s : State) : State :=
  let x := qpOf s q
  if x.st = .rts then
    raise { code := if cause = .access then errRoceNotWritable else errRoceQp, src := 8, ctx := some x.ctx,
            unit := x.portNo, addr := addr, detail := cause.detail }
      (dropHeld q (setQp s q { x with st := .error, inb := .none, outs := [] }))
  else s

/-- Every queue pair that satisfies `p` enters ERROR. -/
def qpsError (p : Qp → Bool) (cause : QpCause) (s : State) : State :=
  each (tkeys (fun _ x => decide (x.st = .rts) && p x) s.eth.qp) (fun q s => qpError q cause 0 s) s

/-! ## Seal slots (12 R323, R326) -/

/-- Fields of a seal slot descriptor (R323). -/
def SealSlot.len (x : SealSlot) : Nat := leAt x.desc 16 5
def SealSlot.dst (x : SealSlot) : Nat := leAt x.desc 24 6

/-- The 32-byte seal record (R326). -/
def SealSlot.recBytes (x : SealSlot) : Bytes :=
  leBytes 8 x.crc.toNat ++ sliceB x.desc 32 16 ++ leBytes 6 x.bytes ++
  leBytes 1 (if x.bytes = x.len then 0 else if x.bytes < x.len then 1 else 2) ++ leBytes 1 0

/-- A slot closes: it keeps nothing (R324). -/
def closeSeal (n : Nat) (s : State) : State := { s with sealer.slots := tput {} s.sealer.slots n {} }

/-- Every slot of a context closes without a record (R323). -/
def closeSeals (c : Nat) (s : State) : State :=
  each (tkeys (fun _ x => x.opened && decide (x.ctx = c)) s.sealer.slots) closeSeal s

/-- The error that takes part in a status as a tile's does: the numerically lowest nonzero code (05 R126). -/
def joinStatus (a b : Nat) : Nat := if a = 0 then b else if b = 0 then a else min a b

/-- One slot closes with its record at the completion of a job (R326): answers what its landing waits for. -/
def sealAtEnd (q jobId n : Nat) (s : State) : Nat × List Await × State :=
  let x := tget ({} : SealSlot) s.sealer.slots n
  let old := s.hif.nextReq
  let w := vaWrite .sealRec x.ctx x.dst x.recBytes s
  match w.fault with
  | some a =>
    (errPageFault, [],
      raise { code := errPageFault, src := 3, ctx := some x.ctx, jobId := jobId, addr := a, detail := n,
              unit := (match moAt s x.ctx a with
                | some m => m.1
                | none => 0xFFFF),
              job := some q } (closeSeal n s))
  | none =>
    let s' := closeSeal n { w.st with sealer.written := w.st.sealer.written + 1 }
    (0, ((s'.hif.reqs.filter (fun r => decide (old ≤ r.id))).map (fun r => Await.host r.id)) ++ w.mirrors.map .mir, s')

/-- Every slot that the completion of a job of queue `q` of context `c` closes, ascending (R326). -/
def sealsAtEnd (q c jobId : Nat) (s : State) : Nat × List Await × State :=
  if !domOn s dMEM then (0, [], s)
  else (tkeys (fun _ x => x.opened && decide (x.ctx = c) && decide (x.queue = q)) s.sealer.slots).foldl (fun acc n =>
    let r := sealAtEnd q jobId n acc.2.2
    (joinStatus acc.1 r.1, acc.2.1 ++ r.2.1, r.2.2)) (0, [], s)

/-! ## The end and the completion of a job (05 R125 to R127) -/

/-- Fields of a submission entry (R123). -/
def Job.opcode (j : Job) : Nat := byteAt j.entry 0
def Job.sigv (j : Job) : Bool := decide (bitsAt j.entry 1 4 1 = 1)
def Job.irq (j : Job) : Bool := decide (bitsAt j.entry 1 5 1 = 1)
def Job.sigev (j : Job) : Nat := bitsAt j.entry 16 0 14
def Job.siginc (j : Job) : Nat := leAt j.entry 24 8

/-- Statuses and counts of the listed tiles, taken when their parts end (R126). -/
def gatherJob (s : State) (j : Job) : Job :=
  let ts := j.jlt.map (·.tile)
  let sum := fun (f : Tile → Nat) => ts.foldl (fun a t => satAdd 32 a (f (tileOf s t))) 0
  { j with
    loss := sum (·.loss), rovf := sum (·.rovf), rsat := sum (·.rsat),
    reps := ts.filterMap (fun t => (tileOf s t).fail.map (fun f => (t, f.2.1, f.2.2))),
    owes := j.owes ++ ts.flatMap (fun t => tileOwes (tileOf s t)) }

/-- The numerically lowest code reported by a tile (R126). -/
def tileStatus (j : Job) : Nat := j.reps.foldl (fun a r => joinStatus a r.2.1) 0

/-- The failing tile of a status and its DTAG (R126). -/
def failTile (j : Job) (st : Nat) : Option (Nat × Nat) :=
  (j.reps.filter (fun r => decide (r.2.1 = st))).foldl (fun a r =>
    match a with
    | some x => if r.1 < x.1 then some (r.1, r.2.2) else a
    | none => some (r.1, r.2.2)) none

/-- SIGEV rises by SIGINC; an event the context does not own gives ERR_NOT_OWNER (R123, R132). -/
def jobSignal (q c : Nat) (j : Job) (s : State) : Nat × State :=
  if evOwned s c j.sigev then
    (0, evAdd j.sigev j.siginc { code := 0, src := 1, unit := q, jobId := j.id, job := some q } s)
  else
    (errNotOwner, raise { code := errNotOwner, src := 1, ctx := some c, unit := q, jobId := j.id, detail := j.sigev,
                          job := some q } s)

/-- A job ends: its event is signalled, and its seal slots close (R125 step 7, 12 R326). A job that its tiles ended has the lowest
status of theirs, its event's and its seals' (R126); a status that a rule gives the job from outside is its status, `given`
(R112 step 5, R125 steps 2 and 5). -/
def endJob (q status : Nat) (given : Bool) (s : State) : State :=
  let qu := queueOf s q
  match qu.job with
  | none => s
  | some j =>
    let sig := if j.sigv && decide (j.opcode ≠ 2) then jobSignal q qu.ctx j s else (0, s)
    let r := sealsAtEnd q qu.ctx j.id sig.2
    let st := if given then status else joinStatus status (joinStatus sig.1 r.1)
    let j' := { j with ph := .ended, status := some st, owes := j.owes ++ r.2.1 }
    setQueue r.2.2 q { qu with job := some j' }

/-- A record of the job is neither written nor counted as dropped (R127). -/
def recordsDue (s : State) (q : Nat) : Bool :=
  s.erq.incoming.any (fun e => decide (e.job = some q)) || s.erq.lines.any (fun x => decide (x.job = some q))

/-- The completion entry may be written (R127, 06 R150 cases 1 to 3). -/
def jobReady (s : State) (q : Nat) (j : Job) : Bool :=
  decide (j.ph = .ended) && j.owes.isEmpty && decide ((queueOf s q).landing = 0) && !recordsDue s q &&
    (heldQuads s q).all (fun k => s.hif.reqs.all (fun r =>
      match r.use with
      | .desc t _ _ => decide (quadOfTile t ≠ k)
      | _ => true))

/-- The completion entry (R127); T_START of a job whose tiles never started is a free value (log 69). -/
def completionBytes (s : State) (qu : Queue) (j : Job) : Bytes :=
  let st := j.status.getD 0
  let ft := failTile j st
  let ftv := ft.isSome && decide (st ≠ 0)
  let tile := if ftv then (ft.getD (0, 0)).1 else 0
  let dtag := if ftv then (ft.getD (0, 0)).2 else 0
  leBytes 2 st ++ leBytes 1 (b2n qu.cqPhase + 2 * b2n ftv) ++ leBytes 1 tile ++ leBytes 4 j.id ++ leBytes 2 qu.head ++
  leBytes 2 dtag ++ leBytes 1 j.reps.length ++ leBytes 3 0 ++ leBytes 4 j.loss ++ leBytes 4 j.rovf ++ leBytes 4 j.rsat ++
  leBytes 4 0 ++ leBytes 8 (j.tStart.getD (Config.openVal s.free)) ++ leBytes 8 s.erq.time.toNat ++
  leBytes 8 ((j.firstErr.map (·.toNat)).getD (2 ^ 64 - 1)) ++ leBytes 8 0

/-- The quadrants of a queue's job are free of it; their owner stays (R125 step 7). -/
def freeQuads (q : Nat) (s : State) : State :=
  each (heldQuads s q) (fun k s =>
    let x := quadOf s k
    bump 0x3013 (k + 1) (s.now - x.since) (setQuad s k { x with holder := none })) s

/-- A queue whose job has gone: Q_STOP takes effect, and a RETIRING queue with nothing landing is FREE (R108, R113). -/
def queueSettle (q : Nat) (s : State) : State :=
  let x := queueOf s q
  if x.job.isSome then s
  else if x.st = .retiring then (if x.landing = 0 then setQueue s q {} else s)
  else if x.stopping then setQueue s q { x with st := .stopped, stopping := false }
  else s

/-- A job of a suspect that has run to its end in Solo Replay settles the suspect (14 R370). -/
def replaySettled (q : Nat) (j : Job) (s : State) : State :=
  if j.replay then
    { s with
      rcv.rctx := none,
      rcv.suspects := s.rcv.suspects.map (fun x =>
        if decide (x.queue = q) && !x.settled then { x with outcome := 1, settled := true } else x) }
  else s

/-- A job leaves its queue with its completion entry written (R127). -/
def finishJob (q : Nat) (j : Job) (s : State) : State :=
  let qu := queueOf s q
  let size := 2 ^ qu.cqLog
  let vec := if j.irq && qu.vecEn then some qu.vec else none
  let line := completionBytes s qu j
  let s1 := hostWrite (qu.cqBase + 64 * qu.cqIdx) line false (.completion q vec) (drawn s)
  let s2 := setQueue s1 q { qu with
    job := none,
    cqIdx := (qu.cqIdx + 1) % size,
    cqPhase := if qu.cqIdx + 1 = size then !qu.cqPhase else qu.cqPhase,
    landing := if s.hif.loss = .idle then qu.landing + 1 else qu.landing }
  let s3 := bump 0x3012 0 j.loss (bump 0x3011 0 (if j.status.getD 0 = 0 then 0 else 1) (bump 0x3010 0 1 s2))
  replaySettled q j (queueSettle q (freeQuads q s3))

/-- The job of a queue completes if nothing is left to wait for (R127). -/
def jobTry (q : Nat) (s : State) : State :=
  match (queueOf s q).job with
  | some j => if jobReady s q j then finishJob q j s else s
  | none => s

/-- A job that has not ended ends with a status given from outside: what its tiles reported is kept (R112 step 5, 14 R371). -/
def cutJob (q status : Nat) (s : State) : State :=
  let qu := queueOf s q
  match qu.job with
  | none => s
  | some j =>
    if j.ph = .ended then s
    else endJob q status true (setQueue s q { qu with job := some (if j.ph = .running then gatherJob s j else j) })

/-! ## Context Abort (05 R112) -/

/-- The queues of a context. -/
def queuesOf (s : State) (c : Nat) : List Nat :=
  tkeys (fun _ x => decide (x.st ≠ .free) && decide (x.ctx = c)) s.obj.q

/-- Steps 1 to 5 of R112, the context entering `st`. -/
def abortSteps (c cause : Nat) (st : CtxSt) (s : State) : State :=
  let qs := queuesOf s c
  let own := ownedQuads s c
  let s := setCtx s c { ctxOf s c with st := st }
  let s := each qs (fun q s =>
    let x := queueOf s q
    if x.st = .running then setQueue s q { x with st := .stopped, stopping := false } else s) s
  let s := each qs (fun q s =>
    let x := queueOf s q
    match x.job with
    | some j => if j.ph = .running then setQueue s q { x with job := some (gatherJob s j) } else s
    | none => s) s
  let s := each own (fun k s => each (tilesOf k) stopTile s) s
  let s := endTxns (fun x => decide (x.ctx = c)) errCtxAborted s
  let s := qpsError (fun x => decide (x.ctx = c)) .abort (closeSeals c s)
  let s := each own (fun k s => scrubQuad k none s) s
  let s := each qs (fun q s =>
    match (queueOf s q).job with
    | some j => if j.ph = .ended then s else endJob q cause true s
    | none => s) s
  each qs jobTry s

/-- SRC of the ERR_CTX_ABORTED record of a cause (R136; log 21). -/
def abortSrc (cause : Nat) : Nat :=
  if cause = errDescInvalid then 0
  else if cause = errJobWatchdog ∨ cause = errConvicted then 11
  else if cause = errDebugEvict then 9
  else 2

/-- A Context Abort of a LIVE context (R112). -/
def ctxAbort (c cause : Nat) (s : State) : State :=
  if (ctxOf s c).st = .live then
    raise { code := errCtxAborted, src := abortSrc cause, ctx := some c, detail := cause }
      (abortSteps c cause .aborted s)
  else s

/-! ## Deposit entries and network registrations (06 R153, 07 R175) -/

def depOf (s : State) (e : Nat) : DepEnt := tget {} s.hif.dep e
def setDep (s : State) (e : Nat) (x : DepEnt) : State := { s with hif.dep := tput {} s.hif.dep e x }

/-- V of an entry is cleared: it is DRAINING (R153). -/
def depClear (e : Nat) (s : State) : State :=
  let x := depOf s e
  if x.v then setDep s e { x with v := false, st := .draining } else s

/-- V of every entry that satisfies `p` is cleared. -/
def depClearAll (p : DepEnt → Bool) (s : State) : State :=
  each (tkeys (fun _ x => x.v && p x) s.hif.dep) depClear s

/-- A memory object leaves its slot (05 R118): unmapped at once, its Deposit entries and registration ended; its pages'
bias goes with it (06 R142). -/
def freeMo (m : Nat) (s : State) : State :=
  let s := depClearAll (fun x => decide (x.memobj.toNat = m)) s
  setMo { s with hif.owned := s.hif.owned.filter (fun e => decide (e.1 / 2 ^ 36 ≠ m)) } m {}

/-- An event is freed: every WAIT-EVENT waiting on it completes with ERR_NOT_OWNER (05 R130). -/
def freeEv (n : Nat) (s : State) : State :=
  setEv (markWaits (evOf s n).ctx n (fun _ => true) errNotOwner s) n {}

end Sys2Proof.Machine
end

