-- ==== Sys2Proof/Machine/Decoder.lean ====
section
/-!
DEFINITION. The sequencer's checks of a descriptor at admission (03 R71 to R85).
-/
namespace Sys2Proof.Machine

/-- The bits that fields (byte, bit, length) of a record cover. -/
def fieldMask (l : List (Nat × Nat × Nat)) : Nat :=
  (l.map (fun f => (2 ^ f.2.2 - 1) * 2 ^ (8 * f.1 + f.2.1))).foldl (fun a b => a ||| b) 0

/-- The header's fields (R71). -/
def headFields : List (Nat × Nat × Nat) := [(0, 0, 5), (1, 0, 8), (2, 0, 16), (4, 0, 32), (8, 0, 32)]

/-- The body fields of a KIND (R72, R73, R75, R77, R79, R81, R83). -/
def bodyFields (kind : Nat) : List (Nat × Nat × Nat) :=
  match kind with
  | 1 => [(16, 0, 22), (20, 0, 22), (24, 0, 16), (26, 0, 16), (28, 0, 15), (30, 0, 6), (31, 0, 6), (32, 0, 6), (33, 0, 3),
      (34, 0, 10)]
  | 2 => [(16, 0, 22), (20, 0, 16), (22, 0, 6), (23, 0, 6), (24, 0, 6), (25, 0, 5), (26, 0, 6)]
  | 3 => [(16, 0, 8), (17, 0, 6), (20, 0, 22), (24, 0, 22), (28, 0, 22), (32, 0, 22), (36, 0, 20), (40, 0, 32)]
  | 4 => [(16, 0, 3), (17, 0, 7), (20, 0, 22), (24, 0, 48), (32, 0, 24), (36, 0, 16), (40, 0, 32), (44, 0, 32)]
  | 5 | 6 => [(16, 0, 7), (17, 0, 3), (18, 0, 8), (19, 0, 7), (20, 0, 22), (24, 0, 48), (32, 0, 24), (36, 0, 14)]
  | 7 => [(16, 0, 2), (17, 0, 6), (18, 0, 6), (19, 0, 6), (20, 0, 6), (21, 0, 8), (22, 0, 7), (23, 0, 8), (24, 0, 16),
      (26, 0, 7)]
  | 8 | 9 => [(16, 0, 14), (24, 0, 64)]
  | _ => [(16, 0, 1), (18, 0, 14)]

/-- The first offset that is not a descriptor's: the control area (R64, R85). -/
def spEnd : Nat := 0x3FF000

/-- Every byte of rows of `len` bytes from `base`, `stride` apart, lies below `lim`. -/
def rowsFit (base stride rows len lim : Nat) : Bool := decide (base + (rows - 1) * stride + len ≤ lim)

/-- Bytes of a MATMUL element (R72). -/
def fmtSize (fmt : Nat) : Nat := if fmt = 0 then 1 else 2

/-- Bytes an EXA-READ writes for an element (R73). -/
def outSize (f : Nat) : Nat := if f ≤ 1 then 2 else if f ≤ 3 then 4 else 64

/-- Bytes of a VEC element (R75). -/
def vecSize (f : Nat) : Nat := if f = 0 then 4 else 2

/-- VEC operations that read one source (R75). -/
def vecUnary (op : Nat) : Bool := decide (op = 7) || (decide (0x10 ≤ op) && decide (op ≤ 0x16))

def okMatmul (d : Bytes) : Bool :=
  let a := leAt d 16 4
  let b := leAt d 20 4
  let sa := leAt d 24 2
  let sb := leAt d 26 2
  let k := leAt d 28 2 + 1
  let m := byteAt d 30 + 1
  let n := byteAt d 31 + 1
  let fmt := bitsAt d 33 0 2
  let e := fmtSize fmt
  a % 64 = 0 && b % 64 = 0 && sa % 64 = 0 && sb % 64 = 0 && decide (byteAt d 32 + m ≤ 64) &&
    (decide (fmt = 3) || decide (leAt d 34 2 = 0)) && rowsFit a sa m (k * e) spEnd && rowsFit b sb k (n * e) spEnd

def okExaRead (d : Bytes) : Bool :=
  let dst := leAt d 16 4
  let st := leAt d 20 2
  let m := byteAt d 23 + 1
  let n := byteAt d 24 + 1
  let f := bitsAt d 25 0 3
  dst % 64 = 0 && st % 64 = 0 && decide (byteAt d 22 + m ≤ 64) && decide (f ≤ 4) &&
    (decide (f ≠ 4) || decide (bitsAt d 25 3 1 = 0)) && (decide (f = 3) || decide (byteAt d 26 = 0)) &&
    rowsFit dst st m (n * outSize f) spEnd

def okVec (d : Bytes) : Bool :=
  let op := byteAt d 16
  let i := bitsAt d 17 0 2
  let o := bitsAt d 17 2 2
  let imm := decide (bitsAt d 17 5 1 = 1)
  let cnt := leAt d 36 4 + 1
  let s0 := leAt d 20 4
  let s1 := leAt d 24 4
  let s2 := leAt d 28 4
  let dst := leAt d 32 4
  let fn := decide (0x10 ≤ op) && decide (op ≤ 0x16)
  let un := vecUnary op
  let src (a : Nat) : Bool := a % vecSize i = 0 && decide (a + cnt * vecSize i ≤ spEnd)
  ((decide (1 ≤ op) && decide (op ≤ 7)) || fn) && decide (i ≠ 3) && decide (o ≠ 3) &&
    !(fn && (decide (i = 2) || decide (o = 2))) && !(un && imm) && src s0 &&
    (if un || imm then decide (s1 = 0) else src s1) && (if op = 4 then src s2 else decide (s2 = 0)) &&
    dst % vecSize o = 0 && decide (dst + cnt * vecSize o ≤ spEnd)

def okMove (d : Bytes) : Bool :=
  let dir := bitsAt d 16 0 2
  let len := leAt d 32 4 + 1
  let rows := leAt d 36 2 + 1
  decide (dir ≠ 3) && (if dir = 2 then decide (byteAt d 17 ≤ 95) else decide (byteAt d 17 = 0)) &&
    rowsFit (leAt d 20 4) (leAt d 40 4) rows len (2 ^ 22) &&
    (decide (dir ≠ 2) || (decide (leAt d 24 8 < 2 ^ 22) && rowsFit (leAt d 24 8) (leAt d 44 4) rows len (2 ^ 22)))

def okSend (d : Bytes) : Bool :=
  let exa := decide (bitsAt d 16 6 1 = 1)
  let len := leAt d 32 4 + 1
  decide (leAt d 20 4 + len ≤ spEnd) &&
    (!exa || (len % 64 = 0 && decide (bitsAt d 24 0 7 ≤ 95) && decide (leAt d 24 8 / 2 ^ 19 = 0)))

def okRecv (d : Bytes) : Bool :=
  decide (bitsAt d 16 5 2 = 0) && decide (leAt d 20 4 + (leAt d 32 4 + 1) ≤ spEnd)

def okReduce (d : Bytes) : Bool :=
  decide (byteAt d 18 + (byteAt d 19 + 1) ≤ 64) && decide (byteAt d 22 ≤ 95) &&
    (if bitsAt d 16 0 1 = 1 then decide (byteAt d 23 ≠ 0) else decide (byteAt d 23 = 0))

def okHalt (d : Bytes) : Bool := decide (bitsAt d 16 0 1 = 1) || decide (leAt d 18 2 = 0)

/-- Waits and signals in use name valid channels and entries; DTILE lies in 0 to 95 (R85). -/
def okTokens (tl : Tile) (d : Bytes) : Bool :=
  (List.range 4).all (fun w =>
    (decide (bitsAt d 1 w 1 = 0) || (lget 0 tl.inb (bitsAt d (4 + w) 0 5)).testBit 31) &&
    (decide (bitsAt d 1 (4 + w) 1 = 0) ||
      ((lget 0 tl.outb (bitsAt d (8 + w) 0 5)).testBit 31 && decide (bitsN (lget 0 tl.outb (bitsAt d (8 + w) 0 5)) 0 7 ≤ 95))))

/-- The checks of R85, for a descriptor read by tile `tl`. -/
def decodeOk (tl : Tile) (d : Bytes) : Bool :=
  let kind := bitsAt d 0 0 4
  [1, 2, 3, 4, 5, 6, 7, 8, 9, 15].contains kind &&
    decide (ofLe d &&& fieldMask (headFields ++ bodyFields kind) = ofLe d) && okTokens tl d &&
    (match kind with
      | 1 => okMatmul d
      | 2 => okExaRead d
      | 3 => okVec d
      | 4 => okMove d
      | 5 => okSend d
      | 6 => okRecv d
      | 7 => okReduce d
      | 15 => okHalt d
      | _ => true)

end Sys2Proof.Machine
end

