-- ==== Sys2Proof/Machine/Keys.lean ====
section
/-!
DEFINITION. What the blocks share of the Keyholder (11) and of the Bivouac records (06 R160), and the HBM ranges in use.
-/
namespace Sys2Proof.Machine

/-! ## The Keyholder (11 R286, R300, R306, 13 R338) -/

/-- Host ready: the BAR0 side takes commands (13 R347 step 6, 06 R162). -/
def hostReady (s : State) : Bool :=
  domOn s dHOST && decide (s.pwr.stage = 5) && decide (s.hif.loss = .idle)

/-- The Keyholder can start a command that takes its vote (13 R338); `rng` where it needs a random value (R286). -/
def khServes (s : State) (rng : Bool) : Bool :=
  domOn s dSEC && s.pwr.defer.isNone && (!rng || s.kh.rngOk)

/-- As `khServes`, for the commands refused from an L2 grant on (R306 step 1). -/
def keyServes (s : State) (rng : Bool) : Bool := khServes s rng && decide (s.kh.dbg ≠ 2)

/-- The Secure Hold vote (R300). -/
def holding (s : State) : Bool := !s.kh.run.isEmpty

/-- A Keyholder command that takes time joins those in progress (log 13). -/
def khQueue (c : KhCmd) (dur : Nat) (s : State) : State := { s with kh.run := s.kh.run ++ [(c, dur)] }

/-- The boot session key (R290). -/
def bootKey (s : State) : BitVec 256 := kdf s.id.rootKey "KG9-BOOT" (keyBytes s.pwr.nboot)

/-- A key as the retention store keeps it (R292). -/
def retWrap (s : State) (k : BitVec 256) : Bytes := kwWrap (bootKey s) k

/-- A key of the retention store read back (R292). -/
def retOpen (s : State) (w : Bytes) : Option (BitVec 256) := kwUnwrap (bootKey s) w

/-- The keys of the retention store. -/
def retKeys (s : State) (t : Tab (Option Bytes)) : Tab (Option (BitVec 256)) :=
  (t.map (fun e => (e.1, e.2.bind (retOpen s)))).filter (fun e => e.2.isSome)

/-- The context key, from its slot or, while SEC is off, the retention store (R290, R292). -/
def ctxKeyOf (s : State) (c : Nat) : Option (BitVec 256) :=
  match s.kh.ret with
  | some r => (tget none r.ctxKey c).bind (retOpen s)
  | none => tget none s.kh.ctxKey c

/-- ORIGIN of a context key (R291). -/
def originOf (k : BitVec 256) : Nat := leAt (hmac256 (keyBytes k) (ascii "KG9-ORIGIN")) 0 8

/-- A context key takes its slot and the memory engine's table (R290). -/
def setCtxKey (c : Nat) (k : Option (BitVec 256)) (s : State) : State :=
  { s with kh.ctxKey := tput none s.kh.ctxKey c k, kh.memKey := tput none s.kh.memKey c k }

/-- A context key is zeroized wherever it is held (R288, R292). -/
def zeroCtxKey (c : Nat) (s : State) : State :=
  { setCtxKey c none s with
    kh.ret := s.kh.ret.map (fun (r : Retained) => { r with ctxKey := tput none r.ctxKey c none }) }

/-- A job key slot is zeroized and unbound wherever it is held (R288). -/
def zeroJobKey (k : Nat) (s : State) : State :=
  { s with
    kh.jobKey := tput {} s.kh.jobKey k {}, kh.gcmKey := tput none s.kh.gcmKey k none,
    kh.ret := s.kh.ret.map (fun (r : Retained) => { r with jobKey := tput none r.jobKey k none }) }

/-- Every context key and job key is zeroized (06 R162, R292): slots, engine tables and retention store. -/
def zeroKeys (s : State) : State :=
  let wipe : Tab JobKey → Tab JobKey := fun t =>
    (t.map (fun e => (e.1, ({ bound := e.2.bound } : JobKey)))).filter (fun e => e.2.bound.isSome)
  { s with
    kh.ctxKey := [], kh.memKey := [], kh.gcmKey := [], kh.jobKey := wipe s.kh.jobKey,
    kh.ret := s.kh.ret.map (fun (r : Retained) => { r with ctxKey := [], jobKey := [] }) }

/-- Zeroization of R302 short of the chassis key: the pair secret goes too, and every context that is not FREE has lost its
keys (05 R114). -/
def zeroAll (s : State) : State :=
  let s := zeroKeys s
  { s with
    kh.pairSecret := none, kh.ret := s.kh.ret.map (fun (r : Retained) => { r with pairSecret := none }),
    obj.ctx := tmap {} (fun _ (x : Ctx) => if x.st = .free then x else { x with keyLost := true }) s.obj.ctx }

/-- The engine tables are loaded from the slots, or from the retention store while SEC is off (R292). -/
def reloadTables (s : State) : State :=
  match s.kh.ret with
  | some r => { s with kh.memKey := retKeys s r.ctxKey, kh.gcmKey := retKeys s r.jobKey }
  | none =>
    { s with
      kh.memKey := s.kh.ctxKey,
      kh.gcmKey := (s.kh.jobKey.map (fun e => (e.1, e.2.key))).filter (fun e => e.2.isSome) }

/-- A draw of the DRBG (R286, log 7). -/
def drawKey (s : State) : BitVec 256 × State := (Config.random s.free, drawn s)

/-- A P-384 private scalar drawn from the DRBG. -/
def drawScalar (s : State) : Nat × State :=
  let a := drawKey s
  let b := drawKey a.2
  (scalarOf (a.1.toNat * 2 ^ 256 + b.1.toNat), b.2)

/-- The private scalar of the identity key (R290). -/
def idScalar (s : State) : Nat := scalarOf (Config.idScalar (kdf s.id.rootKey "KG9-ID" []))

/-! ## Bivouac records (06 R160) -/

def recBase (r : Nat) : Nat := 0x17FF7F0000 + r * 0x800

/-- The record of a region. -/
def recOf (s : State) (r : Nat) : Bytes := hbmRead s (recBase r) 2048

def putRec (r : Nat) (b : Bytes) (s : State) : State := hbmWrite (recBase r) b s

/-- STATE of a region: 0 FREE, 1 DECLARED, 2 SEALED. -/
def regState (s : State) (r : Nat) : Nat := byteAt (hbmRead s (recBase r + 6) 1) 0

/-- CTX of a region's record. -/
def regCtx (s : State) (r : Nat) : Nat := byteAt (hbmRead s (recBase r + 8) 1) 0 % 128

/-- A region is DECLARED to a context. -/
def declaredTo (s : State) (r c : Nat) : Bool := decide (regState s r = 1) && decide (regCtx s r = c)

/-- An object named by a record: number, attributes, VA, PA, SIZE. -/
structure RecObj where
  num : Nat
  attr : Nat
  va : Nat
  pa : Nat
  size : Nat
  deriving DecidableEq, Repr

/-- The objects of a record, in OBJ order. -/
def recObjs (b : Bytes) : List RecObj :=
  (List.range (byteAt b 9)).map (fun k =>
    let o := 1024 + 32 * k
    ⟨leAt b o 2, byteAt b (o + 2), leAt b (o + 8) 8, leAt b (o + 16) 8, leAt b (o + 24) 8⟩)

def RecObj.bytes (x : RecObj) : Bytes :=
  leBytes 2 x.num ++ leBytes 1 x.attr ++ leBytes 5 0 ++ leBytes 8 x.va ++ leBytes 8 x.pa ++ leBytes 8 x.size

/-- A record with its OBJ list, OBJ_COUNT and TOTAL as given. -/
def recWithObjs (b : Bytes) (l : List RecObj) : Bytes :=
  let b := putB b 9 (leBytes 1 l.length)
  let b := putB b 40 (leBytes 8 ((l.map (·.size)).sum))
  putB b 1024 ((l.flatMap RecObj.bytes) ++ List.replicate (1024 - 32 * l.length) 0)

/-- Byte 1 of the descriptor an object was made from (05 R115). -/
def MemObj.attr (m : MemObj) : Nat :=
  m.cls.toNat + 4 * b2n m.host + 8 * b2n m.write + 16 * b2n m.netw + 32 * b2n m.depo + 64 * b2n m.biv

/-- The live objects of a region, ascending by number. -/
def regionObjs (s : State) (r : Nat) : List RecObj :=
  (s.obj.mo.filter (fun e => decide (e.2.st ≠ .free) && e.2.biv && decide (e.2.bivReg = r) &&
    decide (e.2.ctx = regCtx s r))).map (fun e => ⟨e.1, e.2.attr, e.2.va, e.2.pa, e.2.size⟩)

/-- The record of a DECLARED region names the objects it holds (R159, R160). -/
def regSync (r : Nat) (s : State) : State :=
  if regState s r = 1 then putRec r (recWithObjs (recOf s r) (regionObjs s r)) s else s

/-- A region returns to FREE with its record cleared (R159, R168). -/
def clearRec (r : Nat) (s : State) : State :=
  putRec r (List.replicate 2048 0) { s with
    pair.mirrored := s.pair.mirrored.erase r, pair.wrapped := s.pair.wrapped.filter (fun e => decide (e.1 ≠ r)) }

/-- A primary sends the record of a region to its partner, the mirror-wrapped key in WRAPPED_KEY where its DECLARE made one
(10 R277, 11 R291). -/
def regionMsg (r : Nat) (s : State) : State :=
  if mirroring s then
    let b := recOf s r
    let w := tget [] s.pair.wrapped r
    mirSend 3 r (if w.isEmpty then b else putB b 64 w) .region none 0 s
  else s

/-! ## HBM ranges in use (05 R110, R117, 06 R167) -/

def hbmSize : Nat := 0x1800000000
def crashArea : Nat × Nat := (0x17FF800000, 0x1800000000)
def bookArea : Nat × Nat := (0x17FF7F0000, 0x17FF800000)

/-- Two ranges [a, b) and [c, d) share an address. -/
def rangesMeet (a b c d : Nat) : Bool := decide (a < d) && decide (c < b)

/-- An HBM range meets a live object, a pool, a SEALED region's object or a reserved area; pools of contexts in `skip` do not
count. -/
def paBusy (s : State) (lo hi : Nat) : Bool :=
  s.obj.mo.any (fun e => decide (e.2.st ≠ .free) && !e.2.host && rangesMeet lo hi e.2.pa (e.2.pa + e.2.size)) ||
  s.obj.ctx.any (fun e => decide (e.2.st ≠ .free) && rangesMeet lo hi e.2.ptBase (e.2.ptBase + 4096 * e.2.ptPages)) ||
  rangesMeet lo hi crashArea.1 crashArea.2 || rangesMeet lo hi bookArea.1 bookArea.2 ||
  (List.range 16).any (fun r => decide (regState s r = 2) &&
    (recObjs (recOf s r)).any (fun o => rangesMeet lo hi o.pa (o.pa + o.size)))

/-- An object of the context meets a VA range. -/
def vaBusy (s : State) (c lo hi : Nat) : Bool :=
  s.obj.mo.any (fun e => decide (e.2.st ≠ .free) && decide (e.2.ctx = c) && rangesMeet lo hi e.2.va (e.2.va + e.2.size))

/-- Aligned blocks of 2^k bytes that a range touches. -/
def blocksOf (k va size : Nat) : Nat := (va + size - 1) / 2 ^ k - va / 2 ^ k + 1

/-- Table pages an object needs: an open number, at most what a radix table of 512 entries a page needs (R117, log 12). -/
def ptNeed (s : State) (va size : Nat) : Nat :=
  min (Config.ptNeed s.free) (1 + blocksOf 39 va size + blocksOf 30 va size + blocksOf 21 va size)

/-- Pool pages a context has in use. -/
def ptUsed (s : State) (c : Nat) : Nat :=
  ((s.obj.mo.filter (fun e => decide (e.2.st ≠ .free) && decide (e.2.ctx = c))).map (fun e => e.2.pt)).sum

/-- A record has bits set only in the listed fields (05 R107). -/
def onlyFields (l : List (Nat × Nat × Nat)) (b : Bytes) : Bool := decide (ofLe b &&& fieldMask l = ofLe b)

end Sys2Proof.Machine
end

