-- ==== Sys2Proof/Machine/Objects.lean ====
section
/-!
DEFINITION. The object commands of 05 (R106 to R132): contexts, queues, memory objects, events, doorbells.
-/
namespace Sys2Proof.Machine

/-! ## The command interface (R106, R107) -/

/-- The value written to OBJ_CMD. -/
def ObjCmd.raw (op : Nat) (x : ObjCmd) : Nat :=
  op + 2 ^ 8 * x.rsvLo.toNat + 2 ^ 16 * x.id.toNat + 2 ^ 32 * x.vector.toNat + 2 ^ 43 * b2n x.irq + 2 ^ 44 * x.rsvHi.toNat

/-- How the effect of an object command ends: refused with a code, finished, or still running. -/
inductive ObjEnd where
  | fail (code : Nat) (addr : Nat := 0)
  | done (result : Bytes) (s : State)
  | runs (s : State)

/-- A command ends: CODE, DONE, RESULT bytes from 0, its vector (R106). -/
def objDone (code : Nat) (result : Bytes) (vec : Option (BitVec 11)) (s : State) : State :=
  msixIf vec { s with
    obj.busy := false, obj.done := true, obj.code := BitVec.ofNat 16 code, obj.irqVec := none, obj.destroying := none,
    obj.result := BitVec.ofNat 512 (ofLe (putB (leBytes 64 s.obj.result.toNat) 0 result)) }

/-- A command fails: CODE and one error record (R107; its DETAIL as 12 R461 has it, log 22); `addr` is the bus address of a refused
request (06 R147). -/
def objFail (code raw addr : Nat) (ctx : Option Nat) (vec : Option (BitVec 11)) (s : State) : State :=
  objDone code [] vec
    (raise { code := code, src := 2, ctx := ctx, unit := bitsN raw 16 16, addr := addr, detail := raw } s)

/-- One object command (R107): its form is checked before every state; while MEM is off it fails (13 R333). -/
def objCmd (op lim : Nat) (x : ObjCmd) (bad : Bytes → Bool) (ctx : Bytes → Option Nat) (act : Bytes → State → ObjEnd)
    (s : State) : State :=
  if !hostReady s then s
  else if s.obj.busy then { s with obj.overrun := true }
  else
    let stage := leBytes 64 s.obj.stage.toNat
    let vec := if x.irq then some x.vector else none
    let raw := ObjCmd.raw op x
    if decide (x.rsvLo ≠ 0) || decide (x.rsvHi ≠ 0) || decide (lim ≤ x.id.toNat) then objFail errCmdInvalid raw 0 none vec s
    else if bad stage then objFail errCmdInvalid raw 0 (ctx stage) vec s
    else if !domOn s dMEM then objFail errObjState raw 0 (ctx stage) vec s
    else
      match act stage s with
      | .fail code addr => objFail code raw addr (ctx stage) vec s
      | .done r s' => objDone 0 r vec s'
      | .runs s' => { s' with obj.busy := true, obj.irqVec := vec, obj.cmd := BitVec.ofNat 64 raw }

/-- A context accepts commands on its objects: it is not RETIRING (R113). -/
def notRetiring (s : State) (c : Nat) : Bool := decide ((ctxOf s c).st ≠ .retiring)

/-- A context is LIVE. -/
def isLive (s : State) (c : Nat) : Bool := decide ((ctxOf s c).st = .live)

def anyStage : Bytes → Bool := fun _ => false

/-! ## Contexts (R109 to R114) -/

def ctxFields : List (Nat × Nat × Nat) :=
  [(0, 0, 1), (4, 0, 32), (8, 0, 48), (16, 0, 32), (20, 0, 64), (28, 0, 8), (32, 0, 17)]

/-- Reserved fields, alignment and range of a context descriptor (R109, R110). -/
def ctxBad (d : Bytes) : Bool :=
  !onlyFields ctxFields d || decide (leAt d 8 6 % 4096 ≠ 0) || decide (leAt d 16 4 = 0) ||
    decide (hbmSize < leAt d 8 6 + 4096 * leAt d 16 4)

/-- The job key slots a context descriptor marks valid (R109). -/
def jkSlots (d : Bytes) : List Nat :=
  ((List.range 8).filter (fun k => decide (bitsAt d 28 k 1 = 1))).map (fun k => byteAt d (20 + k))

/-- A slot cannot serve a new context: it is bound, or holds no key (R110, 11 R288). -/
def jkBad (s : State) (k : Nat) : Bool :=
  (jobKeyOf s k).bound.isSome ||
    ((jobKeyOf s k).key.isNone && (s.kh.ret.map (fun (r : Retained) => (tget none r.jobKey k).isSome)) ≠ some true)

/-- A partner bound to a pair accepts no context (10 R273). -/
def boundPartner (s : State) : Bool :=
  s.pair.role && (decide (s.pair.st = .binding) || decide (s.pair.st = .syncing) || decide (s.pair.st = .paired))

/-- The context is made with a fresh key (R109, 11 R290); its RCV_REPLAY bit clears (14). -/
def ctxMake (c : Nat) (d : Bytes) (s : State) : State :=
  let r := drawKey s
  let s := setCtxKey c (some r.1) r.2
  let s := setCtx s c
    { st := .live, preview := decide (bitsAt d 0 0 1 = 1), jobWd := BitVec.ofNat 32 (leAt d 4 4), ptBase := leAt d 8 6,
      ptPages := leAt d 16 4, jk := (List.range 8).map (fun k => byteAt d (20 + k)), jkv := BitVec.ofNat 8 (byteAt d 28),
      tagq := BitVec.ofNat 17 (leAt d 32 3), origin := originOf r.1, desc := d }
  each (jkSlots d) (fun k s => { s with kh.jobKey := tput {} s.kh.jobKey k { jobKeyOf s k with bound := some c } })
    { s with rcv.replay := s.rcv.replay &&& ~~~(1#128 <<< c), pair.cseq := tput 0 s.pair.cseq c 0,
             pair.before := s.pair.before.erase c }

/-- CTX_CREATE (R108 to R110); `dur` is the time the Keyholder takes (log 13). -/
def effCtxCreate (x : ObjCmd) (dur : Nat) (s : State) : State :=
  let c := x.id.toNat
  objCmd 0x01 128 x ctxBad (fun _ => some c) (fun d s =>
    if s.kh.dbg = 2 then .fail errSecureUnavailable
    else if (ctxOf s c).st ≠ .free then .fail errObjState
    else if boundPartner s then .fail errObjState
    else if s.rcv.oos then .fail errOutOfService
    else if (jkSlots d).any (jkBad s) then .fail errKeySlot
    else if paBusy s (leAt d 8 6) (leAt d 8 6 + 4096 * leAt d 16 4) then .fail errPaOverlap
    else if !keyServes s true then .fail errSecureUnavailable
    else if dur = 0 && s.kh.run.isEmpty then .done [] (ctxMake c d s)
    else .runs (khQueue (.ctxCreate c (BitVec.ofNat 512 (ofLe d))) dur s)) s

/-- CTX_DESTROY (R113 steps 1 to 5). -/
def ctxRetire (c : Nat) (s : State) : State :=
  let s := if isLive s c then abortSteps c errCtxAborted .retiring s else setCtx s c { ctxOf s c with st := .retiring }
  let s := each (queuesOf s c) (fun q s =>
    let x := queueOf s q
    queueSettle q (setQueue s q { x with st := .retiring, stopping := false, tail := x.head })) s
  let s := qpsError (fun x => decide (x.ctx = c)) .retire s
  let s := { s with eth.qp := s.eth.qp.filter (fun e => decide (e.2.ctx ≠ c)) }
  let s := closeSeals c (depClearAll (fun x => decide (x.ctx.toNat = c)) s)
  let s := each (tkeys (fun _ x => x.live && decide (x.ctx = c)) s.obj.ev) freeEv s
  let s := each (tkeys (fun _ x => decide (x.st ≠ .free) && decide (x.ctx = c)) s.obj.mo) freeMo s
  each ((List.range 16).filter (fun r => declaredTo s r c)) clearRec s

def effCtxDestroy (x : ObjCmd) (s : State) : State :=
  let c := x.id.toNat
  objCmd 0x02 128 x anyStage (fun _ => some c) (fun _ s =>
    if (ctxOf s c).st = .live ∨ (ctxOf s c).st = .aborted then
      .runs { ctxRetire c s with obj.destroying := some c }
    else .fail errObjState) s

/-- Nothing keeps a RETIRING context from FREE (R111, R113 steps 2, 4 and 6). -/
def ctxEmpty (s : State) (c : Nat) : Bool :=
  (queuesOf s c).isEmpty && s.eth.qp.all (fun e => decide (e.2.ctx ≠ c)) &&
    s.hif.dep.all (fun e => decide (e.2.ctx.toNat ≠ c) || decide (e.2.st = .idle)) &&
    s.txn.txns.all (fun e => match e.2 with
      | some x => decide (x.ctx ≠ c)
      | none => true) &&
    (ownedQuads s c).isEmpty

/-- CONTEXT_FREE (R113 step 7, 11 R288). -/
def effContextFree (c : Nat) (s : State) : State :=
  if (ctxOf s c).st = .retiring && ctxEmpty s c then
    let bound := tkeys (fun _ (k : JobKey) => decide (k.bound = some c)) s.kh.jobKey
    let s := setCtx (each bound zeroJobKey (zeroCtxKey c s)) c {}
    if s.obj.destroying = some c then objDone 0 [] s.obj.irqVec s else s
  else s

/-- CTX_ABORT (R108, R112). -/
def effCtxAbort (x : ObjCmd) (s : State) : State :=
  let c := x.id.toNat
  objCmd 0x03 128 x anyStage (fun _ => some c) (fun _ s =>
    if isLive s c then .done [] (ctxAbort c errCtxAborted s) else .fail errObjState) s

/-- CTX_RESTART (R108, R114). -/
def effCtxRestart (x : ObjCmd) (s : State) : State :=
  let c := x.id.toNat
  objCmd 0x04 128 x anyStage (fun _ => some c) (fun _ s =>
    if (ctxOf s c).st ≠ .aborted then .fail errObjState
    else if (ctxOf s c).keyLost then .fail errSecureUnavailable
    else .done [] (setCtx s c { ctxOf s c with st := .live })) s

/-! ## Queues (R119 to R122) -/

def queueFields : List (Nat × Nat × Nat) :=
  [(0, 0, 7), (1, 0, 2), (2, 0, 11), (2, 15, 1), (4, 0, 5), (5, 0, 5), (8, 0, 64), (16, 0, 64)]

def logBad (n : Nat) : Bool := decide (n < 4) || decide (16 < n)

def queueBad (d : Bytes) : Bool :=
  !onlyFields queueFields d || logBad (byteAt d 4) || logBad (byteAt d 5) ||
    decide (leAt d 8 8 % 4096 ≠ 0) || decide (leAt d 16 8 % 4096 ≠ 0)

/-- The context named by byte 0 of a descriptor. -/
def stageCtx (d : Bytes) : Option Nat := some (bitsAt d 0 0 7)

/-- A cookie that the queue's earlier cookies do not hold (R121): the drawn value, or the first free one above it. -/
def freshCookie (used : List (Nat × BitVec 32)) (q : Nat) (draw : BitVec 32) : BitVec 32 :=
  (((List.range (used.length + 1)).map (fun k => draw + BitVec.ofNat 32 k)).find? (fun c => !used.contains (q, c))).getD draw

/-- Q_CREATE (R108, R119); the cookie is an open value, new to the queue (R121, log 7). -/
def effQCreate (x : ObjCmd) (s : State) : State :=
  let q := x.id.toNat
  objCmd 0x10 1024 x queueBad stageCtx (fun d s =>
    let c := bitsAt d 0 0 7
    if (queueOf s q).st ≠ .free || !isLive s c then .fail errObjState
    else
      let ck := freshCookie s.obj.cookies q (Config.cookie s.free)
      .done (leBytes 4 ck.toNat) (setQueue { drawn s with obj.cookies := s.obj.cookies ++ [(q, ck)] } q
        { st := .stopped, ctx := c, prio := bitsAt d 1 0 2, vec := BitVec.ofNat 11 (leAt d 2 2),
          vecEn := decide (bitsAt d 2 15 1 = 1), sqLog := byteAt d 4, cqLog := byteAt d 5, sqBase := leAt d 8 8,
          cqBase := leAt d 16 8, cookie := ck })) s

/-- The owner of a queue, for a record. -/
def queueCtx (s : State) (q : Nat) : Option Nat :=
  if (queueOf s q).st = .free then none else some (queueOf s q).ctx

/-- A command on a queue in one state, of a context that is not RETIRING. -/
def onQueue (op : Nat) (x : ObjCmd) (st : QSt) (act : Nat → State → ObjEnd) (s : State) : State :=
  let q := x.id.toNat
  objCmd op 1024 x anyStage (fun _ => queueCtx s q) (fun _ s =>
    if (queueOf s q).st = st && notRetiring s (queueOf s q).ctx then act q s else .fail errObjState) s

/-- Q_DESTROY (R108): the queue pair is FREE. An ended job whose completion entry is still due goes with it, its entry unwritten
(log 23). -/
def effQDestroy (x : ObjCmd) (s : State) : State :=
  onQueue 0x11 x .stopped (fun q s =>
    let s := match (queueOf s q).job with
      | some j => replaySettled q j (freeQuads q s)
      | none => s
    .done [] (setQueue s q {})) s

/-- Q_STOP (R108). -/
def effQStop (x : ObjCmd) (s : State) : State :=
  onQueue 0x12 x .running (fun q s => .done [] (queueSettle q (setQueue s q { queueOf s q with stopping := true }))) s

/-- Q_START (R108). -/
def effQStart (x : ObjCmd) (s : State) : State :=
  onQueue 0x13 x .stopped (fun q s =>
    if isLive s (queueOf s q).ctx then .done [] (setQueue s q { queueOf s q with st := .running })
    else .fail errObjState) s

/-! ## Memory objects (R115 to R118, R460) -/

def moFields : List (Nat × Nat × Nat) := [(0, 0, 7), (1, 0, 7), (2, 0, 4), (8, 0, 48), (16, 0, 64), (24, 0, 64)]

/-- Step 1 of R460. -/
def moBad (d : Bytes) : Bool :=
  let va := leAt d 8 6
  let pa := leAt d 16 8
  let size := leAt d 24 8
  !onlyFields moFields d || decide (2 ≤ bitsAt d 1 0 2) || decide (va % 4096 ≠ 0) || decide (pa % 4096 ≠ 0) ||
    decide (size = 0) || decide (size % 4096 ≠ 0) || decide (2 ^ 48 < va + size) ||
    (if bitsAt d 1 2 1 = 1 then decide (2 ^ 64 < pa + size) else decide (hbmSize < pa + size))

/-- The object a descriptor describes. -/
def moOfDesc (d : Bytes) : MemObj :=
  { st := .live, ctx := bitsAt d 0 0 7, cls := BitVec.ofNat 2 (bitsAt d 1 0 2), host := decide (bitsAt d 1 2 1 = 1),
    write := decide (bitsAt d 1 3 1 = 1), netw := decide (bitsAt d 1 4 1 = 1), depo := decide (bitsAt d 1 5 1 = 1),
    biv := decide (bitsAt d 1 6 1 = 1), bivReg := bitsAt d 2 0 4, va := leAt d 8 6, pa := leAt d 16 8, size := leAt d 24 8 }

/-- Bytes of all objects of the regions that are not FREE (06 R159). -/
def regionBytes (s : State) : Nat :=
  (((List.range 16).filter (fun r => decide (regState s r ≠ 0))).map (fun r => leAt (recOf s r) 40 8)).sum

/-- Step 3 of R460: 0, or the code. -/
def bivCheck (s : State) (m : MemObj) : Nat :=
  if !m.biv then 0
  else if !declaredTo s m.bivReg m.ctx then errObjState
  else if m.host || decide (32 ≤ (regionObjs s m.bivReg).length) || decide (2 ^ 35 < regionBytes s + m.size) then
    errCmdInvalid
  else 0

/-- MEM_CREATE (R460). -/
def effMemCreate (x : ObjCmd) (s : State) : State :=
  let n := x.id.toNat
  objCmd 0x20 65536 x moBad stageCtx (fun d s =>
    let m := moOfDesc d
    let need := ptNeed s m.va m.size
    if (moOf s n).st ≠ .free || !isLive s m.ctx then .fail errObjState
    else if bivCheck s m ≠ 0 then .fail (bivCheck s m)
    else if vaBusy s m.ctx m.va (m.va + m.size) then .fail errVaOverlap
    else if !m.host && paBusy s m.pa (m.pa + m.size) then .fail errPaOverlap
    else if (ctxOf s m.ctx).ptPages < ptUsed s m.ctx + need then .fail errPtExhausted
    else
      let s := setMo (drawn s) n { m with pt := need }
      .done [] (if m.biv then regSync m.bivReg s else s)) s

/-- The owner of an object, for a record. -/
def moCtx (s : State) (n : Nat) : Option Nat := if (moOf s n).st = .free then none else some (moOf s n).ctx

/-- MEM_DESTROY (R108, R118). -/
def effMemDestroy (x : ObjCmd) (s : State) : State :=
  let n := x.id.toNat
  objCmd 0x21 65536 x anyStage (fun _ => moCtx s n) (fun _ s =>
    let m := moOf s n
    if m.st = .free || !notRetiring s m.ctx then .fail errObjState
    else .done [] (if m.biv then regSync m.bivReg (freeMo n s) else freeMo n s)) s

/-- The digest of an object's contents in address order (R108). -/
def moDigest (s : State) (hr : List Host.Cell) (m : MemObj) : Bytes :=
  sha384 (if m.host then hostRead s hr m.pa m.size else objRead s m 0 m.size)

/-- MEM_FREEZE (R108): write permission and network registration end (07 R175). -/
def effMemFreeze (x : ObjCmd) (hr : List Host.Cell) (s : State) : State :=
  let n := x.id.toNat
  objCmd 0x22 65536 x anyStage (fun _ => moCtx s n) (fun _ s =>
    let m := moOf s n
    if m.st ≠ .live || m.cls ≠ 1 || !notRetiring s m.ctx then .fail errObjState
    else .done (moDigest s hr m) (setMo (drawn s) n { m with st := .frozen, rkey := none })) s

/-- MEM_VERIFY (R108). -/
def effMemVerify (x : ObjCmd) (hr : List Host.Cell) (s : State) : State :=
  let n := x.id.toNat
  objCmd 0x23 65536 x anyStage (fun _ => moCtx s n) (fun _ s =>
    let m := moOf s n
    if m.st = .free || m.cls ≠ 1 || !notRetiring s m.ctx then .fail errObjState
    else .done (moDigest s hr m) (drawn s)) s

/-! ## Events (R128 to R131) -/

def evFields : List (Nat × Nat × Nat) := [(0, 0, 7), (2, 0, 11), (2, 15, 1), (8, 0, 64), (16, 0, 64), (24, 0, 64)]

def evBad (d : Bytes) : Bool := !onlyFields evFields d || decide (leAt d 24 8 % 16 ≠ 0)

/-- EV_CREATE (R128, R131): the event is armed. -/
def effEvCreate (x : ObjCmd) (s : State) : State :=
  let n := x.id.toNat
  objCmd 0x30 16384 x evBad stageCtx (fun d s =>
    let c := bitsAt d 0 0 7
    if (evOf s n).live || !isLive s c then .fail errObjState
    else .done [] (evNotify n (setEv s n
      { live := true, ctx := c, vec := BitVec.ofNat 11 (leAt d 2 2), vecEn := decide (bitsAt d 2 15 1 = 1),
        cnt := BitVec.ofNat 64 (leAt d 8 8), thresh := BitVec.ofNat 64 (leAt d 16 8),
        recAddr := BitVec.ofNat 64 (leAt d 24 8), armed := true }))) s

/-- A command on a LIVE event of a context that is not RETIRING. -/
def onEvent (op : Nat) (x : ObjCmd) (act : Nat → Bytes → State → State) (s : State) : State :=
  let n := x.id.toNat
  objCmd op 16384 x anyStage (fun _ => if (evOf s n).live then some (evOf s n).ctx else none) (fun d s =>
    if (evOf s n).live && notRetiring s (evOf s n).ctx then .done [] (act n d s) else .fail errObjState) s

/-- EV_DESTROY (R130). -/
def effEvDestroy (x : ObjCmd) (s : State) : State := onEvent 0x31 x (fun n _ s => freeEv n s) s

/-- EV_ADD (R129). -/
def effEvAdd (x : ObjCmd) (s : State) : State :=
  onEvent 0x32 x (fun n d s => evAdd n (leAt d 0 8) { code := 0, src := 2, unit := n } s) s

/-- EV_SET (R129, R130). -/
def effEvSet (x : ObjCmd) (s : State) : State :=
  onEvent 0x33 x (fun n d s => evChange n (BitVec.ofNat 64 (leAt d 0 8)) s) s

/-- EV_ARM (R131). -/
def effEvArm (x : ObjCmd) (s : State) : State :=
  onEvent 0x34 x (fun n d s =>
    evNotify n (setEv s n { evOf s n with thresh := BitVec.ofNat 64 (leAt d 16 8), armed := true })) s

/-- OBJ_CMD with an OP that names no command (R107). -/
def effObjUnknown (op : Nat) (x : ObjCmd) (s : State) : State :=
  objCmd op 0 x anyStage (fun _ => none) (fun _ _ => .fail errCmdInvalid) s

/-! ## Doorbells (R120 to R122) -/

/-- Why a doorbell is dropped: 0 where it is taken (R121). `log` is the ring it points into. -/
def doorbellCheck (s : State) (q : Nat) (data : Bytes) (log : Nat) : Nat :=
  let x := queueOf s q
  let v := ofLe data
  if data.length ≠ 8 then errDoorbellInvalid
  else if decide (x.st = .free) || decide (x.st = .retiring) || decide (bitsN v 16 7 ≠ x.ctx) ||
      decide (bitsN v 32 32 ≠ x.cookie.toNat) then errDoorbellOwner
  else if bitsN v 23 9 ≠ 0 ∨ 2 ^ log ≤ bitsN v 0 16 then errDoorbellInvalid
  else 0

/-- A doorbell write, taken by `act` or dropped with its record (R121). -/
def doorbell (q : Nat) (data : Bytes) (log : Nat) (act : Nat → State → State) (s : State) : State :=
  if !hostReady s then s
  else
    let code := doorbellCheck s q data log
    if code = 0 then act (bitsN (ofLe data) 0 16) s
    else raise { code := code, src := 1, ctx := if data.length = 8 then some (bitsN (ofLe data) 16 7) else none,
                 unit := q, detail := ofLe data % 2 ^ 64 } s

/-- Distance from `a` forward to `b` in a ring of 2^log entries. -/
def ringDist (log a b : Nat) : Nat := (b + 2 ^ log - a) % 2 ^ log

/-- SUBMISSION_DOORBELL (R121, R122): a tail that goes backwards leaves an open one (R122). -/
def effSubmissionDoorbell (q : Nat) (data : Bytes) (s : State) : State :=
  let log := (queueOf s q).sqLog
  doorbell q data log (fun v s =>
    let x := queueOf s q
    if ringDist log x.head v < ringDist log x.head x.tail then
      setQueue (drawn s) q { x with tail := Config.openVal s.free % 2 ^ log }
    else setQueue s q { x with tail := v }) s

/-- COMPLETION_DOORBELL (R121, R122). -/
def effCompletionDoorbell (q : Nat) (data : Bytes) (s : State) : State :=
  let log := (queueOf s q).cqLog
  doorbell q data log (fun v s =>
    let x := queueOf s q
    if ringDist log x.cqHead x.cqIdx < ringDist log x.cqHead v then
      setQueue (drawn s) q { x with cqHead := Config.openVal s.free % 2 ^ log }
    else setQueue s q { x with cqHead := v }) s

/-- DECODE_FAILURE_END (03 R85): once the admitted descriptors have retired, or 1 ms after the failure, the tile's part ends
failed and its context is aborted. -/
def effDecodeFailureEnd (t : Nat) (s : State) : State :=
  let tl := tileOf s t
  match tl.decFail with
  | none => s
  | some since =>
    if tl.part = .running && (tl.win.isEmpty || decide (since + 1000000 ≤ s.now)) then
      let s := setTile s t { tl with part := .ended }
      match tileOwner s t with
      | some c => ctxAbort c errDescInvalid s
      | none => s
    else s

/-! ## Meanings of the commands -/

/-- DECODE_FAILURE_END (03 R85). -/
def execDecodeFailureEnd (t : Nat) (s : State) : Host.Outcome State Fault Refusal :=
  .next (effDecodeFailureEnd t s)

/-- CTX_CREATE (05 R109). -/
def execCtxCreate (x : ObjCmd) (dur : Nat) (s : State) : Host.Outcome State Fault Refusal :=
  .next (effCtxCreate x dur s)

/-- CTX_DESTROY (05 R113). -/
def execCtxDestroy (x : ObjCmd) (s : State) : Host.Outcome State Fault Refusal :=
  .next (effCtxDestroy x s)

/-- CONTEXT_FREE (05 R113). -/
def execContextFree (c : Nat) (s : State) : Host.Outcome State Fault Refusal :=
  .next (effContextFree c s)

/-- CTX_ABORT (05 R108). -/
def execCtxAbort (x : ObjCmd) (s : State) : Host.Outcome State Fault Refusal :=
  .next (effCtxAbort x s)

/-- CTX_RESTART (05 R114). -/
def execCtxRestart (x : ObjCmd) (s : State) : Host.Outcome State Fault Refusal :=
  .next (effCtxRestart x s)

/-- Q_CREATE (05 R119). -/
def execQCreate (x : ObjCmd) (s : State) : Host.Outcome State Fault Refusal :=
  .next (effQCreate x s)

/-- Q_DESTROY (05 R108). -/
def execQDestroy (x : ObjCmd) (s : State) : Host.Outcome State Fault Refusal :=
  .next (effQDestroy x s)

/-- Q_STOP (05 R108). -/
def execQStop (x : ObjCmd) (s : State) : Host.Outcome State Fault Refusal :=
  .next (effQStop x s)

/-- Q_START (05 R108). -/
def execQStart (x : ObjCmd) (s : State) : Host.Outcome State Fault Refusal :=
  .next (effQStart x s)

/-- MEM_CREATE (05 R460). -/
def execMemCreate (x : ObjCmd) (s : State) : Host.Outcome State Fault Refusal :=
  .next (effMemCreate x s)

/-- MEM_DESTROY (05 R118). -/
def execMemDestroy (x : ObjCmd) (s : State) : Host.Outcome State Fault Refusal :=
  .next (effMemDestroy x s)

/-- MEM_FREEZE (05 R108). -/
def execMemFreeze (x : ObjCmd) (hr : List Host.Cell) (s : State) : Host.Outcome State Fault Refusal :=
  .next (effMemFreeze x hr s)

/-- MEM_VERIFY (05 R108). -/
def execMemVerify (x : ObjCmd) (hr : List Host.Cell) (s : State) : Host.Outcome State Fault Refusal :=
  .next (effMemVerify x hr s)

/-- EV_CREATE (05 R128). -/
def execEvCreate (x : ObjCmd) (s : State) : Host.Outcome State Fault Refusal :=
  .next (effEvCreate x s)

/-- EV_DESTROY (05 R130). -/
def execEvDestroy (x : ObjCmd) (s : State) : Host.Outcome State Fault Refusal :=
  .next (effEvDestroy x s)

/-- EV_ADD (05 R129). -/
def execEvAdd (x : ObjCmd) (s : State) : Host.Outcome State Fault Refusal :=
  .next (effEvAdd x s)

/-- EV_SET (05 R130). -/
def execEvSet (x : ObjCmd) (s : State) : Host.Outcome State Fault Refusal :=
  .next (effEvSet x s)

/-- EV_ARM (05 R131). -/
def execEvArm (x : ObjCmd) (s : State) : Host.Outcome State Fault Refusal :=
  .next (effEvArm x s)

/-- SUBMISSION_DOORBELL (05 R121). -/
def execSubmissionDoorbell (q : Nat) (data : Bytes) (s : State) : Host.Outcome State Fault Refusal :=
  .next (effSubmissionDoorbell q data s)

/-- COMPLETION_DOORBELL (05 R121). -/
def execCompletionDoorbell (q : Nat) (data : Bytes) (s : State) : Host.Outcome State Fault Refusal :=
  .next (effCompletionDoorbell q data s)

end Sys2Proof.Machine
end

