-- ==== Sys2Proof/Machine/ErrQueue.lean ====
section
/-!
DEFINITION. The global error queue (05 R133 to R137): acceptance, its registers, the deferred records, the landing of lines.
-/
namespace Sys2Proof.Machine

/-! ## Acceptance (R133, R134) -/

/-- Index of the next line to be written. -/
def erqNext (s : State) : Nat := s.erq.tail.toNat + s.erq.lines.length

/-- The ring is full (R134). -/
def erqFull (s : State) : Bool := decide ((erqNext s + 1) % 4096 = s.erq.head.toNat)

/-- A record is written as one 64-byte line (R134). -/
def erqPut (e : ErrRec) (seq time : Nat) (s : State) : State :=
  let i := erqNext s
  let phase := if 4096 ≤ i then !s.erq.phase else s.erq.phase
  let id := s.hif.nextReq
  let s := hostWrite (s.erq.base.toNat * 4096 + 64 * (i % 4096)) (errLine e phase seq time) false .errLine s
  { s with erq.lines := s.erq.lines ++ [{ id := id, job := e.job, landed := decide (s.hif.loss ≠ .idle) }] }

/-- An accepted record is dropped: DROPS rises, and a run of pending drops begins or goes on (R134). -/
def erqDrop (seq time : BitVec 64) (s : State) : State :=
  let x := s.erq
  bump 0x3016 0 1 { s with
    erq.drops := BitVec.ofNat 32 (satAdd 32 x.drops.toNat 1),
    erq.dropN := x.dropN + 1,
    erq.dropSeq := if x.dropN = 0 then seq else x.dropSeq,
    erq.dropTime := time }

/-- The overflow record of the pending drops (R134). -/
def erqOverflow (s : State) : State :=
  if s.erq.dropN = 0 then s
  else
    let s' := erqPut { code := errErqOverflow, count := s.erq.dropN } s.erq.dropSeq.toNat s.erq.dropTime.toNat s
    { s' with erq.dropN := 0 }

/-- An accepted record with its SEQ and TIME is written or dropped (R134). -/
def erqStore (e : ErrRec) (seq time : BitVec 64) (s : State) : State :=
  if !s.erq.en || erqFull s then erqDrop seq time s
  else
    let s := erqOverflow s
    if erqFull s then erqDrop seq time s else erqPut e seq.toNat time.toNat s

/-- The first record of a job gives its ERQ_SEQ (R127). -/
def markFirst (e : ErrRec) (seq : BitVec 64) (s : State) : State :=
  match e.job with
  | none => s
  | some q =>
    let x := queueOf s q
    match x.job with
    | some j =>
      if j.firstErr.isNone && decide (e.jobId = j.id) then
        setQueue s q { x with job := some { j with firstErr := some seq } }
      else s
    | none => s

/-- ERROR_RECORD_ACCEPT (R133): record `i` of those raised, by the arbiter's choice; one per HOST cycle. -/
def effErrorAccept (i : Nat) (s : State) : State :=
  if !domOn s dHOST || s.erq.incoming.length ≤ i || s.erq.lastAcc = some s.erq.time then s
  else
    let e := lget { code := 0 } s.erq.incoming i
    let seq := s.erq.seq
    let time := s.erq.time
    let s := { s with erq.incoming := ldel s.erq.incoming i, erq.seq := seq + 1, erq.lastAcc := some time }
    erqStore e seq time (markFirst e seq (bump 0x3015 0 1 s))

/-! ## Landing of a line -/

/-- TAIL passes the leading lines that have landed; each raises the vector where IRQEN is set (R134, 06 R150 cases 4, 6). -/
def erqAdvance : List ErqLine → State → State
  | [], s => { s with erq.lines := [] }
  | l :: r, s =>
    if l.landed then
      let t := s.erq.tail
      let s := { s with erq.tail := t + 1, erq.phase := if t = 0xFFF then !s.erq.phase else s.erq.phase }
      erqAdvance r (if s.erq.irqEn then msix s.erq.vector s else s)
    else { s with erq.lines := l :: r }

/-- A line has landed. -/
def erqLanded (id : Nat) (s : State) : State :=
  let l := s.erq.lines.map (fun x => if x.id = id then { x with landed := true } else x)
  erqAdvance l { s with erq.lines := l }

/-! ## Registers (R135, 06 R164) -/

/-- ERQ_BASE_WRITE (R135). -/
def effErqBase (w : RegWr) (s : State) : State :=
  if !barOn s then s
  else if s.erq.en then { s with erq.cfgErr := true }
  else
    { s with
      erq.base := BitVec.ofNat 52 (rwMerge w 8 (s.erq.base.toNat * 4096) / 4096),
      erq.tail := 0, erq.head := 0, erq.phase := true, erq.lines := [] }

/-- ERQ_HEAD_WRITE (R135). -/
def effErqHead (w : RegWr) (s : State) : State :=
  if !barOn s then s
  else
    let h := BitVec.ofNat 12 (rwMerge w 4 s.erq.head.toNat)
    if (h - s.erq.head).toNat ≤ (s.erq.tail - s.erq.head).toNat then { s with erq.head := h }
    else { s with erq.cfgErr := true }

/-- ERQ_CTRL as read. -/
def erqCtrl (s : State) : Nat :=
  b2n s.erq.en + 2 * b2n s.erq.irqEn + 4 * b2n s.erq.cfgErr + 2 ^ 16 * s.erq.vector.toNat

/-- The records due, in order: after the one of a host loss, one for each region that is SEALED and INCOMPLETE (06 R164). -/
def dueRecords (s : State) : List ErrRec :=
  s.pwr.due.flatMap (fun e =>
    if e.code = errHostLinkDown then
      e :: ((List.range 16).filter (fun r => decide (regState s r = 2) && decide (bitsAt (recOf s r) 7 0 1 = 1))).map
        (fun r => { code := errBivouacIncomplete, src := 4, unit := r })
    else [e])

/-- ERQ_ENABLE: a write of ERQ_CTRL. The setting of EN writes the deferred records, in order (06 R164, 13 R457 and 14). -/
def effErqEnable (w : RegWr) (s : State) : State :=
  if !barOn s then s
  else
    let v := rwMerge w 4 (erqCtrl s - 4 * b2n s.erq.cfgErr)
    let s := { s with
      erq.en := v.testBit 0, erq.irqEn := v.testBit 1, erq.vector := BitVec.ofNat 11 (v / 2 ^ 16),
      erq.cfgErr := s.erq.cfgErr && !(rwOnes w 4).testBit 2 }
    if s.erq.en then (dueRecords s).foldl (fun s e => record e s) { s with pwr.due := [] } else s

/-! ## Meanings of the commands -/

/-- ERQ_BASE_WRITE (05 R135). -/
def execErqBaseWrite (w : RegWr) (s : State) : Host.Outcome State Fault Refusal :=
  if !barOn s then .next s else regWrite w 8 (effErqBase w) s

/-- ERQ_HEAD_WRITE (05 R135). -/
def execErqHeadWrite (w : RegWr) (s : State) : Host.Outcome State Fault Refusal :=
  if !barOn s then .next s else regWrite w 4 (effErqHead w) s

/-- ERQ_ENABLE (06 R164). -/
def execErqEnable (w : RegWr) (s : State) : Host.Outcome State Fault Refusal :=
  if !barOn s then .next s else regWrite w 4 (effErqEnable w) s

end Sys2Proof.Machine
end

