-- ==== Sys2Proof/Machine/VecFun.lean ====
section
/-!
DEFINITION. The correctly rounded functions of 02 R50: each result is the exact value of the function, rounded once.
A value is enclosed between two dyadic bounds of growing precision until both round alike (log 16).
-/
namespace Sys2Proof

/-- An enclosure: the value lies between (m - 1) × 2^e and (m + 1) × 2^e. -/
structure Encl where
  m : Int
  e : Int
  deriving DecidableEq, Repr

/-- Rounding of a signed dyadic. -/
def roundZ (f : FpFmt) (rtz : Bool) (z e : Int) : Nat :=
  (fpRound f rtz (decide (z < 0)) z.natAbs e).enc

/-- The first enclosure of a list whose bounds round alike. -/
def zivPick (f : FpFmt) (rtz : Bool) : List Encl → Option Nat
  | [] => none
  | c :: r =>
    let lo := roundZ f rtz (c.m - 1) c.e
    let hi := roundZ f rtz (c.m + 1) c.e
    if lo = hi then some lo else zivPick f rtz r

/-- The working precisions tried, in bits. -/
def zivPrec : List Nat := [192, 384, 768, 1536]

/-- `a × b` at scale `2^p`. -/
def fxMul (p : Nat) (a b : Int) : Int := a * b / 2 ^ p

/-- The exponential series at scale `2^p` for |r| below 1: `n` terms from term `k`. -/
def expSeries (p : Nat) (r : Int) : Nat → Nat → Int → Int → Int
  | 0, _, _, acc => acc
  | n + 1, k, t, acc =>
    let t' := fxMul p t r / (k : Int)
    expSeries p r n (k + 1) t' (acc + t')

/-- The series of the inverse hyperbolic tangent: `n` terms, `t` holds z^k at scale `2^p`. -/
def atanhSeries (p : Nat) (z2 : Int) : Nat → Nat → Int → Int → Int
  | 0, _, _, acc => acc
  | n + 1, k, t, acc => atanhSeries p z2 n (k + 2) (fxMul p t z2) (acc + t / (k : Int))

/-- atanh(a / b) at scale `2^p`. -/
def atanhQ (p : Nat) (a b : Int) : Int :=
  let z := a * 2 ^ p / b
  atanhSeries p (fxMul p z z) p 1 z 0

/-- ln 2 at scale `2^p`. -/
def ln2 (p : Nat) : Int := 2 * atanhQ p 1 3

/-- The alternating series of arctan(1 / b) at scale `2^p`. -/
def atanInv (p : Nat) (b : Int) : Nat → Nat → Int → Int → Int
  | 0, _, _, acc => acc
  | n + 1, k, t, acc => atanInv p b n (k + 2) (-(t / (b * b))) (acc + t / (k : Int))

/-- π at scale `2^p`, by Machin's formula. -/
def piFx (p : Nat) : Int :=
  16 * atanInv p 5 p 1 (2 ^ p / 5) 0 - 4 * atanInv p 239 p 1 (2 ^ p / 239) 0

/-- A finite value at scale `2^p`, truncated. -/
def toFx (p : Nat) (neg : Bool) (m : Nat) (e : Int) : Int :=
  let v : Int := if 0 ≤ e + p then m * 2 ^ (e + p).toNat else m / 2 ^ (-(e + p)).toNat
  if neg then -v else v

/-- Guard bits of every enclosure: the last bits of a computed value are given up. -/
def guard : Nat := 64

/-- exp(x) for x at scale `2^p`: a mantissa at scale `2^p` near 1 and a binary exponent. -/
def expFx (p : Nat) (x : Int) : Int × Int :=
  let l := ln2 p
  let k := x / l
  let r := x - k * l
  (expSeries p r p 1 (2 ^ p) (2 ^ p), k)

/-- An enclosure from a value at scale `2^p × 2^-k`, giving up the guard bits. -/
def enclOf (p : Nat) (v k : Int) : Encl := ⟨v / 2 ^ guard, k - p + guard⟩

/-- A value is at least `2^n` in magnitude. -/
def fpBig (m : Nat) (e : Int) (n : Int) : Bool := decide (m ≠ 0) && decide ((bitLen m : Int) - 1 + e ≥ n)

/-- exp (R50). -/
def encExp (neg : Bool) (m : Nat) (e : Int) : List Encl :=
  if fpBig m e 8 then (if neg then [⟨3, -600⟩] else [⟨3, 600⟩])
  else zivPrec.map (fun p =>
    let r := expFx (p + 2 * guard) (toFx (p + 2 * guard) neg m e)
    enclOf (p + 2 * guard) r.1 r.2)

/-- log of a positive value (R50): log(m × 2^e) with m scaled into [1, 2). -/
def encLog (m : Nat) (e : Int) : List Encl :=
  zivPrec.map (fun p0 =>
    let p := p0 + 2 * guard
    let b := bitLen m - 1
    let v := 2 * atanhQ p ((m : Int) - 2 ^ b) ((m : Int) + 2 ^ b) + (e + b) * ln2 p
    enclOf p v 0)

/-- 1 / x: quotient with a sticky bit, so that one rounding is exact (R50). -/
def roundRecip (f : FpFmt) (rtz neg : Bool) (m : Nat) (e : Int) : Nat :=
  let k := 256 + bitLen m
  let q := 2 ^ k / m
  let s := if 2 ^ k % m = 0 then 0 else 1
  (fpRound f rtz neg (2 * q + s) (-e - k - 1)).enc

/-- Integer square root, from bit `n` downward. -/
def isqrtGo (x : Nat) : Nat → Nat → Nat
  | 0, r => r
  | n + 1, r =>
    let r' := r + 2 ^ n
    isqrtGo x n (if r' * r' ≤ x then r' else r)

/-- The integer square root. -/
def isqrt (x : Nat) : Nat := isqrtGo x (bitLen x / 2 + 1) 0

/-- 1 / √x of a positive value, with a sticky bit (R50). -/
def roundRsqrt (f : FpFmt) (rtz : Bool) (m : Nat) (e : Int) : Nat :=
  -- make the exponent even
  let m2 := if e % 2 = 0 then m else 2 * m
  let e2 := if e % 2 = 0 then e else e - 1
  let k := 256 + bitLen m2
  let x := 2 ^ (2 * k) / m2
  let r := isqrt x
  let exact := decide (r * r * m2 = 2 ^ (2 * k))
  (fpRound f rtz false (2 * r + (if exact then 0 else 1)) (-(e2 / 2) - k - 1)).enc

/-- tanh of a magnitude: 1 - 2 / (e^2x + 1) (R50). -/
def encTanh (m : Nat) (e : Int) : List Encl :=
  if fpBig m e 6 then [⟨2 ^ 100 - 2, -100⟩]
  else zivPrec.map (fun p0 =>
    let p := p0 + 2 * guard + 128
    let r := expFx p (2 * toFx p false m e)
    -- e^2x at scale 2^p
    let y := r.1 * 2 ^ r.2.toNat
    let o : Int := 2 ^ p
    enclOf p ((y - o) * o / (y + o)) 0)

/-- sigmoid (R50). -/
def encSigmoid (neg : Bool) (m : Nat) (e : Int) : List Encl :=
  if fpBig m e 8 then (if neg then [⟨3, -600⟩] else [⟨2 ^ 100 - 2, -100⟩])
  else zivPrec.map (fun p0 =>
    let p := p0 + 2 * guard + 512
    let r := expFx p (toFx p false m e)
    let y := r.1 * 2 ^ r.2.toNat
    let o : Int := 2 ^ p
    enclOf p (if neg then o * o / (y + o) else y * o / (y + o)) 0)

/-- The series of erf: `n` terms, term t_k = x^(2k+1) / k! with alternating sign. -/
def erfSeries (p : Nat) (x2 : Int) : Nat → Nat → Int → Int → Int
  | 0, _, _, acc => acc
  | n + 1, k, t, acc =>
    erfSeries p x2 n (k + 1) (-(fxMul p t x2 / ((k : Int) + 1))) (acc + t / (2 * (k : Int) + 1))

/-- erf of a magnitude (R50). -/
def encErf (m : Nat) (e : Int) : List Encl :=
  if fpBig m e 4 then [⟨2 ^ 100 - 2, -100⟩]
  else zivPrec.map (fun p0 =>
    -- |x| < 16: the terms stay below 2^370
    let p := p0 + 2 * guard + 512
    let x := toFx p false m e
    let s := erfSeries p (fxMul p x x) (2 * p) 0 x 0
    let rp := (isqrt ((piFx p * 2 ^ p).toNat) : Int)
    enclOf p (2 * s * 2 ^ p / rp) 0)

/-- The functions of R50. -/
inductive VecFn where
  | exp | log | recip | rsqrt | tanh | sigmoid | erf
  deriving DecidableEq, Repr

/-- The sign applied to an encoding. -/
def withSign (f : FpFmt) (neg : Bool) (x : Nat) : Nat := if neg then f.signW + x else x

/-- The rounding picked from enclosures; a value no enclosure settles is free (log 16). -/
def zivRun (f : FpFmt) (rtz : Bool) (l : List Encl) (key : Nat) : Nat :=
  match zivPick f rtz l with
  | some v => v
  | none => (Config.vecOpen key) % (2 * f.signW)

/-- A function of R50 on a value, rounded once to the output format. -/
def vecFn (f : FpFmt) (rtz : Bool) (fn : VecFn) (key : Nat) : FpVal → Nat
  | .nan => f.nanEnc
  | .inf neg =>
    match fn with
    | .exp => if neg then 0 else f.infEnc
    | .log => if neg then f.nanEnc else f.infEnc
    | .recip => withSign f neg 0
    | .rsqrt => if neg then f.nanEnc else 0
    | .tanh => fpEnc f rtz (.fin neg 1 0)
    | .sigmoid => if neg then 0 else fpEnc f rtz (.fin false 1 0)
    | .erf => fpEnc f rtz (.fin neg 1 0)
  | .fin neg m e =>
    match fn with
    | .exp => if m = 0 then fpEnc f rtz (.fin false 1 0) else zivRun f rtz (encExp neg m e) key
    | .log =>
      if m = 0 then f.signW + f.infEnc
      else if neg then f.nanEnc
      else if m = 2 ^ (bitLen m - 1) ∧ e + (bitLen m - 1 : Nat) = 0 then 0
      else zivRun f rtz (encLog m e) key
    | .recip => if m = 0 then withSign f neg f.infEnc else roundRecip f rtz neg m e
    | .rsqrt =>
      if m = 0 then withSign f neg f.infEnc
      else if neg then f.nanEnc else roundRsqrt f rtz m e
    | .tanh => if m = 0 then withSign f neg 0 else withSign f neg (zivRun f rtz (encTanh m e) key)
    | .sigmoid =>
      if m = 0 then fpEnc f rtz (.fin false 1 (-1)) else zivRun f rtz (encSigmoid neg m e) key
    | .erf => if m = 0 then withSign f neg 0 else withSign f neg (zivRun f rtz (encErf m e) key)

end Sys2Proof
end

