-- ==== Sys2Proof/Machine/Tile.lean ====
section
/-!
DEFINITION. The tile commands of 03: admission, issue, the descriptor kinds, signals, tokens and credits.
-/
namespace Sys2Proof.Machine

/-! ## Admission (R65, R85) -/

/-- An Abseil covers the tile's quadrant in steps 1 to 5, or a replay leaves it idle (14 R364, R370). -/
def underAbseil (s : State) (t : Nat) : Bool :=
  decide (1 ≤ s.rcv.step) && decide (s.rcv.step ≤ 5) && s.rcv.scope.toNat.testBit (quadOfTile t)

/-- The tile admits descriptors: its part runs, and neither a HALT, a decode failure, a held expiry, an Abseil nor a host
loss has stopped admission (R65, R85, 14 R363, R364, 06 R162). -/
def admits (s : State) (t : Nat) : Bool :=
  let tl := tileOf s t
  decide (tl.part = .running) && !tl.halted && tl.decFail.isNone && !tl.held && !underAbseil s t &&
    decide (s.hif.loss = .idle)

/-- The lowest free window slot (R65; log 17). -/
def freeSlot (tl : Tile) : Option Nat := (List.range 16).find? (fun n => decide ((tget ({} : Slot) tl.win n).st = .empty))

/-- A decode failure at offset `off` with descriptor bytes `d` (R85). -/
def decodeFail (t off : Nat) (d : Bytes) (s : State) : State :=
  let tl := tileOf s t
  let s := setTile s t { tl with
    decFail := some s.now, fail := earliest tl.fail { order := tl.orderNext, status := errDescInvalid, desc := d } }
  raise { tileRec s t { desc := d, off := off } errDescInvalid with offset := off } s

/-- DESCRIPTOR_ADMIT (R65): the next descriptor of the list is read once, checked and admitted. It is read as the scratchpad
holds it now, so a write into the current list that R69 forbids is seen (log 69). -/
def effAdmit (t : Nat) (s : State) : State :=
  let tl := tileOf s t
  match admits s t, freeSlot tl with
  | true, some n =>
    match tl.fetchBad with
    | some v => decodeFail t v [] s
    | none =>
      if tl.fetch > 0x3FEFC0 then decodeFail t tl.fetch [] s
      else
        let d := spRead s t tl.fetch 64
        if decodeOk tl d then
          let x : Slot := { st := .waiting, off := tl.fetch, desc := d, order := tl.orderNext }
          setTile s t { tl with
            win := tput {} tl.win n x, fetch := tl.fetch + 64, orderNext := tl.orderNext + 1
            halted := decide (x.kind = 15), prog := if tl.win.isEmpty then 0 else tl.prog }
        else decodeFail t tl.fetch d s
  | _, _ => s

/-! ## Issue (R66, R70) -/

/-- The unit of a KIND: 1 matrix, 2 EXA-READ, 3 vector, 4 transfer, 5 event port, 0 none (R70). -/
def unitOf (kind : Nat) : Nat :=
  if kind = 1 then 1 else if kind = 2 then 2 else if kind = 3 then 3 else if 4 ≤ kind ∧ kind ≤ 7 then 4
  else if kind = 9 then 5 else 0

/-- The waits in use: channel and count (R71). -/
def waitsOf (d : Bytes) : List (Nat × Nat) :=
  ((List.range 4).filter (fun w => decide (bitsAt d 1 w 1 = 1))).map
    (fun w => (bitsAt d (4 + w) 0 5, bitsAt d (4 + w) 5 3 + 1))

/-- Tokens waited for on a channel. -/
def waitCount (d : Bytes) (c : Nat) : Nat := (((waitsOf d).filter (fun w => decide (w.1 = c))).map (·.2)).sum

/-- The unit has capacity for another descriptor (R70). -/
def unitFree (tl : Tile) (kind : Nat) : Bool :=
  let busy := (tl.win.filter (fun w => decide (w.2.st = .executing) && decide (unitOf w.2.kind = unitOf kind))).length
  let reds := (tl.win.filter (fun w => decide (w.2.st = .executing) && decide (w.2.kind = 7))).length
  if unitOf kind = 0 then true
  else if unitOf kind = 4 then decide (busy < 8) && (decide (kind ≠ 7) || decide (reds < 2))
  else decide (busy < 1)

/-- Every condition of R66 but the age among the ready descriptors of one unit. -/
def issueReady (tl : Tile) (x : Slot) : Bool :=
  decide (x.st = .waiting) &&
    (waitsOf x.desc).all (fun w => decide (waitCount x.desc w.1 ≤ lget 0 tl.tok w.1)) &&
    tl.win.all (fun w => !(decide (w.2.st = .waiting) && decide (w.2.order < x.order)) ||
      (waitsOf x.desc).all (fun a => !(waitsOf w.2.desc).any (fun b => decide (a.1 = b.1)))) &&
    (!(decide (bitsAt x.desc 0 4 1 = 1) || decide (x.kind = 15)) ||
      tl.win.all (fun w => decide (x.order ≤ w.2.order))) &&
    unitFree tl x.kind

/-- The oldest ready descriptor of its unit issues first (R66). -/
def canIssue (tl : Tile) (x : Slot) : Bool :=
  issueReady tl x && tl.win.all (fun w =>
    !(decide (w.2.order < x.order) && decide (unitOf w.2.kind = unitOf x.kind) && decide (unitOf x.kind ≠ 0) &&
      issueReady tl w.2))

/-- Waited tokens are taken, and each channel's credits go back in one flit (R66, R88). -/
def takeTokens (t : Nat) (d : Bytes) (s : State) : State :=
  let tl := tileOf s t
  let chans := (List.range 32).filter (fun c => decide (waitCount d c ≠ 0))
  let tok := chans.foldl (fun l c => lset l c (lget 0 l c - waitCount d c)) tl.tok
  let flits := chans.map (fun c =>
    let w := lget 0 tl.inb c
    ({ credit := true, src := t, entry := 0, dst := bitsN w 0 7, chan := bitsN w 7 5, count := waitCount d c,
       ctx := (tileOwner s t).getD 0 } : Flit))
  let s := setTile s t { tl with tok := tok }
  { s with mesh := s.mesh ++ flits }

/-- The open seal slot of a context whose frame range holds [va, va + n) (12 R324). -/
def sealSlotFor (s : State) (c va n : Nat) : Option (Nat × SealSlot) :=
  s.sealer.slots.find? (fun e => e.2.opened && decide (e.2.ctx = c) && decide (leAt e.2.desc 8 8 ≤ va) &&
    decide (va + n ≤ leAt e.2.desc 8 8 + leAt e.2.desc 16 5))

/-- Rows of a MOVE: row count, row length. -/
def moveRows (d : Bytes) : Nat := leAt d 36 2 + 1
def moveLen (d : Bytes) : Nat := leAt d 32 4 + 1
/-- Remote address of row `r`. -/
def moveRemote (d : Bytes) (r : Nat) : Nat := leAt d 24 8 + r * leAt d 44 4
/-- Local offset of row `r`. -/
def moveLocal (d : Bytes) (r : Nat) : Nat := leAt d 20 4 + r * leAt d 40 4
/-- The SEAL bit of a MOVE. -/
def moveSealed (d : Bytes) : Bool := decide (bitsAt d 16 2 1 = 1)

/-- The check of R324 at issue: each row is bound to the opening of the slot it lies in, or the MOVE has failed. -/
def bindSeal (t n : Nat) (s : State) : State :=
  let x := slotOf s t n
  if x.kind = 4 && moveSealed x.desc then
    let c := (tileOwner s t).getD 0
    let l := (List.range (moveRows x.desc)).map (fun r =>
      (sealSlotFor s c (moveRemote x.desc r) (moveLen x.desc)).map (fun e => (e.1, e.2.opening)))
    if decide (bitsAt x.desc 16 0 2 = 0) && l.all (·.isSome) then
      setSlot s t n { x with binds := l.filterMap id }
    else slotErr t n errCmdInvalid s
  else s

/-- What an event descriptor finds at its issue (05 R130): a WAIT-EVENT whose threshold the counter meets has completed, one on
an event the context does not own has failed; a HALT with CHAIN reads the value. -/
def readEvent (t n : Nat) (s : State) : State :=
  let x := slotOf s t n
  let c := (tileOwner s t).getD 0
  if x.kind = 8 then
    let e := bitsAt x.desc 16 0 14
    let hit := if !evOwned s c e then some errNotOwner
      else if leAt x.desc 24 8 ≤ (evOf s e).cnt.toNat then some 0 else none
    setSlot s t n { x with hit := hit }
  else if x.kind = 15 && decide (bitsAt x.desc 16 0 1 = 1) then
    let e := leAt x.desc 18 2
    setSlot s t n { x with chain := if evOwned s c e then some (evOf s e).cnt.toNat else none }
  else s

/-- DESCRIPTOR_ISSUE (R66): one indivisible step. -/
def effIssue (t n : Nat) (s : State) : State :=
  let tl := tileOf s t
  let x := slotOf s t n
  if decide (tl.part = .running) && canIssue tl x then
    let s := takeTokens t x.desc s
    readEvent t n (bindSeal t n (setSlot s t n { slotOf s t n with st := .executing }))
  else s

/-- A descriptor of KIND `k` has issued and its execution has not run. -/
def executes (s : State) (t n k : Nat) : Bool :=
  let x := slotOf s t n
  decide (x.st = .executing) && decide (x.kind = k) && !x.begun && decide ((tileOf s t).part = .running)

/-- The descriptor's execution has run. -/
def begin (t n : Nat) (s : State) : State := setSlot s t n { slotOf s t n with begun := true }

/-! ## MATMUL (R72, 02 R31 to R39, R462) -/

/-- Sign, magnitude and exponent of an operand, none where it is not finite (02 R29). -/
def operand (fmt x : Nat) : Option (Bool × Nat × Int) :=
  let int (n : Nat) : Option (Bool × Nat × Int) := some (decide (sextN x n < 0), (sextN x n).natAbs, 0)
  let fp (f : FpFmt) : Option (Bool × Nat × Int) :=
    match fpDec f x with
    | .fin s m e => some (s, m, e)
    | _ => none
  match fmt with
  | 0 => int 8
  | 1 => int 16
  | 2 => fp fp16
  | _ => fp bf16

/-- The class of a format (02 R32). -/
def classOf (fmt : Nat) : BitVec 2 := if fmt ≤ 1 then 0 else if fmt = 2 then 1 else 2

/-- The image of the products of one lane, and whether an operand was not finite. -/
def laneProducts (fmt : Nat) (base : Lane) (l : List (Nat × Nat)) : Lane × Bool :=
  l.foldl (fun st p =>
    match operand fmt p.1, operand fmt p.2 with
    | some a, some b => (addProduct st.1 (a.1 != b.1) (a.2.1 * b.2.1) (a.2.2 + b.2.2), st.2)
    | _, _ => (addProduct st.1 false 0 0, true)) (base, false)

/-- The fields of a MATMUL (R72). -/
structure Matmul where
  a : Nat
  b : Nat
  sa : Nat
  sb : Nat
  k : Nat
  m : Nat
  n : Nat
  row0 : Nat
  fmt : Nat
  clear : Bool
  anchor : Nat
  deriving DecidableEq, Repr

def matmulOf (d : Bytes) : Matmul :=
  { a := leAt d 16 4, b := leAt d 20 4, sa := leAt d 24 2, sb := leAt d 26 2, k := leAt d 28 2 + 1, m := byteAt d 30 + 1,
    n := byteAt d 31 + 1, row0 := byteAt d 32, fmt := bitsAt d 33 0 2, clear := decide (bitsAt d 33 2 1 = 1),
    anchor := leAt d 34 2 }

/-- The operand pairs of lane (i, j): A(i, k) and B(k, j). -/
def matmulPairs (s : State) (t : Nat) (f : Matmul) (i j : Nat) : List (Nat × Nat) :=
  let e := fmtSize f.fmt
  (List.range f.k).map (fun k =>
    (ofLe (spRead s t (f.a + i * f.sa + k * e) e), ofLe (spRead s t (f.b + k * f.sb + j * e) e)))

/-- The images of the MATMUL's own products, lane by lane; a non-finite operand marks every lane it would have written
failed (02 R31). -/
def matmulImages (s : State) (t : Nat) (f : Matmul) : List (Nat × Lane) :=
  let base := { Lane.clear with cls := classOf f.fmt, anchor := BitVec.ofNat 10 f.anchor }
  let l := (List.range f.m).flatMap (fun i => (List.range f.n).map (fun j =>
    (64 * (f.row0 + i) + j, laneProducts f.fmt base (matmulPairs s t f i j))))
  let nf := l.any (fun x => x.2.2)
  l.map (fun x => (x.1, { x.2.1 with nonfin := nf }))

/-- Lanes of a tile replaced one by one, the open fields of failed lanes free (02 R35). -/
def mergeLanes (t : Nat) (archive clear : Bool) (l : List (Nat × Lane)) (s : State) : State :=
  drawn (l.foldl (fun s x =>
    let old := if clear then Lane.clear else laneOf s t x.1
    setLane t x.1 ((addLane old x.2).open archive s.free x.1) s) s)

/-- A MATMUL in slot `n` reports the sum of its window-loss increments, and its sticky flag, set if that is nonzero (02 R38);
the tile's part sums the counts, saturating (05 R126), and keeps the flag. -/
def addLoss (t n sum : Nat) (s : State) : State :=
  let lossy := decide (sum ≠ 0)
  let s := setSlot s t n { slotOf s t n with loss := sum, lossy := lossy }
  setTile s t { tileOf s t with loss := satAdd 32 (tileOf s t).loss sum, lossy := (tileOf s t).lossy || lossy }

/-- The record of a descriptor whose lanes fail (02 R43). -/
def laneFail (t n : Nat) (st : Nat × Nat) (s : State) : State :=
  if st.1 = 0 then s
  else slotFail t n { tileRec s t (slotOf s t n) st.1 with lane := st.2 } false s

/-- MATMUL: its status is judged on the images of its own products alone (02 R462). -/
def effMatmul (t n : Nat) (s : State) : State :=
  if executes s t n 1 then
    let f := matmulOf (slotOf s t n).desc
    let arch := archiveTile s t
    let im := matmulImages s t f
    let loss := im.foldl (fun a x => satAdd 32 a x.2.lossCnt.toNat) 0
    let s := addLoss t n loss (mergeLanes t arch f.clear im s)
    slotTry t n (begin t n (laneFail t n (lanesStatus arch im) s))
  else s

/-! ## EXA-READ (R73, R74, 02 R44 to R48) -/

/-- The output format of OUTFMT 0 to 3 (R73). -/
def outFmt (f : Nat) : OutFmt := if f = 0 then .f16 else if f = 1 then .b16 else if f = 2 then .f32 else .i32

/-- One element written, and whether it overflowed or saturated (02 R46, R47). -/
def readLane (f : OutFmt) (rtz : Bool) (shift : Nat) (archive : Bool) (a : Lane) : Rounded :=
  if a.failed archive then ⟨f.nan, false⟩ else laneRead f rtz shift a

/-- The elements of an EXA-READ in row order: scratchpad offset and lane (R73). -/
def readElems (d : Bytes) : List (Nat × Nat) :=
  (List.range (byteAt d 23 + 1)).flatMap (fun i => (List.range (byteAt d 24 + 1)).map (fun j =>
    (leAt d 16 4 + i * leAt d 20 2 + j * outSize (bitsAt d 25 0 3), 64 * (byteAt d 22 + i) + j)))

/-- What an EXA-READ makes of a lane in OUTFMT 0 to 3 (02 R44 to R48). -/
def readValue (s : State) (t : Nat) (d : Bytes) (l : Nat) : Rounded :=
  readLane (outFmt (bitsAt d 25 0 3)) (decide (bitsAt d 25 3 1 = 1)) (byteAt d 26) (archiveTile s t) (laneOf s t l)

/-- The bytes an EXA-READ writes for a lane: its rounded value, or its image (R73, R74). -/
def readBytes (s : State) (t : Nat) (d : Bytes) (l : Nat) : Bytes :=
  if bitsAt d 25 0 3 = 4 then (laneOf s t l).image ++ leBytes 16 0
  else leBytes (outSize (bitsAt d 25 0 3)) (readValue s t d l).enc

/-- EXA-READ. The lanes are those of this step, a contribution that came unordered between issue and now included (02 R48), and
where rows overlap the last in ascending order stays (R73; log 69). -/
def effExaRead (t n : Nat) (s : State) : State :=
  if executes s t n 2 then
    let d := (slotOf s t n).desc
    let f := bitsAt d 25 0 3
    let lanes := readElems d
    let s1 := lanes.foldl (fun s' x => spWrite t x.1 (readBytes s t d x.2) s') s
    let novf := (lanes.filter (fun x => decide (f ≠ 4) && (readValue s t d x.2).ovf)).length
    let tl := tileOf s1 t
    let s2 := setTile s1 t (if f = 3 then { tl with rsat := satAdd 32 tl.rsat novf }
      else { tl with rovf := satAdd 32 tl.rovf novf })
    let s3 := if bitsAt d 25 4 1 = 1 then lanes.foldl (fun s' x => setLane t x.2 Lane.clear s') s2 else s2
    let st := if f = 4 then (0, 0) else lanesStatus (archiveTile s t) (lanes.map (fun x => (x.2, laneOf s t x.2)))
    slotTry t n (begin t n (laneFail t n st s3))
  else s

/-! ## VEC (R75, R76, 02 R49 to R51) -/

/-- The format of IFMT or OFMT (R75). -/
def vecFmt (f : Nat) : FpFmt := if f = 0 then fp32 else if f = 1 then fp16 else bf16

/-- The function of an operation 0x10 to 0x16 (02 R50). -/
def vecFnOf (op : Nat) : VecFn :=
  match op with
  | 0x10 => .exp
  | 0x11 => .log
  | 0x12 => .recip
  | 0x13 => .rsqrt
  | 0x14 => .tanh
  | 0x15 => .sigmoid
  | _ => .erf

/-- One output element (02 R49 to R51). -/
def vecElem (op : Nat) (o : FpFmt) (rtz : Bool) (key : Nat) (x y z : FpVal) : Nat :=
  match op with
  | 1 => fpEnc o rtz (fpAdd x y)
  | 2 => fpEnc o rtz (fpAdd x (fpNeg y))
  | 3 => fpEnc o rtz (fpMul x y)
  | 4 => fpEnc o rtz (fpAdd (fpMul x y) z)
  | 5 => fpEnc o rtz (fpMin x y)
  | 6 => fpEnc o rtz (fpMax x y)
  | 7 => fpEnc o rtz x
  | _ => vecFn o rtz (vecFnOf op) key x

/-- Format code and size of the input and output elements (R75). -/
def vecIn (d : Bytes) : Nat := bitsAt d 17 0 2
def vecOut (d : Bytes) : Nat := bitsAt d 17 2 2
/-- Elements of a VEC, and where they go. -/
def vecCount (d : Bytes) : Nat := leAt d 36 4 + 1
def vecDst (d : Bytes) : Nat := leAt d 32 4
/-- IMM replaces the second source (R75). -/
def vecImm (d : Bytes) : Bool := decide (bitsAt d 17 5 1 = 1)

/-- Element `i` of a VEC, encoded in the output format. -/
def vecElemAt (s : State) (t : Nat) (d : Bytes) (i : Nat) : Nat :=
  let op := byteAt d 16
  let rtz := decide (bitsAt d 17 4 1 = 1)
  let e := vecSize (vecIn d)
  let src (b : Nat) : Nat := ofLe (spRead s t (b + i * e) e)
  let a := src (leAt d 20 4)
  let y := if vecImm d then fpDec fp32 (leAt d 40 4) else fpDec (vecFmt (vecIn d)) (src (leAt d 24 4))
  let key := ((op * 4 + vecIn d) * 4 + vecOut d) * 2 ^ 33 + b2n rtz * 2 ^ 32 + a
  vecElem op (vecFmt (vecOut d)) rtz key (fpDec (vecFmt (vecIn d)) a) y (fpDec (vecFmt (vecIn d)) (src (leAt d 28 4)))

/-- The DST range partly overlaps the source at `b`: its results are not defined (R76). DST at the source's base with another
element size is taken as partial overlap (log 69). -/
def vecClash (d : Bytes) (b : Nat) : Bool :=
  let ei := vecSize (vecIn d)
  let eo := vecSize (vecOut d)
  decide (b < vecDst d + vecCount d * eo) && decide (vecDst d < b + vecCount d * ei) &&
    !(decide (b = vecDst d) && decide (ei = eo))

/-- A source of the VEC is partly overlapped. -/
def vecBad (d : Bytes) : Bool :=
  vecClash d (leAt d 20 4) || (!vecUnary (byteAt d 16) && !vecImm d && vecClash d (leAt d 24 4)) ||
    (decide (byteAt d 16 = 4) && vecClash d (leAt d 28 4))

/-- The bytes a VEC writes: every element is computed from the sources as they stood, so DST may equal a source base (R76);
where it partly overlaps one, each byte is free. -/
def vecBytes (s : State) (t : Nat) (d : Bytes) : Bytes :=
  let eo := vecSize (vecOut d)
  if vecBad d then (List.range (vecCount d * eo)).map (fun i => Config.openByte s.free (vecDst d + i))
  else (List.range (vecCount d)).flatMap (fun i => leBytes eo (vecElemAt s t d i))

/-- VEC. -/
def effVec (t n : Nat) (s : State) : State :=
  if executes s t n 3 then
    let d := (slotOf s t n).desc
    slotTry t n (begin t n (drawn (spWrite t (vecDst d) (vecBytes s t d) s)))
  else s

/-! ## MOVE (R77, R78, R463) -/

/-- The first address at which a row faults: unmapped, or not writable where it is written (R78, 05 R118). -/
def rowFault (s : State) (c va n : Nat) (write : Bool) : Option Nat :=
  let t := translate s c va n
  match (if write then t.1.find? (fun p => !moWritable p.mo) else none) with
  | some p => some (p.mo.va + p.off)
  | none => t.2

/-- Whether a byte of a MOVE that faults somewhere was written: not defined (R78, log 15). -/
def wasWritten (s : State) (a : Nat) : Bool := (Config.openByte s.free a).toNat.testBit 0

/-- Something a slot waits for is added. -/
def slotAwait (t n : Nat) (l : List Await) (s : State) : State :=
  setSlot s t n { slotOf s t n with waits := (slotOf s t n).waits ++ l }

/-- The host requests made since `old`. -/
def hostAwaits (old : Nat) (s : State) : List Await :=
  (List.range (s.hif.nextReq - old)).map (fun i => .host (old + i))

/-- One row of a MOVE to a virtual address: what it wrote is awaited; a sealed row that is written whole is handed to the Seal
Engine (12 R324). Where a row of the MOVE faults, each byte that is mapped may have been written (log 15). -/
def moveOut (t n r : Nat) (all : Bool) (s : State) : State :=
  let x := slotOf s t n
  let c := (tileOwner s t).getD 0
  let len := moveLen x.desc
  let b := spRead s t (moveLocal x.desc r) len
  let va := moveRemote x.desc r
  let old := s.hif.nextReq
  let use := HostUse.desc t n x.order
  if all || ((rowFault s c va len true).isNone && (List.range len).all (fun i => wasWritten s (va + i))) then
    let w := vaWrite use c va b s
    let aw := hostAwaits old w.st ++ w.mirrors.map .mir
    let s := slotAwait t n aw w.st
    match x.binds[r]? with
    | none => s
    | some bd =>
      let k := s.sealer.nextRow
      let base := leAt (tget ({} : SealSlot) s.sealer.slots bd.1).desc 8 8
      slotAwait t n [.row k] { s with
        sealer.nextRow := k + 1
        sealer.rows := s.sealer.rows ++
          [{ n := k, slot := bd.1, opening := bd.2, off := va - base, data := b, waits := aw }] }
  else
    let r := (List.range len).foldl (fun (st : State × List Await) i =>
      if wasWritten s (va + i) then
        let o := st.1.hif.nextReq
        let w := vaWrite use c (va + i) (sliceB b i 1) st.1
        (w.st, st.2 ++ hostAwaits o w.st ++ w.mirrors.map .mir)
      else st) (s, [])
    slotAwait t n r.2 r.1

/-- One row of a MOVE from a virtual address; where a row faults, each byte that is mapped may have been written (log 15). -/
def moveIn (t n r : Nat) (hr : List Host.Cell) (all : Bool) (s : State) : State :=
  let x := slotOf s t n
  let c := (tileOwner s t).getD 0
  let b := (vaRead s hr c (moveRemote x.desc r) (moveLen x.desc)).1
  let off := moveLocal x.desc r
  if all then spWrite t off b s
  else (List.range (moveLen x.desc)).foldl (fun s' i =>
    let y := vaRead s hr c (moveRemote x.desc r + i) 1
    if y.2.isNone && wasWritten s (off + i) then spWrite t (off + i) y.1 s' else s') s

/-- Each faulting row is a failure of its own with its address (R463). -/
def moveFaults (t n : Nat) (l : List Nat) (s : State) : State :=
  l.foldl (fun s a => slotFail t n { tileRec s t (slotOf s t n) errPageFault with addr := a } false s) s

/-- MOVE; `hr` are the host bytes it reads (log 6). Rows are copied whole, in ascending order, also where they overlap one
another (log 69). -/
def effMove (t n : Nat) (hr : List Host.Cell) (s : State) : State :=
  if executes s t n 4 then
    let d := (slotOf s t n).desc
    let dir := bitsAt d 16 0 2
    let rows := List.range (moveRows d)
    let c := (tileOwner s t).getD 0
    if dir = 2 then
      let u := byteAt d 17
      if decide (tileOwner s u = some c) && (!underAbseil s u || underAbseil s t) then
        slotTry t n (begin t n (rows.foldl (fun s r =>
          spWrite u (moveRemote d r) (spRead s t (moveLocal d r) (moveLen d)) s) s))
      else slotTry t n (begin t n (slotErr t n errNotOwner s))
    else
      let faults := rows.filterMap (fun r => rowFault s c (moveRemote d r) (moveLen d) (decide (dir = 0)))
      let all := faults.isEmpty
      let s' := rows.foldl (fun s r => if dir = 0 then moveOut t n r all s else moveIn t n r hr all s) s
      slotTry t n (begin t n (moveFaults t n faults (if all then s' else drawn s')))
  else s

/-! ## SEND, RECV, REDUCE (R79 to R82, 09 R225, R234) -/

/-- A transaction of the descriptor in a slot. -/
def descTxn (s : State) (t n : Nat) (c dev : Nat) (loop : Bool) (segs : List Seg) (window : Nat) : Txn :=
  let x := slotOf s t n
  { ctx := c, src := .tile t n x.order, dev := dev, loop := loop, jobId := ((jobOfTile s t).map Job.id).getD 0,
    dtag := leAt x.desc 2 2, queue := some (tileOf s t).queue, unsent := segs, window := window }

/-- The descriptor waits for its transactions. -/
def startTxns (t n : Nat) (l : List Txn) (s : State) : State :=
  l.foldl (fun s x =>
    let r := txnNew x s
    setSlot r.2 t n { slotOf r.2 t n with txns := (slotOf r.2 t n).txns ++ [r.1] }) s

/-- Bytes cut into segments of up to 4,096 decoded bytes (09 R225). The last of a COPY has LAST, and a STORE where no FENCE of the
descriptor follows (09 R227). -/
def pushSegs (h : Hdr) (b : Bytes) (fence : Bool) : List Seg :=
  let l := chunksN 4096 (ceilDiv b.length 4096) b
  l.zipIdx.map (fun x =>
    { idx := x.2, land := 0, data := (encodeSeg h.coding x.1).getD [],
      hdr := { h with dlen := x.1.length, va := h.va + 4096 * x.2, w24 := if h.ttype = 3 then x.2 else 0,
                      last := decide (x.2 + 1 = l.length) && (decide (h.ttype = 3) || !fence) } })

/-- Lane slots cut into EXA-ADD transactions of up to 64 lanes (09 R225); LAST as for a STORE. -/
def exaSegs (h : Hdr) (tile first : Nat) (b : Bytes) (fence : Bool) : List Seg :=
  let l := chunksN 4096 (ceilDiv b.length 4096) b
  l.zipIdx.map (fun x =>
    { idx := 0, land := 0, data := (encodeSeg 1 x.1).getD [],
      hdr := { h with dlen := x.1.length, va := tile + 128 * (first + 64 * x.2), lanes := x.1.length / 64 - 1,
                      last := decide (x.2 + 1 = l.length) && !fence } })

/-- The header fields a SEND or RECV gives every segment. -/
def sendHdr (s : State) (t n : Nat) : Hdr :=
  let d := (slotOf s t n).desc
  let c := (tileOwner s t).getD 0
  { coding := bitsAt d 16 0 2, order := bitsAt d 16 2 3, dstDev := byteAt d 18, srcDev := s.fab.addr.toNat,
    dstCtx := byteAt d 19, srcCtx := c, kslot := (keySlot s c (byteAt d 17)).getD 0, srcTile := t, va := leAt d 24 8 }

/-- SEND (R80). -/
def effSend (t n : Nat) (s : State) : State :=
  if executes s t n 5 then
    let d := (slotOf s t n).desc
    let c := (tileOwner s t).getD 0
    let exa := decide (bitsAt d 16 6 1 = 1)
    let b := spRead s t (leAt d 20 4) (leAt d 32 4 + 1)
    let h := sendHdr s t n
    let first := bitsAt d 24 7 12
    let fit := (encodeSeg h.coding b).isSome && (!exa || (decide (h.coding = 1) && decide (first + b.length / 64 ≤ 4096)))
    let code := issueCheck s c h.coding (byteAt d 17) h.dstDev h.order fit false
    if code ≠ 0 then slotTry t n (begin t n (slotErr t n code s))
    else
      let loop := decide (h.dstDev = s.fab.addr.toNat)
      let one (l : List Seg) : Txn := descTxn s t n c h.dstDev loop l 64
      let notify := decide (bitsAt d 16 5 1 = 1)
      let data : List Txn :=
        if exa then (exaSegs { h with ttype := 4, aop := 5 } (bitsAt d 24 0 7) first b notify).map (fun g => one [g])
        else [one (pushSegs { h with ttype := if b.length ≤ 4096 then 2 else 3 } b notify)]
      let fence : List Txn :=
        if notify then
          [one [{ idx := 0, land := 0, data := [],
                  hdr := { h with ttype := 5, coding := 0, va := 0, w24 := leAt d 36 2 + 2 ^ 16, last := true } }]]
        else []
      begin t n (startTxns t n (data ++ fence) s)
  else s

/-- The segments of a RECV: one LOAD, or a COPY pull (09 R225). -/
def pullSegs (h : Hdr) (loc len : Nat) : List Seg :=
  let k := ceilDiv len 4096
  (List.range k).map (fun i =>
    { idx := i, land := loc + 4096 * i, data := [],
      hdr := { h with dlen := min 4096 (len - 4096 * i), va := h.va + 4096 * i, w24 := if h.ttype = 3 then i else 0,
                      pull := decide (h.ttype = 3), last := decide (i + 1 = k) } })

/-- The source length rule of a coding (09 R240). -/
def lengthOk (coding len : Nat) : Bool :=
  match coding with
  | 0 => true
  | 1 => len % 64 = 0
  | 2 => len % 2 = 0
  | _ => len % 32 = 0

/-- RECV (R80). -/
def effRecv (t n : Nat) (s : State) : State :=
  if executes s t n 6 then
    let d := (slotOf s t n).desc
    let c := (tileOwner s t).getD 0
    let len := leAt d 32 4 + 1
    let h := sendHdr s t n
    let fit := lengthOk h.coding len && (decide (h.coding = 0) || decide (256 < len))
    let code := issueCheck s c h.coding (byteAt d 17) h.dstDev h.order fit false
    if code ≠ 0 then slotTry t n (begin t n (slotErr t n code s))
    else
      let loop := decide (h.dstDev = s.fab.addr.toNat)
      let segs := pullSegs { h with ttype := if len ≤ 256 then 1 else 3 } (leAt d 20 4) len
      begin t n (startTxns t n [descTxn s t n c h.dstDev loop segs 64] s)
  else s

/-- The EXA-RED segments of a contribution: one for each row of the block, whose lanes are contiguous (09 R225). -/
def redSegs (s : State) (t : Nat) (h : Hdr) (d : Bytes) : List Seg :=
  let row0 := byteAt d 18
  let m := byteAt d 19 + 1
  let n := byteAt d 20 + 1
  (List.range m).map (fun i =>
    let b := (List.range n).flatMap (fun j => (laneOf s t (64 * (row0 + i) + j)).image ++ leBytes 16 0)
    { idx := 0, land := 0, data := (encodeSeg 1 b).getD [],
      hdr := { h with ttype := 4, aop := 6, coding := 1, dlen := b.length, va := byteAt d 22 + 128 * (64 * (row0 + i)),
                      w24 := leAt d 24 2 + 2 ^ 16 * i + 2 ^ 24 * m, lanes := n - 1, last := decide (i + 1 = m) } })

/-- REDUCE (R81, R82): a contributor sends its block; a root opens its group and waits for PEERS contributions. A root whose own
issue would open a 17th group ends with ERR_REDUCE_GROUP (log 42). -/
def effReduce (t n : Nat) (s : State) : State :=
  if executes s t n 7 then
    let x := slotOf s t n
    let d := x.desc
    let c := (tileOwner s t).getD 0
    let loc := decide (bitsAt d 16 1 1 = 1)
    let order := bitsAt d 17 3 3
    if bitsAt d 16 0 1 = 1 then
      if x.redDone.isSome then s
      else
        match groupOpen (tileOf s t).groups (leAt d 24 2) with
        | none => slotTry t n (begin t n (slotErr t n errReduceGroup s))
        | some gs => setSlot (setTile s t { tileOf s t with groups := gs }) t n { x with redDone := some 0 }
    else
      let dev := if loc then s.fab.addr.toNat else byteAt d 21
      let lanes := blockLanes (byteAt d 18) (byteAt d 19 + 1) (byteAt d 20 + 1)
      let fit := lanes.all (fun l => slotFit ((laneOf s t l).image ++ leBytes 16 0))
      let code := issueCheck s c 1 (bitsAt d 17 0 3) dev order fit loc
      if code ≠ 0 then slotTry t n (begin t n (slotErr t n code s))
      else
        let h : Hdr := { order := order, dstDev := dev, srcDev := s.fab.addr.toNat, dstCtx := if loc then c else byteAt d 26,
                         srcCtx := c, kslot := (keySlot s c (bitsAt d 17 0 3)).getD 0, srcTile := t }
        let loop := loc || decide (dev = s.fab.addr.toNat)
        begin t n (startTxns t n ((redSegs s t h d).map (fun g => descTxn s t n c dev loop [g] 64)) s)
  else s

/-- The group of a root REDUCE. -/
def rootGroup (s : State) (t n : Nat) : Option RedGroup :=
  (tileOf s t).groups.find? (fun g => decide (g.group = leAt (slotOf s t n).desc 24 2))

/-- The checks of a REDUCE-DONE to device `dev` (09 R234). -/
def doneCode (s : State) (t : Nat) (x : Slot) (dev : Nat) : Nat :=
  issueCheck s ((tileOwner s t).getD 0) 0 (bitsAt x.desc 17 0 3) dev (bitsAt x.desc 17 3 3) true (decide (dev = s.fab.addr.toNat))

/-- One REDUCE-DONE to a contributing tile: sent in a transaction of the root, or recorded where it cannot be (R82, R463); the one
to the contributor `final` is the descriptor's last segment (09 R227). -/
def sendDone (t n : Nat) (st : Nat) (final : Option (Nat × Nat × Nat × Nat × Nat)) (s : State)
    (k : Nat × Nat × Nat × Nat × Nat) : State :=
  let x := slotOf s t n
  let c := (tileOwner s t).getD 0
  let order := bitsAt x.desc 17 3 3
  let code := doneCode s t x k.1
  if code ≠ 0 then raise (tileRec s t x code) s
  else
    let h : Hdr := { ttype := 4, aop := 7, order := order, dstDev := k.1, srcDev := s.fab.addr.toNat, dstCtx := k.2.1,
                     srcCtx := c, kslot := (keySlot s c (bitsAt x.desc 17 0 3)).getD 0, srcTile := t, va := k.2.2.1,
                     w24 := leAt x.desc 24 2, status := st, last := decide (final = some k) }
    let y := descTxn s t n c k.1 (decide (k.1 = s.fab.addr.toNat)) [{ idx := 0, hdr := h, data := [], land := 0 }] 64
    let r := txnNew { y with src := .root t n x.order } s
    slotAwait t n [.sent r.1] r.2

/-- REDUCE_ROOT_COMPLETE (R82): the status of the block goes to every contributor and is the root's own. Its group keeps its slot
until the root completes. -/
def effReduceRoot (t n : Nat) (s : State) : State :=
  let x := slotOf s t n
  if executes s t n 7 && decide (bitsAt x.desc 16 0 1 = 1) && x.redDone.isSome then
    match rootGroup s t n with
    | none => s
    | some g =>
      if g.complete < byteAt x.desc 23 then s
      else
        let lanes := (blockLanes (byteAt x.desc 18) (byteAt x.desc 19 + 1) (byteAt x.desc 20 + 1)).map
          (fun l => (l, laneOf s t l))
        let st := lanesStatus (archiveTile s t) lanes
        let final := (g.contribs.filter (fun k => decide (doneCode s t x k.1 = 0))).getLast?
        slotTry t n (begin t n (g.contribs.foldl (sendDone t n st.1 final) (laneFail t n st s)))
  else s

/-! ## Events and HALT (R68, R83, R84, 05 R130) -/

/-- WAIT-EVENT: completes at the first counter value from its issue on that is at least THRESHOLD (05 R130). -/
def effWaitEvent (t n : Nat) (s : State) : State :=
  if executes s t n 8 then
    match (slotOf s t n).hit with
    | some st => slotTry t n (begin t n (if st = 0 then s else slotErr t n st s))
    | none => s
  else s

/-- SIGNAL-EVENT: INCREMENT is added to the event's counter (R83). -/
def effSignalEvent (t n : Nat) (s : State) : State :=
  if executes s t n 9 then
    let x := slotOf s t n
    let e := bitsAt x.desc 16 0 14
    if !evOwned s ((tileOwner s t).getD 0) e then slotTry t n (begin t n (slotErr t n errNotOwner s))
    else slotTry t n (begin t n (evAdd e (leAt x.desc 24 8) { tileRec s t x 0 with code := 0 } s))
  else s

/-- The list of LIST[j] as the control area holds it now: its offset, or the value that breaks R65. -/
def listOf (s : State) (t j : Nat) : Nat × Option Nat :=
  let v := ofLe (spRead s t (0x3FF100 + 4 * j) 4)
  if v % 64 = 0 && v < 2 ^ 22 then (v, none) else (0, some v)

/-- HALT: ends the tile's part, or chains to LIST[v mod 4] of the value read at its issue (R68, 05 R130). -/
def effHalt (t n : Nat) (s : State) : State :=
  if executes s t n 15 then
    let x := slotOf s t n
    if bitsAt x.desc 16 0 1 = 0 then slotTry t n (begin t n s)
    else
      match x.chain with
      | none => slotTry t n (begin t n (slotErr t n errNotOwner s))
      | some v =>
        let l := listOf s t (v % 4)
        slotTry t n (begin t n (setTile s t { tileOf s t with fetch := l.1, fetchBad := l.2, halted := false }))
  else s

/-! ## Signals, tokens, credits (R87 to R91) -/

/-- Outbound entry and count of SIG `k`. -/
def sigEntry (d : Bytes) (k : Nat) : Nat := bitsAt d (8 + k) 0 5
def sigCount (d : Bytes) (k : Nat) : Nat := bitsAt d (8 + k) 5 3 + 1

/-- An older signal waits on the same entry: of an older descriptor, or a lower SIG of this one (R87). -/
def olderSignal (tl : Tile) (x : Slot) (k : Nat) : Bool :=
  x.sigs.any (fun j => decide (j < k) && decide (sigEntry x.desc j = sigEntry x.desc k)) ||
    tl.win.any (fun w => decide (w.2.st = .signalling) && decide (w.2.order < x.order) &&
      w.2.sigs.any (fun j => decide (sigEntry w.2.desc j = sigEntry x.desc k)))

/-- A signal is done with: the descriptor retires once none is left (R67). -/
def sigDone (t n k : Nat) (s : State) : State :=
  let x := slotOf s t n
  let sigs := x.sigs.filter (fun j => decide (j ≠ k))
  if sigs.isEmpty then retire t n s else setSlot s t n { x with sigs := sigs }

/-- A signal into a quadrant the context does not own is not sent: the descriptor fails with ERR_NOT_OWNER, or keeps its
status and the failure is recorded (R89, R463). -/
def sigRefused (t n k : Nat) (s : State) : State :=
  let s := slotErr t n errNotOwner s
  let x := slotOf s t n
  sigDone t n k (setTile s t { tileOf s t with fail := earliest (tileOf s t).fail x })

/-- DESCRIPTOR_SIGNAL_SEND: signal `k` of a completed descriptor takes its credits and sends its tokens (R87). -/
def effSignalSend (t n k : Nat) (s : State) : State :=
  let tl := tileOf s t
  let x := slotOf s t n
  let e := sigEntry x.desc k
  let cnt := sigCount x.desc k
  if decide (x.st = .signalling) && x.sigs.contains k && !olderSignal tl x k && decide (cnt ≤ lget 0 tl.cred e) &&
      decide (tl.part = .running) then
    let w := lget 0 tl.outb e
    let dst := bitsN w 0 7
    if tileOwner s dst ≠ tileOwner s t then sigRefused t n k s
    else
      let f : Flit := { credit := false, src := t, entry := e, dst := dst, chan := bitsN w 7 5, count := cnt,
                        ctx := (tileOwner s t).getD 0 }
      let s := setTile s t { tl with cred := lset tl.cred e (lget 0 tl.cred e - cnt) }
      sigDone t n k { s with mesh := s.mesh ++ [f] }
  else s

/-- An earlier flit from the same source to the same destination is in flight (R91). -/
def earlierFlit (s : State) (i : Nat) (f : Flit) : Bool :=
  (s.mesh.take i).any (fun g => decide (g.src = f.src) && decide (g.dst = f.dst))

/-- The record of a token that is dropped (R89). -/
def tokenRec (f : Flit) (code count : Nat) : ErrRec :=
  { code := code, src := 0, ctx := some f.ctx, unit := f.dst, count := count,
    detail := f.src + 2 ^ 7 * f.entry + 2 ^ 16 * f.chan }

/-- TOKEN_ARRIVAL (R89): the tokens that fit are added. A flit to a tile under Abseil is discarded (14 R365). -/
def effToken (i : Nat) (s : State) : State :=
  match s.mesh[i]? with
  | none => s
  | some f =>
    if f.credit || earlierFlit s i f then s
    else
      let s := { s with mesh := ldel s.mesh i }
      if underAbseil s f.dst then s
      else
        let tl := tileOf s f.dst
        let w := lget 0 tl.inb f.chan
        if !(w.testBit 31) || bitsN w 0 7 ≠ f.src || bitsN w 7 5 ≠ f.entry then raise (tokenRec f errBelaySource 0) s
        else
          let have_ := lget 0 tl.tok f.chan
          let fit := min f.count (15 - have_)
          let s := setTile s f.dst { tl with tok := lset tl.tok f.chan (have_ + fit) }
          if fit < f.count then raise (tokenRec f errBelayOverflow (f.count - fit)) s else s

/-- CREDIT_RETURN (R88): the credits of one issue come back to the source entry. The counter has 4 bits: credits above 15 are
cut, and those of an entry whose V is 0 are discarded (log 69). -/
def effCredit (i : Nat) (s : State) : State :=
  match s.mesh[i]? with
  | none => s
  | some f =>
    if !f.credit || earlierFlit s i f then s
    else
      let s := { s with mesh := ldel s.mesh i }
      if underAbseil s f.dst then s
      else
        let tl := tileOf s f.dst
        if (lget 0 tl.outb f.chan).testBit 31 then
          setTile s f.dst { tl with cred := lset tl.cred f.chan (min 15 (lget 0 tl.cred f.chan + f.count)) }
        else s

/-! ## Meanings of the commands -/

/-- DESCRIPTOR_ADMIT (03 R65). -/
def execDescriptorAdmit (t : Nat) (s : State) : Host.Outcome State Fault Refusal :=
  .next (effAdmit t s)

/-- DESCRIPTOR_ISSUE (03 R66). -/
def execDescriptorIssue (t : Nat) (n : Nat) (s : State) : Host.Outcome State Fault Refusal :=
  .next (effIssue t n s)

/-- MATMUL (03 R72). -/
def execMatmul (t : Nat) (n : Nat) (s : State) : Host.Outcome State Fault Refusal :=
  .next (effMatmul t n s)

/-- EXA_READ (02 R44). -/
def execExaRead (t : Nat) (n : Nat) (s : State) : Host.Outcome State Fault Refusal :=
  .next (effExaRead t n s)

/-- VEC (02 R49). -/
def execVec (t : Nat) (n : Nat) (s : State) : Host.Outcome State Fault Refusal :=
  .next (effVec t n s)

/-- MOVE (03 R77). -/
def execMove (t : Nat) (n : Nat) (hr : List Host.Cell) (s : State) : Host.Outcome State Fault Refusal :=
  .next (effMove t n hr s)

/-- SEND (03 R80). -/
def execSend (t : Nat) (n : Nat) (s : State) : Host.Outcome State Fault Refusal :=
  .next (effSend t n s)

/-- RECV (03 R80). -/
def execRecv (t : Nat) (n : Nat) (s : State) : Host.Outcome State Fault Refusal :=
  .next (effRecv t n s)

/-- REDUCE (03 R82). -/
def execReduce (t : Nat) (n : Nat) (s : State) : Host.Outcome State Fault Refusal :=
  .next (effReduce t n s)

/-- REDUCE_ROOT_COMPLETE (03 R82). -/
def execReduceRootComplete (t : Nat) (n : Nat) (s : State) : Host.Outcome State Fault Refusal :=
  .next (effReduceRoot t n s)

/-- WAIT_EVENT (05 R130). -/
def execWaitEvent (t : Nat) (n : Nat) (s : State) : Host.Outcome State Fault Refusal :=
  .next (effWaitEvent t n s)

/-- SIGNAL_EVENT (03 R83). -/
def execSignalEvent (t : Nat) (n : Nat) (s : State) : Host.Outcome State Fault Refusal :=
  .next (effSignalEvent t n s)

/-- HALT (03 R68). -/
def execHalt (t : Nat) (n : Nat) (s : State) : Host.Outcome State Fault Refusal :=
  .next (effHalt t n s)

/-- DESCRIPTOR_SIGNAL_SEND (03 R87). -/
def execDescriptorSignalSend (t : Nat) (n : Nat) (k : Nat) (s : State) : Host.Outcome State Fault Refusal :=
  .next (effSignalSend t n k s)

/-- TOKEN_ARRIVAL (03 R89). -/
def execTokenArrival (i : Nat) (s : State) : Host.Outcome State Fault Refusal :=
  .next (effToken i s)

/-- CREDIT_RETURN (03 R88). -/
def execCreditReturn (i : Nat) (s : State) : Host.Outcome State Fault Refusal :=
  .next (effCredit i s)

end Sys2Proof.Machine
end

