-- ==== Sys2Proof/Machine/Jobs.lean ====
section
/-!
DEFINITION. Submission entries and jobs (05 R123 to R127): NOP, RUN, SIGNAL, acquisition, scrubs, start and completion.
-/
namespace Sys2Proof.Machine

/-! ## Reading an entry (R125 steps 1 and 2) -/

def entryFields : List (Nat × Nat × Nat) :=
  [(0, 0, 8), (1, 0, 6), (2, 0, 7), (4, 0, 32), (8, 0, 48), (16, 0, 14), (24, 0, 64), (32, 0, 32)]

/-- The device reads submission entries (13 R335): P0, and no transition waits to leave it. -/
def readsEntries (s : State) : Bool := hostReady s && decide (s.pwr.cur = .p0) && s.pwr.goal.isNone

/-- The queue's next entry may be read (R125 step 1). -/
def canRead (s : State) (q : Nat) : Bool :=
  let x := queueOf s q
  readsEntries s && decide (x.st = .running) && !x.stopping && x.job.isNone && isLive s x.ctx && decide (x.head ≠ x.tail) &&
    decide ((x.cqHead + 2 ^ x.cqLog - x.cqIdx - 1) % 2 ^ x.cqLog ≠ 0)

/-- The entry at SQ_HEAD. -/
def entryAt (s : State) (hr : List Host.Cell) (q : Nat) : Bytes :=
  hostRead s hr ((queueOf s q).sqBase + 64 * (queueOf s q).head) 64

/-- The entry is consumed, and its job is the queue's. -/
def takeEntry (q : Nat) (b : Bytes) (s : State) : State :=
  let x := queueOf s q
  { setQueue (drawn s) q { x with
      head := (x.head + 1) % 2 ^ x.sqLog, job := some { entry := b, accSeq := s.obj.jobSeq, ph := .waiting } } with
    obj.jobSeq := s.obj.jobSeq + 1 }

/-- A job that fails its checks completes with ERR_JOB_INVALID, and no tile runs (R125 step 2). -/
def jobInvalid (q : Nat) (s : State) : State :=
  let x := queueOf s q
  jobTry q (endJob q errJobInvalid true
    (raise { code := errJobInvalid, src := 1, ctx := some x.ctx, unit := q,
             jobId := (x.job.map Job.id).getD 0, job := some q } s))

/-- An entry is read and handled by `act`, for the opcodes of `want`; bad Reserved fields complete it (R125 step 2). -/
def onEntry (q : Nat) (hr : List Host.Cell) (want : Nat → Bool) (act : State → State) (s : State) : State :=
  let b := entryAt s hr q
  if canRead s q && want (byteAt b 0) then
    let s := takeEntry q b s
    if onlyFields entryFields b then act s else jobInvalid q s
  else s

/-- NOP (R123): it completes at once. -/
def effNop (q : Nat) (hr : List Host.Cell) (s : State) : State :=
  onEntry q hr (fun op => decide (op = 0)) (fun s => jobTry q (endJob q 0 false s)) s

/-- SIGNAL (R123): SIGINC is added to SIGEV, once. -/
def effSignal (q : Nat) (hr : List Host.Cell) (s : State) : State :=
  onEntry q hr (fun op => decide (op = 2)) (fun s =>
    let x := queueOf s q
    match x.job with
    | none => s
    | some j =>
      let r := jobSignal q x.ctx j s
      jobTry q (endJob q r.1 false r.2)) s

/-- Fields of a Job Launch Table entry (R124). -/
def jltFields : List (Nat × Nat × Nat) := [(0, 0, 7), (1, 0, 2), (8, 0, 48), (16, 0, 48), (24, 0, 22), (28, 0, 23)]

def jltOf (b : Bytes) : Jlt :=
  { tile := byteAt b 0, start := bitsAt b 1 0 2, caVa := leAt b 8 6, bodyVa := leAt b 16 6, bodyOff := leAt b 24 4,
    bodyLen := leAt b 28 4 }

/-- The entries of a table. -/
def jltList (n : Nat) (b : Bytes) : List Jlt := (List.range n).map (fun i => jltOf (sliceB b (32 * i) 32))

/-- The checks of R125 step 2 on the table's entries. -/
def jltOk (qmask n : Nat) (b : Bytes) : Bool :=
  let l := jltList n b
  (List.range n).all (fun i => onlyFields jltFields (sliceB b (32 * i) 32)) &&
    l.all (fun e => decide (e.tile < 96) && qmask.testBit (quadOfTile e.tile) && decide (e.bodyOff + e.bodyLen ≤ 0x3FF000)) &&
    decide ((l.map (·.tile)).Nodup)

/-- A translation fault of a job's own reads completes it with ERR_PAGE_FAULT (R125 step 5, R118). -/
def jobFault (q va : Nat) (s : State) : State :=
  let x := queueOf s q
  jobTry q (endJob q errPageFault true
    (raise { code := errPageFault, src := 1, ctx := some x.ctx, unit := q, jobId := (x.job.map Job.id).getD 0, addr := va,
             job := some q } s))

/-- The checks of RUN and the reading of its table (R125 step 2): the job waits for its quadrants. -/
def runChecks (q : Nat) (hr : List Host.Cell) (s : State) : State :=
  let x := queueOf s q
  match x.job with
  | none => s
  | some j =>
    let n := bitsAt j.entry 2 0 7
    let va := leAt j.entry 8 6
    if j.qmask = 0 || n = 0 || 96 < n || va % 32 ≠ 0 then jobInvalid q s
    else
      let r := vaRead s hr x.ctx va (32 * n)
      match r.2 with
      | some a => jobFault q a s
      | none =>
        if jltOk j.qmask n r.1 then
          setQueue (drawn s) q { x with job := some { j with jlt := jltList n r.1, ph := .waiting, waited := 0 } }
        else jobInvalid q s

/-- RUN (R125): an entry of OPCODE RUN, or of a reserved OPCODE, which completes with ERR_JOB_INVALID. -/
def effRun (q : Nat) (hr : List Host.Cell) (s : State) : State :=
  onEntry q hr (fun op => decide (op ≠ 0) && decide (op ≠ 2)) (fun s =>
    match (queueOf s q).job with
    | none => s
    | some j => if j.opcode = 1 then runChecks q hr s else jobInvalid q s) s

/-! ## Acquisition (R125 steps 3 and 4) -/

/-- No Abseil keeps a job from a quadrant (14 R364), and no gating request under way switches its domain off (13 R332). -/
def quadOpen (s : State) (replay : Bool) (k : Nat) : Bool :=
  (replay || decide (s.rcv.step = 0) || !s.rcv.scope.toNat.testBit k) && !s.pwr.pend.toNat.testBit (dCQ k)

/-- A quadrant that a job may acquire: it is open to it, and no job holds it. -/
def quadFree (s : State) (replay : Bool) (k : Nat) : Bool := (quadOf s k).holder.isNone && quadOpen s replay k

/-- The job waiting for quadrants at a queue (R125 step 3). -/
def waitingJob (s : State) (q : Nat) : Option Job :=
  match (queueOf s q).job with
  | some j => if j.ph = .waiting then some j else none
  | none => none

/-- Its priority: 3 once it has waited 100 ms (R125 step 3). -/
def jobPrio (s : State) (q : Nat) (j : Job) : Nat := if 100000000 ≤ j.waited then 3 else (queueOf s q).prio

/-- The waiting job `i` of queue `p` wins over `j` of `q`: by PRIO, then by acceptance (R125 step 3). -/
def winsOver (s : State) (p : Nat) (i : Job) (q : Nat) (j : Job) : Bool :=
  decide (jobPrio s q j < jobPrio s p i) || (decide (jobPrio s p i = jobPrio s q j) && decide (i.accSeq < j.accSeq))

/-- A waiting job that wins over `j` of queue `q` wants a quadrant of its, one that is open to it (R125 step 3; log 30). -/
def outbid (s : State) (q : Nat) (j : Job) : Bool :=
  s.obj.q.any (fun e => match waitingJob s e.1 with
    | some i => winsOver s e.1 i q j && i.quads.any (fun k => j.quads.contains k && quadOpen s i.replay k)
    | none => false)

/-- The job of a queue acquires: every quadrant of its QMASK is free of other jobs, and no waiting job outbids it. -/
def canAcquire (s : State) (q : Nat) : Bool :=
  match waitingJob s q with
  | some j => j.quads.all (quadFree s j.replay) && decide (s.pwr.cur = .p0) && !outbid s q j
  | none => false

/-- The queue whose job acquires next. -/
def nextJob (s : State) : Option Nat := (s.obj.q.map (·.1)).find? (canAcquire s)

/-- QUADRANT_ACQUIRE (R125 steps 3 and 4): a QMASK with a domain off completes the job (13 R333). -/
def effQuadrantAcquire (s : State) : State :=
  match nextJob s with
  | none => s
  | some q =>
    let x := queueOf s q
    match x.job with
    | none => s
    | some j =>
      if j.quads.any (fun k => !domOn s (dCQ k)) then jobInvalid q s
      else
        let todo := j.quads.filter (fun k => match (quadOf s k).owner with
          | some c => decide (c ≠ x.ctx)
          | none => false)
        let s := each j.quads (fun k s =>
          let y := quadOf s k
          setQuad s k { y with holder := some q, since := s.now, owner := if y.owner.isNone then some x.ctx else y.owner }) s
        setQueue s q { x with job := some { j with ph := .scrubbing todo } }

/-- OWNER_CHANGE_SCRUB_DONE (11 R297): the lowest quadrant still to be scrubbed for the job of queue `q`. -/
def effScrubDone (q : Nat) (s : State) : State :=
  let x := queueOf s q
  match x.job with
  | some j =>
    match j.ph with
    | .scrubbing (k :: rest) =>
      bump 0x3014 0 1 (scrubQuad k (some x.ctx) (setQueue s q { x with job := some { j with ph := .scrubbing rest } }))
    | _ => s
  | none => s

/-! ## Start (R125 steps 5 and 6, 03 R64, R87) -/

/-- The images of a table entry: control area and body, or the address that faults. -/
def imagesFor (s : State) (hr : List Host.Cell) (c : Nat) (e : Jlt) : Except Nat (Bytes × Bytes) :=
  let ca := vaRead s hr c e.caVa 4096
  match ca.2 with
  | some a => .error a
  | none =>
    let body := vaRead s hr c e.bodyVa e.bodyLen
    match body.2 with
    | some a => .error a
    | none => .ok (ca.1, body.1)

/-- All images, in table order, up to the first fault. -/
def allImages (s : State) (hr : List Host.Cell) (c : Nat) : List Jlt → Except Nat (List (Jlt × Bytes × Bytes))
  | [] => .ok []
  | e :: r =>
    match imagesFor s hr c e with
    | .error a => .error a
    | .ok im =>
      match allImages s hr c r with
      | .error a => .error a
      | .ok l => .ok ((e, im) :: l)

/-- INIT or CRED of a valid Belay entry (03 R64, R87). -/
def beltCount (w : Nat) : Nat := if w.testBit 31 then bitsN w 12 4 else 0

/-- A tile starts its part (R125 step 6): Belay tables and list table are read, tokens and credits take INIT and CRED. -/
def startTile (q : Nat) (e : Jlt) (s : State) : State :=
  let tl := tileOf s e.tile
  let outb := (List.range 32).map (fun i => leAt (spRead s e.tile (0x3FF000 + 4 * i) 4) 0 4)
  let inb := (List.range 32).map (fun i => leAt (spRead s e.tile (0x3FF080 + 4 * i) 4) 0 4)
  let l := listOf s e.tile e.start
  setTile s e.tile { tl with
    part := .running, queue := q, fetch := l.1, fetchBad := l.2, halted := false, decFail := none, held := false, win := [],
    outb := outb, inb := inb, tok := inb.map beltCount, cred := outb.map beltCount, orderNext := 0, fail := none,
    loss := 0, lossy := false, rovf := 0, rsat := 0, prog := 0 }

/-- JOB_START (R125 steps 5 and 6): after the scrubs the images are copied and every listed tile starts. -/
def effJobStart (q : Nat) (hr : List Host.Cell) (s : State) : State :=
  let x := queueOf s q
  match x.job with
  | some j =>
    if j.ph = .scrubbing [] then
      match allImages s hr x.ctx j.jlt with
      | .error a => jobFault q a (drawn s)
      | .ok l =>
        let s := l.foldl (fun s i => spWrite i.1.tile i.1.bodyOff i.2.2 (spWrite i.1.tile 0x3FF000 i.2.1 s)) (drawn s)
        let s := j.jlt.foldl (fun s e => startTile q e s) s
        setQueue s q { x with job := some { j with ph := .running, ran := 0, tStart := some s.erq.time.toNat } }
    else s
  | none => s

/-! ## Completion (R125 step 7) -/

/-- Every listed tile's part has ended (03 R68, R85). -/
def partsEnded (s : State) (j : Job) : Bool := j.jlt.all (fun e => decide ((tileOf s e.tile).part = .ended))

/-- JOB_COMPLETE (R125 step 7, R126, R127). -/
def effJobComplete (q : Nat) (s : State) : State :=
  let x := queueOf s q
  match x.job with
  | none => s
  | some j =>
    if j.ph = .running && partsEnded s j then
      let j := gatherJob s j
      jobTry q (endJob q (tileStatus j) false (setQueue s q { x with job := some j }))
    else jobTry q s

/-! ## Meanings of the commands -/

/-- NOP (05 R123). -/
def execNop (q : Nat) (hr : List Host.Cell) (s : State) : Host.Outcome State Fault Refusal :=
  .next (effNop q hr s)

/-- RUN (05 R125). -/
def execRun (q : Nat) (hr : List Host.Cell) (s : State) : Host.Outcome State Fault Refusal :=
  .next (effRun q hr s)

/-- SIGNAL (05 R123). -/
def execSignal (q : Nat) (hr : List Host.Cell) (s : State) : Host.Outcome State Fault Refusal :=
  .next (effSignal q hr s)

/-- QUADRANT_ACQUIRE (05 R125). -/
def execQuadrantAcquire (s : State) : Host.Outcome State Fault Refusal :=
  .next (effQuadrantAcquire s)

/-- OWNER_CHANGE_SCRUB_DONE (11 R297). -/
def execOwnerChangeScrubDone (q : Nat) (s : State) : Host.Outcome State Fault Refusal :=
  .next (effScrubDone q s)

/-- JOB_START (05 R125). -/
def execJobStart (q : Nat) (hr : List Host.Cell) (s : State) : Host.Outcome State Fault Refusal :=
  .next (effJobStart q hr s)

/-- JOB_COMPLETE (05 R125). -/
def execJobComplete (q : Nat) (s : State) : Host.Outcome State Fault Refusal :=
  .next (effJobComplete q s)

end Sys2Proof.Machine
end

