-- ==== Sys2Proof/Machine/HostIf.lean ====
section
/-!
DEFINITION. Host coupling (06): page bias, landings on host memory, the Deposit Window.
-/
namespace Sys2Proof.Machine

/-! ## Page bias (R145) -/

/-- A bias change ends with a code. -/
def hbEnd (code : Nat) (s : State) : State :=
  { s with hif.hbBusy := false, hif.hbDone := true, hif.hbCode := BitVec.ofNat 16 code, hif.hbRun := none }

/-- A write is outstanding on pages [first, first + count) of an object: until the change is done every access goes under the old
bias. -/
def biasWaits (s : State) (m : MemObj) (first count : Nat) : Bool :=
  s.hif.reqs.any (fun r => rangesMeet r.addr (r.addr + r.data.length) (m.pa + 4096 * first) (m.pa + 4096 * (first + count)))

/-- HB_GO (R145, 13 R333). -/
def effHbGo (s : State) : State :=
  if !hostReady s || s.hif.hbBusy then s
  else
    let n := s.hif.hbObj.toNat
    let m := moOf s n
    let first := s.hif.hbFirst.toNat
    let count := s.hif.hbCount.toNat + 1
    if !domOn s dMEM then hbEnd errObjState s
    else if decide (m.st = .free) || decide (m.ctx ≠ s.hif.hbCtx.toNat) || !m.host ||
        decide (m.size < 4096 * (first + count)) then hbEnd errCmdInvalid s
    else { s with hif.hbBusy := true, hif.hbRun := some (n, first, count, s.hif.hbBias) }

/-- BIAS_CHANGE_DONE (R145): no access under the old bias is outstanding. An object destroyed meanwhile has no pages. -/
def effBiasDone (s : State) : State :=
  match s.hif.hbRun with
  | none => s
  | some (n, first, count, bias) =>
    let m := moOf s n
    let gone := decide (m.st = .free) || !m.host || decide (m.size < 4096 * (first + count))
    if !gone && biasWaits s m first count then s
    else
      let own := (List.range count).foldl (fun t i => tput false t (n * 2 ^ 36 + first + i) bias) s.hif.owned
      hbEnd 0 (if gone then s else { s with hif.owned := own })

/-! ## Landing (R146) -/

/-- A request leaves those outstanding. -/
def dropReq (id : Nat) (s : State) : State := { s with hif.reqs := s.hif.reqs.filter (fun r => decide (r.id ≠ id)) }

/-- An entry of the completion ring has landed (05 R113 step 2, 06 R150 case 3). -/
def completionLanded (q : Nat) (s : State) : State :=
  if (queueOf s q).st = .free then s else queueSettle q (setQueue s q { queueOf s q with landing := (queueOf s q).landing - 1 })

/-- An export has ended once every part of its image has landed (14 R369). -/
def exportTry (s : State) : State :=
  if s.rcv.exBusy && s.hif.reqs.all (fun r => decide (r.use ≠ .image)) then
    { s with rcv.exBusy := false, rcv.exDone := true }
  else s

/-- HOST_COMPLETION (R146): the write of request `id` has landed. -/
def effHostCompletion (id : Nat) (s : State) : State :=
  match s.hif.reqs.find? (fun r => decide (r.id = id)) with
  | none => s
  | some r =>
    let s := dropReq id s
    match r.use with
    | .completion q v => msixIf v (completionLanded q s)
    | .errLine => erqLanded id s
    | .eventRec v => msixIf v s
    | .desc _ _ _ => slotGot (.host id) s
    | .sealRec => slotGot (.host id) s
    | .image => exportTry s

/-! ## Snoops (R143) -/

/-- HOST_SNOOP (R143): every snoop is answered with RspIHitI. -/
def effHostSnoop (addr : Nat) (s : State) : State := if domOn s dHOST then emit (.rspIHitI addr) s else s

/-! ## Deposit entries (R151 to R153) -/

/-- The Reserved bits of DEP_ENT (R151). -/
def depRsv : Nat :=
  2 ^ 256 - 1 - fieldMask [(0, 0, 6), (1, 0, 7), (2, 0, 16), (4, 0, 16), (6, 0, 14), (8, 0, 48), (16, 0, 14), (24, 0, 64)]

/-- DEP_ENT as read. -/
def depValue (x : DepEnt) : Nat :=
  b2n x.v + 2 * b2n x.reqV + 4 * b2n x.evV + 8 * b2n x.dseen +
  16 * (match x.st with
    | .idle => 0
    | .opened => 1
    | .flagged => 2
    | .draining => 3) +
  2 ^ 8 * x.ctx.toNat + 2 ^ 16 * x.memobj.toNat + 2 ^ 32 * x.reqId.toNat + 2 ^ 48 * x.event.toNat +
  2 ^ 64 * x.objOff.toNat + 2 ^ 128 * x.pages.toNat + 2 ^ 192 * x.lastFlag.toNat

/-- The fields a write sets while V is 0. Bits [75:64] of OBJ_OFF must be 0 and are held as 0 (log 38). -/
def depSet (x : DepEnt) (v : Nat) : DepEnt :=
  { x with
    reqV := v.testBit 1, evV := v.testBit 2, ctx := BitVec.ofNat 7 (v / 2 ^ 8), memobj := BitVec.ofNat 16 (v / 2 ^ 16),
    reqId := BitVec.ofNat 16 (v / 2 ^ 32), event := BitVec.ofNat 14 (v / 2 ^ 48),
    objOff := BitVec.ofNat 48 (v / 2 ^ 76 * 2 ^ 12), pages := BitVec.ofNat 14 (v / 2 ^ 128) }

/-- Mapped bytes of an entry. -/
def DepEnt.len (x : DepEnt) : Nat := 4096 * (x.pages.toNat + 1)

/-- The checks of arming (R152); an entry leaves IDLE only by arming (R153). -/
def armOk (s : State) (x : DepEnt) : Bool :=
  let c := x.ctx.toNat
  let m := moOf s x.memobj.toNat
  decide (x.st = .idle) && (decide ((ctxOf s c).st = .live) || decide ((ctxOf s c).st = .aborted)) &&
    decide (m.st = .live) && decide (m.ctx = c) && !m.host && m.depo && m.write &&
    decide (x.objOff.toNat + x.len ≤ m.size) && (!x.evV || evOwned s c x.event.toNat)

/-- DEPOSIT_ARM (R152): a write that sets V from 0 to 1. -/
def effDepositArm (e : Nat) (w : RegWr) (s : State) : State :=
  let old := depOf s e
  let v := rwMerge w 32 (depValue old)
  if !barOn s || old.v || !v.testBit 0 then s
  else
    let x := depSet old v
    if armOk s x then setDep s e { x with v := true, st := .opened, dseen := false }
    else raise { code := errDepositRefused, src := 4, ctx := some x.ctx.toNat, unit := e, detail := v % 2 ^ 64 } (setDep s e x)

/-- DEPOSIT_DISARM (R153): a write that clears V; every other field ignores it. -/
def effDepositDisarm (e : Nat) (w : RegWr) (s : State) : State :=
  if barOn s && (depOf s e).v && !(rwMerge w 32 (depValue (depOf s e))).testBit 0 then depClear e s else s

/-- DEPOSIT_DRAIN_DONE (R153). -/
def effDepositDrained (e : Nat) (s : State) : State :=
  let x := depOf s e
  if x.st = .draining && s.hif.depWait.all (fun w => decide (w.entry ≠ e)) then setDep s e { x with st := .idle } else s

/-! ## Deposit writes and flags (R154 to R157) -/

/-- A refusal (R154): the entry's record, or one more counted while its last record waits for acceptance (log 24). -/
def depRefuse (e addr : Nat) (s : State) : State :=
  let x := depOf s e
  if s.erq.incoming.any (fun r => decide (r.code = errDepositRefused) && decide (r.src = 4) && decide (r.unit = e)) then
    setDep s e { x with refused := satAdd 32 x.refused 1 }
  else
    raise { code := errDepositRefused, src := 4, ctx := some x.ctx.toNat, unit := e, addr := addr, count := x.refused }
      (setDep s e { x with refused := 0 })

/-- The state and requester checks (R154, R155). -/
def depOpen (x : DepEnt) (req : Nat) : Bool :=
  (decide (x.st = .opened) || decide (x.st = .flagged)) && (!x.reqV || decide (x.reqId.toNat = req))

/-- DEPOSIT_WRITE (R154, R157, 05 R114, R118, 13 R333). -/
def effDepositWrite (off : Nat) (data : Bytes) (req : Nat) (poisoned : Bool) (s : State) : State :=
  if !hostReady s then s
  else
    let e := off / 0x4000000
    let o := off % 0x4000000
    let x := depOf s e
    let m := moOf s x.memobj.toNat
    if !domOn s dMEM || !depOpen x req || decide (x.len < o + data.length) || poisoned ||
        (decide (m.cls = 0) && (ctxOf s m.ctx).keyLost) then depRefuse e off s
    else if !moWritable m then
      raise { code := errPageFault, src := 4, ctx := some m.ctx, unit := e, addr := m.va + x.objOff.toNat + o } s
    else
      let r := objWrite m (x.objOff.toNat + o) data (setDep s e { x with st := .opened, dseen := true })
      if r.1.isEmpty then r.2
      else { r.2 with
        hif.depWait := r.2.hif.depWait ++ [{ id := r.2.hif.nextReq, entry := e, reqId := req, refs := r.1 }],
        hif.nextReq := r.2.hif.nextReq + 1 }

/-- DEPOSIT_FLAG (R155): accepted, it waits for its requester's earlier writes (R156). -/
def effDepositFlag (off : Nat) (data : Bytes) (req : Nat) (s : State) : State :=
  if !hostReady s then s
  else
    let e := off / 8
    let x := depOf s e
    if data.length ≠ 8 || off % 8 ≠ 0 || !depOpen x req then depRefuse e (0x320000 + off) s
    else
      { s with hif.flags := s.hif.flags ++
        [{ entry := e, value := BitVec.ofNat 64 (ofLe data),
           waits := (s.hif.depWait.filter (fun w => decide (w.reqId = req))).map (·.id) }] }

/-- DEPOSIT_FLAG_APPLY (R156): flag `i` of those accepted; flags of one entry apply in the order they came. -/
def effFlagApply (i : Nat) (s : State) : State :=
  match s.hif.flags[i]? with
  | none => s
  | some f =>
    let x := depOf s f.entry
    if s.hif.depWait.any (fun w => f.waits.contains w.id) ||
        (s.hif.flags.take i).any (fun g => decide (g.entry = f.entry)) then s
    else
      let s := { s with hif.flags := ldel s.hif.flags i }
      let s := setDep s f.entry { x with lastFlag := f.value }
      let mark : Nat → DepEnt → DepEnt := fun _ y =>
        if y.v && decide (y.ctx = x.ctx) && decide (y.memobj = x.memobj) then { y with st := .flagged, dseen := false }
        else y
      let s := { s with hif.dep := tmap {} mark s.hif.dep }
      if x.evV && evOwned s x.ctx.toNat x.event.toNat then
        evAdd x.event.toNat 1 { code := 0, src := 4, unit := f.entry } s
      else s

/-- BAR2_READ (01 R25): Unsupported Request, and no record, whenever BARs are decoded and the host link is up. -/
def effBar2Read (s : State) : State := if barOn s then emit .unsupported s else s

/-! ## Meanings of the commands -/

/-- BAR2_READ (01 R25). -/
def execBar2Read (s : State) : Host.Outcome State Fault Refusal :=
  .next (effBar2Read s)

/-- HB_GO (06 R145). -/
def execHbGo (s : State) : Host.Outcome State Fault Refusal :=
  .next (effHbGo s)

/-- BIAS_CHANGE_DONE (06 R145). -/
def execBiasChangeDone (s : State) : Host.Outcome State Fault Refusal :=
  .next (effBiasDone s)

/-- DEPOSIT_ARM (06 R152). -/
def execDepositArm (e : Nat) (w : RegWr) (s : State) : Host.Outcome State Fault Refusal :=
  if !barOn s then .next s else regWrite w 32 (effDepositArm e w) s

/-- DEPOSIT_DISARM (06 R153). -/
def execDepositDisarm (e : Nat) (w : RegWr) (s : State) : Host.Outcome State Fault Refusal :=
  if !barOn s then .next s else regWrite w 32 (effDepositDisarm e w) s

/-- DEPOSIT_DRAIN_DONE (06 R153). -/
def execDepositDrainDone (e : Nat) (s : State) : Host.Outcome State Fault Refusal :=
  .next (effDepositDrained e s)

/-- DEPOSIT_WRITE (06 R154). -/
def execDepositWrite (off : Nat) (data : Bytes) (req : Nat) (poisoned : Bool) (s : State) : Host.Outcome State Fault Refusal :=
  .next (effDepositWrite off data req poisoned s)

/-- DEPOSIT_FLAG (06 R155). -/
def execDepositFlag (off : Nat) (data : Bytes) (req : Nat) (s : State) : Host.Outcome State Fault Refusal :=
  .next (effDepositFlag off data req s)

/-- DEPOSIT_FLAG_APPLY (06 R156). -/
def execDepositFlagApply (i : Nat) (s : State) : Host.Outcome State Fault Refusal :=
  .next (effFlagApply i s)

/-- HOST_COMPLETION (06 R146). -/
def execHostCompletion (id : Nat) (s : State) : Host.Outcome State Fault Refusal :=
  .next (effHostCompletion id s)

/-- HOST_SNOOP (06 R143). -/
def execHostSnoop (addr : Nat) (s : State) : Host.Outcome State Fault Refusal :=
  .next (effHostSnoop addr s)

end Sys2Proof.Machine
end

