-- ==== Sys2Proof/Machine/Bivouac.lean ====
section
/-!
DEFINITION. Bivouac Regions (06 R158 to R168): DECLARE, RELEASE, CLAIM, DISCARD, and the seal of a region.
-/
namespace Sys2Proof.Machine

/-- A Bivouac command ends: CODE, DONE, and the secret is zeroed. -/
def bivEnd (code : Nat) (s : State) : State :=
  { s with biv.busy := false, biv.done := true, biv.code := BitVec.ofNat 16 code, biv.secret := 0 }

/-- A write of BIV_CMD starts a command; one is discarded while another runs. While MEM is off it fails (13 R333). -/
def bivCmd (act : State → State) (s : State) : State :=
  if !hostReady s || s.biv.busy then s
  else if !domOn s dMEM then bivEnd errObjState s
  else act s

/-- The key that wraps a region's context key: secret, then the region byte (11 R290). -/
def wrapKey (s : State) (r : Nat) : BitVec 256 :=
  kdf s.id.rootKey "KG9-BIV" (keyBytes s.biv.secret ++ leBytes 1 r)

/-- The mirror wrap key (11 R290). -/
def mirrorKey (s : State) (r : Nat) (pair : BitVec 256) : BitVec 256 :=
  kdf pair "KG9-MIRROR" (keyBytes s.biv.secret ++ leBytes 1 r)

/-- The SEAL of a record (R161): the Fold Word of REGION and bytes 16 to 25, then the stored bytes of each object. -/
def sealOf (s : State) (b : Bytes) : Nat :=
  crc64 (sliceB b 5 1 ++ sliceB b 16 10 ++ (recObjs b).flatMap (fun o => hbmRead s o.pa o.size))

/-! ## DECLARE and RELEASE (R158) -/

/-- The record of a region at its declaration (R158, R160). -/
def declRecord (s : State) (r c : Nat) : Bytes :=
  let k := (ctxKeyOf s c).getD 0
  let b := leBytes 4 0x52564942 ++ leBytes 1 1 ++ leBytes 1 r ++ leBytes 1 1 ++ leBytes 1 (4 * b2n (ctxOf s c).preview) ++
    leBytes 1 c ++ List.replicate 2039 0
  putB (putB b 48 (leBytes 8 (ctxOf s c).origin)) 64 (kwWrap (wrapKey s r) k)

/-- The Keyholder wraps a region's context key for the partner too, while it holds the claim secret (10 R277, 11 R291). -/
def mirrorWrap (r : Nat) (k : BitVec 256) (s : State) : State :=
  match s.kh.pairSecret with
  | some p => { s with pair.wrapped := tput [] s.pair.wrapped r (kwWrap (mirrorKey s r p) k) }
  | none => s

/-- DECLARE completes: the region is bound, and its record goes to a partner with the mirror-wrapped key (R158, 10 R277). -/
def declared (r c : Nat) (s : State) : State :=
  bivEnd 0 (regionMsg r (mirrorWrap r ((ctxKeyOf s c).getD 0) (putRec r (declRecord s r c) s)))

/-- DECLARE (R158); `dur` is the time the Keyholder takes (log 13). -/
def effDeclare (r c dur : Nat) (s : State) : State :=
  bivCmd (fun s =>
    if s.kh.dbg = 2 then bivEnd errSecureUnavailable s
    else if regState s r ≠ 0 || !isLive s c then bivEnd errObjState s
    else if !keyServes s true then bivEnd errSecureUnavailable s
    else if dur = 0 && s.kh.run.isEmpty then declared r c s
    else khQueue (.declare r c) dur { s with biv.busy := true }) s

/-- RELEASE (R158): a DECLARED region that holds no object. -/
def effRelease (r : Nat) (s : State) : State :=
  bivCmd (fun s =>
    if regState s r = 1 && (regionObjs s r).isEmpty then bivEnd 0 (regionMsg r (clearRec r s))
    else bivEnd errObjState s) s

/-- DISCARD (R168): a SEALED or DECLARED region. -/
def effDiscard (r : Nat) (s : State) : State :=
  bivCmd (fun s =>
    if regState s r ≠ 0 then bivEnd 0 (regionMsg r (clearRec r s)) else bivEnd errObjState s) s

/-! ## CLAIM (R166, R167) -/

/-- A refused claim: ERR_BIVOUAC_CLAIM with the check's number. -/
def claimFail (r c n : Nat) (s : State) : State :=
  bivEnd errBivouacClaim (raise { code := errBivouacClaim, src := 4, ctx := some c, unit := r, detail := n } s)

/-- The object slots a claim gives the objects, in OBJ order: the recorded number if FREE, else the lowest FREE (R167). -/
def claimSlots (s : State) : List RecObj → List Nat → Option (List RecObj)
  | [], _ => some []
  | o :: rest, taken =>
    let free : Nat → Bool := fun n => decide ((moOf s n).st = .free) && !taken.contains n
    let pick := if free o.num then some o.num
      else (List.range (s.obj.mo.length + taken.length + 1)).find? (fun n => decide (n < 65536) && free n)
    match pick with
    | none => none
    | some n => (claimSlots s rest (n :: taken)).map (fun l => { o with num := n } :: l)

/-- The object a record describes (R115 byte 1, R160). -/
def moOfRec (r c : Nat) (o : RecObj) : MemObj :=
  { st := .live, ctx := c, cls := BitVec.ofNat 2 o.attr, host := o.attr.testBit 2, write := o.attr.testBit 3,
    netw := o.attr.testBit 4, depo := o.attr.testBit 5, biv := o.attr.testBit 6, bivReg := r, va := o.va, pa := o.pa,
    size := o.size }

/-- Checks 1 to 4 of R167: 0, or the number of the first that fails. -/
def claimCheck (s : State) (r c : Nat) : Nat :=
  let b := recOf s r
  let objs := recObjs b
  let x := ctxOf s c
  if regState s r ≠ 2 then 1
  else if x.st ≠ .live || decide (b2n x.preview ≠ bitsAt b 7 2 1) ||
      s.obj.mo.any (fun e => decide (e.2.st ≠ .free) && decide (e.2.ctx = c) && !e.2.host && decide (e.2.cls = 0)) then 2
  else if x.claimed && decide (x.origin ≠ leAt b 48 8) then 3
  else if objs.any (fun o => vaBusy s c o.va (o.va + o.size)) || (claimSlots s objs []).isNone ||
      decide (x.ptPages < ptUsed s c + (objs.map (fun o => ptNeed s o.va o.size)).sum) then 4
  else 0

/-- The context key of a region: unwrapped under this device's wrap key, or, for a mirrored record, under the mirror wrap key
(R167 check 5, 10 R281). -/
def unwrapRegion (s : State) (r : Nat) : Option (BitVec 256) :=
  let w := sliceB (recOf s r) 64 40
  match kwUnwrap (wrapKey s r) w with
  | some k => some k
  | none => s.kh.pairSecret.bind (fun p => kwUnwrap (mirrorKey s r p) w)

/-- A claim whose checks have passed (R167). Its status record has CODE 0, and DETAIL 1 where the seal matched (log 71). -/
def claimed (r c : Nat) (k : BitVec 256) (ok : Bool) (s : State) : State :=
  let b := recOf s r
  let l := (claimSlots s (recObjs b) []).getD []
  let s := l.foldl (fun s o => setMo s o.num { moOfRec r c o with pt := ptNeed s o.va o.size }) s
  let s := setCtx (setCtxKey c (some k) s) c { ctxOf s c with origin := leAt b 48 8, claimed := true }
  let b := recWithObjs b l
  let b := putB b 6 (leBytes 1 1)
  let b := putB b 8 (leBytes 1 c)
  let b := putB b 13 (leBytes 1 0)
  let b := putB b 64 (kwWrap (wrapKey s r) k)
  let s := regionMsg r (mirrorWrap r k { putRec r b (drawn s) with pair.mirrored := s.pair.mirrored.erase r })
  bivEnd 0 (raise { code := 0, src := 4, ctx := some c, unit := r, detail := b2n ok } s)

/-- Checks 5 and 6 of R167 and what follows. -/
def claimRun (r c : Nat) (damaged : Bool) (s : State) : State :=
  match unwrapRegion s r with
  | none =>
    let n := byteAt (recOf s r) 13 + 1
    claimFail r c 5 (if 16 ≤ n then regionMsg r (clearRec r s) else putRec r (putB (recOf s r) 13 (leBytes 1 n)) s)
  | some k =>
    let ok := decide (sealOf s (recOf s r) = leAt (recOf s r) 32 8)
    if ok || damaged then claimed r c k ok s else claimFail r c 6 s

/-- CLAIM (R167); `dur` is the time the Keyholder takes (log 13). -/
def effClaim (r c : Nat) (damaged : Bool) (dur : Nat) (s : State) : State :=
  bivCmd (fun s =>
    if !keyServes s false then bivEnd errSecureUnavailable s
    else
      let n := claimCheck s r c
      if n ≠ 0 then claimFail r c n s
      else if dur = 0 && s.kh.run.isEmpty then claimRun r c damaged s
      else khQueue (.claim r c damaged) dur { s with biv.busy := true }) s

/-! ## Sealing (R160 to R162) -/

/-- A record takes its FLAGS, INC_MAP, LOSS_CAUSE and SEAL_TIME (R160, R162); `inc` holds the incomplete Deposit entries. -/
def sealPrepare (r : Nat) (cut : Bool) (inc : List Nat) (cause : Nat) (s : State) : State :=
  let b := recOf s r
  let b := putB b 7 (leBytes 1 (b2n (!inc.isEmpty) + 2 * b2n cut + 4 * bitsAt b 7 2 1))
  let b := putB b 10 (leBytes 2 inc.length ++ leBytes 1 cause)
  let b := putB b 16 (calBytes s.rtc.t)
  putRec r (putB b 128 (leBytes 512 ((inc.map (fun e => 2 ^ e)).sum))) s

/-- SEAL is computed and the region is SEALED (R161, R162). -/
def sealFinish (r : Nat) (s : State) : State :=
  let b := recOf s r
  regionMsg r (putRec r (putB (putB b 32 (leBytes 8 (sealOf s b))) 6 (leBytes 1 2)) s)

/-! ## Meanings of the commands -/

/-- DECLARE (06 R158). -/
def execDeclare (r : Nat) (c : Nat) (dur : Nat) (s : State) : Host.Outcome State Fault Refusal :=
  .next (effDeclare r c dur s)

/-- RELEASE (06 R158). -/
def execRelease (r : Nat) (s : State) : Host.Outcome State Fault Refusal :=
  .next (effRelease r s)

/-- CLAIM (06 R167). -/
def execClaim (r : Nat) (c : Nat) (damaged : Bool) (dur : Nat) (s : State) : Host.Outcome State Fault Refusal :=
  .next (effClaim r c damaged dur s)

/-- DISCARD (06 R168). -/
def execDiscard (r : Nat) (s : State) : Host.Outcome State Fault Refusal :=
  .next (effDiscard r s)

end Sys2Proof.Machine
end

