-- ==== Sys2Proof/Machine/Fec.lean ====
section
/-!
DEFINITION. The forward error correction of a Nalfa lane bundle (08 R189, R190): RS(544,514) over GF(2^10). The field polynomial
x^10 + x^3 + 1 and the roots α^0 to α^29 of the generator are those of IEEE 802.3 Clause 91 (log 75).
-/
namespace Sys2Proof.Machine

/-! ## GF(2^10) -/

/-- A field element times α. -/
def gfStep (x : Nat) : Nat := if 512 ≤ x then (2 * x) ^^^ 0x409 else 2 * x

/-- Product of two field elements, by the bits of the second from the highest. -/
def gfMul (a b : Nat) : Nat :=
  (List.range 10).foldl (fun acc i => if b.testBit (9 - i) then gfStep acc ^^^ a else gfStep acc) 0

/-- α to a power. -/
def gfAlpha : Nat → Nat
  | 0 => 1
  | n + 1 => gfStep (gfAlpha n)

/-- `n` squarings of an element multiplied up: a^2 · a^4 · … · a^(2^n). -/
def gfSquares : Nat → Nat → Nat
  | 0, _ => 1
  | n + 1, a => gfMul (gfMul a a) (gfSquares n (gfMul a a))

/-- The inverse a^(2^10 − 2) of a nonzero element. -/
def gfInv (a : Nat) : Nat := gfSquares 9 a

/-- Value of a polynomial, its coefficients from the lowest. -/
def polyAt (x : Nat) : List Nat → Nat
  | [] => 0
  | c :: r => c ^^^ gfMul x (polyAt x r)

/-- Sum of two polynomials. -/
def polyAdd : List Nat → List Nat → List Nat
  | [], b => b
  | a, [] => a
  | a :: r, b :: t => (a ^^^ b) :: polyAdd r t

/-- A polynomial times c · x^k. -/
def polyScale (c k : Nat) (p : List Nat) : List Nat := List.replicate k 0 ++ p.map (gfMul c)

/-- Product of two polynomials. -/
def polyMul (a : List Nat) : List Nat → List Nat
  | [] => []
  | c :: r => polyAdd (polyScale c 0 a) (0 :: polyMul a r)

/-- The formal derivative: the odd coefficients, each one place lower. -/
def polyDiff (p : List Nat) : List Nat := (p.drop 1).zipIdx.map (fun e => if e.2 % 2 = 0 then e.1 else 0)

/-! ## Encoding (R190) -/

def rsLen : Nat := 544
def rsMsg : Nat := 514
def rsParity : Nat := 30

/-- The generator polynomial. -/
def rsGen : List Nat := (List.range rsParity).foldl (fun g i => polyMul g [gfAlpha i, 1]) [1]

/-- The 30 parity symbols of a message: the remainder of the message times x^30, highest power first. -/
def rsRemainder (m : List Nat) : List Nat :=
  let g := rsGen.reverse.drop 1
  m.foldl (fun r c =>
    let f := c ^^^ r.headD 0
    (polyAdd (r.drop 1 ++ [0]) (g.map (gfMul f)))) (List.replicate rsParity 0)

/-- A codeword: the message and its parity. -/
def rsEncode (m : List Nat) : List Nat := m ++ rsRemainder m

/-! ## Correction (R190) -/

/-- The syndromes of a received codeword, symbol 0 of which has the highest power. -/
def rsSyndromes (c : List Nat) : List Nat := (List.range rsParity).map (fun i => polyAt (gfAlpha i) c.reverse)

/-- The search for the error locator (Berlekamp and Massey). -/
structure Locator where
  cur : List Nat := [1]
  old : List Nat := [1]
  len : Nat := 0
  gap : Nat := 1
  div : Nat := 1
  deriving DecidableEq, Repr

/-- One step on the syndromes up to number `n`. -/
def Locator.step (s : List Nat) (x : Locator) (n : Nat) : Locator :=
  let d := (List.range (x.len + 1)).foldl (fun a i => if i ≤ n then a ^^^ gfMul (lget 0 x.cur i) (lget 0 s (n - i)) else a) 0
  if d = 0 then { x with gap := x.gap + 1 }
  else
    let cur := polyAdd x.cur (polyScale (gfMul d (gfInv x.div)) x.gap x.old)
    if 2 * x.len ≤ n then { cur := cur, old := x.cur, len := n + 1 - x.len, gap := 1, div := d }
    else { x with cur := cur, gap := x.gap + 1 }

/-- The codeword with every error that a locator finds taken out. -/
def rsRepair (s : List Nat) (x : Locator) (c : List Nat) : List Nat :=
  let omega := (polyMul x.cur s).take rsParity
  c.zipIdx.map (fun e =>
    let at' := gfAlpha (rsLen - 1 - e.2)
    let inv := gfInv at'
    if polyAt inv x.cur = 0 then
      e.1 ^^^ gfMul at' (gfMul (polyAt inv omega) (gfInv (polyAt inv (polyDiff x.cur))))
    else e.1)

/-- A received codeword corrected, with the number of symbols that changed; none where more than 15 are wrong. -/
def rsDecode (c : List Nat) : Option (List Nat × Nat) :=
  let s := rsSyndromes c
  if s.all (· = 0) then some (c, 0)
  else
    let x := (List.range rsParity).foldl (Locator.step s) {}
    let r := rsRepair s x c
    let n := ((c.zip r).filter (fun e => decide (e.1 ≠ e.2))).length
    if x.len ≤ 15 && decide (n = x.len) && (rsSyndromes r).all (· = 0) then some (r, n) else none

/-! ## Blocks (R189, R190) -/

/-- 10-bit symbols of a number, the lowest first. -/
def symbolsOf : Nat → Nat → List Nat
  | 0, _ => []
  | n + 1, x => x % 1024 :: symbolsOf n (x / 1024)

/-- The number that 10-bit symbols make up. -/
def ofSymbols : List Nat → Nat
  | [] => 0
  | s :: r => s + 1024 * ofSymbols r

/-- The two codewords of a block of 1,285 bytes, sent one after the other. -/
def blockCodewords (b : Bytes) : List Nat :=
  let m := symbolsOf (2 * rsMsg) (ofLe b)
  rsEncode (m.take rsMsg) ++ rsEncode (m.drop rsMsg)

/-- The symbols each lane sends: symbol j of a codeword goes on lane j mod 4. -/
def laneSymbols (l : List Nat) : List (List Nat) :=
  (List.range 4).map (fun k => (l.zipIdx.filter (fun e => decide (e.2 % 4 = k))).map (·.1))

/-- Symbol j of codeword `k` of a block, as lane j mod 4 gives it; a symbol that a lane does not give reads 0. -/
def cwSymbols (lanes : List (List (BitVec 10))) (k : Nat) : List Nat :=
  (List.range rsLen).map (fun j => (lget 0 (lget [] lanes (j % 4)) (k * rsLen / 4 + j / 4)).toNat)

/-- What the symbols of four lanes give: the block's bytes, the symbols corrected, and which codewords could not be corrected; their
bytes stay as received. Lanes that do not line up give no codeword (log 75). -/
def blockReceived (lanes : List (List (BitVec 10))) (aligned : Bool) : Bytes × Nat × Bool × Bool :=
  let one := fun (k : Nat) =>
    match (if aligned then rsDecode (cwSymbols lanes k) else none) with
    | some r => (r.1.take rsMsg, r.2, false)
    | none => ((cwSymbols lanes k).take rsMsg, 0, true)
  let a := one 0
  let b := one 1
  (leBytes 1285 (ofSymbols (a.1 ++ b.1)), a.2.1 + b.2.1, a.2.2, b.2.2)

end Sys2Proof.Machine
end

