-- ==== Sys2Proof/Machine/Lsa.lean ====
section
/-!
DEFINITION. The device's own link-state record, the topology database and the graph (10 R255 to R262, R266).
-/
namespace Sys2Proof.Machine

/-! ## Layouts (R256, R257) -/

/-- The 88 bytes of an LSA (R257). -/
def Lsa.bytes (l : Lsa) : Bytes :=
  leBytes 8 l.uid.toNat ++ leBytes 1 l.addr.toNat ++
    leBytes 1 (b2n l.oos + 2 * b2n l.primary + 4 * b2n l.partner + 8 * b2n l.auto) ++ leBytes 2 l.lseq.toNat ++
    leBytes 4 l.adigest.toNat ++
    (List.range 8).flatMap (fun p =>
      let x := lget {} l.nbr p
      leBytes 8 x.uid.toNat ++ leBytes 1 (x.port.toNat + 8 * b2n x.up + 16 * b2n x.mirror))

def parseLsa (b : Bytes) : Lsa :=
  { uid := BitVec.ofNat 64 (leAt b 0 8), addr := BitVec.ofNat 8 (byteAt b 8), oos := decide (bitsAt b 9 0 1 = 1),
    primary := decide (bitsAt b 9 1 1 = 1), partner := decide (bitsAt b 9 2 1 = 1), auto := decide (bitsAt b 9 3 1 = 1),
    lseq := BitVec.ofNat 16 (leAt b 10 2), adigest := BitVec.ofNat 32 (leAt b 12 4),
    nbr := (List.range 8).map (fun p =>
      { uid := BitVec.ofNat 64 (leAt b (16 + 9 * p) 8), port := BitVec.ofNat 3 (byteAt b (24 + 9 * p)),
        up := decide (bitsAt b (24 + 9 * p) 3 1 = 1), mirror := decide (bitsAt b (24 + 9 * p) 4 1 = 1) }) }

/-- The payload breaks no rule of R256: VERSION, UID, Reserved bits of its header and of its LSAs. -/
def cairnOk (b : Bytes) : Bool :=
  let n := bitsAt b 4 0 2
  decide (byteAt b 0 = 1) && decide (leAt b 8 8 ≠ 0) && decide (byteAt b 1 < 16) && decide (byteAt b 3 < 4) &&
    decide (byteAt b 4 < 3) && decide (leAt b 5 3 = 0) && decide (leAt b 36 4 = 0) && decide (b.length = 40 + 88 * n) &&
    (List.range n).all (fun k =>
      let l := sliceB b (40 + 88 * k) 88
      decide ((parseLsa l).bytes = l))

/-! ## The own record and the database -/

/-- The device is bound in a pair, or its Pair Role asks for it: its Mirror Port shows MIRROR (10 R256, R273; log 27). -/
def mirrorShown (s : State) (p : Nat) : Bool :=
  (pairBound s || decide (param s 0x2420 0 ≠ 0)) && decide (p = mirrorPort s)

/-- Auto address mode (10 R264; object 0x2401). -/
def autoMode (s : State) : Bool := decide (param s 0x2401 0 = 1)

/-- The device's own LSA with a given LSEQ (10 R257). -/
def ownLsa (s : State) (lseq : BitVec 16) : Lsa :=
  { uid := s.id.uid, addr := s.fab.addr, oos := s.rcv.oos, primary := pairBound s && !s.pair.role,
    partner := pairBound s && s.pair.role, auto := autoMode s, lseq := lseq, adigest := s.fab.adigest,
    nbr := (List.range 8).map (fun p =>
      let x := portOf s p
      { uid := x.nbrUid, port := x.nbrPort, up := x.up && !isMirror s p, mirror := mirrorShown s p }) }

/-- The own LSA as advertised last; after a Cold reset, one with no neighbour and LSEQ 0 (10 R258). -/
def heldOwn (s : State) : Lsa :=
  s.fab.own.getD { uid := s.id.uid, nbr := List.replicate 8 {} }

/-- The held LSAs with the own one, ascending by UID (10 R260). -/
def lsas (s : State) : List Lsa :=
  let own := heldOwn s
  s.fab.db.filter (fun l => decide (l.uid.toNat < own.uid.toNat)) ++
    own :: s.fab.db.filter (fun l => decide (own.uid.toNat < l.uid.toNat))

/-- An LSA is queued on every UP port except `arrival` (10 R261). -/
def queueLsa (uid : Nat) (arrival : Option Nat) (s : State) : State :=
  each (List.range 8) (fun p s =>
    let x := portOf s p
    if x.up && decide (arrival ≠ some p) && !x.lsaQ.contains uid then setPort s p { x with lsaQ := x.lsaQ ++ [uid] }
    else s) s

/-- The other held LSAs that carry an address below 255. -/
def rivals (s : State) (a : Nat) : List Lsa :=
  s.fab.db.filter (fun l => decide (l.addr.toNat = a) && decide (a < 255) && decide (l.uid ≠ s.id.uid))

/-- The place of a rival at an address in the table of conflicts. -/
def dupKey (a : Nat) (l : Lsa) : Nat := a * 2 ^ 64 + l.uid.toNat

/-- Each held LSA that carries the own address, with the time since which both carry it (10 R265). -/
def dupSync (s : State) : State :=
  let a := s.fab.addr.toNat
  { s with fab.dup := (rivals s a).foldl (fun t l =>
      let old := tget 0 s.fab.dup (dupKey a l)
      tput 0 t (dupKey a l) (if old = 0 then s.now + 1 else old)) [] }

/-- The database has changed: the routing table is due, and the 200 ms of the leader start again (10 R261, R264). -/
def dbChanged (s : State) : State := dupSync { s with fab.dbAt := s.now, fab.rtDirty := true }

/-- The graph's links out of `a`: port and neighbour, where both ends show the link (10 R260). -/
def linksOf (l : List Lsa) (a : Lsa) : List (Nat × Lsa) :=
  (List.range 8).filterMap (fun p =>
    let x := lget {} a.nbr p
    if !x.up || x.mirror || x.uid = 0 then none
    else
      (l.find? (fun b => decide (b.uid = x.uid))).bind (fun b =>
        let y := lget {} b.nbr x.port.toNat
        if y.up && !y.mirror && decide (y.uid = a.uid) && decide (y.port.toNat = p) then some (p, b) else none))

/-- The UIDs connected to those of `seen` within `fuel` hops. -/
def reach (l : List Lsa) : Nat → List (BitVec 64) → List (BitVec 64)
  | 0, seen => seen
  | fuel + 1, seen =>
    reach l fuel (l.foldl (fun acc a =>
      if acc.contains a.uid then
        (linksOf l a).foldl (fun acc n => if acc.contains n.2.uid then acc else acc ++ [n.2.uid]) acc
      else acc) seen)

/-- LSAs whose origin is not connected to the device are removed, and of more than 256 those of the highest UIDs; the own one is always
held (R260). -/
def dbPrune (s : State) : State :=
  let l := lsas s
  let r := reach l l.length [s.id.uid]
  let keep := l.filter (fun x => r.contains x.uid && decide (x.uid ≠ s.id.uid))
  let db := keep.take 255
  let s := if 255 < keep.length then { s with fab.dbFull := true } else s
  if db = s.fab.db then s else dbChanged { s with fab.db := db }

/-- The own LSA follows its fields: a change raises LSEQ and is sent, and the graph changes with it (10 R257, R260, R261). -/
def lsaSync (s : State) : State :=
  let old := heldOwn s
  if ownLsa s old.lseq = old then s
  else
    let n := s.fab.lseq + 1
    dbPrune (dbChanged (queueLsa s.id.uid.toNat none { s with fab.lseq := n, fab.own := some (ownLsa s n) }))

/-- The database digest (10 R260). -/
def dbDigest (s : State) : Nat := crc32c ((lsas s).flatMap (fun l => leBytes 8 l.uid.toNat ++ leBytes 1 l.addr.toNat))

/-- A port's UP state changes (10 R259). -/
def setUp (p : Nat) (up : Bool) (s : State) : State :=
  if (portOf s p).up = up then s else lsaSync (setPort s p { portOf s p with up := up })

/-- A good Cairn frame has come within the last 50 ms (10 R259). -/
def heardLately (s : State) (x : Port) : Bool := x.heardAt.any (fun t => decide (s.now < t + 50 * msNs))

/-- A port that enters ACTIVE, REPLAY or RETRAIN is UP where it has heard a good Cairn frame lately (10 R259). -/
def upAgain (p : Nat) (s : State) : State := if heardLately s (portOf s p) then setUp p true s else s

/-- An epoch above the device's own is adopted (10 R262). -/
def adoptEpoch (e : Nat) (s : State) : State :=
  if s.fab.epoch.toNat < e then
    raise { code := errEpochChanged, src := 7, detail := e } { s with fab.epoch := BitVec.ofNat 64 e }
  else s

/-- The Device Address takes a value (10 R263 to R265). -/
def setAddr (a : Nat) (s : State) : State := lsaSync { s with fab.addr := BitVec.ofNat 8 a }

end Sys2Proof.Machine
end

