-- ==== Sys2Proof/Machine/Link.lean ====
section
/-!
DEFINITION. A Nalfa port (08 R187 to R222): FEC blocks, link frames, replay, training, on/off flow, recalibration.
-/
namespace Sys2Proof.Machine

/-- The port's power domain is on (08 R221). -/
def linkOn (s : State) (p : Nat) : Bool := decide (p < 8) && domOn s (if p < 4 then dLNKA else dLNKB)

/-- The port's reference clock runs (13 R340; log 72). -/
def linkClock (s : State) (p : Nat) : Bool := !s.pwr.clkLost.getLsbD (if p < 4 then 1 else 2)

/-- The port runs: its power domain is on, and its reference clock runs. -/
def linkRuns (s : State) (p : Nat) : Bool := linkOn s p && linkClock s p

/-! ## The link frame (R193 to R197) -/

/-- A link frame's fields (R194). -/
structure LFrame where
  ty : Nat
  vcA : Bool := false
  ackv : Bool := false
  nak : Bool := false
  seq : Nat := 0
  ack : Nat := 0
  xoffQ : Bool := false
  xoffA : Bool := false
  payload : Bytes := []
  deriving DecidableEq, Repr

/-- The 256 bytes of a frame (R193 to R195). -/
def LFrame.bytes (f : LFrame) : Bytes :=
  let b := leBytes 8 (f.ty + 16 * b2n f.vcA + 32 * b2n f.ackv + 64 * b2n f.nak + 2 ^ 8 * f.seq + 2 ^ 20 * f.ack +
      2 ^ 32 * b2n f.xoffQ + 2 ^ 33 * b2n f.xoffA + 2 ^ 40 * f.payload.length) ++ sliceB f.payload 0 240
  b ++ leBytes 8 (crc64 b)

/-- The fields of a frame's bytes. -/
def parseFrame (b : Bytes) : LFrame :=
  { ty := bitsAt b 0 0 4, vcA := decide (bitsAt b 0 4 1 = 1), ackv := decide (bitsAt b 0 5 1 = 1),
    nak := decide (bitsAt b 0 6 1 = 1), seq := bitsAt b 0 8 12, ack := bitsAt b 0 20 12,
    xoffQ := decide (bitsAt b 4 0 1 = 1), xoffA := decide (bitsAt b 4 1 1 = 1),
    payload := sliceB b 8 (min (byteAt b 5) 240) }

/-- The CRC of a frame agrees (R195). -/
def frameCrcOk (b : Bytes) : Bool := decide (crc64 (sliceB b 0 248) = leAt b 248 8)

/-- Neither a reserved TYPE, nor a Reserved bit, nor a PLEN outside its range (R196, 10 R256). -/
def frameProtoOk (b : Bytes) : Bool :=
  let ty := bitsAt b 0 0 4
  let plen := byteAt b 5
  decide (bitsAt b 0 7 1 = 0) && decide (bitsAt b 4 2 6 = 0) && decide (leAt b 6 2 = 0) &&
    (match ty with
     | 1 => decide (1 ≤ plen) && decide (plen ≤ 240)
     | 2 => decide (plen = 0)
     | 3 => decide (plen = 16)
     | 4 => decide (plen = 40 + 88 * bitsAt b 12 0 2) && decide (bitsAt b 12 0 2 ≤ 2)
     | _ => false)

/-! ## Buffers and on/off flow (R213, R215) -/

/-- DATA frames a segment of `n` bytes takes (09 R226). -/
def frameCount (n : Nat) : Nat := ceilDiv n 240

/-- DATA frames that a VC's receive buffer holds: those not consumed, and those of transit segments not yet sent (10 R271). -/
def occupancy (s : State) (p : Nat) (vcA : Bool) : Nat :=
  let x := portOf s p
  (if vcA then x.rxA.length else x.rxQ.length) +
    (s.port.map (fun y =>
      (((if vcA then y.outA else y.outQ).filter (fun e => decide (e.1 = p))).map (fun e => frameCount e.2.length)).sum +
      ((if vcA then y.txA else y.txQ).filter (fun f => decide (f.src = p))).length)).sum

def rxFrames : Nat := 3072

/-- The new value of an XOFF bit (R215). -/
def xoffNext (s : State) (p : Nat) (vcA old : Bool) : Bool :=
  let x := portOf s p
  let free := (rxFrames - occupancy s p vcA) * 256
  if free < x.h.toNat * 1024 then true
  else if (x.h.toNat + x.y.toNat) * 1024 ≤ free then false else old

/-- The bits as evaluated at a frame slot (R215). -/
def xoffEval (p : Nat) (s : State) : State :=
  let x := portOf s p
  setPort s p { x with txoffQ := xoffNext s p false x.txoffQ, txoffA := xoffNext s p true x.txoffA }

/-! ## Port states (R202 to R206) -/

def inc32b (x : BitVec 32) : BitVec 32 := BitVec.ofNat 32 (satAdd 32 x.toNat 1)

/-- What a port loses with its sequence state: replay buffer, held frames, receive buffers (R205, R211). -/
def portCleared (x : Port) : Port :=
  { x with txSeq := 0, unack := [], replayLeft := [], cover := 0, replayRun := 0, e := 0, accepted := false, errSt := false,
           nakDue := false, rxQ := [], rxA := [], txQ := [], txA := [], outQ := [], outA := [], rxoffQ := false, rxoffA := false,
           txoffQ := false, txoffA := false, inFrames := [], bcnt := none, badBlk := 0, badCw := 0, cairnIn := [],
           cairnOut := [] }

/-- The receive buffers' transit segments at the other ports are lost with them, and so are their frames there (R205, R213). -/
def dropTransit (p : Nat) (s : State) : State :=
  { s with port := s.port.map (fun (x : Port) =>
      { x with
        outQ := x.outQ.filter (fun e => decide (e.1 ≠ p)), outA := x.outA.filter (fun e => decide (e.1 ≠ p)),
        txQ := x.txQ.filter (fun f => decide (f.src ≠ p)), txA := x.txA.filter (fun f => decide (f.src ≠ p)) }) }

/-- The tags of the transactions that lose one to a port that went DOWN end, with one record per context (14 R360). -/
def endPortTags (p : Nat) (s : State) : State :=
  let ids := (s.txn.tags.filterMap (fun e => e.2.bind (fun t => if t.port = some p then some t.txn else none))).dedup
  let ctxs := (ids.filterMap (fun id => (txnOf s id).map (fun (x : Txn) => x.ctx))).dedup
  let s' := ctxs.foldl (fun a c =>
    let mine := ids.filter (fun id => decide ((txnOf s id).map (fun (x : Txn) => x.ctx) = some c))
    raise { code := errLinkDown, src := 6, ctx := some c, unit := p,
            count := (mine.map (fun id => (tagsOf s id).length)).sum } a) s
  ids.foldl (fun s id => endTxn id errLinkDown true s) s'

/-- A port leaves the states that carry frames (10 R259): it is no longer UP. -/
def portEnter (p : Nat) (st : PortSt) (s : State) : State :=
  let x := portOf s p
  let s := dropTransit p (setPort s p { portCleared x with st := st, since := s.now, fresh := true, lastDone := none })
  setUp p false s

/-- PORT_DOWN (R204, R205, 14 R360). -/
def portDown (p : Nat) (s : State) : State :=
  let s := raise { code := errLinkDown, src := 5, unit := p } (portEnter p .down s)
  { endPortTags p s with fab.rtDirty := true }

/-- Failed retrains that lie within 1 s (R204). -/
def recentFails (now : Nat) (l : List Nat) : List Nat := l.filter (fun t => decide (now ≤ t + 1000 * msNs))

/-- The INIT handshake of an attempt has not begun (R207 step 5). -/
def noInit (x : Port) : Port := { x with initRx := none, initsLeft := 2, initAt := none, inFrames := [], bcnt := none, badBlk := 0,
                                         badCw := 0 }

/-- An attempt of a retrain starts (R204): one record, one count in RETRAINS. -/
def beginAttempt (p : Nat) (s : State) : State :=
  let x := portOf s p
  raise { code := errLinkRetrain, src := 5, unit := p }
    (setPort s p { noInit x with st := .retrain, since := s.now, retrains := inc32b x.retrains, replayLeft := [] })

/-- A retrain has failed: the third within 1 s takes the port DOWN (R203, R204); else another attempt starts. -/
def retrainFailed (p : Nat) (s : State) : State :=
  let x := portOf s p
  let fails := recentFails s.now (x.fails ++ [s.now])
  let s := setPort s p { x with fails := fails, lastDone := none }
  if 3 ≤ fails.length then portDown p s else beginAttempt p s

/-- A cause for a retrain in ACTIVE or REPLAY (R202 to R204): within 10 ms of a completed one it makes that one fail. -/
def retrainTrigger (p : Nat) (s : State) : State :=
  let x := portOf s p
  if x.st = .active ∨ x.st = .replay then
    match x.lastDone with
    | some t => if s.now ≤ t + 10 * msNs then retrainFailed p s else beginAttempt p s
    | none => beginAttempt p s
  else s

/-- A cause that interrupts the INIT handshake fails a retrain's attempt (R207); full training starts again from step 1. -/
def lostSignal (p : Nat) (handshake : Bool) (s : State) : State :=
  let x := portOf s p
  if x.st = .retrain then (if handshake then retrainFailed p s else s)
  else if x.st = .training then setPort s p (noInit x)
  else retrainTrigger p s

/-- REPLAYs of one frame before a retrain (R202; a value of 0 acts as 1). -/
def replayMaxOf (x : Port) : Nat := max x.replayMax.toNat 1

/-- Replay timeout in ns (08 NLK_CTRL; 0 acts as 1). -/
def replayToNs (x : Port) : Nat := 1000 * max x.replayTo.toNat 1

/-- REPLAY_START (R201, R202): every unacknowledged frame, or a retrain at REPLAY_MAX. -/
def startReplay (p : Nat) (s : State) : State :=
  let x := portOf s p
  if replayMaxOf x ≤ x.replayRun then retrainTrigger p s
  else setPort s p { x with st := .replay, replayLeft := x.unack, cover := x.unack.length, replayRun := x.replayRun + 1,
                            replays := inc32b x.replays, ackAt := s.now }

/-- The skew between lanes that the receiver tolerates, in ns (R188). -/
def skewMax : Nat := 32

/-- FEC_BLOCK_RECEIVE (R189 to R191): the symbols of lanes 0 to 3 make the two codewords, which are corrected; the block word and five frames, of which
frames 0 to 2 have bytes in codeword 0 and frames 2 to 4 in codeword 1. -/
def effFecBlock (p : Nat) (lanes : List (List (BitVec 10))) (skew : Nat) (s : State) : State :=
  let x := portOf s p
  if !linkRuns s p || x.st = .disabled || x.st = .down then s
  else
    let (blk, corr, u0, u1) := blockReceived lanes (decide (skew ≤ skewMax))
    let bcnt := bitsAt blk 0 0 12
    let blkBad := match x.bcnt with
      | some b => decide (bcnt ≠ (b + 1) % 4096)
      | none => false
    let badBlk := if blkBad then x.badBlk + 1 else 0
    let cw0 := if u0 then x.badCw + 1 else 0
    let cw1 := if u1 then cw0 + 1 else 0
    let q := (List.range 5).map (fun i =>
      (sliceB blk (5 + 256 * i) 256, (u0 && decide (i ≤ 2)) || (u1 && decide (2 ≤ i))))
    let s := setPort s p { x with
      bcnt := some bcnt, badBlk := badBlk, badCw := cw1,
      fecCorr := BitVec.ofNat 32 (satAdd 32 x.fecCorr.toNat corr),
      fecUncorr := BitVec.ofNat 32 (satAdd 32 x.fecUncorr.toNat (b2n u0 + b2n u1)), inFrames := x.inFrames ++ q }
    if 3 ≤ badBlk || 4 ≤ cw0 || 4 ≤ cw1 then lostSignal p true s else s

/-! ## LINK_FRAME_RECEIVE (R199 to R201, R215, R216) -/

/-- An error at the receiver: the first one after an accepted frame asks for replay (R199). -/
def rxError (p : Nat) (s : State) : State :=
  let x := portOf s p
  if x.errSt then s else setPort s p { x with errSt := true, nakDue := true }

/-- ACK covers the frames up to a sequence number (R198, R202, R203). -/
def ackFrames (p : Nat) (a : Nat) (s : State) : State :=
  let x := portOf s p
  match x.unack.findIdx? (fun f => decide (f.seq = a)) with
  | none => s
  | some i =>
    let rest := x.unack.drop (i + 1)
    let cover := x.cover - (i + 1)
    setPort s p { x with
      unack := rest, cover := cover, replayRun := 0, ackAt := s.now,
      replayLeft := x.replayLeft.filter (fun f => rest.any (fun g => decide (g.seq = f.seq))),
      st := if x.st = .replay && cover = 0 then .active else x.st }

/-- A DATA frame is accepted, discarded as a duplicate, or an error (R199, R217). -/
def rxData (p : Nat) (f : LFrame) (s : State) : State :=
  let x := portOf s p
  if f.seq = x.e then
    if rxFrames ≤ occupancy s p f.vcA then rxError p (setPort s p { x with ovfDisc := inc32b x.ovfDisc })
    else
      let d : DFrame := { seq := f.seq, vcA := f.vcA, first := false, data := f.payload }
      setPort s p { x with
        e := (x.e + 1) % 4096, accepted := true, errSt := false,
        rxQ := if f.vcA then x.rxQ else x.rxQ ++ [d], rxA := if f.vcA then x.rxA ++ [d] else x.rxA }
  else if x.errSt || decide ((x.e + 4096 - f.seq) % 4096 ≤ 2048) then s
  else rxError p s

/-- A good frame in ACTIVE or REPLAY: its XOFF, ACK and NAK values and its content (R199 to R201). -/
def rxGood (p : Nat) (f : LFrame) (s : State) : State :=
  let s := setPort s p { portOf s p with rxoffQ := f.xoffQ, rxoffA := f.xoffA }
  let s := if f.ackv then ackFrames p f.ack s else s
  let s := if f.ty = 1 then rxData p f s
    else if f.ty = 4 then setPort s p { portOf s p with cairnIn := (portOf s p).cairnIn ++ [f.payload] }
    else s
  if f.nak && !(portOf s p).unack.isEmpty then startReplay p s else s

/-- A good INIT of the partner in the handshake: its PORT, FRESH and NEXT (R207, R209). -/
def rxInit (p : Nat) (f : LFrame) (s : State) : State :=
  let b := f.payload
  setPort s p { portOf s p with initRx := some (bitsAt b 1 0 3, decide (bitsAt b 2 0 1 = 1), bitsAt b 4 0 12) }

/-- LINK_FRAME_RECEIVE (R199): the oldest frame received and not yet checked. During the handshake nothing but a good INIT counts. A
Cairn frame that 10 R256 discards is ignored whole. -/
def effFrameReceive (p : Nat) (s : State) : State :=
  let x := portOf s p
  match x.inFrames with
  | [] => s
  | (b, touched) :: rest =>
    if !linkRuns s p then s
    else
      let s := setPort s p { x with inFrames := rest }
      let f := parseFrame b
      if x.st = .training ∨ x.st = .retrain then
        if !touched && frameCrcOk b && frameProtoOk b && decide (f.ty = 3) then rxInit p f s else s
      else if !(decide (x.st = .active) || decide (x.st = .replay)) then s
      else if touched then rxError p s
      else if !frameCrcOk b then
        rxError p (setPort s p { portOf s p with crcErr := inc32b x.crcErr })
      else if !frameProtoOk b || (decide (f.ty = 4) && !cairnOk f.payload) then
        setPort s p { portOf s p with protoErr := inc32b x.protoErr }
      else rxGood p f s

/-! ## LINK_FRAME_TRANSMIT (R194, R198, R201, R214, R216, 10 R255, R271) -/

/-- A block begins with its block word (R189, R191). -/
def blockStart (p : Nat) (recal : Bool) (s : State) : State :=
  let x := portOf s p
  let w := x.txBcnt + 4096 * b2n recal
  if x.txSlot = 0 then emit (.blockWord p w) (setPort s p { x with txBlock := leBytes 5 w }) else s

/-- The fifth frame ends a block, which leaves as the symbols of its two codewords on four lanes (R189, R190). -/
def blockEnd (p : Nat) (s : State) : State :=
  let x := portOf s p
  if x.txSlot = 4 then
    emit (.lanes p (laneSymbols (blockCodewords x.txBlock)))
      (setPort s p { x with txSlot := 0, txBcnt := (x.txBcnt + 1) % 4096, txBlock := [] })
  else setPort s p { x with txSlot := x.txSlot + 1 }

/-- A frame leaves with the current ACK, NAK and XOFF values (R197, R199), in its place in the block (R189). -/
def sendFrame (p ty : Nat) (vcA : Bool) (seq : Nat) (payload : Bytes) (recal : Bool) (s : State) : State :=
  let s := blockStart p recal (xoffEval p s)
  let x := portOf s p
  let f : LFrame := { ty := ty, vcA := vcA, ackv := x.accepted, nak := x.nakDue, seq := seq,
                      ack := if x.accepted then (x.e + 4095) % 4096 else 0, xoffQ := x.txoffQ, xoffA := x.txoffA,
                      payload := payload }
  blockEnd p (emit (.frame p f.bytes) (setPort s p { x with
    nakDue := false, nakAt := if x.nakDue then s.now else x.nakAt, txBlock := x.txBlock ++ f.bytes }))

/-- The next source of a segment after source `rr`: input ports in ascending order, then the local engine (10 R271). -/
def nextSource (l : List (Nat × Bytes)) (rr : Nat) : Option Nat :=
  ((List.range 9).map (fun i => (rr + 1 + i) % 9)).find? (fun k => l.any (fun e => decide (e.1 = k)))

/-- The first segment of a source, and the list without it. -/
def takeSeg (k : Nat) : List (Nat × Bytes) → Bytes × List (Nat × Bytes)
  | [] => ([], [])
  | e :: r => if e.1 = k then (e.2, r) else
      let x := takeSeg k r
      (x.1, e :: x.2)

/-- Where a VC has no frame waiting, its next whole segment is cut into frames. -/
def refill (p : Nat) (vcA : Bool) (s : State) : State :=
  let x := portOf s p
  if vcA then
    match (if x.txA.isEmpty then nextSource x.outA x.rrA else none) with
    | none => s
    | some k =>
      let t := takeSeg k x.outA
      setPort s p { x with outA := t.2, rrA := k, txA := (framesOf true t.1).map (fun f => { f with src := k }) }
  else
    match (if x.txQ.isEmpty then nextSource x.outQ x.rrQ else none) with
    | none => s
    | some k =>
      let t := takeSeg k x.outQ
      setPort s p { x with outQ := t.2, rrQ := k, txQ := (framesOf false t.1).map (fun f => { f with src := k }) }

/-- A new DATA frame leaves and joins the replay buffer (R198). -/
def sendData (p : Nat) (f : DFrame) (recal : Bool) (s : State) : State :=
  let x := portOf s p
  let g := { f with seq := x.txSeq, src := 8 }
  let s := setPort s p { x with
    txSeq := (x.txSeq + 1) % 4096, unack := x.unack ++ [g],
    ackAt := if x.unack.isEmpty then s.now else x.ackAt, replayRun := if x.unack.isEmpty then 0 else x.replayRun }
  sendFrame p 1 f.vcA g.seq f.data recal s

/-- INIT's payload (R209). -/
def initPayload (p : Nat) (x : Port) : Bytes :=
  leBytes 1 1 ++ leBytes 1 p ++ leBytes 1 (b2n x.fresh + 2 * b2n (decide (x.st = .retrain))) ++ leBytes 1 0 ++
    leBytes 2 x.e ++ leBytes 2 768 ++ leBytes 2 2048 ++ List.replicate 6 0

/-- The Cairn frame that may leave now: no two within 100 µs (10 R255). -/
def cairnDue (s : State) (x : Port) : Option Bytes :=
  if x.cairnSent = 0 ∨ x.cairnSent - 1 + 100000 ≤ s.now then x.cairnOut.head? else none

/-- A Cairn frame leaves. -/
def sendCairn (p : Nat) (c : Bytes) (recal : Bool) (s : State) : State :=
  let x := portOf s p
  sendFrame p 4 false 0 c recal (setPort s p { x with cairnOut := x.cairnOut.tail, cairnSent := s.now + 1 })

/-- The frame of one slot (R201, R214, 10 R255): replayed frames, then Cairn, then VC-A, then VC-Q, then IDLE. -/
def slotFrame (p : Nat) (recal : Bool) (s : State) : State :=
  let x := portOf s p
  match x.replayLeft with
  | f :: r => sendFrame p 1 f.vcA f.seq f.data recal (setPort s p { x with replayLeft := r })
  | [] =>
    match cairnDue s x with
    | some c => sendCairn p c recal s
    | none =>
      let room := decide (x.unack.length < 2048)
      let s := if room && !x.rxoffA then refill p true s else s
      let s := if room && !x.rxoffQ then refill p false s else s
      let x := portOf s p
      match (if room && !x.rxoffA then x.txA else []) with
      | f :: r => sendData p f recal (setPort s p { x with txA := r })
      | [] =>
        match (if room && !x.rxoffQ then x.txQ else []) with
        | f :: r => sendData p f recal (setPort s p { x with txQ := r })
        | [] => sendFrame p 2 false 0 [] recal s

/-- An INIT frame is due: every 1 µs until the partner's has come, then the two final ones (R207 step 5). -/
def initDue (s : State) (x : Port) : Bool :=
  match x.initRx with
  | some _ => decide (0 < x.initsLeft)
  | none =>
    match x.initAt with
    | some t => decide (t + 1000 ≤ s.now)
    | none => true

/-- The frame of one slot of the INIT handshake (R207): INIT where one is due, else in RETRAIN a Cairn frame (10 R255), else IDLE. -/
def initSlot (p : Nat) (s : State) : State :=
  let x := portOf s p
  if initDue s x then
    sendFrame p 3 false 0 (initPayload p x) false (setPort s p { x with
      initAt := some s.now, initsLeft := if x.initRx.isSome then x.initsLeft - 1 else x.initsLeft })
  else
    match (if x.st = .retrain then cairnDue s x else none) with
    | some c => sendCairn p c false s
    | none => sendFrame p 2 false 0 [] false s

/-- LINK_FRAME_TRANSMIT (R214): one frame slot; none during a recalibration window. -/
def effFrameTransmit (p : Nat) (s : State) : State :=
  let x := portOf s p
  if !linkRuns s p || x.recalWin.isSome then s
  else if x.st = .active ∨ x.st = .replay then slotFrame p false s
  else if x.st = .training ∨ x.st = .retrain then initSlot p s
  else s

/-- REPLAY_TIMEOUT (R199, R201): a replay at the transmitter, a NAK again at the receiver. -/
def effReplayTimeout (p : Nat) (s : State) : State :=
  let x := portOf s p
  if !linkRuns s p || !(decide (x.st = .active) || decide (x.st = .replay)) then s
  else
    let s := if x.errSt && !x.nakDue && decide (x.nakAt + replayToNs x ≤ s.now) then
        setPort s p { x with nakDue := true } else s
    if !x.unack.isEmpty && decide (x.ackAt + replayToNs x ≤ s.now) then startReplay p s else s

/-! ## Training and retraining (R202 to R212) -/

/-- LOSS_OF_SIGNAL (R202, R207); `handshake` says whether a running attempt is in its INIT handshake (R207 step 5). -/
def effLossOfSignal (p : Nat) (handshake : Bool) (s : State) : State :=
  if linkOn s p then lostSignal p handshake s else s

/-- TRAINING_PATTERNS_RECEIVED (R202, R207): the port's reference clock runs (log 72). -/
def effTrainingPatterns (p : Nat) (handshake : Bool) (s : State) : State :=
  if linkOn s p then
    lostSignal p handshake { s with pwr.clkLost := s.pwr.clkLost &&& ~~~(BitVec.ofNat 4 (if p < 4 then 2 else 4)) }
  else s

/-- A port with EN set starts training (R203). -/
def startTraining (p : Nat) (s : State) : State := setPort s p { noInit (portOf s p) with st := .training, since := s.now }

/-- EN set starts training, EN cleared disables the port (R203). -/
def setEnable (p : Nat) (en : Bool) (s : State) : State :=
  let s := setPort s p { portOf s p with en := en }
  let st := (portOf s p).st
  if en then (if st = .disabled then startTraining p s else s)
  else if st = .disabled then s
  else { portEnter p .disabled s with fab.rtDirty := true }

/-- NLK_CTRL as read. -/
def nlkCtrl (x : Port) : Nat :=
  b2n x.en + 8 * b2n x.auto + 16 * x.replayMax.toNat + 2 ^ 8 * x.replayTo.toNat

/-- A write of NLK_CTRL (08 NLK_CTRL): its fields, then TRAIN and RETRAIN in the state EN leaves. -/
def nlkWrite (p : Nat) (w : RegWr) (s : State) : State :=
  if !linkOn s p then s
  else
    let x := portOf s p
    let v := rwMerge w 4 (nlkCtrl x)
    let ones := rwOnes w 4
    let s := setPort s p { x with auto := v.testBit 3, replayMax := BitVec.ofNat 4 (v / 16),
                                  replayTo := BitVec.ofNat 12 (v / 256) }
    let s := setEnable p (v.testBit 0) s
    let y := portOf s p
    let s := if ones.testBit 1 && y.en && decide (y.st = .down) then startTraining p s else s
    if ones.testBit 2 then retrainTrigger p s else s

/-- NLK_RETRAIN (R203): a write of NLK_CTRL with RETRAIN 1. -/
def effNlkRetrain (p : Nat) (w : RegWr) (s : State) : State := if (rwOnes w 4).testBit 2 then nlkWrite p w s else s

/-- NLK_TRAIN (R203): a write of NLK_CTRL with TRAIN 1. -/
def effNlkTrain (p : Nat) (w : RegWr) (s : State) : State := if (rwOnes w 4).testBit 1 then nlkWrite p w s else s

/-- NLK_ENABLE (R203): a write of NLK_CTRL. -/
def effNlkEnable (p : Nat) (w : RegWr) (s : State) : State := nlkWrite p w s

/-- NLK_FLOW as read. -/
def nlkFlow (x : Port) : Nat := x.h.toNat + 2 ^ 16 * x.y.toNat

/-- NLK_FLOW_WRITE (R218). -/
def effNlkFlow (p : Nat) (w : RegWr) (s : State) : State :=
  if !linkOn s p then s
  else
    let x := portOf s p
    let v := rwMerge w 4 (nlkFlow x)
    let h := bitsN v 0 10
    let y := bitsN v 16 10
    if h < 16 || 768 < h + y then setPort s p { x with cfgErr := true }
    else setPort s p { x with h := BitVec.ofNat 10 h, y := BitVec.ofNat 10 y }

/-- The frames of the first unit of a buffer: what follows it where it is complete (09 R226, R464, 10 R275). -/
def unitRest (mirror : Bool) (l : List DFrame) : Option (List DFrame) :=
  let h := match l with
    | [] => Head.partialSeg
    | f :: _ => if mirror then gather (20 + leAt f.data 2 2) [] l else headOf l
  match h with
  | .partialSeg => none
  | .malformed r => some r
  | .whole _ r => some r

/-- The frames of the complete units at the head of a buffer (R210). -/
def wholeUnits (mirror : Bool) : Nat → List DFrame → List DFrame
  | 0, _ => []
  | fuel + 1, l =>
    match unitRest mirror l with
    | none => []
    | some r => l.take (l.length - r.length) ++ wholeUnits mirror fuel r

/-- Frames numbered from `n` (R210). -/
def renumber : Nat → List DFrame → List DFrame
  | _, [] => []
  | n, f :: r => { f with seq := n % 4096 } :: renumber (n + 1) r

/-- The frames of each VC from the first that begins a unit (R210). -/
def fromFirst (l : List DFrame) : List DFrame :=
  let cut := fun (vcA : Bool) => (l.filter (fun f => f.vcA = vcA)).takeWhile (fun f => !f.first)
  let nq := (cut false).length
  let na := (cut true).length
  (l.foldl (fun (a : Nat × Nat × List DFrame) f =>
    if f.vcA then (if a.2.1 < na then (a.1, a.2.1 + 1, a.2.2) else (a.1, a.2.1, a.2.2 ++ [f]))
    else (if a.1 < nq then (a.1 + 1, a.2.1, a.2.2) else (a.1, a.2.1, a.2.2 ++ [f]))) (0, 0, [])).2.2

/-- A handshake in which a side sent FRESH (R210): E is 0 at both ends; where only the partner sent it, what it lost is
dropped here, and the frames left are numbered from 0. -/
def freshPort (s : State) (p : Nat) (mine : Bool) (x : Port) : Port :=
  let m := isMirror s p
  let x := { x with e := 0, accepted := false, errSt := false, nakDue := false }
  if mine then { x with txSeq := 0, unack := [] }
  else
    let un := renumber 0 (fromFirst x.unack)
    let hasFirst := fun (vcA : Bool) => x.unack.any (fun f => f.vcA = vcA && f.first)
    let cutQ := if hasFirst false then x.txQ else x.txQ.dropWhile (fun f => !f.first)
    let cutA := if hasFirst true then x.txA else x.txA.dropWhile (fun f => !f.first)
    { x with rxQ := wholeUnits m (x.rxQ.length + 1) x.rxQ, rxA := wholeUnits m (x.rxA.length + 1) x.rxA,
             unack := un, txSeq := un.length % 4096, txQ := cutQ, txA := cutA }

/-- The partner's NEXT covers the frames below it (R210). -/
def belowNext (next : Nat) (l : List DFrame) : List DFrame :=
  l.filter (fun f => !(decide (1 ≤ (next + 4096 - f.seq) % 4096) && decide ((next + 4096 - f.seq) % 4096 ≤ 2048)))

/-- The INIT handshake has ended: both final INITs are sent, and the partner's has come (R207 step 5). -/
def initDone (x : Port) : Option (Nat × Bool × Nat) := if x.initsLeft = 0 then x.initRx else none

/-- What training found (R188, R208): none where the lanes lie in another order than straight (0) or reversed (1), or further apart
than the receiver tolerates. -/
def trainedOf (lanes : Nat) (pol : BitVec 4) (coef : List (List (BitVec 8))) (precode : BitVec 4) (skew : List Nat) : Option Trained :=
  if 2 ≤ lanes || skew.any (fun n => decide (skewMax < n)) then none
  else some { reversed := decide (lanes = 1), pol := pol, coef := coef, precode := precode, skew := skew }

/-- TRAINING_COMPLETE (R203, R207 to R210). -/
def effTrainingComplete (p : Nat) (tr : Option Trained) (s : State) : State :=
  let x := portOf s p
  if !linkRuns s p || !(decide (x.st = .training) || decide (x.st = .retrain)) then s
  else
    match tr, initDone x with
    | none, _ => if x.st = .retrain then retrainFailed p s else s
    | _, none => s
    | some tr, some (partner, fresh, next) =>
      let x := { noInit x with reversed := tr.reversed, pol := tr.pol, trained := tr, partnerPort := partner }
      let x := if x.fresh || fresh then freshPort s p x.fresh x else { x with unack := belowNext next x.unack }
      let re := decide (x.st = .retrain)
      upAgain p (setPort s p { x with
        st := if re && !x.unack.isEmpty then .replay else .active,
        replayLeft := x.unack, cover := x.unack.length, replayRun := 0, ackAt := s.now, fresh := false,
        lastDone := if re then some s.now else none })

/-- TRAINING_TIMEOUT (R203): 500 ms. -/
def effTrainingTimeout (p : Nat) (s : State) : State :=
  let x := portOf s p
  if linkRuns s p && decide (x.st = .training) && decide (x.since + 500 * msNs ≤ s.now) then portDown p s else s

/-- RETRAIN_TIMEOUT (R204): 10 ms. -/
def effRetrainTimeout (p : Nat) (s : State) : State :=
  let x := portOf s p
  if linkRuns s p && decide (x.st = .retrain) && decide (x.since + 10 * msNs ≤ s.now) then retrainFailed p s else s

/-- AUTO_TRAIN (R203): 1 s. -/
def effAutoTrain (p : Nat) (s : State) : State :=
  let x := portOf s p
  if linkRuns s p && decide (x.st = .down) && x.auto && x.en && decide (x.since + 1000 * msNs ≤ s.now) then startTraining p s
  else s

/-! ## Periodic recalibration (R219, R220) -/

/-- No DATA frame of either VC is waiting to be committed. -/
def portIdle (x : Port) : Bool := x.txQ.isEmpty && x.txA.isEmpty && x.outQ.isEmpty && x.outA.isEmpty

/-- Slots of a block filled, of one whose block word carries RECAL or of the one before it. -/
def fillBlock (p : Nat) (recal : Bool) : Nat → State → State
  | 0, s => s
  | n + 1, s => fillBlock p recal n (slotFrame p recal s)

/-- RECAL_WINDOW_START (R219, R220): the first idle moment of the period in ACTIVE, or a forced window. -/
def effRecalStart (p : Nat) (s : State) : State :=
  let x := portOf s p
  if !linkRuns s p || x.st ≠ .active || x.recalTaken || x.recalWin.isSome || !(x.recalForce || portIdle x) then s
  else
    let s := fillBlock p true 5 (fillBlock p false ((5 - x.txSlot) % 5) s)
    let y := portOf s p
    emit (.prbs p) (setPort s p { y with
      recalTaken := true, recalWin := some s.now, recalSkip := 0, recalForce := false,
      recalForced := if x.recalForce then inc32b y.recalForced else y.recalForced })

/-- RECAL_WINDOW_END (R219): 998.4 ns. -/
def effRecalEnd (p : Nat) (s : State) : State :=
  let x := portOf s p
  match x.recalWin with
  | some t => if linkRuns s p && decide (t + 999 ≤ s.now) then setPort s p { x with recalWin := none } else s
  | none => s

/-- RECAL_PERIOD_END (R220): 100 ms; after 10 consecutive skipped periods the next window is forced. -/
def effRecalPeriod (p : Nat) (s : State) : State :=
  let x := portOf s p
  if !linkRuns s p || !decide (x.recalAt + 100 * msNs ≤ s.now) then s
  else
    let skip := if x.recalTaken then x.recalSkip else min 10 (x.recalSkip + 1)
    setPort s p { x with recalAt := s.now, recalTaken := false, recalSkip := skip, recalForce := decide (10 ≤ skip) }

/-! ## Resets and power (R211, R212, R221, R222) -/

/-- A Device-Core reset at a port (R211, R222): sequence state, buffers and counters are cleared; a live port retrains with
FRESH. -/
def portCoreReset (p : Nat) (s : State) : State :=
  let x := portOf s p
  let s := setPort s p { portCleared x with
    cfgErr := false, reversed := false, pol := 0, recalSkip := 0, fecCorr := 0, fecUncorr := 0, crcErr := 0, protoErr := 0, replays := 0, retrains := 0,
    recalForced := 0, ovfDisc := 0, recalWin := none, recalForce := false }
  if x.st = .active ∨ x.st = .replay ∨ x.st = .retrain then
    beginAttempt p (setPort s p { portOf s p with fresh := true, lastDone := none })
  else s

/-- The domain of a port switches off: the port is DISABLED (R203, R212). -/
def portOff (p : Nat) (s : State) : State := { portEnter p .disabled s with fab.rtDirty := true }

/-- The domain of a port switches on: it trains where EN is set (R203, R222). -/
def portOn (p : Nat) (s : State) : State :=
  let s := setPort s p { portOf s p with st := .disabled, recalAt := s.now, recalTaken := false, recalWin := none }
  if (portOf s p).en then startTraining p s else s

/-! ## Meanings of the commands -/

/-- FEC_BLOCK_RECEIVE (08 R191). -/
def execFecBlockReceive (p : Nat) (l0 l1 l2 l3 : List (BitVec 10)) (skew : Nat) (s : State) : Host.Outcome State Fault Refusal :=
  .next (effFecBlock p [l0, l1, l2, l3] skew s)

/-- LINK_FRAME_RECEIVE (08 R199). -/
def execLinkFrameReceive (p : Nat) (s : State) : Host.Outcome State Fault Refusal :=
  .next (effFrameReceive p s)

/-- LINK_FRAME_TRANSMIT (08 R214). -/
def execLinkFrameTransmit (p : Nat) (s : State) : Host.Outcome State Fault Refusal :=
  .next (effFrameTransmit p s)

/-- REPLAY_TIMEOUT (08 R201). -/
def execReplayTimeout (p : Nat) (s : State) : Host.Outcome State Fault Refusal :=
  .next (effReplayTimeout p s)

/-- LOSS_OF_SIGNAL (08 R202). -/
def execLossOfSignal (p : Nat) (handshake : Bool) (s : State) : Host.Outcome State Fault Refusal :=
  .next (effLossOfSignal p handshake s)

/-- NLK_RETRAIN (08 R203). -/
def execNlkRetrain (p : Nat) (w : RegWr) (s : State) : Host.Outcome State Fault Refusal :=
  if !barOn s || !linkOn s p then .next s else regWrite w 4 (effNlkRetrain p w) s

/-- NLK_TRAIN (08 R203). -/
def execNlkTrain (p : Nat) (w : RegWr) (s : State) : Host.Outcome State Fault Refusal :=
  if !barOn s || !linkOn s p then .next s else regWrite w 4 (effNlkTrain p w) s

/-- NLK_ENABLE (08 R203). -/
def execNlkEnable (p : Nat) (w : RegWr) (s : State) : Host.Outcome State Fault Refusal :=
  if !barOn s || !linkOn s p then .next s else regWrite w 4 (effNlkEnable p w) s

/-- NLK_FLOW_WRITE (08 R218). -/
def execNlkFlowWrite (p : Nat) (w : RegWr) (s : State) : Host.Outcome State Fault Refusal :=
  if !barOn s || !linkOn s p then .next s else regWrite w 4 (effNlkFlow p w) s

/-- TRAINING_COMPLETE (08 R207). -/
def execTrainingComplete (p lanes : Nat) (pol : BitVec 4) (coef : List (List (BitVec 8))) (precode : BitVec 4) (skew : List Nat) (s : State) :
    Host.Outcome State Fault Refusal :=
  .next (effTrainingComplete p (trainedOf lanes pol coef precode skew) s)

/-- TRAINING_TIMEOUT (08 R203). -/
def execTrainingTimeout (p : Nat) (s : State) : Host.Outcome State Fault Refusal :=
  .next (effTrainingTimeout p s)

/-- RETRAIN_TIMEOUT (08 R204). -/
def execRetrainTimeout (p : Nat) (s : State) : Host.Outcome State Fault Refusal :=
  .next (effRetrainTimeout p s)

/-- AUTO_TRAIN (08 R203). -/
def execAutoTrain (p : Nat) (s : State) : Host.Outcome State Fault Refusal :=
  .next (effAutoTrain p s)

/-- RECAL_WINDOW_START (08 R219). -/
def execRecalWindowStart (p : Nat) (s : State) : Host.Outcome State Fault Refusal :=
  .next (effRecalStart p s)

/-- RECAL_WINDOW_END (08 R219). -/
def execRecalWindowEnd (p : Nat) (s : State) : Host.Outcome State Fault Refusal :=
  .next (effRecalEnd p s)

/-- RECAL_PERIOD_END (08 R220). -/
def execRecalPeriodEnd (p : Nat) (s : State) : Host.Outcome State Fault Refusal :=
  .next (effRecalPeriod p s)

/-- TRAINING_PATTERNS_RECEIVED (08 R202). -/
def execTrainingPatternsReceived (p : Nat) (handshake : Bool) (s : State) : Host.Outcome State Fault Refusal :=
  .next (effTrainingPatterns p handshake s)

end Sys2Proof.Machine
end

