-- ==== Sys2Proof/Machine/Fabric.lean ====
section
/-!
DEFINITION. The fabric (10 R255 to R272): Cairn frames, the database, addresses, routing tables, transit.
-/
namespace Sys2Proof.Machine

/-! ## Graph measures (R266, R267) -/

/-- One relaxation of hop distances: `d` of each LSA, and what its links allow. -/
def relax (l : List Lsa) (ok : Lsa → Lsa → Bool) (base d : List (Option Nat)) : List (Option Nat) :=
  l.zipIdx.map (fun e =>
    (linksOf l e.1).foldl (fun (best : Option Nat) n =>
      if !ok e.1 n.2 then best
      else
        match lget none d (l.findIdx (fun b => decide (b.uid = n.2.uid))) with
        | none => best
        | some k =>
          match best with
          | some b => some (min b (k + 1))
          | none => some (k + 1)) (lget none base e.2))

/-- Distances after `fuel` relaxations. -/
def distances (l : List Lsa) (ok : Lsa → Lsa → Bool) (base : List (Option Nat)) : Nat → List (Option Nat) → List (Option Nat)
  | 0, d => d
  | fuel + 1, d => distances l ok base fuel (relax l ok base d)

/-- 0 at the LSAs of UID `x`, nothing elsewhere. -/
def baseAt (l : List Lsa) (x : BitVec 64) : List (Option Nat) := l.map (fun a => if a.uid = x then some 0 else none)

/-- Each LSA's depth: hops from the lowest UID (R266). -/
def depths (l : List Lsa) : List (Option Nat) :=
  let b := baseAt l ((l.map (·.uid)).headD 0)
  distances l (fun _ _ => true) b l.length b

def depthOf (l : List Lsa) (d : List (Option Nat)) (a : Lsa) : Option Nat :=
  lget none d (l.findIdx (fun b => decide (b.uid = a.uid)))

/-- The hop from `a` to `b` is up: to a lower depth, or to a lower UID at equal depth (R266). -/
def hopUp (l : List Lsa) (d : List (Option Nat)) (a b : Lsa) : Bool :=
  match depthOf l d a, depthOf l d b with
  | some x, some y => decide (y < x) || (decide (y = x) && decide (b.uid.toNat < a.uid.toNat))
  | _, _ => false

/-- The lesser of two distances. -/
def minDist (a b : Option Nat) : Option Nat :=
  match a, b with
  | some x, some y => some (min x y)
  | some x, none => some x
  | none, y => y

/-- Ports of the device with the length of the shortest path to `x` of each kind: legal, and of down hops only. Paths do not
come back through the device (R266, R267). -/
def portPaths (s : State) (x : BitVec 64) : List (Nat × BitVec 64 × Option Nat × Option Nat) :=
  let l := lsas s
  let me := heldOwn s
  let d := depths l
  let away := fun (b : Lsa) => decide (b.uid ≠ me.uid)
  let base := baseAt l x
  let dn := distances l (fun a b => away b && !hopUp l d a b) base l.length base
  let both := (List.range l.length).map (fun i => minDist (lget none base i) (lget none dn i))
  let lg := distances l (fun a b => away b && hopUp l d a b) both l.length both
  (linksOf l me).filterMap (fun n =>
    if isMirror s n.1 then none
    else
      let i := l.findIdx (fun b => decide (b.uid = n.2.uid))
      let down := (lget none dn i).map (· + 1)
      let legal := (lget none lg i).map (· + 1)
      some (n.1, n.2.uid, if hopUp l d me n.2 then legal else down, if hopUp l d me n.2 then none else down))

/-- The lowest-numbered port of a shortest path, and its length (R267). -/
def bestPort : List (Nat × Option Nat) → Option (Nat × Nat)
  | [] => none
  | (p, some k) :: r =>
    match bestPort r with
    | some (q, j) => if k < j ∨ (k = j ∧ p < q) then some (p, k) else some (q, j)
    | none => some (p, k)
  | (_, none) :: r => bestPort r

/-- The routing entry of an address (R266, R267); the lowest UID among the LSAs that carry it (R265). -/
def computeRoute (s : State) (d : Nat) : Nat :=
  match (if d = 255 then none else (lsas s).find? (fun l => decide (l.addr.toNat = d))) with
  | none => 0x00FF0FFF
  | some x =>
    if x.uid = s.id.uid then 0x000008F8
    else
      let ps := portPaths s x.uid
      match bestPort (ps.map (fun e => (e.1, e.2.2.1))) with
      | none => 0x00FF0FFF
      | some (p, k) =>
        let nb := ((ps.find? (fun e => decide (e.1 = p))).map (fun e => e.2.1)).getD 0
        let alt := bestPort ((ps.filter (fun e => decide (e.2.1 ≠ nb))).map (fun e => (e.1, e.2.2.1)))
        let dn := bestPort (ps.map (fun e => (e.1, e.2.2.2)))
        p + 16 * ((alt.map (·.1)).getD 15) + 256 * ((dn.map (·.1)).getD 15) + 2 ^ 16 * min k 255

/-- ROUTE_RECOMPUTE (R267, R269): the computed table, or the loaded one with LOADED set; a former Mirror Port rejoins (R284). -/
def effRouteRecompute (s : State) : State :=
  if !mcAwake s || !s.fab.rtDirty then s
  else
    let s := { s with pair.leaving := none }
    let t := (List.range 255).foldl (fun t d =>
      tput 0x00FF0FFF t d
        (if s.fab.rtSource then tget 0x00FF0FFF s.fab.loaded d ||| 0x01000000
         else BitVec.ofNat 32 (computeRoute s d))) []
    { s with fab.route := t, fab.rtDirty := false }

/-- A hop out of the port is up (R266). -/
def upperPort (s : State) (p : Nat) : Bool :=
  let l := lsas s
  let me := heldOwn s
  ((linksOf l me).find? (fun n => decide (n.1 = p))).any (fun n => hopUp l (depths l) me n.2)

/-! ## Transit (R271, R272) -/

/-- TRANSIT_DROP (R272). -/
def transitDrop (dev : Nat) (s : State) : State :=
  let s := { s with fab.transitDrop := inc32b s.fab.transitDrop }
  match aggregate 3 0 1 s with
  | (some k, s) => raise { code := errUnreachable, src := 7, detail := dev, count := k } s
  | (none, s) => s

/-- TRANSIT_FORWARD (R271): the segment at the head of a port's VC buffer, where it is for another device. -/
def effTransit (p : Nat) (vcA : Bool) (s : State) : State :=
  if !linkRuns s p then s
  else
    match takeHead p vcA s with
    | .nothing => s
    | .dropped s' => s'
    | .got b s' =>
      let h := parseHdr b
      if h.dstDev = s.fab.addr.toNat && h.dstDev ≠ 255 then s
      else
        match (if h.dstDev = 255 then none else routePort s (upperPort s p) h.dstDev h.srcCtx h.order) with
        | none => transitDrop h.dstDev s'
        | some q => queueSeg q vcA p b s'

/-! ## Cairn (R255 to R261) -/

/-- The header of a Cairn payload (R256). -/
def cairnHead (s : State) (p n : Nat) : Bytes :=
  leBytes 1 1 ++ leBytes 1 (p + 8 * b2n (mirrorShown s p)) ++ leBytes 1 s.fab.addr.toNat ++
    leBytes 1 (b2n (autoMode s) + 2 * b2n s.rcv.oos) ++ leBytes 1 n ++ leBytes 3 0 ++ leBytes 8 s.id.uid.toNat ++
    leBytes 8 s.fab.epoch.toNat ++ leBytes 8 (((lsas s).map (fun l => l.uid.toNat)).headD 0) ++ leBytes 4 (dbDigest s) ++
    leBytes 4 0

/-- The next UIDs of the rotation after `rot`, ascending and round again (R261). -/
def rotation (s : State) (rot : Nat) : List Nat :=
  let u := (lsas s).map (fun l => l.uid.toNat)
  u.filter (fun x => decide (rot < x)) ++ u.filter (fun x => decide (x ≤ rot))

/-- CAIRN_SEND (R255, R261): the frame due every 10 ms, or one for a changed LSA, waits for its slot; at most one waits. -/
def effCairnSend (p : Nat) (s : State) : State :=
  let x := portOf s p
  let periodic := decide (x.cairnAt = 0) || decide (x.cairnAt - 1 + 10 * msNs ≤ s.now)
  if !linkRuns s p || !portUsable x || !x.cairnOut.isEmpty || !(periodic || !x.lsaQ.isEmpty) then s
  else
    let held := fun (u : Nat) => (lsas s).find? (fun l => decide (l.uid.toNat = u))
    let queued := x.lsaQ.filterMap held
    let first := queued.take 2
    let rot := if periodic then
        ((rotation s x.lsaRot).filter (fun u => !first.any (fun l => decide (l.uid.toNat = u)))).take (2 - first.length)
      else []
    let all := first ++ rot.filterMap held
    setPort s p { x with
      cairnOut := [cairnHead s p all.length ++ all.flatMap Lsa.bytes], cairnAt := if periodic then s.now + 1 else x.cairnAt,
      lsaQ := (queued.drop 2).map (fun l => l.uid.toNat), lsaRot := rot.getLast?.getD x.lsaRot }

/-- `a` replaces a held LSA of sequence `b` (R257). -/
def newerSeq (a b : BitVec 16) : Bool := decide (1 ≤ (a - b).toNat) && decide ((a - b).toNat ≤ 32767)

/-- OWN_LSA_SUPERSEDE (R258). -/
def ownSupersede (l : Lsa) (s : State) : State :=
  let own := heldOwn s
  if l = own || newerSeq own.lseq l.lseq then s
  else
    let n := l.lseq + 1
    queueLsa s.id.uid.toNat none { s with fab.lseq := n, fab.own := some { own with lseq := n } }

/-- LSA_ACCEPT (R257, R261): a newer LSA replaces the held one and goes out on the other UP ports. -/
def lsaAccept (p : Nat) (l : Lsa) (s : State) : State :=
  if l.uid = 0 then s
  else if l.uid = s.id.uid then ownSupersede l s
  else
    let fresh := match s.fab.db.find? (fun x => decide (x.uid = l.uid)) with
      | some old => newerSeq l.lseq old.lseq
      | none => true
    if !fresh then s
    else
      let db := s.fab.db.filter (fun x => decide (x.uid.toNat < l.uid.toNat)) ++
        l :: s.fab.db.filter (fun x => decide (l.uid.toNat < x.uid.toNat))
      dbChanged (queueLsa l.uid.toNat (some p) { s with fab.db := db })

/-- CAIRN_RECEIVE (R257 to R259, R262): the oldest good Cairn frame received on the port. -/
def effCairnReceive (p : Nat) (s : State) : State :=
  let x := portOf s p
  match x.cairnIn with
  | [] => s
  | b :: rest =>
    if !linkRuns s p then s
    else
      let s := setPort s p { x with
        cairnIn := rest, nbrUid := BitVec.ofNat 64 (leAt b 8 8), nbrPort := BitVec.ofNat 3 (byteAt b 1),
        nbrMirror := decide (bitsAt b 1 3 1 = 1),
        nbrAddr := BitVec.ofNat 8 (byteAt b 2), heardAt := some s.now, up := portUsable x }
      let s := adoptEpoch (leAt b 16 8) (lsaSync s)
      dbPrune ((List.range (bitsAt b 4 0 2)).foldl (fun s k => lsaAccept p (parseLsa (sliceB b (40 + 88 * k) 88)) s) s)

/-- CAIRN_TIMEOUT (R259): 50 ms without a good Cairn frame. -/
def effCairnTimeout (p : Nat) (s : State) : State :=
  match (portOf s p).heardAt with
  | some t => if t + 50 * msNs ≤ s.now then setUp p false s else s
  | none => s

/-! ## Addresses (R263 to R265) -/

/-- The assignment every auto-mode device computes (R264): UIDs with addresses. -/
def assignment (l : List Lsa) : List (BitVec 64 × Nat) :=
  let sole := fun (a : Lsa) => decide (a.addr ≠ 255) && l.all (fun b => decide (b.uid = a.uid) || decide (b.addr ≠ a.addr))
  let kept := l.filter (fun a => a.auto && sole a)
  let taken := (l.filter (fun a => !a.auto && decide (a.addr ≠ 255))).map (fun a => a.addr.toNat) ++
    kept.map (fun a => a.addr.toNat)
  let free := (List.range 255).filter (fun d => !taken.contains d)
  let rest := l.filter (fun a => a.auto && !sole a)
  kept.map (fun a => (a.uid, a.addr.toNat)) ++
    rest.zipIdx.map (fun e => (e.1.uid, lget 255 free e.2))

/-- ADDRESS_ASSIGN (R264): the leader confirms its database, and a device holding the leader's confirmation takes its own
result. -/
def effAddressAssign (s : State) : State :=
  if !mcAwake s then s
  else if !autoMode s then (if s.fab.adigest = 0 then s else lsaSync { s with fab.adigest := 0 })
  else
    let l := lsas s
    match l.find? (fun a => a.auto) with
    | none => s
    | some lead =>
      let dg := dbDigest s
      let adopt := fun (s : State) =>
        match (assignment (lsas s)).find? (fun e => decide (e.1 = s.id.uid)) with
        | some e => setAddr e.2 s
        | none => s
      if lead.uid = s.id.uid then
        if s.fab.dbAt + 200 * msNs ≤ s.now && s.fab.adigest.toNat ≠ dg then
          adopt (adoptEpoch (s.fab.epoch.toNat + 1) (lsaSync { s with fab.adigest := BitVec.ofNat 32 dg }))
        else s
      else
        let s := if s.fab.adigest = 0 then s else lsaSync { s with fab.adigest := 0 }
        if lead.adigest.toNat = dg then adopt s else s

/-- A device of a pair stands down (R282): its contexts end, its address goes, it is STOOD_DOWN. -/
def standDown (s : State) : State :=
  let cs := tkeys (fun c (x : Ctx) => decide (x.st = .live) && (!s.pair.role || !s.pair.before.contains c)) s.obj.ctx
  let s := each cs (fun c s => ctxAbort c errCtxAborted s) s
  let s := { s with pair.st := .stoodDown }
  setAddr (if s.pair.role then s.pair.formerAddr.toNat else 255) s

/-- An address conflict that has been settled is recorded once: its start is put out of reach. -/
def settled : Nat := 2 ^ 64

/-- ADDRESS_CONFLICT (R265, R282): each held LSA that has carried the device's own address for 100 ms is recorded once; the device
gives the address up, or stands down, where one of them has the lower UID. -/
def effAddressConflict (s : State) : State :=
  let a := s.fab.addr.toNat
  let due := (rivals s a).filter (fun l =>
    let t := tget 0 s.fab.dup (dupKey a l)
    decide (t ≠ 0) && decide (t - 1 + 100 * msNs ≤ s.now))
  let s := due.foldl (fun s l =>
    raise { code := errAddressConflict, src := 7, detail := l.uid.toNat }
      { s with fab.dup := tput 0 s.fab.dup (dupKey a l) settled }) s
  let above := due.filter (fun l => decide (l.uid.toNat < s.id.uid.toNat))
  if above.isEmpty then s
  else if pairBound s && above.any (fun l => decide (l.uid.toNat = param s 0x2422 0)) then standDown s
  else setAddr 255 s

/-- A loaded table is refused (R269). -/
def loadedBad (s : State) (b : Bytes) : Bool :=
  let bad := fun (d : Nat) =>
    let e := leAt b (4 * d) 4
    let f := fun (lo : Nat) => bitsN e lo 4
    let hole := fun (x : Nat) => decide (9 ≤ x) && decide (x ≤ 14)
    let mir := fun (x : Nat) => decide (x = mirrorPort s) && (pairBound s || decide (param s 0x2420 0 ≠ 0))
    hole (f 0) || hole (f 4) || hole (f 8) || decide (f 4 = 8) || mir (f 0) || mir (f 4) || mir (f 8) ||
      decide (bitsN e 12 4 ≠ 0) || decide (bitsN e 24 8 ≠ 0) ||
      (decide (d = s.fab.addr.toNat) && decide (d ≠ 255) && (decide (f 0 ≠ 8) || decide (f 8 ≠ 8))) ||
      (decide (d = 255) && decide (e ≠ 0x00FF0FFF))
  (List.range 256).any bad || decide (b.length ≠ 1024)

/-- LOADED_ROUTING_TABLE (R269): the status, and the table loaded; it is in force where Routing Source is 1. -/
def loadTable (b : Bytes) (s : State) : Nat × State :=
  if loadedBad s b then (errDictAccess, s)
  else
    (0, { s with
      fab.loaded := (List.range 255).foldl (fun t d => tput 0x00FF0FFF t d (BitVec.ofNat 32 (leAt b (4 * d) 4))) [],
      fab.rtDirty := true })

/-! ## Meanings of the commands -/

/-- TRANSIT_FORWARD (10 R271). -/
def execTransitForward (p : Nat) (vcA : Bool) (s : State) : Host.Outcome State Fault Refusal :=
  .next (effTransit p vcA s)

/-- CAIRN_SEND (10 R255). -/
def execCairnSend (p : Nat) (s : State) : Host.Outcome State Fault Refusal :=
  .next (effCairnSend p s)

/-- CAIRN_RECEIVE (10 R256). -/
def execCairnReceive (p : Nat) (s : State) : Host.Outcome State Fault Refusal :=
  .next (effCairnReceive p s)

/-- CAIRN_TIMEOUT (10 R259). -/
def execCairnTimeout (p : Nat) (s : State) : Host.Outcome State Fault Refusal :=
  .next (effCairnTimeout p s)

/-- ROUTE_RECOMPUTE (10 R267). -/
def execRouteRecompute (s : State) : Host.Outcome State Fault Refusal :=
  .next (effRouteRecompute s)

/-- ADDRESS_ASSIGN (10 R264). -/
def execAddressAssign (s : State) : Host.Outcome State Fault Refusal :=
  .next (effAddressAssign s)

/-- ADDRESS_CONFLICT (10 R265). -/
def execAddressConflict (s : State) : Host.Outcome State Fault Refusal :=
  .next (effAddressConflict s)

end Sys2Proof.Machine
end

