-- ==== Sys2Proof/Machine/Reply.lean ====
section
/-!
DEFINITION. Responses of the dictionary server on its two paths (15 R390 to R393, R399).
-/
namespace Sys2Proof.Machine

/-! ## The channels at the CAN FD streams (12 R313, R321, 15 R394) -/

/-- A stream's computation is opened on a channel (12 R313; log 61). -/
def streamOpen (c : Nat) (mode : BitVec 2) (index sub : Nat) (s : State) : State :=
  setCvu s c ((cvuOf s c).stream mode index sub)

/-- Bytes of the receive stream enter channel 3 while it is attached and open. -/
def streamFeed (b : Bytes) (s : State) : State :=
  let x := cvuOf s 3
  if x.opened && x.attach then setCvu s 3 (x.feed b).1 else s

/-- The stream that ends in channel 3 passes its check; the channel after it. -/
def streamCheck (s : State) : Bool × State :=
  let x := cvuOf s 3
  if x.opened && x.attach then ((x.finish).1.matched, setCvu s 3 x.finish.1) else (false, s)

/-- A value as channel 2 sends it, with its CRC (15 R393, R394), and the channel after it. -/
def streamSend (index sub : Nat) (b : Bytes) (s : State) : Bytes × State :=
  let x := ((cvuOf s 2).stream 2 index sub).feed b
  (x.2 ++ x.1.finish.2, setCvu s 2 x.1.finish.1)

/-- SEG_UP frames of a stream from segment `k` on (15 R392, R393). -/
def segUp (client : Nat) : Nat → Nat → Bytes → State → State
  | 0, _, _, s => s
  | fuel + 1, k, b, s =>
    let last := decide (b.length ≤ 62)
    let s := canSend 7 (leBytes 1 (k % 16 + 16 * b2n last) ++ leBytes 1 client ++ b.take 62) s
    if last then s else segUp client fuel (k + 1) (b.drop 62) s

/-- A RESPONSE on the field bus (15 R390 to R393). -/
def canRespond (w : DictWait) (status detail : Nat) (value : Bytes) (s : State) : State :=
  let head := fun (d : Nat) =>
    leBytes 1 (w.op + 0x80) ++ leBytes 1 w.client ++ leBytes 2 w.index ++ leBytes 1 w.sub ++ leBytes 1 d ++ leBytes 2 status
  if status ≠ 0 || w.op ≠ 1 then canSend 5 (head detail) s
  else if value.length ≤ 56 then canSend 5 (head value.length ++ value) s
  else
    let stream := streamSend w.index w.sub value (canSend 5 (head 0xFF ++ leBytes 2 value.length) s)
    segUp w.client (stream.1.length / 62 + 1) 0 stream.1 stream.2

/-- A mailbox response; a Device-Core reset has ended the request it answers where BUSY is 0 (15 R399). -/
def mbxRespond (w : DictWait) (status detail : Nat) (value : Bytes) (s : State) : State :=
  if !s.dict.mbxBusy then s
  else
    let read := decide (w.op = 1) && decide (status = 0)
    let s := { s with
      dict.mbxBusy := false, dict.mbxDone := true, dict.mbxCode := BitVec.ofNat 16 status,
      dict.mbxDetail := BitVec.ofNat 8 detail,
      dict.mbxRlen := BitVec.ofNat 16 (if read then value.length else 0),
      dict.mbxRsp := if read then putB s.dict.mbxRsp 0 value else s.dict.mbxRsp }
    if s.dict.mbxIrq then msix s.dict.mbxVec s else s

/-- A response on the path of its request. -/
def respond (w : DictWait) (status detail : Nat) (value : Bytes) (s : State) : State :=
  if w.mbx then mbxRespond w status detail value s else canRespond w status detail value s

/-- The response a request still waits for. -/
def answerWait (status : Nat) (s : State) : State :=
  match s.dict.wait with
  | some w => respond w status 0 [] { s with dict.wait := none }
  | none => s

end Sys2Proof.Machine
end

