-- ==== Sys2Proof/Machine/Pair.lean ====
section
/-!
DEFINITION. Roped Pairs (10 R273 to R284): binding, mirror messages, checkpoints, heartbeat, failover, unbinding.
-/
namespace Sys2Proof.Machine

/-! ## Entering states (R273, R279 to R284) -/

/-- What waits for mirror acknowledgements goes on as landed (R276, R280). -/
def releaseMirror (s : State) : State :=
  let refs := (s.pair.out.filter (fun m => decide (m.use = .data))).map (·.ref)
  refs.foldl (fun s r => mirLanded r s) { s with pair.out := s.pair.out.filter (fun m => decide (m.use ≠ .data)) }

/-- A checkpoint ends (R278). -/
def ckEnd (code : Nat) (s : State) : State :=
  { s with pair.ckBusy := false, pair.ckDone := true, pair.ckCode := BitVec.ofNat 16 code }

/-- A checkpoint in progress fails as the pair leaves PAIRED (R278). -/
def ckFail (s : State) : State :=
  if s.pair.ckBusy then
    ckEnd errMirrorFailed { s with pair.out := s.pair.out.filter (fun m => decide (m.use ≠ .ckpt)) }
  else s

/-- A change of the pair's state is shown in the own LSA (R257). -/
def pairState (st : PairSt) (s : State) : State := lsaSync { s with pair.st := st }

/-- The full stored contents and records of every DECLARED and SEALED region are sent (R273). -/
def mirrorAll (s : State) : State :=
  each (List.range 16) (fun r s =>
    if regState s r = 0 then s
    else
      let s := (recObjs (recOf s r)).foldl (fun s o => (mirrorChunks (o.size / 4096 + 1) o.pa o.size s).2) s
      regionMsg r s) s

/-- SYNCING begins: what was sent is lost, MSEQ starts at 0, and an UNBIND that is waited for is sent again (R275, R283, R284). -/
def syncAnew (s : State) : State :=
  let s := pairState .syncing { ckFail s with pair.out := [], pair.mseqTx := 0, pair.hbRx := s.now, pair.peerSt := 0 }
  match s.pair.unbinding with
  | some _ => mirSend 6 0 [] .unbind none 0 { s with pair.unbinding := some s.now }
  | none => s

/-- The pair enters SYNCING: a primary mirrors everything anew (R273, R283). -/
def enterSyncing (s : State) : State :=
  let s := syncAnew (releaseMirror s)
  if s.pair.role then s else mirrorAll s

/-- The checkpoint store (R278). -/
def ckBase (c : Nat) : Nat := 0x17FF7F8000 + c * 0x100

/-- The pair enters BINDING; after a miss a partner discards its mirror copies (R279). -/
def enterBinding (s : State) : State :=
  let s := ckFail (releaseMirror s)
  let s := if s.pair.role then s.pair.mirrored.foldl (fun s r => clearRec r s) s else s
  pairState .binding { s with pair.out := [], pair.hbRx := s.now, pair.hbSeen := false, pair.leaving := none }

/-- The pair secret is zeroized (11 R288). -/
def zeroPairSecret (s : State) : State :=
  { s with kh.pairSecret := none, kh.ret := s.kh.ret.map (fun (r : Retained) => { r with pairSecret := none }) }

/-- Pair Role as persisted (R273). -/
def pairRole (s : State) : Nat := param s 0x2420 0

/-- Pair Role is made durable and takes the value; one that cannot be keeps its value (R284, 16 R418). -/
def setPairRole (v : Nat) (s : State) : Nat × State :=
  let a := journalWrite 0x2420 0 (leBytes 1 v) s
  (a.1, { a.2 with pair.role := decide (pairRole a.2 = 2) })

/-- The pair enters UNBOUND with Pair Role `role` (R284): the status of that write; a change of role then starts to bind. -/
def enterUnbound (role : Nat) (s : State) : Nat × State :=
  let partner := s.pair.role
  let s := zeroPairSecret (ckFail (releaseMirror s))
  let s := if partner then
      let s := s.pair.mirrored.foldl (fun s r => clearRec r s) s
      { s with hbm := memClear s.hbm (ckBase 0) 0x8000 }
    else s
  let a := setPairRole role s
  (a.1, { pairState .unbound { a.2 with
      pair.out := a.2.pair.out.filter (fun m => decide (m.use = .once)), pair.unbinding := none, pair.rebind := 0,
      pair.leaving := some (mirrorPort s), pair.wrapped := [] } with
    fab.rtDirty := true })

/-! ## Binding (R273, 11 R300) -/

/-- The Mirror Port has heard MIRROR from the device in Partner UID (R273). -/
def partnerShows (s : State) : Bool :=
  let x := portOf s (mirrorPort s)
  x.nbrMirror && x.heardAt.isSome && decide (x.nbrUid.toNat = param s 0x2422 0)

/-- The settings of the two devices match: opposite roles, and each is the other's partner (R273). -/
def settingsMatch (s : State) (peer : PairPeer) : Bool :=
  decide (pairRole s + peer.role = 3) && decide (peer.partnerUid = s.id.uid)

/-- The pair secret, where the partner's ephemeral key is signed with the identity key that its certificate gives for Partner UID
(11 R290, R300). -/
def pairSecretOf (s : State) (peer : PairPeer) (d : Nat) : Option (BitVec 256) :=
  match peer.cert with
  | some (uid, pub) =>
    if uid.toNat = param s 0x2422 0 && ecdsaVerify pub peer.eph peer.sig then (ecdhX d peer.eph).map Config.pairSecret else none
  | none => none

/-- The ECDH of the Keyholders ends: with a good check the pair secret is set and the pair is SYNCING (11 R300). -/
def pairBound2 (peer : PairPeer) (d : Nat) (s : State) : State :=
  if s.pair.st ≠ .binding then s
  else
    match pairSecretOf s peer d with
    | some k => enterSyncing { s with kh.pairSecret := some k }
    | none => raise { code := errMirrorFailed, src := 7 } s

/-- The device's own ephemeral key is drawn, signed with its identity key and sent (11 R300). -/
def pairHello (s : State) : Nat × State :=
  let d := drawScalar s
  let k := drawScalar d.2
  (d.1, emit (.pairKey (pubOf d.1) (ecdsaSign (idScalar s) k.1 (pubOf d.1))) k.2)

/-- PAIR_BIND (R273): `dur` is the time the Keyholder takes (log 13). An out-of-service device takes no part (14 R375). -/
def effPairBind (peer : PairPeer) (dur : Nat) (s : State) : State :=
  if s.rcv.oos || pairRole s = 0 || !partnerShows s || !settingsMatch s peer then s
  else
    let s := if s.pair.st = .unbound then enterBinding { s with pair.role := decide (pairRole s = 2) } else s
    if s.pair.st ≠ .binding || !keyServes s true then s
    else
      let h := pairHello s
      if dur = 0 && h.2.kh.run.isEmpty then pairBound2 peer h.1 h.2 else khQueue (.pairBind peer h.1) dur h.2

/-- PAIR_SYNC_DONE (R273): the primary's contents and records are acknowledged; during a reset and its boot they are not yet sent
(R283). -/
def effPairSyncDone (s : State) : State :=
  if s.pair.st = .syncing && !s.pair.role && decide (s.pwr.stage = 5) && !s.pair.out.any (fun m => decide (m.use = .data) || decide (m.use = .region))
  then pairState .paired s
  else s

/-! ## Misses and failover (R279 to R281) -/

/-- FAILOVER (R281); the primary's address is that of its last Cairn frame on the Mirror Port. -/
def failover (s : State) : State :=
  let s := { s with
    pair.formerAddr := s.fab.addr,
    pair.before := tkeys (fun _ (x : Ctx) => decide (x.st ≠ .free)) s.obj.ctx }
  let s := pairState .takenOver s
  let s := setAddr (portOf s (mirrorPort s)).nbrAddr.toNat s
  let s := adoptEpoch (s.fab.epoch.toNat + 1) s
  let s := s.pair.mirrored.foldl (fun s r =>
    if regState s r ≠ 1 then s
    else if (recObjs (recOf s r)).isEmpty then clearRec r s
    else sealFinish r (sealPrepare r true [] 0 s)) s
  raise { code := errFailover, src := 7 } s

/-- A heartbeat miss in the state the pair is in (R279 to R281). An out-of-service device never fails over (14 R375). -/
def pairMiss (s : State) : State :=
  match s.pair.st with
  | .binding | .syncing => enterBinding s
  | .paired =>
    if s.pair.role then (if s.rcv.oos then s else failover s)
    else
      let s := pairState .solo s
      raise { code := errMirrorFailed, src := 7 } { ckFail (releaseMirror s) with pair.out := [] }
  | _ => s

/-- HEARTBEAT_MISS (R279). -/
def effHeartbeatMiss (s : State) : State := if s.pair.hbRx + hbMiss s ≤ s.now then pairMiss s else s

/-- STATE of the PAIR registers (R273). -/
def pairStateNo (st : PairSt) : Nat :=
  match st with
  | .unbound => 0
  | .binding => 1
  | .syncing => 2
  | .paired => 3
  | .solo => 4
  | .takenOver => 5
  | .stoodDown => 6

/-- MIRROR_HEARTBEAT_SEND (R279): every 1 ms while bound, and not out of service (14 R375). -/
def effHeartbeatSend (s : State) : State :=
  if !pairBound s || s.rcv.oos || s.now < s.pair.hbTx + msNs then s
  else
    let body := leBytes 1 (b2n s.pair.role) ++ leBytes 1 (pairStateNo s.pair.st) ++ leBytes 6 0 ++ leBytes 8 s.fab.epoch.toNat
    mirSend 1 0 body .once none 0 { s with pair.hbTx := s.now }

/-! ## Received mirror messages (R275) -/

/-- The message at the head of the Mirror Port's VC buffer. -/
inductive Mir where
  | nothing
  | ignored (s : State)
  | bad (mseq : Nat) (s : State)
  | good (mtype mseq arg : Nat) (body : Bytes) (s : State)

/-- The message taken off the buffer and checked: CRC, ALIVE and MTYPE (R275). -/
def takeMir (vcA : Bool) (s : State) : Mir :=
  let p := mirPort s
  let x := portOf s p
  let l := if vcA then x.rxA else x.rxQ
  let put := fun (r : List DFrame) => setPort s p (if vcA then { x with rxA := r } else { x with rxQ := r })
  match (match l with
    | [] => Head.partialSeg
    | f :: _ => gather (20 + leAt f.data 2 2) [] l) with
  | .partialSeg => .nothing
  | .malformed r => .ignored (put r)
  | .whole b r =>
    let n := leAt b 2 2
    let alive := BitVec.ofNat 8 (byteAt b 1)
    let mseq := leAt b 4 4
    let s' := put r
    if crc32c (leBytes 4 mseq ++ sliceB b 0 (16 + n)) ≠ leAt b (16 + n) 4 then .bad mseq s'
    else if s.pair.aliveRx = some alive then .ignored s'
    else
      let s' := { s' with pair.aliveRx := some alive }
      let gap := match s.pair.aliveRx with
        | some a => decide (alive ≠ a + 1)
        | none => false
      if gap || byteAt b 0 = 0 || 6 < byteAt b 0 then .bad mseq s'
      else .good (byteAt b 0) mseq (leAt b 8 8) (sliceB b 16 n) s'

/-- An ACK is sent (R275). -/
def sendAck (mseq : Nat) (bad : Bool) (s : State) : State := mirSend 5 (mseq + 2 ^ 32 * b2n bad) [] .once none 0 s

/-- A received mirror message of the row's type is taken and acted on; one that fails its checks is answered with BAD, one of
another type is left (R275). -/
def mirReceive (mtype : Nat) (act : Nat → Nat → Bytes → State → State) (s : State) : State :=
  if !(pairBound s || s.pair.leaving.isSome) || !linkRuns s (mirPort s) then s
  else
    match takeMir (decide (mtype = 1) || decide (mtype = 5)) s with
    | .nothing => s
    | .ignored s' => s'
    | .bad mseq s' => sendAck mseq true s'
    | .good m mseq arg body s' => if m = mtype then act mseq arg body s' else s

/-- HEARTBEAT (R279, R282, R283): the partner is alive; its state may end or restart the pair's own. One that shows the device's own
role comes from no partner of it (R273). -/
def effMirHeartbeat (s : State) : State :=
  mirReceive 1 (fun _ _ body s =>
    let st := byteAt body 1
    let was := s.pair.peerSt
    if !pairBound s || decide (byteAt body 0 ≠ b2n (!s.pair.role)) then s
    else
      let s := { s with pair.hbRx := s.now, pair.hbSeen := true, pair.peerSt := st }
      if !s.pair.role && decide (st = 5) && (decide (s.pair.st = .binding) || decide (s.pair.st = .syncing)) then
        raise { code := errAddressConflict, src := 7, detail := param s 0x2422 0 } (standDown s)
      else if s.pair.role && decide (s.pair.st = .syncing) && decide (st = 3) then pairState .paired s
      else if s.pair.st = .paired && decide (st = 2) && decide (was = 3) then enterSyncing s
      else s) s

/-- The device holds mirror copies for a primary (R273). -/
def holdsCopies (s : State) : Bool :=
  s.pair.role && (decide (s.pair.st = .syncing) || decide (s.pair.st = .paired))

/-- WRITE (R276): the bytes are stored at their PA. -/
def effMirWrite (s : State) : State :=
  if !domOn s dMEM then s
  else
    mirReceive 2 (fun mseq arg body s =>
      let s := if holdsCopies s && decide (arg + body.length ≤ hbmSize) then hbmWrite arg body s else s
      sendAck mseq false s) s

/-- REGION (R277): the record is stored in its slot. -/
def effMirRegion (s : State) : State :=
  if !domOn s dMEM then s
  else
    mirReceive 3 (fun mseq arg body s =>
      let s := if holdsCopies s && decide (arg < 16) then
          let l := s.pair.mirrored.filter (· ≠ arg)
          putRec arg (sliceB body 0 2048) { s with pair.mirrored := if byteAt body 6 = 0 then l else l ++ [arg] }
        else s
      sendAck mseq false s) s

/-- CKPT (R278): the record is stored in the checkpoint store. -/
def effMirCkpt (s : State) : State :=
  if !domOn s dMEM then s
  else
    mirReceive 4 (fun mseq arg body s =>
      let s := if holdsCopies s && decide (arg < 128) then hbmWrite (ckBase arg) (sliceB body 0 256) s else s
      sendAck mseq false s) s

/-- An unbind that is waited for is complete (R284): the write of Pair Role takes effect and is answered. -/
def unbindDone (s : State) : State :=
  let a := enterUnbound s.pair.rebind s
  answerWait a.1 a.2

/-- ACK (R275 to R278, R284): the message is done, or sent again; the fourth BAD is a miss. -/
def effMirAck (s : State) : State :=
  mirReceive 5 (fun _ arg _ s =>
    match s.pair.out.find? (fun m => decide (m.mseq = arg % 2 ^ 32)) with
    | none => s
    | some m =>
      let s := { s with pair.out := s.pair.out.filter (fun x => decide (x.mseq ≠ m.mseq)) }
      if arg.testBit 32 then
        if 3 ≤ m.bad then pairMiss { s with pair.out := s.pair.out ++ [m] }
        else mirSend m.mtype m.arg m.body m.use (some m.ref) (m.bad + 1) s
      else
        match m.use with
        | .data => mirLanded m.ref s
        | .region | .once => s
        | .ckpt => ckEnd 0 s
        | .unbind => unbindDone s) s

/-- UNBIND (R284): acknowledged; Pair Role becomes 0 and the device is UNBOUND. An unbind of its own that it waits for is done. -/
def effMirUnbind (s : State) : State :=
  mirReceive 6 (fun mseq _ _ s =>
    let s := sendAck mseq false s
    if !pairBound s then s
    else if s.pair.unbinding.isSome then unbindDone s
    else (enterUnbound 0 s).2) s

/-! ## Checkpoints (R278) -/

/-- The 256-byte checkpoint record. -/
def ckRecord (s : State) (c : Nat) : Bytes :=
  let x := ctxOf s c
  let regs := ((List.range 16).filter (fun r => declaredTo s r c)).map (fun r => 2 ^ r)
  let evv := s.pair.ckEvv.toNat
  let ev := fun (k : Nat) => bitsN s.pair.ckEv.toNat (16 * k) 16
  sliceB x.desc 0 64 ++ leBytes 8 x.origin ++ leBytes 8 (tget 0 s.pair.cseq c) ++ leBytes 8 s.erq.time.toNat ++
    leBytes 2 regs.sum ++ leBytes 1 evv ++ leBytes 5 0 ++
    (List.range 8).flatMap (fun k =>
      if evv.testBit k then leBytes 2 (ev k) ++ leBytes 6 0 ++ leBytes 8 (evOf s (ev k)).cnt.toNat
      else List.replicate 16 0) ++ List.replicate 32 0

/-- CK_GO (R278); a write while one is in progress is ignored. -/
def effCkGo (s : State) : State :=
  let c := s.pair.ckCtx.toNat
  let ev := fun (k : Nat) => bitsN s.pair.ckEv.toNat (16 * k) 16
  if !hostReady s || s.pair.ckBusy then s
  else if s.pair.role || s.pair.st ≠ .paired || (ctxOf s c).st ≠ .live ||
      (List.range 8).any (fun k => s.pair.ckEvv.toNat.testBit k && !evOwned s c (ev k)) then ckEnd errObjState s
  else
    let s := { s with pair.cseq := tput 0 s.pair.cseq c (tget 0 s.pair.cseq c + 1), pair.ckBusy := true }
    mirSend 4 c (ckRecord s c) .ckpt none 0 s

/-! ## Pair objects (R284) -/

/-- Pair Role written (R284): the status, none while an unbind waits for its ACK. -/
def pairRoleWrite (v : Nat) (s : State) : Option Nat × State :=
  if 2 < v then (some 0, s)
  else if v = pairRole s then
    let a := journalWrite 0x2420 0 (leBytes 1 v) s
    (some a.1, a.2)
  else
    let now := fun (s : State) =>
      let a := enterUnbound v s
      (some a.1, a.2)
    match s.pair.st with
    | .unbound =>
      let a := setPairRole v s
      (some a.1, if a.1 = 0 then lsaSync a.2 else a.2)
    | .binding => now (mirSend 6 0 [] .once none 0 s)
    | .syncing | .paired =>
      (none, mirSend 6 0 [] .unbind none 0 { s with pair.unbinding := some s.now, pair.rebind := v })
    | _ => now (if s.pair.hbSeen && decide (s.now < s.pair.hbRx + hbMiss s) then mirSend 6 0 [] .once none 0 s else s)

/-- UNBIND_TIMEOUT (R284): 10 ms without the ACK; the pair goes on unchanged, but from BINDING the device is UNBOUND. -/
def effUnbindTimeout (s : State) : State :=
  match s.pair.unbinding with
  | some t =>
    if t + 10 * msNs ≤ s.now then
      if s.pair.st = .binding then unbindDone s
      else
        answerWait errMirrorFailed { s with
          pair.unbinding := none, pair.rebind := 0,
          pair.out := s.pair.out.filter (fun m => decide (m.use ≠ .unbind)) }
    else s
  | none => s

/-! ## Meanings of the commands -/

/-- PAIR_BIND (10 R273). -/
def execPairBind (peer : PairPeer) (dur : Nat) (s : State) : Host.Outcome State Fault Refusal :=
  .next (effPairBind peer dur s)

/-- PAIR_SYNC_DONE (10 R273). -/
def execPairSyncDone (s : State) : Host.Outcome State Fault Refusal :=
  .next (effPairSyncDone s)

/-- MIRROR_HEARTBEAT_SEND (10 R279). -/
def execMirrorHeartbeatSend (s : State) : Host.Outcome State Fault Refusal :=
  .next (effHeartbeatSend s)

/-- HEARTBEAT (10 R279). -/
def execHeartbeat (s : State) : Host.Outcome State Fault Refusal :=
  .next (effMirHeartbeat s)

/-- WRITE (10 R276). -/
def execWrite (s : State) : Host.Outcome State Fault Refusal :=
  .next (effMirWrite s)

/-- REGION (10 R277). -/
def execRegion (s : State) : Host.Outcome State Fault Refusal :=
  .next (effMirRegion s)

/-- CKPT (10 R278). -/
def execCkpt (s : State) : Host.Outcome State Fault Refusal :=
  .next (effMirCkpt s)

/-- ACK (10 R275). -/
def execAck (s : State) : Host.Outcome State Fault Refusal :=
  .next (effMirAck s)

/-- UNBIND (10 R284). -/
def execUnbind (s : State) : Host.Outcome State Fault Refusal :=
  .next (effMirUnbind s)

/-- HEARTBEAT_MISS (10 R279). -/
def execHeartbeatMiss (s : State) : Host.Outcome State Fault Refusal :=
  .next (effHeartbeatMiss s)

/-- CK_GO (10 R278). -/
def execCkGo (s : State) : Host.Outcome State Fault Refusal :=
  .next (effCkGo s)

/-- UNBIND_TIMEOUT (10 R284). -/
def execUnbindTimeout (s : State) : Host.Outcome State Fault Refusal :=
  .next (effUnbindTimeout s)

end Sys2Proof.Machine
end

