-- ==== Sys2Proof/Machine/Hold.lean ====
section
/-!
DEFINITION. The Keyholder's commands in progress: how one ends, and how the Hold Limit, a deferred gating request and a reset
end it (11 R288, R300, R301, 13 R337, R338).
-/
namespace Sys2Proof.Machine

/-- A mailbox command ends: its operands are zeroed (11 R288). -/
def secEnd (code : Nat) (s : State) : State :=
  { s with kh.busy := false, kh.done := true, kh.code := BitVec.ofNat 16 code, kh.key := 0, kh.grant := [] }

/-- The chassis key is installed, wrapped under K_pers in flash (11 R288, R290). -/
def installChassis (k : BitVec 256) (s : State) : State :=
  { s with kh.chassis := some k, flash.chassis := some (kwWrap (kdf s.id.rootKey "KG9-PERSIST" []) k) }

/-- JK_INSTALL takes effect (11 R288, 09 R251). -/
def jkInstalled (slot snum : Nat) (k : BitVec 256) (s : State) : State :=
  { s with
    kh.jobKey := tput {} s.kh.jobKey slot { key := some k, ctr := snum * 2 ^ 56, sender := snum },
    kh.gcmKey := if domOn s dMEM then tput none s.kh.gcmKey slot (some k) else s.kh.gcmKey }

/-- A Keyholder command that took its time completes. -/
def khFinish (c : KhCmd) (s : State) : State :=
  match c with
  | .ctxCreate c stage => objDone 0 [] s.obj.irqVec (ctxMake c (leBytes 64 stage.toNat) s)
  | .jkInstall slot snum k => secEnd 0 (jkInstalled slot snum k s)
  | .jkErase slot => secEnd 0 (zeroJobKey slot s)
  | .chassisSet k => secEnd 0 (installChassis k s)
  | .declare r c => declared r c s
  | .claim r c damaged => claimRun r c damaged s
  | .pairBind peer d => pairBound2 peer d s
  | .write k => { s with dict.keyed := some k }

/-- The requester of a command sees a failure (11 R301). -/
def khFail (code : Nat) (c : KhCmd) (s : State) : State :=
  match c with
  | .ctxCreate c _ => objFail code s.obj.cmd.toNat 0 (some c) s.obj.irqVec s
  | .jkInstall _ _ _ => secEnd code s
  | .jkErase _ => secEnd code s
  | .chassisSet _ => secEnd code s
  | .declare _ _ => bivEnd code s
  | .claim _ _ _ => bivEnd code s
  | .pairBind _ _ => s
  | .write k => respond k.w code 0 [] { s with dict.wait := none }

/-- The slot an aborted command was writing is left zeroized and unbound (11 R301). -/
def khWrote (c : KhCmd) (s : State) : State :=
  match c with
  | .ctxCreate c _ => zeroCtxKey c s
  | .jkInstall slot _ _ => zeroJobKey slot s
  | .jkErase slot => zeroJobKey slot s
  | .chassisSet _ => s
  | .declare _ _ => s
  | .claim _ _ _ => s
  | .pairBind _ _ => s
  | .write _ => s

/-- The running command is aborted, and those that wait behind it are refused (11 R301, 13 R338). -/
def abortHeld (s : State) : State :=
  match s.kh.run with
  | [] => s
  | (c, _) :: rest =>
    rest.foldl (fun s r => khFail errSecureUnavailable r.1 s) (khFail errSecureAborted c (khWrote c { s with kh.run := [] }))

/-- The command at the front of those in progress completes; while a gating request is deferred no other starts (13 R338). -/
def khServed (s : State) : State :=
  match s.kh.run with
  | [] => s
  | (c, _) :: rest =>
    if s.pwr.defer.isSome then
      rest.foldl (fun s r => khFail errSecureUnavailable r.1 s) (khFinish c { s with kh.run := [] })
    else khFinish c { s with kh.run := rest }

end Sys2Proof.Machine
end

