-- ==== Sys2Proof/Machine/Net.lean ====
section
/-!
DEFINITION. Ethernet ports and RoCE (07): network commands, frames, inbound messages, outbound WRITEs, congestion.
-/
namespace Sys2Proof.Machine

def ethOf (s : State) (p : Nat) : EthPort := lget {} s.eth.port p
def setEth (s : State) (p : Nat) (x : EthPort) : State := { s with eth.port := lset s.eth.port p x }

/-- A saturating 32-bit counter rises by 1. -/
def inc32 (x : BitVec 32) : BitVec 32 := BitVec.ofNat 32 (satAdd 32 x.toNat 1)

/-! ## Queue-pair descriptors (R173) -/

def qpFields : List (Nat × Nat × Nat) :=
  [(0, 0, 8), (1, 0, 6), (2, 0, 12), (4, 0, 6), (5, 0, 8), (6, 0, 3), (8, 0, 24), (12, 0, 24), (16, 0, 24), (20, 0, 48),
   (32, 0, 128), (48, 0, 14), (50, 0, 14), (52, 0, 14), (54, 0, 14), (56, 0, 16), (58, 0, 8), (59, 0, 5), (60, 0, 32)]

def Qp.vlan (x : Qp) : Bool := decide (bitsAt x.desc 1 1 1 = 1)
def Qp.clearOk (x : Qp) : Bool := decide (bitsAt x.desc 1 2 1 = 1)
def Qp.evw (x : Qp) : Bool := decide (bitsAt x.desc 1 3 1 = 1)
def Qp.mtu (x : Qp) : Nat := 512 * 2 ^ bitsAt x.desc 1 4 2
def Qp.retryMax (x : Qp) : Nat := bitsAt x.desc 5 0 3
def Qp.timeout (x : Qp) : Nat := 4096 * 2 ^ bitsAt x.desc 5 3 5
def Qp.rnrMax (x : Qp) : Nat := bitsAt x.desc 6 0 3
def Qp.dqpn (x : Qp) : Nat := leAt x.desc 8 3
def Qp.sqEvent (x : Qp) : Nat := leAt x.desc 48 2
def Qp.cmpEvent (x : Qp) : Nat := leAt x.desc 50 2
def Qp.rqEvent (x : Qp) : Nat := leAt x.desc 52 2
def Qp.rxEvent (x : Qp) : Nat := leAt x.desc 54 2
def Qp.ring (x : Qp) : Nat := leAt x.desc 56 2
def Qp.sqLog (x : Qp) : Nat := bitsAt x.desc 58 0 4
def Qp.rqLog (x : Qp) : Nat := bitsAt x.desc 58 4 4
def Qp.slotLog (x : Qp) : Nat := bitsAt x.desc 59 0 5
def Qp.rqOff (x : Qp) : Nat := 4096 * leAt x.desc 60 4

/-- Reserved fields and encodings of a queue-pair descriptor. -/
def qpBad (d : Bytes) : Bool :=
  let x : Qp := { desc := d }
  !onlyFields qpFields d || decide (bitsAt d 1 4 2 = 0) || decide (bitsAt d 5 3 5 = 0) ||
    decide (x.sqLog < 4) || decide (12 < x.sqLog) || decide (x.rqLog < 4) || decide (12 < x.rqLog) ||
    decide (x.slotLog < 12) || decide (20 < x.slotLog)

/-- RING_OBJ is an HBM object of the context that both rings fit in. -/
def ringFits (s : State) (x : Qp) : Bool :=
  let m := moOf s x.ring
  decide (m.st ≠ .free) && decide (m.ctx = x.ctx) && !m.host && decide (32 * 2 ^ x.sqLog ≤ m.size) &&
    decide (x.rqOff + 2 ^ x.rqLog * 2 ^ x.slotLog ≤ m.size)

/-- The ring object and the events are fit (R173). -/
def qpRefsOk (s : State) (x : Qp) : Bool :=
  decide ((moOf s x.ring).st = .live) && ringFits s x &&
    [x.sqEvent, x.cmpEvent, x.rqEvent, x.rxEvent].all (evOwned s x.ctx)

/-! ## Network commands (R172) -/

def netDone (code result : Nat) (s : State) : State :=
  { s with eth.done := true, eth.code := BitVec.ofNat 16 code,
           eth.result := if code = 0 then BitVec.ofNat 32 result else s.eth.result }

/-- One network command: form, then MEM (13 R333), then what `act` says: a code, or a result and the state. -/
def netCmd (op lim : Nat) (x : NetCmd) (bad : Bytes → Bool) (ctx : Bytes → Option Nat)
    (act : Bytes → State → Except Nat (Nat × State)) (s : State) : State :=
  if !hostReady s || !domOn s dNET then s
  else
    let stage := leBytes 64 s.eth.stage.toNat
    let raw := op + 2 ^ 8 * x.rsv.toNat + 2 ^ 16 * x.id.toNat
    let fail (code : Nat) (c : Option Nat) : State :=
      netDone code 0 (raise { code := code, src := 2, ctx := c, unit := x.id.toNat, detail := raw } s)
    if x.rsv ≠ 0 || decide (lim ≤ x.id.toNat) then fail errCmdInvalid none
    else if bad stage then fail errCmdInvalid (ctx stage)
    else if !domOn s dMEM then fail errObjState (ctx stage)
    else
      match act stage s with
      | .error code => fail code (ctx stage)
      | .ok r => netDone 0 r.1 r.2

/-- A queue pair set up from a descriptor, in RTS. -/
def qpMake (d : Bytes) (s : State) : Qp :=
  { st := .rts, desc := d, spsn := leAt d 12 3, epsn := leAt d 16 3, ackAt := s.now, rateAt := s.now }

/-- QP_CREATE (R172, R173). -/
def effQpCreate (x : NetCmd) (s : State) : State :=
  let q := x.id.toNat
  netCmd 0x01 4096 x qpBad stageCtx (fun d s =>
    let y := qpMake d s
    if (qpOf s q).st ≠ .free || !isLive s y.ctx then .error errObjState
    else if !qpRefsOk s y then .error errCmdInvalid
    else .ok (0, setQp s q y)) s

/-- The owner of a queue pair, for a record. -/
def qpCtx (s : State) (q : Nat) : Option Nat := if (qpOf s q).st = .free then none else some (qpOf s q).ctx

/-- QP_DESTROY (R172). -/
def effQpDestroy (x : NetCmd) (s : State) : State :=
  let q := x.id.toNat
  netCmd 0x02 4096 x anyStage (fun _ => qpCtx s q) (fun _ s =>
    if (qpOf s q).st = .free then .error errObjState else .ok (0, dropHeld q (setQp s q {}))) s

/-- QP_FAIL (R172, R174). -/
def effQpFail (x : NetCmd) (s : State) : State :=
  let q := x.id.toNat
  netCmd 0x03 4096 x anyStage (fun _ => qpCtx s q) (fun _ s =>
    if (qpOf s q).st = .rts then .ok (0, qpError q .command 0 s) else .error errObjState) s

/-- QP_RECOVER (R172, R173). -/
def effQpRecover (x : NetCmd) (s : State) : State :=
  let q := x.id.toNat
  netCmd 0x04 4096 x qpBad stageCtx (fun d s =>
    let y := qpMake d s
    if (qpOf s q).st ≠ .error || !isLive s y.ctx then .error errObjState
    else if !qpRefsOk s y then .error errCmdInvalid
    else .ok (0, setQp s q y)) s

/-- MR_REG (R175); the TAG is a fresh open value (log 7). -/
def effMrReg (x : NetCmd) (s : State) : State :=
  let n := x.id.toNat
  netCmd 0x10 65536 x anyStage (fun _ => moCtx s n) (fun _ s =>
    let m := moOf s n
    if decide (m.st ≠ .free) && !notRetiring s m.ctx then .error errObjState
    else if m.st ≠ .live || m.host || !m.netw || !m.write then .error errCmdInvalid
    else
      let tag := Config.rkeyTag s.free
      .ok (tag.toNat * 2 ^ 16 + n, setMo (drawn s) n { m with rkey := some tag })) s

/-- MR_DEREG (R175). -/
def effMrDereg (x : NetCmd) (s : State) : State :=
  let n := x.id.toNat
  netCmd 0x11 65536 x anyStage (fun _ => moCtx s n) (fun _ s =>
    let m := moOf s n
    if m.rkey.isSome && notRetiring s m.ctx then .ok (0, setMo s n { m with rkey := none }) else .error errObjState) s

/-- NET_CMD with an OP that names no command. -/
def effNetUnknown (op : Nat) (x : NetCmd) (s : State) : State :=
  netCmd op 0 x anyStage (fun _ => none) (fun _ _ => .error errCmdInvalid) s

/-! ## Frames (R170, R171) -/

/-- Pause and release of the link partner (R171). -/
def pfcCheck (p : Nat) (s : State) : State :=
  let x := ethOf s p
  let prio := x.pfcPrio.toNat
  if !x.pfcEn then s
  else if !x.pausing && decide (524288 < x.fill + 196608) then emit (.pfc p prio true) (setEth s p { x with pausing := true })
  else if x.pausing && decide (x.fill + 327680 ≤ 524288) then emit (.pfc p prio false) (setEth s p { x with pausing := false })
  else s

/-- The packets a port held leave: it is paused no longer (R171). -/
def ethResume (p : Nat) (s : State) : State :=
  let x := ethOf s p
  emitAll (x.heldTx.map (fun k => Out.roce p k)) (setEth s p { x with paused := false, heldTx := [] })

/-- A write of PFC_PRIO and PFC_EN (R171): a pause in either direction ends where flow control is switched off or moved to
another priority, and the receive buffer is judged anew (log 73). -/
def effPfcWrite (p : Nat) (prio : BitVec 3) (en : Bool) (s : State) : State :=
  let x := ethOf s p
  let keep := en && decide (prio = x.pfcPrio)
  let s := setEth s p { x with pfcPrio := prio, pfcEn := en, pausing := x.pausing && keep }
  pfcCheck p (if keep then s else ethResume p s)

/-- The queue pair a QPN names, if it is valid on port `p`. -/
def qpnOf (s : State) (p qpn : Nat) : Option Nat :=
  if 0x1000 ≤ qpn ∧ qpn < 0x2000 ∧ (qpOf s (qpn - 0x1000)).st ≠ .free ∧ (qpOf s (qpn - 0x1000)).portNo = p then
    some (qpn - 0x1000)
  else none

/-- A frame takes its place in the receive buffer. -/
def ethKeep (p : Nat) (f : EthFrame) (s : State) : State :=
  let x := ethOf s p
  pfcCheck p (setEth s p { x with inq := x.inq ++ [f], fill := x.fill + f.len })

def ethDrop (p : Nat) (s : State) : State :=
  let x := ethOf s p
  setEth s p { x with rxDrop := inc32 x.rxDrop }

/-- ETH_FRAME_RECEIVE (R170): dropped and counted, or held for processing. -/
def effEthFrame (p : Nat) (f : EthFrame) (s : State) : State :=
  let x := ethOf s p
  if !domOn s dNET || !x.up then s
  else if 4200 < f.len ∨ 524288 < x.fill + f.len then ethDrop p s
  else
    match f.kind with
    | .pfc _ _ => ethKeep p f s
    | .other => ethDrop p s
    | .roce k =>
      if !k.icrcOk then setEth s p { x with rxIcrc := inc32 x.rxIcrc }
      else
        match qpnOf s p k.dqpn.toNat with
        | none => ethDrop p s
        | some q => if (qpOf s q).st = .rts then ethKeep p f s else ethDrop p s

/-- The frame at the head of a port's buffer leaves it. -/
def ethTake (p : Nat) (s : State) : State :=
  let x := ethOf s p
  match x.inq with
  | [] => s
  | f :: r => pfcCheck p (setEth s p { x with inq := r, fill := x.fill - f.len })

/-- A held frame still names a queue pair in RTS on its port (R170, R174). -/
def frameValid (s : State) (p : Nat) (f : EthFrame) : Bool :=
  match f.kind with
  | .roce k =>
    match qpnOf s p k.dqpn.toNat with
    | some q => decide ((qpOf s q).st = .rts)
    | none => false
  | .pfc _ _ | .other => true

/-- The frames at the head of a port's buffer whose queue pair takes no packets any longer are dropped and counted (R170, R174). -/
def ethSkip (p : Nat) (s : State) : State :=
  ((ethOf s p).inq.takeWhile (fun f => !frameValid s p f)).foldl (fun s _ => ethDrop p (ethTake p s)) s

/-- The RoCE packet at the head of a port's buffer, of a kind in `want`, with its queue pair. -/
def headPkt (s : State) (p : Nat) (want : RoceOp → Bool) : Option (Nat × RocePkt) :=
  match (ethOf s p).inq with
  | { kind := .roce k, .. } :: _ =>
    if want k.op then (qpnOf s p k.dqpn.toNat).map (fun q => (q, k)) else none
  | _ => none

/-- The headers of what a queue pair sends (R171, R173, R185). -/
def qpHdr (s : State) (x : Qp) : RoceHdr :=
  let e := ethOf s x.portNo
  let six := decide (bitsAt x.desc 1 0 1 = 1)
  { smac := e.smac.toNat, dmac := leAt x.desc 20 6,
    tag := if x.vlan then some (e.pfcPrio.toNat, bitsAt x.desc 2 0 12) else none,
    ipv6 := six, sip := if six then e.sip6.toNat else e.sip4.toNat,
    dip := leAt x.desc 32 (if six then 16 else 4), dscp := bitsAt x.desc 4 0 6 }

/-- A packet of queue pair `q` is sent, or held while its priority is paused (R171). -/
def ethSend (q : Nat) (k : RoceTx) (s : State) : State :=
  let y := qpOf s q
  let x := ethOf s y.portNo
  let k := { k with qp := q, hdr := qpHdr s y, dqpn := y.dqpn }
  if !x.up then s
  else if x.paused && y.vlan then setEth s y.portNo { x with heldTx := x.heldTx ++ [k] }
  else emit (.roce y.portNo k) s

/-- PFC_PAUSE_RECEIVED (R171): the frame at the head of the buffer. -/
def effPfcPause (p : Nat) (s : State) : State :=
  let s := ethSkip p s
  match (ethOf s p).inq with
  | { kind := .pfc prio pause, .. } :: _ =>
    let s := ethTake p s
    let x := ethOf s p
    if !x.pfcEn || decide (prio ≠ x.pfcPrio) then s
    else if pause then setEth s p { x with paused := true }
    else ethResume p s
  | _ => s

/-! ## Inbound messages (R176 to R180, R185) -/

/-- Acknowledgements of the InfiniBand transport (log 26). -/
def synAck : Nat := 0x1F
def synRnr : Nat := 0x34
def synSeq : Nat := 0x60
def synInvalid : Nat := 0x61
def synAccess : Nat := 0x62

/-- An ACK, NAK or CNP of queue pair `q`. -/
def qpReply (q : Nat) (op : RoceOp) (psn syn : Nat) (s : State) : State :=
  ethSend q { dqpn := 0, op := op, psn := psn, syndrome := syn } s

/-- A NAK, with which the queue pair enters ERROR: it is the last packet the queue pair sends. -/
def qpNak (q psn syn : Nat) (cause : QpCause) (addr : Nat) (s : State) : State :=
  qpReply q .nak psn syn (qpError q cause addr s)

/-- An access of a queue pair to its rings or source data faults (05 R118): its record, and that of the entry into ERROR (R174; log
74). -/
def qpFault (q : Nat) (va : Option Nat) (s : State) : State :=
  qpError q .fault 0 (match va with
    | some a => raise { code := errPageFault, src := 8, ctx := some (qpOf s q).ctx, unit := (qpOf s q).portNo, addr := a } s
    | none => s)

/-- A CNP for a packet marked CE, at most one per 50 µs (R185). -/
def sendCnp (q : Nat) (s : State) : State :=
  let x := qpOf s q
  if x.cnpAt = 0 || decide (x.cnpAt - 1 + 50000 ≤ s.now) then
    qpReply q .cnp 0 0 (setQp s q { x with cnpAt := s.now + 1 })
  else s

/-- The RoCE packet of a kind in `want` at the head of a port's buffer leaves it for its queue pair, after a CNP where it is marked CE
(R185). -/
def takePkt (p : Nat) (want : RoceOp → Bool) (s : State) : Option (Nat × RocePkt) × State :=
  let s := ethSkip p s
  match headPkt s p want with
  | none => (none, s)
  | some (q, k) => (some (q, k), if k.ce then sendCnp q (ethTake p s) else ethTake p s)

/-- The R_Key matches a registration of an object of the context, and the range lies inside it (R176). -/
def rkeyOk (s : State) (c rkey va len : Nat) : Bool :=
  let m := moOf s (rkey % 2 ^ 16)
  decide (m.st = .live) && decide (m.ctx = c) && decide (m.rkey.map (·.toNat) = some (rkey / 2 ^ 16)) &&
    decide (m.va ≤ va) && decide (va + len ≤ m.va + m.size)

/-- Context address of receive slot k (R178). -/
def slotVa (s : State) (x : Qp) (k : Nat) : Nat :=
  (moOf s x.ring).va + x.rqOff + (k % 2 ^ x.rqLog) * 2 ^ x.slotLog

/-- The header of a receive slot (R179). -/
def slotHeader (kind len imm psn va rkey : Nat) : Bytes :=
  leBytes 1 kind ++ leBytes 3 0 ++ leBytes 4 len ++ leBytes 4 imm ++ leBytes 3 psn ++ leBytes 1 0 ++ leBytes 8 va ++
  leBytes 4 rkey ++ leBytes 36 0

/-- A free receive slot for the next message (R178). -/
def slotFree (s : State) (x : Qp) : Bool := decide (x.msgs < (evOf s x.rqEvent).cnt.toNat)

/-- What an accepted packet lands, and the queue pair's inbound state after it. -/
structure Landing where
  writes : List (Nat × Bytes)
  /-- context address of the payload -/
  at' : Nat
  inb : QpIn
  msgs : Nat
  ev : Bool
  /-- R_Key of a WRITE -/
  rkey : Option Nat := none
  deriving DecidableEq, Repr

/-- Why a packet is not accepted. -/
inductive Refuse where
  | rnr
  | invalid
  | access (va : Nat)
  /-- the receive ring is not mapped at an address -/
  | fault (va : Nat)
  deriving DecidableEq, Repr

/-- The end of a WRITE with immediate takes a receive slot (R178, R179). -/
def immEnd (s : State) (x : Qp) (k : RocePkt) (va rkey len : Nat) (w : Landing) : Except Refuse Landing :=
  if !slotFree s x then .error .rnr
  else if !ringFits s x then .error (.fault (slotVa s x x.msgs))
  else
    .ok { w with
      writes := w.writes ++ [(slotVa s x x.msgs, slotHeader 2 len k.imm.toNat k.psn.toNat va rkey)],
      msgs := x.msgs + 1, ev := true }

/-- A packet of a WRITE: `first` carries the RETH (R176, R177). -/
def writePkt (s : State) (x : Qp) (k : RocePkt) (first last imm : Bool) : Except Refuse Landing :=
  let n := k.payload.length
  let start : Option (Nat × Nat × Nat × Nat) :=
    match first, x.inb with
    | true, .none => some (k.va.toNat, k.rkey.toNat, k.dmaLen.toNat, 0)
    | false, .write _ va rkey len got => some (va, rkey, len, got)
    | _, _ => none
  match start with
  | none => .error .invalid
  | some (va, rkey, len, got) =>
    if !rkeyOk s x.ctx rkey va len then .error (.access va)
    else if decide (len < got + n) || (last && decide (got + n ≠ len)) then .error .invalid
    else
      let w : Landing := { writes := [(va + got, k.payload)], at' := va + got,
                           inb := if last then .none else .write false va rkey len (got + n), msgs := x.msgs,
                           ev := last && x.evw, rkey := some rkey }
      if imm then immEnd s x k va rkey len w else .ok w

/-- A packet of a SEND (R178, R179). -/
def sendPkt (s : State) (x : Qp) (k : RocePkt) (first last : Bool) : Except Refuse Landing :=
  let n := k.payload.length
  let start : Except Refuse Nat :=
    match first, x.inb with
    | true, .none => if slotFree s x then .ok 0 else .error .rnr
    | false, .send _ got => .ok got
    | _, _ => .error .invalid
  match start with
  | .error e => .error e
  | .ok got =>
    let va := slotVa s x x.msgs
    if !ringFits s x then .error (.fault va)
    else if 2 ^ x.slotLog < 64 + got + n then .error .invalid
    else
      .ok { writes := (va + 64 + got, k.payload) ::
              (if last then [(va, slotHeader 1 (got + n) 0 k.psn.toNat 0 0)] else []),
            at' := va + 64 + got, inb := if last then .none else .send x.msgs (got + n),
            msgs := if last then x.msgs + 1 else x.msgs, ev := last }

/-- An in-sequence packet, by its opcode (R177). -/
def pktLanding (s : State) (x : Qp) (k : RocePkt) : Except Refuse Landing :=
  match k.op with
  | .writeFirst => writePkt s x k true false false
  | .writeMiddle => writePkt s x k false false false
  | .writeLast => writePkt s x k false true false
  | .writeOnly => writePkt s x k true true false
  | .writeLastImm => writePkt s x k false true true
  | .writeOnlyImm => writePkt s x k true true true
  | .sendFirst => sendPkt s x k true false
  | .sendMiddle => sendPkt s x k false false
  | .sendLast => sendPkt s x k false true
  | .sendOnly => sendPkt s x k true true
  | .ack | .nak | .cnp | .other => .error .invalid

/-- Bytes written to HBM objects of a context through its page tables: none where a range may not be written. Answers the
mirror messages the landing waits for (R176, 10 R276). -/
def netWrite (c : Nat) : List (Nat × Bytes) → List Nat → State → Option (List Nat × State)
  | [], ms, s => some (ms, s)
  | (_, []) :: r, ms, s => netWrite c r ms s
  | (va, b) :: r, ms, s =>
    match hbmPieces s c va b.length true with
    | none => none
    | some ps =>
      let w := landPieces ps b ms s
      netWrite c r w.1 w.2

/-- A packet's bytes have been written: its acknowledgement waits for their landing (R180). -/
def qpLanded (q psn : Nat) (ev dup : Bool) (waits : List Nat) (s : State) : State :=
  let x := qpOf s q
  setQp s q { x with
    lands := x.lands ++ [{ id := x.nextLand, psn := psn, ev := ev, dup := dup, waits := waits }], nextLand := x.nextLand + 1 }

/-- A duplicate lands its bytes again where they landed before, and is acknowledged again (R180). Bytes of a WRITE whose
registration has ended, or that reach beyond its object, fail the check of R176. -/
def dupPkt (q : Nat) (k : RocePkt) (s : State) : State :=
  let x := qpOf s q
  let psn := k.psn.toNat
  match x.hist.find? (fun h => decide (h.1 = psn)) with
  | none => qpLanded q psn false true [] s
  | some (_, va, rkey) =>
    let write := !sendOp k.op
    if write && !(rkey.any (fun r => rkeyOk s x.ctx r va k.payload.length)) then qpNak q psn synAccess .access va s
    else if !write && !ringFits s x then qpFault q (some va) s
    else
      match netWrite x.ctx [(va, k.payload)] [] s with
      | none => qpFault q (some va) s
      | some w => qpLanded q psn false true w.1 w.2
where
  /-- A packet of a SEND. -/
  sendOp (o : RoceOp) : Bool :=
    decide (o = .sendFirst) || decide (o = .sendMiddle) || decide (o = .sendLast) || decide (o = .sendOnly)

/-- ROCE_INBOUND_PACKET (R176 to R180): the request at the head of the buffer of port `p`. -/
def effRoceInbound (p : Nat) (s : State) : State :=
  match takePkt p (fun o => decide (o ≠ .ack) && decide (o ≠ .nak) && decide (o ≠ .cnp)) s with
  | (none, s) => s
  | (some (q, k), s) =>
    let x := qpOf s q
    let psn := k.psn.toNat
    let ahead := (psn + 2 ^ 24 - x.epsn) % 2 ^ 24
    if k.op = .other then qpNak q psn synInvalid .request 0 s
    else if 2 ^ 23 ≤ ahead then dupPkt q k s
    else if ahead ≠ 0 then qpReply q .nak x.epsn synSeq s
    else
      match pktLanding s x k with
      | .error .rnr => qpReply q .nak psn synRnr s
      | .error .invalid => qpNak q psn synInvalid .request 0 s
      | .error (.access va) => qpNak q psn synAccess .access va s
      | .error (.fault va) => qpFault q (some va) s
      | .ok w =>
        match netWrite x.ctx w.writes [] s with
        | none => qpFault q (some w.at') s
        | some r =>
          qpLanded q psn w.ev false r.1 (setQp r.2 q { x with
            epsn := (psn + 1) % 2 ^ 24, inb := w.inb, msgs := w.msgs, hist := (psn, w.at', w.rkey) :: x.hist })

/-- ROCE_PACKET_LANDED (R180): the oldest packet whose bytes have landed is acknowledged, and a message's end adds 1 to
RX_EVENT. In ERROR nothing is sent. -/
def effRoceLanded (q : Nat) (s : State) : State :=
  let x := qpOf s q
  match x.lands with
  | l :: r =>
    if l.waits.isEmpty then
      let s := setQp s q { x with lands := r }
      let s := if x.st = .rts then qpReply q .ack l.psn synAck s else s
      if l.ev && !l.dup && evOwned s x.ctx x.rxEvent then
        evAdd x.rxEvent 1 { code := 0, src := 8, unit := x.portNo } s
      else s
    else s
  | [] => s

/-! ## Outbound WRITE (R182 to R184) -/

/-- Packets of one WRITE from payload pieces (R183). -/
def writeTx (va rkey len : Nat) (l : List Bytes) (psn : Nat) : List RoceTx :=
  (List.range l.length).map (fun i =>
    let b := lget [] l i
    let first := decide (i = 0)
    let last := decide (i + 1 = l.length)
    { dqpn := 0, psn := (psn + i) % 2 ^ 24,
      op := if first && last then .writeOnly else if first then .writeFirst else if last then .writeLast else .writeMiddle,
      va := if first then va else 0, rkey := if first then rkey else 0, len := if first then len else 0, payload := b })

/-- The packets of request `i`, read from the send ring and its source; or none where it may not be sent, with the address that
faults, if one does (R182, R184). -/
def requestTx (s : State) (hr : List Host.Cell) (x : Qp) (i psn : Nat) : Except (Option Nat) (List RoceTx) :=
  let ringVa := (moOf s x.ring).va + 32 * (i % 2 ^ x.sqLog)
  let b := (vaRead s hr x.ctx ringVa 32).1
  let len := leAt b 4 4
  let src := leAt b 8 8
  let t := translate s x.ctx src len
  if !ringFits s x then .error (some ringVa)
  else if byteAt b 0 ≠ 1 || len = 0 || decide (2 ^ 31 < len) then .error none
  else if t.2.isSome then .error t.2
  else if !x.clearOk && t.1.any (fun pc => decide (pc.mo.cls = 0)) then .error none
  else
    .ok (writeTx (leAt b 16 8) (leAt b 24 4) len (chunksN x.mtu (ceilDiv len x.mtu) (vaRead s hr x.ctx src len).1) psn)

def sendTx (q : Nat) (l : List RoceTx) (s : State) : State := l.foldl (fun s k => ethSend q k s) s

/-- The next request of a queue pair can be posted (R183). -/
def canPost (s : State) (q : Nat) : Bool :=
  let x := qpOf s q
  domOn s dNET && domOn s dMEM && decide (x.st = .rts) && decide (x.sent < (evOf s x.sqEvent).cnt.toNat) &&
    !((ethOf s x.portNo).paused && x.vlan)

/-- ROCE_WRITE_POST (R183, R184): the next request, once SQ_EVENT exceeds its number. -/
def effRocePost (q : Nat) (hr : List Host.Cell) (s : State) : State :=
  let x := qpOf s q
  if !canPost s q then s
  else
    match requestTx s hr x x.sent x.spsn with
    | .error va => qpFault q va (drawn s)
    | .ok l =>
      let last := (x.spsn + l.length + 2 ^ 24 - 1) % 2 ^ 24
      let y := { x with
        sent := x.sent + 1, spsn := (x.spsn + l.length) % 2 ^ 24, ackAt := if x.outs.isEmpty then s.now else x.ackAt,
        outs := x.outs ++ [{ idx := x.sent, psnFirst := x.spsn, psnLast := last }] }
      sendTx q l (setQp (drawn s) q y)

/-- Every request not completely acknowledged is sent again. -/
def resend (q : Nat) (hr : List Host.Cell) (s : State) : State :=
  let x := qpOf s q
  x.outs.foldl (fun s o =>
    if (qpOf s q).st ≠ .rts then s
    else
      match requestTx s hr x o.idx o.psnFirst with
      | .error va => qpFault q va s
      | .ok l => sendTx q l s) (drawn s)

/-- Requests whose last packet a PSN covers complete in order, each adding 1 to CMP_EVENT (R183). -/
def ackOuts (q psn : Nat) : List QpOut → State → State
  | [], s => setQp s q { qpOf s q with outs := [] }
  | o :: r, s =>
    if (psn + 2 ^ 24 - o.psnLast) % 2 ^ 24 < 2 ^ 23 then
      let x := qpOf s q
      let s := setQp s q { x with completed := x.completed + 1, outs := r }
      ackOuts q psn r (if evOwned s x.ctx x.cmpEvent then
        evAdd x.cmpEvent 1 { code := 0, src := 8, unit := x.portNo } s else s)
    else setQp s q { qpOf s q with outs := o :: r }

/-- ROCE_ACK_RECEIVED (R183). -/
def effRoceAck (p : Nat) (s : State) : State :=
  match takePkt p (fun o => decide (o = .ack)) s with
  | (none, s) => s
  | (some (q, k), s) =>
    let x := qpOf s q
    ackOuts q k.psn.toNat x.outs (setQp s q { x with retries := 0, rnr := 0, ackAt := s.now })

/-- ROCE_NAK_RECEIVED (R174): an RNR NAK is retried up to RNR_RETRY; any other puts the queue pair in ERROR. -/
def effRoceNak (p : Nat) (hr : List Host.Cell) (s : State) : State :=
  match takePkt p (fun o => decide (o = .nak)) s with
  | (none, s) => s
  | (some (q, k), s) =>
    let x := qpOf s q
    if k.syndrome.toNat / 32 ≠ 1 then qpError q .nak 0 s
    else if x.rnrMax = 7 ∨ x.rnr < x.rnrMax then resend q hr (setQp s q { x with rnr := x.rnr + 1, ackAt := s.now })
    else qpError q .rnr 0 s

/-- ROCE_ACK_TIMEOUT (R173, R174). -/
def effRoceTimeout (q : Nat) (hr : List Host.Cell) (s : State) : State :=
  let x := qpOf s q
  if !domOn s dNET || x.st ≠ .rts || x.outs.isEmpty || decide (s.now < x.ackAt + x.timeout) then s
  else if x.retries < x.retryMax then resend q hr (setQp s q { x with retries := x.retries + 1, ackAt := s.now })
  else qpError q .retry 0 s

/-! ## Congestion and link state (R169, R174, R185) -/

/-- ROCE_CNP_RECEIVED (R185). -/
def effRoceCnp (p : Nat) (s : State) : State :=
  match takePkt p (fun o => decide (o = .cnp)) s with
  | (none, s) => s
  | (some (q, _), s) =>
    let x := qpOf s q
    setQp s q { x with rate := max 1000000000 (x.rate / 2), rateAt := s.now }

/-- ROCE_RATE_INCREASE (R185): 55 µs without a CNP. -/
def effRoceRate (q : Nat) (s : State) : State :=
  let x := qpOf s q
  if domOn s dNET && decide (x.st = .rts) && decide (x.rateAt + 55000 ≤ s.now) then
    setQp s q { x with rate := min 200000000000 (x.rate + 5000000000), rateAt := s.now }
  else s

/-- ETH_LINK_DOWN (R174). -/
def effEthDown (p : Nat) (s : State) : State :=
  let x := ethOf s p
  if x.up then raise { code := errEthLinkDown, src := 8, unit := p } (setEth s p { x with up := false }) else s

/-- ETH_LINK_UP (R169): its reference clock runs (log 72). -/
def effEthUp (p : Nat) (s : State) : State :=
  if domOn s dNET then { setEth s p { ethOf s p with up := true } with pwr.clkLost := s.pwr.clkLost &&& 0x7 } else s

/-! ## Meanings of the commands -/

/-- QP_CREATE (07 R173). -/
def execQpCreate (x : NetCmd) (s : State) : Host.Outcome State Fault Refusal :=
  .next (effQpCreate x s)

/-- QP_DESTROY (07 R172). -/
def execQpDestroy (x : NetCmd) (s : State) : Host.Outcome State Fault Refusal :=
  .next (effQpDestroy x s)

/-- QP_FAIL (07 R174). -/
def execQpFail (x : NetCmd) (s : State) : Host.Outcome State Fault Refusal :=
  .next (effQpFail x s)

/-- QP_RECOVER (07 R172). -/
def execQpRecover (x : NetCmd) (s : State) : Host.Outcome State Fault Refusal :=
  .next (effQpRecover x s)

/-- MR_REG (07 R175). -/
def execMrReg (x : NetCmd) (s : State) : Host.Outcome State Fault Refusal :=
  .next (effMrReg x s)

/-- MR_DEREG (07 R175). -/
def execMrDereg (x : NetCmd) (s : State) : Host.Outcome State Fault Refusal :=
  .next (effMrDereg x s)

/-- ETH_FRAME_RECEIVE (07 R170). -/
def execEthFrameReceive (p : Nat) (f : EthFrame) (s : State) : Host.Outcome State Fault Refusal :=
  .next (effEthFrame p f s)

/-- PFC_PAUSE_RECEIVED (07 R171). -/
def execPfcPauseReceived (p : Nat) (s : State) : Host.Outcome State Fault Refusal :=
  .next (effPfcPause p s)

/-- ROCE_INBOUND_PACKET (07 R177). -/
def execRoceInboundPacket (p : Nat) (s : State) : Host.Outcome State Fault Refusal :=
  .next (effRoceInbound p s)

/-- ROCE_PACKET_LANDED (07 R180). -/
def execRocePacketLanded (q : Nat) (s : State) : Host.Outcome State Fault Refusal :=
  .next (effRoceLanded q s)

/-- ROCE_WRITE_POST (07 R183). -/
def execRoceWritePost (q : Nat) (hr : List Host.Cell) (s : State) : Host.Outcome State Fault Refusal :=
  .next (effRocePost q hr s)

/-- ROCE_ACK_RECEIVED (07 R183). -/
def execRoceAckReceived (p : Nat) (s : State) : Host.Outcome State Fault Refusal :=
  .next (effRoceAck p s)

/-- ROCE_NAK_RECEIVED (07 R174). -/
def execRoceNakReceived (p : Nat) (hr : List Host.Cell) (s : State) : Host.Outcome State Fault Refusal :=
  .next (effRoceNak p hr s)

/-- ROCE_ACK_TIMEOUT (07 R174). -/
def execRoceAckTimeout (q : Nat) (hr : List Host.Cell) (s : State) : Host.Outcome State Fault Refusal :=
  .next (effRoceTimeout q hr s)

/-- ROCE_CNP_RECEIVED (07 R185). -/
def execRoceCnpReceived (p : Nat) (s : State) : Host.Outcome State Fault Refusal :=
  .next (effRoceCnp p s)

/-- ROCE_RATE_INCREASE (07 R185). -/
def execRoceRateIncrease (q : Nat) (s : State) : Host.Outcome State Fault Refusal :=
  .next (effRoceRate q s)

/-- ETH_LINK_DOWN (07 R174). -/
def execEthLinkDown (p : Nat) (s : State) : Host.Outcome State Fault Refusal :=
  .next (effEthDown p s)

/-- ETH_LINK_UP (07 R169). -/
def execEthLinkUp (p : Nat) (s : State) : Host.Outcome State Fault Refusal :=
  .next (effEthUp p s)

end Sys2Proof.Machine
end

