-- ==== Sys2Proof/Machine/Domains.lean ====
section
/-!
DEFINITION. Power domains: what switching one on or off does, and the checks of a request (13 R328 to R333).
-/
namespace Sys2Proof.Machine

def setDom (d : Nat) (b : Bool) (s : State) : State :=
  { s with pwr.on := if b then s.pwr.on ||| BitVec.ofNat 10 (2 ^ d) else s.pwr.on &&& ~~~(BitVec.ofNat 10 (2 ^ d)) }

/-- A bit of a set of domains. -/
def inDoms (v d : Nat) : Bool := v.testBit d

/-- The order in which domains switch on (R331). -/
def onOrder : List Nat := [9, 4, 0, 2, 3, 1, 5, 6, 7, 8]

/-- The ports of a link domain. -/
def domPorts (d : Nat) : List Nat := (List.range 4).map (fun i => if d = dLNKA then i else 4 + i)

/-- SEC switches off: the keys go into the retention store, wrapped under K_boot (11 R292). -/
def secOff (s : State) : State :=
  { s with
    kh.ret := some {
      ctxKey := s.kh.ctxKey.map (fun e => (e.1, e.2.map (retWrap s))),
      jobKey := (s.kh.jobKey.map (fun e => (e.1, e.2.key.map (retWrap s)))).filter (fun e => e.2.isSome),
      pairSecret := s.kh.pairSecret.map (retWrap s) },
    kh.ctxKey := [],
    kh.jobKey := tmap {} (fun _ (k : JobKey) => { k with key := none }) s.kh.jobKey,
    kh.pairSecret := none, kh.nonce := none }

/-- SEC switches on: the keys are unwrapped and the engine tables are loaded (11 R292). -/
def secOn (s : State) : State :=
  match s.kh.ret with
  | none => s
  | some r =>
    let s := { s with
      kh.ret := none, kh.ctxKey := retKeys s r.ctxKey, kh.pairSecret := r.pairSecret.bind (retOpen s),
      kh.jobKey := (retKeys s r.jobKey).foldl (fun t e => tput {} t e.1 { tget ({} : JobKey) t e.1 with key := e.2 }) s.kh.jobKey }
    if domOn s dMEM then reloadTables s else s

/-- NET switches off (R332, 07 R174). -/
def netOff (s : State) : State :=
  let s := qpsError (fun _ => true) .netOff s
  { s with eth.port := s.eth.port.map (fun (x : EthPort) =>
      { x with up := false, paused := false, pausing := false, heldTx := [], fill := 0, inq := [] }) }

/-- A domain switches off (R329, R332). -/
def domainOff (d : Nat) (s : State) : State :=
  if !domOn s d then s
  else if d = dSEC then setDom d false (secOff s)
  else if d = dMEM then setDom d false { s with kh.memKey := [], kh.gcmKey := [] }
  else if d = dHOST then setDom d false { s with pwr.dllUp := false, pwr.cxl := false, pwr.relaxed := false }
  else if d = dLNKA ∨ d = dLNKB then setDom d false (each (domPorts d) portOff s)
  else if d = dNET then setDom d false (netOff s)
  else setDom d false (scrubQuad (d - 5) none s)

/-- A domain switches on (R328); MEM takes SEC with it for the reload of the engine tables. -/
def domainOn (d : Nat) (s : State) : State :=
  if domOn s d then s
  else if d = dSEC then secOn (setDom d true s)
  else if d = dMEM then
    let s := if domOn s dSEC then s else secOn (setDom dSEC true s)
    reloadTables (setDom d true s)
  else if d = dLNKA ∨ d = dLNKB then each (domPorts d) portOn (setDom d true s)
  else setDom d true s

/-- The domains become the set `v`: first those that switch on, in order, then those that switch off, in reverse (R331). -/
def domainsTo (v : Nat) (s : State) : State :=
  let s := each (onOrder.filter (inDoms v)) domainOn s
  each (onOrder.reverse.filter (fun d => !inDoms v d)) domainOff s

/-! ## Checks (R331, R332) -/

/-- The device is bound in BINDING, SYNCING or PAIRED. -/
def pairLive (s : State) : Bool :=
  decide (s.pair.st = .binding) || decide (s.pair.st = .syncing) || decide (s.pair.st = .paired)

/-- A domain of the set stays on while one it needs is off. -/
def needsBroken (v : Nat) : Bool :=
  !inDoms v dMEM && (inDoms v dNET || inDoms v 5 || inDoms v 6 || inDoms v 7 || inDoms v 8)

/-- The link domain of the Mirror Port. -/
def mirrorDom (s : State) : Nat := if mirrorPort s < 4 then dLNKA else dLNKB

/-- Something keeps MEM on (R332). -/
def memBusy (s : State) : Bool :=
  s.obj.busy || s.hif.hbBusy || s.biv.busy || s.sealer.busy || s.txn.ntx.busy || decide (s.pair.st = .binding) ||
    decide (s.pair.st = .syncing) || (s.pair.role && decide (s.pair.st = .paired))

/-- A switch-off to the set `v` is refused (R332); `host` where a HOST switch-off is refused while the link is up. -/
def offRefused (v : Nat) (host : Bool) (s : State) : Bool :=
  let off := fun (d : Nat) => domOn s d && !inDoms v d
  (off dHOST && host && s.pwr.dllUp) ||
    (List.range 4).any (fun q => off (dCQ q) && (quadOf s q).holder.isSome) ||
    (off dMEM && memBusy s) || (off (mirrorDom s) && pairLive s)

/-- The request switches SEC, MEM or HOST off: a gating request (R337). -/
def isGating (v : Nat) (s : State) : Bool :=
  [dSEC, dMEM, dHOST].any (fun d => domOn s d && !inDoms v d)

/-- The domains that a request would switch off. -/
def offSet (v : Nat) (s : State) : Nat := (((List.range 10).filter (fun d => domOn s d && !inDoms v d)).map (fun d => 2 ^ d)).sum

end Sys2Proof.Machine
end

