-- ==== Sys2Proof/Machine/Reset.lean ====
section
/-!
DEFINITION. The host-loss sequence (06 R162 to R164), the resets (13 R343 to R346) and the boot sequence (13 R347, R349).
-/
namespace Sys2Proof.Machine

/-! ## Cold reset (13 R343, R346) -/

/-- A Cold reset: everything goes but VBAT, the flash, the fuses and what the board holds; `cause` is PCR_RSTCAUSE.COLD. -/
def coldReset (cause : Nat) (s : State) : State :=
  let k := drawKey s
  let b : State := {}
  { b with
    pending := s.pending, now := s.now, free := k.2.free, out := s.out, id := s.id, vb := s.vb, rtc := s.rtc,
    hif.nextReq := s.hif.nextReq, held := s.held.filter (fun e => decide (e.1 = 0x40002000)),
    flash := { b.flash with
      bank0 := s.flash.bank0, bank1 := s.flash.bank1, revoked := s.flash.revoked, minSvn := s.flash.minSvn,
      chassis := s.flash.chassis },
    pwr := { b.pwr with
      main := s.pwr.main, pwrOk := s.pwr.pwrOk, okAt := s.pwr.okAt, perstN := s.pwr.perstN, perstAt := s.pwr.perstAt,
      nodeStrap := s.pwr.nodeStrap, testN := s.pwr.testN, rstCold := BitVec.ofNat 4 cause, rstCore := 0,
      coldAt := s.now, mcAt := s.now, nboot := k.1 } }

/-- COLD_RESET (13 R343). -/
def effColdReset (cause : Nat) (s : State) : State := if mcRuns s then coldReset cause s else s

/-! ## Host loss (06 R162) -/

/-- The host-loss sequence begins; MEM, SEC and HOST are woken for it (13 R336). -/
def startLoss (cause core : Nat) (s : State) : State :=
  let s := domainsTo (s.pwr.on.toNat ||| 0x211) s
  let s := { s with
    hif.loss := .draining, hif.lossAt := s.now, hif.lossCause := cause, hif.lossCore := core, hif.reqs := [],
    rcv.step := 0, rcv.rctx := none, rcv.suspects := [], rcv.expired := [], rcv.queued := [], rcv.jobTrig := none,
    rcv.recs := [], rcv.scope := 0 }
  qpsError (fun _ => true) .hostLoss s

/-- The pins and the link show the event, and the function's configuration is reset (log 67). -/
def lossPins (cause : Nat) (s : State) : State :=
  { s with
    pwr.perstN := s.pwr.perstN && decide (cause ≠ 1), pwr.dllUp := s.pwr.dllUp && decide (cause = 3), pwr.cxl := false,
    pwr.relaxed := false, hif.msixEn := false, hif.msixMask := false, hif.bars := [0, 0, 0], hif.msix := [] }

/-- HOST_LOSS_TRIGGER (06 R162): 0 Data Link Layer down, 1 PERST#, 2 hot reset, 3 Function Level Reset. Before host ready, and
while HOST is off, no sequence starts (13 R335, R347). -/
def effHostLoss (cause : Nat) (s : State) : State :=
  let s := lossPins cause s
  if !mcRuns s || !domOn s dHOST || s.pwr.stage ≠ 5 || s.hif.loss ≠ .idle then s else startLoss cause 1 s

/-- A reset that is not a host event runs the sequence first, with LOSS_CAUSE 0 (13 R344). -/
def requestCoreReset (core : Nat) (s : State) : State :=
  if s.hif.loss ≠ .idle then s else startLoss 0 core s

/-- A write of a tile's descriptor is outstanding in the objects of a region (06 R160, CUT). -/
def writeOut (s : State) (r : Nat) (t : Nat) (x : Slot) : Bool :=
  decide (x.st = .executing) && decide (x.kind = 4) && decide (bitsAt x.desc 16 0 2 = 0) &&
    (!x.begun || x.waits.any (fun a =>
      match a with
      | .mir _ => true
      | _ => false)) && decide (tileOwner s t = some (regCtx s r)) &&
    (List.range (moveRows x.desc)).any (fun i => (regionObjs s r).any (fun o =>
      rangesMeet o.va (o.va + o.size) (moveRemote x.desc i) (moveRemote x.desc i + moveLen x.desc)))

/-- The drain of a region was cut: a write of a tile or of the Deposit Window into it has not landed. -/
def regionCut (s : State) (r : Nat) : Bool :=
  s.tile.any (fun e => e.2.win.any (fun w => writeOut s r e.1 w.2)) ||
    s.hif.depWait.any (fun w =>
      let m := moOf s (depOf s w.entry).memobj.toNat
      m.biv && decide (m.bivReg = r))

/-- The Deposit entries of a region that have data without its flag (06 R160). -/
def regionInc (s : State) (r : Nat) : List Nat :=
  tkeys (fun _ (x : DepEnt) =>
    let m := moOf s x.memobj.toNat
    x.dseen && decide (x.st ≠ .idle) && decide (m.st ≠ .free) && m.biv && decide (m.bivReg = r)) s.hif.dep

/-- The regions a loss seals: DECLARED with at least one object (06 R162). -/
def lossRegions (s : State) : List Nat :=
  (List.range 16).filter (fun r => decide (regState s r = 1) && !(regionObjs s r).isEmpty)

/-- The drain ends (06 R162): every tile stops, every seal slot closes, and the records take their flags and time. -/
def drainNow (s : State) : State :=
  let regs := lossRegions s
  let cuts := regs.filter (regionCut s)
  let s := each (s.tile.map (·.1)) stopTile s
  let s := { s with sealer.slots := [], sealer.rows := [] }
  let s := each regs (fun r s => sealPrepare r (cuts.contains r) (regionInc s r) s.hif.lossCause (regSync r s)) s
  { s with hif.loss := .sealing }

/-- HOST_LOSS_DRAIN_END (06 R162): 1 ms after the trigger. -/
def effDrainEnd (s : State) : State :=
  if s.hif.loss ≠ .draining || s.now < s.hif.lossAt + msNs then s else drainNow s

/-! ## Device-Core reset (13 R343 to R345, 14 R374) -/

/-- The counted recovery resets within the Escalation Window (14 R374). -/
def recentResets (s : State) : List Nat :=
  s.rcv.resets.filter (fun t => decide (s.now ≤ t + param s 0x5021 900 * 1000000000))

/-- A recovery reset is counted; at Escalation Count the device is out of service (14 R374, R375). -/
def escalate (core : Nat) (s : State) : State :=
  if core ≠ 3 then s
  else
    let s := { s with rcv.resets := s.now :: s.rcv.resets }
    let s := { s with rcv.resets := recentResets s }
    if s.rcv.oos || s.rcv.resets.length < param s 0x5020 4 then s
    else
      let s := emergency { code := errOutOfService, src := 11 } { s with rcv.oos := true }
      if pairBound s && !s.pair.role then setAddr 0xFF s else lsaSync s

/-- The records due at the first setting of ERQ EN after a loss (06 R164, 14 R375); `dueRecords` adds those of the regions. -/
def lossRecords (cause : Nat) (s : State) : State :=
  let keep := s.pwr.due.filter (fun e => decide (e.code ≠ errHostLinkDown) && decide (e.code ≠ errOutOfService))
  let down : ErrRec := { code := errHostLinkDown, src := 4, detail := cause }
  let s := emergency down s
  { s with pwr.due := keep ++ [down] ++
      (if s.rcv.oos then [{ code := errOutOfService, src := 11 }] else []) }

/-- The pair through a Device-Core reset: SYNCING starts anew (10 R283); a checkpoint in progress fails (log 47). -/
def pairReset (s : State) : State :=
  let s := { s with pair.before := [] }
  if s.pair.st = .paired ∨ s.pair.st = .syncing then syncAnew s else s

/-- What a Device-Core reset clears (13 R343), short of its own cause and records. -/
def coreClear (s : State) : State :=
  let b : State := {}
  let secret := match s.kh.ret with
    | some r => r.pairSecret
    | none => s.kh.pairSecret.map (retWrap s)
  let s := abortHeld { s with dict.mbxBusy := false }
  let s := { s with
    erq := b.erq, hif := { b.hif with nextReq := s.hif.nextReq }, biv.busy := false, biv.secret := 0,
    obj := { b.obj with cookies := s.obj.cookies },
    held := s.held.filter (fun e => !([0x200040, 0x600040, 0x700008, 0xC00040].contains e.1)),
    quad := b.quad, tile := [], mesh := [], txn := b.txn, eth := b.eth, sealer := { b.sealer with written := s.sealer.written },
    rcv := { b.rcv with
      oos := s.rcv.oos, resets := s.rcv.resets, aseq := s.rcv.aseq, abseils := s.rcv.abseils,
      convictions := s.rcv.convictions },
    kh := { b.kh with
      ret := some { ctxKey := [], jobKey := [], pairSecret := secret }, chassis := s.kh.chassis, jtag := s.kh.jtag,
      extest := s.kh.extest },
    dict := { s.dict with
      wait := (match s.dict.wait with
        | some w => if w.mbx then none else some w
        | none => none),
      later := s.dict.later.filter (fun x => !x.ofMailbox),
      mbxReq := b.dict.mbxReq, mbxRsp := b.dict.mbxRsp, mbxIrq := false, mbxVec := 0, mbxBusy := false, mbxDone := false,
      mbxDetail := 0, mbxCode := 0, mbxRlen := 0 },
    pwr := { s.pwr with
      on := (s.pwr.on &&& 0x00C) ||| 0x001, pend := 0, busy := false, moving := false, goal := none, defer := none,
      cur := .p0, stage := 2, warm := true, dllUp := false, cxl := false, relaxed := false, d3 := false } }
  pairReset (each (List.range 8) portCoreReset s)

/-- A Device-Core reset of a cause; at L2 it is a Cold reset (11 R306). -/
def coreReset (core : Nat) (s : State) : State :=
  if s.kh.dbg = 2 then coldReset 4 s
  else
    let cause := s.hif.lossCause
    let s := coreClear s
    lossRecords cause (escalate core { s with pwr.rstCore := BitVec.ofNat 4 core })

/-- BIVOUAC_SEAL_DONE (06 R162): the regions are SEALED, the keys zeroized, and the Device-Core reset follows. -/
def sealAndReset (s : State) : State :=
  let s := each (lossRegions s) sealFinish s
  let s := each ((List.range 16).filter (fun r => decide (regState s r = 1) && !s.pair.mirrored.contains r)) clearRec s
  coreReset s.hif.lossCore (zeroKeys s)

def effSealDone (s : State) : State := if s.hif.loss = .sealing then sealAndReset s else s

/-- The drain and the sealing at once, for a sequence in progress. -/
def finishLoss (s : State) : State :=
  sealAndReset (if s.hif.loss = .draining then drainNow s else s)

/-- DEVICE_CORE_RESET (13 R343, R344): the host-loss sequence it runs first, to its end. -/
def effCoreReset (core : Nat) (s : State) : State :=
  if !mcRuns s || s.pwr.stage ≠ 5 then s else finishLoss (requestCoreReset core s)

/-- QUADRANT_RESET (13 R343): the tiles are scrubbed, and ownership becomes none. -/
def effQuadReset (q : Nat) (s : State) : State :=
  if mcRuns s && decide (q < 4) && domOn s (dCQ q) then scrubQuad q none s else s

/-! ## Boot (13 R347, R349) -/

/-- The Stoleg-FD node comes on the bus (15 R387, R396, R397): a HEARTBEAT, then the emergencies that waited. -/
def hbPayload (s : State) : Bytes :=
  let cur := match s.pwr.cur with
    | .p0 => 0
    | .p1 => 1
    | .p2 => 2
    | .p3 => 3
  leBytes 1 (s.pwr.stage + 16 * b2n s.rcv.oos + 32 * b2n s.pwr.trial + 64 * b2n s.dict.conflict) ++ leBytes 1 cur ++
    leBytes 1 s.kh.dbg.toNat ++ leBytes 1 s.dict.hbCount.toNat ++ leBytes 4 ((s.now - s.pwr.coldAt) / 1000000000)

/-- A HEARTBEAT of the node (15 R396). -/
def sendHb (s : State) : State :=
  canSend 0xE (hbPayload s) { s with dict.hbAt := s.now, dict.hbCount := s.dict.hbCount + 1 }

def busJoin (s : State) : State :=
  let s := sendHb { s with dict.onBus := true }
  let l := s.dict.emerg
  l.foldl (fun s b => sendEmergency b s) { s with dict.emerg := [] }

/-- The stored value of entry `k` of a numeric array, or its default. -/
def arrayVal (s : State) (index k dflt : Nat) : Nat :=
  match tget [] s.dict.val (index * 256 + k) with
  | [] => dflt
  | b => ofLe b

/-- The persisted link settings enter the registers (15 R401). -/
def linkSettings (s : State) : State :=
  each (List.range 8) (fun p s =>
    let v := fun (i d : Nat) => arrayVal s i (p + 1) d
    let x := portOf s p
    let h := v 0x2002 256
    let y := v 0x2003 128
    let ok := decide (16 ≤ h) && decide (h + y ≤ 768)
    setPort s p { x with
      en := decide (v 0x2001 1 = 1), auto := decide (v 0x2006 1 = 1), replayMax := BitVec.ofNat 4 (v 0x2004 8),
      replayTo := BitVec.ofNat 12 (v 0x2005 8), h := if ok then BitVec.ofNat 10 h else x.h,
      y := if ok then BitVec.ofNat 10 y else x.y, cfgErr := x.cfgErr || !ok }) s

/-- A latched thermal trip is reported and its latch clears (18 R458). -/
def reportTrip (s : State) : State :=
  match s.vb.tripSensor with
  | none => s
  | some (n, t) =>
    owe { code := errThermal, src := 10, detail := n % 256 + 2 ^ 16 * (t % 2 ^ 16) } { s with vb.tripSensor := none }

/-- The nominal voltage of each rail whose regulator is on PMBus, in millivolts (18 R442, R443). -/
def railNominal : List (Nat × Nat) := [(1, 750), (2, 750), (4, 1100), (5, 400), (8, 750)]

/-- Boot stage 2 of a Cold reset: AON bring-up (13 R347 step 3, 15 R379, R382, 16 R415, R419, R420). -/
def aonUp (s : State) : State :=
  let s := { s with kh.chassis := s.flash.chassis.bind (kwUnwrap (kdf s.id.rootKey "KG9-PERSIST" [])) }
  let s := loadValues (settleGens (mergeCopies s))
  let s := if s.pwr.trial then s else raiseSvn s
  let boots := leBytes 4 (ofLe (tget [] s.dict.val (0x9001 * 256)) + 1)
  let s := persist 0x9001 0 boots s
  let s := linkSettings s
  let s := { s with
    dict.node := BitVec.ofNat 8 (param s 0x1021 0), pair.role := decide (param s 0x2420 0 = 2),
    pwr.mcPeriod := BitVec.ofNat 16 (param s 0x5013 1000), pwr.mcAt := s.now,
    rtc := if s.rtc.locked then s.rtc else { s.rtc with trim := BitVec.ofNat 9 (param s 0x4004 0) } }
  let s := if param s 0x2401 0 = 0 then setAddr (param s 0x2400 255) s else lsaSync s
  let s := reportTrip s
  let s := if s.pwr.rstCold = 6 then owe { code := errMcWatchdog, src := 10 } s else s
  let s := if s.pwr.bcode.toNat = errImageFallback then emergency { code := errImageFallback, src := 10 } s else s
  let s := emitAll (railNominal.map (fun r => Out.pmbusSet r.1 r.2)) { s with pwr.stage := 2, tele.since := s.now }
  let s := stbyDrive s
  if param s 0x1028 1 = 1 then busJoin s else s

/-- The state a boot ends in: idle, or P2 where a region is SEALED and the device is not bound (06 R162, 13 R334). -/
def hostUp (s : State) : State :=
  let s := each [dLNKA, dLNKB] domainOn { s with pwr.stage := 5, pwr.warm := false }
  let s := if s.pair.st = .syncing && !s.pair.role then mirrorAll s else s
  if s.hif.loss = .idle && !pairBound s && (List.range 16).any (fun r => decide (regState s r = 2)) then
    domainsTo 0x00D { s with pwr.record := 0x21D, pwr.cur := .p2 }
  else s

/-- BOOT_STAGE_COMPLETE (13 R347, R349): the step of boot that runs ends; STAGE advances but for the first of them. -/
def effBootStage (s : State) : State :=
  if !mcRuns s || s.pwr.parked then s
  else
    match s.pwr.stage with
    | 0 =>
      let s := { s with pwr.mcAt := s.now }
      if s.pwr.romRuns then imageSelect s
      else
        domainOn dHOST { flashProbe s with
          pwr.strapNode := s.pwr.nodeStrap, pwr.strapTest := s.pwr.testN, pwr.romRuns := true, pwr.parked := !s.pwr.testN }
    | 1 => aonUp s
    | 2 =>
      let s := each [dSEC, dMEM] domainOn s
      if s.pwr.warm then { s with pwr.stage := 3 }
      else { s with hbm := [], scrub := [{}, {}, {}, {}], pwr.stage := 3 }
    | 3 =>
      if s.pwr.warm then hostUp s else each [dLNKA, dLNKB] domainOn { s with pwr.stage := 4 }
    | 4 => hostUp s
    | _ => s

/-! ## Meanings of the commands -/

/-- HOST_LOSS_TRIGGER (06 R162). -/
def execHostLossTrigger (cause : Nat) (s : State) : Host.Outcome State Fault Refusal :=
  .next (effHostLoss cause s)

/-- HOST_LOSS_DRAIN_END (06 R162). -/
def execHostLossDrainEnd (s : State) : Host.Outcome State Fault Refusal :=
  .next (effDrainEnd s)

/-- BIVOUAC_SEAL_DONE (06 R162). -/
def execBivouacSealDone (s : State) : Host.Outcome State Fault Refusal :=
  .next (effSealDone s)

/-- COLD_RESET (13 R343). -/
def execColdReset (cause : Nat) (s : State) : Host.Outcome State Fault Refusal :=
  .next (effColdReset cause s)

/-- BOOT_STAGE_COMPLETE (13 R347). -/
def execBootStageComplete (s : State) : Host.Outcome State Fault Refusal :=
  .next (effBootStage s)

/-- DEVICE_CORE_RESET (13 R343). -/
def execDeviceCoreReset (core : Nat) (s : State) : Host.Outcome State Fault Refusal :=
  .next (effCoreReset core s)

/-- QUADRANT_RESET (13 R343). -/
def execQuadrantReset (q : Nat) (s : State) : Host.Outcome State Fault Refusal :=
  .next (effQuadReset q s)

end Sys2Proof.Machine
end

