-- ==== Sys2Proof/Machine/Keyholder.lean ====
section
/-!
DEFINITION. The Keyholder mailbox, tamper response, debug levels (11 R286 to R288, R302 to R306).
-/
namespace Sys2Proof.Machine

/-! ## The mailbox (R287, R288) -/

/-- A write of SEC_CMD, through BAR0 or the MC's view (R285): discarded while BUSY, and while SEC is off (01 R19, 13 R333). -/
def secCmd (act : State → State) (s : State) : State :=
  if !mcRuns s || !domOn s dSEC || s.kh.busy then s else act s

/-- A CTX_CREATE in progress names the slot (R288). -/
def slotNamed (k : Nat) (x : KhCmd × Nat) : Bool :=
  match x.1 with
  | .ctxCreate _ stage => (jkSlots (leBytes 64 stage.toNat)).contains k
  | .jkInstall _ _ _ | .jkErase _ | .chassisSet _ | .declare _ _ | .claim _ _ _ | .pairBind _ _ | .write _ => false

/-- A slot counts as bound (R288). -/
def slotBound (s : State) (k : Nat) : Bool := (jobKeyOf s k).bound.isSome || s.kh.run.any (slotNamed k)

/-- A command that takes the vote: at once, or after the time it takes (R300, log 13). -/
def secStart (c : KhCmd) (dur : Nat) (s : State) : State :=
  if dur = 0 && s.kh.run.isEmpty then khFinish c s else khQueue c dur { s with kh.busy := true }

/-- A command on a key, refused in L2 before anything else (R306 step 1, R309); `bad` is the code where its condition does not hold. -/
def keyCmd (bad : State → Option Nat) (c : State → KhCmd) (dur : Nat) (s : State) : State :=
  secCmd (fun s =>
    if s.kh.dbg = 2 then secEnd errSecureUnavailable s
    else
      match bad s with
      | some code => secEnd code s
      | none => if !khServes s false then secEnd errSecureUnavailable s else secStart (c s) dur s) s

/-- JK_INSTALL (R288). -/
def effJkInstall (slot snum dur : Nat) (s : State) : State :=
  keyCmd (fun s => if slotBound s slot then some errKeySlot else none) (fun s => .jkInstall slot snum s.kh.key) dur s

/-- JK_ERASE (R288). -/
def effJkErase (slot dur : Nat) (s : State) : State :=
  keyCmd (fun s => if slotBound s slot then some errKeySlot else none) (fun _ => .jkErase slot) dur s

/-- CHASSIS_SET (R288). -/
def effChassisSet (dur : Nat) (s : State) : State :=
  keyCmd (fun s => if s.kh.chassis.isSome then some errObjState else none) (fun s => .chassisSet s.kh.key) dur s

/-- A SEC_CMD whose OP is not in the table (R288). -/
def effSecUnknown (s : State) : State := secCmd (secEnd errCmdInvalid) s

/-! ## Debug commands, through the mailbox or the DBG_MAILBOX instruction (R288, R305 to R307) -/

/-- The paths of a debug command: the mailbox, and JTAG while DBG_MAILBOX is selected. On JTAG its code and result are
shifted out (log 53). -/
def dbgCmd (jtag : Bool) (act : State → Nat × Bytes × State) (s : State) : State :=
  if jtag then
    if !mcRuns s || s.kh.jtag ≠ 0x10 then s
    else if !domOn s dSEC then emit (.tdo (leBytes 2 errSecureUnavailable)) s
    else
      let r := act s
      emit (.tdo (leBytes 2 r.1 ++ r.2.1)) r.2.2
  else
    secCmd (fun s =>
      let r := act s
      let s := if r.2.1.isEmpty then r.2.2
        else { r.2.2 with kh.result := BitVec.ofNat 512 (ofLe r.2.1) }
      secEnd r.1 s) s

/-- DBG_CHALLENGE (R288). -/
def effDbgChallenge (jtag : Bool) (s : State) : State :=
  dbgCmd jtag (fun s =>
    if !s.kh.rngOk then (errSecureUnavailable, [], s)
    else
      let r := drawKey s
      (0, leBytes 8 s.id.uid.toNat ++ keyBytes r.1, { r.2 with kh.nonce := some r.1 })) s

/-- The debug authority key, where one is installed: object 0x6031 (R305). -/
def authKey (s : State) : Option Bytes :=
  match tget [] s.dict.val (0x6031 * 256) with
  | [] => none
  | b => some b

/-- A grant verifies against the nonce (R305). -/
def grantOk (s : State) (g : Bytes) (nonce : BitVec 256) : Bool :=
  match authKey s with
  | none => false
  | some pub =>
    decide (leAt g 0 4 = 0x544E5247) && decide (leAt g 8 8 = s.id.uid.toNat) && decide (sliceB g 16 32 = keyBytes nonce) &&
      decide (s.kh.dbg.toNat < byteAt g 4) && decide (byteAt g 4 ≤ 2) && ecdsaVerify pub (g.take 48) (sliceB g 64 96)

/-- Steps 2 and 3 of R306: contexts are evicted and keys zeroized; a command in progress is refused (step 1, log 53). -/
def evictAll (cause : Nat) (s : State) : State :=
  let s := s.kh.run.foldl (fun s r => khFail errSecureUnavailable r.1 s) { s with kh.run := [] }
  let s := each (tkeys (fun _ (x : Ctx) => decide (x.st = .live)) s.obj.ctx) (fun c s => ctxAbort c errDebugEvict s) s
  let s := zeroAll s
  { s with vb.zeroCause := cause }

/-- DBG_GRANT (R305, R306): `g` is the grant where it comes through JTAG, else SEC_GRANT holds it. The nonce is consumed. -/
def effDbgGrant (jtag : Option Bytes) (s : State) : State :=
  dbgCmd jtag.isSome (fun s =>
    let g := match jtag with
      | some g => g
      | none => putB (List.replicate 256 0) 0 s.kh.grant
    match s.kh.nonce with
    | none => (errDictAccess, [], s)
    | some n =>
      let s := { s with kh.nonce := none }
      if byteAt g 4 = 2 && s.pair.st ≠ .unbound then (errObjState, [], s)
      else if !grantOk s g n then (errDictAccess, [], s)
      else if byteAt g 4 = 2 then (0, [], { evictAll 3 s with kh.dbg := 2 })
      else (0, [], { s with kh.dbg := 1 })) s

/-- DBG_LOWER (R288, R306): at L2 a Cold reset. -/
def effDbgLower (jtag : Bool) (s : State) : State :=
  if s.kh.dbg = 2 && (if jtag then mcRuns s && domOn s dSEC && decide (s.kh.jtag = 0x10)
      else mcRuns s && domOn s dSEC && !s.kh.busy) then coldReset 4 s
  else
    dbgCmd jtag (fun s => if s.kh.dbg = 0 then (errObjState, [], s) else (0, [], { s with kh.dbg := 0 })) s

/-! ## Tamper and entropy (R286, R302) -/

/-- TAMPER_RESPONSE (R302): 1 supply glitch, 2 clock monitor. -/
def effTamper (cause : Nat) (s : State) : State :=
  if !mcRuns s then s
  else coldReset 3 (faultCapture { zeroAll s with kh.chassis := none, vb.zeroCause := cause })

/-- ENTROPY_HEALTH_FAIL (R286). -/
def effEntropyFail (s : State) : State := { s with kh.rngOk := false }

/-! ## Meanings of the commands -/

/-- JK_INSTALL (11 R288). -/
def execJkInstall (slot : Nat) (snum : Nat) (dur : Nat) (s : State) : Host.Outcome State Fault Refusal :=
  .next (effJkInstall slot snum dur s)

/-- JK_ERASE (11 R288). -/
def execJkErase (slot : Nat) (dur : Nat) (s : State) : Host.Outcome State Fault Refusal :=
  .next (effJkErase slot dur s)

/-- CHASSIS_SET (11 R288). -/
def execChassisSet (dur : Nat) (s : State) : Host.Outcome State Fault Refusal :=
  .next (effChassisSet dur s)

/-- DBG_CHALLENGE (11 R288). -/
def execDbgChallenge (jtag : Bool) (s : State) : Host.Outcome State Fault Refusal :=
  .next (effDbgChallenge jtag s)

/-- DBG_GRANT (11 R305). -/
def execDbgGrant (jtag : Option Bytes) (s : State) : Host.Outcome State Fault Refusal :=
  .next (effDbgGrant jtag s)

/-- DBG_LOWER (11 R288). -/
def execDbgLower (jtag : Bool) (s : State) : Host.Outcome State Fault Refusal :=
  .next (effDbgLower jtag s)

/-- TAMPER_RESPONSE (11 R302). -/
def execTamperResponse (cause : Nat) (s : State) : Host.Outcome State Fault Refusal :=
  .next (effTamper cause s)

/-- ENTROPY_HEALTH_FAIL (11 R286). -/
def execEntropyHealthFail (s : State) : Host.Outcome State Fault Refusal :=
  .next (effEntropyFail s)

end Sys2Proof.Machine
end

