-- ==== Sys2Proof/Machine/Recovery.lean ====
section
/-!
DEFINITION. Watchdogs, Abseil, Solo Replay and the crash area (14 R352 to R376).
-/
namespace Sys2Proof.Machine

/-! ## What an Abseil works on (R363, R370) -/

/-- Abseils that take in the job watchdog's variant: the tiles of the scope. -/
def scopeTiles (s : State) : List Nat := (List.range 96).filter (fun t => s.rcv.scope.toNat.testBit (quadOfTile t))

/-- A suspect's job has not ended (R370). -/
def suspectJob (s : State) (x : Suspect) : Option Job :=
  match (queueOf s x.queue).job with
  | some j => if j.accSeq = x.acc && j.ph ≠ .ended then some j else none
  | none => none

/-- The quadrants of a queue's job join the scope, and its context the suspects (R363, R370). -/
def joinScope (q : Nat) (s : State) : State :=
  let mask := ((heldQuads s q).map (fun k => 2 ^ k)).sum
  let s := { s with rcv.scope := s.rcv.scope ||| BitVec.ofNat 4 mask }
  if s.rcv.suspects.any (fun x => decide (x.queue = q)) then s
  else
    match (queueOf s q).job with
    | none => s
    | some j => { s with rcv.suspects := s.rcv.suspects ++ [{ ctx := (queueOf s q).ctx, queue := q, acc := j.accSeq }] }

/-- The job that has acquired the quadrant of a tile (R368). -/
def holdingJob (s : State) (t : Nat) : Option Job :=
  ((quadOf s (quadOfTile t)).holder).bind (fun q => (queueOf s q).job)

/-- A tile whose watchdog expired joins the running Abseil (R363). -/
def joinTile (t : Nat) (s : State) : State :=
  if s.rcv.expired.contains t then s
  else joinScope (tileOf s t).queue { s with rcv.expired := s.rcv.expired ++ [t] }

/-- Step 1 (R364); it ends at once. -/
def abseilBegin (trigger first : Nat) (s : State) : State :=
  { s with
    rcv.step := 2, rcv.scope := 0, rcv.since := s.now, rcv.trigger := trigger, rcv.firstTile := first,
    rcv.time := s.erq.time.toNat, rcv.aseq := s.rcv.aseq + 1, rcv.abseils := s.rcv.abseils + 1, rcv.expired := [],
    rcv.suspects := [], rcv.rctx := none, rcv.ended := 0, rcv.recs := [], rcv.jobTrig := none }

/-- An Abseil of tiles that expired, the first giving FIRST_TILE. -/
def abseilStart : List Nat → State → State
  | [], s => s
  | t :: r, s => (t :: r).foldl (fun s u => joinTile u s) (abseilBegin errTileWatchdog t s)

/-- The Abseil is over: ACTIVE clears, and the expiries that waited start the next one (R363, R371). -/
def abseilEnd (s : State) : State :=
  let ts := s.rcv.queued.filter (fun t => decide ((tileOf s t).part = .running) && (tileOf s t).held)
  abseilStart ts { s with
    rcv.step := 0, rcv.scope := 0, rcv.suspects := [], rcv.expired := [], rcv.rctx := none, rcv.recs := [],
    rcv.jobTrig := none, rcv.queued := [] }

/-! ## The crash area (R367, R368) -/

def crashBase : Nat := 0x17FF800000

/-- The sampled scratchpad offset. -/
def sampleOff (s : State) : Nat := param s 0x5014 63 * 0x10000

/-- 4-bit counters packed, the first lowest (R368). -/
def nibbles (l : List Nat) : Nat := (l.zipIdx.map (fun e => e.1 % 16 * 16 ^ e.2)).sum

/-- State of a window slot as a state record shows it (R368). -/
def slotCode (tl : Tile) (x : Slot) : Nat :=
  match x.st with
  | .empty => 0
  | .waiting => if (waitsOf x.desc).all (fun w => decide (waitCount x.desc w.1 ≤ lget 0 tl.tok w.1)) then 2 else 1
  | .executing => 3
  | .signalling => 4

/-- A slot of a state record. -/
def slotBytes (tl : Tile) (x : Slot) : Bytes :=
  if x.st = .empty then List.replicate 12 0
  else leBytes 4 x.off ++ leBytes 1 (slotCode tl x) ++ leBytes 1 x.kind ++ leBytes 2 (leAt x.desc 2 2) ++ leBytes 4 0

/-- The state record of a tile (R368). -/
def stateRecord (s : State) (t : Nat) : Bytes :=
  let tl := tileOf s t
  let own := match tileOwner s t with
    | some c => c % 128 + 128
    | none => 0
  let b := leBytes 8 s.rcv.aseq.toNat ++ leBytes 1 own ++ leBytes 1 t ++
    leBytes 4 (((holdingJob s t).map Job.id).getD 0) ++ leBytes 4 tl.fetch ++ List.replicate 14 0 ++
    leBytes 16 (nibbles tl.tok) ++ leBytes 16 (nibbles tl.cred) ++
    (List.range 16).flatMap (fun n => slotBytes tl (tget {} tl.win n))
  putB (List.replicate 256 0) 0 b

/-- SUSPECT and OUTCOME fields of the header. -/
def suspectBytes (l : List Suspect) (f : Suspect → Nat) : Bytes :=
  (List.range 4).flatMap (fun k => leBytes 1 (match l[k]? with
    | some x => f x
    | none => 0))

/-- The header (R367). -/
def crashHeader (s : State) : Bytes :=
  let r := s.rcv
  let b := leBytes 4 0x4C495341 ++ leBytes 1 1 ++ leBytes 3 0 ++ leBytes 8 r.aseq.toNat ++ leBytes 2 r.trigger ++
    leBytes 1 r.firstTile ++ leBytes 1 r.scope.toNat ++ leBytes 4 0 ++ leBytes 8 r.time ++ leBytes 4 (sampleOff s) ++
    leBytes 4 r.ended ++ List.replicate 24 0 ++ suspectBytes r.suspects (fun x => x.ctx % 128 + 128) ++
    suspectBytes r.suspects (fun x => x.outcome)
  putB (List.replicate 4096 0) 0 b

def writeHeader (s : State) : State := hbmWrite crashBase (crashHeader s) s

/-- The sample of a tile, encrypted as class U data of its owner at its place (R368); none where it has no owner. -/
def writeSample (t : Nat) (s : State) : State :=
  match tileOwner s t with
  | none => s
  | some c =>
    plainWrite (memKeyOf s c) (crashBase + 0x200000 + t * 0x10000) (spRead s t (sampleOff s) 0x10000) s

/-! ## TILE_PROGRESS_WATCHDOG (R354, R363, R370) -/

/-- The progress timer of a tile runs (R354). -/
def progRuns (s : State) (t : Nat) : Bool :=
  let tl := tileOf s t
  decide (tl.part = .running) && domOn s (dCQ (quadOfTile t)) && decide (s.pwr.cur = .p0) &&
    tl.win.any (fun w => decide (w.2.st ≠ .empty) && decide (w.2.kind ≠ 8))

def progExpired (s : State) (t : Nat) : Bool :=
  progRuns s t && decide (param s 0x5010 50 * msNs ≤ (tileOf s t).prog)

/-- An expiry that waits for the running Abseil to end: admission stops on its tile (R363). -/
def queueTile (t : Nat) (s : State) : State :=
  if s.rcv.queued.contains t then s
  else setTile { s with rcv.queued := s.rcv.queued ++ [t] } t { tileOf s t with held := true }

/-- The order of the suspects: ascending context number, then queue number. -/
def suspectLe (a b : Suspect) : Bool := decide (a.ctx < b.ctx) || (decide (a.ctx = b.ctx) && decide (a.queue ≤ b.queue))

/-- Its bit in RCV_REPLAY is 1 (R370). -/
def replayable (s : State) (x : Suspect) : Bool := s.rcv.replay.getLsbD x.ctx

/-- Unconvicted Abseils that lie within 60 s (R366). -/
def recentNoConv (s : State) : List Nat := s.rcv.noConv.filter (fun t => decide (s.now ≤ t + 60 * 1000000000))

/-- The outcome is decided (R371): the convicted context is aborted, the other jobs end, and the Abseil ends. -/
def conclude (conv : Option Nat) (s : State) : State :=
  let sus := s.rcv.suspects.map (fun (x : Suspect) =>
    if some x.ctx = conv then { x with outcome := 2 } else if x.settled then x
    else if replayable s x then x else { x with outcome := 3 })
  let s := writeHeader { s with rcv.suspects := sus }
  let s := match conv with
    | some c => ctxAbort c errConvicted { s with rcv.convictions := s.rcv.convictions + 1, rcv.noConv := [] }
    | none => { s with rcv.noConv := s.now :: recentNoConv s }
  let s := sus.foldl (fun s x => if (suspectJob s x).isSome then jobTry x.queue (cutJob x.queue errAbseilReset s) else s) s
  if 3 ≤ s.rcv.noConv.length then requestCoreReset 3 { s with rcv.noConv := [] } else abseilEnd s

/-- A replay hangs: its context is convicted, and no further suspect is replayed (R370). -/
def replayHang (q : Nat) (s : State) : State :=
  match s.rcv.suspects.find? (fun x => decide (x.queue = q)) with
  | none => s
  | some x => conclude (some x.ctx) s

/-- The job of a queue is the one being replayed. -/
def replaying (s : State) (q : Nat) : Bool :=
  match (queueOf s q).job with
  | some j => j.replay && decide (s.rcv.step = 6)
  | none => false

def effTileWatchdog (t : Nat) (s : State) : State :=
  if !progExpired s t || s.hif.loss ≠ .idle then s
  else
    let inScope := s.rcv.scope.toNat.testBit (quadOfTile t)
    if s.rcv.step = 0 then abseilStart [t] s
    else if s.rcv.step ≤ 2 && (s.rcv.jobTrig.isNone || inScope) then joinTile t s
    else if s.rcv.step = 6 && replaying s (tileOf s t).queue then replayHang (tileOf s t).queue s
    else if inScope then s
    else queueTile t s

/-! ## The steps of an Abseil (R364 to R366) -/

/-- The ERR_TILE_WATCHDOG record of a tile whose watchdog expired (step 4). A window that has emptied in the drain leaves
DTAG and OFFSET open (log 56). -/
def watchdogRec (s : State) (t : Nat) : ErrRec :=
  let tl := tileOf s t
  let old := tl.win.foldl (fun (a : Option Slot) w =>
    match a with
    | some x => if w.2.order < x.order then some w.2 else a
    | none => some w.2) none
  let sampled := ((scopeTiles s).filter (fun u => (tileOwner s u).isSome)).length
  { code := errTileWatchdog, src := 11, ctx := tileOwner s t, unit := t, jobId := ((jobOfTile s t).map Job.id).getD 0,
    dtag := (match old with
      | some x => leAt x.desc 2 2
      | none => Config.openVal s.free % 2 ^ 16),
    offset := (match old with
      | some x => x.off
      | none => Config.openVal (s.free + 1) % 2 ^ 22),
    count := sampled, detail := s.rcv.scope.toNat + 2 ^ 32 * s.rcv.aseq.toNat, job := some tl.queue }

/-- A suspect's job gives up its tiles: their counts are kept, and it waits (R364). -/
def suspectHalt (x : Suspect) (s : State) : State :=
  match suspectJob s x with
  | none => s
  | some j => setQueue s x.queue { queueOf s x.queue with job := some { gatherJob s j with ph := .waiting } }

/-- The transaction's descriptor lies in the scope. -/
def scopeTxn (s : State) (x : Txn) : Bool :=
  match x.src with
  | .tile t _ _ | .root t _ _ => s.rcv.scope.toNat.testBit (quadOfTile t)
  | .ntx => false

/-- ABSEIL_DRAIN_END (R364): 1 ms after step 1. The state records take the windows as they stand. -/
def effDrainStop (s : State) : State :=
  if s.rcv.step ≠ 2 || s.now < s.rcv.since + msNs then s
  else
    let s := each (s.rcv.suspects.map (·.queue)) effJobComplete s
    let s := { s with rcv.recs := s.rcv.expired.map (watchdogRec s) }
    let s := drawn (drawn s)
    let s := each (scopeTiles s) (fun t s => hbmWrite (crashBase + 0x1000 + t * 0x100) (stateRecord s t) s) s
    let s := s.rcv.suspects.foldl (fun s x => suspectHalt x s) s
    let s := each (scopeTiles s) stopTile s
    let n := (s.txn.txns.filter (fun e => match e.2 with
      | some x => scopeTxn s x
      | none => false)).length
    { endTxns (scopeTxn s) errAbseilReset s with rcv.ended := n, rcv.step := 3 }

/-- The ERR_TILE_WATCHDOG records have been accepted. -/
def recordsAccepted (s : State) : Bool := s.erq.incoming.all (fun e => decide (e.code ≠ errTileWatchdog))

/-- The context of the job whose watchdog started the Abseil (R355). -/
def jobTrigCtx (s : State) : Option Nat :=
  s.rcv.jobTrig.bind (fun q => (s.rcv.suspects.find? (fun x => decide (x.queue = q))).map (·.ctx))

/-- Step 4 ends when its records are accepted (R364). A job watchdog's context is aborted in place of the remaining steps (R355). -/
def recordEnd (s : State) : State :=
  if s.rcv.step ≠ 4 || !recordsAccepted s then s
  else
    match jobTrigCtx s with
    | some c => abseilEnd (ctxAbort c errJobWatchdog s)
    | none => { s with rcv.step := 5, rcv.stepAt := s.now }

/-- ABSEIL_SAMPLE_DONE (R364): the samples and the header are in the crash area, and step 4 writes its records. -/
def effSampleDone (s : State) : State :=
  if s.rcv.step ≠ 3 then s
  else
    let s := { s with rcv.suspects := sortBy suspectLe s.rcv.suspects }
    let s := writeHeader (each (scopeTiles s) writeSample s)
    recordEnd { s.rcv.recs.foldl (fun s e => raise e s) s with rcv.step := 4 }

/-- The next suspect to be replayed (R370). -/
def nextReplay (s : State) : Option (Suspect × Job) :=
  (s.rcv.suspects.filter (fun x => replayable s x && !x.settled)).findSome? (fun x => (suspectJob s x).map (fun j => (x, j)))

/-- A suspect's job is taken from its stored entry, to run again from step 2 of 05 R125 on (R370); answers its queue. -/
def replayTake (s : State) : Option (Nat × State) :=
  (nextReplay s).map (fun (x, j) =>
    let j' : Job := { entry := j.entry, accSeq := j.accSeq, ph := .waiting, replay := true, owes := j.owes, firstErr := j.firstErr }
    (x.queue, { setQueue s x.queue { queueOf s x.queue with job := some j' } with
      rcv.rctx := some x.ctx, rcv.replayAt := s.now }))

/-- The quadrants of the scope. -/
def scopeQuads (s : State) : List Nat := (List.range 4).filter (fun k => s.rcv.scope.toNat.testBit k)

/-- Step 5 ends: the scope quadrants are reset, each within 21 µs (R364). -/
def resetScope (s : State) : State :=
  if s.rcv.step ≠ 5 || s.now < s.rcv.stepAt + 21000 * (scopeQuads s).length then s
  else
    let s := each (s.rcv.suspects.map (·.queue)) freeQuads s
    { each (scopeQuads s) (fun k s => scrubQuad k none s) s with rcv.step := 6 }

/-- Once step 5 has ended and while no replay runs, the next one begins: `act` reads its Job Launch Table (log 56). -/
def replayNext (act : Nat → State → State) (s : State) : State :=
  let s := resetScope s
  if s.rcv.step = 6 && s.rcv.rctx.isNone then
    match replayTake s with
    | some (q, s) => act q s
    | none => s
  else s

/-- ABSEIL_RESET_DONE (R364, R370); `hr` are the host bytes of the Job Launch Table. -/
def effResetDone (hr : List Host.Cell) (s : State) : State := replayNext (fun q s => runChecks q hr s) (recordEnd s)

/-- The contexts that could not be replayed. -/
def notReplayable (s : State) : List Nat := ((s.rcv.suspects.filter (fun x => !replayable s x && !x.settled)).map (·.ctx)).dedup

/-- SOLO_REPLAY_END (R371): no replay runs, and none is left. -/
def effReplayEnd (s : State) : State :=
  if s.rcv.step ≠ 6 || s.rcv.rctx.isSome || (nextReplay s).isSome then s
  else
    match notReplayable s with
    | [c] => conclude (some c) s
    | _ => conclude none s

/-- The queue being replayed. -/
def replayQueue (s : State) : Option Nat :=
  (s.rcv.suspects.find? (fun x => some x.ctx = s.rcv.rctx && replaying s x.queue)).map (·.queue)

/-- SOLO_REPLAY_LIMIT (R370). -/
def effReplayLimit (s : State) : State :=
  if s.rcv.step = 6 && decide (s.rcv.replayAt + param s 0x5015 1000 * msNs ≤ s.now) then
    match replayQueue s with
    | some q => replayHang q s
    | none => s
  else s

/-- ABSEIL_ABANDON (R366): steps 1 to 5 have not ended within 10 ms. -/
def effAbseilAbandon (s : State) : State :=
  if 1 ≤ s.rcv.step && s.rcv.step ≤ 5 && s.rcv.since + 10 * msNs ≤ s.now then requestCoreReset 3 s else s

/-! ## JOB_WATCHDOG (R355) -/

/-- The watchdog of a job in ns, 0 where it is disabled (05 R109, R123). -/
def jobLimit (s : State) (q : Nat) (j : Job) : Nat :=
  let own := leAt j.entry 32 4
  (if own = 0 then (ctxOf s (queueOf s q).ctx).jobWd.toNat else own) * 1000

def effJobWatchdog (q : Nat) (s : State) : State :=
  match (queueOf s q).job with
  | none => s
  | some j =>
    if j.ph ≠ .running || jobLimit s q j = 0 || j.ran < jobLimit s q j || s.hif.loss ≠ .idle then s
    else if replaying s q then replayHang q s
    else if s.rcv.step = 0 then
      joinScope q { drawn (abseilBegin errJobWatchdog (Config.openVal s.free % 96) s) with rcv.jobTrig := some q }
    else if s.rcv.suspects.any (fun x => decide (x.queue = q)) then s
    else ctxAbort (queueOf s q).ctx errJobWatchdog s

/-! ## LINK_TRANSACTION_TIMEOUT (R356, R357) -/

/-- The aggregation of timeouts per context: the count, JOB_ID and DTAG the record takes from those counted before, or none
where this one is only counted. -/
def timeoutAgg (c n jobId dtag : Nat) (s : State) : Option (Nat × Nat × Nat) × State :=
  let mine := fun (a : Agg) => decide (a.kind = 4) && decide (a.key = c)
  let rest := s.txn.agg.filter (fun a => !mine a)
  let fresh : Agg := { kind := 4, key := c, since := s.now }
  match s.txn.agg.find? mine with
  | none => (some (n, jobId, dtag), { s with txn.agg := rest ++ [fresh] })
  | some a =>
    if s.now < a.since + msNs then
      let a' := if a.count = 0 then { a with count := n, jobId := jobId, dtag := dtag } else { a with count := a.count + n }
      (none, { s with txn.agg := rest ++ [a'] })
    else if a.count = 0 then (some (n, jobId, dtag), { s with txn.agg := rest ++ [fresh] })
    else (some (a.count + n, a.jobId, a.dtag), { s with txn.agg := rest ++ [fresh] })

def effLinkTimeout (tag : Nat) (s : State) : State :=
  match tget none s.txn.tags tag with
  | none => s
  | some g =>
    match txnOf s g.txn with
    | none => s
    | some x =>
      if g.run < param s 0x5011 2000 * 1000 then s
      else
        let n := (tagsOf s g.txn).length
        let r := timeoutAgg x.ctx n x.jobId x.dtag s
        let s := match r.1 with
          | none => r.2
          | some (cnt, jobId, dtag) =>
            raise { code := errLinkTimeout, src := 6, ctx := some x.ctx, unit := g.port.getD 0xFFFF, jobId := jobId, dtag := dtag,
                    count := cnt, detail := x.dev, job := x.queue } r.2
        endTxn g.txn errLinkTimeout true s

/-! ## The MC watchdog (R376) -/

/-- The boot ROM kicks the watchdog itself: it selects and verifies images, or it is parked. -/
def romKicks (s : State) : Bool := s.pwr.parked || (decide (s.pwr.stage = 0) && s.pwr.romRuns)

/-- MC_WATCHDOG: a Cold reset with cause 6. -/
def effMcWatchdog (s : State) : State :=
  if !mcRuns s || romKicks s || s.now < s.pwr.mcAt + s.pwr.mcPeriod.toNat * msNs then s
  else coldReset 6 (faultCapture { s with vb.mcResets := BitVec.ofNat 32 (satAdd 32 s.vb.mcResets.toNat 1) })

/-- MC_WDOG_KICK: the value written to KICK. -/
def effMcKick (v : BitVec 16) (s : State) : State :=
  if mcAwake s && decide (v = 0xC1A5) then { s with pwr.mcAt := s.now } else s

/-- PERIOD as written (R376). -/
def effMcPeriod (v : BitVec 16) (s : State) : State :=
  if mcAwake s && decide (10 ≤ v.toNat) && decide (v.toNat ≤ 60000) then { s with pwr.mcPeriod := v } else s

/-! ## RCV_EXPORT_GO (R369) -/

def exportEnd (code : Nat) (s : State) : State :=
  { s with rcv.exBusy := false, rcv.exDone := true, rcv.exCode := BitVec.ofNat 16 code }

/-- A tile's part of the image: its state record or its sample, where the record names the context as owner. The bytes of a
context whose key has ended are open (R369, log 57). -/
def exportPart (s : State) (c t : Nat) (sample : Bool) : Bytes :=
  let rec_ := hbmRead s (crashBase + 0x1000 + t * 0x100) 256
  let n := if sample then 0x10000 else 256
  if byteAt rec_ 8 ≠ c % 128 + 128 then List.replicate n 0
  else if !sample then rec_
  else
    let a := crashBase + 0x200000 + t * 0x10000
    match tget none s.kh.memKey c with
    | some k => plainRead s k a n
    | none => (List.range n).map (fun i => Config.openByte s.free (a + i))

/-- The exported image (R367, R369). -/
def exportImage (s : State) (c : Nat) : Bytes :=
  hbmRead s crashBase 4096 ++ (List.range 96).flatMap (fun t => exportPart s c t false) ++
    hbmRead s (crashBase + 0x7000) 0x1F9000 ++ (List.range 96).flatMap (fun t => exportPart s c t true)

def effExportGo (s : State) : State :=
  if !hostReady s || s.rcv.exBusy then s
  else
    let c := s.rcv.exCtx.toNat
    let m := moOf s s.rcv.exObj.toNat
    let st := (ctxOf s c).st
    if !domOn s dMEM || (decide (st ≠ .live) && decide (st ≠ .aborted)) then exportEnd errObjState s
    else if decide (m.st = .free) || decide (m.ctx ≠ c) || !m.host || !moWritable m || decide (m.size < 0x800000) then
      exportEnd errCmdInvalid s
    else
      hostPieces .image s.rcv.exObj.toNat m 2049 0 (exportImage s c)
        (drawn { s with rcv.exBusy := true, rcv.exCode := 0 })

/-! ## Meanings of the commands -/

/-- TILE_PROGRESS_WATCHDOG (14 R354). -/
def execTileProgressWatchdog (t : Nat) (s : State) : Host.Outcome State Fault Refusal :=
  .next (effTileWatchdog t s)

/-- ERROR_RECORD_ACCEPT (05 R133, 14 R364 step 4). -/
def execErrorRecordAccept (i : Nat) (s : State) : Host.Outcome State Fault Refusal :=
  .next (recordEnd (effErrorAccept i s))

/-- ABSEIL_DRAIN_END (14 R364). -/
def execAbseilDrainEnd (s : State) : Host.Outcome State Fault Refusal :=
  .next (effDrainStop s)

/-- ABSEIL_SAMPLE_DONE (14 R364). -/
def execAbseilSampleDone (s : State) : Host.Outcome State Fault Refusal :=
  .next (effSampleDone s)

/-- ABSEIL_RESET_DONE (14 R364). -/
def execAbseilResetDone (hr : List Host.Cell) (s : State) : Host.Outcome State Fault Refusal :=
  .next (effResetDone hr s)

/-- SOLO_REPLAY_END (14 R371). -/
def execSoloReplayEnd (s : State) : Host.Outcome State Fault Refusal :=
  .next (effReplayEnd s)

/-- SOLO_REPLAY_LIMIT (14 R370). -/
def execSoloReplayLimit (s : State) : Host.Outcome State Fault Refusal :=
  .next (effReplayLimit s)

/-- ABSEIL_ABANDON (14 R366). -/
def execAbseilAbandon (s : State) : Host.Outcome State Fault Refusal :=
  .next (effAbseilAbandon s)

/-- JOB_WATCHDOG (14 R355). -/
def execJobWatchdog (q : Nat) (s : State) : Host.Outcome State Fault Refusal :=
  .next (effJobWatchdog q s)

/-- LINK_TRANSACTION_TIMEOUT (14 R357). -/
def execLinkTransactionTimeout (tag : Nat) (s : State) : Host.Outcome State Fault Refusal :=
  .next (effLinkTimeout tag s)

/-- MC_WATCHDOG (14 R376). -/
def execMcWatchdog (s : State) : Host.Outcome State Fault Refusal :=
  .next (effMcWatchdog s)

/-- MC_WDOG_KICK (14 R376). -/
def execMcWdogKick (v : BitVec 16) (s : State) : Host.Outcome State Fault Refusal :=
  .next (effMcKick v s)

/-- RCV_EXPORT_GO (14 R369). -/
def execRcvExportGo (s : State) : Host.Outcome State Fault Refusal :=
  .next (effExportGo s)

end Sys2Proof.Machine
end

