-- ==== Sys2Proof/Machine/DictRead.lean ====
section
/-!
DEFINITION. The values of the dictionary's objects (15 R377 to R380, R400, R401).
-/
namespace Sys2Proof.Machine

/-! ## Registers that objects show -/

/-- SEC_STATUS (11 R286, R287). -/
def secStatus (s : State) : Nat :=
  let on := domOn s dSEC
  let live := match s.kh.ret with
    | some r => r.ctxKey.any (fun e => e.2.isSome) || r.jobKey.any (fun e => e.2.isSome)
    | none => s.kh.ctxKey.any (fun e => e.2.isSome) || s.kh.jobKey.any (fun e => e.2.key.isSome)
  s.kh.dbg.toNat + 4 * b2n live + 8 * b2n (s.kh.rngOk && on) + 16 * b2n (holding s && on) + 32 * b2n s.kh.chassis.isSome +
    64 * b2n (authKey s).isSome + 2 ^ 7 * s.flash.minSvn.toNat + 2 ^ 13 * s.flash.revoked.toNat

/-- STATE of a port (08 R203). -/
def portStNo (st : PortSt) : Nat :=
  match st with
  | .disabled => 0
  | .training => 1
  | .active => 2
  | .replay => 3
  | .retrain => 4
  | .down => 5

def pstateNo (p : PState) : Nat :=
  match p with
  | .p0 => 0
  | .p1 => 1
  | .p2 => 2
  | .p3 => 3

def ctxStNo (st : CtxSt) : Nat :=
  match st with
  | .free => 0
  | .live => 1
  | .aborted => 2
  | .retiring => 3

/-- PCR_RSTCAUSE (13 R345). -/
def rstCause (s : State) : Nat := s.pwr.rstCold.toNat + 16 * s.pwr.rstCore.toNat

/-- ROUTE entry `d` (10 R266). -/
def routeEntry (t : Tab (BitVec 32)) (d : Nat) : Nat := (tget 0x00FF0FFF t d).toNat

/-- A table of 256 entries as bytes (10 R269). -/
def routeBytes (t : Tab (BitVec 32)) : Bytes := (List.range 256).flatMap (fun d => leBytes 4 (routeEntry t d))

/-- The order of binary32 numbers. -/
def f32Key (x : BitVec 32) : Int := if x.toNat < 2 ^ 31 then (x.toNat : Int) else -((x.toNat % 2 ^ 31 : Nat) : Int)

/-- Hottest Die Temperature (15 0x1200). -/
def hottest (s : State) : BitVec 32 :=
  (List.range 15).foldl (fun (a : BitVec 32) i =>
    let x := tget 0 s.tele.die (i + 2)
    if f32Key a < f32Key x then x else a) (tget 0 s.tele.die 1)

/-- Bytes the manual leaves open, at this draw. -/
def openBytes (s : State) (n : Nat) : Bytes := (List.range n).map (Config.openByte s.free)

/-- TRIM as an I32. -/
def trimI32 (v : BitVec 9) : Nat := wrapZ v.toInt 32

/-- Contexts that are LIVE. -/
def liveCount (s : State) : Nat := (s.obj.ctx.filter (fun e => decide (e.2.st = .live))).length

/-- A counter of the dictionary. -/
def statOf (s : State) (index sub : Nat) : Nat := tget 0 s.dict.stat (index * 256 + sub)

/-! ## Values -/

/-- Objects 0x1000 to 0x1FFF. -/
def valueA (s : State) (index sub : Nat) : Nat × Nat :=
  match index with
  | 0x1000 => (4, 0x4C524F48)
  | 0x1001 => (1, s.id.stepping.toNat)
  | 0x1003 => (8, s.id.uid.toNat)
  | 0x1006 => (4, (Config.imageVersion s.flash.digest).toNat)
  | 0x1007 => (4, s.id.romVersion.toNat)
  | 0x1008 => (1, 1)
  | 0x1009 => (2, 1)
  | 0x1020 => (1, if s.pwr.strapNode ≠ 0 then 1 else if s.dict.node ≠ 0 then 2 else 0)
  | 0x1022 => (1, nodeId s)
  | 0x1025 => (1, b2n s.dict.conflict)
  | 0x1026 => (4, min (lget 0 s.dict.bus (sub - 1)) (2 ^ 32 - 1))
  | 0x1101 => (1, pstateNo s.pwr.cur)
  | 0x1103 => (2, s.pwr.on.toNat)
  | 0x1110 => (4, if 14 ≤ sub then 0 else (tget 0 s.tele.volt sub).toNat)
  | 0x1111 => (4, if 14 ≤ sub then 0 else (tget 0 s.tele.curr sub).toNat)
  | 0x1112 => (4, s.tele.power.toNat)
  | 0x1113 => (8, s.tele.energy.toNat)
  | 0x1200 => (4, (hottest s).toNat)
  | 0x1201 => (4, (tget 0 s.tele.die sub).toNat)
  | 0x1202 => (4, (tget 0 s.tele.hbm sub).toNat)
  | 0x1211 => (1, b2n (decide (f32Key (BitVec.ofNat 32 (param s 0x1210 0x42BE0000)) ≤ f32Key (hottest s))))
  | 0x1212 => (4, 0x42DC0000)
  | 0x1213 => (4, s.vb.tripCount.toNat)
  | _ => (0, 0)

/-- Objects 0x2000 to 0x2FFF. -/
def valueB (s : State) (index sub : Nat) : Nat × Nat :=
  let x := portOf s (sub - 1)
  match index with
  | 0x2000 => (1, portStNo x.st)
  | 0x2001 => (1, b2n x.en)
  | 0x2002 => (2, x.h.toNat)
  | 0x2003 => (2, x.y.toNat)
  | 0x2004 => (1, x.replayMax.toNat)
  | 0x2005 => (2, x.replayTo.toNat)
  | 0x2006 => (1, b2n x.auto)
  | 0x2007 => (8, x.nbrUid.toNat)
  | 0x2008 => (1, x.nbrPort.toNat)
  | 0x2010 | 0x2011 | 0x2012 | 0x2013 | 0x2014 | 0x2015 | 0x2016 | 0x2017 => (8, statOf s index sub)
  | 0x2020 => (1, b2n (ethOf s (sub - 1)).up)
  | 0x2021 | 0x2022 => (8, statOf s index sub)
  | 0x2400 => (1, s.fab.addr.toNat)
  | 0x2402 => (8, s.fab.epoch.toNat)
  | 0x2403 => (4, dbDigest s)
  | 0x2404 => (2, (lsas s).length)
  | 0x2405 => (8, (((lsas s).head?).map (fun (l : Lsa) => l.uid.toNat)).getD 0)
  | 0x2406 => (1, b2n s.fab.dbFull)
  | 0x2410 => (1, b2n s.fab.rtSource)
  | 0x2413 => (4, min (statOf s index 0) (2 ^ 32 - 1))
  | 0x2424 => (1, pairStateNo s.pair.st)
  | _ => (0, 0)

/-- Objects 0x3000 to 0x5FFF. -/
def valueC (s : State) (index sub : Nat) : Nat × Nat :=
  let scr := lget ({} : Scrub) s.scrub (sub - 1)
  let y := quadOf s (sub - 1)
  match index with
  | 0x3000 => (1, liveCount s)
  | 0x3001 => (1, ctxStNo (ctxOf s (sub - 1)).st)
  | 0x3002 => (1, b2n (ctxOf s (sub - 1)).preview)
  | 0x3003 => (1, match y.owner with
    | some c => c % 128 + 128
    | none => 0)
  | 0x3013 => (8, statOf s index sub + (if y.holder.isSome then s.now - y.since else 0))
  | 0x3010 | 0x3011 | 0x3012 | 0x3014 | 0x3015 | 0x3016 => (8, statOf s index sub)
  | 0x3020 => (8, scr.corr.toNat)
  | 0x3021 => (8, scr.uncorr.toNat)
  | 0x3022 => (4, scr.passes.toNat)
  | 0x3023 => (8, scr.forced.toNat)
  | 0x4002 => (1, s.rtc.wday.toNat)
  | 0x4004 => (4, trimI32 s.rtc.trim)
  | 0x4005 => (10, s.rtc.alm0.time.toNat)
  | 0x4006 => (1, s.rtc.alm0.mask.toNat)
  | 0x4007 => (10, s.rtc.alm1.time.toNat)
  | 0x4008 => (1, s.rtc.alm1.mask.toNat)
  | 0x4009 => (1, b2n s.rtc.alm0.hit + 2 * b2n s.rtc.alm1.hit)
  | 0x4012 => (1, s.rtc.capCause.toNat)
  | 0x5002 => (1, rstCause s)
  | 0x5003 => (4, s.rcv.abseils.toNat)
  | 0x5004 => (8, s.rcv.aseq.toNat)
  | 0x5005 => (4, s.rcv.convictions.toNat)
  | 0x5022 => (1, b2n s.rcv.oos)
  | _ => (0, 0)

/-- Objects 0x6000 to 0x9FFF. -/
def valueD (s : State) (index sub : Nat) : Nat × Nat :=
  match index with
  | 0x6000 => (4, secStatus s)
  | 0x6001 => (4, s.vb.auth.toNat)
  | 0x6003 => (4, s.dict.authFail.toNat)
  | 0x6011 => (1, b2n s.kh.chassis.isSome)
  | 0x6020 => (1, s.vb.zeroCause)
  | 0x6030 => (1, s.kh.dbg.toNat)
  | 0x6051 => (1, s.flash.revoked.toNat)
  | 0x6052 => (1, s.flash.minSvn.toNat)
  | 0x7000 => (1, b2n s.pwr.bank)
  | 0x7001 => (1, b2n s.pwr.trial)
  | 0x7002 => (1, s.flash.trialBoots)
  | 0x7011 => (1, s.pwr.stage)
  | 0x7012 => (2, s.pwr.bcode.toNat)
  | 0x7021 => (4, s.flash.updOff.toNat)
  | 0x7023 => (2, s.flash.updStatus.toNat)
  | 0x8000 => (4, committedGen s)
  | 0x8001 => (4, (genRecs s false (committedGen s)).length)
  | 0x8002 => (4, 4096 * freeSectors s false)
  | 0x8003 => (2, imgSchema s)
  | 0x8004 => (2, s.flash.defaulted.toNat)
  | 0x8010 => (4, (cvuOf s (sub - 1)).mismatches.toNat)
  | 0x8011 => (8, s.sealer.written.toNat)
  | 0x9000 => (8, (s.now - s.pwr.coldAt) / 1000000)
  | 0x9011 => (4, s.tele.drops.toNat)
  | 0x9020 => (2, crashEntries s)
  | 0x9021 => (4, s.tele.pmbErr.toNat)
  | 0x9022 => (4, s.vb.mcResets.toNat)
  | _ => (0, 0)

/-- The numeric value of an object that a block holds: its bytes and value, (0, 0) for any other. -/
def valueOf (s : State) (index sub : Nat) : Nat × Nat :=
  if index < 0x2000 then valueA s index sub
  else if index < 0x3000 then valueB s index sub
  else if index < 0x6000 then valueC s index sub
  else valueD s index sub

/-- Objects of other types that a block holds. -/
def valueBytes (s : State) (index sub : Nat) : Option Bytes :=
  match index with
  | 0x1002 => some (ascii "KG-9")
  | 0x1004 => some (s.id.serial.take 32)
  | 0x1214 => some (if s.vb.tripTime.isEmpty then openBytes s 10 else s.vb.tripTime)
  | 0x2411 => some (routeBytes s.fab.loaded)
  | 0x2412 => some (routeBytes s.fab.route)
  | 0x4011 => some (calBytes s.rtc.capH)
  | 0x6040 => some (sliceB s.id.cert 0 2048)
  | 0x6041 => some (pubOf (idScalar s))
  | 0x7003 => some (imageHeader s (decide (sub = 2)))
  | _ => none

/-- The value of an object of row `r` (R400): what its block holds, else what is stored. -/
def objectValue (s : State) (r : CatRow) (sub : Nat) : Bytes :=
  match valueBytes s r.index sub with
  | some b => b
  | none =>
    let v := valueOf s r.index sub
    if v.1 ≠ 0 then leBytes v.1 v.2
    else if r.index = 0x6031 then sliceB (storedVal s r sub) 0 97
    else storedVal s r sub

/-- WRITE_CHALLENGE (15 R385): the value of object 0x6002, which replaces any earlier one. -/
def challengeRead (s : State) : Nat × Bytes × State :=
  if !domOn s dSEC || !s.kh.rngOk then (errSecureUnavailable, [], s)
  else
    let r := drawKey s
    (0, (keyBytes r.1).take 16, { r.2 with dict.challenge := some r.1 })

/-- A READ (R381 checks 1, 2 and 4): status, DETAIL, value, and the state. -/
def dictRead (index sub len : Nat) (s : State) : Nat × Nat × Bytes × State :=
  match catFind index sub with
  | none => (errDictNoObject, 0, [], s)
  | some (r, count) =>
    if !count && decide (r.acc = .wo) then (errDictAccess, 1, [], s)
    else if len ≠ 0 then (errDictAccess, 4, [], s)
    else if count then (0, 0, leBytes 1 r.count, s)
    else if index = 0x4000 then
      let t := rtcCaptureNow s
      (0, 0, t.1, t.2)
    else if index = 0x6002 then
      let c := challengeRead s
      (c.1, 0, c.2.1, c.2.2)
    else (0, 0, objectValue s r sub, drawn s)

end Sys2Proof.Machine
end

