-- ==== Sys2Proof/Machine/Power.lean ====
section
/-!
DEFINITION. Power requests and states, the PCI Express pins, background work (13 R331 to R338, R340, R347 to R351).
-/
namespace Sys2Proof.Machine

/-! ## Domain requests (R331, R332, R337) -/

def domEnd (code : Nat) (s : State) : State :=
  { s with pwr.busy := false, pwr.done := true, pwr.code := BitVec.ofNat 16 code, pwr.pend := 0, pwr.defer := none }

/-- The set of domains a request leads to; MEM takes SEC with it where SEC is not selected (R328). -/
def domTarget (value sel : Nat) (s : State) : Nat :=
  let v := (s.pwr.on.toNat &&& (1023 ^^^ sel)) ||| (value &&& sel)
  if inDoms v dMEM && !domOn s dMEM && !inDoms sel dSEC then v ||| 2 ^ dSEC else v

/-- A request that waits for the Secure Hold vote (R337). -/
def deferReq (g : Gating) (v : Nat) (s : State) : State :=
  { s with pwr.defer := some (g, s.pwr.reqAt), pwr.pend := BitVec.ofNat 10 (offSet v s) }

/-- A value written to PCR_DOMREQ (R331, R332, R337); `host` where the host wrote it. -/
def domRequest (v : Nat) (host : Bool) (s : State) : State :=
  if !mcRuns s || s.pwr.busy || s.pwr.moving then s
  else
    let value := bitsN v 0 10
    let sel := bitsN v 16 10
    let tgt := domTarget value sel s
    if v &&& 0xFC00FC00 ≠ 0 || (host && sel.testBit 0) then domEnd errCmdInvalid s
    else if needsBroken tgt || offRefused tgt true s then domEnd errObjState s
    else if isGating tgt s && holding s then
      deferReq (.dom (BitVec.ofNat 10 value) (BitVec.ofNat 10 sel) host) tgt { s with pwr.busy := true, pwr.reqAt := s.now }
    else domEnd 0 (domainsTo tgt s)

/-- PCR_DOMREQ: from the host the register is reached through BAR0. -/
def effDomReq (v : Nat) (host : Bool) (s : State) : State := if host && !barOn s then s else domRequest v host s

/-- A write of PCR_DOMREQ: writing SEL starts the request with the VALUE the register holds; a write while BUSY or MOVING is 1 is
discarded (R331). -/
def effDomWrite (w : RegWr) (host : Bool) (s : State) : State :=
  if s.pwr.busy || s.pwr.moving then s else woWrite 0x900008 4 [2, 3] (fun v s => effDomReq v host s) w s

/-! ## Power states (R334, R335) -/

/-- The domains of a state, entered from the set that is on (R334). -/
def stateDoms (p : PState) (s : State) : Nat :=
  match p with
  | .p0 => s.pwr.record.toNat
  | .p1 => s.pwr.on.toNat ||| 0x211
  | .p2 => (s.pwr.on.toNat &&& 0x00C) ||| 0x001
  | .p3 => (if param s 0x1102 1 = 1 then 0x00C else 0) ||| (if pairBound s then 2 ^ mirrorDom s else 0)

/-- A transition's switch-offs are refused (R332, R335). -/
def stateRefused (p : PState) (s : State) : Bool := decide (p ≠ .p0) && offRefused (stateDoms p s) false s

def stateFail (code : Nat) (s : State) : State :=
  { s with pwr.moving := false, pwr.goal := none, pwr.pcode := BitVec.ofNat 16 code }

/-- The state is entered: its domains switch, and leaving P0 records the set that was on (R335). -/
def stateEnter (p : PState) (s : State) : State :=
  let rec0 := if s.pwr.cur = .p0 then s.pwr.on else s.pwr.record
  let v := stateDoms p s
  let s := if s.pwr.cur = .p3 then domainOn dHOST s else s
  { domainsTo v s with
    pwr.cur := p, pwr.record := rec0, pwr.moving := false, pwr.goal := none, pwr.pcode := 0, pwr.pend := 0, pwr.defer := none }

/-- A transition whose condition holds: refused, deferred by the Secure Hold, or done (R332, R335, R337). -/
def stateGo (p : PState) (s : State) : State :=
  if stateRefused p s then stateFail errObjState s
  else if isGating (stateDoms p s) s && holding s then
    deferReq (.state p) (stateDoms p s) { s with pwr.moving := true, pwr.goal := some p }
  else stateEnter p s

def pstateOf (n : Nat) : PState :=
  match n with
  | 0 => .p0
  | 1 => .p1
  | 2 => .p2
  | _ => .p3

/-- The moves of R335 besides those to the present state. -/
def moveListed (a b : PState) : Bool :=
  match a, b with
  | .p0, _ | _, .p0 => true
  | .p1, .p2 | .p1, .p3 | .p2, .p3 => true
  | _, _ => false

/-- What keeps a move from P0 from starting, but for jobs (R332). -/
def lowBlocked (p : PState) (s : State) : Bool :=
  let v := stateDoms p s
  (domOn s dMEM && !inDoms v dMEM && memBusy s) || (domOn s (mirrorDom s) && !inDoms v (mirrorDom s) && pairLive s)

/-- A request for a power state (R331, R335): a status, and the state. -/
def pstateReq (n : Nat) (s : State) : Nat × State :=
  if !mcRuns s || s.pwr.busy || s.pwr.moving then (errObjState, s)
  else if 3 < n then (errCmdInvalid, stateFail errCmdInvalid s)
  else
    let p := pstateOf n
    if p = s.pwr.cur then (0, { s with pwr.pcode := 0 })
    else if !moveListed s.pwr.cur p || s.pwr.stage ≠ 5 || s.hif.loss ≠ .idle then (errObjState, stateFail errObjState s)
    else if s.pwr.cur = .p0 then
      if lowBlocked p s then (errObjState, stateFail errObjState s)
      else
        let s := { s with pwr.moving := true, pwr.goal := some p, pwr.pcode := 0, pwr.reqAt := s.now }
        (0, if isGating (stateDoms p s) s && holding s then deferReq (.state p) (stateDoms p s) s else s)
    else
      let s' := stateGo p { s with pwr.reqAt := s.now }
      (s'.pwr.pcode.toNat, s')

/-- PCR_PSTATE_REQ; from the host the register is reached through BAR0. -/
def effPstateReq (n : Nat) (host : Bool) (s : State) : State := if host && !barOn s then s else (pstateReq n s).2

/-- P1_ENTER (R335): no job holds a quadrant. -/
def effP1Enter (s : State) : State :=
  match s.pwr.goal with
  | none => s
  | some p =>
    if s.pwr.moving && decide (s.pwr.cur = .p0) && s.pwr.defer.isNone && s.quad.all (fun q => q.holder.isNone) then stateGo p s
    else s

/-- PCI_POWER_STATE (R335): D3hot requests P1, the return to D0 requests P0. -/
def effPciPower (d3 : Bool) (s : State) : State :=
  if !barOn s || s.pwr.d3 = d3 then s
  else
    let s := { s with pwr.d3 := d3 }
    if d3 && decide (s.pwr.cur = .p0) then (pstateReq 1 s).2
    else if !d3 && decide (s.pwr.cur = .p1) then (pstateReq 0 s).2
    else s

/-! ## The Secure Hold (R337, 11 R301) -/

/-- A deferred request proceeds: its conditions are checked again (log 49). A move from P0 whose jobs still hold quadrants goes on
waiting for them (R335). -/
def gatingGo (g : Gating) (s : State) : State :=
  match g with
  | .dom value sel _ =>
    let tgt := domTarget value.toNat sel.toNat s
    if needsBroken tgt || offRefused tgt true s then domEnd errObjState s else domEnd 0 (domainsTo tgt s)
  | .state p =>
    if decide (s.pwr.cur = .p0) && s.quad.any (fun q => q.holder.isSome) then { s with pwr.defer := none, pwr.pend := 0 }
    else if stateRefused p s then { stateFail errObjState s with pwr.defer := none, pwr.pend := 0 }
    else stateEnter p s

/-- DOMAIN_REQUEST_RESUME (R337): the vote is released, or the Hold Limit has passed and the command is aborted. -/
def effResume (s : State) : State :=
  match s.pwr.defer with
  | none => s
  | some (g, t) => if holding s && decide (s.now < t + 2 * msNs) then s else gatingGo g (abortHeld s)

/-- SECURE_HOLD_LIMIT (11 R301): 2 ms after the gating request was written. -/
def effHoldLimit (s : State) : State :=
  match s.pwr.defer with
  | none => s
  | some (_, t) => if t + 2 * msNs ≤ s.now then abortHeld s else s

/-! ## Pins (R335, R336, R340, R347, R348) -/

/-- PERST_ASSERT_IN_P3 (R336). -/
def effPerstP3 (s : State) : State :=
  if mcRuns s && decide (s.pwr.cur = .p3) && s.pwr.perstN && decide (s.hif.loss = .idle) then startLoss 1 1 (lossPins 1 s)
  else s

/-- PERST_DEASSERT (R335, R347). -/
def effPerstRise (s : State) : State :=
  if s.pwr.perstN then s
  else
    let s := { s with pwr.perstN := true, pwr.perstAt := some s.now }
    if mcRuns s && decide (s.pwr.cur = .p3) then (pstateReq 0 s).2 else s

/-- A lost reference clock runs again (log 72). -/
def clkBack (k : Nat) (s : State) : State := { s with pwr.clkLost := s.pwr.clkLost &&& ~~~(BitVec.ofNat 4 (2 ^ k)) }

/-- DATA_LINK_LAYER_UP (R347 step 7), at the rate and width the link has trained at (06 R138). -/
def effDllUp (link : HostLink) (s : State) : State :=
  if domOn s dHOST && s.pwr.perstN then
    clkBack 0 { s with pwr.dllUp := true, pwr.rate := some link.rate, pwr.width := link.width }
  else s

/-! ## Configuration space (06 R138 to R141, R149; log 67) -/

/-- The capabilities that the function has (06 R138); it has none of those of 06 R139. -/
def hasCap (c : PciCap) : Bool :=
  match c with
  | .powerManagement | .pciExpress | .msix | .advancedErrorReporting | .deviceSerialNumber | .dataLinkFeature | .physical16
  | .physical32 | .physical64 | .laneMargining | .cxlDvsec | .flexBusPort => true
  | .cxlMem | .srIov | .ats | .pri | .pasid | .resizableBar | .msi | .expansionRom | .ide => false

/-- Sizes of BAR0, BAR2 and BAR4, and whether each is prefetchable (06 R141). -/
def barSize (k : Nat) : Nat := lget 0 [0x4000000, 0x4000000000, 0x1000000] k
def barPrefetch (k : Nat) : Bool := decide (k = 1)

/-- Current Link Speed, as PCI Express encodes it. -/
def rateCode (r : Option LinkRate) : Nat :=
  match r with
  | some .gt64 => 6
  | some .gt32 => 5
  | some .gt16 => 4
  | none => 0

/-- What a configuration read returns: fields lie where PCI Express places them in the register that holds them. -/
def cfgRead (s : State) (i : CfgItem) : Bytes :=
  match i with
  | .has c => leBytes 1 (b2n (hasCap c))
  | .classCode => leBytes 3 0x120000
  | .serialNumber => leBytes 8 s.id.uid.toNat
  | .powerStatus => leBytes 2 ((if s.pwr.d3 then 3 else 0) + 8)
  | .linkStatus => leBytes 2 (rateCode s.pwr.rate + 16 * s.pwr.width + 2 ^ 13 * b2n s.pwr.dllUp)
  | .bar k => leBytes 8 ((lget 0 s.hif.bars k).toNat + 4 + 8 * b2n (barPrefetch k))
  | .msixControl => leBytes 2 (2047 + 2 ^ 14 * b2n s.hif.msixMask + 2 ^ 15 * b2n s.hif.msixEn)
  | .deviceControl => leBytes 2 (2 ^ 4 * b2n s.pwr.relaxed)
  | .cxlControl => leBytes 2 (b2n s.pwr.cxl)

/-- A configuration request that completes: what it writes, and its completion. -/
def configServe (q : CfgReq) (s : State) : State :=
  match q with
  | .read i => emit (.cfgData (cfgRead s i)) s
  | .bar k v => emit .cfgDone { s with hif.bars := lset s.hif.bars k (BitVec.ofNat 64 (v.toNat / barSize k * barSize k)) }
  | .msixControl en mask => msixRelease (emit .cfgDone { s with hif.msixEn := en, hif.msixMask := mask })
  | .cxlCache b => emit .cfgDone { s with pwr.cxl := b }
  | .relaxedOrdering b => emit .cfgDone { s with pwr.relaxed := b }
  | .other => emit .cfgDone s

/-- CONFIG_REQUEST (R348). Whether a request within 100 ms of the rise of PERST_N is answered is open. -/
def effConfig (q : CfgReq) (s : State) : State :=
  if !domOn s dHOST || !s.pwr.perstN then s
  else
    let early := match s.pwr.perstAt with
      | some t => decide (s.now < t + 100 * msNs)
      | none => false
    if early && decide (Config.openVal s.free % 2 = 0) then drawn s
    else if s.pwr.stage = 5 then configServe q (drawn s)
    else emit .cfgRetry (drawn s)

/-- REFCLK_LOSS (R340, 18 R449): 0 PCIE_REFCLK, 1 NLK_REFCLK0, 2 NLK_REFCLK1, 3 ETH_REFCLK. The blocks it feeds stop until it runs
again (log 72). -/
def effRefclk (which : Nat) (s : State) : State :=
  let s := { s with pwr.clkLost := s.pwr.clkLost ||| BitVec.ofNat 4 (2 ^ which) }
  let links := fun (d : Nat) (s : State) => if domOn s d then
      each ((domPorts d).filter (fun p => decide ((portOf s p).st ≠ .disabled) && decide ((portOf s p).st ≠ .down))) portDown s
    else s
  match which with
  | 0 => effHostLoss 0 s
  | 1 => links dLNKA s
  | 2 => links dLNKB s
  | 3 => if domOn s dNET then effEthDown 1 (effEthDown 0 s) else s
  | _ => s

/-! ## Patrol scrub (R350) -/

def stackLines : Nat := 0x600000000 / 64
def dayNs : Nat := 86400 * 1000000000

def scrubOf (s : State) (k : Nat) : Scrub := lget {} s.scrub k

def setScrub (s : State) (k : Nat) (x : Scrub) : State := { s with scrub := lset s.scrub k x }

/-- Scrub of a stack runs: MEM is on and boot has initialised it. -/
def scrubs (s : State) (k : Nat) : Bool := decide (k < 4) && domOn s dMEM && decide (3 ≤ s.pwr.stage)

/-- One line is read: 0 good, 1 corrected and written back, 2 uncorrectable. -/
def scrubOne (k res : Nat) (s : State) : State :=
  let x := scrubOf s k
  let addr := k * 0x600000000 + 64 * x.line
  let x' := if x.line + 1 < stackLines then { x with line := x.line + 1 }
    else { x with line := 0, age := 0, passes := BitVec.ofNat 32 (satAdd 32 x.passes.toNat 1) }
  if res = 1 then
    raise { code := errHbmCorrected, src := 3, addr := addr }
      (setScrub s k { x' with corr := BitVec.ofNat 64 (satAdd 64 x.corr.toNat 1) })
  else if res = 2 then
    raise { code := errHbmUncorrectable, src := 3, addr := addr }
      (setScrub s k { x' with uncorr := BitVec.ofNat 64 (satAdd 64 x.uncorr.toNat 1) })
  else setScrub s k x'

/-- SCRUB_LINE (R350). -/
def effScrubLine (k res : Nat) (s : State) : State := if scrubs s k then scrubOne k res s else s

/-- The fraction of the stack scrubbed is less than the fraction of 24 h elapsed. -/
def scrubBehind (x : Scrub) : Bool := decide (x.line * dayNs < x.age * stackLines)

/-- SCRUB_FORCED_SLOT (R350): the lines of 1 ms at 100 MB/s; `bad` lists the ECC results that are not good, by line in the
slot. -/
def effScrubSlot (k : Nat) (bad : List (Nat × Nat)) (s : State) : State :=
  let x := scrubOf s k
  if scrubs s k && scrubBehind x && (decide (x.slotAt = 0) || decide (x.slotAt - 1 + msNs ≤ s.now)) then
    let n := x.forced.toNat
    let lines := 100000 * (n + 1) / 64 - 100000 * n / 64
    each (List.range lines) (fun i s => scrubOne k (tget 0 bad i) s)
      (setScrub s k { x with forced := BitVec.ofNat 64 (satAdd 64 n 1), slotAt := s.now + 1 })
  else s

/-! ## Telemetry (R351, 15 R401) -/

/-- The readings that arrived, over the earlier ones. -/
def takeReadings (t : Tab (BitVec 32)) (l : List (Option (BitVec 32))) : Tab (BitVec 32) :=
  l.zipIdx.foldl (fun t e => match e.1 with
    | some v => tput 0 t (e.2 + 1) v
    | none => t) t

/-- The dropped samples of a list. -/
def droppedIn (l : List (Option (BitVec 32))) : Nat := (l.filter Option.isNone).length

/-- The RC counters of a port enter the 64-bit counters (15 R401). -/
def takePort (p : Nat) (s : State) : State :=
  if !linkOn s p then s
  else
    let x := portOf s p
    let l := [x.fecCorr, x.fecUncorr, x.crcErr, x.protoErr, x.replays, x.retrains, x.recalForced, x.ovfDisc]
    l.zipIdx.foldl (fun s e => bump (0x2010 + e.2) (p + 1) e.1.toNat s)
      (setPort s p { x with fecCorr := 0, fecUncorr := 0, crcErr := 0, protoErr := 0, replays := 0, retrains := 0,
                            recalForced := 0, ovfDisc := 0 })

/-- The RC counters of an Ethernet port enter the 64-bit counters. -/
def takeEth (p : Nat) (s : State) : State :=
  if !domOn s dNET then s
  else
    let x := ethOf s p
    bump 0x2022 (p + 1) x.rxIcrc.toNat (bump 0x2021 (p + 1) x.rxDrop.toNat (setEth s p { x with rxDrop := 0, rxIcrc := 0 }))

/-- TELEMETRY_SAMPLE (R351): once per period of object 0x9010. -/
def effTelemetry (x : TeleSample) (s : State) : State :=
  if !mcAwake s || s.pwr.stage < 2 || s.now < s.tele.since + param s 0x9010 10 * msNs then s
  else
    let t := s.tele
    let n := droppedIn x.volt + droppedIn x.curr + droppedIn x.die + droppedIn x.hbm
    let s := { s with tele := { t with
      volt := takeReadings t.volt x.volt, curr := takeReadings t.curr x.curr, die := takeReadings t.die x.die,
      hbm := takeReadings t.hbm x.hbm, power := x.power, energy := BitVec.ofNat 64 (satAdd 64 t.energy.toNat x.energy),
      drops := BitVec.ofNat 32 (satAdd 32 t.drops.toNat n),
      pmbErr := BitVec.ofNat 32 (satAdd 32 t.pmbErr.toNat x.pmbErr), since := s.now } }
    let s := each (List.range 2) takeEth (each (List.range 8) takePort s)
    bump 0x2413 0 s.fab.transitDrop.toNat { s with fab.transitDrop := 0 }

/-! ## Meanings of the commands -/

/-- SECURE_HOLD_LIMIT (11 R301). -/
def execSecureHoldLimit (s : State) : Host.Outcome State Fault Refusal :=
  .next (effHoldLimit s)

/-- PCR_DOMREQ (13 R331). -/
def execPcrDomreq (host : Bool) (w : RegWr) (s : State) : Host.Outcome State Fault Refusal :=
  if (if host then !barOn s else !mcRuns s) then .next s else regWrite w 4 (effDomWrite w host) s

/-- DOMAIN_REQUEST_RESUME (13 R337). -/
def execDomainRequestResume (s : State) : Host.Outcome State Fault Refusal :=
  .next (effResume s)

/-- PCR_PSTATE_REQ (13 R335). -/
def execPcrPstateReq (host : Bool) (v : BitVec 3) (s : State) : Host.Outcome State Fault Refusal :=
  .next (effPstateReq v.toNat host s)

/-- P1_ENTER (13 R335). -/
def execP1Enter (s : State) : Host.Outcome State Fault Refusal :=
  .next (effP1Enter s)

/-- PCI_POWER_STATE (13 R335). -/
def execPciPowerState (d3 : Bool) (s : State) : Host.Outcome State Fault Refusal :=
  .next (effPciPower d3 s)

/-- PERST_ASSERT_IN_P3 (13 R336). -/
def execPerstAssertInP3 (s : State) : Host.Outcome State Fault Refusal :=
  .next (effPerstP3 s)

/-- PERST_DEASSERT (13 R335). -/
def execPerstDeassert (s : State) : Host.Outcome State Fault Refusal :=
  .next (effPerstRise s)

/-- CONFIG_REQUEST (13 R348). -/
def execConfigRequest (q : CfgReq) (s : State) : Host.Outcome State Fault Refusal :=
  .next (effConfig q s)

/-- REFCLK_LOSS (13 R340). -/
def execRefclkLoss (which : Nat) (s : State) : Host.Outcome State Fault Refusal :=
  .next (effRefclk which s)

/-- SCRUB_LINE (13 R350). -/
def execScrubLine (k : Nat) (res : Nat) (s : State) : Host.Outcome State Fault Refusal :=
  .next (effScrubLine k res s)

/-- SCRUB_FORCED_SLOT (13 R350). -/
def execScrubForcedSlot (k : Nat) (bad : List (Nat × Nat)) (s : State) : Host.Outcome State Fault Refusal :=
  .next (effScrubSlot k bad s)

/-- TELEMETRY_SAMPLE (13 R351). -/
def execTelemetrySample (x : TeleSample) (s : State) : Host.Outcome State Fault Refusal :=
  .next (effTelemetry x s)

/-- DATA_LINK_LAYER_UP (13 R347). -/
def execDataLinkLayerUp (link : HostLink) (s : State) : Host.Outcome State Fault Refusal :=
  .next (effDllUp link s)

end Sys2Proof.Machine
end

