-- ==== Sys2Proof/Machine/DictWrite.lean ====
section
/-!
DEFINITION. Writes of dictionary objects: their checks, their authentication, and what each object does
(15 R380 to R386, R400, R401).
-/
namespace Sys2Proof.Machine

/-! ## What a value does once it is stored (R379, R401) -/

/-- Field Bus Enable (R387). -/
def busEnable (s : State) : State :=
  let s := stbyDrive s
  if param s 0x1028 1 = 0 then { s with dict.onBus := false } else if s.dict.onBus then s else busJoin s

/-- A port field that NLK_CTRL or NLK_FLOW holds (R401). -/
def portField (sub : Nat) (f : Port → Port) (s : State) : State := setPort s (sub - 1) (f (portOf s (sub - 1)))

/-- An alarm is written: its flag clears, and a match that holds does not fire (17 R429a). -/
def almWrite (b : Bool) (f : RtcAlarm → RtcAlarm) (s : State) : State :=
  if s.rtc.locked then s
  else
    let put := fun (a : RtcAlarm) =>
      let a := { f a with hit := false }
      { a with matching := almMatches s.rtc.t a }
    setRtc (if b then { s.rtc with alm1 := put s.rtc.alm1 } else { s.rtc with alm0 := put s.rtc.alm0 }) s

/-- A persisted value is in use: what holds it takes it. -/
def applyRwp (index sub : Nat) (s : State) : State :=
  let n := arrayVal s index sub 0
  match index with
  | 0x1028 => busEnable s
  | 0x2001 =>
    let en := decide (arrayVal s index sub 1 = 1)
    if linkOn s (sub - 1) then setEnable (sub - 1) en s else portField sub (fun x => { x with en := en }) s
  | 0x2002 => portField sub (fun x => { x with h := BitVec.ofNat 10 (arrayVal s index sub 256) }) s
  | 0x2003 => portField sub (fun x => { x with y := BitVec.ofNat 10 (arrayVal s index sub 128) }) s
  | 0x2004 => portField sub (fun x => { x with replayMax := BitVec.ofNat 4 (arrayVal s index sub 8) }) s
  | 0x2005 => portField sub (fun x => { x with replayTo := BitVec.ofNat 12 (arrayVal s index sub 8) }) s
  | 0x2006 => portField sub (fun x => { x with auto := decide (arrayVal s index sub 1 = 1) }) s
  | 0x2400 => if autoMode s then s else setAddr (arrayVal s index sub 255) s
  | 0x2401 => if n = 1 then lsaSync s else setAddr (param s 0x2400 255) s
  | 0x2421 => { lsaSync s with fab.rtDirty := true }
  | 0x4004 => if s.rtc.locked then s else { s with rtc.trim := BitVec.ofNat 9 n }
  | 0x5013 => { s with pwr.mcPeriod := BitVec.ofNat 16 (arrayVal s index sub 1000) }
  | _ => s

/-- A value lies in the range of its type and row (R381 check 7): Headroom keeps the limits of 08 R218 beside the Hysteresis the
port has. -/
def valueOk (r : CatRow) (sub : Nat) (v : Bytes) (s : State) : Bool :=
  inRange r v && (decide (r.index ≠ 0x2002) || decide (ofLe v + (portOf s (sub - 1)).y.toNat ≤ 768))

/-- Hysteresis keeps the limits of 08 R218 (R381 check 8). -/
def flowBad (index sub v : Nat) (s : State) : Bool := decide (index = 0x2003) && decide (768 < (portOf s (sub - 1)).h.toNat + v)

/-- A persisted write (R379, R382): durable first, then in use. -/
def writeRwp (index sub : Nat) (v : Bytes) (s : State) : Nat × State :=
  if (index = 0x2421 ∨ index = 0x2422) ∧ s.pair.st ≠ .unbound then (errObjState, s)
  else if flowBad index sub (ofLe v) s then (errDictAccess, s)
  else
    let a := journalWrite index sub v s
    if a.1 = 0 then (0, applyRwp index sub a.2) else a

/-! ## Objects that are not persisted -/

/-- Set Time (17 R432): the calendar is set, and Last Set Time takes the value. -/
def setTime (v : Bytes) (s : State) : State :=
  if s.rtc.locked then s else persist 0x4010 0 v (rtcSetNow v s)

/-- Chassis Key, where the write has been accepted (R386). -/
def chassisWrite (v : Bytes) (s : State) : Nat × State :=
  if !keyServes s false then (errSecureUnavailable, s) else (0, installChassis (keyOf v) s)

/-- Out of Service written 0 (14 R374). -/
def clearOos (s : State) : State := lsaSync { s with rcv.oos := false, rcv.resets := [] }

/-- Restore Defaults (16 R422): the defaults that are in use at once; the pair's role stays as it is bound. -/
def restoreDefaults (s : State) : Nat × State :=
  let a := restoreJournal s
  if a.1 = 0 then
    (0, (journalObjs.filter (fun o => decide (o.1.acc = .rwp) && decide (o.1.priv ≠ 2))).foldl
      (fun s o => applyRwp o.1.index o.2 s) a.2)
  else a

/-- Update Control (16 R412): refused while BEGIN or FINISH executes (16 R413). -/
def updControl (n : Nat) (s : State) : Nat × State :=
  if s.flash.upd.isSome then (errObjState, s)
  else match n with
  | 1 => updBegin s
  | 2 => updFinish s
  | _ => updAbort s

/-- RW and WO objects: a status, and the state. -/
def writeOther (index : Nat) (v : Bytes) (s : State) : Nat × State :=
  let n := ofLe v
  match index with
  | 0x1100 => pstateReq n s
  | 0x2402 => (0, adoptEpoch n s)
  | 0x2410 => (0, { s with fab.rtSource := decide (n = 1), fab.rtDirty := true })
  | 0x2411 => loadTable v s
  | 0x4001 => (0, setTime v s)
  | 0x4002 => (0, if s.rtc.locked then s else { s with rtc.wday := BitVec.ofNat 3 n })
  | 0x4003 => rtcShiftNow (sextN n 32) s
  | 0x4005 => (0, almWrite false (fun a => { a with time := BitVec.ofNat 80 n }) s)
  | 0x4006 => (0, almWrite false (fun a => { a with mask := BitVec.ofNat 6 n }) s)
  | 0x4007 => (0, almWrite true (fun a => { a with time := BitVec.ofNat 80 n }) s)
  | 0x4008 => (0, almWrite true (fun a => { a with mask := BitVec.ofNat 6 n }) s)
  | 0x5022 => (0, clearOos s)
  | 0x6010 => chassisWrite v s
  | 0x6050 => revokeKey n s
  | 0x7010 => confirmImage s
  | 0x7020 => updControl n s
  | 0x7021 => (0, { s with flash.updOff := BitVec.ofNat 32 n })
  | 0x7022 => updData v s
  | 0x8005 => restoreDefaults s
  | _ => (0, s)

/-- A value takes effect (R381 check 8): its status, none while it waits for the partner's answer (10 R284). -/
def dictApply (r : CatRow) (sub : Nat) (v : Bytes) (s : State) : Option Nat × State :=
  if r.index = 0x2420 then pairRoleWrite (ofLe v) s
  else
    let a := if r.acc = .rwp then writeRwp r.index sub v s else writeOther r.index v s
    (some a.1, a.2)

/-- What follows the response: a Node ID takes effect, a reset runs (R388, 13 R343). -/
def afterWrite (index : Nat) (v : Bytes) (s : State) : State :=
  if index = 0x1021 then { s with dict.node := BitVec.ofNat 8 (param s 0x1021 0) }
  else if index = 0x5001 then (if ofLe v = 2 then coldReset 2 s else requestCoreReset 2 s)
  else s

/-- Management firmware serves the dictionary (R382). -/
def dictServed (s : State) : Bool := mcAwake s && decide (2 ≤ s.pwr.stage)

/-- An accepted write of an object, its response aside: range, conditions, effect. -/
def dictSet (index : Nat) (v : Bytes) (s : State) : State :=
  if !dictServed s then s
  else
    match catRow index with
    | none => s
    | some r =>
      if !r.ty.fits v.length || !valueOk r 0 v s then s
      else
        let a := dictApply r 0 v s
        if a.1 = some 0 then afterWrite index v a.2 else a.2

/-! ## Authentication (R383 to R386) -/

/-- A write of the Chassis Key that needs no trailer (R386). -/
def unkeyed (s : State) (index : Nat) : Bool := decide (index = 0x6010) && s.kh.chassis.isNone

/-- Bytes of the trailer a write carries (R383, R386). -/
def trailerLen (s : State) (index priv : Nat) : Nat := if priv = 0 || unkeyed s index then 0 else 12

/-- A MAC failed: counted, and recorded at most once per second (R383). -/
def macFailed (s : State) : State :=
  let s := { s with dict.authFail := BitVec.ofNat 32 (satAdd 32 s.dict.authFail.toNat 1) }
  if s.dict.hmacAt ≠ 0 && s.now < s.dict.hmacAt - 1 + 1000000000 then s
  else if domOn s dHOST then record { code := errHmac, src := 10 } { s with dict.hmacAt := s.now + 1 }
  else s

/-- The bytes that a MAC covers (R383). -/
def macBytes (node op index sub len counter : Nat) (challenge value : Bytes) : Bytes :=
  leBytes 1 node ++ leBytes 1 op ++ leBytes 2 index ++ leBytes 1 sub ++ leBytes 2 len ++ leBytes 4 counter ++ challenge ++ value

/-- How check 6 of R381 begins: the claim needs no MAC, it is refused with a status and DETAIL, or its MAC is verified. -/
inductive AuthGate where
  | free
  | refused (status detail : Nat)
  | verify
  deriving DecidableEq, Repr

/-- What stands before the MAC: SEC, a deferred gating request, the chassis key, debug level L2, the challenge (R383, R385). -/
def authGate (index priv : Nat) (s : State) : AuthGate :=
  if priv = 0 || unkeyed s index then .free
  else if s.kh.chassis.isNone || !khServes s false || (decide (priv = 2) && decide (s.kh.dbg = 2)) then
    .refused errSecureUnavailable 0
  else if decide (priv = 2) && s.dict.challenge.isNone then .refused errHmac 11
  else .verify

/-- Every write that claims Keyholder privilege consumes the challenge (R385). -/
def useChallenge (priv : Nat) (s : State) : State := if priv = 2 then { s with dict.challenge := none } else s

/-- A write that carries a MAC, as the Keyholder gets it. -/
def keyedWrite (w : DictWait) (node priv : Nat) (value trailer : Bytes) (s : State) : KeyedWrite :=
  { w := w, node := node, priv := priv, value := value, trailer := trailer,
    chal := if priv = 2 then (s.dict.challenge.map (fun k => (keyBytes k).take 16)).getD [] else [] }

/-- The MAC and the counter of a write are checked (R383, R384): status, DETAIL, state; status 0 accepts. -/
def macCheck (k : KeyedWrite) (s : State) : Nat × Nat × State :=
  match s.kh.chassis with
  | none => (errSecureUnavailable, 0, s)
  | some key =>
    let counter := leAt k.trailer 0 4
    let mac := (hmac256 (keyBytes key)
      (macBytes k.node k.w.op k.w.index k.w.sub k.value.length counter k.chal k.value)).take 8
    if mac ≠ sliceB k.trailer 4 8 then (errHmac, 9, macFailed s)
    else if counter ≤ s.vb.auth.toNat then (errHmac, 10, s)
    else (0, 0, { s with vb.auth := BitVec.ofNat 32 counter })

/-! ## A write (R381) -/

/-- Checks 1 to 4 of a write of `len` bytes: status and DETAIL. -/
def writeOpen (index sub priv len : Nat) (s : State) : Nat × Nat :=
  match catFind index sub with
  | none => (errDictNoObject, 0)
  | some (r, count) =>
    if count || !(decide (r.acc = .rw) || decide (r.acc = .wo) || decide (r.acc = .rwp)) then (errDictAccess, 1)
    else if priv < r.priv && !unkeyed s index then (errDictAccess, 2)
    else if !r.ty.fits len then (errDictAccess, 4)
    else (0, 0)

/-- Checks 7 and 8 and the effect: status (none while it waits), DETAIL, state. -/
def writeValue (index sub : Nat) (value : Bytes) (s : State) : Option Nat × Nat × State :=
  match catFind index sub with
  | none => (some errDictNoObject, 0, s)
  | some (r, _) =>
    if !valueOk r sub value s then (some errDictAccess, 3, s)
    else
      let b := dictApply r sub value s
      (b.1, 0, b.2)

/-- A verified or unkeyed write ends: its response on the path of `w`, and what follows it; none is sent while it waits. -/
def writeEnd (w : DictWait) (value : Bytes) (r : Option Nat × Nat × State) : State :=
  match r.1 with
  | none => { r.2.2 with dict.wait := some w }
  | some st =>
    let s := respond w st r.2.1 [] r.2.2
    if st = 0 then afterWrite w.index value s else s

/-- A write whose MAC the Keyholder has looked at. -/
def keyedEnd (k : KeyedWrite) (s : State) : State :=
  let a := macCheck k s
  if a.1 ≠ 0 then respond k.w a.1 a.2.1 [] a.2.2 else writeEnd k.w k.value (writeValue k.w.index k.w.sub k.value a.2.2)

/-- The verified write that waits to be completed (R383). -/
def keyedServed (s : State) : State :=
  match s.dict.keyed with
  | some k => if mcAwake s then keyedEnd k { s with dict.keyed := none, dict.wait := none } else s
  | none => s

/-- A whole write and its response. The Keyholder holds its Secure Hold vote while it verifies a MAC (R383, 11 R300); the time it
takes is free (log 13). -/
def writeAndAnswer (w : DictWait) (node priv : Nat) (value trailer : Bytes) (s : State) : State :=
  let c := writeOpen w.index w.sub priv value.length s
  let u := useChallenge priv s
  if c.1 ≠ 0 then respond w c.1 c.2 [] u
  else
    match authGate w.index priv s with
    | .free => writeEnd w value (writeValue w.index w.sub value u)
    | .refused st d => respond w st d [] u
    | .verify =>
      let k := keyedWrite w node priv value trailer s
      if Config.macTime s.free = 0 && s.kh.run.isEmpty then keyedEnd k (drawn u)
      else khQueue (.write k) (Config.macTime s.free) (drawn { u with dict.wait := some w })

end Sys2Proof.Machine
end

