-- ==== Sys2Proof/Machine/Stoleg.lean ====
section
/-!
DEFINITION. Requests to the dictionary: Stoleg-FD on CAN FD and the Management Mailbox (15 R387 to R399), and the rows that
are writes of one object.
-/
namespace Sys2Proof.Machine

/-! ## Requests (R390 to R392) -/

/-- `n` bytes from offset `o`; those the frame does not hold are open (log 60). -/
def takeBytes (s : State) (b : Bytes) (o n : Nat) : Bytes :=
  ((b.drop o).take n) ++ openBytes s (n - ((b.drop o).take n).length)

/-- The open segmented write closes: one of Keyholder privilege has consumed the challenge (R385). -/
def closeXfer (x : SegXfer) (s : State) : State := useChallenge x.priv { s with dict.xfer := none }

/-- An open segmented write ends without effect and is counted (R395). -/
def abandon (x : SegXfer) (s : State) : State :=
  closeXfer x { s with dict.bus := lset s.dict.bus 4 (lget 0 s.dict.bus 4 + 1) }

/-- An expedited WRITE, or one of the mailbox (R391, R399). -/
def serveWrite (w : DictWait) (priv len : Nat) (b : Bytes) (s : State) : State :=
  let t := trailerLen s w.index priv
  let node := if w.mbx then 0 else nodeId s
  let c := writeOpen w.index w.sub priv len s
  if !w.mbx && decide (56 < len + t) && (decide (c.1 = 0) || decide (c = (errDictAccess, 4))) then
    respond w errDictAccess 4 [] (useChallenge priv s)
  else writeAndAnswer w node priv (takeBytes s b 8 len) (takeBytes s b (8 + len) t) (drawn s)

/-- WRITE_SEG (R392, R395): the stream's check value is computed by channel 3 (R394). -/
def serveOpen (w : DictWait) (priv len : Nat) (s : State) : State :=
  if s.dict.xfer.isSome then respond w errObjState 8 [] (useChallenge priv s)
  else
    let c := writeOpen w.index w.sub priv len s
    if c.1 ≠ 0 then respond w c.1 c.2 [] (useChallenge priv s)
    else
      let x : SegXfer := { index := w.index, sub := w.sub, client := w.client, priv := priv, len := len, since := s.now }
      respond w 0 0x80 [] (streamOpen 3 3 w.index w.sub { s with dict.xfer := some x })

/-- ABORT (R395). -/
def serveAbort (w : DictWait) (s : State) : State :=
  match s.dict.xfer with
  | some x => if x.client = w.client then respond w 0 0 [] (abandon x s) else respond w errObjState 8 [] s
  | none => respond w errObjState 8 [] s

/-- A request is served: header and the bytes after it (R390, R399). -/
def serve (mbx : Bool) (b : Bytes) (s : State) : State :=
  let op := byteAt b 0
  let priv := bitsAt b 5 0 2
  let len := leAt b 6 2
  let w : DictWait := { mbx := mbx, op := op, client := byteAt b 1, index := leAt b 2 2, sub := byteAt b 4 }
  if bitsAt b 5 2 6 ≠ 0 || priv = 3 || (mbx && op ≠ 1 && op ≠ 2) then
    respond w errCmdInvalid 0 [] (if op = 2 || op = 3 then useChallenge priv s else s)
  else
    match op with
    | 1 =>
      let r := dictRead w.index w.sub len s
      respond w r.1 r.2.1 r.2.2.1 r.2.2.2
    | 2 => serveWrite w priv len b s
    | 3 => serveOpen w priv len s
    | 4 => serveAbort w s
    | _ => s

/-- The final response of a segmented write. -/
def segEnd (x : SegXfer) (status detail : Nat) (s : State) : State :=
  respond { mbx := false, op := 3, client := x.client, index := x.index, sub := x.sub } status detail [] (closeXfer x s)

/-- Bytes of the stream of a segmented write (R392): value, trailer, CRC. -/
def segTotal (x : SegXfer) (s : State) : Nat := x.len + trailerLen s x.index x.priv + 4

/-- A whole segmented write: length, stream CRC, then the write (R392, R394). -/
def segLast (x : SegXfer) (s : State) : State :=
  let c := streamCheck s
  if x.data.length ≠ segTotal x s || !c.1 then segEnd x errCvuMismatch 5 c.2
  else
    writeAndAnswer { mbx := false, op := 3, client := x.client, index := x.index, sub := x.sub } (nodeId s) x.priv
      (x.data.take x.len) ((x.data.drop x.len).take (trailerLen s x.index x.priv)) { c.2 with dict.xfer := none }

/-- The last segment is served. -/
def serveLast (s : State) : State :=
  match s.dict.xfer with
  | some x => if x.full then segLast x s else s
  | none => s

/-- One request is served. -/
def serveNext (x : DictLater) (s : State) : State :=
  match x with
  | .request mbx b => serve mbx b s
  | .lastSegment => serveLast s

/-- The request arbiter (R382): a request is served once the one before it has been applied, and the MC runs. -/
def arbiter (x : DictLater) (s : State) : State :=
  if !mcAwake s || s.dict.wait.isSome || !s.dict.later.isEmpty then { s with dict.later := s.dict.later ++ [x] } else serveNext x s

/-- A request reaches the arbiter. -/
def request (mbx : Bool) (b : Bytes) (s : State) : State := arbiter (.request mbx b) s

/-- The request that has waited longest is served. -/
def serveLater (s : State) : State :=
  match s.dict.later with
  | [] => s
  | x :: r => if !mcAwake s || s.dict.wait.isSome then s else serveNext x { s with dict.later := r }

/-! ## The field bus (R387 to R398) -/

/-- A frame without error comes in: it is counted, and the receive error counter falls as ISO 11898-1 has it (R387; log 61). -/
def frameIn (s : State) : State :=
  { s with
    dict.bus := lset s.dict.bus 1 (lget 0 s.dict.bus 1 + 1),
    dict.rxErr := if 127 < s.dict.rxErr then 127 else s.dict.rxErr - 1 }

/-- A frame is received by the node it names (R388, R389). -/
def onFrame (target : Nat) (act : State → State) (s : State) : State :=
  if dictServed s && s.dict.onBus && !s.dict.busOff && decide (nodeId s ≠ 0) && decide (target = nodeId s) then act (frameIn s)
  else s

/-- A REQUEST frame of one OP. -/
def onRequest (op target : Nat) (frame : Bytes) (s : State) : State :=
  if frame.length < 8 || byteAt frame 0 ≠ op then s else onFrame target (request false frame) s

/-- STOLEG_READ. -/
def effStolegRead (target : Nat) (frame : Bytes) (s : State) : State := onRequest 1 target frame s
/-- STOLEG_WRITE. -/
def effStolegWrite (target : Nat) (frame : Bytes) (s : State) : State := onRequest 2 target frame s
/-- WRITE_SEG. -/
def effWriteSeg (target : Nat) (frame : Bytes) (s : State) : State := onRequest 3 target frame s
/-- ABORT. -/
def effStolegAbort (target : Nat) (frame : Bytes) (s : State) : State := onRequest 4 target frame s

/-- A segment of the open write of its client (R392, R394): a repeat is discarded, any other ALIVE out of order ends the transfer;
LAST brings the write before the arbiter. -/
def segment (frame : Bytes) (x : SegXfer) (s : State) : State :=
  let alive := bitsAt frame 0 0 4
  let y := { x with since := s.now }
  if x.full then s
  else if x.k ≠ 0 && alive = (x.k - 1) % 16 then { s with dict.xfer := some y }
  else if alive ≠ x.k % 16 then segEnd x errCmdInvalid 7 s
  else
    let last := decide (bitsAt frame 0 4 1 = 1)
    let b := if last then (frame.drop 2).take (segTotal x s - x.data.length) else frame.drop 2
    let s := streamFeed b { s with dict.xfer := some { y with data := x.data ++ b, k := x.k + 1, full := last } }
    if last then arbiter .lastSegment s else s

/-- SEG_DOWN (R392, R394). -/
def effSegDown (target : Nat) (frame : Bytes) (s : State) : State :=
  if frame.length < 2 then s
  else
    onFrame target (fun s =>
      match s.dict.xfer with
      | none => s
      | some x => if byteAt frame 1 ≠ x.client then s else segment frame x s) s

/-- SEGMENT_TIMEOUT (R395). -/
def effSegTimeout (s : State) : State :=
  match s.dict.xfer with
  | none => s
  | some x =>
    if dictServed s && !x.full && decide (x.since + param s 0x1027 500 * msNs ≤ s.now) then
      segEnd x errCmdInvalid 6 (abandon x s)
    else s

/-- IDENTIFY (R396, R398): a CONTROL frame to the node, or to all. -/
def effIdentify (target : Nat) (frame : Bytes) (s : State) : State :=
  if byteAt frame 0 ≠ 1 then s else onFrame (if target = 0 then nodeId s else target) sendHb s

/-- STOLEG_HEARTBEAT_SEND (R396). -/
def effStolegHb (s : State) : State :=
  let period := param s 0x1023 1000 * msNs
  if dictServed s && s.dict.onBus && decide (period ≠ 0) && decide (s.dict.hbAt + period ≤ s.now) then sendHb s else s

/-- HEARTBEAT_RECEIVE (R388): `node` sent it. -/
def effHbReceive (node : Nat) (s : State) : State :=
  if dictServed s && s.dict.onBus && !s.dict.busOff then
    let s := frameIn s
    if node = nodeId s && node ≠ 0 then { s with dict.conflict := true } else s
  else s

/-- BUS_OFF (R387): the transmit error counter has passed 255 in steps of 8, with an error frame each; how many there were beside
those it took is open (log 61). -/
def effBusOff (s : State) : State :=
  if s.dict.onBus && !s.dict.busOff then
    let errs := (263 - s.dict.txErr) / 8 + Config.openVal s.free
    let b := lset s.dict.bus 2 (lget 0 s.dict.bus 2 + errs)
    drawn { s with
      dict.busOff := true, dict.busOffAt := s.now, dict.txErr := 256, dict.bus := lset b 3 (lget 0 b 3 + 1) }
  else s

/-- The node is error passive (R387, ISO 11898-1). -/
def errPassive (s : State) : Bool := decide (127 < s.dict.txErr) || decide (127 < s.dict.rxErr)

/-- BUS_OFF_RECOVERY (R387): 128 runs of 11 recessive bits at 1 Mbit/s, as ISO 11898-1 has it; the error counters are 0 then
(log 61). -/
def effBusOffRecovery (s : State) : State :=
  if s.dict.busOff && decide (s.dict.busOffAt + 1408000 ≤ s.now) then { s with dict.busOff := false, dict.txErr := 0, dict.rxErr := 0 }
  else s

/-! ## The Management Mailbox (R399) -/

/-- MBX_CTRL as read. -/
def mbxCtrl (s : State) : Nat := 2 * b2n s.dict.mbxIrq + 2 ^ 16 * s.dict.mbxVec.toNat

/-- MBX_GO: a write of MBX_CTRL. -/
def effMbxGo (w : RegWr) (s : State) : State :=
  if !barOn s then s
  else
    let v := rwMerge w 4 (mbxCtrl s)
    let s := { s with dict.mbxIrq := v.testBit 1, dict.mbxVec := BitVec.ofNat 11 (v / 2 ^ 16) }
    if (rwOnes w 4).testBit 0 && !s.dict.mbxBusy && hostReady s then
      request true s.dict.mbxReq { s with dict.mbxBusy := true }
    else s

/-! ## Rows that are accesses of one object -/

/-- WRITE_CHALLENGE (R385). -/
def effWriteChallenge (s : State) : State :=
  if dictServed s then
    let c := challengeRead s
    if c.1 = 0 then emit (.readData c.2.1) c.2.2 else s
  else s

/-- POWER_STATE_REQUEST (13 R335): a write of object 0x1100. -/
def effStateRequest (v : BitVec 8) (s : State) : State := dictSet 0x1100 (leBytes 1 v.toNat) s
/-- FABRIC_EPOCH_WRITE (10 R262). -/
def effEpoch (v : BitVec 64) (s : State) : State := dictSet 0x2402 (leBytes 8 v.toNat) s
/-- DEVICE_ADDRESS_WRITE (10 R263). -/
def effAddress (v : BitVec 8) (s : State) : State := dictSet 0x2400 (leBytes 1 v.toNat) s
/-- LOADED_ROUTING_TABLE (10 R269). -/
def effRoutingTable (b : Bytes) (s : State) : State := dictSet 0x2411 b s
/-- PAIR_ROLE_WRITE (10 R284). -/
def effRoleWrite (v : BitVec 8) (s : State) : State := dictSet 0x2420 (leBytes 1 v.toNat) s
/-- RESET_REQUEST (13 R343). -/
def effResetRequest (v : BitVec 8) (s : State) : State := dictSet 0x5001 (leBytes 1 v.toNat) s
/-- OUT_OF_SERVICE_CLEAR (14 R374). -/
def effOosClear (s : State) : State := dictSet 0x5022 (leBytes 1 0) s
/-- REVOKE_SIGNING_KEY (11 R312). -/
def effRevokeKey (i : BitVec 8) (s : State) : State := dictSet 0x6050 (leBytes 1 i.toNat) s
/-- CHASSIS_KEY_WRITE (R386). -/
def effChassisKey (key : BitVec 256) (s : State) : State := dictSet 0x6010 (keyBytes key) s
/-- CONFIRM_IMAGE (16 R414). -/
def effConfirm (s : State) : State := dictSet 0x7010 (leBytes 1 1) s
/-- BEGIN (16 R412). -/
def effBegin (s : State) : State := dictSet 0x7020 (leBytes 1 1) s
/-- FINISH (16 R412). -/
def effFinish (s : State) : State := dictSet 0x7020 (leBytes 1 2) s
/-- ABORT of Update Control (16 R412). -/
def effUpdateAbort (s : State) : State := dictSet 0x7020 (leBytes 1 3) s
/-- Update Data (16 R412). -/
def effUpdateData (b : Bytes) (s : State) : State := dictSet 0x7022 b s
/-- RESTORE_DEFAULTS (16 R422). -/
def effRestore (s : State) : State := dictSet 0x8005 (leBytes 1 0xA5) s
/-- CURRENT_TIME (17 R431): a read of object 0x4000. -/
def effCurrentTime (s : State) : State :=
  if dictServed s then
    let t := rtcCaptureNow s
    emit (.readData t.1) t.2
  else s
/-- SET_TIME (17 R432). -/
def effSetTime (b : Bytes) (s : State) : State := dictSet 0x4001 b s

/-! ## Meanings of the commands -/

/-- PAIR_ROLE_WRITE (10 R284). -/
def execPairRoleWrite (v : BitVec 8) (s : State) : Host.Outcome State Fault Refusal :=
  .next (effRoleWrite v s)

/-- POWER_STATE_REQUEST (13 R335). -/
def execPowerStateRequest (v : BitVec 8) (s : State) : Host.Outcome State Fault Refusal :=
  .next (effStateRequest v s)

/-- STOLEG_READ (15 R381). -/
def execStolegRead (target : Nat) (frame : Bytes) (s : State) : Host.Outcome State Fault Refusal :=
  .next (effStolegRead target frame s)

/-- STOLEG_WRITE (15 R391). -/
def execStolegWrite (target : Nat) (frame : Bytes) (s : State) : Host.Outcome State Fault Refusal :=
  .next (effStolegWrite target frame s)

/-- WRITE_SEG (15 R392). -/
def execWriteSeg (target : Nat) (frame : Bytes) (s : State) : Host.Outcome State Fault Refusal :=
  .next (effWriteSeg target frame s)

/-- SEG_DOWN (15 R394). -/
def execSegDown (target : Nat) (frame : Bytes) (s : State) : Host.Outcome State Fault Refusal :=
  .next (effSegDown target frame s)

/-- ABORT (15 R395). -/
def execStolegAbort (target : Nat) (frame : Bytes) (s : State) : Host.Outcome State Fault Refusal :=
  .next (effStolegAbort target frame s)

/-- SEGMENT_TIMEOUT (15 R395). -/
def execSegmentTimeout (s : State) : Host.Outcome State Fault Refusal :=
  .next (effSegTimeout s)

/-- IDENTIFY (15 R398). -/
def execIdentify (target : Nat) (frame : Bytes) (s : State) : Host.Outcome State Fault Refusal :=
  .next (effIdentify target frame s)

/-- STOLEG_HEARTBEAT_SEND (15 R396). -/
def execStolegHeartbeatSend (s : State) : Host.Outcome State Fault Refusal :=
  .next (effStolegHb s)

/-- HEARTBEAT_RECEIVE (15 R388). -/
def execHeartbeatReceive (node : Nat) (s : State) : Host.Outcome State Fault Refusal :=
  .next (effHbReceive node s)

/-- MBX_GO (15 R399). -/
def execMbxGo (w : RegWr) (s : State) : Host.Outcome State Fault Refusal :=
  if !barOn s then .next s else regWrite w 4 (effMbxGo w) s

/-- WRITE_CHALLENGE (15 R385). -/
def execWriteChallenge (s : State) : Host.Outcome State Fault Refusal :=
  .next (effWriteChallenge s)

/-- FABRIC_EPOCH_WRITE (10 R262). -/
def execFabricEpochWrite (v : BitVec 64) (s : State) : Host.Outcome State Fault Refusal :=
  .next (effEpoch v s)

/-- DEVICE_ADDRESS_WRITE (10 R263). -/
def execDeviceAddressWrite (v : BitVec 8) (s : State) : Host.Outcome State Fault Refusal :=
  .next (effAddress v s)

/-- LOADED_ROUTING_TABLE (10 R269). -/
def execLoadedRoutingTable (b : Bytes) (s : State) : Host.Outcome State Fault Refusal :=
  .next (effRoutingTable b s)

/-- RESET_REQUEST (13 R343). -/
def execResetRequest (v : BitVec 8) (s : State) : Host.Outcome State Fault Refusal :=
  .next (effResetRequest v s)

/-- OUT_OF_SERVICE_CLEAR (14 R374). -/
def execOutOfServiceClear (s : State) : Host.Outcome State Fault Refusal :=
  .next (effOosClear s)

/-- REVOKE_SIGNING_KEY (11 R312). -/
def execRevokeSigningKey (v : BitVec 8) (s : State) : Host.Outcome State Fault Refusal :=
  .next (effRevokeKey v s)

/-- CHASSIS_KEY_WRITE (15 R386). -/
def execChassisKeyWrite (key : BitVec 256) (s : State) : Host.Outcome State Fault Refusal :=
  .next (effChassisKey key s)

/-- CONFIRM_IMAGE (16 R414). -/
def execConfirmImage (s : State) : Host.Outcome State Fault Refusal :=
  .next (effConfirm s)

/-- BEGIN (16 R412). -/
def execUpdateBegin (s : State) : Host.Outcome State Fault Refusal :=
  .next (effBegin s)

/-- FINISH (16 R412). -/
def execUpdateFinish (s : State) : Host.Outcome State Fault Refusal :=
  .next (effFinish s)

/-- UPDATE_ABORT (16 R412). -/
def execUpdateAbort (s : State) : Host.Outcome State Fault Refusal :=
  .next (effUpdateAbort s)

/-- UPDATE_DATA (16 R412). -/
def execUpdateData (b : Bytes) (s : State) : Host.Outcome State Fault Refusal :=
  .next (effUpdateData b s)

/-- RESTORE_DEFAULTS (16 R422). -/
def execRestoreDefaults (s : State) : Host.Outcome State Fault Refusal :=
  .next (effRestore s)

/-- SET_TIME (17 R432). -/
def execSetTime (b : Bytes) (s : State) : Host.Outcome State Fault Refusal :=
  .next (effSetTime b s)

/-- CURRENT_TIME (17 R431). -/
def execCurrentTime (s : State) : Host.Outcome State Fault Refusal :=
  .next (effCurrentTime s)

/-- BUS_OFF (15 R387). -/
def execBusOff (s : State) : Host.Outcome State Fault Refusal :=
  .next (effBusOff s)

/-- BUS_OFF_RECOVERY (15 R387). -/
def execBusOffRecovery (s : State) : Host.Outcome State Fault Refusal :=
  .next (effBusOffRecovery s)

end Sys2Proof.Machine
end

