-- ==== Sys2Proof/Machine/Elec.lean ====
section
/-!
DEFINITION. Supplies, the thermal trip and PMBus (18 R443 to R458, 17 R429, R436).
-/
namespace Sys2Proof.Machine

/-! ## VBAT (17 R429, R438, 18 R452, 13 R346) -/

/-- The VBAT domain with no history: fields with a stated value take it, the others hold any value. -/
def vbatFresh (s : State) : State :=
  let f := fun (i : Nat) => Config.openVal (s.free + i)
  let r : Rtc :=
    { t := calOf (leBytes 10 (f 0)), wday := BitVec.ofNat 3 (f 1), prescale := BitVec.ofNat 20 (f 2),
      trimNow := BitVec.ofNat 9 (f 3), setV := BitVec.ofNat 80 (f 4), capC := calOf (leBytes 10 (f 5)),
      capH := calOf (leBytes 10 (f 6)), alm0 := { time := BitVec.ofNat 80 (f 7) }, alm1 := { time := BitVec.ofNat 80 (f 8) },
      locked := decide (f 9 % 2 = 1), onVbat := s.rtc.onVbat, vbat := s.rtc.vbat }
  { setRtc r s with
    vb := { zeroCause := f 10 % 256 }, pwr.rstCold := BitVec.ofNat 4 (f 11), pwr.rstCore := BitVec.ofNat 4 (f 12),
    free := s.free + 13 }

/-- VBAT_SUPPLY_APPLIED (17 R429). -/
def effVbatApplied (s : State) : State :=
  if s.rtc.vbat then s
  else
    let s := { s with rtc.vbat := true }
    if s.pwr.main then s else vbatFresh s

/-- VBAT_SUPPLY_LOSS (18 R452): with main power present nothing but the supply is lost. -/
def effVbatLoss (s : State) : State :=
  let s := { s with rtc.vbat := false }
  if s.pwr.main then s else vbatFresh s

/-! ## Main power (18 R445 to R447, 17 R436) -/

/-- MAIN_POWER_FAIL (18 R446): everything but VBAT is lost, and the RTC locks, captures and goes to VBAT. -/
def effPowerFail (s : State) : State :=
  if !s.pwr.main then s
  else
    let s' := emit (.canStby true) (if s.pwr.trip then emit (.thermtrip false) s else s)
    let s' := rtcPowerFail (coldReset 0 s')
    let s' := { s' with
      pwr.main := false, pwr.pwrOk := false, pwr.perstN := false, pwr.rstCold := s.pwr.rstCold, pwr.rstCore := s.pwr.rstCore }
    if s'.rtc.vbat then s' else vbatFresh s'

/-- The power-on Cold reset is released 2 ms after PWR_OK rose (R445). -/
def powerOn (s : State) : State :=
  if s.pwr.held && !s.pwr.trip && decide (s.pwr.okAt + 2 * msNs ≤ s.now) then coldReset 1 { s with pwr.held := false } else s

/-- PWR_OK_RISE (18 R445): PWR_OK rises, and 2 ms later the Cold reset is released. -/
def effPwrOkRise (s : State) : State :=
  if s.pwr.main then powerOn s
  else
    stbyDrive { s with pwr.main := true, pwr.pwrOk := true, pwr.okAt := s.now, pwr.held := true, rtc.onVbat := false }

/-- RTC_UNLOCK (17 R436). -/
def effRtcUnlock (s : State) : State :=
  if s.rtc.locked && s.pwr.main && decide (s.pwr.okAt + 2 * msNs ≤ s.now) then { s with rtc.locked := false } else s

/-! ## Thermal trip (18 R457) -/

/-- The trip value of a sensor in 0.1 °C (R455, R458): 1 to 16 die, 17 to 20 HBM. -/
def tripValue (n : Nat) : Nat := if n ≤ 16 then 1100 else 1050

/-- THERMAL_TRIP: sensor `n` reads `t` tenths of a degree. -/
def effThermal (n t : Nat) (s : State) : State :=
  if !s.pwr.main || s.pwr.trip || n = 0 || 20 < n || t < tripValue n then s
  else
    let s := faultCapture { zeroAll s with kh.chassis := none }
    let s := each onOrder.reverse domainOff s
    emit (.thermtrip true) { s with
      kh.ret := none, pwr.trip := true, vb.tripSensor := some (n, t), vb.tripTime := calBytes s.rtc.t,
      vb.tripCount := BitVec.ofNat 32 (satAdd 32 s.vb.tripCount.toNat 1) }

/-! ## PMBus (18 R443) -/

/-- PMBUS_ALERT: STATUS_WORD is read from every regulator; `more` are those the board has beside the five it must have, and
`errs` transactions fail. -/
def effPmbusAlert (more : List Nat) (errs : Nat) (s : State) : State :=
  if dictServed s then
    let regs := (List.range 14).filter (fun k => [1, 2, 4, 5, 8].contains k || more.contains k)
    emitAll (regs.map .pmbus) { s with tele.pmbErr := BitVec.ofNat 32 (satAdd 32 s.tele.pmbErr.toNat errs) }
  else s

/-- SUBSECOND_SHIFT (17 R433): a write of object 0x4003. -/
def effSubShift (n : BitVec 32) (s : State) : State := dictSet 0x4003 (leBytes 4 n.toNat) s

/-! ## Meanings of the commands -/

/-- SUBSECOND_SHIFT (17 R433). -/
def execSubsecondShift (n : BitVec 32) (s : State) : Host.Outcome State Fault Refusal :=
  .next (effSubShift n s)

/-- MAIN_POWER_FAIL (18 R446). -/
def execMainPowerFail (s : State) : Host.Outcome State Fault Refusal :=
  .next (effPowerFail s)

/-- RTC_UNLOCK (17 R436). -/
def execRtcUnlock (s : State) : Host.Outcome State Fault Refusal :=
  .next (effRtcUnlock s)

/-- PWR_OK_RISE (18 R445). -/
def execPwrOkRise (s : State) : Host.Outcome State Fault Refusal :=
  .next (effPwrOkRise s)

/-- THERMAL_TRIP (18 R457). -/
def execThermalTrip (n : Nat) (t : Nat) (s : State) : Host.Outcome State Fault Refusal :=
  .next (effThermal n t s)

/-- PMBUS_ALERT (18 R443). -/
def execPmbusAlert (more : List Nat) (errs : Nat) (s : State) : Host.Outcome State Fault Refusal :=
  .next (effPmbusAlert more errs s)

/-- VBAT_SUPPLY_APPLIED (17 R429). -/
def execVbatSupplyApplied (s : State) : Host.Outcome State Fault Refusal :=
  .next (effVbatApplied s)

/-- VBAT_SUPPLY_LOSS (18 R452). -/
def execVbatSupplyLoss (s : State) : Host.Outcome State Fault Refusal :=
  .next (effVbatLoss s)

end Sys2Proof.Machine
end

