-- ==== Sys2Proof/Machine/Nalfa.lean ====
section
/-!
DEFINITION. The rows of the transaction engine (09): segments sent, requests at their destination, responses at their source,
the host transaction registers, the end of a tag's quarantine.
-/
namespace Sys2Proof.Machine

/-- SEGMENT_SEND (R230, R466): the next segment of transaction `id`. -/
def effSegmentSend (id : Nat) (s : State) : State := segSend id s

/-! ## Requests (R236 to R239); `src` is the arrival port, or 8 for a looped-back request -/

/-- LOAD (R223, R236). -/
def effLoad (src : Nat) (s : State) : State := destReq src (fun h => decide (h.ttype = 1)) actLoad s

/-- STORE (R236, R237). -/
def effStore (src : Nat) (s : State) : State := destReq src (fun h => decide (h.ttype = 2)) actStore s

/-- COPY (R223, R236). -/
def effCopy (src : Nat) (s : State) : State := destReq src (fun h => decide (h.ttype = 3)) actCopy s

/-- An integer atomic of one operation (R238). -/
def atomicReq (aop src : Nat) (s : State) : State :=
  destReq src (fun h => decide (h.ttype = 4) && decide (h.aop = aop)) actAtomic s

/-- ATOMIC_ADD (R238). -/
def effAtomicAdd (src : Nat) (s : State) : State := atomicReq 0 src s
/-- ATOMIC_MIN (R238). -/
def effAtomicMin (src : Nat) (s : State) : State := atomicReq 1 src s
/-- ATOMIC_MAX (R238). -/
def effAtomicMax (src : Nat) (s : State) : State := atomicReq 2 src s
/-- ATOMIC_SWAP (R238). -/
def effAtomicSwap (src : Nat) (s : State) : State := atomicReq 3 src s
/-- ATOMIC_CAS (R238). -/
def effAtomicCas (src : Nat) (s : State) : State := atomicReq 4 src s

/-- EXA_ADD (R239). -/
def effExaAdd (src : Nat) (s : State) : State :=
  destReq src (fun h => decide (h.ttype = 4) && decide (h.aop = 5)) actExaAdd s

/-- EXA_RED (R239, 03 R82). -/
def effExaRed (src : Nat) (s : State) : State :=
  destReq src (fun h => decide (h.ttype = 4) && decide (h.aop = 6)) actExaRed s

/-- REDUCE_DONE (R239). -/
def effReduceDone (src : Nat) (s : State) : State :=
  destReq src (fun h => decide (h.ttype = 4) && decide (h.aop = 7)) actReduceDone s

/-- FENCE (R232): it waits until every earlier write of its stream has landed. -/
def effFence (src : Nat) (s : State) : State :=
  match takeHead src false s with
  | .got b _ => if streamWaits s (parseHdr b) then s else destReq src (fun h => decide (h.ttype = 5)) actFence s
  | _ => destReq src (fun h => decide (h.ttype = 5)) actFence s

/-! ## Responses (R224, R231, R253) -/

/-- DONE_RESPONSE (R224). -/
def effDoneResponse (src : Nat) (s : State) : State := sourceResp src 8 s

/-- DATA_RESPONSE (R224). -/
def effDataResponse (src : Nat) (s : State) : State := sourceResp src 9 s

/-! ## The host transaction registers (R254) -/

/-- An NTX transaction that sends nothing ends. -/
def ntxFail (code : Nat) (s : State) : State :=
  { s with txn.ntx.code := BitVec.ofNat 16 code, txn.ntx.done := true, txn.ntx.busy := false }

/-- GO with a TTYPE (R254): the checks, then one transaction of one segment. -/
def ntxGo (want : Nat) (s : State) : State :=
  let x := s.txn.ntx
  let c := x.ctl.toNat
  let tt := bitsN c 0 4
  let aop := bitsN c 4 4
  let ctx := bitsN c 16 7
  let dev := bitsN c 24 8
  let len := bitsN c 40 8 + 1
  let known := [1, 2, 4, 5].contains tt
  if !barOn s || x.busy || (known && tt ≠ want) then s
  else if !known || (if tt = 4 then decide (4 < aop) else decide (aop ≠ 0)) || dev = s.fab.addr.toNat then
    ntxFail errCmdInvalid s
  else if !domOn s dMEM || (ctxOf s ctx).st ≠ .live then ntxFail errObjState s
  else
    let back := if tt = 1 then len else if tt = 4 then 8 else 1
    if !(match hbmPieces s ctx x.rva.toNat back true with
        | some [_] => true
        | _ => false) then ntxFail errCmdInvalid s
    else
      let order := bitsN c 8 3
      let code := issueCheck s ctx 0 (bitsN c 11 3) dev order true false
      if code ≠ 0 then ntxFail code s
      else
        let data := if tt = 2 then sliceB x.data 0 len
          else if tt = 4 then leBytes (if aop = 4 then 16 else 8) x.opnd.toNat else []
        let h : Hdr :=
          { ttype := tt, aop := aop, order := order, last := true, dstDev := dev, srcDev := s.fab.addr.toNat,
            dstCtx := bitsN c 32 7, srcCtx := ctx, kslot := (keySlot s ctx (bitsN c 11 3)).getD 0, srcTile := 0x7F,
            dlen := if tt = 1 then len else data.length, va := if tt = 5 then 0 else x.va.toNat,
            w24 := if tt = 5 then bitsN c 48 14 + 2 ^ 16 * bitsN c 62 1 else 0 }
        let r := txnNew { ctx := ctx, src := .ntx, dev := dev, loop := false,
                          unsent := [{ idx := 0, hdr := h, data := data, land := x.rva.toNat }] } s
        { r.2 with txn.ntx.busy := true }

/-- NTX_LOAD (R254). -/
def effNtxLoad (s : State) : State := ntxGo 1 s
/-- NTX_STORE (R254). -/
def effNtxStore (s : State) : State := ntxGo 2 s
/-- NTX_ATOMIC (R254). -/
def effNtxAtomic (s : State) : State := ntxGo 4 s
/-- NTX_FENCE (R254). -/
def effNtxFence (s : State) : State := ntxGo 5 s

/-- TAG_QUARANTINE_END (R231): 100 ms after its transaction ended, a tag is usable again. -/
def effTagQuarantineEnd (tag : Nat) (s : State) : State :=
  let t := tget 0 s.txn.quar tag
  if t ≠ 0 && decide (t - 1 + 100000000 ≤ s.now) then { s with txn.quar := tput 0 s.txn.quar tag 0 } else s

/-! ## Meanings of the commands -/

/-- SEGMENT_SEND (09 R230). -/
def execSegmentSend (id : Nat) (s : State) : Host.Outcome State Fault Refusal :=
  .next (effSegmentSend id s)

/-- LOAD (09 R223). -/
def execLoad (src : Nat) (s : State) : Host.Outcome State Fault Refusal :=
  .next (effLoad src s)

/-- STORE (09 R236). -/
def execStore (src : Nat) (s : State) : Host.Outcome State Fault Refusal :=
  .next (effStore src s)

/-- COPY (09 R223). -/
def execCopy (src : Nat) (s : State) : Host.Outcome State Fault Refusal :=
  .next (effCopy src s)

/-- ATOMIC_ADD (09 R238). -/
def execAtomicAdd (src : Nat) (s : State) : Host.Outcome State Fault Refusal :=
  .next (effAtomicAdd src s)

/-- ATOMIC_MIN (09 R238). -/
def execAtomicMin (src : Nat) (s : State) : Host.Outcome State Fault Refusal :=
  .next (effAtomicMin src s)

/-- ATOMIC_MAX (09 R238). -/
def execAtomicMax (src : Nat) (s : State) : Host.Outcome State Fault Refusal :=
  .next (effAtomicMax src s)

/-- ATOMIC_SWAP (09 R238). -/
def execAtomicSwap (src : Nat) (s : State) : Host.Outcome State Fault Refusal :=
  .next (effAtomicSwap src s)

/-- ATOMIC_CAS (09 R238). -/
def execAtomicCas (src : Nat) (s : State) : Host.Outcome State Fault Refusal :=
  .next (effAtomicCas src s)

/-- EXA_ADD (09 R239). -/
def execExaAdd (src : Nat) (s : State) : Host.Outcome State Fault Refusal :=
  .next (effExaAdd src s)

/-- EXA_RED (09 R239). -/
def execExaRed (src : Nat) (s : State) : Host.Outcome State Fault Refusal :=
  .next (effExaRed src s)

/-- REDUCE_DONE (09 R239). -/
def execReduceDone (src : Nat) (s : State) : Host.Outcome State Fault Refusal :=
  .next (effReduceDone src s)

/-- FENCE (09 R232). -/
def execFence (src : Nat) (s : State) : Host.Outcome State Fault Refusal :=
  .next (effFence src s)

/-- DONE_RESPONSE (09 R224). -/
def execDoneResponse (src : Nat) (s : State) : Host.Outcome State Fault Refusal :=
  .next (effDoneResponse src s)

/-- DATA_RESPONSE (09 R224). -/
def execDataResponse (src : Nat) (s : State) : Host.Outcome State Fault Refusal :=
  .next (effDataResponse src s)

/-- NTX_LOAD (09 R254). -/
def execNtxLoad (s : State) : Host.Outcome State Fault Refusal :=
  .next (effNtxLoad s)

/-- NTX_STORE (09 R254). -/
def execNtxStore (s : State) : Host.Outcome State Fault Refusal :=
  .next (effNtxStore s)

/-- NTX_ATOMIC (09 R254). -/
def execNtxAtomic (s : State) : Host.Outcome State Fault Refusal :=
  .next (effNtxAtomic s)

/-- NTX_FENCE (09 R254). -/
def execNtxFence (s : State) : Host.Outcome State Fault Refusal :=
  .next (effNtxFence s)

/-- TAG_QUARANTINE_END (09 R231). -/
def execTagQuarantineEnd (tag : Nat) (s : State) : Host.Outcome State Fault Refusal :=
  .next (effTagQuarantineEnd tag s)

end Sys2Proof.Machine
end

