-- ==== Sys2Proof/Machine/Sealer.lean ====
section
/-!
DEFINITION. Seal slots and Frame Seals (12 R323 to R327).
-/
namespace Sys2Proof.Machine

/-- The value written to SEAL_CMD. -/
def sealRaw (op slot rsv : Nat) : Nat := op + 2 ^ 8 * slot + 2 ^ 16 * rsv

/-- A seal command ends (R461). -/
def sealEnd (code raw slot : Nat) (s : State) : State :=
  let s := { s with sealer.busy := false, sealer.done := true, sealer.code := BitVec.ofNat 16 code }
  if code = 0 then s else raise { code := code, src := 2, unit := slot, detail := raw } s

/-- One seal command (R461, R107): `act` answers a code and the state. While MEM is off it fails (13 R333). -/
def sealCmd (op slot rsv : Nat) (bad : Bytes → Bool) (act : State → Nat × State) (s : State) : State :=
  if !hostReady s then s
  else if s.sealer.busy then { s with sealer.overrun := true }
  else if decide (rsv ≠ 0) || bad (leBytes 64 s.sealer.stage.toNat) then sealEnd errCmdInvalid (sealRaw op slot rsv) slot s
  else if !domOn s dMEM then sealEnd errObjState (sealRaw op slot rsv) slot s
  else
    let r := act s
    if r.1 = 0 then sealEnd 0 0 slot r.2 else sealEnd r.1 (sealRaw op slot rsv) slot s

/-- Fields of a slot descriptor (R323). -/
def sealFields : List (Nat × Nat × Nat) := [(0, 0, 7), (2, 0, 10), (8, 0, 48), (16, 0, 40), (24, 0, 48), (32, 0, 64), (40, 0, 64)]

/-- The third group of checks of OPEN (R323). -/
def sealRangeBad (s : State) (d : Bytes) : Bool :=
  let c := bitsAt d 0 0 7
  let q := bitsAt d 2 0 10
  let lo := leAt d 8 8
  let hi := lo + leAt d 16 5
  let dst := leAt d 24 8
  decide ((queueOf s q).st = .free) || decide ((queueOf s q).ctx ≠ c) || decide (lo = hi) || decide (dst % 32 ≠ 0) ||
    s.sealer.slots.any (fun e => e.2.opened && decide (e.2.ctx = c) &&
      rangesMeet lo hi (leAt e.2.desc 8 8) (leAt e.2.desc 8 8 + e.2.len)) ||
    rangesMeet dst (dst + 32) lo hi

/-- The seal of a frame with no row yet (R325): the fold of REEL_ID and FRAME_NO, moved past the frame. -/
def sealStart (d : Bytes) : Nat := mulx (crc64 (sliceB d 32 16)) (8 * leAt d 16 5)

/-- OPEN (R323). -/
def effOpen (slot rsv : Nat) (s : State) : State :=
  sealCmd 1 slot rsv (fun d => !onlyFields sealFields d) (fun s =>
    let d := leBytes 64 s.sealer.stage.toNat
    let c := bitsAt d 0 0 7
    if (tget ({} : SealSlot) s.sealer.slots slot).opened || !isLive s c then (errObjState, s)
    else if sealRangeBad s d then (errCmdInvalid, s)
    else (0, { s with
      sealer.opens := s.sealer.opens + 1,
      sealer.slots := tput {} s.sealer.slots slot
        { opened := true, desc := d, ctx := c, queue := bitsAt d 2 0 10, opening := s.sealer.opens,
          crc := BitVec.ofNat 64 (sealStart d) } })) s

/-- DISCARD (R323). -/
def effSealDiscard (slot rsv : Nat) (s : State) : State :=
  sealCmd 2 slot rsv anyStage (fun s =>
    if (tget ({} : SealSlot) s.sealer.slots slot).opened then (0, closeSeal slot s) else (errObjState, s)) s

/-- A SEAL_CMD whose OP is reserved (R323). -/
def effSealUnknown (op slot rsv : Nat) (s : State) : State := sealCmd op slot rsv (fun _ => true) (fun s => (0, s)) s

/-- What a row adds to its slot (R324, R325). -/
def sealAdd (r : SealRow) (x : SealSlot) : SealSlot :=
  { x with
    crc := x.crc ^^^ BitVec.ofNat 64 (mulx (crc64 r.data) (8 * (x.len - r.off - r.data.length))),
    bytes := x.bytes + r.data.length }

/-- SEAL_ROW_LANDED (R324): row `n` of those handed over, once nothing of it is outstanding. -/
def effSealRow (n : Nat) (s : State) : State :=
  match s.sealer.rows.find? (fun (r : SealRow) => decide (r.n = n) && r.waits.isEmpty) with
  | none => s
  | some r =>
    let x := tget ({} : SealSlot) s.sealer.slots r.slot
    let s := { s with sealer.rows := s.sealer.rows.filter (fun (y : SealRow) => decide (y.n ≠ n)) }
    let s := if x.opened && decide (x.opening = r.opening) then
        { s with sealer.slots := tput {} s.sealer.slots r.slot (sealAdd r x) }
      else s
    slotGot (.row n) s

/-! ## Meanings of the commands -/

/-- OPEN (12 R323). -/
def execOpenSlot (slot : Nat) (rsv : Nat) (s : State) : Host.Outcome State Fault Refusal :=
  .next (effOpen slot rsv s)

/-- SEAL_DISCARD (12 R323). -/
def execSealDiscard (slot : Nat) (rsv : Nat) (s : State) : Host.Outcome State Fault Refusal :=
  .next (effSealDiscard slot rsv s)

/-- SEAL_ROW_LANDED (12 R324). -/
def execSealRowLanded (n : Nat) (s : State) : Host.Outcome State Fault Refusal :=
  .next (effSealRow n s)

end Sys2Proof.Machine
end

