-- ==== Sys2Proof/Machine/RegFile.lean ====
section
/-!
DEFINITION. The registers as the host and the MC address them: reads, and writes of the fields without a command of their own
(00 R10 to R14, 01 R18, R19).
-/
namespace Sys2Proof.Machine

/-- A register: where it lies, its bytes, the domain of its block (none: AON or VBAT), its value, and what accesses do. -/
structure Reg where
  base : Nat
  n : Nat
  dom : Option Nat := none
  /-- the block judges the length of a write itself: an access is not cut to the register (05 R121, 06 R155) -/
  whole : Bool := false
  /-- bits whose read is not defined: WO and Reserved (R10, R13) -/
  wo : Nat := 0
  val : Nat := 0
  /-- an RC register: what stores the value a read leaves -/
  rc : Option (Nat → State → State) := none
  wr : RegWr → State → State := fun _ s => s

/-- Every bit of `n` bytes but those of the fields (low bit, width). -/
def allBut (n : Nat) (fs : List (Nat × Nat)) : Nat :=
  2 ^ (8 * n) - 1 - (fs.map (fun f => (2 ^ f.2 - 1) * 2 ^ f.1)).foldl (fun a b => a ||| b) 0

/-- A register that only reads. -/
def roReg (base n : Nat) (dom : Option Nat) (val : Nat) : Reg := { base := base, n := n, dom := dom, val := val }

/-- A register whose fields (low bit, width) are set by writing; its other bits are Reserved. -/
def rwReg (base n : Nat) (dom : Option Nat) (fs : List (Nat × Nat)) (val : Nat) (put : Nat → State → State) : Reg :=
  { base := base, n := n, dom := dom, wo := allBut n fs, val := val,
    wr := fun w s => put (rwMerge w n val) s }

/-- A register of bits each of which starts something where it is written as 1. -/
def goReg (base n : Nat) (dom : Option Nat) (go : Nat → State → State) : Reg :=
  { base := base, n := n, dom := dom, wo := 2 ^ (8 * n) - 1, wr := fun w s => go (rwOnes w n) s }

/-- A command register with write-only fields, held under `key`: writing one of the bytes `starts` starts the command (log 62). -/
def cmdReg (base n : Nat) (dom : Option Nat) (key : Nat) (starts : List Nat) (go : Nat → State → State) : Reg :=
  { base := base, n := n, dom := dom, wo := 2 ^ (8 * n) - 1, wr := woWrite key n starts go }

/-- A status register: `val`, and what writing ones does. -/
def w1cReg (base n : Nat) (dom : Option Nat) (fs : List (Nat × Nat)) (val : Nat) (clr : Nat → State → State) : Reg :=
  { base := base, n := n, dom := dom, wo := allBut n fs, val := val, wr := fun w s => clr (rwOnes w n) s }

/-- A counter that a read clears. -/
def rcReg (base : Nat) (dom : Option Nat) (val : Nat) (put : Nat → State → State) : Reg :=
  { base := base, n := 4, dom := dom, val := val, rc := some put }

/-- BUSY, DONE and CODE of a status register. -/
def stVal (busy done : Bool) (code : BitVec 16) : Nat := b2n busy + 2 * b2n done + 2 ^ 16 * code.toNat

/-- A W1C flag after a write. -/
def w1c (old : Bool) (ones i : Nat) : Bool := old && !ones.testBit i

/-! ## HOST: objects, Deposit, error queue, mailbox -/

/-- OBJ_CMD (05 R107, R108): the command its OP names. -/
def objCmdWrite (v : Nat) (s : State) : State :=
  let x : ObjCmd :=
    { id := BitVec.ofNat 16 (v / 2 ^ 16), vector := BitVec.ofNat 11 (v / 2 ^ 32), irq := v.testBit 43,
      rsvLo := BitVec.ofNat 8 (v / 2 ^ 8), rsvHi := BitVec.ofNat 20 (v / 2 ^ 44) }
  match v % 2 ^ 8 with
  | 0x01 => effCtxCreate x 0 s
  | 0x02 => effCtxDestroy x s
  | 0x03 => effCtxAbort x s
  | 0x04 => effCtxRestart x s
  | 0x10 => effQCreate x s
  | 0x11 => effQDestroy x s
  | 0x12 => effQStop x s
  | 0x13 => effQStart x s
  | 0x20 => effMemCreate x s
  | 0x21 => effMemDestroy x s
  | 0x22 => effMemFreeze x [] s
  | 0x23 => effMemVerify x [] s
  | 0x30 => effEvCreate x s
  | 0x31 => effEvDestroy x s
  | 0x32 => effEvAdd x s
  | 0x33 => effEvSet x s
  | 0x34 => effEvArm x s
  | op => effObjUnknown op x s

/-- NET_CMD (07 R172). -/
def netCmdWrite (v : Nat) (s : State) : State :=
  let x : NetCmd := { id := BitVec.ofNat 16 (v / 2 ^ 16), rsv := BitVec.ofNat 8 (v / 2 ^ 8) }
  match v % 2 ^ 8 with
  | 0x01 => effQpCreate x s
  | 0x02 => effQpDestroy x s
  | 0x03 => effQpFail x s
  | 0x04 => effQpRecover x s
  | 0x10 => effMrReg x s
  | 0x11 => effMrDereg x s
  | op => effNetUnknown op x s

/-- SEAL_CMD (12 R323, R461). -/
def sealCmdWrite (v : Nat) (s : State) : State :=
  let slot := v / 2 ^ 8 % 2 ^ 8
  let rsv := v / 2 ^ 16
  match v % 2 ^ 8 with
  | 1 => effOpen slot rsv s
  | 2 => effSealDiscard slot rsv s
  | op => effSealUnknown op slot rsv s

/-- SEC_CMD (11 R288). -/
def secCmdWrite (v : Nat) (s : State) : State :=
  let slot := v / 2 ^ 8 % 2 ^ 8
  match v % 2 ^ 8 with
  | 0x01 => effJkInstall slot (v / 2 ^ 16 % 2 ^ 8) 0 s
  | 0x02 => effJkErase slot 0 s
  | 0x03 => effChassisSet 0 s
  | 0x10 => effDbgChallenge false s
  | 0x11 => effDbgGrant none s
  | 0x12 => effDbgLower false s
  | _ => effSecUnknown s

/-- BIV_CMD (06 R158, R167, R168). A reserved OP starts nothing (log 62). -/
def bivCmdWrite (v : Nat) (s : State) : State :=
  let r := v / 2 ^ 4 % 2 ^ 4
  let c := v / 2 ^ 8 % 2 ^ 7
  match v % 2 ^ 4 with
  | 1 => effDeclare r c 0 s
  | 2 => effRelease r s
  | 3 => effClaim r c (v.testBit 15) 0 s
  | 4 => effDiscard r s
  | _ => s

/-- A write of DEP_ENT (06 R151): arming, disarming, or, while V is 0, the fields. -/
def depWrite (e : Nat) (w : RegWr) (s : State) : State :=
  let old := depOf s e
  let v := rwMerge w 32 (depValue old)
  if old.v then effDepositDisarm e w s
  else if v.testBit 0 then effDepositArm e w s
  else setDep s e (depSet old v)

/-- Registers of the HOST domain. -/
def hostRegs (s : State) (a : Nat) : Option Reg :=
  let d := some dHOST
  if 0x300000 ≤ a && decide (a < 0x320000) then
    let e := (a - 0x300000) / 32
    some { base := 0x300000 + 32 * e, n := 32, dom := d, wo := depRsv, val := depValue (depOf s e),
           wr := depWrite e }
  else if 0x320000 ≤ a && decide (a < 0x328000) then
    let e := (a - 0x320000) / 8
    some { base := 0x320000 + 8 * e, n := 8, dom := d, whole := true, val := (depOf s e).lastFlag.toNat,
           wr := fun w s => effDepositFlag (8 * e + w.off) w.data 0 s }
  else if 0x1000000 ≤ a && decide (a < 0x1400000) then
    let q := (a - 0x1000000) / 0x1000
    let o := a % 0x1000
    if o < 8 then some { base := a - o, n := 8, dom := d, whole := true, wo := 2 ^ 64 - 1, wr := fun w s => effSubmissionDoorbell q w.data s }
    else if o < 16 then
      some { base := a - o + 8, n := 8, dom := d, whole := true, wo := 2 ^ 64 - 1, wr := fun w s => effCompletionDoorbell q w.data s }
    else if o < 20 then some (roReg (a - o + 16) 4 d ((queueOf s q).head % 2 ^ 16))
    else some (roReg (a - o + 20) 4076 d 0)
  else
    [ rwReg 0x200000 64 d [(0, 512)] s.obj.stage.toNat (fun v s => { s with obj.stage := BitVec.ofNat 512 v }),
      cmdReg 0x200040 8 d 0x200040 (List.range 8) objCmdWrite,
      { base := 0x200048, n := 4, dom := d,
        val := stVal s.obj.busy s.obj.done s.obj.code + 4 * b2n s.obj.overrun,
        wr := fun w s =>
          let o := rwOnes w 4
          { s with obj.done := w1c s.obj.done o 1, obj.overrun := w1c s.obj.overrun o 2 } },
      roReg 0x200080 64 d s.obj.result.toNat,
      rwReg 0x330000 8 d [(0, 7), (16, 16), (32, 1)]
        (s.hif.hbCtx.toNat + 2 ^ 16 * s.hif.hbObj.toNat + 2 ^ 32 * b2n s.hif.hbBias) (fun v s =>
          { s with hif.hbCtx := BitVec.ofNat 7 v, hif.hbObj := BitVec.ofNat 16 (v / 2 ^ 16), hif.hbBias := v.testBit 32 }),
      rwReg 0x330008 8 d [(0, 36)] s.hif.hbFirst.toNat (fun v s => { s with hif.hbFirst := BitVec.ofNat 36 v }),
      rwReg 0x330010 8 d [(0, 36)] s.hif.hbCount.toNat (fun v s => { s with hif.hbCount := BitVec.ofNat 36 v }),
      goReg 0x330018 8 d (fun v s => if v.testBit 0 then effHbGo s else s),
      w1cReg 0x330020 8 d [(0, 2), (16, 16)] (stVal s.hif.hbBusy s.hif.hbDone s.hif.hbCode)
        (fun o s => { s with hif.hbDone := w1c s.hif.hbDone o 1 }),
      { base := 0x800000, n := 8, dom := d, wo := 0xFFF, val := 4096 * s.erq.base.toNat, wr := effErqBase },
      { base := 0x800008, n := 4, dom := d, wo := 0xF800FFF8, val := erqCtrl s, wr := effErqEnable },
      roReg 0x800010 4 d (s.erq.tail.toNat + 2 ^ 12 * b2n s.erq.phase),
      { base := 0x800018, n := 4, dom := d, wo := 0xFFFFF000, val := s.erq.head.toNat, wr := effErqHead },
      rcReg 0x800020 d s.erq.drops.toNat (fun v s => { s with erq.drops := BitVec.ofNat 32 v }),
      roReg 0x800030 8 d s.erq.time.toNat,
      rwReg 0xB00000 4128 d [(0, 33024)] (ofLe s.dict.mbxReq) (fun v s => { s with dict.mbxReq := leBytes 4128 v }),
      { base := 0xB02000, n := 4, dom := d, wo := 0xF800FFF9, val := mbxCtrl s, wr := effMbxGo },
      w1cReg 0xB02008 8 d [(0, 2), (8, 40)]
        (stVal s.dict.mbxBusy s.dict.mbxDone s.dict.mbxCode + 2 ^ 8 * s.dict.mbxDetail.toNat + 2 ^ 32 * s.dict.mbxRlen.toNat)
        (fun o s => { s with dict.mbxDone := w1c s.dict.mbxDone o 1 }),
      roReg 0xB04000 4096 d (ofLe s.dict.mbxRsp) ].find? (fun r => decide (r.base ≤ a) && decide (a < r.base + r.n))

/-! ## NET, the Nalfa ports, MEM and SEC -/

/-- Registers of an Ethernet port (07). -/
def ethRegs (s : State) (p : Nat) : List Reg :=
  let x := ethOf s p
  let d := some dNET
  let b := 0x601000 + 0x100 * p
  [ rwReg b 8 d [(0, 48)] x.smac.toNat (fun v s => setEth s p { ethOf s p with smac := BitVec.ofNat 48 v }),
    rwReg (b + 0x08) 8 d [(0, 32)] x.sip4.toNat (fun v s => setEth s p { ethOf s p with sip4 := BitVec.ofNat 32 v }),
    rwReg (b + 0x10) 16 d [(0, 128)] x.sip6.toNat (fun v s => setEth s p { ethOf s p with sip6 := BitVec.ofNat 128 v }),
    rwReg (b + 0x20) 8 d [(0, 4)] (x.pfcPrio.toNat + 8 * b2n x.pfcEn) (fun v s => effPfcWrite p (BitVec.ofNat 3 v) (v.testBit 3) s),
    w1cReg (b + 0x28) 8 d [(0, 1)] (b2n x.up) (fun _ s => s),
    rcReg (b + 0x30) d x.rxDrop.toNat (fun v s => setEth s p { ethOf s p with rxDrop := BitVec.ofNat 32 v }),
    rcReg (b + 0x34) d x.rxIcrc.toNat (fun v s => setEth s p { ethOf s p with rxIcrc := BitVec.ofNat 32 v }) ]

/-- NLK_STATUS (08). -/
def nlkStatus (x : Port) : Nat :=
  portStNo x.st + 2 ^ 3 * b2n x.reversed + 2 ^ 4 * x.pol.toNat + 2 ^ 8 * b2n x.rxoffQ + 2 ^ 9 * b2n x.rxoffA +
    2 ^ 10 * b2n x.txoffQ + 2 ^ 11 * b2n x.txoffA + 2 ^ 12 * b2n x.cfgErr +
    2 ^ 13 * b2n (decide (x.st = .replay) || decide (x.st = .retrain)) + 2 ^ 14 * min x.recalSkip 15

/-- Registers of a Nalfa port (08 R221). -/
def nlkRegs (s : State) (p : Nat) : List Reg :=
  let x := portOf s p
  let d := some (if p < 4 then dLNKA else dLNKB)
  let b := 0x400000 + 0x10000 * p
  let cnt (o : Nat) (v : BitVec 32) (put : Port → BitVec 32 → Port) : Reg :=
    rcReg (b + o) d v.toNat (fun v s => setPort s p (put (portOf s p) (BitVec.ofNat 32 v)))
  [ { base := b, n := 4, dom := d, wo := 0xFFF00006, val := nlkCtrl x, wr := nlkWrite p },
    { base := b + 8, n := 4, dom := d, wo := 0xFC00FC00, val := nlkFlow x, wr := effNlkFlow p },
    { base := b + 0x10, n := 4, dom := d, val := nlkStatus x,
      wr := fun w s => setPort s p { portOf s p with cfgErr := w1c (portOf s p).cfgErr (rwOnes w 4) 12 } },
    cnt 0x20 x.fecCorr (fun x v => { x with fecCorr := v }), cnt 0x24 x.fecUncorr (fun x v => { x with fecUncorr := v }),
    cnt 0x28 x.crcErr (fun x v => { x with crcErr := v }), cnt 0x2C x.protoErr (fun x v => { x with protoErr := v }),
    cnt 0x30 x.replays (fun x v => { x with replays := v }), cnt 0x34 x.retrains (fun x v => { x with retrains := v }),
    cnt 0x38 x.recalForced (fun x v => { x with recalForced := v }), cnt 0x3C x.ovfDisc (fun x v => { x with ovfDisc := v }) ]

/-- NET registers (07 R172). -/
def netRegs (s : State) : List Reg :=
  let d := some dNET
  [ rwReg 0x600000 64 d [(0, 512)] s.eth.stage.toNat (fun v s => { s with eth.stage := BitVec.ofNat 512 v }),
    cmdReg 0x600040 4 d 0x600040 (List.range 4) netCmdWrite,
    w1cReg 0x600048 4 d [(0, 2), (16, 16)] (stVal s.eth.busy s.eth.done s.eth.code)
      (fun o s => { s with eth.done := w1c s.eth.done o 1 }),
    roReg 0x600080 4 d s.eth.result.toNat ]

/-- SEAL registers (12 R323). -/
def sealRegs (s : State) : List Reg :=
  let d := some dMEM
  [ rwReg 0xC00000 64 d [(0, 512)] s.sealer.stage.toNat (fun v s => { s with sealer.stage := BitVec.ofNat 512 v }),
    cmdReg 0xC00040 4 d 0xC00040 (List.range 4) sealCmdWrite,
    { base := 0xC00048, n := 4, dom := d,
      val := stVal s.sealer.busy s.sealer.done s.sealer.code + 4 * b2n s.sealer.overrun,
      wr := fun w s =>
        let o := rwOnes w 4
        { s with sealer.done := w1c s.sealer.done o 1, sealer.overrun := w1c s.sealer.overrun o 2 } },
    roReg 0xC00080 32 d ((tkeys (fun _ (x : SealSlot) => x.opened) s.sealer.slots).map (2 ^ ·)).sum ]

/-- SECMB (11 R287, R288), seen at `b`. -/
def secRegs (s : State) (b : Nat) : List Reg :=
  let d := some dSEC
  [ roReg b 4 none (secStatus s),
    cmdReg (b + 0x008) 8 d 0x700008 [0] secCmdWrite,
    w1cReg (b + 0x010) 8 d [(0, 2), (16, 16)] (stVal s.kh.busy s.kh.done s.kh.code)
      (fun o s => { s with kh.done := w1c s.kh.done o 1 }),
    { base := b + 0x020, n := 32, dom := d, wo := 2 ^ 256 - 1,
      wr := fun w s => { s with kh.key := BitVec.ofNat 256 (rwMerge w 32 s.kh.key.toNat) } },
    roReg (b + 0x040) 64 d s.kh.result.toNat,
    { base := b + 0x100, n := 256, dom := d, wo := 2 ^ 2048 - 1,
      wr := fun w s => { s with kh.grant := putB (sliceB s.kh.grant 0 256) w.off w.data } } ]

/-! ## AON: fabric, NTX, pair, power, recovery, Bivouac -/

/-- Fabric registers and routing tables (10). -/
def fabRegs (s : State) : List Reg :=
  [ roReg 0x500000 8 none
      (s.fab.addr.toNat + 2 ^ 8 * b2n (autoMode s) + 2 ^ 9 * b2n s.fab.dbFull + 2 ^ 10 * b2n s.fab.rtSource +
        2 ^ 16 * (lsas s).length + 2 ^ 32 * dbDigest s),
    roReg 0x500008 8 none s.fab.epoch.toNat,
    rcReg 0x500010 none s.fab.transitDrop.toNat (fun v s => { s with fab.transitDrop := BitVec.ofNat 32 v }) ]

/-- NTX (09 R254). -/
def ntxRegs (s : State) : List Reg :=
  let x := s.txn.ntx
  [ rwReg 0x508000 8 none [(0, 14), (16, 7), (24, 15), (40, 23)] x.ctl.toNat
      (fun v s => { s with txn.ntx.ctl := BitVec.ofNat 64 v }),
    rwReg 0x508008 8 none [(0, 48)] x.va.toNat (fun v s => { s with txn.ntx.va := BitVec.ofNat 48 v }),
    rwReg 0x508010 8 none [(0, 48)] x.rva.toNat (fun v s => { s with txn.ntx.rva := BitVec.ofNat 48 v }),
    goReg 0x508018 8 none (fun v s =>
      if v.testBit 0 then ntxGo (bitsN s.txn.ntx.ctl.toNat 0 4) s else s),
    w1cReg 0x508020 8 none [(0, 2), (16, 16)] (stVal x.busy x.done x.code)
      (fun o s => { s with txn.ntx.done := w1c s.txn.ntx.done o 1 }),
    rwReg 0x508028 16 none [(0, 128)] x.opnd.toNat (fun v s => { s with txn.ntx.opnd := BitVec.ofNat 128 v }),
    { base := 0x508040, n := 256, wo := 2 ^ 2048 - 1,
      wr := fun w s => { s with txn.ntx.data := putB s.txn.ntx.data w.off w.data } } ]

/-- PAIR (10 R273, R278). -/
def pairRegs (s : State) : List Reg :=
  let x := s.pair
  [ roReg 0x502000 8 none (pairStateNo x.st + 8 * b2n x.role),
    rwReg 0x502008 8 none [(0, 7), (8, 8)] (x.ckCtx.toNat + 2 ^ 8 * x.ckEvv.toNat) (fun v s =>
      { s with pair.ckCtx := BitVec.ofNat 7 v, pair.ckEvv := BitVec.ofNat 8 (v / 2 ^ 8) }),
    rwReg 0x502010 16 none [(0, 128)] x.ckEv.toNat (fun v s => { s with pair.ckEv := BitVec.ofNat 128 v }),
    goReg 0x502020 8 none (fun v s => if v.testBit 0 then effCkGo s else s),
    w1cReg 0x502028 8 none [(0, 2), (16, 16)] (stVal x.ckBusy x.ckDone x.ckCode)
      (fun o s => { s with pair.ckDone := w1c s.pair.ckDone o 1 }),
    rwReg 0x502030 8 none [(0, 7)] x.ckSel.toNat (fun v s => { s with pair.ckSel := BitVec.ofNat 7 v }),
    roReg 0x502100 256 (some dMEM) (ofLe (hbmRead s (ckBase x.ckSel.toNat) 256)) ]

/-- The power controller (13 R331), seen at `b` by the host or the MC. -/
def pcrRegs (s : State) (b : Nat) (host : Bool) : List Reg :=
  let x := s.pwr
  [ { base := b, n := 8,
      val := x.on.toNat + 2 ^ 16 * x.pend.toNat + 2 ^ 26 * b2n x.busy + 2 ^ 27 * b2n x.done + 2 ^ 32 * x.code.toNat,
      wr := fun w s => { s with pwr.done := w1c s.pwr.done (rwOnes w 8) 27 } },
    { base := b + 0x08, n := 4, wo := 2 ^ 32 - 1, wr := fun w s => effDomWrite w host s },
    { base := b + 0x10, n := 4, wo := 0xFF00,
      val := pstateNo x.cur + 8 * b2n x.moving + 2 ^ 16 * x.pcode.toNat,
      wr := fun w s => if rwTouches w 1 then effPstateReq (bitsN (rwOnes w 4) 8 8) host s else s },
    roReg (b + 0x18) 4 none (x.stage + 16 * b2n x.bank + 32 * b2n x.trial + 2 ^ 16 * x.bcode.toNat),
    roReg (b + 0x20) 4 none (rstCause s) ]

/-- The recovery engine (14). -/
def rcvRegs (s : State) : List Reg :=
  let x := s.rcv
  [ roReg 0xA00000 4 none
      (b2n (decide (x.step ≠ 0)) + 2 * x.step + 2 ^ 4 * x.scope.toNat + 2 ^ 8 * (x.rctx.getD 0) + 2 ^ 15 * b2n x.rctx.isSome),
    w1cReg 0xA00008 8 none [(0, 1), (8, 8), (32, 32)]
      (b2n x.oos + 2 ^ 8 * min (recentResets s).length 255 + 2 ^ 32 * x.aseq.toNat) (fun _ s => s),
    rwReg 0xA00010 16 none [(0, 128)] x.replay.toNat (fun v s => { s with rcv.replay := BitVec.ofNat 128 v }),
    { base := 0xA00040, n := 8, wo := allBut 8 [(0, 7), (16, 16)],
      val := x.exCtx.toNat + 2 ^ 16 * x.exObj.toNat,
      wr := fun w s =>
        let v := rwMerge w 8 (s.rcv.exCtx.toNat + 2 ^ 16 * s.rcv.exObj.toNat)
        let s := { s with rcv.exCtx := BitVec.ofNat 7 v, rcv.exObj := BitVec.ofNat 16 (v / 2 ^ 16) }
        if v.testBit 32 then effExportGo s else s },
    w1cReg 0xA00048 8 none [(0, 2), (16, 16)] (stVal x.exBusy x.exDone x.exCode)
      (fun o s => { s with rcv.exDone := w1c s.rcv.exDone o 1 }) ]

/-- Bivouac (06 R158 to R168). RSTATE reads each region's STATE. -/
def bivRegs (s : State) : List Reg :=
  let x := s.biv
  [ cmdReg 0xA08000 8 none 0xA08000 [0] bivCmdWrite,
    w1cReg 0xA08008 8 none [(0, 2), (16, 48)]
      (stVal x.busy x.done x.code + 2 ^ 32 * ((List.range 16).map (fun r => regState s r % 4 * 4 ^ r)).sum)
      (fun o s => { s with biv.done := w1c s.biv.done o 1 }),
    rwReg 0xA08010 8 none [(0, 4)] x.sel.toNat (fun v s => { s with biv.sel := BitVec.ofNat 4 v }),
    { base := 0xA08020, n := 32, wo := 2 ^ 256 - 1,
      wr := fun w s => { s with biv.secret := BitVec.ofNat 256 (rwMerge w 32 s.biv.secret.toNat) } },
    roReg 0xA08800 2048 (some dMEM) (ofLe (putB (recOf s x.sel.toNat) 64 (List.replicate 40 0))) ]

/-! ## The MC's registers -/

/-- A check-value channel (12 R313 to R322). -/
def cvuRegs (s : State) (c : Nat) : List Reg :=
  let x := lget {} s.cvu c
  let b := 0x40001000 + 0x100 * c
  let now := if x.opened then x.now else x.low x.result.toNat
  [ { base := b, n := 4, wo := 0xFFC00000, val := x.cfg, wr := effCvuPreset c },
    rwReg (b + 0x08) 8 none [(0, 64)] (x.low x.poly.toNat) (fun v s => cvuParam c (fun x => { x with poly := BitVec.ofNat 64 v }) s),
    rwReg (b + 0x10) 8 none [(0, 64)] (x.low x.init.toNat) (fun v s => cvuParam c (fun x => { x with init := BitVec.ofNat 64 v }) s),
    rwReg (b + 0x18) 8 none [(0, 64)] (x.low x.xorout.toNat)
      (fun v s => cvuParam c (fun x => { x with xorout := BitVec.ofNat 64 v }) s),
    goReg (b + 0x20) 4 none (fun v s =>
      let s := if v.testBit 0 then effCvuStart c s else s
      if v.testBit 1 then effCvuFinish c s else s),
    w1cReg (b + 0x28) 4 none [(0, 8)]
      (b2n x.opened + 2 * b2n x.done + 4 * b2n x.mismatch + 8 * b2n x.matched + 16 * b2n x.foldLate + 32 * b2n x.cfgErr +
        64 * x.alvClass.toNat)
      (fun o s => onCvu c (fun x s => setCvu s c { x with
        done := w1c x.done o 1, mismatch := w1c x.mismatch o 2, foldLate := w1c x.foldLate o 4,
        cfgErr := w1c x.cfgErr o 5 }) s),
    cmdReg (b + 0x30) 8 none (b + 0x30) (List.range 8) (fun v s => effCvuFold c (BitVec.ofNat 64 v) s),
    rwReg (b + 0x38) 8 none [(0, 64)] (x.low x.expect.toNat)
      (fun v s => onCvu c (fun x s => setCvu s c { x with expect := BitVec.ofNat 64 v }) s),
    roReg (b + 0x40) 8 none now,
    goReg (b + 0x48) 1 none (fun v s => effCvuData8 c (BitVec.ofNat 8 v) s),
    cmdReg (b + 0x4C) 2 none (b + 0x4C) (List.range 2) (fun v s => effCvuData16 c (BitVec.ofNat 16 v) s),
    cmdReg (b + 0x50) 4 none (b + 0x50) (List.range 4) (fun v s => effCvuData32 c (BitVec.ofNat 32 v) s),
    { base := b + 0x58, n := 1, val := x.alvTx.toNat % x.alvMod,
      rc := some (fun _ s => onCvu c (fun x s =>
        setCvu s c { x with alvTx := BitVec.ofNat 8 ((x.alvTx.toNat % x.alvMod + 1) % x.alvMod) }) s) },
    goReg (b + 0x60) 1 none (fun v s => effCvuAlvRx c (BitVec.ofNat 8 v) s) ]

/-- A write of an RTC field: ignored while LOCKED (17 R437); a value of R430 sets CFG_ERR. -/
def rtcField (bad : Bool) (f : Rtc → Rtc) (s : State) : State :=
  if s.rtc.locked then s
  else if bad then { s with rtc.cfgErr := true }
  else setRtc (f s.rtc) s

/-- The RTC (17 R429, R430). -/
def rtcRegs (s : State) : List Reg :=
  let x := s.rtc
  let b := 0x40002000
  [ { base := b, n := 4, wo := 2 ^ 32 - 1,
      wr := fun w s => if s.rtc.locked then s else
        woWrite b 4 [0] (fun v s => rtcCmd (v % 8) (BitVec.ofNat 16 (v / 2 ^ 16)).toInt s) w s },
    w1cReg (b + 0x04) 4 none [(0, 7)]
      (b2n x.cmd.isSome + 2 * b2n (shiftPend x) + 4 * b2n x.locked + 8 * b2n x.alm0.hit + 16 * b2n x.alm1.hit +
        32 * b2n x.hwcap + 64 * b2n x.cfgErr)
      (fun o s => rtcField false (fun r => { r with
        alm0 := { r.alm0 with hit := w1c r.alm0.hit o 3 }, alm1 := { r.alm1 with hit := w1c r.alm1.hit o 4 },
        hwcap := w1c r.hwcap o 5, cfgErr := w1c r.cfgErr o 6 }) s),
    rwReg (b + 0x08) 4 none [(0, 9)] x.trim.toNat
      (fun v s => rtcField (decide (v % 512 = 256)) (fun r => { r with trim := BitVec.ofNat 9 v }) s),
    rwReg (b + 0x0C) 4 none [(0, 3)] x.wday.toNat
      (fun v s => rtcField (decide (v % 8 = 7)) (fun r => { r with wday := BitVec.ofNat 3 v }) s),
    rwReg (b + 0x10) 10 none [(0, 80)] x.setV.toNat (fun v s => rtcField false (fun r => { r with setV := BitVec.ofNat 80 v }) s),
    roReg (b + 0x20) 10 none (ofLe (calBytes x.capC)),
    roReg (b + 0x30) 10 none (ofLe (calBytes x.capH)),
    roReg (b + 0x3C) 4 none x.capCause.toNat,
    rwReg (b + 0x40) 10 none [(0, 80)] x.alm0.time.toNat
      (fun v s => almWrite false (fun a => { a with time := BitVec.ofNat 80 v }) s),
    rwReg (b + 0x50) 4 none [(0, 6)] x.alm0.mask.toNat
      (fun v s => almWrite false (fun a => { a with mask := BitVec.ofNat 6 v }) s),
    rwReg (b + 0x60) 10 none [(0, 80)] x.alm1.time.toNat
      (fun v s => almWrite true (fun a => { a with time := BitVec.ofNat 80 v }) s),
    rwReg (b + 0x70) 4 none [(0, 6)] x.alm1.mask.toNat
      (fun v s => almWrite true (fun a => { a with mask := BitVec.ofNat 6 v }) s) ]

/-- The flash controller (16 R404); `src` is the tag of the store. -/
def flRegs (s : State) (src : Nat) : List Reg :=
  let x := s.flash
  let b := 0x40003000
  [ cmdReg b 4 none b [0] (fun v s => flashStart (v % 16) (v.testBit 4) src s),
    rwReg (b + 0x08) 4 none [(0, 26)] x.addr.toNat (fun v s => { s with flash.addr := BitVec.ofNat 26 v }),
    rwReg (b + 0x10) 4 none [(0, 9)] x.len.toNat (fun v s => { s with flash.len := BitVec.ofNat 9 v }),
    w1cReg (b + 0x18) 4 none [(0, 4), (16, 16)] (stVal x.busy x.done x.code + 4 * b2n x.vfail + 8 * b2n x.blank)
      (fun o s => { s with flash.done := w1c s.flash.done o 1, flash.vfail := w1c s.flash.vfail o 2 }),
    rcReg (b + 0x20) none x.refused.toNat (fun v s => { s with flash.refused := BitVec.ofNat 32 v }),
    rwReg (b + 0x100) 256 none [(0, 2048)] (ofLe x.buf) (fun v s => { s with flash.buf := leBytes 256 v }) ]

/-- MC_WDOG (14 R376). -/
def wdogReg (s : State) : Reg :=
  { base := 0x40005100, n := 4, wo := 0xFFFF, val := 2 ^ 16 * s.pwr.mcPeriod.toNat,
    wr := fun w s =>
      let v := rwMerge w 4 (2 ^ 16 * s.pwr.mcPeriod.toNat + woHeld s 0x40005100 % 2 ^ 16)
      let s := woStore 0x40005100 4 w s
      let s := if rwTouches w 0 || rwTouches w 1 then effMcKick (BitVec.ofNat 16 v) s else s
      if rwTouches w 2 || rwTouches w 3 then effMcPeriod (BitVec.ofNat 16 (v / 2 ^ 16)) s else s }

/-! ## Access -/

/-- The registers of the block that an address lies in. -/
def blockRegs (view : RegView) (s : State) (a : Nat) : List Reg :=
  match view with
  | .bar4 => []
  | .host =>
    if 0x400000 ≤ a && decide (a < 0x480000) then nlkRegs s ((a - 0x400000) / 0x10000)
    else if 0x500000 ≤ a && decide (a < 0x501000) then fabRegs s
    else if 0x501000 ≤ a && decide (a < 0x501400) then
      let d := (a - 0x501000) / 4
      [roReg (0x501000 + 4 * d) 4 none (routeEntry s.fab.route d)]
    else if 0x502000 ≤ a && decide (a < 0x503000) then pairRegs s
    else if 0x508000 ≤ a && decide (a < 0x509000) then ntxRegs s
    else if 0x600000 ≤ a && decide (a < 0x601000) then netRegs s
    else if 0x601000 ≤ a && decide (a < 0x601200) then ethRegs s ((a - 0x601000) / 0x100)
    else if 0x700000 ≤ a && decide (a < 0x700200) then secRegs s 0x700000
    else if 0x900000 ≤ a && decide (a < 0x901000) then pcrRegs s 0x900000 true
    else if 0xA00000 ≤ a && decide (a < 0xA08000) then rcvRegs s
    else if 0xA08000 ≤ a && decide (a < 0xA09000) then bivRegs s
    else if 0xC00000 ≤ a && decide (a < 0xC00100) then sealRegs s
    else []
  | .mc src =>
    if 0x40001000 ≤ a && decide (a < 0x40001400) then cvuRegs s ((a - 0x40001000) / 0x100)
    else if 0x40002000 ≤ a && decide (a < 0x40002080) then rtcRegs s
    else if 0x40003000 ≤ a && decide (a < 0x40003200) then flRegs s src
    else if 0x40005100 ≤ a && decide (a < 0x40005104) then [wdogReg s]
    else if 0x40005000 ≤ a && decide (a < 0x40005100) then pcrRegs s 0x40005000 false
    else if 0x40006000 ≤ a && decide (a < 0x40006200) then secRegs s 0x40006000
    else []

/-- The register that holds the byte at an address. -/
def regAt (view : RegView) (s : State) (a : Nat) : Option Reg :=
  match (blockRegs view s a).find? (fun r => decide (r.base ≤ a) && decide (a < r.base + r.n)) with
  | some r => some r
  | none => if view = .host then hostRegs s a else none

/-- The requester reaches its registers: BAR0 and BAR4 decode once the host is ready; the MC runs. -/
def viewOn (view : RegView) (s : State) : Bool :=
  match view with
  | .host | .bar4 => barOn s
  | .mc _ => mcAwake s

/-- The domain of a BAR0 block by address, for the bytes that no register holds (01 R18). -/
def blockDom (a : Nat) : Option Nat :=
  if 0x400000 ≤ a && decide (a < 0x440000) then some dLNKA
  else if 0x440000 ≤ a && decide (a < 0x480000) then some dLNKB
  else if 0x600000 ≤ a && decide (a < 0x602000) then some dNET
  else if 0x700008 ≤ a && decide (a < 0x700200) then some dSEC
  else if 0xC00000 ≤ a && decide (a < 0xC00100) then some dMEM
  else none

/-- The block of an access is in a domain that is off (01 R19). -/
def blockOff (view : RegView) (s : State) (a : Nat) : Bool :=
  match (regAt view s a).bind (·.dom) with
  | some d => !domOn s d
  | none =>
    match (if view = .host then blockDom a else none) with
    | some d => !domOn s d
    | none => false

/-- A BAR4 write (06 R138): the MSI-X table takes it, the PBA only reads. -/
def msixWrite (a : Nat) (b : Bytes) (s : State) : State :=
  if a + b.length ≤ 0x8000 then msixRelease (msixStore a b s) else s

/-- The parts of an access of `n` bytes at `a` that lie in registers, each inside one: address and length (R14). `fuel` is `n`. -/
def regParts (view : RegView) (s : State) : Nat → Nat → Nat → List (Nat × Nat)
  | 0, _, _ => []
  | fuel + 1, a, n =>
    if n = 0 then []
    else
      match regAt view s a with
      | some r =>
        let k := min n (r.base + r.n - a)
        (a, k) :: regParts view s fuel (a + k) (n - k)
      | none => regParts view s fuel (a + 1) (n - 1)

/-- What an access does part by part: where it meets one register it acts on it; where it straddles two or more, each part acts
or not, as draws have it (R14; log 62). -/
def onParts (l : List (Nat × Nat)) (act : Nat × Nat → State → State) (s : State) : State :=
  match l with
  | [p] => act p s
  | l => l.foldl (fun s p => mayBe (act p) s) s

/-- The part of a write of `b` at `a` that lies in one register. -/
def storePart (view : RegView) (a : Nat) (b : Bytes) (p : Nat × Nat) (s : State) : State :=
  match regAt view s p.1 with
  | some r => r.wr { off := p.1 - r.base, data := (b.drop (p.1 - a)).take p.2 } s
  | none => s

/-- A register write of `b` at `a` (R10, R13, R14, R19). Bytes that no register holds are Reserved: writing them does nothing
(log 62). -/
def regPut (view : RegView) (a : Nat) (b : Bytes) (s : State) : State :=
  if view = .bar4 then msixWrite a b s
  else if blockOff view s a then s
  else
    let parts := onParts (regParts view s b.length a b.length) (storePart view a b) s
    match regAt view s a with
    | some r => if r.whole || decide (a + b.length ≤ r.base + r.n) then r.wr { off := a - r.base, data := b } s else parts
    | none => parts

/-- A register write by a requester that reaches its registers. -/
def regStore (view : RegView) (a : Nat) (b : Bytes) (s : State) : State :=
  if !viewOn view s || b.isEmpty then s else regPut view a b s

/-- The bytes a register read returns: those of WO and Reserved bits are open (R10, R13). -/
def regBytes (s : State) (r : Reg) : Bytes :=
  (List.range r.n).map (fun i =>
    let m := BitVec.ofNat 8 (r.wo / 256 ^ i)
    (BitVec.ofNat 8 (r.val / 256 ^ i) &&& ~~~m) ||| (Config.openByte s.free (r.base + i) &&& m))

/-- The effect of a read of `n` bytes at offset `o` on an RC register: what is read is cleared (R10, R14). -/
def rcClear (r : Reg) (o n : Nat) (s : State) : State :=
  match r.rc with
  | none => s
  | some put => put (ofLe (putB (leBytes r.n r.val) o (List.replicate n 0))) s

/-- The effect of a read on the register that holds one part of it. -/
def loadPart (view : RegView) (p : Nat × Nat) (s : State) : State :=
  match regAt view s p.1 with
  | some r => rcClear r (p.1 - r.base) p.2 s
  | none => s

/-- The bytes a read of `n` bytes at `a` returns: those of the one register it meets; all are open where it straddles (R14). -/
def loadBytes (view : RegView) (s : State) (a n : Nat) : Bytes :=
  let l := regParts view s n a n
  (List.range n).map (fun i =>
    match l, regAt view s (a + i) with
    | [_], some r => sliceB (regBytes s r) (a + i - r.base) 1 |>.headD 0
    | _, _ => Config.openByte s.free (a + i))

/-- A register read of `n` bytes at `a` (R10, R14, R19): what it returns, and the state it leaves. -/
def regFetch (view : RegView) (a n : Nat) (s : State) : Bytes × State :=
  if view = .bar4 then (msixRead s a n, s)
  else if blockOff view s a then (List.replicate n 0xFF, s)
  else if view ≠ .host && (xipAt a n).isSome then
    (match xipAt a n with
    | some x => flashRead s x.1 x.2 n
    | none => [], s)
  else
    let parts := (loadBytes view s a n, onParts (regParts view s n a n) (loadPart view) (drawn s))
    match regAt view s a with
    | some r =>
      if a + n ≤ r.base + r.n then (sliceB (regBytes s r) (a - r.base) n, rcClear r (a - r.base) n (drawn s)) else parts
    | none => parts

/-- The bank of an XIP window in which the MC's read is held (16 R407). -/
def heldRead (view : RegView) (s : State) (a n : Nat) : Option (Bool × Nat) :=
  match view with
  | .mc _ => (xipAt a n).filter (fun x => xipHeld s x.1)
  | .host | .bar4 => none

/-- A register read by a requester that reaches its registers; in an XIP window it may be held (16 R407). -/
def regLoad (view : RegView) (a n : Nat) (s : State) : State :=
  if !viewOn view s || decide (n = 0) then s
  else if (heldRead view s a n).isSome then
    { s with flash.waits := s.flash.waits ++ ((heldRead view s a n).map (fun x => (x.1, x.2, n))).toList }
  else
    let r := regFetch view a n s
    emit (.readData r.1) r.2

/-! ## The rows -/

/-- REGISTER_WRITE (00 R10). -/
def execRegisterWrite (view : RegView) (addr : Nat) (data : Bytes) (s : State) : Host.Outcome State Fault Refusal :=
  .next (regStore view addr data s)

/-- RC_COUNTER_READ (00 R10). A read of CVU_ALV_TX advances it (12 R322). -/
def execRcCounterRead (view : RegView) (addr n : Nat) (s : State) : Host.Outcome State Fault Refusal :=
  .next (regLoad view addr n s)

/-- BAR0_OFF_DOMAIN_ACCESS (01 R19): a write where `data` is present, else a read of `n` bytes. -/
def execBar0OffDomainAccess (addr n : Nat) (data : Option Bytes) (s : State) : Host.Outcome State Fault Refusal :=
  if !barOn s || !blockOff .host s addr then .next s
  else
    match data with
    | some _ => .next s
    | none => .next (emit (.readData (List.replicate n 0xFF)) s)

end Sys2Proof.Machine
end

