-- ==== Sys2Proof/Machine/Debug.lean ====
section
/-!
DEFINITION. The JTAG port and what a debugger obtains through it at L1 and L2 (11 R303, R304, R306 to R309).
-/
namespace Sys2Proof.Machine

/-! ## The JTAG port (R307) -/

/-- The instruction that acts: BYPASS in place of one not permitted at the level (R307). -/
def jtagOp (s : State) (op : BitVec 8) : BitVec 8 :=
  if op = 0x01 ∨ op = 0x02 ∨ op = 0x03 ∨ op = 0x04 ∨ op = 0x05 ∨ op = 0x10 then op
  else if op = 0x11 ∧ s.kh.dbg ≠ 0 then op
  else if op = 0x12 ∧ s.kh.dbg = 2 then op
  else 0xFF

/-- An instruction is selected; EXTEST, CLAMP and HIGHZ zeroize with cause 4. -/
def jtagSelect (op : BitVec 8) (s : State) : State :=
  let s := { s with kh.jtag := op }
  if op = 0x03 ∨ op = 0x04 ∨ op = 0x05 then { evictAll 4 s with kh.extest := true } else s

/-- A change of instruction (R307); after EXTEST, CLAMP or HIGHZ the next one is a Cold reset. -/
def effJtagOp (op : BitVec 8) (s : State) : State :=
  if !s.pwr.main then s
  else if s.kh.extest then
    if op = s.kh.jtag then s
    else
      let s := coldReset 5 s
      jtagSelect (jtagOp s op) s
  else if jtagOp s op = s.kh.jtag then s
  else jtagSelect (jtagOp s op) s

/-! ## Trace (R303, R308, R309) -/

/-- The descriptors in the tiles' windows. -/
def traceTiles (s : State) : List TraceEv :=
  s.tile.flatMap (fun e => e.2.win.map (fun w => .descriptor e.1 w.2.kind (leAt w.2.desc 8 4) w.2.off))

/-- The requests outstanding on the links. -/
def traceLinks (s : State) : List TraceEv :=
  s.txn.tags.filterMap (fun e => e.2.map (fun (x : Tag) => .segment e.1 x.seg.hdr.dstDev x.seg.hdr.va))

/-- The requests outstanding on host memory. -/
def traceHost (s : State) : List TraceEv := s.hif.reqs.map (fun x => .host x.id x.addr)

/-- What the trace shows now: the powered domains, in P1 without the stopped CORE clock, in P2 the links and the MC, in P3 the MC
alone (R309). The MC's instruction address is open (log 53). -/
def traceNow (s : State) : List TraceEv :=
  .time s.now :: .mc (Config.openVal s.free) ::
    match s.pwr.cur with
    | .p0 => traceTiles s ++ traceHost s ++ traceLinks s
    | .p1 => traceHost s ++ traceLinks s
    | .p2 => traceLinks s
    | .p3 => []

/-! ## Access at L2 (R304, R309) -/

/-- No level reaches the Keyholder's mailbox beyond SEC_STATUS (R304). -/
def khAddr (view : RegView) (a n : Nat) : Bool :=
  match view with
  | .host => rangesMeet a (a + n) 0x700004 0x700200
  | .mc _ => rangesMeet a (a + n) 0x40006004 0x40006200
  | .bar4 => false

/-- Bytes of memory read, where its domain is powered; else all-ones (R309). -/
def dbgRead (on : Bool) (b : Bytes) (s : State) : State := emit (.tdo (if on then b else List.replicate b.length 0xFF)) s

/-- The scratchpad of a tile is powered and clocked: in P1 it reads all-ones (R309). -/
def tileOn (s : State) (t : Nat) : Bool := domOn s (dCQ (quadOfTile t)) && decide (s.pwr.cur = .p0)

/-- One access of a debugger (R304). A step of the MC changes nothing that State holds (log 53). -/
def dbgAccess (s : State) (a : DbgAccess) : State :=
  match a with
  | .trace => drawn (emit (.trace (traceNow s)) s)
  | .readReg view addr n =>
    if khAddr view addr n then emit (.tdo (List.replicate n 0xFF)) s
    else
      let r := regFetch view addr n s
      emit (.tdo r.1) r.2
  | .writeReg view addr b => if khAddr view addr b.length then s else regPut view addr b s
  | .readHbm pa n => dbgRead (domOn s dMEM) (hbmRead s pa n) s
  | .writeHbm pa b => if domOn s dMEM then hbmWrite pa b s else s
  | .readTile t off n => dbgRead (tileOn s t) (spRead s t off n) s
  | .writeTile t off b => if tileOn s t then spWrite t off b s else s
  | .readMc a n => drawn (emit (.tdo ((List.range n).map (fun i => Config.openByte s.free (a + i)))) s)
  | .haltMc => { s with kh.halted := true }
  | .stepMc => s
  | .runMc => { s with kh.halted := false }

/-- An access that the selected instruction allows: TRACE at L1 and L2, DBG_ACCESS at L2 (R307). -/
def dbgAllowed (s : State) (a : DbgAccess) : Bool :=
  if a = .trace then decide (s.kh.jtag = 0x11) && decide (s.kh.dbg ≠ 0) else decide (s.kh.jtag = 0x12) && decide (s.kh.dbg = 2)

/-- JTAG_INSTRUCTION (R307): the instruction is selected, and the accesses made with it follow. -/
def effJtag (x : JtagScan) (s : State) : State :=
  x.acc.foldl (fun s a => if mcRuns s && dbgAllowed s a then dbgAccess s a else s) (effJtagOp x.op s)

/-- TAP_RESET (R306, R307): the instruction register returns to IDCODE. -/
def effTapReset (s : State) : State :=
  if !s.pwr.main then s
  else if s.kh.extest then coldReset 5 s
  else if s.kh.dbg = 2 then coldReset 4 s
  else { s with kh.jtag := 0x01, kh.halted := false }

/-! ## Meanings of the commands -/

/-- JTAG_INSTRUCTION (11 R307). -/
def execJtagInstruction (scan : JtagScan) (s : State) : Host.Outcome State Fault Refusal :=
  .next (effJtag scan s)

/-- TAP_RESET (11 R306). -/
def execTapReset (s : State) : Host.Outcome State Fault Refusal :=
  .next (effTapReset s)

end Sys2Proof.Machine
end

