-- ==== Sys2Proof/Machine/Refused.lean ====
section
/-!
DEFINITION. Requests of the device on host memory that the host refuses (06 R147).
-/
namespace Sys2Proof.Machine

/-- The record of a refusal that is no descriptor's and no job's. -/
def accessRec (addr : Nat) : ErrRec := { code := errHostAccess, src := 4, addr := addr }

/-- A job whose Frame Seal is refused takes ERR_HOST_ACCESS into its status (12 R326). -/
def sealRefused (id : Nat) (s : State) : State :=
  { s with obj.q := tmap {} (fun _ (x : Queue) => ({ x with job := x.job.map (fun (j : Job) =>
      if j.owes.contains (.host id) then { j with status := some (joinStatus (j.status.getD 0) errHostAccess) } else j) }
        : Queue)) s.obj.q }

/-- A sealed row whose write is refused never lands, and adds nothing to its seal (12 R324). -/
def rowsRefused (id : Nat) (s : State) : State :=
  let dead := s.sealer.rows.filter (fun (r : SealRow) => r.waits.contains (.host id))
  dead.foldl (fun s r => slotGot (.row r.n) s)
    { s with sealer.rows := s.sealer.rows.filter (fun (r : SealRow) => !r.waits.contains (.host id)) }

/-- A refused write: whoever made it fails, and nothing waits for it any longer. -/
def writeRefused (r : HostReq) (addr : Nat) (s : State) : State :=
  let s := rowsRefused r.id (dropReq r.id s)
  match r.use with
  | .completion q _ => completionLanded q (raise { accessRec addr with unit := q } s)
  | .errLine => erqLanded r.id (raise (accessRec addr) s)
  | .eventRec _ => raise (accessRec addr) s
  | .desc t _ order =>
    match findSlot s t order with
    | some n =>
      slotGot (.host r.id) (slotFail t n { tileRec s t (slotOf s t n) errHostAccess with addr := addr } false s)
    | none => slotGot (.host r.id) (raise { accessRec addr with ctx := tileOwner s t, unit := t } s)
  | .sealRec => slotGot (.host r.id) (sealRefused r.id (raise (accessRec addr) s))
  | .image => exportTry { raise (accessRec addr) s with rcv.exCode := BitVec.ofNat 16 errHostAccess }

/-- A refused read of a MOVE: it fails, and the bytes its rows hold are open (R147; log 15). -/
def moveRefused (t n addr : Nat) (s : State) : State :=
  if executes s t n 4 && decide (bitsAt (slotOf s t n).desc 16 0 2 = 1) then
    let d := (slotOf s t n).desc
    let s' := (List.range (moveRows d)).foldl (fun s' r =>
      spWrite t (moveLocal d r) ((List.range (moveLen d)).map (fun i => Config.openByte s.free (moveLocal d r + i))) s') s
    slotTry t n (begin t n (slotFail t n { tileRec s t (slotOf s t n) errHostAccess with addr := addr } false (drawn s')))
  else s

/-- A job ends with ERR_HOST_ACCESS and its record (R147). -/
def jobRefused (q addr : Nat) (s : State) : State :=
  let x := queueOf s q
  jobTry q (endJob q errHostAccess true (raise { accessRec addr with
    ctx := some x.ctx, unit := q, jobId := (x.job.map Job.id).getD 0, job := some q } s))

/-- A refused read of an object being digested: the command fails with ERR_HOST_ACCESS, and the object is as it was. -/
def digestRefused (freeze : Bool) (x : ObjCmd) (addr : Nat) (s : State) : State :=
  let n := x.id.toNat
  if !hostReady s || s.obj.busy || !(moOf s n).host then s
  else
    objCmd (if freeze then 0x22 else 0x23) 65536 x anyStage (fun _ => moCtx s n) (fun _ s =>
      let m := moOf s n
      if (if freeze then m.st ≠ .live else m.st = .free) || m.cls ≠ 1 || !notRetiring s m.ctx then .fail errObjState
      else .fail errHostAccess addr) s

/-- HOST_ACCESS_REFUSED (R147). A refused submission entry ends its job, whose fields then read 0 (log 25). A refused read of a
queue pair's source data is a fault reading it (07 R174). -/
def effHostRefused (who : HostReqRef) (addr : Nat) (hr : List Host.Cell) (s : State) : State :=
  match who with
  | .write id =>
    match s.hif.reqs.find? (fun r => decide (r.id = id)) with
    | some r => writeRefused r addr s
    | none => s
  | .move t n => moveRefused t n addr s
  | .entry q => if canRead s q then jobRefused q addr (takeEntry q (List.replicate 64 0) s) else s
  | .table q =>
    let b := entryAt s hr q
    if canRead s q && decide (byteAt b 0 = 1) && onlyFields entryFields b then jobRefused q addr (takeEntry q b s) else s
  | .image q =>
    match (queueOf s q).job with
    | some j => if j.ph = .scrubbing [] then jobRefused q addr s else s
    | none => s
  | .digest freeze x => digestRefused freeze x addr s
  | .replay => replayNext (fun q s => jobRefused q addr s) s
  | .roce q =>
    if canPost s q || decide ((qpOf s q).outs ≠ []) then
      qpError q .fault 0 (raise { accessRec addr with ctx := qpCtx s q, unit := (qpOf s q).portNo } s)
    else s

/-! ## Meanings of the commands -/

/-- HOST_ACCESS_REFUSED (06 R147). -/
def execHostAccessRefused (who : HostReqRef) (addr : Nat) (hr : List Host.Cell) (s : State) : Host.Outcome State Fault Refusal :=
  .next (effHostRefused who addr hr s)

end Sys2Proof.Machine
end

