-- ==== Sys2Proof/Machine/Tick.lean ====
section
/-!
DEFINITION. What happens with no command waiting: one tick of 1 ns (log 1).
-/
namespace Sys2Proof.Machine

/-- The quadrants of a queue's job are in the scope of the running Abseil (14 R355). -/
def inScope (s : State) (q : Nat) : Bool :=
  decide (s.rcv.step ≠ 0) && (heldQuads s q).any (fun k => s.rcv.scope.toNat.testBit k)

/-- The timers of a queue's job (05 R125 step 3, 14 R355): both stop outside P0. -/
def tickJob (s : State) (q : Nat) (j : Job) : Job :=
  if s.pwr.cur ≠ .p0 then j
  else
    match j.ph with
    | .waiting => { j with waited := j.waited + 1 }
    | .running => if inScope s q && !replaying s q then j else { j with ran := j.ran + 1 }
    | .scrubbing _ | .ended => j

/-- The timer of a tag (14 R356): frozen while its port is, up to the Freeze Cap. -/
def tickTag (s : State) (g : Tag) : Tag :=
  let frozen := match g.port with
    | none => false
    | some p => decide ((portOf s p).st = .replay) || decide ((portOf s p).st = .retrain)
  if frozen && decide (g.frozen < param s 0x5012 20 * msNs) then { g with frozen := g.frozen + 1 }
  else { g with run := g.run + 1 }

/-- The Keyholder works on the command at the front of those in progress (log 13). -/
def tickKeyholder (s : State) : State :=
  match s.kh.run with
  | [] => s
  | (c, n) :: r => if n ≤ 1 then khServed s else { s with kh.run := (c, n - 1) :: r }

/-- One tick: every clock and timer that runs advances by 1 ns. -/
def tick (s : State) : State :=
  let jobs : Tab Queue := tmap {} (fun q x => { x with job := x.job.map (tickJob s q) }) s.obj.q
  let tags : Tab (Option Tag) := tmap none (fun _ g => g.map (tickTag s)) s.txn.tags
  let tiles : Tab Tile := tmap {} (fun t x => if progRuns s t then { x with prog := x.prog + 1 } else x) s.tile
  let scrubs := if domOn s dMEM then s.scrub.map (fun x => { x with age := x.age + 1 }) else s.scrub
  let time := if domOn s dHOST && !s.pwr.clkLost.getLsbD 0 then s.erq.time + 1 else s.erq.time
  let s := { s with
    now := s.now + 1, erq.time := time, scrub := scrubs, obj.q := jobs, txn.tags := tags, tile := tiles }
  serveLater (powerOn (tickUpdate (keyedServed (tickKeyholder s))))

end Sys2Proof.Machine
end

