-- ==== Sys2Proof/Machine/Dispatch.lean ====
section
/-!
DEFINITION. The meaning of every command: one arm for each row of the table.
-/
namespace Sys2Proof.Machine

def exec (i : Instr) (s : State) : Host.Outcome State Fault Refusal :=
  match i with
  | .registerWrite view addr data => Sys2Proof.Machine.execRegisterWrite view addr data s
  | .rcCounterRead view addr n => Sys2Proof.Machine.execRcCounterRead view addr n s
  | .bar0OffDomainAccess addr n data => Sys2Proof.Machine.execBar0OffDomainAccess addr n data s
  | .bar2Read => Sys2Proof.Machine.execBar2Read s
  | .descriptorAdmit t => Sys2Proof.Machine.execDescriptorAdmit t s
  | .decodeFailureEnd t => Sys2Proof.Machine.execDecodeFailureEnd t s
  | .descriptorIssue t n => Sys2Proof.Machine.execDescriptorIssue t n s
  | .matmul t n => Sys2Proof.Machine.execMatmul t n s
  | .exaRead t n => Sys2Proof.Machine.execExaRead t n s
  | .vec t n => Sys2Proof.Machine.execVec t n s
  | .move t n hr => Sys2Proof.Machine.execMove t n hr s
  | .send t n => Sys2Proof.Machine.execSend t n s
  | .recv t n => Sys2Proof.Machine.execRecv t n s
  | .reduce t n => Sys2Proof.Machine.execReduce t n s
  | .reduceRootComplete t n => Sys2Proof.Machine.execReduceRootComplete t n s
  | .waitEvent t n => Sys2Proof.Machine.execWaitEvent t n s
  | .signalEvent t n => Sys2Proof.Machine.execSignalEvent t n s
  | .halt t n => Sys2Proof.Machine.execHalt t n s
  | .descriptorSignalSend t n k => Sys2Proof.Machine.execDescriptorSignalSend t n k s
  | .tokenArrival idx => Sys2Proof.Machine.execTokenArrival idx s
  | .creditReturn idx => Sys2Proof.Machine.execCreditReturn idx s
  | .ctxCreate x dur => Sys2Proof.Machine.execCtxCreate x dur s
  | .ctxDestroy x => Sys2Proof.Machine.execCtxDestroy x s
  | .contextFree c => Sys2Proof.Machine.execContextFree c s
  | .ctxAbort x => Sys2Proof.Machine.execCtxAbort x s
  | .ctxRestart x => Sys2Proof.Machine.execCtxRestart x s
  | .qCreate x => Sys2Proof.Machine.execQCreate x s
  | .qDestroy x => Sys2Proof.Machine.execQDestroy x s
  | .qStop x => Sys2Proof.Machine.execQStop x s
  | .qStart x => Sys2Proof.Machine.execQStart x s
  | .memCreate x => Sys2Proof.Machine.execMemCreate x s
  | .memDestroy x => Sys2Proof.Machine.execMemDestroy x s
  | .memFreeze x hr => Sys2Proof.Machine.execMemFreeze x hr s
  | .memVerify x hr => Sys2Proof.Machine.execMemVerify x hr s
  | .evCreate x => Sys2Proof.Machine.execEvCreate x s
  | .evDestroy x => Sys2Proof.Machine.execEvDestroy x s
  | .evAdd x => Sys2Proof.Machine.execEvAdd x s
  | .evSet x => Sys2Proof.Machine.execEvSet x s
  | .evArm x => Sys2Proof.Machine.execEvArm x s
  | .submissionDoorbell q data => Sys2Proof.Machine.execSubmissionDoorbell q data s
  | .completionDoorbell q data => Sys2Proof.Machine.execCompletionDoorbell q data s
  | .nop q hr => Sys2Proof.Machine.execNop q hr s
  | .run q hr => Sys2Proof.Machine.execRun q hr s
  | .signal q hr => Sys2Proof.Machine.execSignal q hr s
  | .quadrantAcquire => Sys2Proof.Machine.execQuadrantAcquire s
  | .ownerChangeScrubDone q => Sys2Proof.Machine.execOwnerChangeScrubDone q s
  | .jobStart q hr => Sys2Proof.Machine.execJobStart q hr s
  | .jobComplete q => Sys2Proof.Machine.execJobComplete q s
  | .errorRecordAccept idx => Sys2Proof.Machine.execErrorRecordAccept idx s
  | .erqBaseWrite w => Sys2Proof.Machine.execErqBaseWrite w s
  | .erqHeadWrite w => Sys2Proof.Machine.execErqHeadWrite w s
  | .erqEnable w => Sys2Proof.Machine.execErqEnable w s
  | .hbGo => Sys2Proof.Machine.execHbGo s
  | .biasChangeDone => Sys2Proof.Machine.execBiasChangeDone s
  | .hostAccessRefused who addr hr => Sys2Proof.Machine.execHostAccessRefused who addr hr s
  | .depositArm e w => Sys2Proof.Machine.execDepositArm e w s
  | .depositDisarm e w => Sys2Proof.Machine.execDepositDisarm e w s
  | .depositDrainDone e => Sys2Proof.Machine.execDepositDrainDone e s
  | .depositWrite off data req poisoned => Sys2Proof.Machine.execDepositWrite off data req poisoned s
  | .depositFlag off data req => Sys2Proof.Machine.execDepositFlag off data req s
  | .depositFlagApply idx => Sys2Proof.Machine.execDepositFlagApply idx s
  | .declare r c dur => Sys2Proof.Machine.execDeclare r c dur s
  | .release r => Sys2Proof.Machine.execRelease r s
  | .claim r c damaged dur => Sys2Proof.Machine.execClaim r c damaged dur s
  | .discard r => Sys2Proof.Machine.execDiscard r s
  | .hostLossTrigger cause => Sys2Proof.Machine.execHostLossTrigger cause s
  | .hostLossDrainEnd => Sys2Proof.Machine.execHostLossDrainEnd s
  | .bivouacSealDone => Sys2Proof.Machine.execBivouacSealDone s
  | .qpCreate x => Sys2Proof.Machine.execQpCreate x s
  | .qpDestroy x => Sys2Proof.Machine.execQpDestroy x s
  | .qpFail x => Sys2Proof.Machine.execQpFail x s
  | .qpRecover x => Sys2Proof.Machine.execQpRecover x s
  | .mrReg x => Sys2Proof.Machine.execMrReg x s
  | .mrDereg x => Sys2Proof.Machine.execMrDereg x s
  | .ethFrameReceive p f => Sys2Proof.Machine.execEthFrameReceive p f s
  | .pfcPauseReceived p => Sys2Proof.Machine.execPfcPauseReceived p s
  | .roceInboundPacket p => Sys2Proof.Machine.execRoceInboundPacket p s
  | .rocePacketLanded q => Sys2Proof.Machine.execRocePacketLanded q s
  | .roceWritePost q hr => Sys2Proof.Machine.execRoceWritePost q hr s
  | .roceAckReceived p => Sys2Proof.Machine.execRoceAckReceived p s
  | .roceNakReceived p hr => Sys2Proof.Machine.execRoceNakReceived p hr s
  | .roceAckTimeout q hr => Sys2Proof.Machine.execRoceAckTimeout q hr s
  | .roceCnpReceived p => Sys2Proof.Machine.execRoceCnpReceived p s
  | .roceRateIncrease q => Sys2Proof.Machine.execRoceRateIncrease q s
  | .ethLinkDown p => Sys2Proof.Machine.execEthLinkDown p s
  | .fecBlockReceive p l0 l1 l2 l3 skew => Sys2Proof.Machine.execFecBlockReceive p l0 l1 l2 l3 skew s
  | .linkFrameReceive p => Sys2Proof.Machine.execLinkFrameReceive p s
  | .linkFrameTransmit p => Sys2Proof.Machine.execLinkFrameTransmit p s
  | .replayTimeout p => Sys2Proof.Machine.execReplayTimeout p s
  | .lossOfSignal p handshake => Sys2Proof.Machine.execLossOfSignal p handshake s
  | .nlkRetrain p w => Sys2Proof.Machine.execNlkRetrain p w s
  | .nlkTrain p w => Sys2Proof.Machine.execNlkTrain p w s
  | .nlkEnable p w => Sys2Proof.Machine.execNlkEnable p w s
  | .nlkFlowWrite p w => Sys2Proof.Machine.execNlkFlowWrite p w s
  | .trainingComplete p lanes pol coef precode skew => Sys2Proof.Machine.execTrainingComplete p lanes pol coef precode skew s
  | .trainingTimeout p => Sys2Proof.Machine.execTrainingTimeout p s
  | .retrainTimeout p => Sys2Proof.Machine.execRetrainTimeout p s
  | .autoTrain p => Sys2Proof.Machine.execAutoTrain p s
  | .recalWindowStart p => Sys2Proof.Machine.execRecalWindowStart p s
  | .recalWindowEnd p => Sys2Proof.Machine.execRecalWindowEnd p s
  | .recalPeriodEnd p => Sys2Proof.Machine.execRecalPeriodEnd p s
  | .segmentSend id => Sys2Proof.Machine.execSegmentSend id s
  | .load src => Sys2Proof.Machine.execLoad src s
  | .store src => Sys2Proof.Machine.execStore src s
  | .copy src => Sys2Proof.Machine.execCopy src s
  | .atomicAdd src => Sys2Proof.Machine.execAtomicAdd src s
  | .atomicMin src => Sys2Proof.Machine.execAtomicMin src s
  | .atomicMax src => Sys2Proof.Machine.execAtomicMax src s
  | .atomicSwap src => Sys2Proof.Machine.execAtomicSwap src s
  | .atomicCas src => Sys2Proof.Machine.execAtomicCas src s
  | .exaAdd src => Sys2Proof.Machine.execExaAdd src s
  | .exaRed src => Sys2Proof.Machine.execExaRed src s
  | .reduceDone src => Sys2Proof.Machine.execReduceDone src s
  | .fence src => Sys2Proof.Machine.execFence src s
  | .doneResponse src => Sys2Proof.Machine.execDoneResponse src s
  | .dataResponse src => Sys2Proof.Machine.execDataResponse src s
  | .transitForward p vcA => Sys2Proof.Machine.execTransitForward p vcA s
  | .ntxLoad => Sys2Proof.Machine.execNtxLoad s
  | .ntxStore => Sys2Proof.Machine.execNtxStore s
  | .ntxAtomic => Sys2Proof.Machine.execNtxAtomic s
  | .ntxFence => Sys2Proof.Machine.execNtxFence s
  | .tagQuarantineEnd tag => Sys2Proof.Machine.execTagQuarantineEnd tag s
  | .cairnSend p => Sys2Proof.Machine.execCairnSend p s
  | .cairnReceive p => Sys2Proof.Machine.execCairnReceive p s
  | .cairnTimeout p => Sys2Proof.Machine.execCairnTimeout p s
  | .routeRecompute => Sys2Proof.Machine.execRouteRecompute s
  | .addressAssign => Sys2Proof.Machine.execAddressAssign s
  | .addressConflict => Sys2Proof.Machine.execAddressConflict s
  | .pairBind peer dur => Sys2Proof.Machine.execPairBind peer dur s
  | .pairSyncDone => Sys2Proof.Machine.execPairSyncDone s
  | .mirrorHeartbeatSend => Sys2Proof.Machine.execMirrorHeartbeatSend s
  | .heartbeat => Sys2Proof.Machine.execHeartbeat s
  | .write => Sys2Proof.Machine.execWrite s
  | .region => Sys2Proof.Machine.execRegion s
  | .ckpt => Sys2Proof.Machine.execCkpt s
  | .ack => Sys2Proof.Machine.execAck s
  | .unbind => Sys2Proof.Machine.execUnbind s
  | .heartbeatMiss => Sys2Proof.Machine.execHeartbeatMiss s
  | .ckGo => Sys2Proof.Machine.execCkGo s
  | .pairRoleWrite v => Sys2Proof.Machine.execPairRoleWrite v s
  | .unbindTimeout => Sys2Proof.Machine.execUnbindTimeout s
  | .jkInstall slot snum dur => Sys2Proof.Machine.execJkInstall slot snum dur s
  | .jkErase slot dur => Sys2Proof.Machine.execJkErase slot dur s
  | .chassisSet dur => Sys2Proof.Machine.execChassisSet dur s
  | .dbgChallenge jtag => Sys2Proof.Machine.execDbgChallenge jtag s
  | .dbgGrant jtag => Sys2Proof.Machine.execDbgGrant jtag s
  | .dbgLower jtag => Sys2Proof.Machine.execDbgLower jtag s
  | .secureHoldLimit => Sys2Proof.Machine.execSecureHoldLimit s
  | .tamperResponse cause => Sys2Proof.Machine.execTamperResponse cause s
  | .entropyHealthFail => Sys2Proof.Machine.execEntropyHealthFail s
  | .jtagInstruction scan => Sys2Proof.Machine.execJtagInstruction scan s
  | .tapReset => Sys2Proof.Machine.execTapReset s
  | .cvuStart c => Sys2Proof.Machine.execCvuStart c s
  | .cvuFinish c => Sys2Proof.Machine.execCvuFinish c s
  | .cvuFold c v => Sys2Proof.Machine.execCvuFold c v s
  | .cvuData8 c v => Sys2Proof.Machine.execCvuData8 c v s
  | .cvuData16 c v => Sys2Proof.Machine.execCvuData16 c v s
  | .cvuData32 c v => Sys2Proof.Machine.execCvuData32 c v s
  | .cvuPreset c w => Sys2Proof.Machine.execCvuPreset c w s
  | .cvuAlvTx c => Sys2Proof.Machine.execCvuAlvTx c s
  | .cvuAlvRx c a => Sys2Proof.Machine.execCvuAlvRx c a s
  | .openSlot slot rsv => Sys2Proof.Machine.execOpenSlot slot rsv s
  | .sealDiscard slot rsv => Sys2Proof.Machine.execSealDiscard slot rsv s
  | .sealRowLanded n => Sys2Proof.Machine.execSealRowLanded n s
  | .pcrDomreq host w => Sys2Proof.Machine.execPcrDomreq host w s
  | .domainRequestResume => Sys2Proof.Machine.execDomainRequestResume s
  | .pcrPstateReq host v => Sys2Proof.Machine.execPcrPstateReq host v s
  | .powerStateRequest v => Sys2Proof.Machine.execPowerStateRequest v s
  | .p1Enter => Sys2Proof.Machine.execP1Enter s
  | .pciPowerState d3 => Sys2Proof.Machine.execPciPowerState d3 s
  | .perstAssertInP3 => Sys2Proof.Machine.execPerstAssertInP3 s
  | .perstDeassert => Sys2Proof.Machine.execPerstDeassert s
  | .configRequest q => Sys2Proof.Machine.execConfigRequest q s
  | .refclkLoss which => Sys2Proof.Machine.execRefclkLoss which s
  | .coldReset cause => Sys2Proof.Machine.execColdReset cause s
  | .bootStageComplete => Sys2Proof.Machine.execBootStageComplete s
  | .deviceCoreReset core => Sys2Proof.Machine.execDeviceCoreReset core s
  | .quadrantReset q => Sys2Proof.Machine.execQuadrantReset q s
  | .scrubLine k res => Sys2Proof.Machine.execScrubLine k res s
  | .scrubForcedSlot k bad => Sys2Proof.Machine.execScrubForcedSlot k bad s
  | .telemetrySample x => Sys2Proof.Machine.execTelemetrySample x s
  | .tileProgressWatchdog t => Sys2Proof.Machine.execTileProgressWatchdog t s
  | .abseilDrainEnd => Sys2Proof.Machine.execAbseilDrainEnd s
  | .abseilSampleDone => Sys2Proof.Machine.execAbseilSampleDone s
  | .abseilResetDone hr => Sys2Proof.Machine.execAbseilResetDone hr s
  | .soloReplayEnd => Sys2Proof.Machine.execSoloReplayEnd s
  | .soloReplayLimit => Sys2Proof.Machine.execSoloReplayLimit s
  | .abseilAbandon => Sys2Proof.Machine.execAbseilAbandon s
  | .jobWatchdog q => Sys2Proof.Machine.execJobWatchdog q s
  | .linkTransactionTimeout tag => Sys2Proof.Machine.execLinkTransactionTimeout tag s
  | .mcWatchdog => Sys2Proof.Machine.execMcWatchdog s
  | .mcWdogKick v => Sys2Proof.Machine.execMcWdogKick v s
  | .rcvExportGo => Sys2Proof.Machine.execRcvExportGo s
  | .stolegRead target frame => Sys2Proof.Machine.execStolegRead target frame s
  | .stolegWrite target frame => Sys2Proof.Machine.execStolegWrite target frame s
  | .writeSeg target frame => Sys2Proof.Machine.execWriteSeg target frame s
  | .segDown target frame => Sys2Proof.Machine.execSegDown target frame s
  | .stolegAbort target frame => Sys2Proof.Machine.execStolegAbort target frame s
  | .segmentTimeout => Sys2Proof.Machine.execSegmentTimeout s
  | .identify target frame => Sys2Proof.Machine.execIdentify target frame s
  | .stolegHeartbeatSend => Sys2Proof.Machine.execStolegHeartbeatSend s
  | .heartbeatReceive node => Sys2Proof.Machine.execHeartbeatReceive node s
  | .mbxGo w => Sys2Proof.Machine.execMbxGo w s
  | .writeChallenge => Sys2Proof.Machine.execWriteChallenge s
  | .fabricEpochWrite v => Sys2Proof.Machine.execFabricEpochWrite v s
  | .deviceAddressWrite v => Sys2Proof.Machine.execDeviceAddressWrite v s
  | .loadedRoutingTable b => Sys2Proof.Machine.execLoadedRoutingTable b s
  | .resetRequest v => Sys2Proof.Machine.execResetRequest v s
  | .outOfServiceClear => Sys2Proof.Machine.execOutOfServiceClear s
  | .revokeSigningKey v => Sys2Proof.Machine.execRevokeSigningKey v s
  | .chassisKeyWrite key => Sys2Proof.Machine.execChassisKeyWrite key s
  | .confirmImage => Sys2Proof.Machine.execConfirmImage s
  | .updateBegin => Sys2Proof.Machine.execUpdateBegin s
  | .updateFinish => Sys2Proof.Machine.execUpdateFinish s
  | .updateAbort => Sys2Proof.Machine.execUpdateAbort s
  | .updateData b => Sys2Proof.Machine.execUpdateData b s
  | .restoreDefaults => Sys2Proof.Machine.execRestoreDefaults s
  | .program bank src => Sys2Proof.Machine.execProgram bank src s
  | .erase4K bank src => Sys2Proof.Machine.execErase4K bank src s
  | .erase64K bank src => Sys2Proof.Machine.execErase64K bank src s
  | .flashRead bank src => Sys2Proof.Machine.execFlashRead bank src s
  | .blankCheck bank src => Sys2Proof.Machine.execBlankCheck bank src s
  | .flashCommandDone good => Sys2Proof.Machine.execFlashCommandDone good s
  | .capture => Sys2Proof.Machine.execCapture s
  | .rtcSet => Sys2Proof.Machine.execRtcSet s
  | .shift n => Sys2Proof.Machine.execShift n s
  | .rtcTick => Sys2Proof.Machine.execRtcTick s
  | .setTime b => Sys2Proof.Machine.execSetTime b s
  | .subsecondShift n => Sys2Proof.Machine.execSubsecondShift n s
  | .currentTime => Sys2Proof.Machine.execCurrentTime s
  | .mainPowerFail => Sys2Proof.Machine.execMainPowerFail s
  | .rtcUnlock => Sys2Proof.Machine.execRtcUnlock s
  | .pwrOkRise => Sys2Proof.Machine.execPwrOkRise s
  | .thermalTrip n t => Sys2Proof.Machine.execThermalTrip n t s
  | .pmbusAlert more errs => Sys2Proof.Machine.execPmbusAlert more errs s
  | .trainingPatternsReceived p handshake => Sys2Proof.Machine.execTrainingPatternsReceived p handshake s
  | .ethLinkUp p => Sys2Proof.Machine.execEthLinkUp p s
  | .dataLinkLayerUp link => Sys2Proof.Machine.execDataLinkLayerUp link s
  | .hostCompletion id => Sys2Proof.Machine.execHostCompletion id s
  | .hostSnoop addr => Sys2Proof.Machine.execHostSnoop addr s
  | .busOff => Sys2Proof.Machine.execBusOff s
  | .busOffRecovery => Sys2Proof.Machine.execBusOffRecovery s
  | .vbatSupplyApplied => Sys2Proof.Machine.execVbatSupplyApplied s
  | .vbatSupplyLoss => Sys2Proof.Machine.execVbatSupplyLoss s

end Sys2Proof.Machine
end

