-- ==== Sys2Proof/Safety.lean ====
section
/-!
DEFINITION. What counts as a safe run: the words in which claims about the block are stated.
-/
namespace Sys2Proof.Machine

/-! ## Canonical tables -/

/-- The device's memories in canonical form: addresses strictly rising, no entry equal to what an unlisted address reads as. -/
def Memory.wf (s : State) : Bool :=
  tabWf 0 s.hbm && tabWf 0xFF s.flash.bank0 && tabWf 0xFF s.flash.bank1 && tabWf 0 s.hif.msix

/-- A tile's window, scratchpad and EXA file in canonical form. -/
def Tile.wf (x : Tile) : Bool := tabWf {} x.win && tabWf 0 x.mem && tabWf Lane.clear x.exa

/-- Every table whose entries commands look up is in canonical form. -/
def Tables.wf (s : State) : Bool :=
  Memory.wf s && tabWf {} s.tile && s.tile.all (fun e => e.2.wf) && tabWf {} s.obj.ctx && tabWf {} s.obj.q &&
    tabWf {} s.obj.mo && tabWf {} s.obj.ev && tabWf {} s.eth.qp && tabWf {} s.hif.dep && tabWf none s.txn.txns &&
    tabWf none s.txn.tags && tabWf 0 s.txn.quar && tabWf none s.kh.ctxKey && tabWf none s.kh.memKey &&
    tabWf {} s.kh.jobKey && tabWf none s.kh.gcmKey && tabWf {} s.sealer.slots &&
    tabWf 0 s.dict.stat && tabWf [] s.dict.val && tabWf false s.hif.owned && tabWf 0 s.held &&
    tabWf false s.txn.hold &&
    (match s.kh.ret with
     | some r => tabWf none r.ctxKey && tabWf none r.jobKey
     | none => true)

/-- The lists that hold one entry for each unit have their lengths: HBM stacks, quadrants, ports, check-value channels,
Ethernet ports. -/
def Units.wf (s : State) : Bool :=
  decide (s.scrub.length = 4) && decide (s.quad.length = 4) && decide (s.port.length = 8) && decide (s.cvu.length = 4) &&
    decide (s.eth.port.length = 2)

/-! ## Steps -/

/-- The command at the front stops the step. -/
def Stops (s : State) : Prop := ∀ t, step s ≠ .next t

/-- A step goes on, and its state is `t`. -/
def Goes (s t : State) : Prop := step s = .next t

/-! ## What object commands need and leave (05 R106, R107) -/

/-- An object command is executed: the host is ready, no command runs, its word is well formed, MEM is on. -/
def objReady (s : State) (x : ObjCmd) (lim : Nat) : Prop :=
  hostReady s = true ∧ s.obj.busy = false ∧ x.rsvLo = 0 ∧ x.rsvHi = 0 ∧ x.id.toNat < lim ∧ domOn s dMEM = true

/-- The bytes of OBJ_STAGE. -/
def objStage (s : State) : Bytes := leBytes 64 s.obj.stage.toNat

/-- An object command has ended without error: BUSY 0, DONE 1, CODE 0. -/
def objOk (t : State) : Prop := t.obj.busy = false ∧ t.obj.done = true ∧ t.obj.code = 0

/-! ## What a request or response needs (09 R231, R236) -/

/-- The request `b` at the head of a buffer is this device's, MEM is on, and every check up to its payload `d` holds (09 R236);
`s'` is the state with it taken from its buffer. -/
def reqTaken (s : State) (src : Nat) (b d : Bytes) (s' : State) : Prop :=
  takeHead src false s = .got b s' ∧ (src = 8 ∨ (parseHdr b).dstDev = s.fab.addr.toNat) ∧ (parseHdr b).isResp = false ∧
    domOn s dMEM = true ∧ reqCheck s b = .ok d

/-- The contributor REDUCE of a tile that a REDUCE-DONE of a group answers: the first outstanding one of its window (09 R239). -/
def findReduce (s : State) (t group : Nat) : Option Nat :=
  ((tileOf s t).win.find? (fun w => decide (w.2.st = .executing) && decide (w.2.kind = 7) &&
    decide (bitsAt w.2.desc 16 0 1 = 0) && decide (leAt w.2.desc 24 2 = group) && w.2.redDone.isNone)).map (·.1)

/-- The response `b` at the head of a buffer is this device's, is whole, verifies, and answers the outstanding tag `g` of
transaction `x` (09 R224, R231). -/
def respTaken (s : State) (src : Nat) (b coded : Bytes) (g : Tag) (x : Txn) (s' : State) : Prop :=
  takeHead src true s = .got b s' ∧ (src = 8 ∨ (parseHdr b).dstDev = s.fab.addr.toNat) ∧ (parseHdr b).isResp = true ∧
    domOn s dMEM = true ∧ hdrOk b = true ∧ openSeg s b = some coded ∧ tget none s.txn.tags (parseHdr b).tag = some g ∧
    txnOf s g.txn = some x ∧ g.seg.hdr.srcDev = (parseHdr b).dstDev ∧ x.ctx = (parseHdr b).dstCtx

end Sys2Proof.Machine
end

