-- ==== Sys2Proof/Certificates/Slice0/Obligations.lean ====
section
/-!
DEFINITION. The statements for the provers. `Sys2Proof.Claims` holds the parts of the longer ones and the words they share; each
`Obligations.<Name>` is one statement, listed in OBLIGATIONS.json.
-/
open Sys2Proof Sys2Proof.Machine

namespace Sys2Proof.Claims

/-- A write by the host or the MC reaches register `r`: the requester's window decodes, the block is on, and `r` holds the address. -/
def regReached (view : RegView) (s : State) (a : Nat) (r : Reg) : Prop :=
  viewOn view s = true ∧ view ≠ .bar4 ∧ blockOff view s a = false ∧ regAt view s a = some r

/-- A write straddles registers: each part of it that lies in one register is taken by that register, or is not (00 R14; log 62). -/
def partTaken (w : Bool) (view : RegView) (a : Nat) (b : Bytes) (p : Nat × Nat) (s : State) : State :=
  if w then storePart view a b p (drawn s) else drawn s

/-- A BAR4 state whose MSI-X table and pending bits may have changed, and messages may have left. -/
def msixOnly (s t : State) : Prop := { t with hif.msix := s.hif.msix, out := s.out } = s

/-- Accesses of the registers (00 R10, R13, R14; 01 R18, R19). A write inside one register writes it; one that meets the next
register too writes each of the two, or not, as draws have it (the model's choice of form, log 62); bytes that no register holds
take nothing. A write while the block is off is dropped. A read inside one register answers its bytes and clears them where the
register is RC; a read while the block is off answers ones. The MC's read of an XIP window answers the bank's bytes, or waits
while the bank is busy (16 R403, R407). -/
def RegisterAccessesAct : Prop :=
  (∀ (s : State) (view : RegView) (a : Nat) (b : Bytes) (r : Reg), regReached view s a r → b ≠ [] →
    a + b.length ≤ r.base + r.n →
    exec (.registerWrite view a b) s = .next (r.wr { off := a - r.base, data := b } s)) ∧
  (∀ (s : State) (view : RegView) (a : Nat) (b : Bytes) (r r2 : Reg), regReached view s a r → r.whole = false →
    r.base + r.n < a + b.length → regAt view s (r.base + r.n) = some r2 → a + b.length ≤ r2.base + r2.n →
    ∃ w1 w2, exec (.registerWrite view a b) s =
      .next (partTaken w2 view a b (r.base + r.n, a + b.length - (r.base + r.n))
        (partTaken w1 view a b (a, r.base + r.n - a) s))) ∧
  (∀ (s : State) (view : RegView) (a : Nat) (b : Bytes), view ≠ .bar4 → (∀ i, i < b.length → regAt view s (a + i) = none) →
    exec (.registerWrite view a b) s = .next s) ∧
  (∀ (s : State) (a : Nat) (b : Bytes), a + b.length ≤ 0x8000 → b ≠ [] → barOn s = true → tabWf 0 s.hif.msix = true →
    (∃ t, exec (.registerWrite .bar4 a b) s = .next t ∧ msixRead t a b.length = b ∧ msixOnly s t) ∧
    (s.hif.msixEn = false → exec (.registerWrite .bar4 a b) s = .next (msixStore a b s))) ∧
  (∀ (s : State) (view : RegView) (a n : Nat) (r : Reg), regReached view s a r → n ≠ 0 → a + n ≤ r.base + r.n →
    ∃ t, exec (.rcCounterRead view a n) s = .next t ∧
      t.out = s.out ++ [.readData (sliceB (regBytes s r) (a - r.base) n)] ∧ t.free = s.free + 1) ∧
  (∀ (s : State) (src : Nat) (a n o : Nat) (bank : Bool), n ≠ 0 → mcAwake s = true → xipAt a n = some (bank, o) →
    (xipHeld s bank = false → exec (.rcCounterRead (.mc src) a n) s =
      .next { s with out := s.out ++ [.readData (flashRead s bank o n)] }) ∧
    (xipHeld s bank = true → exec (.rcCounterRead (.mc src) a n) s =
      .next { s with flash.waits := s.flash.waits ++ [(bank, o, n)] })) ∧
  (∀ (s : State) (p : Nat), p < 8 → s.port.length = 8 → barOn s = true → domOn s (if p < 4 then dLNKA else dLNKB) = true →
    ∃ t, exec (.rcCounterRead .host (0x400028 + 0x10000 * p) 4) s = .next t ∧
      t.out = s.out ++ [.readData (leBytes 4 (portOf s p).crcErr.toNat)] ∧
      portOf t p = { portOf s p with crcErr := 0 } ∧ ∀ q, q ≠ p → portOf t q = portOf s q) ∧
  (∀ (s : State) (a n : Nat), barOn s = true → blockOff .host s a = true →
    exec (.bar0OffDomainAccess a n none) s = .next { s with out := s.out ++ [.readData (List.replicate n 0xFF)] } ∧
    ∀ b, exec (.bar0OffDomainAccess a n (some b)) s = .next s)

/-- Reads and writes of registers change what the register holds and, for a read, the answer given (00 R10; 01 R19): a read of a block
that is off, a write of the MSI-X table, and a read that meets no RC register leave the rest. -/
def RegisterFrame : Prop :=
  ∀ (s t : State) (a n : Nat) (b : Bytes) (view : RegView) (r : Reg),
    (exec (.bar0OffDomainAccess a n (some b)) s = .next t → t = s) ∧
    (exec (.bar0OffDomainAccess a n none) s = .next t → { t with out := s.out } = s) ∧
    (exec (.registerWrite .bar4 a b) s = .next t → msixOnly s t) ∧
    (regReached view s a r → r.rc = none → a + n ≤ r.base + r.n → exec (.rcCounterRead view a n) s = .next t →
      { t with out := s.out, free := s.free } = s) ∧
    (blockOff view s a = true → view ≠ .bar4 → exec (.registerWrite view a b) s = .next t → t = s)

/-- MATMUL, EXA-READ and VEC change their own tile, the records, emergencies and draws they cause, and nothing else: no other tile, no
byte of HBM, no object, no transaction. -/
def TileComputeFrame : Prop :=
  ∀ (s u : State) (t n : Nat),
    (exec (.matmul t n) s = .next u ∨ exec (.exaRead t n) s = .next u ∨ exec (.vec t n) s = .next u) →
    { u with tile := s.tile, erq := s.erq, dict := s.dict, out := s.out, free := s.free } = s ∧
      ∀ j, j ≠ t → tileOf u j = tileOf s j

/-- The other tile commands leave the clocks, the supplies, the keys, the queue of commands, the registers and the units that are not
theirs as they were. -/
def TileFrame : Prop :=
  ∀ (s u : State) (t n k : Nat) (hr : List Host.Cell),
    (exec (.descriptorAdmit t) s = .next u ∨ exec (.descriptorIssue t n) s = .next u ∨ exec (.move t n hr) s = .next u ∨
      exec (.send t n) s = .next u ∨ exec (.recv t n) s = .next u ∨ exec (.reduce t n) s = .next u ∨
      exec (.reduceRootComplete t n) s = .next u ∨ exec (.waitEvent t n) s = .next u ∨ exec (.signalEvent t n) s = .next u ∨
      exec (.halt t n) s = .next u ∨ exec (.descriptorSignalSend t n k) s = .next u ∨ exec (.tokenArrival n) s = .next u ∨
      exec (.creditReturn n) s = .next u) →
    { u with
      tile := s.tile, mesh := s.mesh, txn := s.txn, erq := s.erq, dict := s.dict, out := s.out, free := s.free,
      obj.ev := s.obj.ev, hif := s.hif, hbm := s.hbm, port := s.port, pair := s.pair, sealer := s.sealer } = s

/-- The object commands that set or change one object. -/
def objectCommand (x : ObjCmd) (i : Instr) : Prop :=
  (∃ d, i = .ctxCreate x d) ∨ i = .ctxDestroy x ∨ i = .ctxAbort x ∨ i = .ctxRestart x ∨ i = .qCreate x ∨ i = .qDestroy x ∨
    i = .qStop x ∨ i = .qStart x ∨ i = .memCreate x ∨ i = .memDestroy x ∨ (∃ h, i = .memFreeze x h) ∨
    (∃ h, i = .memVerify x h) ∨ i = .evCreate x ∨ i = .evDestroy x ∨ i = .evAdd x ∨ i = .evSet x ∨ i = .evArm x

/-- An object command that ends with an error changes no object (05 R107). -/
def FailedObjectCommandChangesNoObject : Prop :=
  ∀ (s t : State) (x : ObjCmd) (i : Instr), objectCommand x i → exec i s = .next t → t.obj.busy = false → t.obj.code ≠ 0 →
    t.obj.ctx = s.obj.ctx ∧ t.obj.q = s.obj.q ∧ t.obj.mo = s.obj.mo ∧ t.obj.ev = s.obj.ev ∧ t.kh = s.kh ∧ t.hbm = s.hbm ∧
      { t.hif with msix := s.hif.msix } = s.hif ∧ t.tile = s.tile ∧ t.txn = s.txn ∧ t.eth = s.eth

/-- An object command whose word has a Reserved field set fails with ERR_CMD_INVALID, and one record of SRC 2 names its ID (05 R107;
SRC, UNIT: log 22). -/
def ObjectCommandFormChecked : Prop :=
  ∀ (s : State) (x : ObjCmd) (i : Instr), objectCommand x i → hostReady s = true → s.obj.busy = false →
    x.rsvLo ≠ 0 ∨ x.rsvHi ≠ 0 →
    ∃ t, exec i s = .next t ∧ t.obj.busy = false ∧ t.obj.done = true ∧ t.obj.code = 0x0101 ∧
      ∃ e, t.erq.incoming = s.erq.incoming ++ [e] ∧ e.code = 0x0101 ∧ e.src = 2 ∧ e.unit = x.id.toNat

/-- Reading an entry and the steps of a job leave the clocks, the supplies, the keys, the transactions, the fabric and the stores as
they were. -/
def JobFrame : Prop :=
  ∀ (s t : State) (q : Nat) (hr : List Host.Cell),
    (exec (.nop q hr) s = .next t ∨ exec (.run q hr) s = .next t ∨ exec (.signal q hr) s = .next t ∨
      exec .quadrantAcquire s = .next t ∨ exec (.ownerChangeScrubDone q) s = .next t ∨ exec (.jobStart q hr) s = .next t ∨
      exec (.jobComplete q) s = .next t) →
    { t with
      obj := s.obj, tile := s.tile, quad := s.quad, mesh := s.mesh, hif := s.hif, out := s.out, free := s.free, erq := s.erq,
      dict := s.dict, sealer := s.sealer, hbm := s.hbm, port := s.port, pair := s.pair, rcv := s.rcv } = s ∧
    t.obj.ctx = s.obj.ctx ∧ t.obj.mo = s.obj.mo

/-- The error queue (05 R133 to R135, 06 R164): acceptance of a record, and the writes of its registers; a write that straddles the
next register takes effect or not, as a draw has it (the model's choice of form, log 62). -/
def ErrorQueueActs : Prop :=
  (∀ (s : State) (i : Nat), domOn s dHOST = true → i < s.erq.incoming.length → s.erq.lastAcc ≠ some s.erq.time →
    s.rcv.step ≠ 4 →
    ∃ t, exec (.errorRecordAccept i) s = .next t ∧ t.erq.incoming = ldel s.erq.incoming i ∧ t.erq.seq = s.erq.seq + 1 ∧
      t.erq.lastAcc = some s.erq.time ∧
      (s.erq.en = false ∨ erqFull s = true → t.erq.lines = s.erq.lines ∧ t.out = s.out ∧
        t.erq.drops = BitVec.ofNat 32 (min (s.erq.drops.toNat + 1) (2 ^ 32 - 1))) ∧
      (s.erq.en = true → erqFull s = false → s.erq.dropN = 0 → s.hif.loss = .idle →
        t.erq.drops = s.erq.drops ∧
        t.out = s.out ++ [.hostWrite s.hif.nextReq (s.erq.base.toNat * 4096 + 64 * (erqNext s % 4096))
          (errLine (lget { code := 0 } s.erq.incoming i) (if 4096 ≤ erqNext s then !s.erq.phase else s.erq.phase)
            s.erq.seq.toNat s.erq.time.toNat)
          (writeReqs s (s.erq.base.toNat * 4096 + 64 * (erqNext s % 4096)) 64 false) false])) ∧
  (∀ (s : State) (w : RegWr), barOn s = true → rwStraddles w 8 = false →
    (s.erq.en = true → exec (.erqBaseWrite w) s = .next { s with erq.cfgErr := true }) ∧
    (s.erq.en = false → exec (.erqBaseWrite w) s = .next { s with
      erq.base := BitVec.ofNat 52 (rwMerge w 8 (s.erq.base.toNat * 4096) / 4096),
      erq.tail := 0, erq.head := 0, erq.phase := true, erq.lines := [] })) ∧
  (∀ (s : State) (w : RegWr) (h : BitVec 12), barOn s = true → rwStraddles w 4 = false →
    h = BitVec.ofNat 12 (rwMerge w 4 s.erq.head.toNat) →
    ((h - s.erq.head).toNat ≤ (s.erq.tail - s.erq.head).toNat →
      exec (.erqHeadWrite w) s = .next { s with erq.head := h }) ∧
    ((s.erq.tail - s.erq.head).toNat < (h - s.erq.head).toNat →
      exec (.erqHeadWrite w) s = .next { s with erq.cfgErr := true })) ∧
  (∀ (s : State) (w : RegWr), barOn s = true →
    (rwStraddles w 8 = true → ∃ d : Bool,
      exec (.erqBaseWrite w) s = .next (if d then effErqBase w (drawn s) else drawn s)) ∧
    (rwStraddles w 4 = true → ∃ d : Bool,
      exec (.erqHeadWrite w) s = .next (if d then effErqHead w (drawn s) else drawn s) ∧
      exec (.erqEnable w) s = .next (if d then effErqEnable w (drawn s) else drawn s))) ∧
  (∀ (s : State) (w : RegWr) (v : Nat), barOn s = true → rwStraddles w 4 = false →
    v = rwMerge w 4 (b2n s.erq.en + 2 * b2n s.erq.irqEn + 2 ^ 16 * s.erq.vector.toNat) →
    ∃ t, exec (.erqEnable w) s = .next t ∧ t.erq.en = v.testBit 0 ∧ t.erq.irqEn = v.testBit 1 ∧
      t.erq.vector = BitVec.ofNat 11 (v / 2 ^ 16) ∧
      (v.testBit 0 = true → t.erq.incoming = s.erq.incoming ++ dueRecords s ∧ t.pwr.due = []) ∧
      (v.testBit 0 = false → t.erq.incoming = s.erq.incoming ∧ t.pwr.due = s.pwr.due))

/-- The error queue's commands change the queue, the host writes and messages it makes, the statistics, the mark of a job's first
record, the records owed at its enabling, the draw of a straddling write, and nothing else, but where the acceptance ends step 4 of
an Abseil. -/
def ErrorQueueFrame : Prop :=
  ∀ (s t : State) (i : Nat) (w : RegWr),
    ((s.rcv.step ≠ 4 ∧ exec (.errorRecordAccept i) s = .next t) ∨ exec (.erqBaseWrite w) s = .next t ∨ exec (.erqHeadWrite w) s = .next t ∨
      exec (.erqEnable w) s = .next t) →
    { t with
      erq := s.erq, hif := s.hif, out := s.out, dict := s.dict, obj.q := s.obj.q, pwr.due := s.pwr.due, free := s.free } = s

/-- A vector of a landing: its message leaves where the function has MSI-X enabled, the host link is not lost and the vector is not
masked; masked, its Pending Bit is set (06 R138, R150; log 70). -/
def msixSent (s : State) (v : Option (BitVec 11)) (t : State) : Prop :=
  (v = none → t.out = s.out ∧ t.hif.msix = s.hif.msix) ∧
  ∀ x, v = some x →
    (msixOn s = false → t.out = s.out ∧ t.hif.msix = s.hif.msix) ∧
    (msixOn s = true → msixMasked s x.toNat = false → t.out = s.out ++ [.msix x.toNat] ∧ t.hif.msix = s.hif.msix) ∧
    (msixOn s = true → msixMasked s x.toNat = true → t.out = s.out ∧ t.hif.msix = (msixPend x.toNat true s).hif.msix)

/-- Page bias, snoops, BAR2 reads, landings and refusals (06 R140 to R149, 01 R25). -/
def HostCouplingActs : Prop :=
  (∀ s : State, barOn s = true → exec .bar2Read s = .next { s with out := s.out ++ [.unsupported] }) ∧
  (∀ (s : State) (addr : Nat), domOn s dHOST = true →
    exec (.hostSnoop addr) s = .next { s with out := s.out ++ [.rspIHitI addr] }) ∧
  (∀ (s : State) (a : Nat) (b : Bytes) (owned : Bool) (u : HostUse), s.hif.loss = .idle →
    ∃ l x, (hostWrite a b owned u s).out = s.out ++ [.hostWrite s.hif.nextReq a b l x] ∧
      (owned = true → l = [.memWr true] ∧ x = s.pwr.relaxed) ∧ (owned = false → x = false) ∧
      (owned = false → s.pwr.cxl = false ∨ s.pwr.rate = some .gt16 → l = [.memWr false]) ∧
      (owned = false → s.pwr.cxl = true → s.pwr.rate = some .gt64 ∨ s.pwr.rate = some .gt32 →
        (a % 64 = 0 → b.length = 64 → l = [.itoMWr]) ∧
        (0 < b.length → b.length < 64 → a % 64 + b.length ≤ 64 → l = [.woWrInv]))) ∧
  (∀ s : State, hostReady s = true → s.hif.hbBusy = false → domOn s dMEM = true → (moOf s s.hif.hbObj.toNat).st ≠ .free →
    (moOf s s.hif.hbObj.toNat).ctx = s.hif.hbCtx.toNat → (moOf s s.hif.hbObj.toNat).host = true →
    4096 * (s.hif.hbFirst.toNat + s.hif.hbCount.toNat + 1) ≤ (moOf s s.hif.hbObj.toNat).size →
    exec .hbGo s = .next { s with
      hif.hbBusy := true,
      hif.hbRun := some (s.hif.hbObj.toNat, s.hif.hbFirst.toNat, s.hif.hbCount.toNat + 1, s.hif.hbBias) }) ∧
  (∀ (s : State) (n first count : Nat) (bias : Bool) (m : MemObj), s.hif.hbRun = some (n, first, count, bias) → m = moOf s n →
    m.st ≠ .free → m.host = true → 4096 * (first + count) ≤ m.size →
    ((∃ r ∈ s.hif.reqs, r.addr < m.pa + 4096 * (first + count) ∧ m.pa + 4096 * first < r.addr + r.data.length) →
      exec .biasChangeDone s = .next s) ∧
    ((∀ r ∈ s.hif.reqs, m.pa + 4096 * (first + count) ≤ r.addr ∨ r.addr + r.data.length ≤ m.pa + 4096 * first) →
      exec .biasChangeDone s = .next { s with
        hif.owned := (List.range count).foldl (fun t i => tput false t (n * 2 ^ 36 + first + i) bias) s.hif.owned,
        hif.hbBusy := false, hif.hbDone := true, hif.hbCode := 0, hif.hbRun := none })) ∧
  (∀ (s : State) (id : Nat) (r : HostReq), s.hif.reqs.find? (fun r => decide (r.id = id)) = some r →
    ∃ t, exec (.hostCompletion id) s = .next t ∧ t.hif.reqs = s.hif.reqs.filter (fun r => decide (r.id ≠ id)) ∧
      t.hbm = s.hbm ∧
      (∀ q v, r.use = .completion q v → msixSent s v t ∧
        ((queueOf s q).job ≠ none → (queueOf s q).st ≠ .free → (queueOf t q).landing = (queueOf s q).landing - 1)) ∧
      (∀ v, r.use = .eventRec v → msixSent s v t) ∧
      (r.use = .errLine → ∀ l ls, s.erq.lines = l :: ls → l.id = id → (∀ x ∈ ls, x.landed = false ∧ x.id ≠ id) →
        t.erq.tail = s.erq.tail + 1 ∧ t.erq.lines = ls)) ∧
  (∀ (s : State) (id addr : Nat) (hr : List Host.Cell) (r : HostReq) (v : Option (BitVec 11)),
    s.hif.reqs.find? (fun r => decide (r.id = id)) = some r → r.use = .eventRec v → domOn s dHOST = true →
    (∀ x ∈ s.sealer.rows, Await.host id ∉ x.waits) →
    ∃ t, exec (.hostAccessRefused (.write id) addr hr) s = .next t ∧
      t.hif.reqs = s.hif.reqs.filter (fun r => decide (r.id ≠ id)) ∧
      t.erq.incoming = s.erq.incoming ++ [{ code := 0x0502, src := 4, addr := addr }]) ∧
  (∀ (s : State) (q addr : Nat) (hr : List Host.Cell), canRead s q = true →
    ∃ t, exec (.hostAccessRefused (.entry q) addr hr) s = .next t ∧
      (queueOf t q).head = ((queueOf s q).head + 1) % 2 ^ (queueOf s q).sqLog ∧
      ∀ j, (queueOf t q).job = some j → j.ph = .ended ∧ j.status = some 0x0502) ∧
  (∀ (s : State) (q addr : Nat) (hr : List Host.Cell), domOn s dHOST = true → (qpOf s q).st = .rts → (qpOf s q).outs ≠ [] →
    ∃ t e f, exec (.hostAccessRefused (.roce q) addr hr) s = .next t ∧ (qpOf t q).st = .error ∧
      t.erq.incoming = s.erq.incoming ++ [e, f] ∧ e.code = 0x0502 ∧ e.addr = addr ∧ f.code = 0x0802) ∧
  (∀ (s : State) (freeze : Bool) (x : ObjCmd) (addr : Nat) (hr : List Host.Cell) (m : MemObj), objReady s x 65536 →
    m = moOf s x.id.toNat → m.st = .live → m.host = true → m.cls = 1 → notRetiring s m.ctx = true →
    ∃ t, exec (.hostAccessRefused (.digest freeze x) addr hr) s = .next t ∧ t.obj.busy = false ∧ t.obj.done = true ∧
      t.obj.code = 0x0502 ∧ moOf t x.id.toNat = m ∧ t.kh = s.kh)

/-- The Deposit Window (06 R151 to R157) where its checks hold: arming, disarming, writes and flags. -/
def DepositActs : Prop :=
  (∀ (s : State) (e : Nat) (w : RegWr), barOn s = true → rwStraddles w 32 = false → (depOf s e).v = false →
    (rwMerge w 32 (depValue (depOf s e))).testBit 0 = true →
    armOk s (depSet (depOf s e) (rwMerge w 32 (depValue (depOf s e)))) = true →
    ∃ t, exec (.depositArm e w) s = .next t ∧
      depOf t e = { depSet (depOf s e) (rwMerge w 32 (depValue (depOf s e))) with v := true, st := .opened, dseen := false } ∧
      t.erq = s.erq) ∧
  (∀ (s : State) (e : Nat) (w : RegWr), barOn s = true → rwStraddles w 32 = false → (depOf s e).v = true →
    (rwMerge w 32 (depValue (depOf s e))).testBit 0 = false →
    ∃ t, exec (.depositDisarm e w) s = .next t ∧ depOf t e = { depOf s e with v := false, st := .draining }) ∧
  (∀ (s : State) (e : Nat), (depOf s e).st = .draining → (∀ w ∈ s.hif.depWait, w.entry ≠ e) →
    exec (.depositDrainDone e) s = .next { s with hif.dep := tput {} s.hif.dep e { depOf s e with st := .idle } }) ∧
  (∀ (s : State) (off req : Nat) (data : Bytes) (x : DepEnt) (m : MemObj), hostReady s = true → domOn s dMEM = true →
    x = depOf s (off / 0x4000000) → m = moOf s x.memobj.toNat → depOpen x req = true →
    off % 0x4000000 + data.length ≤ x.len → (m.cls ≠ 0 ∨ (ctxOf s m.ctx).keyLost = false) → moWritable m = true →
    ∃ t, exec (.depositWrite off data req false) s = .next t ∧
      t.hbm = (objWrite m (x.objOff.toNat + off % 0x4000000) data s).2.hbm ∧
      depOf t (off / 0x4000000) = { x with st := .opened, dseen := true } ∧ t.erq = s.erq) ∧
  (∀ (s : State) (off req : Nat) (data : Bytes), hostReady s = true → data.length = 8 → off % 8 = 0 →
    depOpen (depOf s (off / 8)) req = true →
    exec (.depositFlag off data req) s = .next { s with
      hif.flags := s.hif.flags ++ [{
        entry := off / 8, value := BitVec.ofNat 64 (ofLe data),
        waits := (s.hif.depWait.filter (fun w => decide (w.reqId = req))).map (·.id) }] }) ∧
  (∀ (s : State) (i : Nat) (f : DepFlag) (x : DepEnt), Tables.wf s = true → s.hif.flags[i]? = some f → x = depOf s f.entry →
    (∀ w ∈ s.hif.depWait, w.id ∉ f.waits) → (∀ g ∈ s.hif.flags.take i, g.entry ≠ f.entry) →
    ∃ t, exec (.depositFlagApply i) s = .next t ∧ t.hif.flags = ldel s.hif.flags i ∧ (depOf t f.entry).lastFlag = f.value ∧
      (∀ j, (depOf s j).v = true → (depOf s j).ctx = x.ctx → (depOf s j).memobj = x.memobj →
        (depOf t j).st = .flagged ∧ (depOf t j).dseen = false) ∧
      (∀ j, j ≠ f.entry → ¬((depOf s j).v = true ∧ (depOf s j).ctx = x.ctx ∧ (depOf s j).memobj = x.memobj) →
        depOf t j = depOf s j) ∧
      (x.evV = true → evOwned s x.ctx.toNat x.event.toNat = true →
        (evOf t x.event.toNat).cnt.toNat = min ((evOf s x.event.toNat).cnt.toNat + 1) (2 ^ 64 - 1)))

/-- A Deposit write or flag that the entry does not accept stores nothing and leaves the entry's state as it was (06 R154, R155). -/
def DepositRefused : Prop :=
  ∀ (s : State) (off req : Nat) (data : Bytes) (poisoned : Bool), Tables.wf s = true → hostReady s = true →
    (depOpen (depOf s (off / 0x4000000)) req = false →
      ∃ t, exec (.depositWrite off data req poisoned) s = .next t ∧ t.hbm = s.hbm ∧
        (depOf t (off / 0x4000000)).st = (depOf s (off / 0x4000000)).st) ∧
    (depOpen (depOf s (off / 8)) req = false →
      ∃ t, exec (.depositFlag off data req) s = .next t ∧ t.hif.flags = s.hif.flags ∧ t.obj = s.obj ∧
        (depOf t (off / 8)).st = (depOf s (off / 8)).st)

/-- The commands of the host interface leave the clocks, the supplies, the keys, the contexts, the memory objects, the fabric and the
stores as they were; only a Deposit write, a refusal and their mirrors touch HBM, and only a refusal, which may end a replay's
reads and so begin the next, the mesh, the transactions and the queue pairs. -/
def HostFrame : Prop :=
  ∀ (s t : State) (n a r : Nat) (w : RegWr) (d : Bytes) (p : Bool) (hr : List Host.Cell) (who : HostReqRef),
    (exec .bar2Read s = .next t ∨ exec .hbGo s = .next t ∨ exec .biasChangeDone s = .next t ∨
      exec (.hostCompletion n) s = .next t ∨ exec (.hostSnoop a) s = .next t ∨ exec (.depositArm n w) s = .next t ∨
      exec (.depositDisarm n w) s = .next t ∨ exec (.depositDrainDone n) s = .next t ∨ exec (.depositFlag a d r) s = .next t ∨
      exec (.depositFlagApply n) s = .next t →
      { t with
        hif := s.hif, out := s.out, erq := s.erq, dict := s.dict, obj.q := s.obj.q, obj.ev := s.obj.ev, tile := s.tile,
        sealer := s.sealer, rcv := s.rcv, free := s.free } = s) ∧
    (exec (.depositWrite a d r p) s = .next t →
      { t with
        hif := s.hif, out := s.out, erq := s.erq, dict := s.dict, hbm := s.hbm, port := s.port, pair := s.pair } = s) ∧
    (exec (.hostAccessRefused who a hr) s = .next t →
      { t with
        hif := s.hif, out := s.out, erq := s.erq, dict := s.dict, obj := s.obj, tile := s.tile, sealer := s.sealer, rcv := s.rcv,
        hbm := s.hbm, port := s.port, pair := s.pair, free := s.free, quad := s.quad, mesh := s.mesh, txn := s.txn, eth := s.eth,
        kh := s.kh } = s)

/-- A Bivouac command ends with a code: DONE, and the secret is gone (06 R158). -/
def bivOk (t : State) : Prop := t.biv.busy = false ∧ t.biv.done = true ∧ t.biv.code = 0 ∧ t.biv.secret = 0

/-- The Bivouac commands leave the clocks, the supplies, tiles, transactions, fabric and stores as they were. -/
def BivouacFrame : Prop :=
  ∀ (s t : State) (r c dur : Nat) (damaged : Bool),
    (exec (.declare r c dur) s = .next t ∨ exec (.release r) s = .next t ∨ exec (.discard r) s = .next t ∨
      exec (.claim r c damaged dur) s = .next t) →
    { t with
      biv := s.biv, hbm := s.hbm, kh := s.kh, obj.ctx := s.obj.ctx, obj.mo := s.obj.mo, pair := s.pair, port := s.port,
      erq := s.erq, dict := s.dict, out := s.out, free := s.free } = s

/-- A network command is executed: the host is ready, NET and MEM are on, its word is well formed. -/
def netReady (s : State) (x : NetCmd) (lim : Nat) : Prop :=
  hostReady s = true ∧ domOn s dNET = true ∧ domOn s dMEM = true ∧ x.rsv = 0 ∧ x.id.toNat < lim

/-- The bytes of the network staging register. -/
def netStage (s : State) : Bytes := leBytes 64 s.eth.stage.toNat

/-- The packet of queue pair `q` at the head of the buffer of port `p`, of a kind in `want`, the queue pair being in RTS. -/
def pktAt (s : State) (p q : Nat) (k : RocePkt) (want : RoceOp → Bool) : Prop :=
  headPkt s p want = some (q, k) ∧ (qpOf s q).st = .rts

/-- Frames, pauses and links of an Ethernet port (07 R169 to R171, R174): a frame is dropped and counted or held; a pause of the
configured priority holds tagged packets and its end sends them; a link that goes down writes a record. -/
def EthernetFramesAct : Prop :=
  ∀ (s : State) (p : Nat), Units.wf s = true → p < 2 →
    (∀ f : EthFrame, domOn s dNET = true → (ethOf s p).up = true →
      (4200 < f.len ∨ 524288 < (ethOf s p).fill + f.len →
        exec (.ethFrameReceive p f) s =
          .next (setEth s p { ethOf s p with rxDrop := inc32 (ethOf s p).rxDrop })) ∧
      (f.len ≤ 4200 → (ethOf s p).fill + f.len ≤ 524288 →
        (∀ k, f.kind = .roce k → k.icrcOk = false →
          exec (.ethFrameReceive p f) s =
            .next (setEth s p { ethOf s p with rxIcrc := inc32 (ethOf s p).rxIcrc })) ∧
        (∀ k, f.kind = .roce k → k.icrcOk = true → (∀ q, qpnOf s p k.dqpn.toNat = some q → (qpOf s q).st ≠ .rts) →
          exec (.ethFrameReceive p f) s =
            .next (setEth s p { ethOf s p with rxDrop := inc32 (ethOf s p).rxDrop })) ∧
        (((∃ prio pause, f.kind = .pfc prio pause) ∨
            ∃ k q, f.kind = .roce k ∧ k.icrcOk = true ∧ qpnOf s p k.dqpn.toNat = some q ∧ (qpOf s q).st = .rts) →
          ∃ t, exec (.ethFrameReceive p f) s = .next t ∧ (ethOf t p).inq = (ethOf s p).inq ++ [f] ∧
            (ethOf t p).fill = (ethOf s p).fill + f.len ∧ (ethOf t p).rxDrop = (ethOf s p).rxDrop))) ∧
    (∀ (f : EthFrame) (r : List EthFrame) (prio : BitVec 3) (pause : Bool), (ethOf s p).inq = f :: r →
      f.kind = .pfc prio pause → (ethOf s p).pfcEn = true → prio = (ethOf s p).pfcPrio →
      ∃ t, exec (.pfcPauseReceived p) s = .next t ∧ (ethOf t p).inq = r ∧ (ethOf t p).paused = pause ∧
        (pause = true → (ethOf t p).heldTx = (ethOf s p).heldTx) ∧
        (pause = false → (ethOf t p).heldTx = [] ∧
          ∃ l, t.out = s.out ++ l ++ (ethOf s p).heldTx.map (fun k => Out.roce p k) ∧
            (l = [] ∨ l = [.pfc p prio.toNat true] ∨ l = [.pfc p prio.toNat false]))) ∧
    ((ethOf s p).up = true → ∃ t, exec (.ethLinkDown p) s = .next t ∧
      t.eth = { s.eth with port := lset s.eth.port p { ethOf s p with up := false } } ∧
      (domOn s dHOST = true → t.erq.incoming = s.erq.incoming ++ [{ code := 0x0803, src := 8, unit := p }])) ∧
    (domOn s dNET = true → exec (.ethLinkUp p) s =
      .next { setEth s p { ethOf s p with up := true } with pwr.clkLost := s.pwr.clkLost &&& 0x7 })

/-- Outbound WRITEs of RoCE: a request is posted as packets in PSN order, an ACK completes the requests it covers in order and
counts each on CMP_EVENT, an RNR NAK or a timeout within its limit is retried, any other ends in ERROR, and the rate follows
the CNPs (07 R174, R182 to R185). A packet marked CE makes the queue pair send a CNP, at most one in 50 µs (R185): of the queue
pair it changes the time of the last CNP alone. -/
def OutboundWritesAct : Prop :=
  (∀ (s : State) (q : Nat) (hr : List Host.Cell) (x : Qp) (l : List RoceTx), x = qpOf s q → domOn s dNET = true →
    domOn s dMEM = true → x.st = .rts → x.sent < (evOf s x.sqEvent).cnt.toNat → (ethOf s x.portNo).up = true →
    (ethOf s x.portNo).paused = false ∨ x.vlan = false → requestTx s hr x x.sent x.spsn = .ok l →
    exec (.roceWritePost q hr) s = .next { s with
      free := s.free + 1,
      out := s.out ++ l.map (fun k => Out.roce x.portNo { k with qp := q, hdr := qpHdr s x, dqpn := x.dqpn }),
      eth.qp := tput {} s.eth.qp q { x with
        sent := x.sent + 1, spsn := (x.spsn + l.length) % 2 ^ 24, ackAt := if x.outs.isEmpty then s.now else x.ackAt,
        outs := x.outs ++
          [{ idx := x.sent, psnFirst := x.spsn, psnLast := (x.spsn + l.length + 2 ^ 24 - 1) % 2 ^ 24 }] } }) ∧
  (∀ (s : State) (q : Nat) (hr : List Host.Cell) (x : Qp) (va : Option Nat), x = qpOf s q → canPost s q = true →
    requestTx s hr x x.sent x.spsn = .error va →
    ∃ t, exec (.roceWritePost q hr) s = .next t ∧ qpOf t q = { x with st := .error, inb := .none, outs := [] } ∧ t.out = s.out) ∧
  (∀ (s : State) (p q : Nat) (k : RocePkt) (x : Qp), pktAt s p q k (fun o => decide (o = .cnp)) → x = qpOf s q → k.ce = true →
    (ethOf s p).pfcEn = false → (ethOf s x.portNo).up = true → (ethOf s x.portNo).paused = false →
    (x.cnpAt = 0 ∨ x.cnpAt - 1 + 50000 ≤ s.now →
      ∃ t, exec (.roceCnpReceived p) s = .next t ∧ (qpOf t q).cnpAt = s.now + 1 ∧
        t.out = s.out ++ [.roce x.portNo { qp := q, hdr := qpHdr s x, dqpn := x.dqpn, op := .cnp, psn := 0, syndrome := 0 }]) ∧
    (x.cnpAt ≠ 0 → s.now < x.cnpAt - 1 + 50000 →
      ∃ t, exec (.roceCnpReceived p) s = .next t ∧ (qpOf t q).cnpAt = x.cnpAt ∧ t.out = s.out)) ∧
  (∀ (s : State) (p q : Nat) (k : RocePkt) (x : Qp) (cov : QpOut → Bool), pktAt s p q k (fun o => decide (o = .ack)) →
    x = qpOf s q → cov = (fun o => decide ((k.psn.toNat + 2 ^ 24 - o.psnLast) % 2 ^ 24 < 2 ^ 23)) →
    ∃ t, exec (.roceAckReceived p) s = .next t ∧
      qpOf t q = { x with
        retries := 0, rnr := 0, ackAt := s.now, outs := x.outs.dropWhile cov,
        completed := x.completed + (x.outs.takeWhile cov).length, cnpAt := (qpOf t q).cnpAt } ∧
      (evOwned s x.ctx x.cmpEvent = true → (evOf t x.cmpEvent).cnt.toNat =
        min ((evOf s x.cmpEvent).cnt.toNat + (x.outs.takeWhile cov).length) (2 ^ 64 - 1))) ∧
  (∀ (s : State) (p q : Nat) (k : RocePkt) (hr : List Host.Cell) (x : Qp), pktAt s p q k (fun o => decide (o = .nak)) →
    x = qpOf s q →
    (k.syndrome.toNat / 32 = 1 → x.rnrMax = 7 ∨ x.rnr < x.rnrMax →
      ∃ t, exec (.roceNakReceived p hr) s = .next t ∧ (qpOf t q).rnr = x.rnr + 1 ∧ (qpOf t q).ackAt = s.now) ∧
    (k.syndrome.toNat / 32 = 1 → x.rnrMax ≠ 7 → x.rnrMax ≤ x.rnr →
      ∃ t, exec (.roceNakReceived p hr) s = .next t ∧
        qpOf t q = { x with st := .error, inb := .none, outs := [], cnpAt := (qpOf t q).cnpAt }) ∧
    (k.syndrome.toNat / 32 ≠ 1 →
      ∃ t, exec (.roceNakReceived p hr) s = .next t ∧
        qpOf t q = { x with st := .error, inb := .none, outs := [], cnpAt := (qpOf t q).cnpAt })) ∧
  (∀ (s : State) (q : Nat) (hr : List Host.Cell) (x : Qp), x = qpOf s q → domOn s dNET = true → x.st = .rts → x.outs ≠ [] →
    x.ackAt + x.timeout ≤ s.now →
    (x.retries < x.retryMax → ∃ t, exec (.roceAckTimeout q hr) s = .next t ∧ (qpOf t q).retries = x.retries + 1) ∧
    (x.retryMax ≤ x.retries →
      ∃ t, exec (.roceAckTimeout q hr) s = .next t ∧ qpOf t q = { x with st := .error, inb := .none, outs := [] })) ∧
  (∀ (s : State) (p q : Nat) (k : RocePkt), pktAt s p q k (fun o => decide (o = .cnp)) →
    ∃ t, exec (.roceCnpReceived p) s = .next t ∧
      qpOf t q = { qpOf s q with
        rate := max 1000000000 ((qpOf s q).rate / 2), rateAt := s.now, cnpAt := (qpOf t q).cnpAt }) ∧
  (∀ (s : State) (q : Nat), domOn s dNET = true → (qpOf s q).st = .rts → (qpOf s q).rateAt + 55000 ≤ s.now →
    exec (.roceRateIncrease q) s = .next { s with
      eth.qp := tput {} s.eth.qp q { qpOf s q with
        rate := min 200000000000 ((qpOf s q).rate + 5000000000), rateAt := s.now } })

/-- What the network's commands leave as it was (07). -/
def NetworkFrame : Prop :=
  ∀ (s t : State) (x : NetCmd) (p q : Nat) (f : EthFrame) (hr : List Host.Cell),
    (exec (.qpCreate x) s = .next t ∨ exec (.qpDestroy x) s = .next t ∨ exec (.qpFail x) s = .next t ∨
      exec (.qpRecover x) s = .next t ∨ exec (.mrReg x) s = .next t ∨ exec (.mrDereg x) s = .next t →
      { t with
        eth := s.eth, erq := s.erq, dict := s.dict, out := s.out, obj.mo := s.obj.mo, free := s.free } = s ∧
      { ethOf t p with heldTx := (ethOf s p).heldTx } = ethOf s p) ∧
    (exec (.ethFrameReceive p f) s = .next t ∨ exec (.pfcPauseReceived p) s = .next t ∨
      exec (.roceWritePost q hr) s = .next t ∨ exec (.roceNakReceived p hr) s = .next t ∨
      exec (.roceAckTimeout q hr) s = .next t ∨ exec (.roceCnpReceived p) s = .next t ∨
      exec (.roceRateIncrease q) s = .next t ∨ exec (.ethLinkDown p) s = .next t ∨ exec (.ethLinkUp p) s = .next t →
      { t with
        eth := s.eth, erq := s.erq, dict := s.dict, out := s.out, free := s.free, pwr.clkLost := s.pwr.clkLost } = s) ∧
    (exec (.rocePacketLanded q) s = .next t ∨ exec (.roceAckReceived p) s = .next t →
      { t with
        eth := s.eth, erq := s.erq, dict := s.dict, out := s.out, hif := s.hif, obj.ev := s.obj.ev, tile := s.tile } = s) ∧
    (exec (.roceInboundPacket p) s = .next t →
      { t with
        eth := s.eth, erq := s.erq, dict := s.dict, out := s.out, hbm := s.hbm, port := s.port, pair := s.pair } = s)

/-- What the receiver of a port does with FEC blocks and frames (08 R190, R191, R198 to R201, R207): a block that its codewords give
is taken in, an uncorrected codeword marks the frames it has bytes of, a third bad block in a row starts a retrain; a good
DATA frame in sequence is accepted, one with a bad CRC asks for replay, an ACK clears the frames it covers, a NAK starts a
replay of every unacknowledged frame, and an INIT is kept for the training. -/
def LinkReceiverActs : Prop :=
  ∀ (s : State) (p : Nat) (x : Port), Units.wf s = true → x = portOf s p → linkRuns s p = true →
    (∀ (l0 l1 l2 l3 : List (BitVec 10)) (skew corr : Nat) (blk : Bytes) (u0 u1 : Bool), x.st = .active →
      blockReceived [l0, l1, l2, l3] (decide (skew ≤ 32)) = (blk, corr, u0, u1) →
      (u1 = false → (u0 = true → x.badCw < 3) →
        x.bcnt = none ∨ x.bcnt.map (fun b => (b + 1) % 4096) = some (bitsAt blk 0 0 12) →
        exec (.fecBlockReceive p l0 l1 l2 l3 skew) s = .next (setPort s p { x with
          bcnt := some (bitsAt blk 0 0 12), badBlk := 0, badCw := 0,
          fecCorr := BitVec.ofNat 32 (min (x.fecCorr.toNat + corr) (2 ^ 32 - 1)),
          fecUncorr := BitVec.ofNat 32 (min (x.fecUncorr.toNat + b2n u0) (2 ^ 32 - 1)),
          inFrames := x.inFrames ++ (List.range 5).map (fun i => (sliceB blk (5 + 256 * i) 256, u0 && decide (i ≤ 2))) })) ∧
      (u0 = true → u1 = true → x.bcnt = none → x.badCw < 2 →
        ∃ t, exec (.fecBlockReceive p l0 l1 l2 l3 skew) s = .next t ∧ (portOf t p).badCw = x.badCw + 2 ∧
          (portOf t p).inFrames =
            x.inFrames ++ (List.range 5).map (fun i => (sliceB blk (5 + 256 * i) 256, true))) ∧
      (∀ b, x.bcnt = some b → (b + 1) % 4096 ≠ bitsAt blk 0 0 12 → x.badBlk = 2 → x.lastDone = none →
        ∃ t, exec (.fecBlockReceive p l0 l1 l2 l3 skew) s = .next t ∧ (portOf t p).st = .retrain ∧
          (portOf t p).retrains = inc32b x.retrains)) ∧
    (∀ (b : Bytes) (rest : List (Bytes × Bool)) (f : LFrame), x.st = .active → x.inFrames = (b, false) :: rest → f = parseFrame b →
      (frameCrcOk b = false → x.errSt = false →
        exec (.linkFrameReceive p) s = .next (setPort s p { x with
          inFrames := rest, crcErr := inc32b x.crcErr, errSt := true, nakDue := true })) ∧
      (frameCrcOk b = true → frameProtoOk b = true → f.ty = 1 → f.ackv = false → f.nak = false → f.seq = x.e →
        occupancy s p f.vcA < 3072 →
        exec (.linkFrameReceive p) s = .next (setPort s p { x with
          inFrames := rest, rxoffQ := f.xoffQ, rxoffA := f.xoffA, e := (x.e + 1) % 4096, accepted := true, errSt := false,
          rxQ := if f.vcA then x.rxQ else
            x.rxQ ++ [{ seq := f.seq, vcA := f.vcA, first := false, data := f.payload }],
          rxA := if f.vcA then
            x.rxA ++ [{ seq := f.seq, vcA := f.vcA, first := false, data := f.payload }] else x.rxA })) ∧
      (frameCrcOk b = true → frameProtoOk b = true → f.ty = 4 → cairnOk f.payload = false →
        exec (.linkFrameReceive p) s = .next (setPort s p { x with inFrames := rest, protoErr := inc32b x.protoErr })) ∧
      (frameCrcOk b = true → frameProtoOk b = true → f.ty = 4 → cairnOk f.payload = true → f.ackv = false → f.nak = false →
        exec (.linkFrameReceive p) s = .next (setPort s p { x with
          inFrames := rest, rxoffQ := f.xoffQ, rxoffA := f.xoffA, cairnIn := x.cairnIn ++ [f.payload] })) ∧
      (∀ i, frameCrcOk b = true → frameProtoOk b = true → f.ty = 2 → f.ackv = true → f.nak = false →
        x.unack.findIdx? (fun g => decide (g.seq = f.ack)) = some i →
        ∃ t, exec (.linkFrameReceive p) s = .next t ∧ (portOf t p).unack = x.unack.drop (i + 1) ∧
          (portOf t p).replayRun = 0 ∧ (portOf t p).ackAt = s.now ∧ (portOf t p).st = .active) ∧
      (frameCrcOk b = true → frameProtoOk b = true → f.ty = 2 → f.ackv = false → f.nak = true → x.unack ≠ [] →
        x.replayRun < replayMaxOf x →
        ∃ t, exec (.linkFrameReceive p) s = .next t ∧ (portOf t p).st = .replay ∧ (portOf t p).replayLeft = x.unack ∧
          (portOf t p).replays = inc32b x.replays ∧ (portOf t p).replayRun = x.replayRun + 1)) ∧
    (∀ (b : Bytes) (rest : List (Bytes × Bool)), x.st = .training ∨ x.st = .retrain → x.inFrames = (b, false) :: rest →
      frameCrcOk b = true → frameProtoOk b = true → (parseFrame b).ty = 3 →
      exec (.linkFrameReceive p) s = .next (setPort s p { x with
        inFrames := rest, initRx := some (bitsAt (sliceB b 8 16) 1 0 3, decide (bitsAt (sliceB b 8 16) 2 0 1 = 1),
          bitsAt (sliceB b 8 16) 4 0 12) }))

/-- What leaves with a frame (08 R189, R190): the block word before the first frame of a block, the four lanes' symbols after the
fifth. -/
def frameLeaves (s t : State) (p : Nat) (x : Port) (b : Bytes) : Prop :=
  ∃ l, t.out = s.out ++ (if x.txSlot = 0 then [.blockWord p x.txBcnt] else []) ++ [.frame p b] ++
    (if x.txSlot = 4 then [.lanes p l] else [])

/-- What the transmitter of a port does at a frame slot and at its timeout (08 R189, R198, R201, R207, R214): a replayed frame first,
then a new DATA frame with the next SEQ, VC-A before VC-Q, which joins the replay buffer; an INIT frame in training; the timeout
of the oldest unacknowledged frame starts a replay. -/
def LinkTransmitterActs : Prop :=
  ∀ (s : State) (p : Nat) (x : Port), Units.wf s = true → x = portOf s p → linkRuns s p = true →
    (∀ (f : DFrame) (r : List DFrame), x.recalWin = none → x.st = .replay → x.replayLeft = f :: r →
      ∃ t, exec (.linkFrameTransmit p) s = .next t ∧ (portOf t p).replayLeft = r ∧ (portOf t p).unack = x.unack ∧
        frameLeaves s t p x (LFrame.bytes {
          ty := 1, vcA := f.vcA, ackv := x.accepted, nak := x.nakDue, seq := f.seq,
          ack := if x.accepted then (x.e + 4095) % 4096 else 0, xoffQ := (portOf t p).txoffQ, xoffA := (portOf t p).txoffA,
          payload := f.data })) ∧
    (∀ (f : DFrame) (r : List DFrame), x.recalWin = none → x.st = .active → x.replayLeft = [] → x.cairnOut = [] →
      x.unack.length < 2048 → x.rxoffA = false → x.txA = f :: r →
      ∃ t, exec (.linkFrameTransmit p) s = .next t ∧ (portOf t p).txA = r ∧
        (portOf t p).unack = x.unack ++ [{ f with seq := x.txSeq, src := 8 }] ∧
        (portOf t p).txSeq = (x.txSeq + 1) % 4096) ∧
    (∀ (f : DFrame) (r : List DFrame), x.recalWin = none → x.st = .active → x.replayLeft = [] → x.cairnOut = [] →
      x.unack.length < 2048 → x.rxoffA = true → x.rxoffQ = false → x.txQ = f :: r →
      ∃ t, exec (.linkFrameTransmit p) s = .next t ∧ (portOf t p).txQ = r ∧
        (portOf t p).unack = x.unack ++ [{ f with seq := x.txSeq, src := 8 }] ∧
        (portOf t p).txSeq = (x.txSeq + 1) % 4096 ∧
        frameLeaves s t p x (LFrame.bytes {
          ty := 1, vcA := f.vcA, ackv := x.accepted, nak := x.nakDue, seq := x.txSeq,
          ack := if x.accepted then (x.e + 4095) % 4096 else 0, xoffQ := (portOf t p).txoffQ, xoffA := (portOf t p).txoffA,
          payload := f.data })) ∧
    (x.recalWin = none → x.st = .training ∨ x.st = .retrain → initDue s x = true →
      ∃ t, exec (.linkFrameTransmit p) s = .next t ∧ (portOf t p).initAt = some s.now ∧
        (portOf t p).initsLeft = (if x.initRx.isSome then x.initsLeft - 1 else x.initsLeft) ∧
        frameLeaves s t p x (LFrame.bytes {
          ty := 3, ackv := x.accepted, nak := x.nakDue, ack := if x.accepted then (x.e + 4095) % 4096 else 0,
          xoffQ := (portOf t p).txoffQ, xoffA := (portOf t p).txoffA, payload := initPayload p x })) ∧
    (x.st = .active → x.unack ≠ [] → x.ackAt + replayToNs x ≤ s.now → x.replayRun < replayMaxOf x →
      ∃ t, exec (.replayTimeout p) s = .next t ∧ (portOf t p).st = .replay ∧ (portOf t p).replayLeft = x.unack ∧
        (portOf t p).replays = inc32b x.replays)

/-- A write of NLK_FLOW sets H and Y, unless H would be less than 16 KiB or H + Y greater than 768 KiB: then the write is ignored and
CFG_ERR is set (08 R218); a write that straddles the next register takes effect or not, as a draw has it (log 62). -/
def FlowWriteChecked : Prop :=
  ∀ (s : State) (p : Nat) (w : RegWr) (x : Port) (h y : Nat), x = portOf s p → barOn s = true → linkOn s p = true →
    h = bitsN (rwMerge w 4 (nlkFlow x)) 0 10 → y = bitsN (rwMerge w 4 (nlkFlow x)) 16 10 →
    (rwStraddles w 4 = false → 16 ≤ h → h + y ≤ 768 →
      exec (.nlkFlowWrite p w) s = .next (setPort s p { x with h := BitVec.ofNat 10 h, y := BitVec.ofNat 10 y })) ∧
    (rwStraddles w 4 = false → h < 16 ∨ 768 < h + y →
      exec (.nlkFlowWrite p w) s = .next (setPort s p { x with cfgErr := true })) ∧
    (rwStraddles w 4 = true → ∃ d : Bool,
      exec (.nlkFlowWrite p w) s = .next (if d then effNlkFlow p w (drawn s) else drawn s))

/-- Periodic recalibration (08 R219, R220): a window opens at the first idle moment of its period, lasts 998.4 ns, and the tenth skipped
period forces the next one. -/
def RecalibrationActs : Prop :=
  ∀ (s : State) (p : Nat) (x : Port), Units.wf s = true → x = portOf s p → linkRuns s p = true →
    (x.st = .active → x.recalTaken = false → x.recalWin = none → x.recalForce = true ∨ portIdle x = true → x.txSlot < 5 →
      ∃ t, exec (.recalWindowStart p) s = .next t ∧ t.out.getLast? = some (.prbs p) ∧
        (portOf t p).recalWin = some s.now ∧ (portOf t p).recalTaken = true ∧ (portOf t p).recalSkip = 0 ∧
        (portOf t p).txSlot = 0 ∧
        (portOf t p).recalForced = if x.recalForce then inc32b x.recalForced else x.recalForced) ∧
    (∀ a, x.recalWin = some a → a + 999 ≤ s.now →
      exec (.recalWindowEnd p) s = .next (setPort s p { x with recalWin := none })) ∧
    (x.recalAt + 100000000 ≤ s.now →
      exec (.recalPeriodEnd p) s = .next (setPort s p { x with
        recalAt := s.now, recalTaken := false,
        recalSkip := if x.recalTaken then x.recalSkip else min 10 (x.recalSkip + 1),
        recalForce := decide (10 ≤ (if x.recalTaken then x.recalSkip else min 10 (x.recalSkip + 1))) }))

/-- What the commands of a port leave as it was (08): a register write of NLK_FLOW, AUTO and the end of a recalibration window or
period reach the port alone, a frame sent also what is sent, and a change of state the routing, the records and the transactions
that used the port; the other ports keep what is not theirs to lose. -/
def LinkFrame : Prop :=
  ∀ (s t : State) (p n : Nat) (w : RegWr) (l0 l1 l2 l3 : List (BitVec 10)) (pol precode : BitVec 4)
      (coef : List (List (BitVec 8))) (skew : List Nat) (u : Bool),
    (exec (.nlkFlowWrite p w) s = .next t ∨ exec (.autoTrain p) s = .next t ∨ exec (.recalWindowEnd p) s = .next t ∨
      exec (.recalPeriodEnd p) s = .next t →
      { t with port := s.port, free := s.free } = s ∧ ∀ q, q ≠ p → portOf t q = portOf s q) ∧
    (exec (.linkFrameTransmit p) s = .next t ∨ exec (.recalWindowStart p) s = .next t →
      { t with port := s.port, out := s.out } = s ∧ ∀ q, q ≠ p → portOf t q = portOf s q) ∧
    (exec (.fecBlockReceive p l0 l1 l2 l3 n) s = .next t ∨ exec (.linkFrameReceive p) s = .next t ∨
      exec (.replayTimeout p) s = .next t ∨ exec (.lossOfSignal p u) s = .next t ∨
      exec (.trainingPatternsReceived p u) s = .next t ∨ exec (.nlkRetrain p w) s = .next t ∨
      exec (.nlkTrain p w) s = .next t ∨ exec (.nlkEnable p w) s = .next t ∨
      exec (.trainingComplete p n pol coef precode skew) s = .next t ∨ exec (.trainingTimeout p) s = .next t ∨
      exec (.retrainTimeout p) s = .next t →
      { t with
        port := s.port, fab := s.fab, erq := s.erq, dict := s.dict, out := s.out, txn := s.txn, tile := s.tile,
        obj.q := s.obj.q, sealer.rows := s.sealer.rows, free := s.free, pwr.clkLost := s.pwr.clkLost } = s ∧
      ∀ q, q ≠ p → (portOf t q).st = (portOf s q).st ∧ (portOf t q).rxQ = (portOf s q).rxQ ∧
        (portOf t q).unack = (portOf s q).unack)

/-- A command of the transaction engine: a request, a response, a segment sent, an NTX command, the end of a quarantine. -/
def txnCommand (i : Instr) : Prop :=
  ∃ n, i = .segmentSend n ∨ i = .load n ∨ i = .store n ∨ i = .copy n ∨ i = .atomicAdd n ∨ i = .atomicMin n ∨ i = .atomicMax n ∨
    i = .atomicSwap n ∨ i = .atomicCas n ∨ i = .exaAdd n ∨ i = .exaRed n ∨ i = .reduceDone n ∨ i = .fence n ∨
    i = .doneResponse n ∨ i = .dataResponse n ∨ i = .ntxLoad ∨ i = .ntxStore ∨ i = .ntxAtomic ∨ i = .ntxFence ∨
    i = .tagQuarantineEnd n

/-- Responses at their source, and the sending of a segment (09 R224, R229 to R231). -/
def SegmentsAct : Prop :=
  (∀ (s s' : State) (src : Nat) (b coded : Bytes) (g : Tag) (x : Txn), Tables.wf s = true → respTaken s src b coded g x s' →
    ((parseHdr b).ttype = 8 →
      ∃ t, exec (.doneResponse src) s = .next t ∧ t.hbm = s.hbm ∧ tget none t.txn.tags (parseHdr b).tag = none ∧
        (x.unsent ≠ [] ∨ 2 ≤ x.out → ∃ y, txnOf t g.txn = some y ∧ y.out = x.out - 1 ∧ y.unsent = x.unsent ∧
          ((parseHdr b).status = 0 → y.fail = x.fail) ∧
          ((parseHdr b).status ≠ 0 → x.fail = none → y.fail = some (g.seg.idx, (parseHdr b).status))) ∧
        (x.unsent = [] → x.out ≤ 1 → txnOf t g.txn = none)) ∧
    ((parseHdr b).ttype = 9 → (parseHdr b).status = 0 → ∀ d, decodeSeg (parseHdr b).coding (parseHdr b).dlen coded = some d →
      d.length = (if g.seg.hdr.ttype = 4 then 8 else g.seg.hdr.dlen) →
      ∃ t, exec (.dataResponse src) s = .next t ∧ tget none t.txn.tags (parseHdr b).tag = none ∧
        (∀ tl n o, x.src = .tile tl n o → t.hbm = s.hbm ∧ (tileOf t tl).mem = memWrite 0 (tileOf s tl).mem g.seg.land d) ∧
        (x.src = .ntx → t.hbm = (vaWrite .image x.ctx g.seg.land d s).st.hbm))) ∧
  (∀ (s : State) (id tag : Nat) (x : Txn) (g : Seg) (rest : List Seg), domOn s dMEM = true → txnOf s id = some x →
    x.unsent = g :: rest → x.out < x.window → olderUnsent s id x = false → x.loop = true → ctxTags s x.ctx < tagQuota s x.ctx →
    freeTag s = some tag →
    ∀ seg u, sealSeg { g.hdr with tag := tag, srcDev := s.fab.addr.toNat, dstDev := s.fab.addr.toNat } g.data s = some (seg, u) →
      ∃ t, exec (.segmentSend id) s = .next t ∧ t.txn.loopQ = s.txn.loopQ ++ [seg] ∧
        txnOf t id = some { x with unsent := rest, out := x.out + 1 } ∧ (tget none t.txn.tags tag).isSome = true) ∧
  (∀ (s : State) (id tag p : Nat) (x : Txn) (g : Seg) (rest : List Seg), domOn s dMEM = true → txnOf s id = some x →
    x.unsent = g :: rest → x.out < x.window → olderUnsent s id x = false → x.loop = false → p < s.port.length →
    routePort s false x.dev x.ctx g.hdr.order = some p →
    routeHeld s x.dev = false → ctxTags s x.ctx < tagQuota s x.ctx → freeTag s = some tag →
    ∀ seg u, sealSeg { g.hdr with tag := tag, srcDev := s.fab.addr.toNat } g.data s = some (seg, u) →
      ∃ t, exec (.segmentSend id) s = .next t ∧ (portOf t p).outQ = (portOf s p).outQ ++ [(8, seg)] ∧
        txnOf t id = some { x with unsent := rest, out := x.out + 1 } ∧ (tget none t.txn.tags tag).isSome = true) ∧
  (∀ (s : State) (id : Nat) (x : Txn) (g : Seg) (rest : List Seg), domOn s dMEM = true → txnOf s id = some x →
    x.unsent = g :: rest → x.out < x.window → olderUnsent s id x = false → x.loop = false →
    (routeHeld s x.dev = true →
      exec (.segmentSend id) s = .next { s with txn.hold := tput false s.txn.hold x.dev true }) ∧
    (routeHeld s x.dev = false → routePort s false x.dev x.ctx g.hdr.order = none → domOn s dHOST = true → x.src = .ntx →
      ∃ t, exec (.segmentSend id) s = .next t ∧ txnOf t id = none ∧ ∃ e, t.erq.incoming = s.erq.incoming ++ [e] ∧
        e.code = 0x0609 ∧ e.detail = x.dev)) ∧
  (∀ (s : State) (tag : Nat), tget 0 s.txn.quar tag ≠ 0 → tget 0 s.txn.quar tag - 1 + 100000000 ≤ s.now →
    exec (.tagQuarantineEnd tag) s = .next { s with txn.quar := tput 0 s.txn.quar tag 0 })

/-- The NTX commands that meet every check put one transaction of one segment into the engine (09 R254). -/
def NtxCommandsAct : Prop :=
  ∀ (s : State), barOn s = true → s.txn.ntx.busy = false → domOn s dMEM = true →
    (ctxOf s (bitsN s.txn.ntx.ctl.toNat 16 7)).st = .live → bitsN s.txn.ntx.ctl.toNat 24 8 ≠ s.fab.addr.toNat →
    issueCheck s (bitsN s.txn.ntx.ctl.toNat 16 7) 0 (bitsN s.txn.ntx.ctl.toNat 11 3) (bitsN s.txn.ntx.ctl.toNat 24 8)
      (bitsN s.txn.ntx.ctl.toNat 8 3) true false = 0 →
    (bitsN s.txn.ntx.ctl.toNat 0 4 = 1 → bitsN s.txn.ntx.ctl.toNat 4 4 = 0 →
      ∀ p, hbmPieces s (bitsN s.txn.ntx.ctl.toNat 16 7) s.txn.ntx.rva.toNat (bitsN s.txn.ntx.ctl.toNat 40 8 + 1) true = some [p] →
        ∃ t x g, exec .ntxLoad s = .next t ∧ t.txn.ntx.busy = true ∧ txnOf t s.txn.next = some x ∧ x.src = .ntx ∧
          x.unsent = [g] ∧ g.hdr.ttype = 1 ∧ g.hdr.dlen = bitsN s.txn.ntx.ctl.toNat 40 8 + 1 ∧
          g.hdr.va = s.txn.ntx.va.toNat ∧ g.land = s.txn.ntx.rva.toNat) ∧
    (bitsN s.txn.ntx.ctl.toNat 0 4 = 2 → bitsN s.txn.ntx.ctl.toNat 4 4 = 0 →
      ∀ p, hbmPieces s (bitsN s.txn.ntx.ctl.toNat 16 7) s.txn.ntx.rva.toNat 1 true = some [p] →
      ∃ t x g, exec .ntxStore s = .next t ∧ t.txn.ntx.busy = true ∧ txnOf t s.txn.next = some x ∧ x.src = .ntx ∧
        x.unsent = [g] ∧ g.hdr.ttype = 2 ∧ g.data = sliceB s.txn.ntx.data 0 (bitsN s.txn.ntx.ctl.toNat 40 8 + 1) ∧
        g.hdr.va = s.txn.ntx.va.toNat) ∧
    (bitsN s.txn.ntx.ctl.toNat 0 4 = 4 → bitsN s.txn.ntx.ctl.toNat 4 4 ≤ 4 →
      ∀ p, hbmPieces s (bitsN s.txn.ntx.ctl.toNat 16 7) s.txn.ntx.rva.toNat 8 true = some [p] →
        ∃ t x g, exec .ntxAtomic s = .next t ∧ t.txn.ntx.busy = true ∧ txnOf t s.txn.next = some x ∧ x.src = .ntx ∧
          x.unsent = [g] ∧ g.hdr.ttype = 4 ∧ g.hdr.aop = bitsN s.txn.ntx.ctl.toNat 4 4 ∧
          g.data = leBytes (if bitsN s.txn.ntx.ctl.toNat 4 4 = 4 then 16 else 8) s.txn.ntx.opnd.toNat ∧
          g.hdr.va = s.txn.ntx.va.toNat) ∧
    (bitsN s.txn.ntx.ctl.toNat 0 4 = 5 → bitsN s.txn.ntx.ctl.toNat 4 4 = 0 →
      ∀ p, hbmPieces s (bitsN s.txn.ntx.ctl.toNat 16 7) s.txn.ntx.rva.toNat 1 true = some [p] →
      ∃ t x g, exec .ntxFence s = .next t ∧ t.txn.ntx.busy = true ∧ txnOf t s.txn.next = some x ∧ x.src = .ntx ∧
        x.unsent = [g] ∧ g.hdr.ttype = 5 ∧ g.data = [] ∧ g.hdr.va = 0) ∧
    (bitsN s.txn.ntx.ctl.toNat 4 4 = 0 →
      hbmPieces s (bitsN s.txn.ntx.ctl.toNat 16 7) s.txn.ntx.rva.toNat 1 true = none →
      (bitsN s.txn.ntx.ctl.toNat 0 4 = 2 → exec .ntxStore s = .next { s with
        txn.ntx.code := 0x0101, txn.ntx.done := true, txn.ntx.busy := false }) ∧
      (bitsN s.txn.ntx.ctl.toNat 0 4 = 5 → exec .ntxFence s = .next { s with
        txn.ntx.code := 0x0101, txn.ntx.done := true, txn.ntx.busy := false }))

/-- A transaction command leaves the clocks, the supplies, the mesh, the objects but their event counters and job marks, the keys but
their counters, and the units that are not its own as they were; LOAD, EXA-ADD, EXA-RED, REDUCE-DONE, FENCE, a DONE response, a
segment sent and the NTX commands store no byte in HBM. -/
def TransactionFrame : Prop :=
  ∀ (s u : State) (i : Instr), txnCommand i → exec i s = .next u →
    { u with
      tile := s.tile, txn := s.txn, port := s.port, kh.jobKey := s.kh.jobKey, erq := s.erq, dict := s.dict, out := s.out,
      free := s.free, obj.ev := s.obj.ev, obj.q := s.obj.q, hif := s.hif, hbm := s.hbm, pair := s.pair,
      sealer := s.sealer } = s ∧
    ((∀ n, i ≠ .store n ∧ i ≠ .copy n ∧ i ≠ .atomicAdd n ∧ i ≠ .atomicMin n ∧ i ≠ .atomicMax n ∧ i ≠ .atomicSwap n ∧
      i ≠ .atomicCas n ∧ i ≠ .dataResponse n) → u.hbm = s.hbm)

/-- What the fabric's commands leave as it was (10). -/
def FabricFrame : Prop :=
  ∀ (s t : State) (p : Nat) (vcA : Bool),
    (exec (.transitForward p vcA) s = .next t →
      { t with port := s.port, fab.transitDrop := s.fab.transitDrop, txn := s.txn, erq := s.erq, dict := s.dict, out := s.out } = s) ∧
    (exec (.cairnSend p) s = .next t → { t with port := s.port } = s) ∧
    (exec .routeRecompute s = .next t →
      { t with fab.route := s.fab.route, fab.rtDirty := s.fab.rtDirty, pair.leaving := s.pair.leaving } = s) ∧
    (exec (.cairnReceive p) s = .next t ∨ exec (.cairnTimeout p) s = .next t ∨ exec .addressAssign s = .next t ∨
      (pairBound s = false ∧ exec .addressConflict s = .next t) →
      { t with port := s.port, fab := s.fab, erq := s.erq, dict := s.dict, out := s.out } = s ∧
      t.fab.route = s.fab.route ∧ t.fab.loaded = s.fab.loaded ∧ t.fab.transitDrop = s.fab.transitDrop)

/-- Binding, synchronizing, heartbeats, misses and the end of a pair (10 R273, R279 to R281, R284). -/
def PairStatesMove : Prop :=
  (∀ (s : State) (peer : PairPeer) (dur : Nat), s.rcv.oos = false → pairRole s ≠ 0 → partnerShows s = true →
    (settingsMatch s peer = false → exec (.pairBind peer dur) s = .next s) ∧
    (settingsMatch s peer = true → s.pair.st = .binding → keyServes s true = true →
      (∀ k, dur = 0 → s.kh.run = [] → pairSecretOf s peer (pairHello s).1 = some k →
        ∃ t, exec (.pairBind peer dur) s = .next t ∧ t.pair.st = .syncing ∧ t.kh.pairSecret = some k) ∧
      (dur = 0 → s.kh.run = [] → pairSecretOf s peer (pairHello s).1 = none →
        ∃ t, exec (.pairBind peer dur) s = .next t ∧ t.pair = s.pair ∧ t.kh = s.kh ∧
          (domOn s dHOST = true → t.erq.incoming = s.erq.incoming ++ [{ code := 0x0703, src := 7 }])) ∧
      (dur ≠ 0 ∨ s.kh.run ≠ [] →
        exec (.pairBind peer dur) s = .next { (pairHello s).2 with
          kh.run := s.kh.run ++ [(.pairBind peer (pairHello s).1, dur)] }))) ∧
  (∀ s : State, s.pair.st = .syncing → s.pair.role = false → s.pwr.stage = 5 → (∀ m ∈ s.pair.out, m.use ≠ .data ∧ m.use ≠ .region) →
    ∃ t, exec .pairSyncDone s = .next t ∧ t.pair = { s.pair with st := .paired } ∧ t.hbm = s.hbm) ∧
  (∀ (s s' : State) (mseq arg : Nat) (body : Bytes), pairBound s = true → linkRuns s (mirPort s) = true →
    takeMir true s = .good 1 mseq arg body s' →
    ∃ t, exec .heartbeat s = .next t ∧
      (byteAt body 0 ≠ b2n (!s.pair.role) → t.pair.hbRx = s.pair.hbRx ∧ t.pair.st = s.pair.st) ∧
      (byteAt body 0 = b2n (!s.pair.role) → s.pair.role = true →
        t.pair.hbRx = s.now ∧ t.pair.hbSeen = true ∧
        t.pair.st = (if s.pair.st = .syncing ∧ byteAt body 1 = 3 then .paired
          else if s.pair.st = .paired ∧ byteAt body 1 = 2 ∧ s.pair.peerSt = 3 then .syncing else s.pair.st)) ∧
      (byteAt body 0 = b2n (!s.pair.role) → s.pair.role = false → byteAt body 1 ≠ 5 →
        t.pair.hbRx = s.now ∧ t.pair.hbSeen = true ∧
        t.pair.st = (if s.pair.st = .paired ∧ byteAt body 1 = 2 ∧ s.pair.peerSt = 3 then .syncing else s.pair.st))) ∧
  (∀ s : State, s.pair.hbRx + hbMiss s ≤ s.now →
    (s.pair.st = .paired → s.pair.role = false →
      ∃ t, exec .heartbeatMiss s = .next t ∧ t.pair.st = .solo ∧ t.pair.out = []) ∧
    (s.pair.st = .paired → s.pair.role = true → s.rcv.oos = true → exec .heartbeatMiss s = .next s) ∧
    (s.pair.st = .paired → s.pair.role = true → s.rcv.oos = false → s.fab.epoch.toNat < 2 ^ 64 - 1 →
      ∃ t, exec .heartbeatMiss s = .next t ∧ t.pair.st = .takenOver ∧ t.fab.epoch = s.fab.epoch + 1 ∧
        t.fab.addr = (portOf s (mirrorPort s)).nbrAddr ∧ t.pair.formerAddr = s.fab.addr) ∧
    (s.pair.st = .binding ∨ s.pair.st = .syncing →
      ∃ t, exec .heartbeatMiss s = .next t ∧ t.pair.st = .binding ∧ t.pair.out = [])) ∧
  (∀ (s s' : State) (mseq arg : Nat) (body : Bytes), pairBound s = true → linkRuns s (mirPort s) = true →
    takeMir false s = .good 6 mseq arg body s' →
    ∃ t, exec .unbind s = .next t ∧ t.pair.st = .unbound ∧ t.pair.unbinding = none ∧ (∀ m ∈ t.pair.out, m.use = .once) ∧
      t.kh.pairSecret = none ∧ t.pair.role = decide (pairRole t = 2)) ∧
  (∀ (s : State) (a : Nat), s.pair.unbinding = some a → a + 10000000 ≤ s.now → s.pair.st = .binding →
    ∃ t, exec .unbindTimeout s = .next t ∧ t.pair.st = .unbound ∧ t.pair.unbinding = none) ∧
  (∀ (s : State) (a : Nat), s.pair.unbinding = some a → a + 10000000 ≤ s.now → s.pair.st ≠ .binding →
    ∃ t, exec .unbindTimeout s = .next t ∧ t.pair = { s.pair with
      unbinding := none, rebind := 0, out := s.pair.out.filter (fun m => decide (m.use ≠ .unbind)) })

/-- The messages kept for a resend when another is sent: those sent once only for the Heartbeat Miss time (log 47). -/
def keptOut (s : State) (l : List MirMsg) : List MirMsg :=
  l.filter (fun m => decide (m.use ≠ .once) || decide (s.now ≤ m.sent + hbMiss s))

/-- Mirror messages and checkpoints (10 R275 to R279): a heartbeat goes out on VC-A with the next ALIVE and MSEQ; a partner stores the
bytes, the record or the checkpoint it is sent, where it belongs; an ACK ends its message, or sends it again after BAD; CK_GO
sends the checkpoint record. -/
def MirrorMessagesAct : Prop :=
  (∀ s : State, s.rcv.oos = true → exec .mirrorHeartbeatSend s = .next s) ∧
  (∀ (s : State) (p : Nat), Units.wf s = true → p = mirPort s → p < 8 → pairBound s = true → s.rcv.oos = false →
    s.pair.hbTx + 1000000 ≤ s.now →
    exec .mirrorHeartbeatSend s = .next { s with
      pair.hbTx := s.now, pair.aliveTx := s.pair.aliveTx + 1, pair.mseqTx := (s.pair.mseqTx + 1) % 2 ^ 32,
      pair.out := keptOut s s.pair.out ++ [{
        mseq := s.pair.mseqTx, mtype := 1, arg := 0, use := .once, ref := s.pair.mseqTx, sent := s.now,
        body := leBytes 1 (b2n s.pair.role) ++ leBytes 1 (pairStateNo s.pair.st) ++ leBytes 6 0 ++
          leBytes 8 s.fab.epoch.toNat }],
      port := lset s.port p { portOf s p with
        txA := (portOf s p).txA ++ framesOf true (mirBytes 1 s.pair.aliveTx.toNat s.pair.mseqTx 0
          (leBytes 1 (b2n s.pair.role) ++ leBytes 1 (pairStateNo s.pair.st) ++ leBytes 6 0 ++
            leBytes 8 s.fab.epoch.toNat)) } }) ∧
  (∀ (s s' : State) (m mseq arg : Nat) (body : Bytes), pairBound s = true → linkRuns s (mirPort s) = true →
    domOn s dMEM = true → takeMir false s = .good m mseq arg body s' → holdsCopies s = true →
    (m = 2 → arg + body.length ≤ 0x1800000000 →
      ∃ t, exec .write s = .next t ∧ t.hbm = memWrite 0 s.hbm arg body ∧ t.pair.mseqTx = (s.pair.mseqTx + 1) % 2 ^ 32) ∧
    (m = 3 → arg < 16 →
      ∃ t, exec .region s = .next t ∧ t.hbm = memWrite 0 s.hbm (0x17FF7F0000 + 0x800 * arg) (sliceB body 0 2048) ∧
        (arg ∈ t.pair.mirrored ↔ byteAt body 6 ≠ 0)) ∧
    (m = 4 → arg < 128 →
      ∃ t, exec .ckpt s = .next t ∧ t.hbm = memWrite 0 s.hbm (0x17FF7F8000 + 0x100 * arg) (sliceB body 0 256))) ∧
  (∀ (s s' : State) (mseq arg : Nat) (body : Bytes) (m : MirMsg), pairBound s = true → linkRuns s (mirPort s) = true →
    takeMir true s = .good 5 mseq arg body s' → s.pair.out.find? (fun x => decide (x.mseq = arg % 2 ^ 32)) = some m →
    (arg.testBit 32 = false →
      ∃ t, exec .ack s = .next t ∧
        (m.use = .data ∨ m.use = .region ∨ m.use = .ckpt →
          t.pair.out = s.pair.out.filter (fun x => decide (x.mseq ≠ m.mseq))) ∧
        (m.use = .ckpt → t.pair.ckBusy = false ∧ t.pair.ckDone = true ∧ t.pair.ckCode = 0) ∧
        (m.use = .unbind → t.pair.st = .unbound)) ∧
    (arg.testBit 32 = true → m.bad < 3 →
      ∃ t, exec .ack s = .next t ∧ t.pair.st = s.pair.st ∧
        t.pair.out = keptOut s (s.pair.out.filter (fun x => decide (x.mseq ≠ m.mseq))) ++
          [{ m with mseq := s.pair.mseqTx, bad := m.bad + 1, sent := s.now }]) ∧
    (arg.testBit 32 = true → 3 ≤ m.bad → s.pair.st = .paired → s.pair.role = false →
      ∃ t, exec .ack s = .next t ∧ t.pair.st = .solo)) ∧
  (∀ (s : State) (c : Nat), c = s.pair.ckCtx.toNat → hostReady s = true → s.pair.ckBusy = false → s.pair.role = false →
    s.pair.st = .paired → (ctxOf s c).st = .live →
    (∀ k, k < 8 → s.pair.ckEvv.toNat.testBit k = true → evOwned s c (bitsN s.pair.ckEv.toNat (16 * k) 16) = true) →
    ∃ t, exec .ckGo s = .next t ∧ t.pair.ckBusy = true ∧ tget 0 t.pair.cseq c = tget 0 s.pair.cseq c + 1 ∧
      ∃ body, body.length = 256 ∧ leAt body 64 8 = (ctxOf s c).origin % 2 ^ 64 ∧
        t.pair.out = keptOut s s.pair.out ++
          [{ mseq := s.pair.mseqTx, mtype := 4, arg := c, body := body, use := .ckpt, ref := s.pair.mseqTx, sent := s.now }])

/-- What the pair's commands leave as it was (10). -/
def PairFrame : Prop :=
  ∀ (s t : State) (peer : PairPeer) (dur : Nat),
    (exec .mirrorHeartbeatSend s = .next t ∨ exec .ckGo s = .next t → { t with port := s.port, pair := s.pair } = s) ∧
    (exec .write s = .next t ∨ exec .region s = .next t ∨ exec .ckpt s = .next t →
      { t with port := s.port, pair := s.pair, hbm := s.hbm } = s ∧ t.pair.st = s.pair.st) ∧
    (exec .pairSyncDone s = .next t → { t with port := s.port, pair := s.pair, fab := s.fab } = s) ∧
    (s.pair.st ≠ .binding → exec .unbindTimeout s = .next t →
      { t with pair := s.pair, dict := s.dict, out := s.out, hif.msix := s.hif.msix } = s) ∧
    (exec (.pairBind peer dur) s = .next t ∨ exec .heartbeat s = .next t ∨ exec .ack s = .next t ∨
      exec .unbind s = .next t ∨ exec .heartbeatMiss s = .next t ∨ exec .unbindTimeout s = .next t →
      t.now = s.now ∧ t.id = s.id ∧ t.pwr = s.pwr ∧ t.scrub = s.scrub ∧ t.tele = s.tele ∧ t.cvu = s.cvu ∧ t.rtc = s.rtc ∧
        t.biv = s.biv ∧ t.kh.chassis = s.kh.chassis ∧ t.kh.dbg = s.kh.dbg)

/-- The Keyholder takes a command: SEC is on, and no mailbox command runs (11 R287). -/
def secReady (s : State) : Prop := mcRuns s = true ∧ domOn s dSEC = true ∧ s.kh.busy = false

/-- A mailbox command has ended: BUSY 0, DONE 1, its code, its operands zeroed. -/
def secOk (t : State) (code : BitVec 16) : Prop :=
  t.kh.busy = false ∧ t.kh.done = true ∧ t.kh.code = code ∧ t.kh.key = 0 ∧ t.kh.grant = []

/-- The Keyholder's key commands (11 R287, R288, R300, R301, R306): done at once where they take no time, else held in progress;
refused at L2; the Hold Limit aborts the running one. -/
def KeyCommandsAct : Prop :=
  (∀ (s : State) (slot snum dur : Nat), secReady s → slotBound s slot = false → keyServes s false = true →
    (dur = 0 → s.kh.run = [] →
      ∃ t, exec (.jkInstall slot snum dur) s = .next t ∧ secOk t 0 ∧ t.kh.jobKey = tput {} s.kh.jobKey slot
        { key := some s.kh.key, ctr := snum * 2 ^ 56, sender := snum }) ∧
    (dur ≠ 0 ∨ s.kh.run ≠ [] →
      exec (.jkInstall slot snum dur) s = .next { s with
        kh.busy := true, kh.run := s.kh.run ++ [(.jkInstall slot snum s.kh.key, dur)] })) ∧
  (∀ (s : State) (slot dur : Nat), secReady s → slotBound s slot = false → keyServes s false = true →
    (dur = 0 → s.kh.run = [] →
      ∃ t, exec (.jkErase slot dur) s = .next t ∧ secOk t 0 ∧ t.kh.jobKey = tput {} s.kh.jobKey slot {} ∧
        t.kh.gcmKey = tput none s.kh.gcmKey slot none) ∧
    (dur ≠ 0 ∨ s.kh.run ≠ [] →
      exec (.jkErase slot dur) s = .next { s with kh.busy := true, kh.run := s.kh.run ++ [(.jkErase slot, dur)] })) ∧
  (∀ (s : State) (dur : Nat), secReady s → s.kh.chassis = none → keyServes s false = true →
    (dur = 0 → s.kh.run = [] →
      ∃ t, exec (.chassisSet dur) s = .next t ∧ secOk t 0 ∧ t.kh.chassis = some s.kh.key) ∧
    (dur ≠ 0 ∨ s.kh.run ≠ [] →
      exec (.chassisSet dur) s = .next { s with
        kh.busy := true, kh.run := s.kh.run ++ [(.chassisSet s.kh.key, dur)] })) ∧
  (∀ (s : State) (slot snum dur : Nat), secReady s → s.kh.dbg = 2 →
    ∀ i, i = .jkInstall slot snum dur ∨ i = .jkErase slot dur ∨ i = .chassisSet dur →
      exec i s = .next { s with kh.busy := false, kh.done := true, kh.code := 0x0902, kh.key := 0, kh.grant := [] }) ∧
  (∀ (s : State) (slot snum : Nat) (k : BitVec 256) (ns at0 : Nat) (rest : List (KhCmd × Nat)) (g : Gating),
    s.kh.run = (.jkInstall slot snum k, ns) :: rest → s.pwr.defer = some (g, at0) → at0 + 2000000 ≤ s.now →
    (∀ c ∈ rest, ∃ r x, c.1 = .declare r x) →
    ∃ t, exec .secureHoldLimit s = .next t ∧ t.kh.run = [] ∧ secOk t 0x0901 ∧
      t.kh.jobKey = tput {} s.kh.jobKey slot {} ∧ t.pwr.defer = s.pwr.defer)

/-- Tamper, entropy and the JTAG port (11 R286, R302 to R304, R307 to R309): a tamper event zeroizes and ends in a Cold reset; an
entropy failure withholds random values; an instruction that the level does not permit acts as BYPASS, EXTEST, CLAMP and HIGHZ
zeroize; the trace of L1, and the accesses of L2, which halt and run the MC too; the end of a debug session. -/
def PortsOfTheKeyholderAct : Prop :=
  (∀ (s : State) (cause : Nat), mcRuns s = true →
    ∃ t, exec (.tamperResponse cause) s = .next t ∧ t.kh = {} ∧ t.vb.zeroCause = cause ∧ t.pwr.rstCold = 3 ∧ t.hbm = [] ∧
      t.flash.chassis = s.flash.chassis) ∧
  (∀ s : State, exec .entropyHealthFail s = .next { s with kh.rngOk := false }) ∧
  (∀ (s : State) (op : BitVec 8), s.pwr.main = true → s.kh.extest = false →
    (op = 0x01 ∨ op = 0x02 ∨ op = 0x10 ∨ (op = 0x11 ∧ s.kh.dbg ≠ 0) ∨ (op = 0x12 ∧ s.kh.dbg = 2) →
      exec (.jtagInstruction { op := op }) s = .next { s with kh.jtag := op }) ∧
    (op = 0x11 → s.kh.dbg = 0 → exec (.jtagInstruction { op := op }) s = .next { s with kh.jtag := 0xFF }) ∧
    (Tables.wf s = true → op = 0x03 ∨ op = 0x04 ∨ op = 0x05 → s.kh.jtag ≠ op →
      ∃ t, exec (.jtagInstruction { op := op }) s = .next t ∧ t.kh.jtag = op ∧ t.kh.extest = true ∧ t.kh.ctxKey = [] ∧
        t.vb.zeroCause = 4 ∧ ∀ c, (ctxOf t c).st ≠ .live)) ∧
  (∀ (s u : State) (op : BitVec 8) (l : List DbgAccess) (a : DbgAccess), exec (.jtagInstruction ⟨op, l⟩) s = .next u →
    exec (.jtagInstruction ⟨op, l ++ [a]⟩) s = .next (if mcRuns u && dbgAllowed u a then dbgAccess u a else u)) ∧
  (∀ s : State, mcRuns s = true → s.kh.extest = false → s.kh.jtag = 0x11 → s.kh.dbg ≠ 0 →
    exec (.jtagInstruction ⟨0x11, [.trace]⟩) s = .next { s with out := s.out ++ [.trace (traceNow s)], free := s.free + 1 }) ∧
  (∀ s : State, mcRuns s = true → s.kh.extest = false → s.kh.jtag = 0x12 → s.kh.dbg = 2 →
    (∀ pa n, exec (.jtagInstruction ⟨0x12, [.readHbm pa n]⟩) s = .next { s with
      out := s.out ++ [.tdo (if domOn s dMEM then hbmRead s pa n else List.replicate n 0xFF)] }) ∧
    (∀ pa b, domOn s dMEM = true →
      exec (.jtagInstruction ⟨0x12, [.writeHbm pa b]⟩) s = .next { s with hbm := memWrite 0 s.hbm pa b }) ∧
    (∀ tl off n, s.pwr.cur ≠ .p0 → exec (.jtagInstruction ⟨0x12, [.readTile tl off n]⟩) s = .next { s with
      out := s.out ++ [.tdo (List.replicate n 0xFF)] }) ∧
    (∀ addr b, khAddr .host addr b.length = true →
      exec (.jtagInstruction ⟨0x12, [.writeReg .host addr b]⟩) s = .next s) ∧
    exec (.jtagInstruction ⟨0x12, [.haltMc]⟩) s = .next { s with kh.halted := true } ∧
    exec (.jtagInstruction ⟨0x12, [.runMc]⟩) s = .next { s with kh.halted := false }) ∧
  (∀ s : State, s.pwr.main = true →
    (s.kh.extest = false → s.kh.dbg ≠ 2 → exec .tapReset s = .next { s with kh.jtag := 0x01, kh.halted := false }) ∧
    (s.kh.extest = true → exec .tapReset s = .next (coldReset 5 s)) ∧
    (s.kh.extest = false → s.kh.dbg = 2 → exec .tapReset s = .next (coldReset 4 s)))

/-- What the Keyholder's commands leave as it was: a key command reaches the key stores, and CHASSIS_SET also the wrapped copy in the flash's
settings; a challenge, an L1 grant and a JTAG instruction that does not touch the pins leave every key and every context. -/
def KeyFrame : Prop :=
  ∀ (s t : State) (slot snum dur : Nat) (op : BitVec 8), Tables.wf s = true →
    (s.kh.run = [] → exec (.jkInstall slot snum dur) s = .next t ∨ exec (.jkErase slot dur) s = .next t →
      { t with kh := s.kh } = s ∧ t.kh.ctxKey = s.kh.ctxKey ∧ t.kh.memKey = s.kh.memKey ∧ t.kh.chassis = s.kh.chassis ∧
        t.kh.dbg = s.kh.dbg ∧ ∀ k, k ≠ slot → jobKeyOf t k = jobKeyOf s k) ∧
    (s.kh.run = [] → exec (.chassisSet dur) s = .next t →
      { t with kh := s.kh, flash.chassis := s.flash.chassis } = s ∧ t.kh.ctxKey = s.kh.ctxKey ∧ t.kh.jobKey = s.kh.jobKey) ∧
    (exec (.dbgChallenge false) s = .next t →
      { t with
        kh.nonce := s.kh.nonce, kh.result := s.kh.result, kh.busy := s.kh.busy, kh.done := s.kh.done, kh.code := s.kh.code,
        kh.key := s.kh.key, kh.grant := s.kh.grant, free := s.free } = s) ∧
    (exec .entropyHealthFail s = .next t → { t with kh.rngOk := s.kh.rngOk } = s) ∧
    (s.kh.extest = false → op ≠ 0x03 → op ≠ 0x04 → op ≠ 0x05 → exec (.jtagInstruction { op := op }) s = .next t →
      { t with kh.jtag := s.kh.jtag } = s)

/-- The commands of a check-value channel (12 R313 to R322). -/
def cvuCommand (c : Nat) (i : Instr) : Prop :=
  i = .cvuStart c ∨ i = .cvuFinish c ∨ (∃ v, i = .cvuFold c v) ∨ (∃ v, i = .cvuData8 c v) ∨ (∃ v, i = .cvuData16 c v) ∨
    (∃ v, i = .cvuData32 c v) ∨ (∃ w, i = .cvuPreset c w) ∨ i = .cvuAlvTx c ∨ ∃ a, i = .cvuAlvRx c a

/-- A check-value channel's commands change that channel, what is sent outward and the draws of open bytes; no other channel and no
other state. -/
def CvuFrame : Prop :=
  ∀ (s t : State) (c : Nat) (i : Instr), cvuCommand c i → exec i s = .next t →
    { t with cvu := s.cvu, out := s.out, free := s.free } = s ∧ ∀ j, j ≠ c → cvuOf t j = cvuOf s j

/-- A seal command is executed: the host is ready, no seal command runs, its word is well formed, MEM is on. -/
def sealReady (s : State) (rsv : Nat) : Prop := hostReady s = true ∧ s.sealer.busy = false ∧ rsv = 0 ∧ domOn s dMEM = true

/-- The seal commands leave all but the Seal Engine and the records as they were; a landed row reaches only its slot, the
descriptors and the jobs that wait for it, and the records of the failures they have met (12 R323, R324). -/
def SealFrame : Prop :=
  ∀ (s t : State) (slot rsv n : Nat),
    (exec (.openSlot slot rsv) s = .next t ∨ exec (.sealDiscard slot rsv) s = .next t →
      { t with sealer := s.sealer, erq := s.erq, dict := s.dict, out := s.out } = s) ∧
    (exec (.sealRowLanded n) s = .next t →
      { t with
        sealer := s.sealer, tile := s.tile, obj.q := s.obj.q, erq := s.erq, dict := s.dict, out := s.out } = s ∧
      t.sealer.stage = s.sealer.stage)

/-- A request on the power controller can be accepted: the MC runs, no domain request runs, no transition is pending (13 R331, R335). -/
def pwrIdle (s : State) : Prop := mcRuns s = true ∧ s.pwr.busy = false ∧ s.pwr.moving = false

/-- What the power, pin and background commands leave as it was (13): a domain request or a state's entry reaches the power controller, the
key tables, the links and Ethernet, the quadrants and the records; HBM keeps every byte. -/
def PowerFrame : Prop :=
  ∀ (s t : State) (host : Bool) (w : RegWr) (v : BitVec 3) (k n : Nat) (bad : List (Nat × Nat)) (x : TeleSample)
    (link : HostLink) (q : CfgReq),
    (exec (.pcrDomreq host w) s = .next t ∨ exec (.pcrPstateReq host v) s = .next t ∨ exec .p1Enter s = .next t ∨
      exec (.pciPowerState host) s = .next t ∨ exec .perstDeassert s = .next t ∨
      (s.kh.run = [] ∧ exec .domainRequestResume s = .next t) →
      { t with
        pwr := s.pwr, kh := s.kh, port := s.port, fab := s.fab, eth := s.eth, tile := s.tile, quad := s.quad, mesh := s.mesh,
        erq := s.erq, dict := s.dict, out := s.out, held := s.held, free := s.free } = s ∧
      t.kh.chassis = s.kh.chassis ∧ t.kh.dbg = s.kh.dbg) ∧
    (exec (.dataLinkLayerUp link) s = .next t →
      { t with
        pwr.dllUp := s.pwr.dllUp, pwr.rate := s.pwr.rate, pwr.width := s.pwr.width, pwr.clkLost := s.pwr.clkLost } = s) ∧
    (exec (.configRequest q) s = .next t →
      { t with
        out := s.out, free := s.free, pwr.cxl := s.pwr.cxl, pwr.relaxed := s.pwr.relaxed, hif.bars := s.hif.bars,
        hif.msixEn := s.hif.msixEn, hif.msixMask := s.hif.msixMask, hif.msix := s.hif.msix } = s) ∧
    (exec (.scrubLine k n) s = .next t ∨ exec (.scrubForcedSlot k bad) s = .next t →
      { t with scrub := s.scrub, erq := s.erq, dict := s.dict, out := s.out } = s ∧
        ∀ j, j ≠ k → scrubOf t j = scrubOf s j) ∧
    (exec (.telemetrySample x) s = .next t →
      { t with
        tele := s.tele, port := s.port, eth.port := s.eth.port, dict.stat := s.dict.stat,
        fab.transitDrop := s.fab.transitDrop } = s)

/-- The host-loss sequence, the resets and the boot stages (06 R162, 13 R343 to R347). -/
def ResetCommandsAct : Prop :=
  (∀ (s : State) (cause : Nat), mcRuns s = true → domOn s dHOST = true → s.pwr.stage = 5 → s.hif.loss = .idle →
    ∃ t, exec (.hostLossTrigger cause) s = .next t ∧ t.hif.loss = .draining ∧ t.hif.lossAt = s.now ∧
      t.hif.lossCause = cause ∧ t.hif.lossCore = 1 ∧ t.hif.reqs = []) ∧
  (∀ s : State, Tables.wf s = true → s.hif.loss = .draining → s.hif.lossAt + 1000000 ≤ s.now →
    ∃ t, exec .hostLossDrainEnd s = .next t ∧ t.hif.loss = .sealing ∧ t.sealer.slots = [] ∧ t.sealer.rows = [] ∧
      ∀ x, (tileOf s x).part ≠ .idle → (tileOf t x).part = .stopped ∧ (tileOf t x).win = []) ∧
  (∀ s : State, s.hif.loss = .sealing → s.kh.dbg ≠ 2 →
    ∃ t, exec .bivouacSealDone s = .next t ∧ t.hif.loss = .idle ∧ t.obj = { cookies := s.obj.cookies } ∧ t.tile = [] ∧ t.mesh = [] ∧ t.kh.ctxKey = [] ∧
      t.kh.memKey = [] ∧ t.pwr.stage = 2 ∧ t.pwr.rstCore = BitVec.ofNat 4 s.hif.lossCore ∧ t.erq.time = 0 ∧ t.rtc = s.rtc) ∧
  (∀ (s : State) (cause : Nat), mcRuns s = true →
    ∃ t, exec (.coldReset cause) s = .next t ∧ t.hbm = [] ∧ t.obj = {} ∧ t.tile = [] ∧ t.kh = {} ∧ t.pair = {} ∧ t.fab = {} ∧
      t.pwr.stage = 0 ∧ t.pwr.on = 0 ∧ t.pwr.rstCold = BitVec.ofNat 4 cause ∧ t.pwr.rstCore = 0 ∧ t.rtc = s.rtc ∧ t.vb = s.vb ∧
      t.flash.bank0 = s.flash.bank0 ∧ t.flash.bank1 = s.flash.bank1 ∧ t.flash.revoked = s.flash.revoked ∧
      t.flash.minSvn = s.flash.minSvn ∧ t.flash.chassis = s.flash.chassis) ∧
  (∀ (s : State) (core : Nat), mcRuns s = true → s.pwr.stage = 5 → s.hif.loss = .idle → s.kh.dbg ≠ 2 →
    ∃ t, exec (.deviceCoreReset core) s = .next t ∧ t.hif.loss = .idle ∧ t.obj = { cookies := s.obj.cookies } ∧ t.tile = [] ∧ t.kh.ctxKey = [] ∧
      t.pwr.stage = 2 ∧ t.pwr.rstCore = BitVec.ofNat 4 core ∧ t.erq.time = 0 ∧ t.rtc = s.rtc ∧
      t.flash.bank0 = s.flash.bank0 ∧ t.flash.bank1 = s.flash.bank1) ∧
  (∀ (s : State) (q : Nat), Tables.wf s = true → Units.wf s = true → mcRuns s = true → q < 4 → domOn s (dCQ q) = true →
    ∃ t, exec (.quadrantReset q) s = .next t ∧ (quadOf t q).owner = none ∧ (∀ x, quadOfTile x = q → tileOf t x = {}) ∧
      (∀ x, quadOfTile x ≠ q → tileOf t x = tileOf s x) ∧ ∀ f ∈ t.mesh, quadOfTile f.src ≠ q ∧ quadOfTile f.dst ≠ q)

/-- BOOT_STAGE_COMPLETE (13 R347, R349): step 1 samples the straps, switches HOST on and starts the ROM, step 2 selects an image or
parks, and each later step ends a stage. -/
def BootStagesAdvance : Prop :=
  ∀ s : State, mcRuns s = true → s.pwr.parked = false →
    (s.pwr.stage = 0 → s.pwr.romRuns = false →
      ∃ t, exec .bootStageComplete s = .next t ∧ t.pwr.stage = 0 ∧ t.pwr.romRuns = true ∧ t.pwr.parked = !s.pwr.testN ∧
        t.pwr.strapNode = s.pwr.nodeStrap ∧ t.pwr.strapTest = s.pwr.testN ∧ domOn t dHOST = true) ∧
    (s.pwr.stage = 0 → s.pwr.romRuns = true →
      ∃ t, exec .bootStageComplete s = .next t ∧
        ((t.pwr.stage = 1 ∧ t.pwr.parked = false) ∨
          (t.pwr.stage = 0 ∧ t.pwr.parked = true ∧ t.flash.hiZ = true))) ∧
    (s.pwr.stage = 1 → ∃ t, exec .bootStageComplete s = .next t ∧ t.pwr.stage = 2) ∧
    (s.pwr.stage = 2 → ∃ t, exec .bootStageComplete s = .next t ∧ t.pwr.stage = 3 ∧ domOn t dSEC = true ∧ domOn t dMEM = true ∧
      (s.pwr.warm = false → t.hbm = []) ∧ (s.pwr.warm = true → t.hbm = s.hbm)) ∧
    (s.pwr.stage = 3 → s.pwr.warm = false →
      ∃ t, exec .bootStageComplete s = .next t ∧ t.pwr.stage = 4 ∧ domOn t dLNKA = true ∧ domOn t dLNKB = true ∧ t.hbm = s.hbm) ∧
    (s.pwr.stage = 4 ∨ s.pwr.stage = 3 ∧ s.pwr.warm = true →
      ∃ t, exec .bootStageComplete s = .next t ∧ t.pwr.stage = 5 ∧ t.pwr.warm = false ∧ t.hbm = s.hbm)

/-- Solo Replay's end and limit (14 R366, R370, R371): a lone context that could not be replayed, or whose replay exceeds its limit, is
convicted and aborted; without a conviction the Abseil ends and is counted. -/
def SoloReplayActs : Prop :=
  (∀ s : State, s.rcv.step = 6 → s.rcv.rctx = none → nextReplay s = none → s.rcv.queued = [] →
    (∀ c, notReplayable s = [c] → (ctxOf s c).st = .live →
      ∃ u, exec .soloReplayEnd s = .next u ∧ u.rcv.step = 0 ∧ u.rcv.convictions = s.rcv.convictions + 1 ∧
        u.rcv.noConv = [] ∧ (ctxOf u c).st = .aborted) ∧
    ((notReplayable s).length ≠ 1 → (recentNoConv s).length < 2 →
      ∃ u, exec .soloReplayEnd s = .next u ∧ u.rcv.step = 0 ∧ u.rcv.convictions = s.rcv.convictions ∧
        u.rcv.noConv = s.now :: recentNoConv s ∧ u.obj.ctx = s.obj.ctx)) ∧
  (∀ (s : State) (q : Nat) (x : Suspect), s.rcv.step = 6 → s.rcv.replayAt + param s 0x5015 1000 * 1000000 ≤ s.now →
    replayQueue s = some q → s.rcv.suspects.find? (fun y => decide (y.queue = q)) = some x → s.rcv.queued = [] →
    (ctxOf s x.ctx).st = .live →
    ∃ u, exec .soloReplayLimit s = .next u ∧ u.rcv.step = 0 ∧ u.rcv.convictions = s.rcv.convictions + 1 ∧
      (ctxOf u x.ctx).st = .aborted)

/-- Transaction timeouts, the MC watchdog and the export (14 R357, R369, R376): the transaction of a tag that ran out ends with every tag it
holds; a watchdog that was not kicked is a Cold reset; an export writes its 2,048 pages. -/
def TimeoutsAndExportAct : Prop :=
  (∀ (s : State) (tag : Nat) (g : Tag) (x : Txn), Tables.wf s = true → tget none s.txn.tags tag = some g →
    txnOf s g.txn = some x → param s 0x5011 2000 * 1000 ≤ g.run →
    ∃ t, exec (.linkTransactionTimeout tag) s = .next t ∧ txnOf t g.txn = none ∧
      (∀ k ∈ tagsOf s g.txn, tget none t.txn.tags k = none ∧ tget 0 t.txn.quar k = s.now + 1) ∧ t.hbm = s.hbm) ∧
  (∀ s : State, s.pwr.parked = true ∨ (s.pwr.stage = 0 ∧ s.pwr.romRuns = true) → exec .mcWatchdog s = .next s) ∧
  (∀ s : State, mcRuns s = true → s.pwr.parked = false → s.pwr.stage ≠ 0 ∨ s.pwr.romRuns = false →
    s.pwr.mcAt + s.pwr.mcPeriod.toNat * 1000000 ≤ s.now →
    ∃ t, exec .mcWatchdog s = .next t ∧ t.pwr.rstCold = 6 ∧ t.pwr.stage = 0 ∧ t.hbm = [] ∧ t.rtc.capH = s.rtc.t ∧
      t.vb.mcResets.toNat = min (s.vb.mcResets.toNat + 1) (2 ^ 32 - 1)) ∧
  (∀ s : State, mcAwake s = true → exec (.mcWdogKick 0xC1A5) s = .next { s with pwr.mcAt := s.now }) ∧
  (∀ (s : State) (c : Nat) (m : MemObj), hostReady s = true → s.rcv.exBusy = false → c = s.rcv.exCtx.toNat →
    m = moOf s s.rcv.exObj.toNat →
    (domOn s dMEM = true → (ctxOf s c).st = .live ∨ (ctxOf s c).st = .aborted → m.ctx = c → m.host = true →
      moWritable m = true → 0x800000 ≤ m.size →
      ∃ t, exec .rcvExportGo s = .next t ∧ t.rcv.exBusy = true ∧ t.rcv.exCode = 0 ∧
        t.hif.nextReq = s.hif.nextReq + 2048 ∧ t.hbm = s.hbm) ∧
    ((ctxOf s c).st ≠ .live → (ctxOf s c).st ≠ .aborted →
      exec .rcvExportGo s = .next { s with rcv.exBusy := false, rcv.exDone := true, rcv.exCode := 0x0102 }))

/-- What the recovery commands leave as it was (14): the clock, the flash, the check-value units, the identity and the chassis key always,
and more where less is at stake. -/
def RecoveryFrame : Prop :=
  ∀ (s t : State) (n : Nat) (hr : List Host.Cell) (v : BitVec 16),
    (exec (.mcWdogKick v) s = .next t → { t with pwr.mcAt := s.pwr.mcAt } = s) ∧
    (exec .rcvExportGo s = .next t → { t with rcv := s.rcv, hif := s.hif, out := s.out, free := s.free } = s) ∧
    (exec (.linkTransactionTimeout n) s = .next t →
      { t with
        txn := s.txn, tile := s.tile, erq := s.erq, dict := s.dict, out := s.out, obj.q := s.obj.q, sealer := s.sealer } = s) ∧
    (s.rcv.step = 0 → exec (.tileProgressWatchdog n) s = .next t → { t with rcv := s.rcv } = s) ∧
    (exec (.tileProgressWatchdog n) s = .next t ∨ exec .abseilDrainEnd s = .next t ∨ exec .abseilSampleDone s = .next t ∨
      exec (.abseilResetDone hr) s = .next t ∨ exec .soloReplayEnd s = .next t ∨ exec .soloReplayLimit s = .next t ∨
      exec .abseilAbandon s = .next t ∨ exec (.jobWatchdog n) s = .next t →
      t.rtc = s.rtc ∧ t.flash = s.flash ∧ t.cvu = s.cvu ∧ t.id = s.id ∧ t.now = s.now ∧ t.kh.chassis = s.kh.chassis ∧
        t.kh.dbg = s.kh.dbg ∧ t.scrub = s.scrub ∧ t.tele = s.tele)

/-- A frame to `target` is received by the node: the dictionary is served, the node is on the bus, and the target is its node ID
(15 R387, R388). -/
def busHears (s : State) (target : Nat) : Prop :=
  dictServed s = true ∧ s.dict.onBus = true ∧ s.dict.busOff = false ∧ nodeId s ≠ 0 ∧ target = nodeId s

/-- The state with one more frame counted as received, and the receive error counter one lower, or 127 where it was above (15 R387). -/
def heard (s : State) : State :=
  { s with
    dict.bus := lset s.dict.bus 1 (lget 0 s.dict.bus 1 + 1),
    dict.rxErr := if 127 < s.dict.rxErr then 127 else s.dict.rxErr - 1 }

/-- A WRITE of the field bus as it waits for its response. -/
def busWrite (frame : Bytes) : DictWait :=
  { mbx := false, op := 2, client := byteAt frame 1, index := leAt frame 2 2, sub := byteAt frame 4 }

/-- No request waits (15 R382). -/
def noneWaits (s : State) : Prop := s.dict.wait = none ∧ s.dict.later = []

/-- The first eight bytes of a RESPONSE (15 R390). -/
def responseHead (op client index sub detail status : Nat) : Bytes :=
  leBytes 1 (op + 0x80) ++ leBytes 1 client ++ leBytes 2 index ++ leBytes 1 sub ++ leBytes 1 detail ++ leBytes 2 status

/-- The rows that are one object of the dictionary (10 R262, R263, R269, R284, 11 R312, 13 R335, R343, 14 R374, 15 R386, 17 R431, R432):
what each accepted write or read does. -/
def DictionaryObjectsAct : Prop :=
  ∀ s : State, Tables.wf s = true → dictServed s = true →
    (∀ v : BitVec 8, v.toNat ≤ 3 → exec (.powerStateRequest v) s = exec (.pcrPstateReq false (v.truncate 3)) s) ∧
    (∀ (v : BitVec 8) (p : PState), pwrIdle s → p = pstateOf v.toNat → v.toNat ≤ 3 → p ≠ .p0 → s.pwr.cur = .p0 →
      s.pwr.stage = 5 → s.hif.loss = .idle → lowBlocked p s = false → isGating (stateDoms p s) s = false ∨ holding s = false →
      exec (.powerStateRequest v) s = .next { s with
        pwr.moving := true, pwr.goal := some p, pwr.pcode := 0, pwr.reqAt := s.now }) ∧
    (∀ v : BitVec 64, ∃ t, exec (.fabricEpochWrite v) s = .next t ∧
      t.fab.epoch = (if s.fab.epoch.toNat < v.toNat then v else s.fab.epoch)) ∧
    (∀ v : BitVec 8, autoMode s = false → ∃ t, exec (.deviceAddressWrite v) s = .next t ∧
      t.fab.addr = (if (journalWrite 0x2400 0 (leBytes 1 v.toNat) s).1 = 0 then v else s.fab.addr)) ∧
    (∀ b : Bytes, b.length = 1024 → loadedBad s b = false → ∃ t, exec (.loadedRoutingTable b) s = .next t ∧ t.fab.rtDirty = true ∧
      ∀ d, d < 255 → (tget 0x00FF0FFF t.fab.loaded d).toNat = leAt b (4 * d) 4) ∧
    (∀ v : BitVec 8, v.toNat ≤ 2 → v.toNat ≠ pairRole s →
      (s.pair.st = .unbound → ∃ t, exec (.pairRoleWrite v) s = .next t ∧ t.pair.st = .unbound ∧
        ((journalWrite 0x2420 0 (leBytes 1 v.toNat) s).1 = 0 → t.pair.role = decide (v.toNat = 2) ∧ pairRole t = v.toNat)) ∧
      (s.pair.st = .syncing ∨ s.pair.st = .paired →
        ∃ t, exec (.pairRoleWrite v) s = .next t ∧ t.pair.st = s.pair.st ∧ t.pair.unbinding = some s.now ∧
          t.pair.rebind = v.toNat)) ∧
    exec (.resetRequest 2) s = .next (coldReset 2 s) ∧
    (s.hif.loss = .idle → ∃ t, exec (.resetRequest 1) s = .next t ∧ t.hif.loss = .draining ∧ t.hif.lossCore = 2) ∧
    (∃ t, exec .outOfServiceClear s = .next t ∧ t.rcv = { s.rcv with oos := false, resets := [] }) ∧
    (∀ v : BitVec 8, v.toNat ≤ 3 → v.toNat ≠ bitsAt (imageHeader s s.pwr.bank) 5 0 2 →
      s.flash.revoked ||| BitVec.ofNat 4 (2 ^ v.toNat) ≠ 15 →
      exec (.revokeSigningKey v) s = .next { s with flash.revoked := s.flash.revoked ||| BitVec.ofNat 4 (2 ^ v.toNat) }) ∧
    (∀ k : BitVec 256, keyServes s false = true →
      ∃ t, exec (.chassisKeyWrite k) s = .next t ∧ t.kh = { s.kh with chassis := some k }) ∧
    (s.rtc.locked = false →
      exec .currentTime s = .next { s with out := s.out ++ [.readData (calBytes s.rtc.t)], rtc.capC := s.rtc.t }) ∧
    (s.rtc.locked = true → exec .currentTime s = .next { s with out := s.out ++ [.readData (calBytes s.rtc.capC)] }) ∧
    (∀ b : Bytes, b.length = 10 → timeOk b = true → s.rtc.locked = false →
      ∃ t, exec (.setTime b) s = .next t ∧ t.rtc = { s.rtc with
        setV := BitVec.ofNat 80 (ofLe b), t := calOf b, shift := none, alm0 := almTick (calOf b) s.rtc.alm0,
        alm1 := almTick (calOf b) s.rtc.alm1 }) ∧
    (∀ n : BitVec 32, n ≠ 0 → n.toInt.natAbs ≤ 32767 → s.rtc.locked = false → shiftPend s.rtc = false →
      exec (.subsecondShift n) s = .next { s with rtc.shift := some n.toInt })

/-- Updates and settings (16 R412 to R414, R422): BEGIN starts the erases, data is programmed in order from its offset, ABORT closes,
FINISH closes and gives the verdict of the image when its verification ends, and meanwhile all are refused; a confirmed image is no
longer on trial; defaults restored empty the stored values. -/
def FirmwareObjectsAct : Prop :=
  ∀ s : State, Tables.wf s = true → dictServed s = true →
    (s.pwr.trial = true → ∃ t, exec .confirmImage s = .next t ∧ t.pwr.trial = false ∧ t.flash.trialBoots = 0) ∧
    (s.flash.upd ≠ none →
      exec .updateBegin s = .next s ∧ exec .updateFinish s = .next s ∧ exec .updateAbort s = .next s) ∧
    (s.pwr.trial = false → s.flash.upd = none → s.flash.busy = false → ∃ t, exec .updateBegin s = .next t ∧
      t.flash.updOpen = false ∧ t.flash.updStatus = 1 ∧ t.flash.upd = some (.erasing 385) ∧ t.flash.busy = true ∧
      t.flash.run = some { upd := true, op := 3, bank := otherBank s, addr := 0x2000000, len := 0, data := [] } ∧
      t.flash.bank0 = s.flash.bank0 ∧ t.flash.bank1 = s.flash.bank1) ∧
    (s.pwr.trial = true → s.flash.upd = none → exec .updateBegin s = .next { s with flash.updStatus := 0x0102 }) ∧
    (s.flash.upd = none → ∃ t, exec .updateAbort s = .next t ∧ t.flash.updOpen = false ∧ t.flash.updStatus = 0 ∧
      t.flash.bank0 = s.flash.bank0 ∧ t.flash.bank1 = s.flash.bank1) ∧
    (s.flash.upd = none → ∃ t, exec .updateFinish s = .next t ∧ t.flash.updOpen = false ∧
      (Config.verifyTime s.free ≠ 0 → t.flash.updStatus = 1 ∧ t.flash.upd = some (.verifying (Config.verifyTime s.free))) ∧
      (Config.verifyTime s.free = 0 → t.flash.upd = none ∧
        t.flash.updStatus = (if verifyImage s (otherBank s) then 0 else 0x0904)) ∧
      (verifyImage s (otherBank s) = false → t.flash.bank0 = s.flash.bank0 ∧ t.flash.bank1 = s.flash.bank1)) ∧
    (∀ n, n ≤ 1 → s.flash.upd = some (.verifying n) → (tickUpdate s).flash.upd = none ∧
      (tickUpdate s).flash.updStatus = (if verifyImage s (otherBank s) then 0 else 0x0904)) ∧
    (∀ d : Bytes, d.length = 4096 → s.flash.upd = none → s.flash.updOpen = true → s.flash.updOff.toNat % 4096 = 0 → s.flash.updOff.toNat < 0x1800000 →
      blankB (flashRead s (otherBank s) s.flash.updOff.toNat 4096) = true →
      ∃ t, exec (.updateData d) s = .next t ∧ t.flash.updStatus = 0 ∧ t.flash.updOff = s.flash.updOff + 4096 ∧
        bankOf t (otherBank s) = memWrite 0xFF (bankOf s (otherBank s)) s.flash.updOff.toNat d ∧
        bankOf t (!otherBank s) = bankOf s (!otherBank s)) ∧
    (s.pwr.trial = false → ∃ t, exec .restoreDefaults s = .next t ∧ t.vb.auth = s.vb.auth ∧
      param t 0x5010 50 = (if (restoreJournal s).1 = 0 then 50 else param s 0x5010 50))

/-- Commands that only the field bus carries change the dictionary's own state and the frames sent; a segment that does not end its
write, a frame of another node, and each read of the clock leave the rest (15 R387 to R398, 17 R431, R433). -/
def ManagementFrame : Prop :=
  ∀ (s t : State) (x n : Nat) (f : Bytes),
    (exec (.identify x f) s = .next t ∨ exec .stolegHeartbeatSend s = .next t ∨ exec (.heartbeatReceive n) s = .next t ∨
      exec .busOff s = .next t ∨ exec .busOffRecovery s = .next t ∨ exec .segmentTimeout s = .next t →
      { t with dict := s.dict, out := s.out, free := s.free } = s ∧ t.dict.val = s.dict.val) ∧
    (x ≠ nodeId s → exec (.stolegRead x f) s = .next t ∨ exec (.stolegWrite x f) s = .next t ∨
      exec (.writeSeg x f) s = .next t ∨ exec (.segDown x f) s = .next t ∨ exec (.stolegAbort x f) s = .next t → t = s) ∧
    (exec (.stolegRead x f) s = .next t →
      { t with dict := s.dict, rtc.capC := s.rtc.capC, free := s.free, out := s.out, cvu := s.cvu } = s ∧
      t.dict.val = s.dict.val ∧ ∀ c, c ≠ 2 → cvuOf t c = cvuOf s c) ∧
    (exec (.writeSeg x f) s = .next t ∨ exec (.stolegAbort x f) s = .next t →
      { t with dict := s.dict, out := s.out, cvu := s.cvu } = s ∧ t.dict.val = s.dict.val ∧
        ∀ c, c ≠ 3 → cvuOf t c = cvuOf s c) ∧
    (exec .currentTime s = .next t → { t with rtc.capC := s.rtc.capC, out := s.out } = s) ∧
    (exec .writeChallenge s = .next t → { t with dict.challenge := s.dict.challenge, free := s.free, out := s.out } = s) ∧
    (∀ v, exec (.revokeSigningKey v) s = .next t → { t with flash.revoked := s.flash.revoked } = s) ∧
    (exec .updateFinish s = .next t ∨ exec .updateBegin s = .next t ∨ exec .updateAbort s = .next t →
      { t with flash := s.flash, free := s.free, dict := s.dict, out := s.out } = s ∧
        bankOf t s.pwr.bank = bankOf s s.pwr.bank) ∧
    (∀ b, exec (.setTime b) s = .next t → { t with rtc := s.rtc, flash := s.flash, dict := s.dict, out := s.out } = s) ∧
    (∀ m, exec (.subsecondShift m) s = .next t → { t with rtc.shift := s.rtc.shift } = s)

/-- Resets and the loss of supplies leave the fuses, the flash banks and the identity of the device; the commands of the host-loss
sequence and a Device-Core reset leave the clock and the VBAT domain too (06 R162, 13 R343 to R346, 18 R446, R452, R457). -/
def ResetFrame : Prop :=
  ∀ (s t : State) (c n x : Nat),
    (exec (.hostLossTrigger c) s = .next t ∨ exec .bivouacSealDone s = .next t ∨ exec (.deviceCoreReset c) s = .next t ∨
      exec (.coldReset c) s = .next t ∨ exec (.quadrantReset c) s = .next t →
      t.rtc = s.rtc ∧ t.vb = s.vb ∧ t.id = s.id ∧ t.flash.bank0 = s.flash.bank0 ∧ t.flash.bank1 = s.flash.bank1 ∧
        t.flash.revoked = s.flash.revoked ∧ t.flash.minSvn = s.flash.minSvn) ∧
    (exec .mainPowerFail s = .next t ∨ exec .pwrOkRise s = .next t ∨ exec (.thermalTrip n x) s = .next t ∨
      exec .vbatSupplyApplied s = .next t ∨ exec .vbatSupplyLoss s = .next t →
      t.id = s.id ∧ t.flash.bank0 = s.flash.bank0 ∧ t.flash.bank1 = s.flash.bank1 ∧ t.flash.revoked = s.flash.revoked ∧
        t.flash.minSvn = s.flash.minSvn) ∧
    (exec .vbatSupplyApplied s = .next t ∨ exec .vbatSupplyLoss s = .next t →
      { t with rtc := s.rtc, vb := s.vb, pwr.rstCold := s.pwr.rstCold, pwr.rstCore := s.pwr.rstCore, free := s.free, out := s.out } = s) ∧
    (∀ more errs, exec (.pmbusAlert more errs) s = .next t → { t with tele.pmbErr := s.tele.pmbErr, out := s.out } = s)

/-- The controller runs command `op` on a bank: the address bits that the device's opcodes lack are in its Extended Address Register
(16 R402, R404). -/
def flashStarted (s : State) (op : Nat) (bank : Bool) : State :=
  flashAim bank s.flash.addr.toNat { s with
    flash.busy := true,
    flash.run := some { op := op, bank := bank, addr := s.flash.addr.toNat, len := s.flash.len.toNat,
                        data := s.flash.buf.take s.flash.len.toNat } }

/-- A flash command of 16 R404 is started where the controller is idle, its operands are right and the store does not come from the
bank it changes (R406); while one runs, and while the interfaces are in high impedance (R411), a write of FL_CMD does nothing. -/
def FlashCommandsStart : Prop :=
  (∀ (s : State) (bank : Bool) (src : Nat), mcAwake s = true → s.flash.busy = false → s.flash.hiZ = false →
    1 ≤ s.flash.len.toNat → s.flash.len.toNat ≤ 256 → s.flash.addr.toNat % 256 + s.flash.len.toNat ≤ 256 →
    (src ≠ 2 + (if bank then 1 else 0) → exec (.program bank src) s = .next (flashStarted s 1 bank)) ∧
    exec (.flashRead bank src) s = .next (flashStarted s 4 bank) ∧
    exec (.blankCheck bank src) s = .next (flashStarted s 5 bank)) ∧
  (∀ (s : State) (bank : Bool) (src : Nat), mcAwake s = true → s.flash.busy = false → s.flash.hiZ = false →
    src ≠ 2 + (if bank then 1 else 0) →
    (s.flash.addr.toNat % 4096 = 0 → exec (.erase4K bank src) s = .next (flashStarted s 2 bank)) ∧
    (s.flash.addr.toNat % 65536 = 0 → exec (.erase64K bank src) s = .next (flashStarted s 3 bank))) ∧
  (∀ (s : State) (bank : Bool) (src : Nat), s.flash.hiZ = true ∨ s.flash.busy = true →
    exec (.program bank src) s = .next s ∧ exec (.flashRead bank src) s = .next s ∧ exec (.blankCheck bank src) s = .next s ∧
    exec (.erase4K bank src) s = .next s ∧ exec (.erase64K bank src) s = .next s)

/-- A PROGRAM or an erase fetched from the bank it would change is refused: nothing is stored, CODE is ERR_FLASH_BANK_XIP and the
refusal is counted (16 R406, R408). -/
def FlashRefusesOwnBank : Prop :=
  ∀ (s : State) (bank : Bool), mcAwake s = true → s.flash.busy = false → s.flash.hiZ = false → s.flash.addr.toNat % 65536 = 0 →
    1 ≤ s.flash.len.toNat → s.flash.len.toNat ≤ 256 →
    ∀ c, c = Instr.program bank (2 + (if bank then 1 else 0)) ∨ c = Instr.erase4K bank (2 + (if bank then 1 else 0)) ∨
        c = Instr.erase64K bank (2 + (if bank then 1 else 0)) →
      ∃ t, exec c s = .next t ∧ t.flash.bank0 = s.flash.bank0 ∧ t.flash.bank1 = s.flash.bank1 ∧ t.flash.busy = false ∧
        t.flash.done = true ∧ t.flash.code = 0x0B02 ∧ t.flash.run = none ∧
        t.flash.refused = BitVec.ofNat 32 (min (s.flash.refused.toNat + 1) (2 ^ 32 - 1))

/-- A flash command ends (16 R404, R405): what its array operation stored, read or found; after an erase of an update the next one
starts, or the update is open (R412, R413). -/
def FlashCommandEnds : Prop :=
  (∀ (s : State) (r : FlashRun) (n : Nat), s.flash.run = some r → r.upd = true → r.op = 3 → s.flash.upd = some (.erasing n) →
    (n = 1 → ∃ t, exec (.flashCommandDone true) s = .next t ∧ t.flash.upd = none ∧ t.flash.updOpen = true ∧
      t.flash.updOff = 0 ∧ t.flash.updStatus = 0 ∧ t.flash.busy = false ∧
      bankOf t r.bank = memClear (bankOf s r.bank) r.addr 65536) ∧
    (2 ≤ n → ∃ t, exec (.flashCommandDone true) s = .next t ∧ t.flash.upd = some (.erasing (n - 1)) ∧ t.flash.busy = true ∧
      t.flash.run = some { upd := true, op := 3, bank := otherBank s, addr := updBlock (n - 1), len := 0, data := [] } ∧
      bankOf t r.bank = memClear (bankOf s r.bank) r.addr 65536)) ∧
  ∀ (s : State) (r : FlashRun), s.flash.run = some r → r.upd = false → (∀ n, s.flash.upd ≠ some (.erasing n)) →
    (r.op = 1 → blankB (flashRead s r.bank r.addr r.data.length) = true →
      ∃ t, exec (.flashCommandDone true) s = .next t ∧ bankOf t r.bank = memWrite 0xFF (bankOf s r.bank) r.addr r.data ∧
        bankOf t (!r.bank) = bankOf s (!r.bank) ∧ t.flash.busy = false ∧ t.flash.done = true ∧ t.flash.code = 0) ∧
    (r.op = 1 → blankB (flashRead s r.bank r.addr r.data.length) = false → ∀ good,
      ∃ t, exec (.flashCommandDone good) s = .next t ∧ t.flash.bank0 = s.flash.bank0 ∧ t.flash.bank1 = s.flash.bank1 ∧
        t.flash.busy = false ∧ t.flash.done = true ∧ t.flash.code = 0x0B01) ∧
    (r.op = 2 ∨ r.op = 3 → ∀ good,
      ∃ t, exec (.flashCommandDone good) s = .next t ∧
        bankOf t r.bank = memClear (bankOf s r.bank) r.addr (if r.op = 2 then 4096 else 65536) ∧
        bankOf t (!r.bank) = bankOf s (!r.bank) ∧ t.flash.busy = false ∧ t.flash.done = true ∧ t.flash.code = 0) ∧
    (r.op = 4 → ∀ good,
      ∃ t, exec (.flashCommandDone good) s = .next t ∧ t.flash.bank0 = s.flash.bank0 ∧ t.flash.bank1 = s.flash.bank1 ∧
        t.flash.buf = putB s.flash.buf 0 (flashRead s r.bank r.addr r.len) ∧ t.flash.busy = false ∧ t.flash.done = true ∧
        t.flash.code = 0) ∧
    (r.op = 5 → ∀ good,
      ∃ t, exec (.flashCommandDone good) s = .next t ∧ t.flash.bank0 = s.flash.bank0 ∧ t.flash.bank1 = s.flash.bank1 ∧
        t.flash.blank = blankB (flashRead s r.bank r.addr r.len) ∧ t.flash.busy = false ∧ t.flash.done = true ∧ t.flash.code = 0)

/-- The flash commands change the flash, what a refusal records (05 R136), the draws of open bytes, and nothing else. -/
def FlashFrame : Prop :=
  ∀ s t : State,
    ((∃ b x, exec (.program b x) s = .next t) ∨ (∃ b x, exec (.erase4K b x) s = .next t) ∨
      (∃ b x, exec (.erase64K b x) s = .next t) ∨ (∃ b x, exec (.flashRead b x) s = .next t) ∨
      (∃ b x, exec (.blankCheck b x) s = .next t) ∨ (∃ g, exec (.flashCommandDone g) s = .next t)) →
    { t with flash := s.flash, erq := s.erq, dict := s.dict, out := s.out, free := s.free } = s

/-- The RTC commands and a crystal tick change the clock, RTC_ALARM_N and nothing else (17). -/
def RtcFrame : Prop :=
  ∀ s t : State,
    (exec .capture s = .next t ∨ exec .rtcSet s = .next t ∨ (∃ n, exec (.shift n) s = .next t) ∨
      exec .rtcTick s = .next t ∨ exec .rtcUnlock s = .next t) →
    { t with rtc := s.rtc, out := s.out } = s

/-- CAPTURE, SET and SHIFT are accepted where the RTC is not locked, none is waiting and their value is valid (17 R430 to R433); the
next crystal tick applies the one accepted (R431, R432) and advances the prescaler and, with no command, carry or trim, SUB by 1
(R425). -/
def RtcCommandsAct : Prop :=
  (∀ s : State, mcAwake s = true → s.rtc.locked = false → s.rtc.cmd = none →
    exec .capture s = .next { s with rtc := { s.rtc with cmd := some (1, 0) } }) ∧
  (∀ s : State, mcAwake s = true → s.rtc.locked = false → s.rtc.cmd = none → timeOk (leBytes 10 s.rtc.setV.toNat) = true →
    exec .rtcSet s = .next { s with rtc := { s.rtc with cmd := some (2, 0) } }) ∧
  (∀ (s : State) (n : BitVec 16), mcAwake s = true → s.rtc.locked = false → s.rtc.cmd = none → s.rtc.shift = none →
    n ≠ 0 → n ≠ 0x8000 →
    exec (.shift n) s = .next { s with rtc := { s.rtc with cmd := some (3, n.toInt) } }) ∧
  (∀ s : State, (s.pwr.main || s.rtc.vbat) = true →
    ∃ t, exec .rtcTick s = .next t ∧ t.rtc.prescale = s.rtc.prescale + 1 ∧ t.rtc.cmd = none ∧
      (∀ n, s.rtc.cmd = some (1, n) → t.rtc.capC = t.rtc.t) ∧
      (∀ n, s.rtc.cmd = some (2, n) → t.rtc.t = calOf (leBytes 10 s.rtc.setV.toNat) ∧ t.rtc.shift = none) ∧
      (s.rtc.cmd = none → s.rtc.prescale ≠ 0 → s.rtc.trimNow = 0 → s.rtc.t.sub.toNat < 32767 →
        t.rtc.t = { s.rtc.t with sub := s.rtc.t.sub + 1 } ∧ t.rtc.wday = s.rtc.wday)) ∧
  (∀ s : State, s.rtc.locked = true → s.pwr.main = true → s.pwr.okAt + 2000000 ≤ s.now →
    exec .rtcUnlock s = .next { s with rtc := { s.rtc with locked := false } })

/-- The supplies and the board (18, 17 R429, R436): what each event does where its condition holds. -/
def SupplyEventsAct : Prop :=
  (∀ s : State, s.pwr.main = true →
    ∃ t, exec .mainPowerFail s = .next t ∧ t.pwr.main = false ∧ t.pwr.pwrOk = false ∧ t.hbm = [] ∧ t.kh = {} ∧
      t.flash.bank0 = s.flash.bank0 ∧ t.flash.bank1 = s.flash.bank1 ∧ Out.canStby true ∈ t.out ∧
      (s.rtc.vbat = true → t.rtc = { s.rtc with locked := true, failCap := true, onVbat := true, cmd := none } ∧ t.vb = s.vb)) ∧
  (∀ s : State, s.pwr.main = false →
    exec .pwrOkRise s = .next { s with
      pwr.main := true, pwr.pwrOk := true, pwr.okAt := s.now, pwr.held := true, rtc.onVbat := false,
      out := s.out ++ [.canStby (decide (param s 0x1028 1 = 0))] }) ∧
  (∀ s : State, s.pwr.main = true → s.pwr.trip = false → s.pwr.held = true → s.pwr.okAt + 2000000 ≤ s.now →
    ∃ t, exec .pwrOkRise s = .next t ∧ t.pwr.held = false ∧ t.pwr.rstCold = 1 ∧ t.pwr.rstCore = 0 ∧ t.pwr.stage = 0 ∧
      t.pwr.on = 0 ∧ t.hbm = [] ∧ t.rtc = s.rtc ∧ t.flash.bank0 = s.flash.bank0) ∧
  (∀ (s : State) (n x : Nat), mcRuns s = true → 1 ≤ n → n ≤ 20 → (if n ≤ 16 then 1100 else 1050) ≤ x →
    ∃ t, exec (.thermalTrip n x) s = .next t ∧ t.pwr.trip = true ∧ t.vb.tripSensor = some (n, x) ∧
      t.vb.tripTime = calBytes s.rtc.t ∧ t.rtc.capH = s.rtc.t ∧ t.rtc.capCause = 1 ∧ t.kh.chassis = none ∧ t.kh.ret = none) ∧
  (∀ (s : State) (more : List Nat) (errs : Nat), dictServed s = true →
    exec (.pmbusAlert more errs) s = .next { s with
      out := s.out ++ ((List.range 14).filter (fun k => [1, 2, 4, 5, 8].contains k || more.contains k)).map .pmbus,
      tele.pmbErr := BitVec.ofNat 32 (min (s.tele.pmbErr.toNat + errs) (2 ^ 32 - 1)) }) ∧
  (∀ s : State, s.rtc.vbat = false → s.pwr.main = true →
    exec .vbatSupplyApplied s = .next { s with rtc.vbat := true }) ∧
  (∀ s : State, s.pwr.main = true →
    exec .vbatSupplyLoss s = .next { s with rtc.vbat := false })

/-- HBM address `a` is among the bytes that a store of `n` bytes at offset `off` of object `m` rewrites: the bytes themselves, and for a
class U object every byte of the 64-byte lines they lie in, which are encrypted whole (11 R293). -/
abbrev storeCovers (m : MemObj) (off n a : Nat) : Prop :=
  if m.cls = 0 then (m.pa + off) / 64 ≤ a / 64 ∧ a / 64 ≤ (m.pa + off + n - 1) / 64 else m.pa + off ≤ a ∧ a < m.pa + off + n

/-- HBM address `a` is rewritten by a store of `n` bytes at the address `va` of context `c` (05 R118). -/
abbrev vaCovers (s : State) (c va n a : Nat) : Prop :=
  ∃ p ∈ (translate s c va n).1, p.mo.host = false ∧ storeCovers p.mo p.off p.len a

/-- Limb `k` of the number N of a lane image (09 R242). -/
def limbOf (b : Bytes) (k : Nat) : Nat := leAt b (4 * k) 4

/-- What an absent limb stands for (09 R242). -/
def fillOf (sign : Bool) : Nat := if sign then 0xFFFFFFFF else 0

/-- Bit 255 of the N of a lane image. -/
def imageSign (b : Bytes) : Bool := (ofLe (b.take 32)).testBit 255

/-- The exponent field of an FP16 value. -/
def expOf (v : Nat) : Nat := v / 1024 % 32

/-- The magnitude of a finite FP16 value, in units of 2^−24. -/
def magOf (v : Nat) : Nat := if expOf v = 0 then v % 1024 else (1024 + v % 1024) * 2 ^ (expOf v - 1)

/-- The largest exponent field of a block, at least 1. -/
def blockExp (x : List Nat) : Nat := (x.map expOf).foldl max 1

/-- The clock runs (18 R452). -/
def clockRuns (s : State) : Prop := (s.pwr.main || s.rtc.vbat) = true

/-- The next tick carries into SEC: no command waits, no shift is pending, no trim acts, SUB is at its end (17 R425). -/
def carryDue (s : State) : Prop :=
  clockRuns s ∧ s.rtc.cmd = none ∧ s.rtc.shift = none ∧ s.rtc.trimNow = 0 ∧ s.rtc.prescale ≠ 0 ∧ s.rtc.t.sub = 32767

end Sys2Proof.Claims

open Sys2Proof.Claims

/-- A step runs the command at the front of the queue on the state with the rest of the queue (00; log 1). Rests on the model's
choice: log 1: the queue is the model's. -/
def Obligations.StepRunsFrontCommand : Prop :=
  ∀ (s : State) (c : Instr) (rest : List Instr), s.pending = c :: rest → step s = exec c { s with pending := rest }

/-- With no command waiting a step lets 1 ns pass: the clocks and timers that run advance, TIME among them while HOST is on and its
reference clock runs (the model's choice, log 1; the manual gives no tick of its own). Rests on the model's choice: log 1, a DESIGN
CHOICE; the lost clock is log 72. -/
def Obligations.EmptyQueueTicks : Prop :=
  ∀ s : State, s.pending = [] → s.kh.run = [] → s.dict.later = [] → s.dict.keyed = none → s.pwr.held = false →
    (∀ n, s.flash.upd ≠ some (.verifying n)) →
    ∃ t, step s = .next t ∧ t.now = s.now + 1 ∧ t.pending = [] ∧ t.out = s.out ∧ t.hbm = s.hbm ∧ t.flash = s.flash ∧
      t.rtc = s.rtc ∧ t.kh = s.kh ∧ t.port = s.port ∧ t.obj.ctx = s.obj.ctx ∧ t.obj.mo = s.obj.mo ∧
      (domOn s dHOST = true → s.pwr.clkLost.getLsbD 0 = false → t.erq.time = s.erq.time + 1) ∧
      (domOn s dHOST = false ∨ s.pwr.clkLost.getLsbD 0 = true → t.erq.time = s.erq.time)

/-- The state after reset, as the register tables and 13 R346, R347 give it: no domain on, nothing created, no key, no memory
written, no command waiting, and the registers at their reset values (05, 07 to 13). Values that the manual does not give are
those of log 5 and are not stated here, but for the stepping, the BARs and the MSI-X enable, which rest on the model's choice:
logs 4, 67 and 70. -/
def Obligations.ResetState : Prop :=
  State.reset.pending = [] ∧ State.reset.pwr.on = 0 ∧ State.reset.pwr.stage = 0 ∧ State.reset.obj = {} ∧ State.reset.tile = [] ∧
  State.reset.quad = [{}, {}, {}, {}] ∧ State.reset.kh.ctxKey = [] ∧ State.reset.kh.jobKey = [] ∧ State.reset.kh.chassis = none ∧
  State.reset.kh.rngOk = true ∧ State.reset.kh.dbg = 0 ∧ State.reset.erq.en = false ∧ State.reset.erq.phase = true ∧
  State.reset.erq.tail = 0 ∧ State.reset.erq.head = 0 ∧ State.reset.erq.drops = 0 ∧ State.reset.erq.time = 0 ∧
  State.reset.fab.addr = 0xFF ∧ State.reset.fab.epoch = 0 ∧ State.reset.txn.ntx.ctl = 0xFF000000 ∧ State.reset.txn.ntx.va = 0 ∧
  State.reset.pair.st = .unbound ∧ State.reset.rcv.oos = false ∧ State.reset.rcv.aseq = 0 ∧ State.reset.biv.sel = 0 ∧
  (∀ p, p < 8 → nlkCtrl (portOf State.reset p) = 0x889 ∧ nlkFlow (portOf State.reset p) = 0x00800100 ∧
    (portOf State.reset p).crcErr = 0 ∧ (portOf State.reset p).nbrAddr = 0xFF) ∧
  State.reset.pwr.romRuns = false ∧ State.reset.pwr.clkLost = 0 ∧ State.reset.kh.halted = false ∧ State.reset.flash.hiZ = false ∧
  State.reset.hif.bars = [0, 0, 0] ∧ State.reset.hif.msixEn = false ∧ State.reset.id.stepping = 1 ∧
  (∀ p, p < 2 → (ethOf State.reset p).pfcPrio = 3 ∧ (ethOf State.reset p).pfcEn = false ∧ (ethOf State.reset p).smac = 0) ∧
  (∀ c, c < 4 → (cvuOf State.reset c).params = (cvuOf State.reset 0).params ∧ (cvuOf State.reset c).opened = false ∧
    (cvuOf State.reset c).preset = 1 ∧ (cvuOf State.reset c).width = 32 ∧ (cvuOf State.reset c).poly = 0x1EDC6F41 ∧
    (cvuOf State.reset c).init = 0xFFFFFFFF ∧ (cvuOf State.reset c).xorout = 0xFFFFFFFF)

/-- After reset every table is in canonical form and every list of units has its length. The tables' form is the model's. -/
def Obligations.ResetTablesWf : Prop := Tables.wf State.reset = true ∧ Units.wf State.reset = true

/-- Every step keeps every table in canonical form and every list of units at its length: memory, scratchpads, EXA files, object
tables, tags, keys and settings are equal as data where they are equal as contents. The tables' form is the model's. -/
def Obligations.StepKeepsTables : Prop :=
  ∀ s t : State, Tables.wf s = true → Units.wf s = true → step s = .next t → Tables.wf t = true ∧ Units.wf t = true

/-- No step clears a fuse or changes what is fixed at manufacture: a revoked signing key stays revoked, the minimum SVN never
falls, and the device's identity stays (11 R312, 00). -/
def Obligations.FusesNeverClear : Prop :=
  ∀ s t : State, step s = .next t →
    s.flash.revoked &&& t.flash.revoked = s.flash.revoked ∧ s.flash.minSvn.toNat ≤ t.flash.minSvn.toNat ∧ t.id = s.id

/-- No command's own effect touches the queue of waiting commands: a step that goes on removes exactly the command it ran (log 1).
Rests on the model's choice: log 1. -/
def Obligations.CommandsLeaveTheQueue : Prop :=
  (∀ (i : Instr) (s t : State), exec i s = .next t → t.pending = s.pending) ∧
  (∀ (s t : State) (c : Instr) (rest : List Instr), s.pending = c :: rest → step s = .next t → t.pending = rest)

/-- Accesses of the registers (00 R10, R13, R14; 01 R18, R19; 16 R403, R407): a write inside one register writes it; one that meets
the next register too writes each of the two or not, as draws have it; a write while the block is off is dropped; a read answers the
register's bytes and clears them where the register is RC; a read while the block is off answers ones; the MC's read of an XIP window
answers the bank's bytes, or waits while the bank is busy. Reads and writes of registers change what the register holds and, for a
read, the answer given: a read of a block that is off, a write of the MSI-X table, and a read that meets no RC register leave the
rest. Rests on the model's choice: logs 62 and 70. -/
def Obligations.RegisterAccesses : Prop := Claims.RegisterAccessesAct ∧ Claims.RegisterFrame

/-- The sequencer and the mesh (03 R65 to R68, R83, R87 to R91, 05 R130): admission, issue, HALT, events, tokens and credits. -/
def Obligations.TileSequencerActs : Prop :=
  (∀ (s : State) (t n : Nat), admits s t = true → freeSlot (tileOf s t) = some n → (tileOf s t).fetchBad = none →
    (tileOf s t).fetch ≤ 0x3FEFC0 → decodeOk (tileOf s t) (spRead s t (tileOf s t).fetch 64) = true →
    ∃ u, exec (.descriptorAdmit t) s = .next u ∧ (tileOf u t).fetch = (tileOf s t).fetch + 64 ∧
      slotOf u t n = { st := .waiting, off := (tileOf s t).fetch, desc := spRead s t (tileOf s t).fetch 64,
                       order := (tileOf s t).orderNext } ∧
      (tileOf u t).orderNext = (tileOf s t).orderNext + 1 ∧
      (tileOf u t).halted = decide (bitsAt (spRead s t (tileOf s t).fetch 64) 0 0 4 = 15)) ∧
  (∀ (s : State) (t n : Nat), (tileOf s t).part = .running → canIssue (tileOf s t) (slotOf s t n) = true →
    ∃ u, exec (.descriptorIssue t n) s = .next u ∧ (slotOf u t n).st = .executing ∧
      (slotOf u t n).desc = (slotOf s t n).desc ∧
      (∀ c, tileOwner s t = some c → bitsAt (slotOf s t n).desc 0 0 4 = 8 →
        (slotOf u t n).hit = (if evOwned s c (bitsAt (slotOf s t n).desc 16 0 14) = false then some 0x0103
          else if leAt (slotOf s t n).desc 24 8 ≤ (evOf s (bitsAt (slotOf s t n).desc 16 0 14)).cnt.toNat then some 0 else none)) ∧
      (∀ c, tileOwner s t = some c → bitsAt (slotOf s t n).desc 0 0 4 = 15 → bitsAt (slotOf s t n).desc 16 0 1 = 1 →
        evOwned s c (leAt (slotOf s t n).desc 18 2) = true →
        (slotOf u t n).chain = some (evOf s (leAt (slotOf s t n).desc 18 2)).cnt.toNat) ∧
      (∀ c, lget 0 (tileOf u t).tok c = lget 0 (tileOf s t).tok c - waitCount (slotOf s t n).desc c) ∧
      (∀ c, waitCount (slotOf s t n).desc c ≠ 0 →
        ∃ f ∈ u.mesh, f.credit = true ∧ f.src = t ∧ f.dst = bitsN (lget 0 (tileOf s t).inb c) 0 7 ∧
          f.chan = bitsN (lget 0 (tileOf s t).inb c) 7 5 ∧ f.count = waitCount (slotOf s t n).desc c)) ∧
  (∀ (s : State) (t n : Nat), Tables.wf s = true → executes s t n 15 = true → bitsAt (slotOf s t n).desc 16 0 1 = 0 →
    (slotOf s t n).waits = [] → (slotOf s t n).txns = [] → (slotOf s t n).exaFail = none →
    ∃ u, exec (.halt t n) s = .next u ∧
      (sigsOf (slotOf s t n) = [] → (tileOf u t).part = .ended ∧ slotOf u t n = {}) ∧
      (sigsOf (slotOf s t n) ≠ [] → (tileOf u t).part = .running ∧ (slotOf u t n).st = .signalling ∧
        (slotOf u t n).sigs = sigsOf (slotOf s t n))) ∧
  (∀ (s : State) (t n v : Nat), executes s t n 15 = true → bitsAt (slotOf s t n).desc 16 0 1 = 1 →
    (slotOf s t n).chain = some v →
    ∃ u, exec (.halt t n) s = .next u ∧ (tileOf u t).halted = false ∧ (tileOf u t).fetch = (listOf s t (v % 4)).1 ∧
      (tileOf u t).fetchBad = (listOf s t (v % 4)).2) ∧
  (∀ (s : State) (t n : Nat), Tables.wf s = true → executes s t n 8 = true →
    ((slotOf s t n).hit = none → exec (.waitEvent t n) s = .next s) ∧
    ((slotOf s t n).hit = some 0 → (slotOf s t n).waits = [] → (slotOf s t n).txns = [] → (slotOf s t n).exaFail = none →
      ∃ u, exec (.waitEvent t n) s = .next u ∧ u.obj = s.obj ∧
        (sigsOf (slotOf s t n) = [] → slotOf u t n = {}) ∧
        (sigsOf (slotOf s t n) ≠ [] → (slotOf u t n).st = .signalling ∧ (slotOf u t n).sigs = sigsOf (slotOf s t n))) ∧
    ((slotOf s t n).hit = some 0x0103 → (slotOf s t n).status = 0 → domOn s dHOST = true →
      ∃ u e, exec (.waitEvent t n) s = .next u ∧ u.erq.incoming = s.erq.incoming ++ [e] ∧ e.code = 0x0103 ∧ e.unit = t)) ∧
  (∀ (s : State) (t n c : Nat), executes s t n 9 = true → tileOwner s t = some c →
    evOwned s c (bitsAt (slotOf s t n).desc 16 0 14) = true →
    ∃ u, exec (.signalEvent t n) s = .next u ∧ (evOf u (bitsAt (slotOf s t n).desc 16 0 14)).cnt.toNat =
      min ((evOf s (bitsAt (slotOf s t n).desc 16 0 14)).cnt.toNat + leAt (slotOf s t n).desc 24 8) (2 ^ 64 - 1)) ∧
  (∀ (s : State) (t n k : Nat), (slotOf s t n).st = .signalling → k ∈ (slotOf s t n).sigs → (tileOf s t).part = .running →
    olderSignal (tileOf s t) (slotOf s t n) k = false →
    sigCount (slotOf s t n).desc k ≤ lget 0 (tileOf s t).cred (sigEntry (slotOf s t n).desc k) →
    tileOwner s (bitsN (lget 0 (tileOf s t).outb (sigEntry (slotOf s t n).desc k)) 0 7) = tileOwner s t →
    ∃ u, exec (.descriptorSignalSend t n k) s = .next u ∧
      u.mesh = s.mesh ++ [{
        credit := false, src := t, entry := sigEntry (slotOf s t n).desc k,
        dst := bitsN (lget 0 (tileOf s t).outb (sigEntry (slotOf s t n).desc k)) 0 7,
        chan := bitsN (lget 0 (tileOf s t).outb (sigEntry (slotOf s t n).desc k)) 7 5,
        count := sigCount (slotOf s t n).desc k, ctx := (tileOwner s t).getD 0 }] ∧
      (tileOf u t).cred = lset (tileOf s t).cred (sigEntry (slotOf s t n).desc k)
        (lget 0 (tileOf s t).cred (sigEntry (slotOf s t n).desc k) - sigCount (slotOf s t n).desc k)) ∧
  (∀ (s : State) (i : Nat) (f : Flit), s.mesh[i]? = some f → earlierFlit s i f = false → underAbseil s f.dst = false →
    (f.credit = false → (lget 0 (tileOf s f.dst).inb f.chan).testBit 31 = true →
      bitsN (lget 0 (tileOf s f.dst).inb f.chan) 0 7 = f.src → bitsN (lget 0 (tileOf s f.dst).inb f.chan) 7 5 = f.entry →
      ∃ u, exec (.tokenArrival i) s = .next u ∧ u.mesh = ldel s.mesh i ∧
        (tileOf u f.dst).tok = lset (tileOf s f.dst).tok f.chan
          (lget 0 (tileOf s f.dst).tok f.chan + min f.count (15 - lget 0 (tileOf s f.dst).tok f.chan))) ∧
    (f.credit = true → (lget 0 (tileOf s f.dst).outb f.chan).testBit 31 = true →
      ∃ u, exec (.creditReturn i) s = .next u ∧ u.mesh = ldel s.mesh i ∧
        (tileOf u f.dst).cred = lset (tileOf s f.dst).cred f.chan (min 15 (lget 0 (tileOf s f.dst).cred f.chan + f.count))))

/-- The matrix, readout, vector and move engines (03 R72 to R78, 02 R36 to R51): what each leaves in the lanes, the scratchpad and
HBM. Rests on the model's choice: logs 6, 15, 16. -/
def Obligations.TileEnginesAct : Prop :=
  (∀ (s : State) (t n : Nat), Tables.wf s = true → executes s t n 1 = true → (matmulOf (slotOf s t n).desc).n ≤ 64 →
    ∃ u, exec (.matmul t n) s = .next u ∧ (tileOf u t).mem = (tileOf s t).mem ∧
      ∀ x ∈ matmulImages s t (matmulOf (slotOf s t n).desc),
        laneOf u t x.1 =
          (addLane (if (matmulOf (slotOf s t n).desc).clear then Lane.clear else laneOf s t x.1) x.2).open
            (archiveTile s t) s.free x.1) ∧
  (∀ (s : State) (t n : Nat), Tables.wf s = true → executes s t n 2 = true →
    ∃ u, exec (.exaRead t n) s = .next u ∧
      (tileOf u t).mem = (readElems (slotOf s t n).desc).foldl
        (fun m x => memWrite 0 m x.1 (readBytes s t (slotOf s t n).desc x.2)) (tileOf s t).mem ∧
      (bitsAt (slotOf s t n).desc 25 4 1 = 1 → ∀ x ∈ readElems (slotOf s t n).desc, laneOf u t x.2 = Lane.clear) ∧
      (bitsAt (slotOf s t n).desc 25 4 1 = 0 → (tileOf u t).exa = (tileOf s t).exa)) ∧
  (∀ (s : State) (t n : Nat), executes s t n 3 = true →
    ∃ u, exec (.vec t n) s = .next u ∧ (tileOf u t).exa = (tileOf s t).exa ∧
      (tileOf u t).mem = memWrite 0 (tileOf s t).mem (vecDst (slotOf s t n).desc) (vecBytes s t (slotOf s t n).desc)) ∧
  (∀ (s : State) (t n c : Nat) (hr : List Host.Cell), executes s t n 4 = true → tileOwner s t = some c →
    bitsAt (slotOf s t n).desc 16 0 2 = 1 →
    (∀ r, r < moveRows (slotOf s t n).desc →
      rowFault s c (moveRemote (slotOf s t n).desc r) (moveLen (slotOf s t n).desc) false = none) →
    ∃ u, exec (.move t n hr) s = .next u ∧ u.hbm = s.hbm ∧
      (tileOf u t).mem = (List.range (moveRows (slotOf s t n).desc)).foldl
        (fun m r => memWrite 0 m (moveLocal (slotOf s t n).desc r)
          (vaRead s hr c (moveRemote (slotOf s t n).desc r) (moveLen (slotOf s t n).desc)).1) (tileOf s t).mem) ∧
  (∀ (s : State) (t n c : Nat) (hr : List Host.Cell), executes s t n 4 = true → tileOwner s t = some c →
    bitsAt (slotOf s t n).desc 16 0 2 = 0 →
    (∀ r, r < moveRows (slotOf s t n).desc →
      rowFault s c (moveRemote (slotOf s t n).desc r) (moveLen (slotOf s t n).desc) true = none) →
    ∃ u, exec (.move t n hr) s = .next u ∧ (tileOf u t).mem = (tileOf s t).mem ∧
      u.hbm = ((List.range (moveRows (slotOf s t n).desc)).foldl
        (fun w r => (vaWrite (.desc t n (slotOf s t n).order) c (moveRemote (slotOf s t n).desc r)
          (spRead s t (moveLocal (slotOf s t n).desc r) (moveLen (slotOf s t n).desc)) w).st) s).hbm) ∧
  (∀ (s : State) (t n c : Nat) (hr : List Host.Cell), Tables.wf s = true → executes s t n 4 = true → tileOwner s t = some c →
    bitsAt (slotOf s t n).desc 16 0 2 = 2 → tileOwner s (byteAt (slotOf s t n).desc 17) = some c →
    underAbseil s (byteAt (slotOf s t n).desc 17) = false →
    ∃ u, exec (.move t n hr) s = .next u ∧ u.hbm = s.hbm ∧
      (byteAt (slotOf s t n).desc 17 ≠ t →
        (tileOf u (byteAt (slotOf s t n).desc 17)).mem = (List.range (moveRows (slotOf s t n).desc)).foldl
          (fun m r => memWrite 0 m (moveRemote (slotOf s t n).desc r)
            (spRead s t (moveLocal (slotOf s t n).desc r) (moveLen (slotOf s t n).desc)))
          (tileOf s (byteAt (slotOf s t n).desc 17)).mem) ∧
      (byteAt (slotOf s t n).desc 17 = t →
        (tileOf u t).mem = (List.range (moveRows (slotOf s t n).desc)).foldl
          (fun m r => memWrite 0 m (moveRemote (slotOf s t n).desc r)
            (memRead 0 m (moveLocal (slotOf s t n).desc r) (moveLen (slotOf s t n).desc)))
          (tileOf s t).mem))

/-- SEND, RECV and REDUCE (03 R80 to R82) whose issue checks pass (09 R234): the transactions they put into the engine. Rests on
the model's choice: log 17. -/
def Obligations.TileTransfersAct : Prop :=
  (∀ (s : State) (t n c : Nat), executes s t n 5 = true → tileOwner s t = some c →
    bitsAt (slotOf s t n).desc 16 6 1 = 0 →
    (encodeSeg (bitsAt (slotOf s t n).desc 16 0 2)
      (spRead s t (leAt (slotOf s t n).desc 20 4) (leAt (slotOf s t n).desc 32 4 + 1))).isSome = true →
    issueCheck s c (bitsAt (slotOf s t n).desc 16 0 2) (byteAt (slotOf s t n).desc 17) (byteAt (slotOf s t n).desc 18)
      (bitsAt (slotOf s t n).desc 16 2 3) true false = 0 →
    ∃ u x, exec (.send t n) s = .next u ∧ txnOf u s.txn.next = some x ∧ x.ctx = c ∧
      x.dev = byteAt (slotOf s t n).desc 18 ∧ x.src = .tile t n (slotOf s t n).order ∧
      x.unsent = pushSegs { sendHdr s t n with ttype := if leAt (slotOf s t n).desc 32 4 + 1 ≤ 4096 then 2 else 3 }
        (spRead s t (leAt (slotOf s t n).desc 20 4) (leAt (slotOf s t n).desc 32 4 + 1))
        (decide (bitsAt (slotOf s t n).desc 16 5 1 = 1)) ∧
      (slotOf u t n).begun = true ∧ s.txn.next ∈ (slotOf u t n).txns ∧ u.hbm = s.hbm) ∧
  (∀ (s : State) (t n c : Nat), executes s t n 5 = true → tileOwner s t = some c →
    bitsAt (slotOf s t n).desc 16 6 1 = 1 → bitsAt (slotOf s t n).desc 16 0 2 = 1 →
    (encodeSeg 1 (spRead s t (leAt (slotOf s t n).desc 20 4) (leAt (slotOf s t n).desc 32 4 + 1))).isSome = true →
    bitsAt (slotOf s t n).desc 24 7 12 + (leAt (slotOf s t n).desc 32 4 + 1) / 64 ≤ 4096 →
    issueCheck s c 1 (byteAt (slotOf s t n).desc 17) (byteAt (slotOf s t n).desc 18)
      (bitsAt (slotOf s t n).desc 16 2 3) true false = 0 →
    ∃ u x g, exec (.send t n) s = .next u ∧ txnOf u s.txn.next = some x ∧ x.ctx = c ∧
      x.dev = byteAt (slotOf s t n).desc 18 ∧ x.unsent = [g] ∧ g.hdr.ttype = 4 ∧ g.hdr.aop = 5 ∧
      g.hdr.va = bitsAt (slotOf s t n).desc 24 0 7 + 128 * bitsAt (slotOf s t n).desc 24 7 12 ∧
      (slotOf u t n).begun = true ∧ s.txn.next ∈ (slotOf u t n).txns ∧ u.hbm = s.hbm) ∧
  (∀ (s : State) (t n c : Nat), executes s t n 6 = true → tileOwner s t = some c →
    (lengthOk (bitsAt (slotOf s t n).desc 16 0 2) (leAt (slotOf s t n).desc 32 4 + 1) &&
      (decide (bitsAt (slotOf s t n).desc 16 0 2 = 0) || decide (256 < leAt (slotOf s t n).desc 32 4 + 1))) = true →
    issueCheck s c (bitsAt (slotOf s t n).desc 16 0 2) (byteAt (slotOf s t n).desc 17) (byteAt (slotOf s t n).desc 18)
      (bitsAt (slotOf s t n).desc 16 2 3) true false = 0 →
    ∃ u x, exec (.recv t n) s = .next u ∧ txnOf u s.txn.next = some x ∧ x.ctx = c ∧
      x.dev = byteAt (slotOf s t n).desc 18 ∧ x.src = .tile t n (slotOf s t n).order ∧
      x.unsent = pullSegs { sendHdr s t n with ttype := if leAt (slotOf s t n).desc 32 4 + 1 ≤ 256 then 1 else 3 }
        (leAt (slotOf s t n).desc 20 4) (leAt (slotOf s t n).desc 32 4 + 1) ∧
      (slotOf u t n).begun = true ∧ s.txn.next ∈ (slotOf u t n).txns ∧ (tileOf u t).mem = (tileOf s t).mem) ∧
  (∀ (s : State) (t n c : Nat), executes s t n 7 = true → tileOwner s t = some c →
    bitsAt (slotOf s t n).desc 16 0 1 = 0 →
    (blockLanes (byteAt (slotOf s t n).desc 18) (byteAt (slotOf s t n).desc 19 + 1) (byteAt (slotOf s t n).desc 20 + 1)).all
      (fun l => slotFit ((laneOf s t l).image ++ leBytes 16 0)) = true →
    issueCheck s c 1 (bitsAt (slotOf s t n).desc 17 0 3)
      (if bitsAt (slotOf s t n).desc 16 1 1 = 1 then s.fab.addr.toNat else byteAt (slotOf s t n).desc 21)
      (bitsAt (slotOf s t n).desc 17 3 3) true (decide (bitsAt (slotOf s t n).desc 16 1 1 = 1)) = 0 →
    ∃ u, exec (.reduce t n) s = .next u ∧ u.txn.next = s.txn.next + byteAt (slotOf s t n).desc 19 + 1 ∧
      (slotOf u t n).begun = true ∧
      ∀ i, i ≤ byteAt (slotOf s t n).desc 19 → ∃ x g, txnOf u (s.txn.next + i) = some x ∧ x.unsent = [g] ∧
        x.dev = (if bitsAt (slotOf s t n).desc 16 1 1 = 1 then s.fab.addr.toNat else byteAt (slotOf s t n).desc 21) ∧
        g.hdr.ttype = 4 ∧ g.hdr.aop = 6 ∧ s.txn.next + i ∈ (slotOf u t n).txns) ∧
  (∀ (s : State) (t n : Nat) (gs : List RedGroup), executes s t n 7 = true → bitsAt (slotOf s t n).desc 16 0 1 = 1 →
    (slotOf s t n).redDone = none → groupOpen (tileOf s t).groups (leAt (slotOf s t n).desc 24 2) = some gs →
    ∃ u, exec (.reduce t n) s = .next u ∧ (slotOf u t n).redDone = some 0 ∧ (tileOf u t).groups = gs ∧ u.txn = s.txn) ∧
  (∀ (s : State) (t n : Nat) (g : RedGroup), executes s t n 7 = true → bitsAt (slotOf s t n).desc 16 0 1 = 1 →
    (slotOf s t n).redDone.isSome = true → rootGroup s t n = some g → byteAt (slotOf s t n).desc 23 ≤ g.complete →
    ∃ u, exec (.reduceRootComplete t n) s = .next u ∧ (tileOf u t).exa = (tileOf s t).exa ∧
      (g.contribs = [] → (slotOf s t n).waits = [] → (slotOf s t n).txns = [] →
        (tileOf u t).groups = (tileOf s t).groups.filter (fun y => decide (y.group ≠ g.group)) ∧
        (slotOf u t n).st ≠ .executing) ∧
      (∀ k r, g.contribs = k :: r → doneCode s t (slotOf s t n) k.1 = 0 →
        (tileOf u t).groups = (tileOf s t).groups ∧ (slotOf u t n).st = .executing ∧ .sent s.txn.next ∈ (slotOf u t n).waits ∧
        ∃ x h, txnOf u s.txn.next = some x ∧ x.unsent = [h] ∧ x.dev = k.1 ∧ h.hdr.ttype = 4 ∧ h.hdr.aop = 7 ∧
          h.hdr.group = leAt (slotOf s t n).desc 24 2))

/-- MATMUL, EXA-READ and VEC change their own tile, the records, emergencies and draws they cause, and nothing else: no other
tile, no byte of HBM, no object, no transaction. The other tile commands leave the clocks, the supplies, the keys, the queue
of commands, the registers and the units that are not theirs as they were. -/
def Obligations.TileFrames : Prop := Claims.TileComputeFrame ∧ Claims.TileFrame

/-- The context commands (05 R109 to R114) on a context they accept. Rests on the model's choice: logs 7 and 13. -/
def Obligations.ContextCommandsAct : Prop :=
  (∀ (s : State) (x : ObjCmd) (dur : Nat), objReady s x 128 → ctxBad (objStage s) = false →
    (ctxOf s x.id.toNat).st = .free → boundPartner s = false → s.rcv.oos = false →
    (jkSlots (objStage s)).any (jkBad s) = false →
    paBusy s (leAt (objStage s) 8 6) (leAt (objStage s) 8 6 + 4096 * leAt (objStage s) 16 4) = false →
    keyServes s true = true →
    ∃ t, exec (.ctxCreate x dur) s = .next t ∧
      (dur = 0 → s.kh.run = [] →
        objOk t ∧ (ctxOf t x.id.toNat).st = .live ∧ (ctxOf t x.id.toNat).ptBase = leAt (objStage s) 8 6 ∧
        (ctxOf t x.id.toNat).ptPages = leAt (objStage s) 16 4 ∧
        (ctxOf t x.id.toNat).preview = decide (bitsAt (objStage s) 0 0 1 = 1) ∧
        tget none t.kh.ctxKey x.id.toNat = some (Config.random s.free)) ∧
      (dur ≠ 0 ∨ s.kh.run ≠ [] →
        t.obj.busy = true ∧ t.obj.ctx = s.obj.ctx ∧
        t.kh.run = s.kh.run ++ [(.ctxCreate x.id.toNat (BitVec.ofNat 512 (ofLe (objStage s))), dur)])) ∧
  (∀ (s : State) (x : ObjCmd), objReady s x 128 →
    (ctxOf s x.id.toNat).st = .live ∨ (ctxOf s x.id.toNat).st = .aborted →
    ∃ t, exec (.ctxDestroy x) s = .next t ∧ t.obj.busy = true ∧ t.obj.destroying = some x.id.toNat ∧
      (ctxOf t x.id.toNat).st = .retiring) ∧
  (∀ (s : State) (c : Nat), (ctxOf s c).st = .retiring → ctxEmpty s c = true →
    ∃ t, exec (.contextFree c) s = .next t ∧ t.obj.ctx = tput {} s.obj.ctx c {} ∧
      t.kh.ctxKey = tput none s.kh.ctxKey c none ∧ t.kh.memKey = tput none s.kh.memKey c none ∧
      (s.obj.destroying = some c → objOk t)) ∧
  (∀ (s : State) (x : ObjCmd), objReady s x 128 → (ctxOf s x.id.toNat).st = .live →
    ∃ t, exec (.ctxAbort x) s = .next t ∧ objOk t ∧ (ctxOf t x.id.toNat).st = .aborted) ∧
  (∀ (s : State) (x : ObjCmd), objReady s x 128 → (ctxOf s x.id.toNat).st = .aborted →
    (ctxOf s x.id.toNat).keyLost = false →
    ∃ t, exec (.ctxRestart x) s = .next t ∧ objOk t ∧
      t.obj.ctx = tput {} s.obj.ctx x.id.toNat { ctxOf s x.id.toNat with st := .live } ∧ t.kh = s.kh) ∧
  (∀ (s : State) (t : Nat) (since : Nat), (tileOf s t).decFail = some since → (tileOf s t).part = .running →
    (tileOf s t).win = [] ∨ since + 1000000 ≤ s.now →
    ∃ u, exec (.decodeFailureEnd t) s = .next u ∧
      (∀ c, tileOwner s t = some c → (ctxOf s c).st = .live → (ctxOf u c).st = .aborted) ∧
      (tileOwner s t = none → (tileOf u t).part = .ended))

/-- The queue commands (05 R108, R119) and doorbells (R121, R122) where the queue's state accepts them. Rests on the model's
choice: log 7. -/
def Obligations.QueueCommandsAct : Prop :=
  (∀ (s : State) (x : ObjCmd), objReady s x 1024 → queueBad (objStage s) = false → (queueOf s x.id.toNat).st = .free →
    isLive s (bitsAt (objStage s) 0 0 7) = true →
    ∃ t, exec (.qCreate x) s = .next t ∧ objOk t ∧ (queueOf t x.id.toNat).st = .stopped ∧
      (queueOf t x.id.toNat).ctx = bitsAt (objStage s) 0 0 7 ∧ (queueOf t x.id.toNat).prio = bitsAt (objStage s) 1 0 2 ∧
      (queueOf t x.id.toNat).sqBase = leAt (objStage s) 8 8 ∧ (queueOf t x.id.toNat).cqBase = leAt (objStage s) 16 8 ∧
      (queueOf t x.id.toNat).head = 0 ∧ (queueOf t x.id.toNat).cqPhase = true ∧
      leAt (leBytes 64 t.obj.result.toNat) 0 4 = (queueOf t x.id.toNat).cookie.toNat ∧
      t.obj.cookies = s.obj.cookies ++ [(x.id.toNat, (queueOf t x.id.toNat).cookie)] ∧
      (s.obj.cookies.length < 2 ^ 32 → (x.id.toNat, (queueOf t x.id.toNat).cookie) ∉ s.obj.cookies)) ∧
  (∀ (s : State) (x : ObjCmd), objReady s x 1024 → (queueOf s x.id.toNat).st = .stopped →
    (ctxOf s (queueOf s x.id.toNat).ctx).st ≠ .retiring →
    ∃ t, exec (.qDestroy x) s = .next t ∧ objOk t ∧ t.obj.q = tput {} s.obj.q x.id.toNat {}) ∧
  (∀ (s : State) (x : ObjCmd), objReady s x 1024 → (queueOf s x.id.toNat).st = .running →
    (ctxOf s (queueOf s x.id.toNat).ctx).st ≠ .retiring →
    ∃ t, exec (.qStop x) s = .next t ∧ objOk t ∧
      ((queueOf s x.id.toNat).job = none → (queueOf t x.id.toNat).st = .stopped) ∧
      ((queueOf s x.id.toNat).job ≠ none → (queueOf t x.id.toNat).st = .running ∧ (queueOf t x.id.toNat).stopping = true)) ∧
  (∀ (s : State) (x : ObjCmd), objReady s x 1024 → (queueOf s x.id.toNat).st = .stopped →
    isLive s (queueOf s x.id.toNat).ctx = true →
    ∃ t, exec (.qStart x) s = .next t ∧ objOk t ∧
      t.obj.q = tput {} s.obj.q x.id.toNat { queueOf s x.id.toNat with st := .running }) ∧
  (∀ (s : State) (q : Nat) (data : Bytes), hostReady s = true → doorbellCheck s q data (queueOf s q).sqLog = 0 →
    ringDist (queueOf s q).sqLog (queueOf s q).head (queueOf s q).tail ≤
      ringDist (queueOf s q).sqLog (queueOf s q).head (bitsN (ofLe data) 0 16) →
    exec (.submissionDoorbell q data) s =
      .next (setQueue s q { queueOf s q with tail := bitsN (ofLe data) 0 16 })) ∧
  (∀ (s : State) (q : Nat) (data : Bytes), hostReady s = true → doorbellCheck s q data (queueOf s q).cqLog = 0 →
    ringDist (queueOf s q).cqLog (queueOf s q).cqHead (bitsN (ofLe data) 0 16) ≤
      ringDist (queueOf s q).cqLog (queueOf s q).cqHead (queueOf s q).cqIdx →
    exec (.completionDoorbell q data) s =
      .next (setQueue s q { queueOf s q with cqHead := bitsN (ofLe data) 0 16 }))

/-- The memory-object commands (05 R115 to R118, R460) where the object's state accepts them. Rests on the model's choice: logs 6,
8 and 12. -/
def Obligations.MemoryObjectCommandsAct : Prop :=
  (∀ (s : State) (x : ObjCmd), objReady s x 65536 → moBad (objStage s) = false → (moOf s x.id.toNat).st = .free →
    isLive s (moOfDesc (objStage s)).ctx = true → bivCheck s (moOfDesc (objStage s)) = 0 →
    vaBusy s (moOfDesc (objStage s)).ctx (moOfDesc (objStage s)).va
      ((moOfDesc (objStage s)).va + (moOfDesc (objStage s)).size) = false →
    ((moOfDesc (objStage s)).host = false →
      paBusy s (moOfDesc (objStage s)).pa ((moOfDesc (objStage s)).pa + (moOfDesc (objStage s)).size) = false) →
    ptUsed s (moOfDesc (objStage s)).ctx + ptNeed s (moOfDesc (objStage s)).va (moOfDesc (objStage s)).size ≤
      (ctxOf s (moOfDesc (objStage s)).ctx).ptPages →
    ∃ t, exec (.memCreate x) s = .next t ∧ objOk t ∧ t.hif.owned = s.hif.owned ∧ t.hif.dep = s.hif.dep ∧
      ((moOfDesc (objStage s)).biv = false → t.hbm = s.hbm) ∧
      moOf t x.id.toNat = { moOfDesc (objStage s) with
        pt := ptNeed s (moOfDesc (objStage s)).va (moOfDesc (objStage s)).size }) ∧
  (∀ (s : State) (x : ObjCmd), objReady s x 65536 → (moOf s x.id.toNat).st ≠ .free →
    (ctxOf s (moOf s x.id.toNat).ctx).st ≠ .retiring →
    ∃ t, exec (.memDestroy x) s = .next t ∧ objOk t ∧ t.obj.mo = tput {} s.obj.mo x.id.toNat {} ∧
      ((moOf s x.id.toNat).biv = false → t.hbm = s.hbm)) ∧
  (∀ (s : State) (x : ObjCmd) (hr : List Host.Cell), objReady s x 65536 → (moOf s x.id.toNat).st = .live →
    (moOf s x.id.toNat).cls = 1 → (ctxOf s (moOf s x.id.toNat).ctx).st ≠ .retiring →
    ∃ t, exec (.memFreeze x hr) s = .next t ∧ objOk t ∧ (moOf t x.id.toNat).st = .frozen ∧
      (moOf t x.id.toNat).rkey = none ∧ t.hbm = s.hbm ∧
      t.obj.result = BitVec.ofNat 512 (ofLe (putB (leBytes 64 s.obj.result.toNat) 0 (moDigest s hr (moOf s x.id.toNat))))) ∧
  (∀ (s : State) (x : ObjCmd) (hr : List Host.Cell), objReady s x 65536 → (moOf s x.id.toNat).st ≠ .free →
    (moOf s x.id.toNat).cls = 1 → (ctxOf s (moOf s x.id.toNat).ctx).st ≠ .retiring →
    ∃ t, exec (.memVerify x hr) s = .next t ∧ objOk t ∧ t.obj.mo = s.obj.mo ∧ t.hbm = s.hbm ∧
      t.obj.result = BitVec.ofNat 512 (ofLe (putB (leBytes 64 s.obj.result.toNat) 0 (moDigest s hr (moOf s x.id.toNat)))))

/-- The event commands (05 R128 to R131) on an event whose state accepts them: the counter after each. -/
def Obligations.EventCommandsAct : Prop :=
  (∀ (s : State) (x : ObjCmd), objReady s x 16384 → evBad (objStage s) = false → (evOf s x.id.toNat).live = false →
    isLive s (bitsAt (objStage s) 0 0 7) = true →
    ∃ t, exec (.evCreate x) s = .next t ∧ objOk t ∧ (evOf t x.id.toNat).live = true ∧
      (evOf t x.id.toNat).ctx = bitsAt (objStage s) 0 0 7 ∧ (evOf t x.id.toNat).cnt = BitVec.ofNat 64 (leAt (objStage s) 8 8) ∧
      (evOf t x.id.toNat).thresh = BitVec.ofNat 64 (leAt (objStage s) 16 8) ∧
      (evOf t x.id.toNat).armed = decide (leAt (objStage s) 8 8 < leAt (objStage s) 16 8)) ∧
  (∀ (s : State) (x : ObjCmd), objReady s x 16384 → (evOf s x.id.toNat).live = true →
    (ctxOf s (evOf s x.id.toNat).ctx).st ≠ .retiring →
    (∃ t, exec (.evDestroy x) s = .next t ∧ objOk t ∧ t.obj.ev = tput {} s.obj.ev x.id.toNat {}) ∧
    (∃ t, exec (.evAdd x) s = .next t ∧ objOk t ∧ (evOf t x.id.toNat).live = true ∧
      (evOf t x.id.toNat).cnt.toNat = min ((evOf s x.id.toNat).cnt.toNat + leAt (objStage s) 0 8) (2 ^ 64 - 1)) ∧
    (∃ t, exec (.evSet x) s = .next t ∧ objOk t ∧ (evOf t x.id.toNat).live = true ∧
      (evOf t x.id.toNat).cnt.toNat = leAt (objStage s) 0 8) ∧
    (∃ t, exec (.evArm x) s = .next t ∧ objOk t ∧ (evOf t x.id.toNat).cnt = (evOf s x.id.toNat).cnt ∧
      (evOf t x.id.toNat).thresh.toNat = leAt (objStage s) 16 8 ∧
      (evOf t x.id.toNat).armed = decide ((evOf s x.id.toNat).cnt.toNat < leAt (objStage s) 16 8)))

/-- An object command that ends with an error changes no object (05 R107). An object command whose word has a Reserved field set
fails with ERR_CMD_INVALID, and one record of SRC 2 names its ID (05 R107; SRC, UNIT: log 22). Rests on the model's choice:
log 22. -/
def Obligations.ObjectCommandChecks : Prop := Claims.FailedObjectCommandChangesNoObject ∧ Claims.ObjectCommandFormChecked

/-- What the object commands leave: a queue command its own queue apart, a memory-object command no register and no tile, an event
command no queue, object or byte of HBM; a doorbell changes its queue's rings only; the commands that end or abort a context
leave the clocks, the supplies, the fuses, the flash and the fabric (05 R107 to R122, R128 to R131). -/
def Obligations.ObjectFrame : Prop :=
  ∀ (s t : State) (x : ObjCmd) (dur q : Nat) (d : Bytes) (hr : List Host.Cell), Tables.wf s = true →
    (exec (.qCreate x) s = .next t ∨ exec (.qStop x) s = .next t ∨ exec (.qStart x) s = .next t →
      { t with
        obj := s.obj, hif.msix := s.hif.msix, free := s.free, erq := s.erq, dict := s.dict, out := s.out } = s ∧
        t.obj.ctx = s.obj.ctx ∧ t.obj.mo = s.obj.mo ∧ t.obj.ev = s.obj.ev ∧ ∀ k, k ≠ x.id.toNat → queueOf t k = queueOf s k) ∧
    (exec (.qDestroy x) s = .next t →
      { t with
        obj := s.obj, hif.msix := s.hif.msix, erq := s.erq, dict := s.dict, out := s.out, quad := s.quad, rcv := s.rcv } = s ∧
        t.obj.ctx = s.obj.ctx ∧ t.obj.mo = s.obj.mo ∧ t.obj.ev = s.obj.ev ∧ (∀ k, k ≠ x.id.toNat → queueOf t k = queueOf s k) ∧
        ((queueOf s x.id.toNat).job = none → t.quad = s.quad ∧ t.rcv = s.rcv) ∧
        ∀ k, (quadOf t k).owner = (quadOf s k).owner ∧
          ((quadOf s k).holder ≠ some x.id.toNat → quadOf t k = quadOf s k)) ∧
    (exec (.submissionDoorbell q d) s = .next t ∨ exec (.completionDoorbell q d) s = .next t →
      { t with obj.q := s.obj.q, free := s.free, erq := s.erq, dict := s.dict, out := s.out } = s ∧
        ∀ k, k ≠ q → queueOf t k = queueOf s k) ∧
    (exec (.memCreate x) s = .next t ∨ exec (.memDestroy x) s = .next t ∨ exec (.memFreeze x hr) s = .next t ∨
      exec (.memVerify x hr) s = .next t →
      { t with
        obj := s.obj, hif.dep := s.hif.dep, hif.owned := s.hif.owned, hif.msix := s.hif.msix, hbm := s.hbm, free := s.free,
        erq := s.erq, dict := s.dict, out := s.out } = s ∧ t.obj.ctx = s.obj.ctx ∧ t.obj.q = s.obj.q ∧ t.obj.ev = s.obj.ev ∧
        ∀ k, k ≠ x.id.toNat → moOf t k = moOf s k) ∧
    (exec (.evCreate x) s = .next t ∨ exec (.evDestroy x) s = .next t ∨ exec (.evAdd x) s = .next t ∨
      exec (.evSet x) s = .next t ∨ exec (.evArm x) s = .next t →
      { t with obj := s.obj, tile := s.tile, hif := s.hif, erq := s.erq, dict := s.dict, out := s.out } = s ∧
        t.obj.ctx = s.obj.ctx ∧ t.obj.q = s.obj.q ∧ t.obj.mo = s.obj.mo ∧ ∀ k, k ≠ x.id.toNat → evOf t k = evOf s k) ∧
    (exec (.ctxRestart x) s = .next t →
      { t with obj := s.obj, hif.msix := s.hif.msix, erq := s.erq, dict := s.dict, out := s.out } = s ∧ t.obj.q = s.obj.q ∧
        t.obj.mo = s.obj.mo ∧ t.obj.ev = s.obj.ev) ∧
    (exec (.ctxCreate x dur) s = .next t →
      { t with
        obj := s.obj, kh := s.kh, rcv.replay := s.rcv.replay, pair.cseq := s.pair.cseq, pair.before := s.pair.before,
        free := s.free, hif.msix := s.hif.msix, erq := s.erq, dict := s.dict, out := s.out } = s ∧ t.obj.q = s.obj.q ∧
        t.obj.mo = s.obj.mo ∧ t.obj.ev = s.obj.ev ∧ ∀ k, k ≠ x.id.toNat → ctxOf t k = ctxOf s k) ∧
    (exec (.ctxDestroy x) s = .next t ∨ exec (.ctxAbort x) s = .next t ∨ exec (.contextFree q) s = .next t ∨
      exec (.decodeFailureEnd q) s = .next t →
      t.now = s.now ∧ t.id = s.id ∧ t.pwr = s.pwr ∧ t.rtc = s.rtc ∧ t.cvu = s.cvu ∧ t.vb = s.vb ∧ t.flash = s.flash ∧
        t.fab = s.fab ∧ t.scrub = s.scrub ∧ t.tele = s.tele ∧ t.kh.chassis = s.kh.chassis ∧ t.kh.dbg = s.kh.dbg)

/-- Submission entries and jobs (05 R123 to R127, 11 R297): what reading an entry and each step of a job leave. Rests on the
model's choice: log 6. -/
def Obligations.JobCommandsAct : Prop :=
  (∀ (s : State) (q : Nat) (hr : List Host.Cell), canRead s q = true → byteAt (entryAt s hr q) 0 = 0 →
    onlyFields entryFields (entryAt s hr q) = true →
    ∃ t, exec (.nop q hr) s = .next t ∧ (queueOf t q).head = ((queueOf s q).head + 1) % 2 ^ (queueOf s q).sqLog ∧
      (∀ j, (queueOf t q).job = some j → j.ph = .ended ∧ j.entry = entryAt s hr q) ∧
      (bitsAt (entryAt s hr q) 1 4 1 = 0 → s.sealer.slots = [] → s.erq.incoming = [] → s.erq.lines = [] →
        heldQuads s q = [] → (queueOf s q).landing = 0 →
        (queueOf t q).job = none ∧ ∃ line, leAt line 0 2 = 0 ∧ leAt line 4 4 = leAt (entryAt s hr q) 4 4 ∧
          t.out = s.out ++ [.hostWrite s.hif.nextReq ((queueOf s q).cqBase + 64 * (queueOf s q).cqIdx) line
            (writeReqs s ((queueOf s q).cqBase + 64 * (queueOf s q).cqIdx) line.length false) false])) ∧
  (∀ (s : State) (q : Nat) (hr : List Host.Cell), canRead s q = true → byteAt (entryAt s hr q) 0 = 2 →
    onlyFields entryFields (entryAt s hr q) = true →
    evOwned s (queueOf s q).ctx (bitsAt (entryAt s hr q) 16 0 14) = true →
    ∃ t, exec (.signal q hr) s = .next t ∧ (queueOf t q).head = ((queueOf s q).head + 1) % 2 ^ (queueOf s q).sqLog ∧
      (∀ j, (queueOf t q).job = some j → j.ph = .ended) ∧
      (evOf t (bitsAt (entryAt s hr q) 16 0 14)).cnt.toNat =
        min ((evOf s (bitsAt (entryAt s hr q) 16 0 14)).cnt.toNat + leAt (entryAt s hr q) 24 8) (2 ^ 64 - 1)) ∧
  (∀ (s : State) (q n va : Nat) (hr : List Host.Cell) (b : Bytes), canRead s q = true → byteAt (entryAt s hr q) 0 = 1 →
    onlyFields entryFields (entryAt s hr q) = true → bitsAt (entryAt s hr q) 1 0 4 ≠ 0 →
    n = bitsAt (entryAt s hr q) 2 0 7 → 1 ≤ n → n ≤ 96 → va = leAt (entryAt s hr q) 8 6 → va % 32 = 0 →
    vaRead (takeEntry q (entryAt s hr q) s) hr (queueOf s q).ctx va (32 * n) = (b, none) →
    jltOk (bitsAt (entryAt s hr q) 1 0 4) n b = true →
    ∃ t, exec (.run q hr) s = .next t ∧ (queueOf t q).head = ((queueOf s q).head + 1) % 2 ^ (queueOf s q).sqLog ∧
      ∃ j, (queueOf t q).job = some j ∧ j.ph = .waiting ∧ j.jlt = jltList n b ∧ j.accSeq = s.obj.jobSeq) ∧
  (∀ (s : State) (q : Nat) (j : Job), Units.wf s = true → nextJob s = some q → (queueOf s q).job = some j →
    (∀ k ∈ j.quads, domOn s (dCQ k) = true) →
    ∃ t, exec .quadrantAcquire s = .next t ∧ (∀ k ∈ j.quads, (quadOf t k).holder = some q) ∧
      ∃ i, (queueOf t q).job = some i ∧ i.ph = .scrubbing (j.quads.filter (fun k =>
        match (quadOf s k).owner with
        | some c => decide (c ≠ (queueOf s q).ctx)
        | none => false))) ∧
  (∀ (s : State) (q k : Nat) (rest : List Nat) (j : Job), Tables.wf s = true → Units.wf s = true → k < 4 →
    (queueOf s q).job = some j → j.ph = .scrubbing (k :: rest) →
    ∃ t, exec (.ownerChangeScrubDone q) s = .next t ∧ (quadOf t k).owner = some (queueOf s q).ctx ∧
      (∀ x, quadOfTile x = k → tileOf t x = {}) ∧ (∀ f ∈ t.mesh, quadOfTile f.src ≠ k ∧ quadOfTile f.dst ≠ k) ∧
      ∃ i, (queueOf t q).job = some i ∧ i.ph = .scrubbing rest) ∧
  (∀ (s : State) (q : Nat) (hr : List Host.Cell) (j : Job) (l : List (Jlt × Bytes × Bytes)), (queueOf s q).job = some j →
    j.ph = .scrubbing [] → allImages s hr (queueOf s q).ctx j.jlt = .ok l →
    ∃ t, exec (.jobStart q hr) s = .next t ∧
      (∀ e ∈ j.jlt, (tileOf t e.tile).part = .running ∧ (tileOf t e.tile).queue = q ∧ (tileOf t e.tile).win = []) ∧
      ∃ i, (queueOf t q).job = some i ∧ i.ph = .running ∧ i.tStart = some s.erq.time.toNat ∧ i.ran = 0) ∧
  (∀ (s : State) (q : Nat) (j : Job), Tables.wf s = true → (queueOf s q).job = some j → j.ph = .running →
    (∀ e ∈ j.jlt, (tileOf s e.tile).part = .ended) →
    ∃ t, exec (.jobComplete q) s = .next t ∧ ∀ i, (queueOf t q).job = some i → i.ph = .ended ∧ i.entry = j.entry)

/-- The error queue (05 R133 to R135, 06 R164): acceptance of a record, and the writes of its registers. Page bias, snoops, BAR2
reads, landings and refusals (06 R138, R140 to R150, 01 R25). Rests on the model's choice: logs 6, 14, 62 and 70. -/
def Obligations.ErrorQueueAndHostCouplingAct : Prop := Claims.ErrorQueueActs ∧ Claims.HostCouplingActs

/-- The Deposit Window (06 R151 to R157) where its checks hold: arming, disarming, writes and flags. A Deposit write or flag that
the entry does not accept stores nothing and leaves the entry's state as it was (06 R154, R155). Rests on the model's choice:
log 24. -/
def Obligations.DepositWindowActs : Prop := Claims.DepositActs ∧ Claims.DepositRefused

/-- DECLARE, RELEASE, DISCARD and CLAIM (06 R158, R167, R168) where their checks hold: the region's record, the keys, the context,
and a claim's status record. Rests on the model's choice: logs 8, 13 and 71. -/
def Obligations.BivouacCommandsAct : Prop :=
  (∀ (s : State) (r c dur : Nat), hostReady s = true → s.biv.busy = false → domOn s dMEM = true → regState s r = 0 →
    isLive s c = true → keyServes s true = true →
    ∃ t, exec (.declare r c dur) s = .next t ∧
      (dur = 0 → s.kh.run = [] → bivOk t ∧ t.hbm = memWrite 0 s.hbm (recBase r) (declRecord s r c)) ∧
      (dur ≠ 0 ∨ s.kh.run ≠ [] → t.biv.busy = true ∧ t.kh.run = s.kh.run ++ [(.declare r c, dur)] ∧ t.hbm = s.hbm)) ∧
  (∀ (s : State) (r : Nat), hostReady s = true → s.biv.busy = false → domOn s dMEM = true → regState s r = 1 →
    regionObjs s r = [] →
    ∃ t, exec (.release r) s = .next t ∧ bivOk t ∧ t.hbm = memWrite 0 s.hbm (recBase r) (List.replicate 2048 0)) ∧
  (∀ (s : State) (r : Nat), hostReady s = true → s.biv.busy = false → domOn s dMEM = true → regState s r ≠ 0 →
    ∃ t, exec (.discard r) s = .next t ∧ bivOk t ∧ t.hbm = memWrite 0 s.hbm (recBase r) (List.replicate 2048 0) ∧
      t.kh = s.kh ∧ t.obj = s.obj) ∧
  (∀ (s : State) (r c dur : Nat) (damaged : Bool) (k : BitVec 256), hostReady s = true → s.biv.busy = false →
    domOn s dMEM = true → keyServes s false = true → claimCheck s r c = 0 →
    (dur = 0 → s.kh.run = [] → unwrapRegion s r = some k →
      (sealOf s (recOf s r) = leAt (recOf s r) 32 8 ∨ damaged = true) →
      ∃ t, exec (.claim r c damaged dur) s = .next t ∧ bivOk t ∧ tget none t.kh.ctxKey c = some k ∧
        tget none t.kh.memKey c = some k ∧ (ctxOf t c).claimed = true ∧ (ctxOf t c).origin = leAt (recOf s r) 48 8 ∧
        t.erq.incoming = s.erq.incoming ++ [{
          code := 0, src := 4, ctx := some c, unit := r,
          detail := if sealOf s (recOf s r) = leAt (recOf s r) 32 8 then 1 else 0 }]) ∧
    (dur = 0 → s.kh.run = [] → unwrapRegion s r = some k → sealOf s (recOf s r) ≠ leAt (recOf s r) 32 8 → damaged = false →
      ∃ t, exec (.claim r c damaged dur) s = .next t ∧ t.biv.busy = false ∧ t.biv.code = 0x0505 ∧ t.obj = s.obj ∧
        t.kh = s.kh ∧ t.hbm = s.hbm) ∧
    (dur ≠ 0 ∨ s.kh.run ≠ [] →
      ∃ t, exec (.claim r c damaged dur) s = .next t ∧ t.biv.busy = true ∧ t.obj = s.obj ∧ t.hbm = s.hbm ∧
        t.kh.run = s.kh.run ++ [(.claim r c damaged, dur)])) ∧
  (∀ (s : State) (r c : Nat) (damaged : Bool), hostReady s = true → s.biv.busy = false → domOn s dMEM = true →
    keyServes s false = true → claimCheck s r c = 0 → s.kh.run = [] → unwrapRegion s r = none →
    byteAt (recOf s r) 13 + 1 < 16 →
    ∃ t, exec (.claim r c damaged 0) s = .next t ∧ t.biv.busy = false ∧ t.biv.code = 0x0505 ∧ t.obj = s.obj ∧
      t.kh = s.kh ∧ t.hbm = memWrite 0 s.hbm (recBase r) (putB (recOf s r) 13 (leBytes 1 (byteAt (recOf s r) 13 + 1))))

/-- Reading an entry and the steps of a job leave the clocks, the supplies, the keys, the transactions, the fabric and the stores
as they were. The error queue's commands change the queue, the host writes and messages it makes, the statistics, the mark of
a job's first record, the records owed at its enabling, the draw of a straddling write, and nothing else, but where the
acceptance ends step 4 of an Abseil. The commands of the host interface leave the clocks, the supplies, the keys, the contexts,
the memory objects, the fabric and the stores as they were; only a Deposit write, a refusal and their mirrors touch HBM, and
only a refusal, which may end a replay's reads and so begin the next, the mesh, the transactions and the queue pairs. The
Bivouac commands leave the clocks, the supplies, tiles, transactions, fabric and
stores as they were. -/
def Obligations.HostPathFrames : Prop := Claims.JobFrame ∧ Claims.ErrorQueueFrame ∧ Claims.HostFrame ∧ Claims.BivouacFrame

/-- The network commands (07 R172 to R175) where they are accepted: the queue pair set up, removed or failed, the key given or
withdrawn, CODE 0 and the RESULT. Rests on the model's choice: log 7. -/
def Obligations.NetworkCommandsAct : Prop :=
  (∀ (s : State) (x : NetCmd) (y : Qp), netReady s x 4096 → y = qpMake (netStage s) s → qpBad (netStage s) = false →
    (qpOf s x.id.toNat).st = .free → isLive s y.ctx = true → qpRefsOk s y = true →
    exec (.qpCreate x) s = .next { s with
      eth.qp := tput {} s.eth.qp x.id.toNat y, eth.done := true, eth.code := 0, eth.result := 0 }) ∧
  (∀ (s : State) (x : NetCmd), netReady s x 4096 → (qpOf s x.id.toNat).st ≠ .free →
    exec (.qpDestroy x) s = .next { s with
      eth.qp := tput {} s.eth.qp x.id.toNat {}, eth.done := true, eth.code := 0, eth.result := 0,
      eth.port := s.eth.port.map (fun y =>
        { y with heldTx := y.heldTx.filter (fun k => decide (k.qp ≠ x.id.toNat)) }) }) ∧
  (∀ (s : State) (x : NetCmd), netReady s x 4096 → (qpOf s x.id.toNat).st = .rts →
    ∃ t, exec (.qpFail x) s = .next t ∧ t.eth.done = true ∧ t.eth.code = 0 ∧
      qpOf t x.id.toNat = { qpOf s x.id.toNat with st := .error, inb := .none, outs := [] }) ∧
  (∀ (s : State) (x : NetCmd) (y : Qp), netReady s x 4096 → y = qpMake (netStage s) s → qpBad (netStage s) = false →
    (qpOf s x.id.toNat).st = .error → isLive s y.ctx = true → qpRefsOk s y = true →
    exec (.qpRecover x) s = .next { s with
      eth.qp := tput {} s.eth.qp x.id.toNat y, eth.done := true, eth.code := 0, eth.result := 0 }) ∧
  (∀ (s : State) (x : NetCmd) (m : MemObj), netReady s x 65536 → m = moOf s x.id.toNat → m.st = .live → m.host = false →
    m.netw = true → m.write = true → notRetiring s m.ctx = true →
    exec (.mrReg x) s = .next { s with
      free := s.free + 1, eth.done := true, eth.code := 0,
      obj.mo := tput {} s.obj.mo x.id.toNat { m with rkey := some (Config.rkeyTag s.free) },
      eth.result := BitVec.ofNat 32 ((Config.rkeyTag s.free).toNat * 2 ^ 16 + x.id.toNat) }) ∧
  (∀ (s : State) (x : NetCmd) (m : MemObj), netReady s x 65536 → m = moOf s x.id.toNat → m.rkey.isSome = true →
    notRetiring s m.ctx = true →
    exec (.mrDereg x) s = .next { s with
      obj.mo := tput {} s.obj.mo x.id.toNat { m with rkey := none }, eth.done := true, eth.code := 0, eth.result := 0 })

/-- Frames, pauses and links of an Ethernet port (07 R169 to R171, R174): a frame is dropped and counted or held; a pause of the
configured priority holds tagged packets and its end sends them; a link that goes down writes a record. Outbound WRITEs of
RoCE: a request is posted as packets in PSN order, an ACK completes the requests it covers in order and counts each on
CMP_EVENT, an RNR NAK or a timeout within its limit is retried, any other ends in ERROR, and the rate follows the CNPs (07
R174, R182 to R185). Rests on the model's choice: logs 11 and 26. -/
def Obligations.PortFramesAndOutboundActs : Prop := Claims.EthernetFramesAct ∧ Claims.OutboundWritesAct

/-- An inbound RoCE request in sequence lands and advances the expected PSN; one behind is a duplicate, which lands again where it
landed if that is still allowed; one ahead, or one with no receive slot, leaves the queue pair's place as it was; one that
its R_Key does not cover, or of a form the device does not take, puts it in ERROR (07 R176 to R180).
Rests on the model's choice: log 26. -/
def Obligations.InboundPacketsAct : Prop :=
  (∀ (s s' : State) (p q : Nat) (k : RocePkt),
    pktAt s p q k (fun o => decide (o ≠ .ack) && decide (o ≠ .nak) && decide (o ≠ .cnp)) →
    s' = (if k.ce then sendCnp q (ethTake p s) else ethTake p s) →
    (∀ (w : Landing) (r : List Nat × State), k.psn.toNat = (qpOf s q).epsn → (qpOf s q).epsn < 2 ^ 24 →
      k.op ≠ .other → pktLanding s' (qpOf s' q) k = .ok w → netWrite (qpOf s q).ctx w.writes [] s' = some r →
      ∃ t, exec (.roceInboundPacket p) s = .next t ∧ t.hbm = r.2.hbm ∧ (qpOf t q).st = .rts ∧
        (qpOf t q).epsn = ((qpOf s q).epsn + 1) % 2 ^ 24 ∧ (qpOf t q).msgs = w.msgs ∧ (qpOf t q).inb = w.inb ∧
        (qpOf t q).lands = (qpOf s q).lands ++
          [{ id := (qpOf s q).nextLand, psn := (qpOf s q).epsn, ev := w.ev, dup := false, waits := r.1 }] ∧
        (qpOf t q).hist = (k.psn.toNat, w.at', w.rkey) :: (qpOf s q).hist) ∧
    (k.psn.toNat = (qpOf s q).epsn → (qpOf s q).epsn < 2 ^ 24 → k.op ≠ .other →
      pktLanding s' (qpOf s' q) k = .error .rnr →
      ∃ t, exec (.roceInboundPacket p) s = .next t ∧ t.hbm = s.hbm ∧ qpOf t q = qpOf s' q) ∧
    (∀ va, k.psn.toNat = (qpOf s q).epsn → (qpOf s q).epsn < 2 ^ 24 → k.op ≠ .other →
      pktLanding s' (qpOf s' q) k = .error (.access va) →
      ∃ t, exec (.roceInboundPacket p) s = .next t ∧ t.hbm = s.hbm ∧ (qpOf t q).st = .error) ∧
    (k.op = .other → ∃ t, exec (.roceInboundPacket p) s = .next t ∧ t.hbm = s.hbm ∧ (qpOf t q).st = .error) ∧
    (∀ (va : Nat) (rkey : Option Nat) (r : List Nat × State), k.op ≠ .other →
      2 ^ 23 ≤ (k.psn.toNat + 2 ^ 24 - (qpOf s q).epsn) % 2 ^ 24 →
      (qpOf s q).hist.find? (fun h => decide (h.1 = k.psn.toNat)) = some (k.psn.toNat, va, rkey) →
      (if dupPkt.sendOp k.op then ringFits s' (qpOf s' q) = true
       else rkey.any (fun w => rkeyOk s' (qpOf s q).ctx w va k.payload.length) = true) →
      netWrite (qpOf s q).ctx [(va, k.payload)] [] s' = some r →
      ∃ t, exec (.roceInboundPacket p) s = .next t ∧ t.hbm = r.2.hbm ∧ (qpOf t q).st = .rts ∧
        (qpOf t q).epsn = (qpOf s q).epsn ∧ (qpOf t q).lands = (qpOf s q).lands ++
          [{ id := (qpOf s q).nextLand, psn := k.psn.toNat, ev := false, dup := true, waits := r.1 }]) ∧
    (k.op ≠ .other → (k.psn.toNat + 2 ^ 24 - (qpOf s q).epsn) % 2 ^ 24 ≠ 0 → (k.psn.toNat + 2 ^ 24 - (qpOf s q).epsn) % 2 ^ 24 < 2 ^ 23 →
      ∃ t, exec (.roceInboundPacket p) s = .next t ∧ t.hbm = s.hbm ∧ qpOf t q = qpOf s' q)) ∧
  (∀ (s : State) (q : Nat) (l : QpLand) (r : List QpLand), Tables.wf s = true → (qpOf s q).lands = l :: r → l.waits = [] →
    ∃ t, exec (.rocePacketLanded q) s = .next t ∧ qpOf t q = { qpOf s q with lands := r } ∧
      (l.ev = true → l.dup = false → evOwned s (qpOf s q).ctx (qpOf s q).rxEvent = true →
        (evOf t (qpOf s q).rxEvent).cnt.toNat = min ((evOf s (qpOf s q).rxEvent).cnt.toNat + 1) (2 ^ 64 - 1)) ∧
      (l.ev = false ∨ l.dup = true → t.obj = s.obj))

/-- What the receiver of a port does with FEC blocks and frames (08 R190, R191, R198 to R201, R207): a block that its codewords give
is taken in, an uncorrected codeword marks the frames it has bytes of, a third bad block in a row starts a retrain; a good
DATA frame in sequence is accepted, one with a bad CRC asks for replay, an ACK clears the frames it covers, a NAK starts a
replay of every unacknowledged frame, and an INIT is kept for the training. What the transmitter of a port does at a frame
slot and at its timeout (08 R189, R198, R201, R207, R214): a replayed frame first, then a new DATA frame with the next SEQ,
VC-A before VC-Q, which joins the replay buffer; an INIT frame in training; the timeout of the oldest unacknowledged frame
starts a replay. Rests on the model's choice: logs 11 and 75. -/
def Obligations.LinkTransfersAct : Prop := Claims.LinkReceiverActs ∧ Claims.LinkTransmitterActs

/-- The states of a port (08 R203, R204, R207): the causes that start a retrain, the commands and time limits that move it on, the end
of training after the INIT handshake, and the entry into DOWN with its record. Rests on the model's choice: logs 11, 72 and 75. -/
def Obligations.LinkStatesMove : Prop :=
  ∀ (s : State) (p : Nat) (x : Port), Units.wf s = true → x = portOf s p → linkOn s p = true →
    (∀ (i : Instr) (hs : Bool), i = .lossOfSignal p hs ∨ i = .trainingPatternsReceived p hs →
      x.st = .active ∨ x.st = .replay →
      (x.lastDone = none →
        ∃ t, exec i s = .next t ∧ (portOf t p).st = .retrain ∧ (portOf t p).retrains = inc32b x.retrains ∧
          (domOn s dHOST = true → t.erq.incoming = s.erq.incoming ++ [{ code := 0x0603, src := 5, unit := p }])) ∧
      (∀ d, x.lastDone = some d → s.now ≤ d + 10000000 → 2 ≤ (recentFails s.now x.fails).length →
        ∃ t, exec i s = .next t ∧ (portOf t p).st = .down ∧ (portOf t p).unack = [] ∧ (portOf t p).rxQ = [])) ∧
    (∀ w : RegWr, barOn s = true → rwStraddles w 4 = false →
      (x.st = .active → x.lastDone = none → x.en = true → (rwMerge w 4 (nlkCtrl x)).testBit 0 = true →
        (rwOnes w 4).testBit 2 = true →
        ∃ t, exec (.nlkRetrain p w) s = .next t ∧ (portOf t p).st = .retrain) ∧
      (x.st = .down → (rwMerge w 4 (nlkCtrl x)).testBit 0 = true → (rwOnes w 4).testBit 1 = true →
        ∃ t, exec (.nlkTrain p w) s = .next t ∧ (portOf t p).st = .training ∧ (portOf t p).since = s.now) ∧
      ((rwOnes w 4).testBit 1 = false → (rwOnes w 4).testBit 2 = false →
        (x.st = .disabled → (rwMerge w 4 (nlkCtrl x)).testBit 0 = true →
          ∃ t, exec (.nlkEnable p w) s = .next t ∧ (portOf t p).st = .training ∧ (portOf t p).en = true) ∧
        ((rwMerge w 4 (nlkCtrl x)).testBit 0 = false →
          ∃ t, exec (.nlkEnable p w) s = .next t ∧ (portOf t p).st = .disabled ∧ (portOf t p).en = false))) ∧
    (∀ (lanes : Nat) (pol precode : BitVec 4) (coef : List (List (BitVec 8))) (skew : List Nat), linkClock s p = true →
      (lanes < 2 → (∀ n ∈ skew, n ≤ 32) → x.initsLeft = 0 → ∀ (partner next : Nat) (fresh : Bool),
        x.initRx = some (partner, fresh, next) →
        (x.st = .training → x.fresh = true →
          ∃ t, exec (.trainingComplete p lanes pol coef precode skew) s = .next t ∧ portOf t p = { noInit x with
            reversed := decide (lanes = 1), pol := pol,
            trained := { reversed := decide (lanes = 1), pol := pol, coef := coef, precode := precode, skew := skew },
            partnerPort := partner, e := 0, accepted := false, errSt := false, nakDue := false, txSeq := 0, unack := [],
            st := .active, replayLeft := [], cover := 0, replayRun := 0, ackAt := s.now, fresh := false, lastDone := none,
            up := (portOf t p).up, lsaQ := (portOf t p).lsaQ }) ∧
        (x.st = .retrain → x.fresh = false → fresh = false →
          ∃ t, exec (.trainingComplete p lanes pol coef precode skew) s = .next t ∧ portOf t p = { noInit x with
            reversed := decide (lanes = 1), pol := pol,
            trained := { reversed := decide (lanes = 1), pol := pol, coef := coef, precode := precode, skew := skew },
            partnerPort := partner, unack := belowNext next x.unack,
            st := if belowNext next x.unack = [] then .active else .replay, replayLeft := belowNext next x.unack,
            cover := (belowNext next x.unack).length, replayRun := 0, ackAt := s.now, fresh := false, lastDone := some s.now,
            up := (portOf t p).up, lsaQ := (portOf t p).lsaQ })) ∧
      (x.initRx = none ∨ x.initsLeft ≠ 0 → lanes < 2 → (∀ n ∈ skew, n ≤ 32) →
        exec (.trainingComplete p lanes pol coef precode skew) s = .next s) ∧
      (2 ≤ lanes ∨ (∃ n ∈ skew, 32 < n) →
        (x.st = .training → exec (.trainingComplete p lanes pol coef precode skew) s = .next s) ∧
        (x.st = .retrain → ∃ t, exec (.trainingComplete p lanes pol coef precode skew) s = .next t ∧
          (portOf t p).st = (if 2 ≤ (recentFails s.now x.fails).length then .down else .retrain)))) ∧
    (linkClock s p = true → x.st = .training → x.since + 500000000 ≤ s.now →
      ∃ t, exec (.trainingTimeout p) s = .next t ∧ (portOf t p).st = .down ∧
        (domOn s dHOST = true → ∃ l, t.erq.incoming = s.erq.incoming ++ { code := 0x0601, src := 5, unit := p } :: l)) ∧
    (linkClock s p = true → x.st = .retrain → x.since + 10000000 ≤ s.now →
      ∃ t, exec (.retrainTimeout p) s = .next t ∧
        (portOf t p).st = (if 2 ≤ (recentFails s.now x.fails).length then .down else .retrain)) ∧
    (linkClock s p = true → x.st = .down → x.auto = true → x.en = true → x.since + 1000000000 ≤ s.now →
      exec (.autoTrain p) s = .next (setPort s p { noInit x with st := .training, since := s.now }))

/-- A write of NLK_FLOW sets H and Y, unless H would be less than 16 KiB or H + Y greater than 768 KiB: then the write is ignored
and CFG_ERR is set (08 R218); a write that straddles the next register takes effect or not, as a draw has it. Periodic
recalibration (08 R219, R220): a window opens at the first idle moment of its period,
lasts 998.4 ns, and the tenth skipped period forces the next one. Rests on the model's choice: log 62. -/
def Obligations.FlowAndRecalibrationAct : Prop := Claims.FlowWriteChecked ∧ Claims.RecalibrationActs

/-- Requests at their destination that meet every check (09 R223, R236 to R239): what each does to memory, lanes and events. Rests
on the model's choice: logs 8 and 14. -/
def Obligations.RequestsAct : Prop :=
  ∀ (s s' : State) (src : Nat) (b d : Bytes), reqTaken s src b d s' →
    ((parseHdr b).ttype = 1 → 1 ≤ (parseHdr b).dlen → (parseHdr b).dlen ≤ 256 →
      ∀ p, hbmPieces s (parseHdr b).dstCtx (parseHdr b).va (parseHdr b).dlen false = some [p] →
        exec (.load src) s = .next (sendResp src (respHdr (parseHdr b) 9 0 (parseHdr b).dlen 0) (objRead s p.mo p.off p.len) s')) ∧
    ((parseHdr b).ttype = 2 → 1 ≤ (parseHdr b).dlen →
      ∀ p, hbmPieces s (parseHdr b).dstCtx (parseHdr b).va (parseHdr b).dlen true = some [p] →
        ∃ t, exec (.store src) s = .next t ∧ t.hbm = (objWrite p.mo p.off d s).2.hbm ∧ t.obj = s.obj ∧ t.tile = s.tile) ∧
    ((parseHdr b).ttype = 3 → 1 ≤ (parseHdr b).dlen →
      ∀ l, hbmPieces s (parseHdr b).dstCtx (parseHdr b).va (parseHdr b).dlen (!(parseHdr b).pull) = some l →
        ∃ t, exec (.copy src) s = .next t ∧
          t.hbm = (if (parseHdr b).pull then s.hbm else (landPieces l d [] s).2.hbm) ∧ t.obj = s.obj ∧ t.tile = s.tile) ∧
    ((parseHdr b).ttype = 4 → (parseHdr b).aop ≤ 4 → (parseHdr b).va % 8 = 0 →
      d.length = (if (parseHdr b).aop = 4 then 16 else 8) →
      ∀ p, hbmPieces s (parseHdr b).dstCtx (parseHdr b).va 8 true = some [p] →
        (∀ c, ((parseHdr b).aop = 0 ∧ c = Instr.atomicAdd src) ∨ ((parseHdr b).aop = 1 ∧ c = Instr.atomicMin src) ∨
            ((parseHdr b).aop = 2 ∧ c = Instr.atomicMax src) ∨ ((parseHdr b).aop = 3 ∧ c = Instr.atomicSwap src) ∨
            ((parseHdr b).aop = 4 ∧ c = Instr.atomicCas src) →
          ∃ t, exec c s = .next t ∧ t.obj = s.obj ∧ t.tile = s.tile ∧
            ∀ old x y : BitVec 64, old = BitVec.ofNat 64 (ofLe (objRead s p.mo p.off 8)) → x = BitVec.ofNat 64 (leAt d 0 8) →
              y = BitVec.ofNat 64 (leAt d 8 8) →
              t.hbm = (objWrite p.mo p.off (leBytes 8
                (match (parseHdr b).aop with
                  | 0 => old + x
                  | 1 => if x.slt old then x else old
                  | 2 => if old.slt x then x else old
                  | 3 => x
                  | _ => if old = x then y else old : BitVec 64).toNat) s).2.hbm)) ∧
    (Tables.wf s = true → (parseHdr b).ttype = 4 → (parseHdr b).aop = 5 → d.length = 64 * ((parseHdr b).lanes + 1) →
      bitsN (parseHdr b).va 7 12 + (parseHdr b).lanes + 1 ≤ 4096 → (parseHdr b).va < 2 ^ 19 →
      tileTarget s (parseHdr b).dstCtx ((parseHdr b).va % 128) = true →
      ∃ t, exec (.exaAdd src) s = .next t ∧ t.hbm = s.hbm ∧
        ∀ i (h : i < (imagesOf d).length), laneOf t ((parseHdr b).va % 128) (bitsN (parseHdr b).va 7 12 + i) =
          (addLane (laneOf s ((parseHdr b).va % 128) (bitsN (parseHdr b).va 7 12 + i)) (imagesOf d)[i]).open
            (archiveTile s ((parseHdr b).va % 128)) s.free (bitsN (parseHdr b).va 7 12 + i)) ∧
    (Tables.wf s = true → (parseHdr b).ttype = 4 → (parseHdr b).aop = 6 → d.length = 64 * ((parseHdr b).lanes + 1) →
      bitsN (parseHdr b).va 7 12 + (parseHdr b).lanes + 1 ≤ 4096 → (parseHdr b).va < 2 ^ 19 →
      tileTarget s (parseHdr b).dstCtx ((parseHdr b).va % 128) = true →
      ∀ gs, groupOpen (tileOf s ((parseHdr b).va % 128)).groups (parseHdr b).group = some gs →
        ∃ t, exec (.exaRed src) s = .next t ∧ t.hbm = s.hbm ∧
          (tileOf t ((parseHdr b).va % 128)).groups =
            gs.map (fun x => if x.group = (parseHdr b).group then contribute (parseHdr b) x else x) ∧
          ∀ i (h : i < (imagesOf d).length), laneOf t ((parseHdr b).va % 128) (bitsN (parseHdr b).va 7 12 + i) =
            (addLane (laneOf s ((parseHdr b).va % 128) (bitsN (parseHdr b).va 7 12 + i)) (imagesOf d)[i]).open
              (archiveTile s ((parseHdr b).va % 128)) s.free (bitsN (parseHdr b).va 7 12 + i)) ∧
    (Tables.wf s = true → (parseHdr b).ttype = 4 → (parseHdr b).aop = 7 → d = [] → (parseHdr b).va < 2 ^ 19 →
      tileTarget s (parseHdr b).dstCtx ((parseHdr b).va % 128) = true →
      ∀ n, findReduce s ((parseHdr b).va % 128) (parseHdr b).group = some n →
        (slotOf s ((parseHdr b).va % 128) n).txns ≠ [] →
        ∃ t, exec (.reduceDone src) s = .next t ∧
          (slotOf t ((parseHdr b).va % 128) n).redDone = some (parseHdr b).status ∧ t.hbm = s.hbm) ∧
    ((parseHdr b).ttype = 5 → d = [] → streamWaits s (parseHdr b) = false →
      ((parseHdr b).notify = true → evOwned s (parseHdr b).dstCtx (parseHdr b).event = true →
        ∃ t, exec (.fence src) s = .next t ∧ t.hbm = s.hbm ∧
          (evOf t (parseHdr b).event).cnt.toNat = min ((evOf s (parseHdr b).event).cnt.toNat + 1) (2 ^ 64 - 1)) ∧
      ((parseHdr b).notify = false → ∃ t, exec (.fence src) s = .next t ∧ t.hbm = s.hbm ∧ t.obj = s.obj))

/-- Responses at their source, and the sending of a segment (09 R224, R229 to R231). The NTX commands that meet every check put
one transaction of one segment into the engine (09 R254). Rests on the model's choice: logs 8, 14 and 17. -/
def Obligations.SegmentsAndNtxAct : Prop := Claims.SegmentsAct ∧ Claims.NtxCommandsAct

/-- What the network's commands leave as it was (07). What the commands of a port leave as it was (08): a register write of
NLK_FLOW, AUTO and the end of a recalibration window or period reach the port alone, a frame sent also what is sent, and a
change of state the routing, the records and the transactions that used the port; the other ports keep what is not theirs to
lose. What the fabric's commands leave as it was (10). A transaction command leaves the clocks, the supplies, the mesh, the
objects but their event counters and job marks, the keys but their counters, and the units that are not its own as they were;
LOAD, EXA-ADD, EXA-RED, REDUCE-DONE, FENCE, a DONE response, a segment sent and the NTX commands store no byte in HBM. -/
def Obligations.LinkSideFrames : Prop := Claims.NetworkFrame ∧ Claims.LinkFrame ∧ Claims.FabricFrame ∧ Claims.TransactionFrame

/-- The fabric's commands (10 R255 to R272): a transit segment goes whole to the output VC of its route or is dropped and counted;
Cairn frames are sent, taken in and missed; the routing table is computed anew; addresses are assigned, and given up where
they conflict. -/
def Obligations.FabricCommandsAct : Prop :=
  (∀ (s s' : State) (p : Nat) (vcA : Bool) (b : Bytes) (h : Hdr), linkRuns s p = true → takeHead p vcA s = .got b s' →
    h = parseHdr b → h.dstDev ≠ 255 → h.dstDev ≠ s.fab.addr.toNat →
    (∀ q, routePort s (upperPort s p) h.dstDev h.srcCtx h.order = some q →
      exec (.transitForward p vcA) s = .next (setPort s' q (if vcA then
        { portOf s' q with outA := (portOf s' q).outA ++ [(p, b)] } else
        { portOf s' q with outQ := (portOf s' q).outQ ++ [(p, b)] }))) ∧
    (routePort s (upperPort s p) h.dstDev h.srcCtx h.order = none →
      ∃ t, exec (.transitForward p vcA) s = .next t ∧ t.port = s'.port ∧
        t.fab.transitDrop.toNat = min (s.fab.transitDrop.toNat + 1) (2 ^ 32 - 1))) ∧
  (∀ (s : State) (p : Nat) (x : Port), Units.wf s = true → x = portOf s p → linkRuns s p = true → portUsable x = true →
    x.cairnOut = [] → x.cairnAt = 0 ∨ x.cairnAt - 1 + 10000000 ≤ s.now →
    ∃ t m, exec (.cairnSend p) s = .next t ∧ (portOf t p).cairnOut = [m] ∧ (portOf t p).cairnAt = s.now + 1 ∧
      m.length = 40 + 88 * byteAt m 4 ∧ byteAt m 4 ≤ 2 ∧ byteAt m 0 = 1 ∧ byteAt m 1 % 8 = p ∧
      byteAt m 2 = s.fab.addr.toNat ∧ leAt m 8 8 = s.id.uid.toNat ∧ leAt m 16 8 = s.fab.epoch.toNat) ∧
  (∀ (s : State) (p : Nat) (x : Port) (b : Bytes) (rest : List Bytes), Units.wf s = true → x = portOf s p →
    linkRuns s p = true → x.cairnIn = b :: rest →
    ∃ t, exec (.cairnReceive p) s = .next t ∧ (portOf t p).cairnIn = rest ∧
      (portOf t p).nbrUid.toNat = leAt b 8 8 ∧ (portOf t p).nbrPort.toNat = byteAt b 1 % 8 ∧
      (portOf t p).nbrAddr.toNat = byteAt b 2 ∧ (portOf t p).heardAt = some s.now ∧ (portOf t p).up = portUsable x ∧
      t.fab.epoch.toNat = max s.fab.epoch.toNat (leAt b 16 8)) ∧
  (∀ (s : State) (p a : Nat), Units.wf s = true → p < 8 → (portOf s p).heardAt = some a → a + 50000000 ≤ s.now →
    ∃ t, exec (.cairnTimeout p) s = .next t ∧ (portOf t p).up = false) ∧
  (∀ s : State, mcAwake s = true → s.fab.rtDirty = true →
    ∃ t, exec .routeRecompute s = .next t ∧ t.fab.rtDirty = false ∧ t.pair.leaving = none ∧
      ∀ d, d < 255 → tget 0x00FF0FFF t.fab.route d =
        (if s.fab.rtSource then tget 0x00FF0FFF s.fab.loaded d ||| 0x01000000
         else BitVec.ofNat 32 (computeRoute { s with pair.leaving := none } d))) ∧
  (∀ (s : State) (lead : Lsa), mcAwake s = true → autoMode s = true → (lsas s).find? (fun a => a.auto) = some lead →
    (lead.uid = s.id.uid → s.fab.dbAt + 200000000 ≤ s.now → s.fab.adigest.toNat ≠ dbDigest s →
      s.fab.epoch.toNat < 2 ^ 64 - 1 →
      ∃ t, exec .addressAssign s = .next t ∧ t.fab.adigest = BitVec.ofNat 32 (dbDigest s) ∧
        t.fab.epoch = s.fab.epoch + 1) ∧
    (∀ e, lead.uid ≠ s.id.uid → s.fab.adigest = 0 → lead.adigest.toNat = dbDigest s →
      (assignment (lsas s)).find? (fun e => decide (e.1 = s.id.uid)) = some e →
      ∃ t, exec .addressAssign s = .next t ∧ t.fab.addr = BitVec.ofNat 8 e.2 ∧ t.fab.epoch = s.fab.epoch)) ∧
  (∀ (s : State) (due : List Lsa), due = (rivals s s.fab.addr.toNat).filter (fun l =>
      decide (tget 0 s.fab.dup (dupKey s.fab.addr.toNat l) ≠ 0) &&
      decide (tget 0 s.fab.dup (dupKey s.fab.addr.toNat l) - 1 + 100000000 ≤ s.now)) → pairBound s = false →
    ∃ t, exec .addressConflict s = .next t ∧
      t.fab.addr = (if due.any (fun l => decide (l.uid.toNat < s.id.uid.toNat)) then 255 else s.fab.addr) ∧
      (domOn s dHOST = true → t.erq.incoming =
        s.erq.incoming ++ due.map (fun l => { code := 0x0702, src := 7, detail := l.uid.toNat })))

/-- Binding, synchronizing, heartbeats, misses and the end of a pair (10 R273, R279 to R281, R284). Mirror messages and
checkpoints (10 R275 to R279): a heartbeat goes out on VC-A with the next ALIVE and MSEQ; a partner stores the bytes, the
record or the checkpoint it is sent, where it belongs; an ACK ends its message, or sends it again after BAD; CK_GO sends the
checkpoint record. Rests on the model's choice: logs 7 and 13. -/
def Obligations.RopedPairActs : Prop := Claims.PairStatesMove ∧ Claims.MirrorMessagesAct

/-- The Keyholder's key commands (11 R287, R288, R300, R301, R306): done at once where they take no time, else held in progress;
refused at L2; the Hold Limit aborts the running one. Tamper, entropy and the JTAG port (11 R286, R302 to R304, R307 to R309): a
tamper event zeroizes and ends in a Cold reset; an entropy failure withholds random values; an instruction that the level does not
permit acts as BYPASS, EXTEST, CLAMP and HIGHZ zeroize; the trace of L1, and the accesses of L2, which halt and run the MC too;
the end of a debug session. Rests on the model's choice: logs 13 and 53. -/
def Obligations.KeyholderActs : Prop := Claims.KeyCommandsAct ∧ Claims.PortsOfTheKeyholderAct

/-- Challenge, grant and lowering of the debug level (11 R288, R305, R306): a challenge gives a fresh nonce, a grant consumes it
whether or not it verifies, an L2 grant evicts every context and zeroizes the keys, and the way down from L2 is a Cold reset.
Rests on the model's choice: logs 7, 8 and 53. -/
def Obligations.DebugCommandsAct : Prop :=
  (∀ s : State, secReady s → s.kh.rngOk = true →
    ∃ t, exec (.dbgChallenge false) s = .next t ∧ secOk t 0 ∧ t.kh.nonce = some (Config.random s.free) ∧
      t.kh.result = BitVec.ofNat 512 (ofLe (leBytes 8 s.id.uid.toNat ++ keyBytes (Config.random s.free))) ∧
      t.free = s.free + 1) ∧
  (∀ (s : State) (n : BitVec 256) (g : Bytes), secReady s → s.kh.nonce = some n → g = putB (List.replicate 256 0) 0 s.kh.grant →
    (grantOk s g n = false → (byteAt g 4 ≠ 2 ∨ s.pair.st = .unbound) →
      ∃ t, exec (.dbgGrant none) s = .next t ∧ secOk t 0x0B06 ∧ t.kh.nonce = none ∧ t.kh.dbg = s.kh.dbg) ∧
    (grantOk s g n = true → byteAt g 4 = 1 →
      ∃ t, exec (.dbgGrant none) s = .next t ∧ secOk t 0 ∧ t.kh.nonce = none ∧ t.kh.dbg = 1 ∧ t.obj = s.obj) ∧
    (Tables.wf s = true → grantOk s g n = true → byteAt g 4 = 2 → s.pair.st = .unbound →
      ∃ t, exec (.dbgGrant none) s = .next t ∧ secOk t 0 ∧ t.kh.nonce = none ∧ t.kh.dbg = 2 ∧ t.kh.ctxKey = [] ∧
        t.kh.memKey = [] ∧ t.kh.gcmKey = [] ∧ t.kh.pairSecret = none ∧ t.kh.run = [] ∧ t.vb.zeroCause = 3 ∧
        ∀ c, (ctxOf t c).st ≠ .live)) ∧
  (∀ s : State, secReady s →
    (s.kh.dbg = 1 → ∃ t, exec (.dbgLower false) s = .next t ∧ secOk t 0 ∧ t.kh.dbg = 0 ∧ t.obj = s.obj) ∧
    (s.kh.dbg = 2 → exec (.dbgLower false) s = .next (coldReset 4 s)))

/-- What a check-value channel's commands do while the MC runs (12 R314, R315, R317 to R320, R322). Rests on the model's choice:
log 54. -/
def Obligations.CvuCommandsAct : Prop :=
  ∀ (s : State) (c : Nat), mcAwake s = true → c < 4 → c < s.cvu.length →
    (∃ t, exec (.cvuStart c) s = .next t ∧ (cvuOf t c).opened = true ∧ (cvuOf t c).seen = false ∧ (cvuOf t c).hold = [] ∧
      (cvuOf t c).run = BitVec.ofNat 64 (crcStart (cvuOf s c).params) ∧ (cvuOf t c).params = (cvuOf s c).params) ∧
    ((cvuOf s c).opened = true → (cvuOf s c).attach = false → (cvuOf s c).mode ≠ 3 →
      (∀ v : BitVec 8, ∃ t, exec (.cvuData8 c v) s = .next t ∧ (cvuOf t c).seen = true ∧
        (cvuOf t c).run = BitVec.ofNat 64 (crcFeed (cvuOf s c).params (cvuOf s c).run.toNat [v])) ∧
      (∀ v : BitVec 16, ∃ t, exec (.cvuData16 c v) s = .next t ∧ (cvuOf t c).seen = true ∧
        (cvuOf t c).run = BitVec.ofNat 64 (crcFeed (cvuOf s c).params (cvuOf s c).run.toNat (leBytes 2 v.toNat))) ∧
      (∀ v : BitVec 32, ∃ t, exec (.cvuData32 c v) s = .next t ∧ (cvuOf t c).seen = true ∧
        (cvuOf t c).run = BitVec.ofNat 64 (crcFeed (cvuOf s c).params (cvuOf s c).run.toNat (leBytes 4 v.toNat)))) ∧
    ((cvuOf s c).opened = true → (cvuOf s c).seen = false → 1 ≤ (cvuOf s c).foldLen.toNat → (cvuOf s c).foldLen.toNat ≤ 8 →
      ∀ v : BitVec 64, ∃ t, exec (.cvuFold c v) s = .next t ∧ (cvuOf t c).fold = v ∧
        (cvuOf t c).run =
          BitVec.ofNat 64 (crcFeed (cvuOf s c).params (cvuOf s c).run.toNat (leBytes (cvuOf s c).foldLen.toNat v.toNat))) ∧
    ((cvuOf s c).foldLen = 0 ∨ ((cvuOf s c).opened = true ∧ (cvuOf s c).seen = true) →
      ∀ v : BitVec 64, ∃ t, exec (.cvuFold c v) s = .next t ∧ (cvuOf t c).foldLate = true ∧
        (cvuOf t c).run = (cvuOf s c).run ∧ ((cvuOf s c).opened = false → (cvuOf t c).cfgErr = true)) ∧
    ((cvuOf s c).opened = true → (cvuOf s c).mode = 1 →
      ∃ t, exec (.cvuFinish c) s = .next t ∧ (cvuOf t c).opened = false ∧ (cvuOf t c).done = true ∧
        (cvuOf t c).result = BitVec.ofNat 64 (crcResult (cvuOf s c).params (cvuOf s c).run.toNat) ∧
        ((cvuOf t c).matched = true ↔ crcResult (cvuOf s c).params (cvuOf s c).run.toNat =
          (cvuOf s c).expect.toNat % 2 ^ (cvuOf s c).width.toNat) ∧
        ((cvuOf t c).matched = false → (cvuOf t c).mismatch = true ∧ ((cvuOf s c).irqEn = true → t.out = s.out ++ [.cvuIrq c]))) ∧
    ((cvuOf s c).opened = false → ∀ v : Nat, v < 2 ^ 21 → 8 ≤ bitsN v 0 7 → bitsN v 0 7 ≤ 64 → 1 ≤ bitsN v 11 3 →
      bitsN v 11 3 ≤ 4 → bitsN v 18 2 ≠ 3 → bitsN v 9 2 ≤ 1 →
      ∃ t, exec (.cvuPreset c ⟨0, leBytes 4 v⟩) s = .next t ∧ crcPreset (bitsN v 11 3) = some (cvuOf t c).params ∧
        (cvuOf t c).preset = BitVec.ofNat 3 (bitsN v 11 3) ∧ (cvuOf t c).mode = BitVec.ofNat 2 (bitsN v 9 2)) ∧
    (∃ t, exec (.cvuAlvTx c) s = .next t ∧
      t.out = s.out ++ [.readData [BitVec.ofNat 8 ((cvuOf s c).alvTx.toNat % (cvuOf s c).alvMod)]] ∧
      (cvuOf t c).alvTx.toNat = ((cvuOf s c).alvTx.toNat + 1) % (cvuOf s c).alvMod) ∧
    ((cvuOf s c).alvW = 2 → (cvuOf s c).started = true → ∀ a l : BitVec 8, (cvuOf s c).alvLast = some l →
      ∃ t, exec (.cvuAlvRx c a) s = .next t ∧
        (cvuOf t c).alvClass = (if a = l then 2 else if a - l = 1 then 1 else 3) ∧
        (cvuOf t c).alvLast = some (if a - l = 1 then a else l))

/-- The seal commands and the landing of a sealed row (12 R323 to R325). -/
def Obligations.SealCommandsAct : Prop :=
  (∀ (s : State) (slot rsv : Nat) (d : Bytes), d = leBytes 64 s.sealer.stage.toNat → sealReady s rsv →
    onlyFields sealFields d = true → (tget {} s.sealer.slots slot).opened = false → isLive s (bitsAt d 0 0 7) = true →
    sealRangeBad s d = false →
    exec (.openSlot slot rsv) s = .next { s with
      sealer.opens := s.sealer.opens + 1, sealer.busy := false, sealer.done := true, sealer.code := 0,
      sealer.slots := tput {} s.sealer.slots slot
        { opened := true, desc := d, ctx := bitsAt d 0 0 7, queue := bitsAt d 2 0 10, opening := s.sealer.opens,
          crc := BitVec.ofNat 64 (mulx (crc64 (sliceB d 32 16)) (8 * leAt d 16 5)) } }) ∧
  (∀ (s : State) (slot rsv : Nat), sealReady s rsv → (tget {} s.sealer.slots slot).opened = true →
    exec (.sealDiscard slot rsv) s = .next { s with
      sealer.busy := false, sealer.done := true, sealer.code := 0, sealer.slots := tput {} s.sealer.slots slot {} }) ∧
  (∀ (s : State) (slot rsv : Nat), sealReady s rsv → (tget {} s.sealer.slots slot).opened = false →
    ∃ t, exec (.sealDiscard slot rsv) s = .next t ∧ t.sealer = { s.sealer with done := true, code := 0x0102 } ∧
      t.erq.incoming = s.erq.incoming ++
        [{ code := 0x0102, src := 2, unit := slot, detail := 2 + 256 * slot }]) ∧
  (∀ (s : State) (n : Nat) (r : SealRow) (x : SealSlot),
    s.sealer.rows.find? (fun r => decide (r.n = n) && r.waits.isEmpty) = some r → x = tget {} s.sealer.slots r.slot →
    ∃ t, exec (.sealRowLanded n) s = .next t ∧
      (x.opened = true → x.opening = r.opening → t.sealer.slots = tput {} s.sealer.slots r.slot { x with
        crc := x.crc ^^^ BitVec.ofNat 64 (mulx (crc64 r.data) (8 * (x.len - r.off - r.data.length))),
        bytes := x.bytes + r.data.length }) ∧
      (x.opened = false ∨ x.opening ≠ r.opening → t.sealer.slots = s.sealer.slots) ∧
      ∀ y ∈ t.sealer.rows, y.n ≠ n)

/-- Domain requests (13 R331, R332, R337): a write of SEL starts the request with the VALUE the register holds; it is done at once,
refused, or deferred by the Secure Hold, and checked again and done when that ends. Rests on the model's choice: logs 49 and
62. -/
def Obligations.DomainRequestsAct : Prop :=
  (∀ (s : State) (host : Bool) (w : RegWr) (v tgt : Nat), pwrIdle s → rwStraddles w 4 = false → (host = true → barOn s = true) →
    v = rwMerge w 4 (woHeld s 0x900008) → tgt = domTarget (bitsN v 0 10) (bitsN v 16 10) s →
    (rwTouches w 2 = false → rwTouches w 3 = false →
      exec (.pcrDomreq host w) s = .next { s with held := tput 0 s.held 0x900008 v }) ∧
    (rwTouches w 2 = true ∨ rwTouches w 3 = true →
      (v &&& 0xFC00FC00 ≠ 0 ∨ (host = true ∧ (bitsN v 16 10).testBit 0 = true) →
        exec (.pcrDomreq host w) s = .next { s with
          held := tput 0 s.held 0x900008 v,
          pwr.busy := false, pwr.done := true, pwr.code := 0x0101, pwr.pend := 0, pwr.defer := none }) ∧
      (v &&& 0xFC00FC00 = 0 → (host = true → (bitsN v 16 10).testBit 0 = false) →
        (needsBroken tgt = false → offRefused tgt true s = false → isGating tgt s = false ∨ holding s = false →
          ∃ t, exec (.pcrDomreq host w) s = .next t ∧ t.pwr.on = BitVec.ofNat 10 tgt ∧ t.pwr.busy = false ∧
            t.pwr.done = true ∧ t.pwr.code = 0 ∧ t.hbm = s.hbm) ∧
        (needsBroken tgt = true ∨ offRefused tgt true s = true →
          exec (.pcrDomreq host w) s = .next { s with
            held := tput 0 s.held 0x900008 v,
            pwr.busy := false, pwr.done := true, pwr.code := 0x0102, pwr.pend := 0, pwr.defer := none }) ∧
        (needsBroken tgt = false → offRefused tgt true s = false → isGating tgt s = true → holding s = true →
          exec (.pcrDomreq host w) s = .next { s with
            held := tput 0 s.held 0x900008 v,
            pwr.busy := true, pwr.reqAt := s.now, pwr.pend := BitVec.ofNat 10 (offSet tgt s),
            pwr.defer := some (.dom (BitVec.ofNat 10 (bitsN v 0 10)) (BitVec.ofNat 10 (bitsN v 16 10)) host, s.now) })))) ∧
  (∀ (s : State) (host : Bool) (w : RegWr), mcRuns s = true → (host = true → barOn s = true) → rwStraddles w 4 = false →
    s.pwr.busy = true ∨ s.pwr.moving = true → exec (.pcrDomreq host w) s = .next s) ∧
  (∀ (s : State) (value sel : BitVec 10) (host : Bool) (a tgt : Nat), s.pwr.defer = some (.dom value sel host, a) → s.kh.run = [] →
    tgt = domTarget value.toNat sel.toNat s →
    (needsBroken tgt = false → offRefused tgt true s = false →
      ∃ t, exec .domainRequestResume s = .next t ∧ t.pwr.on = BitVec.ofNat 10 tgt ∧
        t.pwr.defer = none ∧ t.pwr.busy = false ∧ t.pwr.done = true ∧ t.pwr.code = 0) ∧
    (needsBroken tgt = true ∨ offRefused tgt true s = true →
      exec .domainRequestResume s = .next { s with
        pwr.busy := false, pwr.done := true, pwr.code := 0x0102, pwr.pend := 0, pwr.defer := none })) ∧
  (∀ (s : State) (p : PState) (a : Nat), s.pwr.defer = some (.state p, a) → s.kh.run = [] →
    s.pwr.cur ≠ .p0 ∨ (∀ x ∈ s.quad, x.holder = none) →
    (stateRefused p s = false →
      ∃ t, exec .domainRequestResume s = .next t ∧ t.pwr.cur = p ∧ t.pwr.defer = none ∧ t.pwr.moving = false) ∧
    (stateRefused p s = true →
      exec .domainRequestResume s = .next { s with
        pwr.moving := false, pwr.goal := none, pwr.pcode := 0x0102, pwr.pend := 0, pwr.defer := none }))

/-- Power states (13 R334, R335, R336): a request from P0 waits for the quadrants, the entry switches the domains and records
those that were on, and the return to P0 brings them back. -/
def Obligations.PowerStatesMove : Prop :=
  (∀ (s : State) (host : Bool) (v : BitVec 3) (p : PState), pwrIdle s → (host = true → barOn s = true) → p = pstateOf v.toNat →
    v.toNat ≤ 3 →
    (p = s.pwr.cur → exec (.pcrPstateReq host v) s = .next { s with pwr.pcode := 0 }) ∧
    (p ≠ .p0 → s.pwr.cur = .p0 → s.pwr.stage = 5 → s.hif.loss = .idle → lowBlocked p s = false →
      (isGating (stateDoms p s) s = false ∨ holding s = false →
        exec (.pcrPstateReq host v) s = .next { s with
          pwr.moving := true, pwr.goal := some p, pwr.pcode := 0, pwr.reqAt := s.now }) ∧
      (isGating (stateDoms p s) s = true → holding s = true →
        exec (.pcrPstateReq host v) s = .next { s with
          pwr.moving := true, pwr.goal := some p, pwr.pcode := 0, pwr.reqAt := s.now, pwr.defer := some (.state p, s.now),
          pwr.pend := BitVec.ofNat 10 (offSet (stateDoms p s) s) })) ∧
    (p = .p0 → s.pwr.cur ≠ .p0 → s.pwr.stage = 5 → s.hif.loss = .idle →
      isGating s.pwr.record.toNat s = false ∨ holding s = false →
      ∃ t, exec (.pcrPstateReq host v) s = .next t ∧ t.pwr.cur = .p0 ∧ t.pwr.on = s.pwr.record ∧ t.pwr.moving = false)) ∧
  (∀ (s : State) (p : PState), s.pwr.goal = some p → s.pwr.moving = true → s.pwr.cur = .p0 → s.pwr.defer = none →
    (∀ x ∈ s.quad, x.holder = none) → stateRefused p s = false → isGating (stateDoms p s) s = false ∨ holding s = false →
    ∃ t, exec .p1Enter s = .next t ∧ t.pwr.cur = p ∧ t.pwr.record = s.pwr.on ∧ t.pwr.moving = false ∧ t.pwr.goal = none ∧
      t.pwr.on = BitVec.ofNat 10 (stateDoms p s) ∧ t.hbm = s.hbm) ∧
  (∀ s : State, barOn s = true → pwrIdle s → s.hif.loss = .idle →
    (s.pwr.d3 = false → s.pwr.cur = .p0 → lowBlocked .p1 s = false →
      exec (.pciPowerState true) s = .next { s with
        pwr.d3 := true, pwr.moving := true, pwr.goal := some .p1, pwr.pcode := 0, pwr.reqAt := s.now }) ∧
    (s.pwr.d3 = true → s.pwr.cur = .p1 → isGating s.pwr.record.toNat s = false ∨ holding s = false →
      ∃ t, exec (.pciPowerState false) s = .next t ∧ t.pwr.d3 = false ∧ t.pwr.cur = .p0 ∧ t.pwr.on = s.pwr.record)) ∧
  (∀ s : State, mcRuns s = true → s.pwr.cur = .p3 → s.pwr.perstN = true → s.hif.loss = .idle →
    ∃ t, exec .perstAssertInP3 s = .next t ∧ t.hif.loss = .draining ∧ t.hif.lossCause = 1 ∧ t.pwr.perstN = false ∧
      domOn t dHOST = true ∧ domOn t dMEM = true ∧ domOn t dSEC = true) ∧
  (∀ s : State, s.pwr.perstN = false → s.pwr.cur ≠ .p3 →
    exec .perstDeassert s = .next { s with pwr.perstN := true, pwr.perstAt := some s.now })

/-- The PCI Express side, the reference clocks, patrol scrub and telemetry (06 R138, R140, R149, 13 R340, R347, R348, R350, R351).
Rests on the model's choice: logs 67, 70 and 72. -/
def Obligations.BackgroundWorkActs : Prop :=
  (∀ (s : State) (link : HostLink), domOn s dHOST = true → s.pwr.perstN = true →
    exec (.dataLinkLayerUp link) s = .next { s with
      pwr.dllUp := true, pwr.rate := some link.rate, pwr.width := link.width, pwr.clkLost := s.pwr.clkLost &&& 0xE }) ∧
  (∀ (s : State) (a : Nat) (q : CfgReq), domOn s dHOST = true → s.pwr.perstN = true → s.pwr.perstAt = some a →
    a + 100000000 ≤ s.now →
    (s.pwr.stage ≠ 5 →
      exec (.configRequest q) s = .next { s with out := s.out ++ [.cfgRetry], free := s.free + 1 }) ∧
    (s.pwr.stage = 5 →
      (∀ b, q = .cxlCache b → exec (.configRequest q) s = .next { s with
        out := s.out ++ [.cfgDone], free := s.free + 1, pwr.cxl := b }) ∧
      (∀ b, q = .relaxedOrdering b → exec (.configRequest q) s = .next { s with
        out := s.out ++ [.cfgDone], free := s.free + 1, pwr.relaxed := b }) ∧
      (∀ (k : Nat) (x : BitVec 64), q = .bar k x → exec (.configRequest q) s = .next { s with
        out := s.out ++ [.cfgDone], free := s.free + 1,
        hif.bars := lset s.hif.bars k (BitVec.ofNat 64 (x.toNat / barSize k * barSize k)) }) ∧
      (∀ en mask, q = .msixControl en mask → ∃ t l, exec (.configRequest q) s = .next t ∧ t.hif.msixEn = en ∧
        t.hif.msixMask = mask ∧ t.out = s.out ++ .cfgDone :: l) ∧
      (q = .other → exec (.configRequest q) s = .next { s with out := s.out ++ [.cfgDone], free := s.free + 1 }) ∧
      (∀ i, q = .read i → exec (.configRequest q) s = .next { s with
        out := s.out ++ [.cfgData (cfgRead s i)], free := s.free + 1 }) ∧
      (q = .read .classCode → exec (.configRequest q) s = .next { s with
        out := s.out ++ [.cfgData [0x00, 0x00, 0x12]], free := s.free + 1 }))) ∧
  (∀ (s : State) (p : Nat), Units.wf s = true → p < 8 → domOn s (if p < 4 then dLNKA else dLNKB) = true →
    (portOf s p).st = .active →
    ∃ t, exec (.refclkLoss (if p < 4 then 1 else 2)) s = .next t ∧ (portOf t p).st = .down ∧
      t.pwr.clkLost = s.pwr.clkLost ||| (if p < 4 then 2 else 4)) ∧
  (∀ s : State, Units.wf s = true → domOn s dNET = true →
    ∃ t, exec (.refclkLoss 3) s = .next t ∧ (ethOf t 0).up = false ∧ (ethOf t 1).up = false ∧ t.port = s.port) ∧
  (∀ (s : State) (k : Nat) (x : Scrub), Units.wf s = true → k < 4 → domOn s dMEM = true → 3 ≤ s.pwr.stage →
    x = scrubOf s k → x.line + 1 < 402653184 →
    exec (.scrubLine k 0) s = .next (setScrub s k { x with line := x.line + 1 }) ∧
    (∃ t, exec (.scrubLine k 1) s = .next t ∧
      t.scrub = lset s.scrub k { x with
        line := x.line + 1, corr := BitVec.ofNat 64 (min (x.corr.toNat + 1) (2 ^ 64 - 1)) } ∧
      (domOn s dHOST = true → t.erq.incoming =
        s.erq.incoming ++ [{ code := 0x0401, src := 3, addr := k * 0x600000000 + 64 * x.line }])) ∧
    (∃ t, exec (.scrubLine k 2) s = .next t ∧
      t.scrub = lset s.scrub k { x with
        line := x.line + 1, uncorr := BitVec.ofNat 64 (min (x.uncorr.toNat + 1) (2 ^ 64 - 1)) } ∧
      (domOn s dHOST = true → t.erq.incoming =
        s.erq.incoming ++ [{ code := 0x0402, src := 3, addr := k * 0x600000000 + 64 * x.line }]))) ∧
  (∀ (s : State) (k : Nat) (bad : List (Nat × Nat)), Units.wf s = true → k < 4 → domOn s dMEM = true → 3 ≤ s.pwr.stage →
    scrubBehind (scrubOf s k) = true → (scrubOf s k).slotAt = 0 ∨ (scrubOf s k).slotAt - 1 + 1000000 ≤ s.now →
    ∃ t, exec (.scrubForcedSlot k bad) s = .next t ∧ (scrubOf t k).slotAt = s.now + 1 ∧
      (scrubOf t k).forced.toNat = min ((scrubOf s k).forced.toNat + 1) (2 ^ 64 - 1)) ∧
  (∀ (s : State) (x : TeleSample), Tables.wf s = true → Units.wf s = true → mcAwake s = true → 2 ≤ s.pwr.stage →
    s.tele.since + param s 0x9010 10 * 1000000 ≤ s.now →
    ∃ t, exec (.telemetrySample x) s = .next t ∧ t.tele.power = x.power ∧ t.tele.since = s.now ∧
      t.tele.energy.toNat = min (s.tele.energy.toNat + x.energy) (2 ^ 64 - 1) ∧ t.fab.transitDrop = 0 ∧
      ∀ p, p < 8 → linkOn s p = true → (portOf t p).crcErr = 0 ∧ (portOf t p).fecCorr = 0 ∧
        tget 0 t.dict.stat (0x2012 * 256 + (p + 1)) =
          min (tget 0 s.dict.stat (0x2012 * 256 + (p + 1)) + (portOf s p).crcErr.toNat) (2 ^ 64 - 1))

/-- The host-loss sequence, the resets and the boot stages (06 R162, 13 R343 to R347). BOOT_STAGE_COMPLETE (13 R347, R349): step 1
samples the straps, switches HOST on and starts the ROM, step 2 selects an image or parks, and each later step ends a stage.
Rests on the model's choice: logs 5 and 8. -/
def Obligations.ResetsAndBootAct : Prop := Claims.ResetCommandsAct ∧ Claims.BootStagesAdvance

/-- The watchdogs and the steps of an Abseil (14 R354, R355, R363 to R366): what starts it, the drain, the samples, the acceptance of
its records, the reset of its scope, 21 µs for each quadrant. Rests on the model's choice: log 56. -/
def Obligations.AbseilActs : Prop :=
  (∀ (s : State) (t : Nat), progExpired s t = true → s.hif.loss = .idle → s.rcv.step = 0 →
    ∃ u, exec (.tileProgressWatchdog t) s = .next u ∧ u.rcv.step = 2 ∧ u.rcv.expired = [t] ∧ u.rcv.firstTile = t ∧
      u.rcv.trigger = 0x0A01 ∧ u.rcv.since = s.now ∧ u.rcv.aseq = s.rcv.aseq + 1 ∧
      ∀ k, k < 4 → (u.rcv.scope.toNat.testBit k = true ↔ k ∈ heldQuads s (tileOf s t).queue)) ∧
  (∀ (s : State) (q : Nat) (j : Job), (queueOf s q).job = some j → j.ph = .running → jobLimit s q j ≠ 0 →
    jobLimit s q j ≤ j.ran → s.hif.loss = .idle →
    (s.rcv.step = 0 → ∃ u, exec (.jobWatchdog q) s = .next u ∧ u.rcv.step = 2 ∧ u.rcv.trigger = 0x0A02 ∧
      u.rcv.jobTrig = some q ∧ u.rcv.since = s.now) ∧
    (s.rcv.step ≠ 0 → s.rcv.step ≠ 6 → (∀ x ∈ s.rcv.suspects, x.queue ≠ q) →
      (ctxOf s (queueOf s q).ctx).st = .live →
      ∃ u, exec (.jobWatchdog q) s = .next u ∧ (ctxOf u (queueOf s q).ctx).st = .aborted)) ∧
  (∀ s : State, Tables.wf s = true → s.rcv.step = 2 → s.rcv.since + 1000000 ≤ s.now →
    ∃ u, exec .abseilDrainEnd s = .next u ∧ u.rcv.step = 3 ∧ u.rcv.scope = s.rcv.scope ∧
      ∀ x ∈ scopeTiles s, (tileOf u x).part ≠ .running) ∧
  (∀ s : State, s.rcv.step = 3 → domOn s dHOST = true →
    ((∃ e ∈ s.erq.incoming ++ s.rcv.recs, e.code = 0x0A01) →
      ∃ u, exec .abseilSampleDone s = .next u ∧ u.rcv.step = 4 ∧ u.tile = s.tile ∧ u.obj = s.obj ∧
        u.erq.incoming = s.erq.incoming ++ s.rcv.recs) ∧
    ((∀ e ∈ s.erq.incoming ++ s.rcv.recs, e.code ≠ 0x0A01) → s.rcv.jobTrig = none →
      ∃ u, exec .abseilSampleDone s = .next u ∧ u.rcv.step = 5 ∧ u.rcv.stepAt = s.now ∧ u.tile = s.tile ∧ u.obj = s.obj)) ∧
  (∀ (s : State) (i : Nat), s.rcv.step = 4 → domOn s dHOST = true → i < s.erq.incoming.length →
    s.erq.lastAcc ≠ some s.erq.time →
    ((∃ e ∈ ldel s.erq.incoming i, e.code = 0x0A01) →
      ∃ u, exec (.errorRecordAccept i) s = .next u ∧ u.rcv = s.rcv ∧ u.erq.incoming = ldel s.erq.incoming i) ∧
    ((∀ e ∈ ldel s.erq.incoming i, e.code ≠ 0x0A01) →
      (s.rcv.jobTrig = none →
        ∃ u, exec (.errorRecordAccept i) s = .next u ∧ u.rcv = { s.rcv with step := 5, stepAt := s.now } ∧
          u.erq.incoming = ldel s.erq.incoming i) ∧
      (∀ c, jobTrigCtx s = some c → s.rcv.queued = [] → (ctxOf s c).st = .live →
        ∃ u, exec (.errorRecordAccept i) s = .next u ∧ u.rcv.step = 0 ∧ u.rcv.scope = 0 ∧ (ctxOf u c).st = .aborted))) ∧
  (∀ (s : State) (hr : List Host.Cell), Units.wf s = true → s.rcv.step = 5 →
    (s.now < s.rcv.stepAt + 21000 * (scopeQuads s).length → exec (.abseilResetDone hr) s = .next s) ∧
    (s.rcv.stepAt + 21000 * (scopeQuads s).length ≤ s.now →
      ∃ u, exec (.abseilResetDone hr) s = .next u ∧ u.rcv.step = 6 ∧
        ∀ k, k < 4 → s.rcv.scope.toNat.testBit k = true → (quadOf u k).owner = none)) ∧
  (∀ s : State, 1 ≤ s.rcv.step → s.rcv.step ≤ 5 → s.rcv.since + 10000000 ≤ s.now → s.hif.loss = .idle →
    ∃ u, exec .abseilAbandon s = .next u ∧ u.hif.loss = .draining ∧ u.hif.lossAt = s.now ∧ u.hif.lossCore = 3 ∧
      u.rcv.step = 0)

/-- Solo Replay's end and limit (14 R366, R370, R371): a lone context that could not be replayed, or whose replay exceeds its
limit, is convicted and aborted; without a conviction the Abseil ends and is counted. Transaction timeouts, the MC watchdog
and the export (14 R357, R369, R376): the transaction of a tag that ran out ends with every tag it holds; a watchdog that was
not kicked is a Cold reset, but while the boot ROM kicks it; an export writes its 2,048 pages. Rests on the model's choice: logs 56
and 57. -/
def Obligations.SoloReplayAndTimeoutsAct : Prop := Claims.SoloReplayActs ∧ Claims.TimeoutsAndExportAct

/-- What the power, pin and background commands leave as it was (13): a domain request or a state's entry reaches the power
controller, the key tables, the links and Ethernet, the quadrants and the records; HBM keeps every byte. What the pair's
commands leave as it was (10). What the recovery commands leave as it was (14): the clock, the flash, the check-value units,
the identity and the chassis key always, and more where less is at stake. -/
def Obligations.PowerPairRecoveryFrames : Prop := Claims.PowerFrame ∧ Claims.PairFrame ∧ Claims.RecoveryFrame

/-- Requests on the field bus and through the mailbox (15 R390 to R395, R399): a READ answers the object's value, a WRITE what its
checks and its effect give, a segmented write is opened, grows, and ends. Rests on the model's choice: log 60. -/
def Obligations.DictionaryRequestsAct : Prop :=
  (∀ (s : State) (target : Nat) (frame v : Bytes) (r : CatRow), busHears s target → noneWaits s → 8 ≤ frame.length →
    byteAt frame 0 = 1 → bitsAt frame 5 2 6 = 0 → bitsAt frame 5 0 2 ≠ 3 → leAt frame 6 2 = 0 →
    catFind (leAt frame 2 2) (byteAt frame 4) = some (r, false) → r.acc ≠ .wo → leAt frame 2 2 ≠ 0x4000 →
    leAt frame 2 2 ≠ 0x6002 → v = objectValue (heard s) r (byteAt frame 4) → v.length ≤ 56 →
    ∃ t, exec (.stolegRead target frame) s = .next t ∧ t.out = s.out ++ [.can (640 + nodeId s) (canPad
      (responseHead 1 (byteAt frame 1) (leAt frame 2 2) (byteAt frame 4) v.length 0 ++ v))]) ∧
  (∀ (s u : State) (target index sub priv len : Nat) (frame v tr : Bytes), busHears s target → noneWaits s → byteAt frame 0 = 2 →
    bitsAt frame 5 2 6 = 0 → priv = bitsAt frame 5 0 2 → priv ≠ 3 → index = leAt frame 2 2 → sub = byteAt frame 4 →
    len = leAt frame 6 2 → len + trailerLen s index priv ≤ 56 → frame.length = 8 + len + trailerLen s index priv →
    v = (frame.drop 8).take len → tr = frame.drop (8 + len) → u = useChallenge priv (drawn (heard s)) →
    (∀ st d, writeOpen index sub priv len s = (st, d) → st ≠ 0 →
      exec (.stolegWrite target frame) s = .next (canSend 5 (responseHead 2 (byteAt frame 1) index sub d st) u)) ∧
    (∀ st d, (writeOpen index sub priv len s).1 = 0 → authGate index priv s = .refused st d → st ≠ 0 →
      exec (.stolegWrite target frame) s = .next (canSend 5 (responseHead 2 (byteAt frame 1) index sub d st) u)) ∧
    ((writeOpen index sub priv len s).1 = 0 → authGate index priv s = .free → ∀ st d x, writeValue index sub v u = (some st, d, x) →
      (st ≠ 0 → exec (.stolegWrite target frame) s = .next (canSend 5 (responseHead 2 (byteAt frame 1) index sub d st) x)) ∧
      (st = 0 → exec (.stolegWrite target frame) s = .next (afterWrite index v
        (canSend 5 (responseHead 2 (byteAt frame 1) index sub d 0) x)))) ∧
    (∀ k, (writeOpen index sub priv len s).1 = 0 → authGate index priv s = .verify →
      k = keyedWrite (busWrite frame) (nodeId s) priv v tr s →
      (Config.macTime (s.free + 1) ≠ 0 ∨ s.kh.run ≠ [] →
        exec (.stolegWrite target frame) s = .next { u with
          free := s.free + 2, dict.wait := some (busWrite frame),
          kh.run := s.kh.run ++ [(.write k, Config.macTime (s.free + 1))] }) ∧
      (Config.macTime (s.free + 1) = 0 → s.kh.run = [] → ∀ st d x, macCheck k (drawn u) = (st, d, x) → st ≠ 0 →
        exec (.stolegWrite target frame) s = .next (canSend 5 (responseHead 2 (byteAt frame 1) index sub d st) x)))) ∧
  (∀ (s : State) (k : KeyedWrite) (key : BitVec 256) (mac : Bytes), s.kh.chassis = some key →
    mac = (hmac256 (keyBytes key) (macBytes k.node k.w.op k.w.index k.w.sub k.value.length (leAt k.trailer 0 4) k.chal
      k.value)).take 8 →
    (mac ≠ sliceB k.trailer 4 8 → (macCheck k s).1 = 0x0B08 ∧ (macCheck k s).2.1 = 9 ∧ (macCheck k s).2.2.vb = s.vb) ∧
    (mac = sliceB k.trailer 4 8 → leAt k.trailer 0 4 ≤ s.vb.auth.toNat → macCheck k s = (0x0B08, 10, s)) ∧
    (mac = sliceB k.trailer 4 8 → s.vb.auth.toNat < leAt k.trailer 0 4 →
      macCheck k s = (0, 0, { s with vb.auth := BitVec.ofNat 32 (leAt k.trailer 0 4) }))) ∧
  (∀ (s : State) (target : Nat) (frame : Bytes), busHears s target → noneWaits s → 8 ≤ frame.length → byteAt frame 0 = 3 →
    bitsAt frame 5 2 6 = 0 → bitsAt frame 5 0 2 ≠ 3 → s.dict.xfer = none →
    writeOpen (leAt frame 2 2) (byteAt frame 4) (bitsAt frame 5 0 2) (leAt frame 6 2) s = (0, 0) →
    ∃ t, exec (.writeSeg target frame) s = .next t ∧
      t.dict.xfer = some { index := leAt frame 2 2, sub := byteAt frame 4, client := byteAt frame 1,
                           priv := bitsAt frame 5 0 2, len := leAt frame 6 2, since := s.now } ∧
      (4 ≤ s.cvu.length → (cvuOf t 3).opened = true ∧ (cvuOf t 3).mode = 3 ∧ (cvuOf t 3).attach = true) ∧
      t.out = s.out ++ [.can (640 + nodeId s)
        (canPad (responseHead 3 (byteAt frame 1) (leAt frame 2 2) (byteAt frame 4) 0x80 0))]) ∧
  (∀ (s : State) (target : Nat) (frame : Bytes) (x : SegXfer), busHears s target → noneWaits s → 2 ≤ frame.length →
    s.dict.xfer = some x → x.full = false → byteAt frame 1 = x.client → bitsAt frame 0 0 4 = x.k % 16 →
    (bitsAt frame 0 4 1 = 0 → ∃ t, exec (.segDown target frame) s = .next t ∧ t.out = s.out ∧
      t.dict.xfer = some { x with since := s.now, data := x.data ++ frame.drop 2, k := x.k + 1 }) ∧
    (bitsAt frame 0 4 1 = 1 → x.data.length + (frame.drop 2).length < x.len + trailerLen s x.index x.priv + 4 →
      ∃ t, exec (.segDown target frame) s = .next t ∧ t.dict.xfer = none ∧ t.dict.val = s.dict.val ∧
        t.out = s.out ++ [.can (640 + nodeId s) (canPad (responseHead 3 x.client x.index x.sub 5 0x0B05))]) ∧
    (∀ b u, bitsAt frame 0 4 1 = 1 → b = (frame.drop 2).take (segTotal x s - x.data.length) →
      (x.data ++ b).length = segTotal x s →
      u = streamFeed b { heard s with dict.xfer := some { x with
        since := s.now, data := x.data ++ b, k := x.k + 1, full := true } } → (streamCheck u).1 = true →
      exec (.segDown target frame) s = .next (writeAndAnswer
        { mbx := false, op := 3, client := x.client, index := x.index, sub := x.sub } (nodeId s) x.priv
        ((x.data ++ b).take x.len) (((x.data ++ b).drop x.len).take (trailerLen s x.index x.priv))
        { (streamCheck u).2 with dict.xfer := none }))) ∧
  (∀ (s : State) (target : Nat) (frame : Bytes) (x : SegXfer), busHears s target → noneWaits s → 8 ≤ frame.length →
    byteAt frame 0 = 4 → bitsAt frame 5 2 6 = 0 → bitsAt frame 5 0 2 ≠ 3 → s.dict.xfer = some x → byteAt frame 1 = x.client →
    ∃ t, exec (.stolegAbort target frame) s = .next t ∧ t.dict.xfer = none ∧ t.dict.val = s.dict.val ∧
      (x.priv = 2 → t.dict.challenge = none) ∧ t.out = s.out ++ [.can (640 + nodeId s)
        (canPad (responseHead 4 (byteAt frame 1) (leAt frame 2 2) (byteAt frame 4) 0 0))]) ∧
  (∀ (s : State) (x : SegXfer), s.dict.xfer = some x → x.full = false → dictServed s = true → x.since + param s 0x1027 500 * 1000000 ≤ s.now →
    ∃ t, exec .segmentTimeout s = .next t ∧ t.dict.xfer = none ∧ t.dict.val = s.dict.val) ∧
  (∀ (s : State) (w : RegWr) (v : Bytes) (r : CatRow), hostReady s = true → mcAwake s = true → noneWaits s →
    s.dict.mbxBusy = false → rwStraddles w 4 = false → (rwOnes w 4).testBit 0 = true → byteAt s.dict.mbxReq 0 = 1 →
    bitsAt s.dict.mbxReq 5 2 6 = 0 → bitsAt s.dict.mbxReq 5 0 2 ≠ 3 → leAt s.dict.mbxReq 6 2 = 0 →
    catFind (leAt s.dict.mbxReq 2 2) (byteAt s.dict.mbxReq 4) = some (r, false) → r.acc ≠ .wo →
    leAt s.dict.mbxReq 2 2 ≠ 0x4000 → leAt s.dict.mbxReq 2 2 ≠ 0x6002 → v = objectValue s r (byteAt s.dict.mbxReq 4) →
    ∃ t, exec (.mbxGo w) s = .next t ∧ t.dict.mbxBusy = false ∧ t.dict.mbxDone = true ∧ t.dict.mbxCode = 0 ∧
      t.dict.mbxRlen = BitVec.ofNat 16 v.length ∧ t.dict.mbxRsp = putB s.dict.mbxRsp 0 v)

/-- The node on the field bus (15 R387, R388, R396, R398): heartbeats, conflicts of node ID, bus-off; and the challenge (R385).
Rests on the model's choice: log 61. -/
def Obligations.FieldBusNodeActs : Prop :=
  (∀ (s : State) (target : Nat) (frame : Bytes), dictServed s = true → s.dict.onBus = true → s.dict.busOff = false →
    nodeId s ≠ 0 → target = 0 ∨ target = nodeId s → byteAt frame 0 = 1 →
    ∃ t m, exec (.identify target frame) s = .next t ∧ t.out = s.out ++ [.can (1792 + nodeId s) m] ∧ t.dict.hbAt = s.now ∧
      t.dict.hbCount = s.dict.hbCount + 1) ∧
  (∀ s : State, dictServed s = true → s.dict.onBus = true → s.dict.busOff = false → nodeId s ≠ 0 → param s 0x1023 1000 ≠ 0 →
    s.dict.hbAt + param s 0x1023 1000 * 1000000 ≤ s.now →
    ∃ t m, exec .stolegHeartbeatSend s = .next t ∧ t.out = s.out ++ [.can (1792 + nodeId s) m] ∧ t.dict.hbAt = s.now) ∧
  (∀ (s : State) (node : Nat), dictServed s = true → s.dict.onBus = true → s.dict.busOff = false →
    exec (.heartbeatReceive node) s = .next { heard s with
      dict.conflict := s.dict.conflict || (decide (node = nodeId s) && decide (node ≠ 0)) }) ∧
  (∀ s : State, s.dict.onBus = true → s.dict.busOff = false → 4 ≤ s.dict.bus.length →
    ∃ t, exec .busOff s = .next t ∧ t.dict.busOff = true ∧ t.dict.busOffAt = s.now ∧ t.dict.txErr = 256 ∧
      lget 0 t.dict.bus 3 = lget 0 s.dict.bus 3 + 1 ∧
      lget 0 s.dict.bus 2 + (263 - s.dict.txErr) / 8 ≤ lget 0 t.dict.bus 2) ∧
  (∀ s : State, s.dict.busOff = true → s.dict.busOffAt + 1408000 ≤ s.now →
    exec .busOffRecovery s = .next { s with dict.busOff := false, dict.txErr := 0, dict.rxErr := 0 }) ∧
  (∀ s : State, dictServed s = true → domOn s dSEC = true → s.kh.rngOk = true →
    exec .writeChallenge s = .next { s with
      free := s.free + 1, dict.challenge := some (Config.random s.free),
      out := s.out ++ [.readData ((keyBytes (Config.random s.free)).take 16)] })

/-- The rows that are one object of the dictionary (10 R262, R263, R269, R284, 11 R312, 13 R335, R343, 14 R374, 15 R386, 17 R431,
R432): what each accepted write or read does. Updates and settings (16 R412 to R414, R422): BEGIN starts the erases, data is
programmed in order from its offset, ABORT closes, FINISH closes and gives the verdict of the image when its verification ends,
and meanwhile all are refused; a confirmed image is no longer on trial; defaults restored empty the stored values. Rests on the
model's choice: log 58. -/
def Obligations.DictionaryAndFirmwareObjectsAct : Prop := Claims.DictionaryObjectsAct ∧ Claims.FirmwareObjectsAct

/-- Commands that only the field bus carries change the dictionary's own state and the frames sent; a segment that does not end
its write, a frame of another node, and each read of the clock leave the rest (15 R387 to R398, 17 R431, R433). Resets and the
loss of supplies leave the fuses, the flash banks and the identity of the device; the commands of the host-loss sequence and a
Device-Core reset leave the clock and the VBAT domain too (06 R162, 13 R343 to R346, 18 R446, R452, R457). -/
def Obligations.ManagementAndResetFrames : Prop := Claims.ManagementFrame ∧ Claims.ResetFrame

/-- A flash command of 16 R404 is started where the controller is idle, its operands are right and the store does not come from
the bank it changes (R406). A PROGRAM or an erase fetched from the bank it would change is refused: nothing is stored, CODE is
ERR_FLASH_BANK_XIP and the refusal is counted (16 R406, R408). A flash command ends (16 R404, R405): what its array operation
stored, read or found; after an erase of an update the next one starts, or the update is open (R412, R413). Rests on the
model's choice: logs 9 and 58. -/
def Obligations.FlashCommandsAct : Prop := Claims.FlashCommandsStart ∧ Claims.FlashRefusesOwnBank ∧ Claims.FlashCommandEnds

/-- CAPTURE, SET and SHIFT are accepted where the RTC is not locked, none is waiting and their value is valid (17 R430 to R433);
the next crystal tick applies the one accepted (R431, R432) and advances the prescaler and, with no command, carry or trim,
SUB by 1 (R425). The supplies and the board (18, 17 R429, R436): what each event does where its condition holds. -/
def Obligations.SupplyAndRtcCommandsAct : Prop := Claims.RtcCommandsAct ∧ Claims.SupplyEventsAct

/-- A check-value channel's commands change that channel, what is sent outward and the draws of open bytes; no other channel and
no other state. The RTC commands and a crystal tick change the clock, RTC_ALARM_N and nothing else (17). The flash commands
change the flash, what a refusal records (05 R136), the draws of open bytes, and nothing else. The seal commands leave all but
the Seal Engine and the records as they were; a landed row reaches only its slot, the descriptors and the jobs that wait for
it (12 R323, R324). What the Keyholder's commands leave as it was: a key command reaches the key stores, and CHASSIS_SET also
the wrapped copy in the flash's settings; a challenge, an L1 grant and a JTAG instruction that does not touch the pins leave
every key and every context. -/
def Obligations.SmallUnitFrames : Prop :=
  Claims.CvuFrame ∧ Claims.RtcFrame ∧ Claims.FlashFrame ∧ Claims.SealFrame ∧ Claims.KeyFrame

/-- The frame of memory: STORE, COPY, the integer atomics, MOVE and a Deposit write change no byte of HBM but those of the
addresses they store to (03 R77, R78; 06 R154; 09 R223, R237, R238; 11 R293). A request that is refused, or is not at the head
of its buffer, stores nothing. -/
def Obligations.StoresKeepOtherBytes : Prop :=
  (∀ (s : State) (m : MemObj) (off a : Nat) (b : Bytes), Memory.wf s = true → b ≠ [] → ¬storeCovers m off b.length a →
    hbmRead (objWrite m off b s).2 a 1 = hbmRead s a 1) ∧
  (∀ (s t : State) (src a : Nat), Memory.wf s = true →
    (∀ b s', takeHead src false s = .got b s' →
      ¬vaCovers s (parseHdr b).dstCtx (parseHdr b).va (parseHdr b).dlen a) →
    exec (.store src) s = .next t ∨ exec (.copy src) s = .next t → hbmRead t a 1 = hbmRead s a 1) ∧
  (∀ (s t : State) (src a : Nat), Memory.wf s = true →
    (∀ b s', takeHead src false s = .got b s' → ¬vaCovers s (parseHdr b).dstCtx (parseHdr b).va 8 a) →
    exec (.atomicAdd src) s = .next t ∨ exec (.atomicMin src) s = .next t ∨ exec (.atomicMax src) s = .next t ∨
      exec (.atomicSwap src) s = .next t ∨ exec (.atomicCas src) s = .next t → hbmRead t a 1 = hbmRead s a 1) ∧
  (∀ (s u : State) (t n a : Nat) (hr : List Host.Cell), Memory.wf s = true →
    (bitsAt (slotOf s t n).desc 16 0 2 = 0 → ∀ r i, r < moveRows (slotOf s t n).desc → i < moveLen (slotOf s t n).desc →
      ¬vaCovers s ((tileOwner s t).getD 0) (moveRemote (slotOf s t n).desc r) (moveLen (slotOf s t n).desc) a ∧
      ¬vaCovers s ((tileOwner s t).getD 0) (moveRemote (slotOf s t n).desc r + i) 1 a) →
    bitsAt (slotOf s t n).desc 16 0 2 ≠ 3 → exec (.move t n hr) s = .next u → hbmRead u a 1 = hbmRead s a 1) ∧
  (∀ (s t : State) (off req a : Nat) (data : Bytes) (poisoned : Bool), Memory.wf s = true → data ≠ [] →
    ¬storeCovers (moOf s (depOf s (off / 0x4000000)).memobj.toNat)
      ((depOf s (off / 0x4000000)).objOff.toNat + off % 0x4000000) data.length a →
    exec (.depositWrite off data req poisoned) s = .next t → hbmRead t a 1 = hbmRead s a 1)

/-- Exact Transport (09 R242, R243). The encoder's record of a slot that may be sent: SIGN is bit 255 of N, LZ is 1 exactly when
LOSS_CNT is 0, exactly the limbs equal to the fill are omitted. The decoder accepts any MASK and SIGN. Decoding a record that
the encoder wrote, whatever follows it, gives the image back; decoding the coding of slots gives the slots, each image
followed by 16 bytes 0. -/
def Obligations.ExactTransportIsExact : Prop :=
  (∀ b : Bytes, b.length = 64 → slotFit b = true →
    byteAt (etRecord b) 1 = b2n (imageSign b) + 2 * b2n (decide (leAt b 32 4 = 0)) ∧
    (∀ k, k < 8 → (byteAt (etRecord b) 0).testBit k = decide (limbOf b k ≠ fillOf (imageSign b))) ∧
    (etRecord b).length = 8 + (if leAt b 32 4 = 0 then 0 else 4) +
      4 * ((List.range 8).filter (fun k => decide (limbOf b k ≠ fillOf (imageSign b)))).length ∧
    ∀ r : Bytes, etOne (etRecord b ++ r) = some (b.take 48, r)) ∧
  (∀ (mask flags anchor loss : Nat) (sign lz : Bool) (v : Nat → Nat) (r : Bytes), mask < 256 → flags < 2 ^ 31 →
    flags / 2 ^ 29 ≠ 3 → anchor < 1024 → loss < 2 ^ 32 → (∀ k, v k < 2 ^ 32) →
    etOne (leBytes 1 mask ++ leBytes 1 (b2n sign + 2 * b2n lz) ++ leBytes 4 flags ++ leBytes 2 anchor ++
        (if lz then [] else leBytes 4 loss) ++ ((List.range 8).filter mask.testBit).flatMap (fun k => leBytes 4 (v k)) ++ r) =
      some ((List.range 8).flatMap (fun k => leBytes 4 (if mask.testBit k then v k else fillOf sign)) ++
        leBytes 4 (if lz then 0 else loss) ++ leBytes 4 flags ++ leBytes 2 anchor ++ leBytes 6 0, r)) ∧
  (∀ slots : List Bytes, (∀ b ∈ slots, b.length = 64 ∧ slotFit b = true) →
    ∃ c, encodeSeg 1 slots.flatten = some c ∧ decodeSeg 1 slots.flatten.length c = some slots.flatten ∧
      ∀ b ∈ slots, b.drop 48 = List.replicate 16 0)

/-- Pixel Lossless (09 R245, R246): W is the smallest width that holds every mapped residual of the block; a block of n samples
takes at most 1 + 2n bytes, a segment of 4,096 bytes at most 4,128; W above 16, or a bit beyond the packed residuals, is
refused; decoding what the encoder wrote gives the bytes back. -/
def Obligations.PixelLosslessIsExact : Prop :=
  (∀ x : List Nat, 1 ≤ x.length → x.length ≤ 64 → (∀ v ∈ x, v < 65536) →
    byteAt (plBlock x) 0 ≤ 16 ∧ (∀ z ∈ plResid x, z < 2 ^ byteAt (plBlock x) 0) ∧
    (∀ w, w < byteAt (plBlock x) 0 → ∃ z ∈ plResid x, 2 ^ w ≤ z) ∧ (plBlock x).length ≤ 1 + 2 * x.length ∧
    ∀ r : Bytes, plOne x.length (plBlock x ++ r) = some (x, r)) ∧
  (∀ b : Bytes, b.length = 4096 → (plEncode b).length ≤ 4128) ∧
  (∀ (n : Nat) (b : Bytes), 16 < byteAt b 0 → plOne n b = none) ∧
  (∀ (n : Nat) (b : Bytes), 1 ≤ n → byteAt b 0 < 16 →
    ofLe (sliceB b 3 (((n - 1) * byteAt b 0 + 7) / 8)) / 2 ^ ((n - 1) * byteAt b 0) ≠ 0 → plOne n b = none) ∧
  (∀ b : Bytes, b.length % 2 = 0 → ∃ c, encodeSeg 2 b = some c ∧ decodeSeg 2 b.length c = some b)

/-- The loss of BEC-12 (09 R247, R248): what a block decodes to. A block with an infinity or a NaN comes back as it was. In a
finite block, with E its largest exponent field or 1, every element keeps its sign and lies within 2^(E − 26) of what it was,
which is 2^(e_block − 11); elements whose exponent field is E, and subnormals where E is 1, are exact; one that rounds to
magnitude 0 is a zero of its sign. -/
def Obligations.Bec12LossBound : Prop :=
  ∀ x : List Nat, x.length = 16 → (∀ v ∈ x, v < 65536) →
    ∃ y : List Nat, becMany 1 (becBlock x) = some y ∧ y.length = 16 ∧
      ((∃ v ∈ x, expOf v = 31) → y = x ∧ byteAt (becBlock x) 0 = 31) ∧
      ((∀ v ∈ x, expOf v ≠ 31) → ∀ i a b : Nat, x[i]? = some a → y[i]? = some b →
        b < 65536 ∧ expOf b ≠ 31 ∧ b / 32768 = a / 32768 ∧
        4 * ((magOf b : Int) - (magOf a : Int)).natAbs ≤ 2 ^ blockExp x ∧
        (expOf a = blockExp x ∨ (blockExp x = 1 ∧ expOf a = 0) → b = a) ∧
        (magOf b = 0 → b = 32768 * (a / 32768)))

/-- February has 29 days in a year divisible by 4 and not by 100, or divisible by 400, and 28 in every other; no second is ever a
leap second (17 R426). -/
def Obligations.CalendarLeapYears : Prop :=
  (∀ s : State, carryDue s → s.rtc.t.sec = 59 → s.rtc.t.min = 59 → s.rtc.t.hour = 23 → s.rtc.t.month = 2 →
    ∃ t, exec .rtcTick s = .next t ∧ t.rtc.t.hour = 0 ∧ t.rtc.t.min = 0 ∧ t.rtc.t.sec = 0 ∧ t.rtc.t.year = s.rtc.t.year ∧
      ((s.rtc.t.year.toNat % 4 = 0 ∧ s.rtc.t.year.toNat % 100 ≠ 0) ∨ s.rtc.t.year.toNat % 400 = 0 →
        (s.rtc.t.day = 28 → t.rtc.t.day = 29 ∧ t.rtc.t.month = 2) ∧ (s.rtc.t.day = 29 → t.rtc.t.day = 1 ∧ t.rtc.t.month = 3)) ∧
      (¬((s.rtc.t.year.toNat % 4 = 0 ∧ s.rtc.t.year.toNat % 100 ≠ 0) ∨ s.rtc.t.year.toNat % 400 = 0) →
        s.rtc.t.day = 28 → t.rtc.t.day = 1 ∧ t.rtc.t.month = 3) ∧
      (s.rtc.t.day.toNat < 28 → t.rtc.t.day = s.rtc.t.day + 1 ∧ t.rtc.t.month = 2)) ∧
  (∀ s : State, carryDue s → s.rtc.t.sec = 59 → ∃ t, exec .rtcTick s = .next t ∧ t.rtc.t.sec = 0 ∧ t.rtc.t.sub = 0)

/-- WDAY advances by 1 each time DAY increments, goes from 6 to 0, and nothing else of the calendar changes it: not SET, not
SHIFT, not the calendar's wrap; software sets it (17 R428). -/
def Obligations.WeekdayCounter : Prop :=
  (∀ s : State, clockRuns s → (∀ n, s.rtc.cmd ≠ some (2, n)) →
    ∃ t, exec .rtcTick s = .next t ∧ (t.rtc.t.day = s.rtc.t.day → t.rtc.wday = s.rtc.wday) ∧
      (t.rtc.t.day ≠ s.rtc.t.day →
        s.rtc.t.year.toNat < 2299 ∨ s.rtc.t.month.toNat < 12 ∨ (s.rtc.t.month = 12 ∧ s.rtc.t.day.toNat < 31) →
        t.rtc.wday = if s.rtc.wday.toNat < 6 then s.rtc.wday + 1 else 0) ∧
      (s.rtc.t.year = 2299 → s.rtc.t.month = 12 → s.rtc.t.day = 31 → t.rtc.wday = s.rtc.wday)) ∧
  (∀ (s : State) (n : Int), clockRuns s → s.rtc.cmd = some (2, n) → s.rtc.t.hour.toNat < 23 →
    ∃ t, exec .rtcTick s = .next t ∧ t.rtc.wday = s.rtc.wday) ∧
  (∀ s t : State, exec .rtcSet s = .next t → t.rtc.wday = s.rtc.wday) ∧
  (∀ (s t : State) (n : BitVec 16), exec (.shift n) s = .next t → t.rtc.wday = s.rtc.wday) ∧
  (∀ (s : State) (src v : Nat), mcAwake s = true → s.rtc.locked = false → v < 7 →
    ∃ t, exec (.registerWrite (.mc src) 0x4000200C (leBytes 4 v)) s = .next t ∧ t.rtc = { s.rtc with wday := BitVec.ofNat 3 v })

/-- A read of CVU_RESULT while a computation is open returns the result as FINISH would fix it at that moment, and the computation
goes on unchanged; FINISH fixes the result, sets DONE and clears OPEN (12 R318). -/
def Obligations.OpenCvuResultReads : Prop :=
  ∀ (s : State) (c src : Nat), mcAwake s = true → c < 4 → s.cvu.length = 4 → (cvuOf s c).opened = true →
    ∃ (v : BitVec 64) (t u : State),
      exec (.rcCounterRead (.mc src) (0x40001040 + 0x100 * c) 8) s = .next t ∧
      t.out = s.out ++ [.readData (leBytes 8 v.toNat)] ∧ t.cvu = s.cvu ∧
      exec (.cvuFinish c) s = .next u ∧ (cvuOf u c).result = v ∧ (cvuOf u c).done = true ∧ (cvuOf u c).opened = false

/-- A lane whose count of products would pass 2^24 overflows (02 R37). A failed lane stays failed through every later addition and
makes failed every lane it is added into; in Archive mode a lane that receives a partial with LOSS set fails (02 R41). -/
def Obligations.LanesFailForGood : Prop :=
  (∀ a b : Lane, 2 ^ 24 < a.cnt.toNat + b.cnt.toNat → (addLane a b).ovf = true) ∧
  (∀ (a : Lane) (neg : Bool) (m : Nat) (e : Int), 2 ^ 24 < a.cnt.toNat + 1 → (addProduct a neg m e).ovf = true) ∧
  (∀ (a b : Lane) (archive : Bool), a.failed archive = true →
    (addLane a b).failed archive = true ∧ (addLane b a).failed archive = true ∧
    ∀ neg m e, (addProduct a neg m e).failed archive = true) ∧
  (∀ a b : Lane, b.loss = true → (addLane a b).failed true = true)
end

