-- ==== Sys2Proof/Laws/Fec.lean ====
section
/-!
SUPPORT. What the decoder of a codeword can do (08 R190): a word that is a codeword is given back with nothing corrected, a word that
is none with at most 15 symbols corrected or not at all, and lanes that do not line up give no codeword.
-/
namespace Sys2Proof.Machine

@[simp] theorem gfMul_zero (a : Nat) : gfMul a 0 = 0 := by simp [gfMul, gfStep, List.range_succ]

theorem polyAt_zeros (x n : Nat) : polyAt x (List.replicate n 0) = 0 := by
  induction n with
  | zero => rfl
  | succ n ih => simp [List.replicate_succ, polyAt, ih]

theorem lget_replicate {α : Type} (d : α) (n i : Nat) : lget d (List.replicate n d) i = d := by
  induction n generalizing i with
  | zero => rfl
  | succ n ih => cases i <;> simp [List.replicate_succ, lget, ih]

/-- A word whose syndromes are zero is given back, with nothing corrected. -/
theorem rsDecode_codeword (c : List Nat) (h : (rsSyndromes c).all (· = 0) = true) : rsDecode c = some (c, 0) := by
  simp only [rsDecode, h, if_true]

/-- What the decoder answers has zero syndromes and at most 15 symbols corrected. -/
theorem rsDecode_some (c r : List Nat) (n : Nat) (h : rsDecode c = some (r, n)) :
    n ≤ 15 ∧ (rsSyndromes r).all (· = 0) = true := by
  unfold rsDecode at h
  dsimp only at h
  split at h
  · cases h; exact ⟨by omega, ‹_›⟩
  · split at h
    · rename_i hx
      cases h
      simp only [Bool.and_eq_true, decide_eq_true_eq] at hx
      exact ⟨by omega, hx.2⟩
    · cases h

theorem rsSyndromes_zeros (n : Nat) : (rsSyndromes (List.replicate n 0)).all (· = 0) = true := by
  simp [rsSyndromes, polyAt_zeros]

/-- Lanes that do not line up give no codeword: both are uncorrected. -/
theorem blockReceived_apart (lanes : List (List (BitVec 10))) : (blockReceived lanes false).2 = (0, true, true) := rfl

/-- Lanes of zeros give two codewords of zeros. -/
theorem cwSymbols_zeros (n k : Nat) : cwSymbols (List.replicate 4 (List.replicate n 0)) k = List.replicate rsLen 0 := by
  have h : ∀ j i, lget 0 (lget [] (List.replicate 4 (List.replicate n (0 : BitVec 10))) (j % 4)) i = 0 := by
    intro j i
    have : j % 4 < 4 := Nat.mod_lt _ (by decide)
    rcases (by omega : j % 4 = 0 ∨ j % 4 = 1 ∨ j % 4 = 2 ∨ j % 4 = 3) with h | h | h | h <;> rw [h] <;>
      exact lget_replicate _ _ _
  unfold cwSymbols
  simp only [h]
  simp

/-- Lanes of zeros are received with nothing corrected. -/
theorem blockReceived_zeros (n : Nat) : (blockReceived (List.replicate 4 (List.replicate n 0)) true).2 = (0, false, false) := by
  simp only [blockReceived, cwSymbols_zeros, if_true, rsDecode_codeword _ (rsSyndromes_zeros rsLen)]

end Sys2Proof.Machine
end

