-- ==== Sys2Proof/Laws/State.lean ====
section
/-!
SUPPORT. What each update of State leaves and changes, field by field: one lemma per field per update.
-/
namespace Sys2Proof.Machine

variable (s : State)

/-! ## setCtx -/

@[simp] theorem setCtx_pending (c : Nat) (x : Ctx) : (setCtx s c x).pending = s.pending := rfl
@[simp] theorem setCtx_held (c : Nat) (x : Ctx) : (setCtx s c x).held = s.held := rfl
@[simp] theorem setCtx_now (c : Nat) (x : Ctx) : (setCtx s c x).now = s.now := rfl
@[simp] theorem setCtx_free (c : Nat) (x : Ctx) : (setCtx s c x).free = s.free := rfl
@[simp] theorem setCtx_out (c : Nat) (x : Ctx) : (setCtx s c x).out = s.out := rfl
@[simp] theorem setCtx_id (c : Nat) (x : Ctx) : (setCtx s c x).id = s.id := rfl
@[simp] theorem setCtx_pwr (c : Nat) (x : Ctx) : (setCtx s c x).pwr = s.pwr := rfl
@[simp] theorem setCtx_scrub (c : Nat) (x : Ctx) : (setCtx s c x).scrub = s.scrub := rfl
@[simp] theorem setCtx_tele (c : Nat) (x : Ctx) : (setCtx s c x).tele = s.tele := rfl
@[simp] theorem setCtx_vb (c : Nat) (x : Ctx) : (setCtx s c x).vb = s.vb := rfl
@[simp] theorem setCtx_erq (c : Nat) (x : Ctx) : (setCtx s c x).erq = s.erq := rfl
@[simp] theorem setCtx_hif (c : Nat) (x : Ctx) : (setCtx s c x).hif = s.hif := rfl
@[simp] theorem setCtx_biv (c : Nat) (x : Ctx) : (setCtx s c x).biv = s.biv := rfl
@[simp] theorem setCtx_quad (c : Nat) (x : Ctx) : (setCtx s c x).quad = s.quad := rfl
@[simp] theorem setCtx_tile (c : Nat) (x : Ctx) : (setCtx s c x).tile = s.tile := rfl
@[simp] theorem setCtx_mesh (c : Nat) (x : Ctx) : (setCtx s c x).mesh = s.mesh := rfl
@[simp] theorem setCtx_hbm (c : Nat) (x : Ctx) : (setCtx s c x).hbm = s.hbm := rfl
@[simp] theorem setCtx_txn (c : Nat) (x : Ctx) : (setCtx s c x).txn = s.txn := rfl
@[simp] theorem setCtx_port (c : Nat) (x : Ctx) : (setCtx s c x).port = s.port := rfl
@[simp] theorem setCtx_fab (c : Nat) (x : Ctx) : (setCtx s c x).fab = s.fab := rfl
@[simp] theorem setCtx_pair (c : Nat) (x : Ctx) : (setCtx s c x).pair = s.pair := rfl
@[simp] theorem setCtx_kh (c : Nat) (x : Ctx) : (setCtx s c x).kh = s.kh := rfl
@[simp] theorem setCtx_cvu (c : Nat) (x : Ctx) : (setCtx s c x).cvu = s.cvu := rfl
@[simp] theorem setCtx_sealer (c : Nat) (x : Ctx) : (setCtx s c x).sealer = s.sealer := rfl
@[simp] theorem setCtx_rcv (c : Nat) (x : Ctx) : (setCtx s c x).rcv = s.rcv := rfl
@[simp] theorem setCtx_eth (c : Nat) (x : Ctx) : (setCtx s c x).eth = s.eth := rfl
@[simp] theorem setCtx_dict (c : Nat) (x : Ctx) : (setCtx s c x).dict = s.dict := rfl
@[simp] theorem setCtx_flash (c : Nat) (x : Ctx) : (setCtx s c x).flash = s.flash := rfl
@[simp] theorem setCtx_rtc (c : Nat) (x : Ctx) : (setCtx s c x).rtc = s.rtc := rfl
@[simp] theorem setCtx_obj_stage (c : Nat) (x : Ctx) : (setCtx s c x).obj.stage = s.obj.stage := rfl
@[simp] theorem setCtx_obj_cookies (c : Nat) (x : Ctx) : (setCtx s c x).obj.cookies = s.obj.cookies := rfl
@[simp] theorem setCtx_obj_busy (c : Nat) (x : Ctx) : (setCtx s c x).obj.busy = s.obj.busy := rfl
@[simp] theorem setCtx_obj_done (c : Nat) (x : Ctx) : (setCtx s c x).obj.done = s.obj.done := rfl
@[simp] theorem setCtx_obj_overrun (c : Nat) (x : Ctx) : (setCtx s c x).obj.overrun = s.obj.overrun := rfl
@[simp] theorem setCtx_obj_code (c : Nat) (x : Ctx) : (setCtx s c x).obj.code = s.obj.code := rfl
@[simp] theorem setCtx_obj_result (c : Nat) (x : Ctx) : (setCtx s c x).obj.result = s.obj.result := rfl
@[simp] theorem setCtx_obj_cmd (c : Nat) (x : Ctx) : (setCtx s c x).obj.cmd = s.obj.cmd := rfl
@[simp] theorem setCtx_obj_irqVec (c : Nat) (x : Ctx) : (setCtx s c x).obj.irqVec = s.obj.irqVec := rfl
@[simp] theorem setCtx_obj_destroying (c : Nat) (x : Ctx) : (setCtx s c x).obj.destroying = s.obj.destroying := rfl
@[simp] theorem setCtx_obj_ctx (c : Nat) (x : Ctx) : (setCtx s c x).obj.ctx = tput {} s.obj.ctx c x := rfl
@[simp] theorem setCtx_obj_q (c : Nat) (x : Ctx) : (setCtx s c x).obj.q = s.obj.q := rfl
@[simp] theorem setCtx_obj_mo (c : Nat) (x : Ctx) : (setCtx s c x).obj.mo = s.obj.mo := rfl
@[simp] theorem setCtx_obj_ev (c : Nat) (x : Ctx) : (setCtx s c x).obj.ev = s.obj.ev := rfl
@[simp] theorem setCtx_obj_jobSeq (c : Nat) (x : Ctx) : (setCtx s c x).obj.jobSeq = s.obj.jobSeq := rfl

/-! ## setQueue -/

@[simp] theorem setQueue_pending (q : Nat) (x : Queue) : (setQueue s q x).pending = s.pending := rfl
@[simp] theorem setQueue_held (q : Nat) (x : Queue) : (setQueue s q x).held = s.held := rfl
@[simp] theorem setQueue_now (q : Nat) (x : Queue) : (setQueue s q x).now = s.now := rfl
@[simp] theorem setQueue_free (q : Nat) (x : Queue) : (setQueue s q x).free = s.free := rfl
@[simp] theorem setQueue_out (q : Nat) (x : Queue) : (setQueue s q x).out = s.out := rfl
@[simp] theorem setQueue_id (q : Nat) (x : Queue) : (setQueue s q x).id = s.id := rfl
@[simp] theorem setQueue_pwr (q : Nat) (x : Queue) : (setQueue s q x).pwr = s.pwr := rfl
@[simp] theorem setQueue_scrub (q : Nat) (x : Queue) : (setQueue s q x).scrub = s.scrub := rfl
@[simp] theorem setQueue_tele (q : Nat) (x : Queue) : (setQueue s q x).tele = s.tele := rfl
@[simp] theorem setQueue_vb (q : Nat) (x : Queue) : (setQueue s q x).vb = s.vb := rfl
@[simp] theorem setQueue_erq (q : Nat) (x : Queue) : (setQueue s q x).erq = s.erq := rfl
@[simp] theorem setQueue_hif (q : Nat) (x : Queue) : (setQueue s q x).hif = s.hif := rfl
@[simp] theorem setQueue_biv (q : Nat) (x : Queue) : (setQueue s q x).biv = s.biv := rfl
@[simp] theorem setQueue_quad (q : Nat) (x : Queue) : (setQueue s q x).quad = s.quad := rfl
@[simp] theorem setQueue_tile (q : Nat) (x : Queue) : (setQueue s q x).tile = s.tile := rfl
@[simp] theorem setQueue_mesh (q : Nat) (x : Queue) : (setQueue s q x).mesh = s.mesh := rfl
@[simp] theorem setQueue_hbm (q : Nat) (x : Queue) : (setQueue s q x).hbm = s.hbm := rfl
@[simp] theorem setQueue_txn (q : Nat) (x : Queue) : (setQueue s q x).txn = s.txn := rfl
@[simp] theorem setQueue_port (q : Nat) (x : Queue) : (setQueue s q x).port = s.port := rfl
@[simp] theorem setQueue_fab (q : Nat) (x : Queue) : (setQueue s q x).fab = s.fab := rfl
@[simp] theorem setQueue_pair (q : Nat) (x : Queue) : (setQueue s q x).pair = s.pair := rfl
@[simp] theorem setQueue_kh (q : Nat) (x : Queue) : (setQueue s q x).kh = s.kh := rfl
@[simp] theorem setQueue_cvu (q : Nat) (x : Queue) : (setQueue s q x).cvu = s.cvu := rfl
@[simp] theorem setQueue_sealer (q : Nat) (x : Queue) : (setQueue s q x).sealer = s.sealer := rfl
@[simp] theorem setQueue_rcv (q : Nat) (x : Queue) : (setQueue s q x).rcv = s.rcv := rfl
@[simp] theorem setQueue_eth (q : Nat) (x : Queue) : (setQueue s q x).eth = s.eth := rfl
@[simp] theorem setQueue_dict (q : Nat) (x : Queue) : (setQueue s q x).dict = s.dict := rfl
@[simp] theorem setQueue_flash (q : Nat) (x : Queue) : (setQueue s q x).flash = s.flash := rfl
@[simp] theorem setQueue_rtc (q : Nat) (x : Queue) : (setQueue s q x).rtc = s.rtc := rfl
@[simp] theorem setQueue_obj_stage (q : Nat) (x : Queue) : (setQueue s q x).obj.stage = s.obj.stage := rfl
@[simp] theorem setQueue_obj_cookies (q : Nat) (x : Queue) : (setQueue s q x).obj.cookies = s.obj.cookies := rfl
@[simp] theorem setQueue_obj_busy (q : Nat) (x : Queue) : (setQueue s q x).obj.busy = s.obj.busy := rfl
@[simp] theorem setQueue_obj_done (q : Nat) (x : Queue) : (setQueue s q x).obj.done = s.obj.done := rfl
@[simp] theorem setQueue_obj_overrun (q : Nat) (x : Queue) : (setQueue s q x).obj.overrun = s.obj.overrun := rfl
@[simp] theorem setQueue_obj_code (q : Nat) (x : Queue) : (setQueue s q x).obj.code = s.obj.code := rfl
@[simp] theorem setQueue_obj_result (q : Nat) (x : Queue) : (setQueue s q x).obj.result = s.obj.result := rfl
@[simp] theorem setQueue_obj_cmd (q : Nat) (x : Queue) : (setQueue s q x).obj.cmd = s.obj.cmd := rfl
@[simp] theorem setQueue_obj_irqVec (q : Nat) (x : Queue) : (setQueue s q x).obj.irqVec = s.obj.irqVec := rfl
@[simp] theorem setQueue_obj_destroying (q : Nat) (x : Queue) : (setQueue s q x).obj.destroying = s.obj.destroying := rfl
@[simp] theorem setQueue_obj_ctx (q : Nat) (x : Queue) : (setQueue s q x).obj.ctx = s.obj.ctx := rfl
@[simp] theorem setQueue_obj_q (q : Nat) (x : Queue) : (setQueue s q x).obj.q = tput {} s.obj.q q x := rfl
@[simp] theorem setQueue_obj_mo (q : Nat) (x : Queue) : (setQueue s q x).obj.mo = s.obj.mo := rfl
@[simp] theorem setQueue_obj_ev (q : Nat) (x : Queue) : (setQueue s q x).obj.ev = s.obj.ev := rfl
@[simp] theorem setQueue_obj_jobSeq (q : Nat) (x : Queue) : (setQueue s q x).obj.jobSeq = s.obj.jobSeq := rfl

/-! ## setMo -/

@[simp] theorem setMo_pending (m : Nat) (x : MemObj) : (setMo s m x).pending = s.pending := rfl
@[simp] theorem setMo_held (m : Nat) (x : MemObj) : (setMo s m x).held = s.held := rfl
@[simp] theorem setMo_now (m : Nat) (x : MemObj) : (setMo s m x).now = s.now := rfl
@[simp] theorem setMo_free (m : Nat) (x : MemObj) : (setMo s m x).free = s.free := rfl
@[simp] theorem setMo_out (m : Nat) (x : MemObj) : (setMo s m x).out = s.out := rfl
@[simp] theorem setMo_id (m : Nat) (x : MemObj) : (setMo s m x).id = s.id := rfl
@[simp] theorem setMo_pwr (m : Nat) (x : MemObj) : (setMo s m x).pwr = s.pwr := rfl
@[simp] theorem setMo_scrub (m : Nat) (x : MemObj) : (setMo s m x).scrub = s.scrub := rfl
@[simp] theorem setMo_tele (m : Nat) (x : MemObj) : (setMo s m x).tele = s.tele := rfl
@[simp] theorem setMo_vb (m : Nat) (x : MemObj) : (setMo s m x).vb = s.vb := rfl
@[simp] theorem setMo_erq (m : Nat) (x : MemObj) : (setMo s m x).erq = s.erq := rfl
@[simp] theorem setMo_hif (m : Nat) (x : MemObj) : (setMo s m x).hif = s.hif := rfl
@[simp] theorem setMo_biv (m : Nat) (x : MemObj) : (setMo s m x).biv = s.biv := rfl
@[simp] theorem setMo_quad (m : Nat) (x : MemObj) : (setMo s m x).quad = s.quad := rfl
@[simp] theorem setMo_tile (m : Nat) (x : MemObj) : (setMo s m x).tile = s.tile := rfl
@[simp] theorem setMo_mesh (m : Nat) (x : MemObj) : (setMo s m x).mesh = s.mesh := rfl
@[simp] theorem setMo_hbm (m : Nat) (x : MemObj) : (setMo s m x).hbm = s.hbm := rfl
@[simp] theorem setMo_txn (m : Nat) (x : MemObj) : (setMo s m x).txn = s.txn := rfl
@[simp] theorem setMo_port (m : Nat) (x : MemObj) : (setMo s m x).port = s.port := rfl
@[simp] theorem setMo_fab (m : Nat) (x : MemObj) : (setMo s m x).fab = s.fab := rfl
@[simp] theorem setMo_pair (m : Nat) (x : MemObj) : (setMo s m x).pair = s.pair := rfl
@[simp] theorem setMo_kh (m : Nat) (x : MemObj) : (setMo s m x).kh = s.kh := rfl
@[simp] theorem setMo_cvu (m : Nat) (x : MemObj) : (setMo s m x).cvu = s.cvu := rfl
@[simp] theorem setMo_sealer (m : Nat) (x : MemObj) : (setMo s m x).sealer = s.sealer := rfl
@[simp] theorem setMo_rcv (m : Nat) (x : MemObj) : (setMo s m x).rcv = s.rcv := rfl
@[simp] theorem setMo_eth (m : Nat) (x : MemObj) : (setMo s m x).eth = s.eth := rfl
@[simp] theorem setMo_dict (m : Nat) (x : MemObj) : (setMo s m x).dict = s.dict := rfl
@[simp] theorem setMo_flash (m : Nat) (x : MemObj) : (setMo s m x).flash = s.flash := rfl
@[simp] theorem setMo_rtc (m : Nat) (x : MemObj) : (setMo s m x).rtc = s.rtc := rfl
@[simp] theorem setMo_obj_stage (m : Nat) (x : MemObj) : (setMo s m x).obj.stage = s.obj.stage := rfl
@[simp] theorem setMo_obj_cookies (m : Nat) (x : MemObj) : (setMo s m x).obj.cookies = s.obj.cookies := rfl
@[simp] theorem setMo_obj_busy (m : Nat) (x : MemObj) : (setMo s m x).obj.busy = s.obj.busy := rfl
@[simp] theorem setMo_obj_done (m : Nat) (x : MemObj) : (setMo s m x).obj.done = s.obj.done := rfl
@[simp] theorem setMo_obj_overrun (m : Nat) (x : MemObj) : (setMo s m x).obj.overrun = s.obj.overrun := rfl
@[simp] theorem setMo_obj_code (m : Nat) (x : MemObj) : (setMo s m x).obj.code = s.obj.code := rfl
@[simp] theorem setMo_obj_result (m : Nat) (x : MemObj) : (setMo s m x).obj.result = s.obj.result := rfl
@[simp] theorem setMo_obj_cmd (m : Nat) (x : MemObj) : (setMo s m x).obj.cmd = s.obj.cmd := rfl
@[simp] theorem setMo_obj_irqVec (m : Nat) (x : MemObj) : (setMo s m x).obj.irqVec = s.obj.irqVec := rfl
@[simp] theorem setMo_obj_destroying (m : Nat) (x : MemObj) : (setMo s m x).obj.destroying = s.obj.destroying := rfl
@[simp] theorem setMo_obj_ctx (m : Nat) (x : MemObj) : (setMo s m x).obj.ctx = s.obj.ctx := rfl
@[simp] theorem setMo_obj_q (m : Nat) (x : MemObj) : (setMo s m x).obj.q = s.obj.q := rfl
@[simp] theorem setMo_obj_mo (m : Nat) (x : MemObj) : (setMo s m x).obj.mo = tput {} s.obj.mo m x := rfl
@[simp] theorem setMo_obj_ev (m : Nat) (x : MemObj) : (setMo s m x).obj.ev = s.obj.ev := rfl
@[simp] theorem setMo_obj_jobSeq (m : Nat) (x : MemObj) : (setMo s m x).obj.jobSeq = s.obj.jobSeq := rfl

/-! ## setEv -/

@[simp] theorem setEv_pending (e : Nat) (x : Event) : (setEv s e x).pending = s.pending := rfl
@[simp] theorem setEv_held (e : Nat) (x : Event) : (setEv s e x).held = s.held := rfl
@[simp] theorem setEv_now (e : Nat) (x : Event) : (setEv s e x).now = s.now := rfl
@[simp] theorem setEv_free (e : Nat) (x : Event) : (setEv s e x).free = s.free := rfl
@[simp] theorem setEv_out (e : Nat) (x : Event) : (setEv s e x).out = s.out := rfl
@[simp] theorem setEv_id (e : Nat) (x : Event) : (setEv s e x).id = s.id := rfl
@[simp] theorem setEv_pwr (e : Nat) (x : Event) : (setEv s e x).pwr = s.pwr := rfl
@[simp] theorem setEv_scrub (e : Nat) (x : Event) : (setEv s e x).scrub = s.scrub := rfl
@[simp] theorem setEv_tele (e : Nat) (x : Event) : (setEv s e x).tele = s.tele := rfl
@[simp] theorem setEv_vb (e : Nat) (x : Event) : (setEv s e x).vb = s.vb := rfl
@[simp] theorem setEv_erq (e : Nat) (x : Event) : (setEv s e x).erq = s.erq := rfl
@[simp] theorem setEv_hif (e : Nat) (x : Event) : (setEv s e x).hif = s.hif := rfl
@[simp] theorem setEv_biv (e : Nat) (x : Event) : (setEv s e x).biv = s.biv := rfl
@[simp] theorem setEv_quad (e : Nat) (x : Event) : (setEv s e x).quad = s.quad := rfl
@[simp] theorem setEv_tile (e : Nat) (x : Event) : (setEv s e x).tile = s.tile := rfl
@[simp] theorem setEv_mesh (e : Nat) (x : Event) : (setEv s e x).mesh = s.mesh := rfl
@[simp] theorem setEv_hbm (e : Nat) (x : Event) : (setEv s e x).hbm = s.hbm := rfl
@[simp] theorem setEv_txn (e : Nat) (x : Event) : (setEv s e x).txn = s.txn := rfl
@[simp] theorem setEv_port (e : Nat) (x : Event) : (setEv s e x).port = s.port := rfl
@[simp] theorem setEv_fab (e : Nat) (x : Event) : (setEv s e x).fab = s.fab := rfl
@[simp] theorem setEv_pair (e : Nat) (x : Event) : (setEv s e x).pair = s.pair := rfl
@[simp] theorem setEv_kh (e : Nat) (x : Event) : (setEv s e x).kh = s.kh := rfl
@[simp] theorem setEv_cvu (e : Nat) (x : Event) : (setEv s e x).cvu = s.cvu := rfl
@[simp] theorem setEv_sealer (e : Nat) (x : Event) : (setEv s e x).sealer = s.sealer := rfl
@[simp] theorem setEv_rcv (e : Nat) (x : Event) : (setEv s e x).rcv = s.rcv := rfl
@[simp] theorem setEv_eth (e : Nat) (x : Event) : (setEv s e x).eth = s.eth := rfl
@[simp] theorem setEv_dict (e : Nat) (x : Event) : (setEv s e x).dict = s.dict := rfl
@[simp] theorem setEv_flash (e : Nat) (x : Event) : (setEv s e x).flash = s.flash := rfl
@[simp] theorem setEv_rtc (e : Nat) (x : Event) : (setEv s e x).rtc = s.rtc := rfl
@[simp] theorem setEv_obj_stage (e : Nat) (x : Event) : (setEv s e x).obj.stage = s.obj.stage := rfl
@[simp] theorem setEv_obj_cookies (e : Nat) (x : Event) : (setEv s e x).obj.cookies = s.obj.cookies := rfl
@[simp] theorem setEv_obj_busy (e : Nat) (x : Event) : (setEv s e x).obj.busy = s.obj.busy := rfl
@[simp] theorem setEv_obj_done (e : Nat) (x : Event) : (setEv s e x).obj.done = s.obj.done := rfl
@[simp] theorem setEv_obj_overrun (e : Nat) (x : Event) : (setEv s e x).obj.overrun = s.obj.overrun := rfl
@[simp] theorem setEv_obj_code (e : Nat) (x : Event) : (setEv s e x).obj.code = s.obj.code := rfl
@[simp] theorem setEv_obj_result (e : Nat) (x : Event) : (setEv s e x).obj.result = s.obj.result := rfl
@[simp] theorem setEv_obj_cmd (e : Nat) (x : Event) : (setEv s e x).obj.cmd = s.obj.cmd := rfl
@[simp] theorem setEv_obj_irqVec (e : Nat) (x : Event) : (setEv s e x).obj.irqVec = s.obj.irqVec := rfl
@[simp] theorem setEv_obj_destroying (e : Nat) (x : Event) : (setEv s e x).obj.destroying = s.obj.destroying := rfl
@[simp] theorem setEv_obj_ctx (e : Nat) (x : Event) : (setEv s e x).obj.ctx = s.obj.ctx := rfl
@[simp] theorem setEv_obj_q (e : Nat) (x : Event) : (setEv s e x).obj.q = s.obj.q := rfl
@[simp] theorem setEv_obj_mo (e : Nat) (x : Event) : (setEv s e x).obj.mo = s.obj.mo := rfl
@[simp] theorem setEv_obj_ev (e : Nat) (x : Event) : (setEv s e x).obj.ev = tput {} s.obj.ev e x := rfl
@[simp] theorem setEv_obj_jobSeq (e : Nat) (x : Event) : (setEv s e x).obj.jobSeq = s.obj.jobSeq := rfl

/-! ## setTile -/

@[simp] theorem setTile_pending (t : Nat) (x : Tile) : (setTile s t x).pending = s.pending := rfl
@[simp] theorem setTile_held (t : Nat) (x : Tile) : (setTile s t x).held = s.held := rfl
@[simp] theorem setTile_now (t : Nat) (x : Tile) : (setTile s t x).now = s.now := rfl
@[simp] theorem setTile_free (t : Nat) (x : Tile) : (setTile s t x).free = s.free := rfl
@[simp] theorem setTile_out (t : Nat) (x : Tile) : (setTile s t x).out = s.out := rfl
@[simp] theorem setTile_id (t : Nat) (x : Tile) : (setTile s t x).id = s.id := rfl
@[simp] theorem setTile_pwr (t : Nat) (x : Tile) : (setTile s t x).pwr = s.pwr := rfl
@[simp] theorem setTile_scrub (t : Nat) (x : Tile) : (setTile s t x).scrub = s.scrub := rfl
@[simp] theorem setTile_tele (t : Nat) (x : Tile) : (setTile s t x).tele = s.tele := rfl
@[simp] theorem setTile_vb (t : Nat) (x : Tile) : (setTile s t x).vb = s.vb := rfl
@[simp] theorem setTile_erq (t : Nat) (x : Tile) : (setTile s t x).erq = s.erq := rfl
@[simp] theorem setTile_hif (t : Nat) (x : Tile) : (setTile s t x).hif = s.hif := rfl
@[simp] theorem setTile_biv (t : Nat) (x : Tile) : (setTile s t x).biv = s.biv := rfl
@[simp] theorem setTile_obj (t : Nat) (x : Tile) : (setTile s t x).obj = s.obj := rfl
@[simp] theorem setTile_quad (t : Nat) (x : Tile) : (setTile s t x).quad = s.quad := rfl
@[simp] theorem setTile_mesh (t : Nat) (x : Tile) : (setTile s t x).mesh = s.mesh := rfl
@[simp] theorem setTile_hbm (t : Nat) (x : Tile) : (setTile s t x).hbm = s.hbm := rfl
@[simp] theorem setTile_txn (t : Nat) (x : Tile) : (setTile s t x).txn = s.txn := rfl
@[simp] theorem setTile_port (t : Nat) (x : Tile) : (setTile s t x).port = s.port := rfl
@[simp] theorem setTile_fab (t : Nat) (x : Tile) : (setTile s t x).fab = s.fab := rfl
@[simp] theorem setTile_pair (t : Nat) (x : Tile) : (setTile s t x).pair = s.pair := rfl
@[simp] theorem setTile_kh (t : Nat) (x : Tile) : (setTile s t x).kh = s.kh := rfl
@[simp] theorem setTile_cvu (t : Nat) (x : Tile) : (setTile s t x).cvu = s.cvu := rfl
@[simp] theorem setTile_sealer (t : Nat) (x : Tile) : (setTile s t x).sealer = s.sealer := rfl
@[simp] theorem setTile_rcv (t : Nat) (x : Tile) : (setTile s t x).rcv = s.rcv := rfl
@[simp] theorem setTile_eth (t : Nat) (x : Tile) : (setTile s t x).eth = s.eth := rfl
@[simp] theorem setTile_dict (t : Nat) (x : Tile) : (setTile s t x).dict = s.dict := rfl
@[simp] theorem setTile_flash (t : Nat) (x : Tile) : (setTile s t x).flash = s.flash := rfl
@[simp] theorem setTile_rtc (t : Nat) (x : Tile) : (setTile s t x).rtc = s.rtc := rfl
@[simp] theorem setTile_tile (t : Nat) (x : Tile) : (setTile s t x).tile = tput {} s.tile t x := rfl

/-! ## setSlot -/

@[simp] theorem setSlot_pending (t n : Nat) (x : Slot) : (setSlot s t n x).pending = s.pending := rfl
@[simp] theorem setSlot_held (t n : Nat) (x : Slot) : (setSlot s t n x).held = s.held := rfl
@[simp] theorem setSlot_now (t n : Nat) (x : Slot) : (setSlot s t n x).now = s.now := rfl
@[simp] theorem setSlot_free (t n : Nat) (x : Slot) : (setSlot s t n x).free = s.free := rfl
@[simp] theorem setSlot_out (t n : Nat) (x : Slot) : (setSlot s t n x).out = s.out := rfl
@[simp] theorem setSlot_id (t n : Nat) (x : Slot) : (setSlot s t n x).id = s.id := rfl
@[simp] theorem setSlot_pwr (t n : Nat) (x : Slot) : (setSlot s t n x).pwr = s.pwr := rfl
@[simp] theorem setSlot_scrub (t n : Nat) (x : Slot) : (setSlot s t n x).scrub = s.scrub := rfl
@[simp] theorem setSlot_tele (t n : Nat) (x : Slot) : (setSlot s t n x).tele = s.tele := rfl
@[simp] theorem setSlot_vb (t n : Nat) (x : Slot) : (setSlot s t n x).vb = s.vb := rfl
@[simp] theorem setSlot_erq (t n : Nat) (x : Slot) : (setSlot s t n x).erq = s.erq := rfl
@[simp] theorem setSlot_hif (t n : Nat) (x : Slot) : (setSlot s t n x).hif = s.hif := rfl
@[simp] theorem setSlot_biv (t n : Nat) (x : Slot) : (setSlot s t n x).biv = s.biv := rfl
@[simp] theorem setSlot_obj (t n : Nat) (x : Slot) : (setSlot s t n x).obj = s.obj := rfl
@[simp] theorem setSlot_quad (t n : Nat) (x : Slot) : (setSlot s t n x).quad = s.quad := rfl
@[simp] theorem setSlot_mesh (t n : Nat) (x : Slot) : (setSlot s t n x).mesh = s.mesh := rfl
@[simp] theorem setSlot_hbm (t n : Nat) (x : Slot) : (setSlot s t n x).hbm = s.hbm := rfl
@[simp] theorem setSlot_txn (t n : Nat) (x : Slot) : (setSlot s t n x).txn = s.txn := rfl
@[simp] theorem setSlot_port (t n : Nat) (x : Slot) : (setSlot s t n x).port = s.port := rfl
@[simp] theorem setSlot_fab (t n : Nat) (x : Slot) : (setSlot s t n x).fab = s.fab := rfl
@[simp] theorem setSlot_pair (t n : Nat) (x : Slot) : (setSlot s t n x).pair = s.pair := rfl
@[simp] theorem setSlot_kh (t n : Nat) (x : Slot) : (setSlot s t n x).kh = s.kh := rfl
@[simp] theorem setSlot_cvu (t n : Nat) (x : Slot) : (setSlot s t n x).cvu = s.cvu := rfl
@[simp] theorem setSlot_sealer (t n : Nat) (x : Slot) : (setSlot s t n x).sealer = s.sealer := rfl
@[simp] theorem setSlot_rcv (t n : Nat) (x : Slot) : (setSlot s t n x).rcv = s.rcv := rfl
@[simp] theorem setSlot_eth (t n : Nat) (x : Slot) : (setSlot s t n x).eth = s.eth := rfl
@[simp] theorem setSlot_dict (t n : Nat) (x : Slot) : (setSlot s t n x).dict = s.dict := rfl
@[simp] theorem setSlot_flash (t n : Nat) (x : Slot) : (setSlot s t n x).flash = s.flash := rfl
@[simp] theorem setSlot_rtc (t n : Nat) (x : Slot) : (setSlot s t n x).rtc = s.rtc := rfl
@[simp] theorem setSlot_tile (t n : Nat) (x : Slot) : (setSlot s t n x).tile = tput {} s.tile t { tileOf s t with win := tput {} (tileOf s t).win n x } := rfl

/-! ## setQuad -/

@[simp] theorem setQuad_pending (q : Nat) (x : Quad) : (setQuad s q x).pending = s.pending := rfl
@[simp] theorem setQuad_held (q : Nat) (x : Quad) : (setQuad s q x).held = s.held := rfl
@[simp] theorem setQuad_now (q : Nat) (x : Quad) : (setQuad s q x).now = s.now := rfl
@[simp] theorem setQuad_free (q : Nat) (x : Quad) : (setQuad s q x).free = s.free := rfl
@[simp] theorem setQuad_out (q : Nat) (x : Quad) : (setQuad s q x).out = s.out := rfl
@[simp] theorem setQuad_id (q : Nat) (x : Quad) : (setQuad s q x).id = s.id := rfl
@[simp] theorem setQuad_pwr (q : Nat) (x : Quad) : (setQuad s q x).pwr = s.pwr := rfl
@[simp] theorem setQuad_scrub (q : Nat) (x : Quad) : (setQuad s q x).scrub = s.scrub := rfl
@[simp] theorem setQuad_tele (q : Nat) (x : Quad) : (setQuad s q x).tele = s.tele := rfl
@[simp] theorem setQuad_vb (q : Nat) (x : Quad) : (setQuad s q x).vb = s.vb := rfl
@[simp] theorem setQuad_erq (q : Nat) (x : Quad) : (setQuad s q x).erq = s.erq := rfl
@[simp] theorem setQuad_hif (q : Nat) (x : Quad) : (setQuad s q x).hif = s.hif := rfl
@[simp] theorem setQuad_biv (q : Nat) (x : Quad) : (setQuad s q x).biv = s.biv := rfl
@[simp] theorem setQuad_obj (q : Nat) (x : Quad) : (setQuad s q x).obj = s.obj := rfl
@[simp] theorem setQuad_tile (q : Nat) (x : Quad) : (setQuad s q x).tile = s.tile := rfl
@[simp] theorem setQuad_mesh (q : Nat) (x : Quad) : (setQuad s q x).mesh = s.mesh := rfl
@[simp] theorem setQuad_hbm (q : Nat) (x : Quad) : (setQuad s q x).hbm = s.hbm := rfl
@[simp] theorem setQuad_txn (q : Nat) (x : Quad) : (setQuad s q x).txn = s.txn := rfl
@[simp] theorem setQuad_port (q : Nat) (x : Quad) : (setQuad s q x).port = s.port := rfl
@[simp] theorem setQuad_fab (q : Nat) (x : Quad) : (setQuad s q x).fab = s.fab := rfl
@[simp] theorem setQuad_pair (q : Nat) (x : Quad) : (setQuad s q x).pair = s.pair := rfl
@[simp] theorem setQuad_kh (q : Nat) (x : Quad) : (setQuad s q x).kh = s.kh := rfl
@[simp] theorem setQuad_cvu (q : Nat) (x : Quad) : (setQuad s q x).cvu = s.cvu := rfl
@[simp] theorem setQuad_sealer (q : Nat) (x : Quad) : (setQuad s q x).sealer = s.sealer := rfl
@[simp] theorem setQuad_rcv (q : Nat) (x : Quad) : (setQuad s q x).rcv = s.rcv := rfl
@[simp] theorem setQuad_eth (q : Nat) (x : Quad) : (setQuad s q x).eth = s.eth := rfl
@[simp] theorem setQuad_dict (q : Nat) (x : Quad) : (setQuad s q x).dict = s.dict := rfl
@[simp] theorem setQuad_flash (q : Nat) (x : Quad) : (setQuad s q x).flash = s.flash := rfl
@[simp] theorem setQuad_rtc (q : Nat) (x : Quad) : (setQuad s q x).rtc = s.rtc := rfl
@[simp] theorem setQuad_quad (q : Nat) (x : Quad) : (setQuad s q x).quad = lset s.quad q x := rfl

/-! ## setPort -/

@[simp] theorem setPort_pending (p : Nat) (x : Port) : (setPort s p x).pending = s.pending := rfl
@[simp] theorem setPort_held (p : Nat) (x : Port) : (setPort s p x).held = s.held := rfl
@[simp] theorem setPort_now (p : Nat) (x : Port) : (setPort s p x).now = s.now := rfl
@[simp] theorem setPort_free (p : Nat) (x : Port) : (setPort s p x).free = s.free := rfl
@[simp] theorem setPort_out (p : Nat) (x : Port) : (setPort s p x).out = s.out := rfl
@[simp] theorem setPort_id (p : Nat) (x : Port) : (setPort s p x).id = s.id := rfl
@[simp] theorem setPort_pwr (p : Nat) (x : Port) : (setPort s p x).pwr = s.pwr := rfl
@[simp] theorem setPort_scrub (p : Nat) (x : Port) : (setPort s p x).scrub = s.scrub := rfl
@[simp] theorem setPort_tele (p : Nat) (x : Port) : (setPort s p x).tele = s.tele := rfl
@[simp] theorem setPort_vb (p : Nat) (x : Port) : (setPort s p x).vb = s.vb := rfl
@[simp] theorem setPort_erq (p : Nat) (x : Port) : (setPort s p x).erq = s.erq := rfl
@[simp] theorem setPort_hif (p : Nat) (x : Port) : (setPort s p x).hif = s.hif := rfl
@[simp] theorem setPort_biv (p : Nat) (x : Port) : (setPort s p x).biv = s.biv := rfl
@[simp] theorem setPort_obj (p : Nat) (x : Port) : (setPort s p x).obj = s.obj := rfl
@[simp] theorem setPort_quad (p : Nat) (x : Port) : (setPort s p x).quad = s.quad := rfl
@[simp] theorem setPort_tile (p : Nat) (x : Port) : (setPort s p x).tile = s.tile := rfl
@[simp] theorem setPort_mesh (p : Nat) (x : Port) : (setPort s p x).mesh = s.mesh := rfl
@[simp] theorem setPort_hbm (p : Nat) (x : Port) : (setPort s p x).hbm = s.hbm := rfl
@[simp] theorem setPort_txn (p : Nat) (x : Port) : (setPort s p x).txn = s.txn := rfl
@[simp] theorem setPort_fab (p : Nat) (x : Port) : (setPort s p x).fab = s.fab := rfl
@[simp] theorem setPort_pair (p : Nat) (x : Port) : (setPort s p x).pair = s.pair := rfl
@[simp] theorem setPort_kh (p : Nat) (x : Port) : (setPort s p x).kh = s.kh := rfl
@[simp] theorem setPort_cvu (p : Nat) (x : Port) : (setPort s p x).cvu = s.cvu := rfl
@[simp] theorem setPort_sealer (p : Nat) (x : Port) : (setPort s p x).sealer = s.sealer := rfl
@[simp] theorem setPort_rcv (p : Nat) (x : Port) : (setPort s p x).rcv = s.rcv := rfl
@[simp] theorem setPort_eth (p : Nat) (x : Port) : (setPort s p x).eth = s.eth := rfl
@[simp] theorem setPort_dict (p : Nat) (x : Port) : (setPort s p x).dict = s.dict := rfl
@[simp] theorem setPort_flash (p : Nat) (x : Port) : (setPort s p x).flash = s.flash := rfl
@[simp] theorem setPort_rtc (p : Nat) (x : Port) : (setPort s p x).rtc = s.rtc := rfl
@[simp] theorem setPort_port (p : Nat) (x : Port) : (setPort s p x).port = lset s.port p x := rfl

/-! ## setQp -/

@[simp] theorem setQp_pending (q : Nat) (x : Qp) : (setQp s q x).pending = s.pending := rfl
@[simp] theorem setQp_held (q : Nat) (x : Qp) : (setQp s q x).held = s.held := rfl
@[simp] theorem setQp_now (q : Nat) (x : Qp) : (setQp s q x).now = s.now := rfl
@[simp] theorem setQp_free (q : Nat) (x : Qp) : (setQp s q x).free = s.free := rfl
@[simp] theorem setQp_out (q : Nat) (x : Qp) : (setQp s q x).out = s.out := rfl
@[simp] theorem setQp_id (q : Nat) (x : Qp) : (setQp s q x).id = s.id := rfl
@[simp] theorem setQp_pwr (q : Nat) (x : Qp) : (setQp s q x).pwr = s.pwr := rfl
@[simp] theorem setQp_scrub (q : Nat) (x : Qp) : (setQp s q x).scrub = s.scrub := rfl
@[simp] theorem setQp_tele (q : Nat) (x : Qp) : (setQp s q x).tele = s.tele := rfl
@[simp] theorem setQp_vb (q : Nat) (x : Qp) : (setQp s q x).vb = s.vb := rfl
@[simp] theorem setQp_erq (q : Nat) (x : Qp) : (setQp s q x).erq = s.erq := rfl
@[simp] theorem setQp_hif (q : Nat) (x : Qp) : (setQp s q x).hif = s.hif := rfl
@[simp] theorem setQp_biv (q : Nat) (x : Qp) : (setQp s q x).biv = s.biv := rfl
@[simp] theorem setQp_obj (q : Nat) (x : Qp) : (setQp s q x).obj = s.obj := rfl
@[simp] theorem setQp_quad (q : Nat) (x : Qp) : (setQp s q x).quad = s.quad := rfl
@[simp] theorem setQp_tile (q : Nat) (x : Qp) : (setQp s q x).tile = s.tile := rfl
@[simp] theorem setQp_mesh (q : Nat) (x : Qp) : (setQp s q x).mesh = s.mesh := rfl
@[simp] theorem setQp_hbm (q : Nat) (x : Qp) : (setQp s q x).hbm = s.hbm := rfl
@[simp] theorem setQp_txn (q : Nat) (x : Qp) : (setQp s q x).txn = s.txn := rfl
@[simp] theorem setQp_port (q : Nat) (x : Qp) : (setQp s q x).port = s.port := rfl
@[simp] theorem setQp_fab (q : Nat) (x : Qp) : (setQp s q x).fab = s.fab := rfl
@[simp] theorem setQp_pair (q : Nat) (x : Qp) : (setQp s q x).pair = s.pair := rfl
@[simp] theorem setQp_kh (q : Nat) (x : Qp) : (setQp s q x).kh = s.kh := rfl
@[simp] theorem setQp_cvu (q : Nat) (x : Qp) : (setQp s q x).cvu = s.cvu := rfl
@[simp] theorem setQp_sealer (q : Nat) (x : Qp) : (setQp s q x).sealer = s.sealer := rfl
@[simp] theorem setQp_rcv (q : Nat) (x : Qp) : (setQp s q x).rcv = s.rcv := rfl
@[simp] theorem setQp_dict (q : Nat) (x : Qp) : (setQp s q x).dict = s.dict := rfl
@[simp] theorem setQp_flash (q : Nat) (x : Qp) : (setQp s q x).flash = s.flash := rfl
@[simp] theorem setQp_rtc (q : Nat) (x : Qp) : (setQp s q x).rtc = s.rtc := rfl
@[simp] theorem setQp_eth_port (q : Nat) (x : Qp) : (setQp s q x).eth.port = s.eth.port := rfl
@[simp] theorem setQp_eth_stage (q : Nat) (x : Qp) : (setQp s q x).eth.stage = s.eth.stage := rfl
@[simp] theorem setQp_eth_busy (q : Nat) (x : Qp) : (setQp s q x).eth.busy = s.eth.busy := rfl
@[simp] theorem setQp_eth_done (q : Nat) (x : Qp) : (setQp s q x).eth.done = s.eth.done := rfl
@[simp] theorem setQp_eth_code (q : Nat) (x : Qp) : (setQp s q x).eth.code = s.eth.code := rfl
@[simp] theorem setQp_eth_result (q : Nat) (x : Qp) : (setQp s q x).eth.result = s.eth.result := rfl
@[simp] theorem setQp_eth_qp (q : Nat) (x : Qp) : (setQp s q x).eth.qp = tput {} s.eth.qp q x := rfl

/-! ## setCvu -/

@[simp] theorem setCvu_pending (c : Nat) (x : Cvu) : (setCvu s c x).pending = s.pending := rfl
@[simp] theorem setCvu_held (c : Nat) (x : Cvu) : (setCvu s c x).held = s.held := rfl
@[simp] theorem setCvu_now (c : Nat) (x : Cvu) : (setCvu s c x).now = s.now := rfl
@[simp] theorem setCvu_free (c : Nat) (x : Cvu) : (setCvu s c x).free = s.free := rfl
@[simp] theorem setCvu_out (c : Nat) (x : Cvu) : (setCvu s c x).out = s.out := rfl
@[simp] theorem setCvu_id (c : Nat) (x : Cvu) : (setCvu s c x).id = s.id := rfl
@[simp] theorem setCvu_pwr (c : Nat) (x : Cvu) : (setCvu s c x).pwr = s.pwr := rfl
@[simp] theorem setCvu_scrub (c : Nat) (x : Cvu) : (setCvu s c x).scrub = s.scrub := rfl
@[simp] theorem setCvu_tele (c : Nat) (x : Cvu) : (setCvu s c x).tele = s.tele := rfl
@[simp] theorem setCvu_vb (c : Nat) (x : Cvu) : (setCvu s c x).vb = s.vb := rfl
@[simp] theorem setCvu_erq (c : Nat) (x : Cvu) : (setCvu s c x).erq = s.erq := rfl
@[simp] theorem setCvu_hif (c : Nat) (x : Cvu) : (setCvu s c x).hif = s.hif := rfl
@[simp] theorem setCvu_biv (c : Nat) (x : Cvu) : (setCvu s c x).biv = s.biv := rfl
@[simp] theorem setCvu_obj (c : Nat) (x : Cvu) : (setCvu s c x).obj = s.obj := rfl
@[simp] theorem setCvu_quad (c : Nat) (x : Cvu) : (setCvu s c x).quad = s.quad := rfl
@[simp] theorem setCvu_tile (c : Nat) (x : Cvu) : (setCvu s c x).tile = s.tile := rfl
@[simp] theorem setCvu_mesh (c : Nat) (x : Cvu) : (setCvu s c x).mesh = s.mesh := rfl
@[simp] theorem setCvu_hbm (c : Nat) (x : Cvu) : (setCvu s c x).hbm = s.hbm := rfl
@[simp] theorem setCvu_txn (c : Nat) (x : Cvu) : (setCvu s c x).txn = s.txn := rfl
@[simp] theorem setCvu_fab (c : Nat) (x : Cvu) : (setCvu s c x).fab = s.fab := rfl
@[simp] theorem setCvu_pair (c : Nat) (x : Cvu) : (setCvu s c x).pair = s.pair := rfl
@[simp] theorem setCvu_kh (c : Nat) (x : Cvu) : (setCvu s c x).kh = s.kh := rfl
@[simp] theorem setCvu_cvu (c : Nat) (x : Cvu) : (setCvu s c x).cvu = lset s.cvu c x := rfl
@[simp] theorem setCvu_sealer (c : Nat) (x : Cvu) : (setCvu s c x).sealer = s.sealer := rfl
@[simp] theorem setCvu_rcv (c : Nat) (x : Cvu) : (setCvu s c x).rcv = s.rcv := rfl
@[simp] theorem setCvu_eth (c : Nat) (x : Cvu) : (setCvu s c x).eth = s.eth := rfl
@[simp] theorem setCvu_dict (c : Nat) (x : Cvu) : (setCvu s c x).dict = s.dict := rfl
@[simp] theorem setCvu_flash (c : Nat) (x : Cvu) : (setCvu s c x).flash = s.flash := rfl
@[simp] theorem setCvu_rtc (c : Nat) (x : Cvu) : (setCvu s c x).rtc = s.rtc := rfl
@[simp] theorem setCvu_port (c : Nat) (x : Cvu) : (setCvu s c x).port = s.port := rfl

/-! ## drawn -/

@[simp] theorem drawn_pending : (drawn s).pending = s.pending := rfl
@[simp] theorem drawn_held : (drawn s).held = s.held := rfl
@[simp] theorem drawn_now : (drawn s).now = s.now := rfl
@[simp] theorem drawn_free : (drawn s).free = s.free + 1 := rfl
@[simp] theorem drawn_out : (drawn s).out = s.out := rfl
@[simp] theorem drawn_id : (drawn s).id = s.id := rfl
@[simp] theorem drawn_pwr : (drawn s).pwr = s.pwr := rfl
@[simp] theorem drawn_scrub : (drawn s).scrub = s.scrub := rfl
@[simp] theorem drawn_tele : (drawn s).tele = s.tele := rfl
@[simp] theorem drawn_vb : (drawn s).vb = s.vb := rfl
@[simp] theorem drawn_erq : (drawn s).erq = s.erq := rfl
@[simp] theorem drawn_hif : (drawn s).hif = s.hif := rfl
@[simp] theorem drawn_biv : (drawn s).biv = s.biv := rfl
@[simp] theorem drawn_obj : (drawn s).obj = s.obj := rfl
@[simp] theorem drawn_quad : (drawn s).quad = s.quad := rfl
@[simp] theorem drawn_tile : (drawn s).tile = s.tile := rfl
@[simp] theorem drawn_mesh : (drawn s).mesh = s.mesh := rfl
@[simp] theorem drawn_hbm : (drawn s).hbm = s.hbm := rfl
@[simp] theorem drawn_txn : (drawn s).txn = s.txn := rfl
@[simp] theorem drawn_port : (drawn s).port = s.port := rfl
@[simp] theorem drawn_fab : (drawn s).fab = s.fab := rfl
@[simp] theorem drawn_pair : (drawn s).pair = s.pair := rfl
@[simp] theorem drawn_kh : (drawn s).kh = s.kh := rfl
@[simp] theorem drawn_cvu : (drawn s).cvu = s.cvu := rfl
@[simp] theorem drawn_sealer : (drawn s).sealer = s.sealer := rfl
@[simp] theorem drawn_rcv : (drawn s).rcv = s.rcv := rfl
@[simp] theorem drawn_eth : (drawn s).eth = s.eth := rfl
@[simp] theorem drawn_dict : (drawn s).dict = s.dict := rfl
@[simp] theorem drawn_flash : (drawn s).flash = s.flash := rfl
@[simp] theorem drawn_rtc : (drawn s).rtc = s.rtc := rfl

/-! ## emit -/

@[simp] theorem emit_pending (o : Out) : (emit o s).pending = s.pending := rfl
@[simp] theorem emit_held (o : Out) : (emit o s).held = s.held := rfl
@[simp] theorem emit_now (o : Out) : (emit o s).now = s.now := rfl
@[simp] theorem emit_free (o : Out) : (emit o s).free = s.free := rfl
@[simp] theorem emit_out (o : Out) : (emit o s).out = s.out ++ [o] := rfl
@[simp] theorem emit_id (o : Out) : (emit o s).id = s.id := rfl
@[simp] theorem emit_pwr (o : Out) : (emit o s).pwr = s.pwr := rfl
@[simp] theorem emit_scrub (o : Out) : (emit o s).scrub = s.scrub := rfl
@[simp] theorem emit_tele (o : Out) : (emit o s).tele = s.tele := rfl
@[simp] theorem emit_vb (o : Out) : (emit o s).vb = s.vb := rfl
@[simp] theorem emit_erq (o : Out) : (emit o s).erq = s.erq := rfl
@[simp] theorem emit_hif (o : Out) : (emit o s).hif = s.hif := rfl
@[simp] theorem emit_biv (o : Out) : (emit o s).biv = s.biv := rfl
@[simp] theorem emit_obj (o : Out) : (emit o s).obj = s.obj := rfl
@[simp] theorem emit_quad (o : Out) : (emit o s).quad = s.quad := rfl
@[simp] theorem emit_tile (o : Out) : (emit o s).tile = s.tile := rfl
@[simp] theorem emit_mesh (o : Out) : (emit o s).mesh = s.mesh := rfl
@[simp] theorem emit_hbm (o : Out) : (emit o s).hbm = s.hbm := rfl
@[simp] theorem emit_txn (o : Out) : (emit o s).txn = s.txn := rfl
@[simp] theorem emit_port (o : Out) : (emit o s).port = s.port := rfl
@[simp] theorem emit_fab (o : Out) : (emit o s).fab = s.fab := rfl
@[simp] theorem emit_pair (o : Out) : (emit o s).pair = s.pair := rfl
@[simp] theorem emit_kh (o : Out) : (emit o s).kh = s.kh := rfl
@[simp] theorem emit_cvu (o : Out) : (emit o s).cvu = s.cvu := rfl
@[simp] theorem emit_sealer (o : Out) : (emit o s).sealer = s.sealer := rfl
@[simp] theorem emit_rcv (o : Out) : (emit o s).rcv = s.rcv := rfl
@[simp] theorem emit_eth (o : Out) : (emit o s).eth = s.eth := rfl
@[simp] theorem emit_dict (o : Out) : (emit o s).dict = s.dict := rfl
@[simp] theorem emit_flash (o : Out) : (emit o s).flash = s.flash := rfl
@[simp] theorem emit_rtc (o : Out) : (emit o s).rtc = s.rtc := rfl

/-! ## emitAll -/

@[simp] theorem emitAll_pending (l : List Out) : (emitAll l s).pending = s.pending := rfl
@[simp] theorem emitAll_held (l : List Out) : (emitAll l s).held = s.held := rfl
@[simp] theorem emitAll_now (l : List Out) : (emitAll l s).now = s.now := rfl
@[simp] theorem emitAll_free (l : List Out) : (emitAll l s).free = s.free := rfl
@[simp] theorem emitAll_out (l : List Out) : (emitAll l s).out = s.out ++ l := rfl
@[simp] theorem emitAll_id (l : List Out) : (emitAll l s).id = s.id := rfl
@[simp] theorem emitAll_pwr (l : List Out) : (emitAll l s).pwr = s.pwr := rfl
@[simp] theorem emitAll_scrub (l : List Out) : (emitAll l s).scrub = s.scrub := rfl
@[simp] theorem emitAll_tele (l : List Out) : (emitAll l s).tele = s.tele := rfl
@[simp] theorem emitAll_vb (l : List Out) : (emitAll l s).vb = s.vb := rfl
@[simp] theorem emitAll_erq (l : List Out) : (emitAll l s).erq = s.erq := rfl
@[simp] theorem emitAll_hif (l : List Out) : (emitAll l s).hif = s.hif := rfl
@[simp] theorem emitAll_biv (l : List Out) : (emitAll l s).biv = s.biv := rfl
@[simp] theorem emitAll_obj (l : List Out) : (emitAll l s).obj = s.obj := rfl
@[simp] theorem emitAll_quad (l : List Out) : (emitAll l s).quad = s.quad := rfl
@[simp] theorem emitAll_tile (l : List Out) : (emitAll l s).tile = s.tile := rfl
@[simp] theorem emitAll_mesh (l : List Out) : (emitAll l s).mesh = s.mesh := rfl
@[simp] theorem emitAll_hbm (l : List Out) : (emitAll l s).hbm = s.hbm := rfl
@[simp] theorem emitAll_txn (l : List Out) : (emitAll l s).txn = s.txn := rfl
@[simp] theorem emitAll_port (l : List Out) : (emitAll l s).port = s.port := rfl
@[simp] theorem emitAll_fab (l : List Out) : (emitAll l s).fab = s.fab := rfl
@[simp] theorem emitAll_pair (l : List Out) : (emitAll l s).pair = s.pair := rfl
@[simp] theorem emitAll_kh (l : List Out) : (emitAll l s).kh = s.kh := rfl
@[simp] theorem emitAll_cvu (l : List Out) : (emitAll l s).cvu = s.cvu := rfl
@[simp] theorem emitAll_sealer (l : List Out) : (emitAll l s).sealer = s.sealer := rfl
@[simp] theorem emitAll_rcv (l : List Out) : (emitAll l s).rcv = s.rcv := rfl
@[simp] theorem emitAll_eth (l : List Out) : (emitAll l s).eth = s.eth := rfl
@[simp] theorem emitAll_dict (l : List Out) : (emitAll l s).dict = s.dict := rfl
@[simp] theorem emitAll_flash (l : List Out) : (emitAll l s).flash = s.flash := rfl
@[simp] theorem emitAll_rtc (l : List Out) : (emitAll l s).rtc = s.rtc := rfl

/-! ## stbyDrive -/

@[simp] theorem stbyDrive_pending : (stbyDrive s).pending = s.pending := rfl
@[simp] theorem stbyDrive_held : (stbyDrive s).held = s.held := rfl
@[simp] theorem stbyDrive_now : (stbyDrive s).now = s.now := rfl
@[simp] theorem stbyDrive_free : (stbyDrive s).free = s.free := rfl
@[simp] theorem stbyDrive_out : (stbyDrive s).out = s.out ++ [.canStby (canStby s)] := rfl
@[simp] theorem stbyDrive_id : (stbyDrive s).id = s.id := rfl
@[simp] theorem stbyDrive_pwr : (stbyDrive s).pwr = s.pwr := rfl
@[simp] theorem stbyDrive_scrub : (stbyDrive s).scrub = s.scrub := rfl
@[simp] theorem stbyDrive_tele : (stbyDrive s).tele = s.tele := rfl
@[simp] theorem stbyDrive_vb : (stbyDrive s).vb = s.vb := rfl
@[simp] theorem stbyDrive_erq : (stbyDrive s).erq = s.erq := rfl
@[simp] theorem stbyDrive_hif : (stbyDrive s).hif = s.hif := rfl
@[simp] theorem stbyDrive_biv : (stbyDrive s).biv = s.biv := rfl
@[simp] theorem stbyDrive_obj : (stbyDrive s).obj = s.obj := rfl
@[simp] theorem stbyDrive_quad : (stbyDrive s).quad = s.quad := rfl
@[simp] theorem stbyDrive_tile : (stbyDrive s).tile = s.tile := rfl
@[simp] theorem stbyDrive_mesh : (stbyDrive s).mesh = s.mesh := rfl
@[simp] theorem stbyDrive_hbm : (stbyDrive s).hbm = s.hbm := rfl
@[simp] theorem stbyDrive_txn : (stbyDrive s).txn = s.txn := rfl
@[simp] theorem stbyDrive_port : (stbyDrive s).port = s.port := rfl
@[simp] theorem stbyDrive_fab : (stbyDrive s).fab = s.fab := rfl
@[simp] theorem stbyDrive_pair : (stbyDrive s).pair = s.pair := rfl
@[simp] theorem stbyDrive_kh : (stbyDrive s).kh = s.kh := rfl
@[simp] theorem stbyDrive_cvu : (stbyDrive s).cvu = s.cvu := rfl
@[simp] theorem stbyDrive_sealer : (stbyDrive s).sealer = s.sealer := rfl
@[simp] theorem stbyDrive_rcv : (stbyDrive s).rcv = s.rcv := rfl
@[simp] theorem stbyDrive_eth : (stbyDrive s).eth = s.eth := rfl
@[simp] theorem stbyDrive_dict : (stbyDrive s).dict = s.dict := rfl
@[simp] theorem stbyDrive_flash : (stbyDrive s).flash = s.flash := rfl
@[simp] theorem stbyDrive_rtc : (stbyDrive s).rtc = s.rtc := rfl

/-! ## hbmWrite -/

@[simp] theorem hbmWrite_pending (pa : Nat) (b : Bytes) : (hbmWrite pa b s).pending = s.pending := rfl
@[simp] theorem hbmWrite_held (pa : Nat) (b : Bytes) : (hbmWrite pa b s).held = s.held := rfl
@[simp] theorem hbmWrite_now (pa : Nat) (b : Bytes) : (hbmWrite pa b s).now = s.now := rfl
@[simp] theorem hbmWrite_free (pa : Nat) (b : Bytes) : (hbmWrite pa b s).free = s.free := rfl
@[simp] theorem hbmWrite_out (pa : Nat) (b : Bytes) : (hbmWrite pa b s).out = s.out := rfl
@[simp] theorem hbmWrite_id (pa : Nat) (b : Bytes) : (hbmWrite pa b s).id = s.id := rfl
@[simp] theorem hbmWrite_pwr (pa : Nat) (b : Bytes) : (hbmWrite pa b s).pwr = s.pwr := rfl
@[simp] theorem hbmWrite_scrub (pa : Nat) (b : Bytes) : (hbmWrite pa b s).scrub = s.scrub := rfl
@[simp] theorem hbmWrite_tele (pa : Nat) (b : Bytes) : (hbmWrite pa b s).tele = s.tele := rfl
@[simp] theorem hbmWrite_vb (pa : Nat) (b : Bytes) : (hbmWrite pa b s).vb = s.vb := rfl
@[simp] theorem hbmWrite_erq (pa : Nat) (b : Bytes) : (hbmWrite pa b s).erq = s.erq := rfl
@[simp] theorem hbmWrite_hif (pa : Nat) (b : Bytes) : (hbmWrite pa b s).hif = s.hif := rfl
@[simp] theorem hbmWrite_biv (pa : Nat) (b : Bytes) : (hbmWrite pa b s).biv = s.biv := rfl
@[simp] theorem hbmWrite_obj (pa : Nat) (b : Bytes) : (hbmWrite pa b s).obj = s.obj := rfl
@[simp] theorem hbmWrite_quad (pa : Nat) (b : Bytes) : (hbmWrite pa b s).quad = s.quad := rfl
@[simp] theorem hbmWrite_tile (pa : Nat) (b : Bytes) : (hbmWrite pa b s).tile = s.tile := rfl
@[simp] theorem hbmWrite_mesh (pa : Nat) (b : Bytes) : (hbmWrite pa b s).mesh = s.mesh := rfl
@[simp] theorem hbmWrite_hbm (pa : Nat) (b : Bytes) : (hbmWrite pa b s).hbm = memWrite 0 s.hbm pa b := rfl
@[simp] theorem hbmWrite_txn (pa : Nat) (b : Bytes) : (hbmWrite pa b s).txn = s.txn := rfl
@[simp] theorem hbmWrite_port (pa : Nat) (b : Bytes) : (hbmWrite pa b s).port = s.port := rfl
@[simp] theorem hbmWrite_fab (pa : Nat) (b : Bytes) : (hbmWrite pa b s).fab = s.fab := rfl
@[simp] theorem hbmWrite_pair (pa : Nat) (b : Bytes) : (hbmWrite pa b s).pair = s.pair := rfl
@[simp] theorem hbmWrite_kh (pa : Nat) (b : Bytes) : (hbmWrite pa b s).kh = s.kh := rfl
@[simp] theorem hbmWrite_cvu (pa : Nat) (b : Bytes) : (hbmWrite pa b s).cvu = s.cvu := rfl
@[simp] theorem hbmWrite_sealer (pa : Nat) (b : Bytes) : (hbmWrite pa b s).sealer = s.sealer := rfl
@[simp] theorem hbmWrite_rcv (pa : Nat) (b : Bytes) : (hbmWrite pa b s).rcv = s.rcv := rfl
@[simp] theorem hbmWrite_eth (pa : Nat) (b : Bytes) : (hbmWrite pa b s).eth = s.eth := rfl
@[simp] theorem hbmWrite_dict (pa : Nat) (b : Bytes) : (hbmWrite pa b s).dict = s.dict := rfl
@[simp] theorem hbmWrite_flash (pa : Nat) (b : Bytes) : (hbmWrite pa b s).flash = s.flash := rfl
@[simp] theorem hbmWrite_rtc (pa : Nat) (b : Bytes) : (hbmWrite pa b s).rtc = s.rtc := rfl

/-! ## withPending -/

@[simp] theorem withPending_pending (l : List Instr) : (s.withPending l).pending = l := rfl
@[simp] theorem withPending_now (l : List Instr) : (s.withPending l).now = s.now := rfl
@[simp] theorem withPending_held (l : List Instr) : (s.withPending l).held = s.held := rfl
@[simp] theorem withPending_free (l : List Instr) : (s.withPending l).free = s.free := rfl
@[simp] theorem withPending_out (l : List Instr) : (s.withPending l).out = s.out := rfl
@[simp] theorem withPending_id (l : List Instr) : (s.withPending l).id = s.id := rfl
@[simp] theorem withPending_pwr (l : List Instr) : (s.withPending l).pwr = s.pwr := rfl
@[simp] theorem withPending_scrub (l : List Instr) : (s.withPending l).scrub = s.scrub := rfl
@[simp] theorem withPending_tele (l : List Instr) : (s.withPending l).tele = s.tele := rfl
@[simp] theorem withPending_vb (l : List Instr) : (s.withPending l).vb = s.vb := rfl
@[simp] theorem withPending_erq (l : List Instr) : (s.withPending l).erq = s.erq := rfl
@[simp] theorem withPending_hif (l : List Instr) : (s.withPending l).hif = s.hif := rfl
@[simp] theorem withPending_biv (l : List Instr) : (s.withPending l).biv = s.biv := rfl
@[simp] theorem withPending_obj (l : List Instr) : (s.withPending l).obj = s.obj := rfl
@[simp] theorem withPending_quad (l : List Instr) : (s.withPending l).quad = s.quad := rfl
@[simp] theorem withPending_tile (l : List Instr) : (s.withPending l).tile = s.tile := rfl
@[simp] theorem withPending_mesh (l : List Instr) : (s.withPending l).mesh = s.mesh := rfl
@[simp] theorem withPending_hbm (l : List Instr) : (s.withPending l).hbm = s.hbm := rfl
@[simp] theorem withPending_txn (l : List Instr) : (s.withPending l).txn = s.txn := rfl
@[simp] theorem withPending_port (l : List Instr) : (s.withPending l).port = s.port := rfl
@[simp] theorem withPending_fab (l : List Instr) : (s.withPending l).fab = s.fab := rfl
@[simp] theorem withPending_pair (l : List Instr) : (s.withPending l).pair = s.pair := rfl
@[simp] theorem withPending_kh (l : List Instr) : (s.withPending l).kh = s.kh := rfl
@[simp] theorem withPending_cvu (l : List Instr) : (s.withPending l).cvu = s.cvu := rfl
@[simp] theorem withPending_sealer (l : List Instr) : (s.withPending l).sealer = s.sealer := rfl
@[simp] theorem withPending_rcv (l : List Instr) : (s.withPending l).rcv = s.rcv := rfl
@[simp] theorem withPending_eth (l : List Instr) : (s.withPending l).eth = s.eth := rfl
@[simp] theorem withPending_dict (l : List Instr) : (s.withPending l).dict = s.dict := rfl
@[simp] theorem withPending_flash (l : List Instr) : (s.withPending l).flash = s.flash := rfl
@[simp] theorem withPending_rtc (l : List Instr) : (s.withPending l).rtc = s.rtc := rfl

/-! ## bump -/

@[simp] theorem bump_pending (index sub n : Nat) : (bump index sub n s).pending = s.pending := rfl
@[simp] theorem bump_held (index sub n : Nat) : (bump index sub n s).held = s.held := rfl
@[simp] theorem bump_now (index sub n : Nat) : (bump index sub n s).now = s.now := rfl
@[simp] theorem bump_free (index sub n : Nat) : (bump index sub n s).free = s.free := rfl
@[simp] theorem bump_out (index sub n : Nat) : (bump index sub n s).out = s.out := rfl
@[simp] theorem bump_id (index sub n : Nat) : (bump index sub n s).id = s.id := rfl
@[simp] theorem bump_pwr (index sub n : Nat) : (bump index sub n s).pwr = s.pwr := rfl
@[simp] theorem bump_scrub (index sub n : Nat) : (bump index sub n s).scrub = s.scrub := rfl
@[simp] theorem bump_tele (index sub n : Nat) : (bump index sub n s).tele = s.tele := rfl
@[simp] theorem bump_vb (index sub n : Nat) : (bump index sub n s).vb = s.vb := rfl
@[simp] theorem bump_erq (index sub n : Nat) : (bump index sub n s).erq = s.erq := rfl
@[simp] theorem bump_hif (index sub n : Nat) : (bump index sub n s).hif = s.hif := rfl
@[simp] theorem bump_biv (index sub n : Nat) : (bump index sub n s).biv = s.biv := rfl
@[simp] theorem bump_obj (index sub n : Nat) : (bump index sub n s).obj = s.obj := rfl
@[simp] theorem bump_quad (index sub n : Nat) : (bump index sub n s).quad = s.quad := rfl
@[simp] theorem bump_tile (index sub n : Nat) : (bump index sub n s).tile = s.tile := rfl
@[simp] theorem bump_mesh (index sub n : Nat) : (bump index sub n s).mesh = s.mesh := rfl
@[simp] theorem bump_hbm (index sub n : Nat) : (bump index sub n s).hbm = s.hbm := rfl
@[simp] theorem bump_txn (index sub n : Nat) : (bump index sub n s).txn = s.txn := rfl
@[simp] theorem bump_port (index sub n : Nat) : (bump index sub n s).port = s.port := rfl
@[simp] theorem bump_fab (index sub n : Nat) : (bump index sub n s).fab = s.fab := rfl
@[simp] theorem bump_pair (index sub n : Nat) : (bump index sub n s).pair = s.pair := rfl
@[simp] theorem bump_kh (index sub n : Nat) : (bump index sub n s).kh = s.kh := rfl
@[simp] theorem bump_cvu (index sub n : Nat) : (bump index sub n s).cvu = s.cvu := rfl
@[simp] theorem bump_sealer (index sub n : Nat) : (bump index sub n s).sealer = s.sealer := rfl
@[simp] theorem bump_rcv (index sub n : Nat) : (bump index sub n s).rcv = s.rcv := rfl
@[simp] theorem bump_eth (index sub n : Nat) : (bump index sub n s).eth = s.eth := rfl
@[simp] theorem bump_flash (index sub n : Nat) : (bump index sub n s).flash = s.flash := rfl
@[simp] theorem bump_rtc (index sub n : Nat) : (bump index sub n s).rtc = s.rtc := rfl

end Sys2Proof.Machine
end

