-- ==== Sys2Proof/Laws/Tab.lean ====
section
/-!
SUPPORT. The sparse tables: reading after writing, and that every operation keeps the canonical form.
-/
namespace Sys2Proof

variable {α : Type}

@[simp] theorem tget_nil (d : α) (k : Nat) : tget d [] k = d := rfl

theorem tget_cons (d : α) (k' : Nat) (v : α) (r : Tab α) (k : Nat) :
    tget d ((k', v) :: r) k = if k = k' then v else if k < k' then d else tget d r k := rfl

variable [DecidableEq α]

/-- A key reads what was written there, where that is not the table's default. -/
theorem tget_tput_self (d v : α) (hv : v ≠ d) (l : Tab α) (k : Nat) : tget d (tput d l k v) k = v := by
  induction l with
  | nil => simp [tput, tget, hv]
  | cons e r ih =>
    obtain ⟨k', v'⟩ := e
    simp only [tput, hv, if_false]
    by_cases h1 : k < k'
    · simp [h1, tget]
    · by_cases h2 : k = k'
      · simp [h2, tget]
      · simp [h1, h2, tget, ih]

/-- A key reads as before where another one was written, and that value is not the table's default. -/
theorem tget_tput_of_ne (d v : α) (hv : v ≠ d) (l : Tab α) (k j : Nat) (hj : j ≠ k) :
    tget d (tput d l k v) j = tget d l j := by
  induction l with
  | nil => simp [tput, tget, hv, hj]
  | cons e r ih =>
    obtain ⟨k', v'⟩ := e
    simp only [tput, hv, if_false]
    by_cases h1 : k < k'
    · simp only [h1, if_true, tget, hj, if_false]
      by_cases h3 : j < k
      · simp [h3, show j < k' by omega, show j ≠ k' by omega]
      · simp [h3]
    · by_cases h2 : k = k'
      · subst h2; simp [tget, hj]
      · simp only [h1, h2, if_false, tget, ih]

/-! ## The canonical form -/

theorem tabWfFrom_cons (d : α) (lo : Option Nat) (k : Nat) (v : α) (r : Tab α) :
    tabWfFrom d lo ((k, v) :: r) = true ↔
      (∀ l, lo = some l → l < k) ∧ v ≠ d ∧ tabWfFrom d (some k) r = true := by
  cases lo <;> simp [tabWfFrom, and_assoc]

/-- A canonical table stays canonical above a lower bound. -/
theorem tabWfFrom_mono (d : α) (l : Tab α) (a b : Option Nat) (hab : ∀ x, b = some x → ∃ y, a = some y ∧ x ≤ y)
    (h : tabWfFrom d a l = true) : tabWfFrom d b l = true := by
  cases l with
  | nil => rfl
  | cons e r =>
    obtain ⟨k, v⟩ := e
    rw [tabWfFrom_cons] at h ⊢
    refine ⟨fun x hx => ?_, h.2⟩
    obtain ⟨y, hy, hxy⟩ := hab x hx
    have := h.1 y hy
    omega

theorem tabWfFrom_tput (d : α) (l : Tab α) (k : Nat) (v : α) :
    ∀ lo : Option Nat, (∀ x, lo = some x → x < k) → tabWfFrom d lo l = true →
      tabWfFrom d lo (tput d l k v) = true := by
  induction l with
  | nil =>
    intro lo hlo _
    by_cases hv : v = d
    · simp [tput, hv, tabWfFrom]
    · simp only [tput, hv, if_false]
      exact (tabWfFrom_cons ..).2 ⟨hlo, hv, rfl⟩
  | cons e r ih =>
    obtain ⟨k', v'⟩ := e
    intro lo hlo h
    have h' := (tabWfFrom_cons ..).1 h
    simp only [tput]
    by_cases h1 : k < k'
    · by_cases hv : v = d
      · simpa [h1, hv] using h
      · simp only [h1, hv, if_true, if_false]
        exact (tabWfFrom_cons ..).2 ⟨hlo, hv, (tabWfFrom_cons ..).2 ⟨by rintro x ⟨⟩; exact h1, h'.2⟩⟩
    · by_cases h2 : k = k'
      · subst h2
        by_cases hv : v = d
        · simp only [h1, hv, if_true, if_false]
          exact tabWfFrom_mono d r (some k) lo (fun x hx => ⟨k, rfl, (hlo x hx).le⟩) h'.2.2
        · simp only [h1, hv, if_true, if_false]
          exact (tabWfFrom_cons ..).2 ⟨hlo, hv, h'.2.2⟩
      · simp only [h1, h2, if_false]
        exact (tabWfFrom_cons ..).2 ⟨h'.1, h'.2.1, ih (some k') (by rintro x ⟨⟩; omega) h'.2.2⟩

/-- Writing a key keeps a table canonical. -/
theorem tabWf_tput (d : α) (l : Tab α) (k : Nat) (v : α) (h : tabWf d l = true) : tabWf d (tput d l k v) = true :=
  tabWfFrom_tput d l k v none (by simp) h

theorem tabWfFrom_filter (d : α) (p : Nat × α → Bool) (l : Tab α) :
    ∀ lo, tabWfFrom d lo l = true → tabWfFrom d lo (l.filter p) = true := by
  induction l with
  | nil => intro lo h; simpa using h
  | cons e r ih =>
    obtain ⟨k, v⟩ := e
    intro lo h
    have h' := (tabWfFrom_cons ..).1 h
    by_cases hp : p (k, v) = true
    · rw [List.filter_cons_of_pos hp]
      exact (tabWfFrom_cons ..).2 ⟨h'.1, h'.2.1, ih _ h'.2.2⟩
    · rw [List.filter_cons_of_neg hp]
      refine tabWfFrom_mono d _ (some k) lo (fun x hx => ⟨k, rfl, (h'.1 x hx).le⟩) (ih _ h'.2.2)

/-- Dropping entries keeps a table canonical. -/
theorem tabWf_filter (d : α) (p : Nat × α → Bool) (l : Tab α) (h : tabWf d l = true) : tabWf d (l.filter p) = true :=
  tabWfFrom_filter d p l none h

theorem tabWfFrom_tmap (d : α) (f : Nat → α → α) (l : Tab α) :
    ∀ lo, tabWfFrom d lo l = true → tabWfFrom d lo (tmap d f l) = true := by
  induction l with
  | nil => intro lo _; rfl
  | cons e r ih =>
    obtain ⟨k, v⟩ := e
    intro lo h
    have h' := (tabWfFrom_cons ..).1 h
    have hr := ih (some k) h'.2.2
    unfold tmap at hr ⊢
    rw [List.map_cons]
    by_cases hv : f k v = d
    · rw [List.filter_cons_of_neg (by simp [hv])]
      exact tabWfFrom_mono d _ (some k) lo (fun x hx => ⟨k, rfl, (h'.1 x hx).le⟩) hr
    · rw [List.filter_cons_of_pos (by simp [hv])]
      exact (tabWfFrom_cons ..).2 ⟨h'.1, hv, hr⟩

/-- Changing the entries keeps a table canonical. -/
theorem tabWf_tmap (d : α) (f : Nat → α → α) (l : Tab α) (h : tabWf d l = true) : tabWf d (tmap d f l) = true :=
  tabWfFrom_tmap d f l none h

/-- Storing bytes keeps a memory canonical. -/
theorem tabWf_memWrite (d : Byte) (b : Bytes) : ∀ (m : Tab Byte) (a : Nat), tabWf d m = true →
    tabWf d (memWrite d m a b) = true := by
  induction b with
  | nil => intro m a h; exact h
  | cons x r ih => intro m a h; exact ih _ _ (tabWf_tput d m a x h)

/-- Clearing bytes keeps a memory canonical. -/
theorem tabWf_memClear (d : Byte) (m : Tab Byte) (a n : Nat) (h : tabWf d m = true) : tabWf d (memClear m a n) = true :=
  tabWf_filter d _ m h

/-! ## Reading after writing, in canonical tables -/

/-- Below its first key a canonical table reads the default. -/
theorem tget_of_wfFrom (d : α) (l : Tab α) (lo k : Nat) (hk : k ≤ lo) (h : tabWfFrom d (some lo) l = true) :
    tget d l k = d := by
  cases l with
  | nil => rfl
  | cons e r =>
    obtain ⟨k', v'⟩ := e
    have := ((tabWfFrom_cons ..).1 h).1 lo rfl
    simp [tget, show k ≠ k' by omega, show k < k' by omega]

theorem tget_tput_from (d : α) (l : Tab α) (k j : Nat) (v : α) :
    ∀ lo, tabWfFrom d lo l = true → tget d (tput d l k v) j = if j = k then v else tget d l j := by
  by_cases hv : v = d
  · subst hv
    induction l with
    | nil => intro lo _; simp [tput]
    | cons e r ih =>
      obtain ⟨k', v'⟩ := e
      intro lo h
      have h' := (tabWfFrom_cons ..).1 h
      simp only [tput, if_true]
      by_cases h1 : k < k'
      · simp only [h1, if_true]
        by_cases hj : j = k
        · subst hj; simp [tget, h1, show j ≠ k' by omega]
        · simp [hj]
      · by_cases h2 : k = k'
        · subst h2
          simp only [h1, if_true, if_false]
          by_cases hj : j = k
          · subst hj; simp [tget_of_wfFrom v r j j (Nat.le_refl _) h'.2.2]
          · simp only [hj, if_false, tget]
            by_cases h3 : j < k
            · simp [h3, tget_of_wfFrom v r k j h3.le h'.2.2]
            · simp [h3]
        · simp only [h1, h2, if_false, tget, ih _ h'.2.2]
          by_cases h3 : j = k'
          · simp [h3, show k' ≠ k by omega]
          · by_cases h4 : j < k'
            · simp [h3, h4, show j ≠ k by omega]
            · simp [h3, h4]
  · intro lo _
    by_cases hj : j = k
    · subst hj; simp [tget_tput_self d v hv l j]
    · simp [hj, tget_tput_of_ne d v hv l k j hj]

/-- What a canonical table reads after a write. -/
theorem tget_tput (d : α) (l : Tab α) (k j : Nat) (v : α) (h : tabWf d l = true) :
    tget d (tput d l k v) j = if j = k then v else tget d l j := tget_tput_from d l k j v none h

/-- Each byte after a store: the byte stored there, else the byte before. -/
theorem tget_memWrite (d : Byte) (b : Bytes) : ∀ (m : Tab Byte) (a j : Nat), tabWf d m = true →
    tget d (memWrite d m a b) j = if a ≤ j ∧ j < a + b.length then b.getD (j - a) d else tget d m j := by
  induction b with
  | nil => intro m a j _; simp [memWrite, show ¬(a ≤ j ∧ j < a) by omega]
  | cons x r ih =>
    intro m a j h
    rw [memWrite, ih _ _ _ (tabWf_tput d m a x h), tget_tput d m a j x h]
    by_cases h1 : j = a
    · subst h1; simp
    · by_cases h2 : a + 1 ≤ j ∧ j < a + 1 + r.length
      · have h3 : a ≤ j ∧ j < a + (r.length + 1) := by omega
        have h4 : j - a = (j - (a + 1)) + 1 := by omega
        simp [h2, h3, h4]
      · have h3 : ¬(a ≤ j ∧ j < a + (r.length + 1)) := by omega
        rw [if_neg h2, if_neg h1, List.length_cons, if_neg h3]

/-! ## Lists by index -/

@[simp] theorem lset_length {β : Type} (l : List β) (i : Nat) (v : β) : (lset l i v).length = l.length := by
  induction l generalizing i with
  | nil => rfl
  | cons x r ih => cases i <;> simp [lset, ih]

theorem lget_lset {β : Type} (d v : β) (l : List β) (i j : Nat) (hi : i < l.length) :
    lget d (lset l i v) j = if j = i then v else lget d l j := by
  induction l generalizing i j with
  | nil => simp at hi
  | cons x r ih =>
    cases i with
    | zero => cases j <;> simp [lset, lget]
    | succ i =>
      cases j with
      | zero => simp [lset, lget]
      | succ j => simpa [lset, lget] using ih i j (by simpa using hi)

end Sys2Proof
end

