-- ==== Sys2Proof/Laws/Ops.lean ====
section
/-!
SUPPORT. What each shared operation can do: one lemma per operation, to be cited in place of unfolding it; and `Kept`, the
relation of a state to a later one that keeps the queue, the identity, the fuses and the form of every table.
-/
namespace Sys2Proof.Machine

variable (s : State)

/-! ## Looking up what was set -/

theorem ctxOf_setCtx (c d : Nat) (x : Ctx) (h : tabWf {} s.obj.ctx = true) :
    ctxOf (setCtx s c x) d = if d = c then x else ctxOf s d := tget_tput _ _ _ _ _ h
theorem queueOf_setQueue (q d : Nat) (x : Queue) (h : tabWf {} s.obj.q = true) :
    queueOf (setQueue s q x) d = if d = q then x else queueOf s d := tget_tput _ _ _ _ _ h
theorem moOf_setMo (m d : Nat) (x : MemObj) (h : tabWf {} s.obj.mo = true) :
    moOf (setMo s m x) d = if d = m then x else moOf s d := tget_tput _ _ _ _ _ h
theorem evOf_setEv (e d : Nat) (x : Event) (h : tabWf {} s.obj.ev = true) :
    evOf (setEv s e x) d = if d = e then x else evOf s d := tget_tput _ _ _ _ _ h
theorem tileOf_setTile (t d : Nat) (x : Tile) (h : tabWf {} s.tile = true) :
    tileOf (setTile s t x) d = if d = t then x else tileOf s d := tget_tput _ _ _ _ _ h
theorem qpOf_setQp (q d : Nat) (x : Qp) (h : tabWf {} s.eth.qp = true) :
    qpOf (setQp s q x) d = if d = q then x else qpOf s d := tget_tput _ _ _ _ _ h
theorem quadOf_setQuad (q d : Nat) (x : Quad) (h : q < s.quad.length) :
    quadOf (setQuad s q x) d = if d = q then x else quadOf s d := lget_lset _ _ _ _ _ h
theorem portOf_setPort (p d : Nat) (x : Port) (h : p < s.port.length) :
    portOf (setPort s p x) d = if d = p then x else portOf s d := lget_lset _ _ _ _ _ h

/-- A slot of the window reads as it was set. -/
theorem slotOf_setSlot (t n d : Nat) (x : Slot) (h : tabWf {} s.tile = true) (hw : tabWf {} (tileOf s t).win = true) :
    slotOf (setSlot s t n x) t d = if d = n then x else slotOf s t d := by
  unfold slotOf setSlot
  rw [tileOf_setTile s _ _ _ h, if_pos rfl]
  exact tget_tput _ _ _ _ _ hw

/-! ## What leaves the device, and records -/

/-- A frame on the field bus changes the bus counters, the transmit error counter and the trace only. -/
theorem canSend_eq (fc : Nat) (b : Bytes) :
    ∃ bus e o, canSend fc b s = { s with dict.bus := bus, dict.txErr := e, out := s.out ++ o } := by
  unfold canSend
  split
  · exact ⟨_, _, _, rfl⟩
  · exact ⟨s.dict.bus, s.dict.txErr, [], by simp⟩

/-- An EMERGENCY that is due changes the bus and transmit error counters, the lists of those sent and waiting, and the trace only
(15 R397). -/
theorem emergency_eq (e : ErrRec) :
    ∃ bus tx sent wait o,
      emergency e s = { s with
        dict.bus := bus, dict.txErr := tx, dict.emergSent := sent, dict.emerg := wait, out := s.out ++ o } := by
  unfold emergency
  split
  · split
    · unfold sendEmergency
      dsimp only
      split
      · exact ⟨lset s.dict.bus 5 (lget 0 s.dict.bus 5 + 1), s.dict.txErr, s.dict.emergSent, s.dict.emerg, [], by rw [List.append_nil]⟩
      · have h := fun l => canSend_eq { s with dict.emergSent := l } 1 (emergencyBytes e)
        obtain ⟨bus, tx, o, h⟩ := h _
        exact ⟨bus, tx, _, s.dict.emerg, o, h⟩
    · exact ⟨s.dict.bus, s.dict.txErr, s.dict.emergSent, s.dict.emerg ++ [emergencyBytes e], [], by rw [List.append_nil]⟩
  · exact ⟨s.dict.bus, s.dict.txErr, s.dict.emergSent, s.dict.emerg, [], by rw [List.append_nil]⟩

/-- A record joins those that wait for the arbiter, or with HOST off is dropped (05 R133, R137). -/
theorem record_eq (e : ErrRec) :
    record e s = { s with erq.incoming := s.erq.incoming ++ (if domOn s dHOST then [e] else []) } := by
  unfold record
  split <;> simp

/-- An error raised: its record and its EMERGENCY, and nothing else. -/
theorem raise_eq (e : ErrRec) :
    ∃ bus tx sent wait o, raise e s = { s with
      dict.bus := bus, dict.txErr := tx, dict.emergSent := sent, dict.emerg := wait, out := s.out ++ o,
      erq.incoming := s.erq.incoming ++ (if domOn s dHOST then [e] else []) } := by
  obtain ⟨bus, tx, sent, wait, o, h⟩ := emergency_eq s e
  exact ⟨bus, tx, sent, wait, o, by rw [raise, h, record_eq]; rfl⟩

/-- An error owed to the host: its EMERGENCY now, its record later. -/
theorem owe_eq (e : ErrRec) :
    ∃ bus tx sent wait o, owe e s = { s with
      dict.bus := bus, dict.txErr := tx, dict.emergSent := sent, dict.emerg := wait, out := s.out ++ o, pwr.due := s.pwr.due ++ [e] } := by
  obtain ⟨bus, tx, sent, wait, o, h⟩ := emergency_eq s e
  exact ⟨bus, tx, sent, wait, o, by rw [owe, h]⟩

/-- An MSI-X message leaves, or its Pending Bit is set, or nothing happens (06 R138, R162). -/
theorem msix_eq (v : BitVec 11) : ∃ m o, msix v s = { s with hif.msix := m, out := s.out ++ o } ∧
    (tabWf 0 s.hif.msix = true → tabWf 0 m = true) := by
  unfold msix
  split
  · exact ⟨s.hif.msix, [], by simp, id⟩
  · split
    · exact ⟨_, [], by rw [List.append_nil]; rfl, tabWf_memWrite 0 _ s.hif.msix _⟩
    · exact ⟨s.hif.msix, _, rfl, id⟩

theorem msixIf_eq (v : Option (BitVec 11)) : ∃ m o, msixIf v s = { s with hif.msix := m, out := s.out ++ o } ∧
    (tabWf 0 s.hif.msix = true → tabWf 0 m = true) := by
  cases v with
  | none => exact ⟨s.hif.msix, [], by simp [msixIf], id⟩
  | some v => exact msix_eq s v

/-- A write on host memory: an outstanding request and its trace, or, with the host link lost, nothing (06 R146, R162). -/
theorem hostWrite_eq (a : Nat) (b : Bytes) (ns : Bool) (u : HostUse) :
    ∃ n r o, hostWrite a b ns u s = { s with hif.nextReq := n, hif.reqs := s.hif.reqs ++ r, out := s.out ++ o } := by
  unfold hostWrite
  split
  · exact ⟨s.hif.nextReq, [], [], by simp⟩
  · exact ⟨_, _, _, rfl⟩

/-- The pages of a host object written one by one make host requests only. -/
theorem hostPieces_eq (u : HostUse) (k : Nat) (m : MemObj) (fuel : Nat) :
    ∀ (off : Nat) (b : Bytes) (s : State), ∃ n r o,
      hostPieces u k m fuel off b s = { s with hif.nextReq := n, hif.reqs := s.hif.reqs ++ r, out := s.out ++ o } := by
  induction fuel with
  | zero => intro off b s; exact ⟨s.hif.nextReq, [], [], by simp [hostPieces]⟩
  | succ f ih =>
    intro off b s
    unfold hostPieces
    split
    · exact ⟨s.hif.nextReq, [], [], by simp⟩
    · obtain ⟨n, r, o, h⟩ := hostWrite_eq s (m.pa + off) (b.take (4096 - off % 4096)) (isOwned s k (off / 4096)) u
      obtain ⟨n', r', o', h'⟩ := ih (off + (4096 - off % 4096)) (b.drop (4096 - off % 4096))
        (hostWrite (m.pa + off) (b.take (4096 - off % 4096)) (isOwned s k (off / 4096)) u s)
      refine ⟨n', r ++ r', o ++ o', ?_⟩
      dsimp only
      rw [h', h]
      simp [List.append_assoc]

/-! ## HBM -/

/-- What a store of bytes reads as, where they are stored as they are. -/
theorem hbm_hbmWrite (pa a : Nat) (b : Bytes) (h : tabWf 0 s.hbm = true) :
    tget 0 (hbmWrite pa b s).hbm a = if pa ≤ a ∧ a < pa + b.length then b.getD (a - pa) 0 else tget 0 s.hbm a :=
  tget_memWrite 0 b s.hbm pa a h

/-- Lines encrypted and stored change HBM only, keep its form, and leave every byte outside them. -/
theorem encLines_eq (k : BitVec 256) (n : Nat) :
    ∀ (line : Nat) (b : Bytes) (s : State), ∃ h, encLines k n line b s = { s with hbm := h } ∧
      (tabWf 0 s.hbm = true → tabWf 0 h = true ∧
        ∀ a, a < 64 * line → tget 0 h a = tget 0 s.hbm a) := by
  induction n with
  | zero => intro line b s; exact ⟨s.hbm, rfl, fun h => ⟨h, fun _ _ => rfl⟩⟩
  | succ n ih =>
    intro line b s
    unfold encLines
    generalize xtsEnc k line (b.take 64) = v
    obtain ⟨h, e, w⟩ := ih (line + 1) (b.drop 64) (hbmWrite (64 * line) v s)
    refine ⟨h, e, fun hw => ?_⟩
    obtain ⟨w1, w2⟩ := w (tabWf_memWrite 0 v s.hbm (64 * line) hw)
    refine ⟨w1, fun a ha => ?_⟩
    rw [w2 a (by omega), hbm_hbmWrite s _ _ _ hw, if_neg (by omega)]

/-- A class U store changes HBM only and keeps its form. -/
theorem plainWrite_eq (k : BitVec 256) (pa : Nat) (b : Bytes) :
    ∃ h, plainWrite k pa b s = { s with hbm := h } ∧ (tabWf 0 s.hbm = true → tabWf 0 h = true) := by
  unfold plainWrite
  split
  · exact ⟨s.hbm, rfl, id⟩
  · obtain ⟨h, e, w⟩ := encLines_eq k ((pa + b.length - 1) / 64 - pa / 64 + 1) (pa / 64)
      (putB (decLines s k (pa / 64) ((pa + b.length - 1) / 64 - pa / 64 + 1)) (pa % 64) b) s
    exact ⟨h, e, fun hw => (w hw).1⟩

/-- A store into an object changes HBM only and keeps its form. -/
theorem objWriteRaw_eq (m : MemObj) (off : Nat) (b : Bytes) :
    ∃ h, objWriteRaw m off b s = { s with hbm := h } ∧ (tabWf 0 s.hbm = true → tabWf 0 h = true) := by
  unfold objWriteRaw
  split
  · exact plainWrite_eq s _ _ _
  · exact ⟨_, rfl, tabWf_memWrite 0 b s.hbm _⟩

/-! ## Mirror messages -/

/-- A mirror message changes its port's queues and the pair's counters and list only (10 R275, R276). -/
theorem mirSend_eq (mtype arg : Nat) (body : Bytes) (u : MirUse) (ref : Option Nat) (bad : Nat) :
    ∃ l p, mirSend mtype arg body u ref bad s = { s with port := l, pair := p } ∧ l.length = s.port.length ∧
      p.st = s.pair.st ∧ p.role = s.pair.role := by
  unfold mirSend
  cases u <;> exact ⟨_, _, rfl, by simp [queueFrames, setPort], rfl, rfl⟩

theorem mirrorChunks_eq (fuel : Nat) :
    ∀ (pa n : Nat) (s : State), ∃ l p, (mirrorChunks fuel pa n s).2 = { s with port := l, pair := p } ∧
      l.length = s.port.length ∧ p.st = s.pair.st ∧ p.role = s.pair.role := by
  induction fuel with
  | zero => intro pa n s; exact ⟨s.port, s.pair, rfl, rfl, rfl, rfl⟩
  | succ f ih =>
    intro pa n s
    unfold mirrorChunks
    split
    · exact ⟨s.port, s.pair, rfl, rfl, rfl, rfl⟩
    · obtain ⟨l, p, e, hl, h1, h2⟩ := mirSend_eq s 2 pa (hbmRead s pa (min n 4096)) .data none 0
      obtain ⟨l', p', e', hl', h1', h2'⟩ := ih (pa + min n 4096) (n - min n 4096)
        (mirSend 2 pa (hbmRead s pa (min n 4096)) .data none 0 s)
      rw [e] at e' hl' h1' h2'
      exact ⟨l', p', by dsimp only; rw [e]; exact e', hl'.trans hl, h1'.trans h1, h2'.trans h2⟩

/-- A write of an object's bytes changes HBM, and, where it is mirrored, the ports' queues and the pair's counters and list. -/
theorem objWrite_eq (m : MemObj) (off : Nat) (b : Bytes) :
    ∃ h l p, (objWrite m off b s).2 = { s with hbm := h, port := l, pair := p } ∧
      (tabWf 0 s.hbm = true → tabWf 0 h = true) ∧ l.length = s.port.length := by
  obtain ⟨h, e, w⟩ := objWriteRaw_eq s m off b
  unfold objWrite
  dsimp only
  rw [e]
  split
  · obtain ⟨l, p, e', hl, -, -⟩ := mirrorChunks_eq
      (((if m.cls = 0 then (m.pa + off + b.length + 63) / 64 * 64 else m.pa + off + b.length) -
        (if m.cls = 0 then (m.pa + off) / 64 * 64 else m.pa + off)) / 4096 + 1)
      (if m.cls = 0 then (m.pa + off) / 64 * 64 else m.pa + off)
      ((if m.cls = 0 then (m.pa + off + b.length + 63) / 64 * 64 else m.pa + off + b.length) -
        (if m.cls = 0 then (m.pa + off) / 64 * 64 else m.pa + off)) { s with hbm := h }
    exact ⟨h, l, p, e', w, hl⟩
  · exact ⟨h, s.port, s.pair, rfl, w, rfl⟩

/-! ## Context addresses -/

/-- Pieces written change HBM, host requests, the trace, the ports' queues and the pair only. -/
theorem writePieces_eq (u : HostUse) (c : Nat) (ps : List Piece) :
    ∀ (b : Bytes) (ms : List Nat) (s : State), ∃ h l p n r o,
      (writePieces u c ps b ms s).st = { s with
        hbm := h, port := l, pair := p, hif.nextReq := n, hif.reqs := s.hif.reqs ++ r, out := s.out ++ o } ∧
      (tabWf 0 s.hbm = true → tabWf 0 h = true) ∧ l.length = s.port.length := by
  induction ps with
  | nil => intro b ms s; exact ⟨s.hbm, s.port, s.pair, s.hif.nextReq, [], [], by simp [writePieces], id, rfl⟩
  | cons x ps ih =>
    intro b ms s
    unfold writePieces
    split
    · exact ⟨s.hbm, s.port, s.pair, s.hif.nextReq, [], [], by simp, id, rfl⟩
    · split
      · obtain ⟨n, r, o, e⟩ := hostPieces_eq u x.num x.mo (x.len / 4096 + 2) x.off (b.take x.len) s
        obtain ⟨h, l, p, n', r', o', e', w, hl⟩ := ih (b.drop x.len) ms
          (hostPieces u x.num x.mo (x.len / 4096 + 2) x.off (b.take x.len) s)
        rw [e] at e' w hl
        refine ⟨h, l, p, n', r ++ r', o ++ o', ?_, w, hl⟩
        rw [e, e']
        simp [List.append_assoc]
      · obtain ⟨h, l, p, e, w, hl⟩ := objWrite_eq s x.mo x.off (b.take x.len)
        obtain ⟨h', l', p', n', r', o', e', w', hl'⟩ := ih (b.drop x.len) (ms ++ (objWrite x.mo x.off (b.take x.len) s).1)
          (objWrite x.mo x.off (b.take x.len) s).2
        rw [e] at e' w' hl'
        refine ⟨h', l', p', n', r', o', ?_, fun hw => w' (w hw), hl'.trans hl⟩
        dsimp only
        rw [e, e']

/-- Bytes written to context addresses: what `writePieces_eq` says. -/
theorem vaWrite_eq (u : HostUse) (c va : Nat) (b : Bytes) :
    ∃ h l p n r o, (vaWrite u c va b s).st = { s with
        hbm := h, port := l, pair := p, hif.nextReq := n, hif.reqs := s.hif.reqs ++ r, out := s.out ++ o } ∧
      (tabWf 0 s.hbm = true → tabWf 0 h = true) ∧ l.length = s.port.length := by
  have h := writePieces_eq u c (translate s c va b.length).1 b [] s
  unfold vaWrite
  dsimp only
  split <;> exact h

/-! ## Events -/

/-- Waiting slots marked: only the tiles change, and a tile keeps all but its window. -/
theorem markWaits_eq (c n : Nat) (p : Slot → Bool) (st : Nat) : ∃ t, markWaits c n p st s = { s with tile := t } := ⟨_, rfl⟩

/-- A notification changes events, host requests, Pending Bits and the trace only (05 R131). -/
theorem evNotify_eq (n : Nat) : ∃ ev k r m o,
    evNotify n s = { s with
      obj.ev := ev, hif.nextReq := k, hif.reqs := s.hif.reqs ++ r, hif.msix := m, out := s.out ++ o } ∧
      (tabWf {} s.obj.ev = true → tabWf {} ev = true) ∧ (tabWf 0 s.hif.msix = true → tabWf 0 m = true) := by
  unfold evNotify
  dsimp only
  split
  · split
    · obtain ⟨m, o, h, w⟩ := msixIf_eq (setEv s n { evOf s n with armed := false })
        (if (evOf s n).vecEn = true then some (evOf s n).vec else none)
      exact ⟨_, s.hif.nextReq, [], m, o, by rw [h, List.append_nil]; rfl, fun hw => tabWf_tput _ _ n _ hw, w⟩
    · obtain ⟨k, r, o, h⟩ := hostWrite_eq (setEv s n { evOf s n with armed := false, nrec := (evOf s n).nrec + 1 })
        (evOf s n).recAddr.toNat
        (leBytes 2 n ++ leBytes 2 0 ++ leBytes 4 ((evOf s n).nrec + 1).toNat ++ leBytes 8 (evOf s n).cnt.toNat) false
        (.eventRec (if (evOf s n).vecEn = true then some (evOf s n).vec else none))
      exact ⟨_, k, r, s.hif.msix, o, h, fun hw => tabWf_tput _ _ n _ hw, id⟩
  · exact ⟨s.obj.ev, s.hif.nextReq, [], s.hif.msix, [], by simp, id, id⟩

/-- A new counter value changes events, tiles, host requests, Pending Bits and the trace only (05 R130, R131). -/
theorem evChange_eq (n : Nat) (v : BitVec 64) : ∃ ev t k r m o,
    evChange n v s = { s with
      obj.ev := ev, tile := t, hif.nextReq := k, hif.reqs := s.hif.reqs ++ r, hif.msix := m, out := s.out ++ o } ∧
      (tabWf {} s.obj.ev = true → tabWf {} ev = true) ∧ (tabWf 0 s.hif.msix = true → tabWf 0 m = true) := by
  unfold evChange
  obtain ⟨ev, k, r, m, o, h, w, w'⟩ := evNotify_eq (markWaits (evOf s n).ctx n (fun y => decide (leAt y.desc 24 8 ≤ v.toNat)) 0
    (setEv s n { evOf s n with cnt := v })) n
  exact ⟨ev, _, k, r, m, o, h, fun hw => w (tabWf_tput _ _ n _ hw), w'⟩

/-! ## Objects' lists, draws and counters -/

@[simp] theorem drawKey_snd : (drawKey s).2 = drawn s := rfl

/-- A rising counter changes the statistics only and keeps their form. -/
theorem bump_wf (i j n : Nat) (h : tabWf 0 s.dict.stat = true) : tabWf 0 (bump i j n s).dict.stat = true :=
  tabWf_tput 0 s.dict.stat _ _ h

/-! ## What every command keeps -/

/-- `t` comes after `s`: the queue and the identity are the same, no fuse has cleared, the minimum SVN has not fallen, and the
tables and lists that had their form have it still. -/
structure Kept (s t : State) : Prop where
  pending : t.pending = s.pending
  id : t.id = s.id
  revoked : s.flash.revoked &&& t.flash.revoked = s.flash.revoked
  minSvn : s.flash.minSvn.toNat ≤ t.flash.minSvn.toNat
  tables : Tables.wf s = true → Tables.wf t = true
  units : Units.wf s = true → Units.wf t = true

theorem Kept.refl (s : State) : Kept s s :=
  ⟨rfl, rfl, BitVec.and_self, Nat.le_refl _, fun h => h, fun h => h⟩

theorem Kept.trans {s t u : State} (a : Kept s t) (b : Kept t u) : Kept s u := by
  refine ⟨b.pending.trans a.pending, b.id.trans a.id, ?_, Nat.le_trans a.minSvn b.minSvn,
    fun h => b.tables (a.tables h), fun h => b.units (a.units h)⟩
  rw [← a.revoked, BitVec.and_assoc, b.revoked]

/-- A fold of steps that each keep, keeps. -/
theorem Kept.foldl {β : Type} (f : State → β → State) (h : ∀ s x, Kept s (f s x)) (l : List β) :
    ∀ s, Kept s (l.foldl f s) := by
  induction l with
  | nil => exact Kept.refl
  | cons x r ih => exact fun s => (h s x).trans (ih _)

theorem Kept.each {f : Nat → State → State} (h : ∀ i s, Kept s (f i s)) (l : List Nat) (s : State) : Kept s (each l f s) :=
  Kept.foldl (fun a i => f i a) (fun s x => h x s) l s

/-- The parts of the tables' form. -/
theorem tables_wf_iff : Tables.wf s = true ↔
    (tabWf 0 s.hbm = true ∧ tabWf 0xFF s.flash.bank0 = true ∧ tabWf 0xFF s.flash.bank1 = true ∧ tabWf 0 s.hif.msix = true) ∧
    tabWf {} s.tile = true ∧ (∀ e ∈ s.tile, e.2.wf = true) ∧ tabWf {} s.obj.ctx = true ∧ tabWf {} s.obj.q = true ∧
    tabWf {} s.obj.mo = true ∧ tabWf {} s.obj.ev = true ∧ tabWf {} s.eth.qp = true ∧ tabWf {} s.hif.dep = true ∧
    tabWf none s.txn.txns = true ∧ tabWf none s.txn.tags = true ∧ tabWf 0 s.txn.quar = true ∧
    tabWf none s.kh.ctxKey = true ∧ tabWf none s.kh.memKey = true ∧ tabWf {} s.kh.jobKey = true ∧
    tabWf none s.kh.gcmKey = true ∧ tabWf {} s.sealer.slots = true ∧ tabWf 0 s.dict.stat = true ∧
    tabWf [] s.dict.val = true ∧ tabWf false s.hif.owned = true ∧ tabWf 0 s.held = true ∧ tabWf false s.txn.hold = true ∧
    (∀ r, s.kh.ret = some r → tabWf none r.ctxKey = true ∧ tabWf none r.jobKey = true) := by
  unfold Tables.wf Memory.wf
  simp only [Bool.and_eq_true, List.all_eq_true, and_assoc]
  refine and_congr_right fun _ => and_congr_right fun _ => and_congr_right fun _ => and_congr_right fun _ =>
    and_congr_right fun _ => and_congr_right fun _ => and_congr_right fun _ => and_congr_right fun _ =>
    and_congr_right fun _ => and_congr_right fun _ => and_congr_right fun _ => and_congr_right fun _ =>
    and_congr_right fun _ => and_congr_right fun _ => and_congr_right fun _ => and_congr_right fun _ =>
    and_congr_right fun _ => and_congr_right fun _ => and_congr_right fun _ => and_congr_right fun _ =>
    and_congr_right fun _ => and_congr_right fun _ => and_congr_right fun _ => and_congr_right fun _ =>
    and_congr_right fun _ => ?_
  cases s.kh.ret <;> simp

/-- A change of HBM that keeps its form, of the ports that keeps their number, and of what no table holds. -/
theorem Kept.store {s : State} (h : Tab Byte) (l : List Port) (p : Pair) (n : Nat) (r : List HostReq) (o : List Out)
    (w : tabWf 0 s.hbm = true → tabWf 0 h = true) (hl : l.length = s.port.length) :
    Kept s { s with hbm := h, port := l, pair := p, hif.nextReq := n, hif.reqs := r, out := o } := by
  refine ⟨rfl, rfl, BitVec.and_self, Nat.le_refl _, fun hw => ?_, fun hu => ?_⟩
  · rw [tables_wf_iff] at hw ⊢
    exact ⟨⟨w hw.1.1, hw.1.2⟩, hw.2⟩
  · unfold Units.wf at hu ⊢
    simpa [hl] using hu

theorem kept_emit (o : Out) : Kept s (emit o s) := ⟨rfl, rfl, BitVec.and_self, Nat.le_refl _, fun h => h, fun h => h⟩

theorem kept_drawn : Kept s (drawn s) := ⟨rfl, rfl, BitVec.and_self, Nat.le_refl _, fun h => h, fun h => h⟩

theorem kept_record (e : ErrRec) : Kept s (record e s) := by
  rw [record_eq]
  exact ⟨rfl, rfl, BitVec.and_self, Nat.le_refl _, fun h => h, fun h => h⟩

theorem kept_raise (e : ErrRec) : Kept s (raise e s) := by
  obtain ⟨bus, tx, sent, wait, o, h⟩ := raise_eq s e
  rw [h]
  exact ⟨rfl, rfl, BitVec.and_self, Nat.le_refl _, fun h => h, fun h => h⟩

theorem kept_owe (e : ErrRec) : Kept s (owe e s) := by
  obtain ⟨bus, tx, sent, wait, o, h⟩ := owe_eq s e
  rw [h]
  exact ⟨rfl, rfl, BitVec.and_self, Nat.le_refl _, fun h => h, fun h => h⟩

theorem kept_msixIf (v : Option (BitVec 11)) : Kept s (msixIf v s) := by
  obtain ⟨m, o, h, w⟩ := msixIf_eq s v
  rw [h]
  refine ⟨rfl, rfl, BitVec.and_self, Nat.le_refl _, fun h => ?_, fun h => h⟩
  rw [tables_wf_iff] at h ⊢
  exact ⟨⟨h.1.1, h.1.2.1, h.1.2.2.1, w h.1.2.2.2⟩, h.2⟩

theorem kept_hostWrite (a : Nat) (b : Bytes) (ns : Bool) (u : HostUse) : Kept s (hostWrite a b ns u s) := by
  obtain ⟨n, r, o, h⟩ := hostWrite_eq s a b ns u
  rw [h]
  exact ⟨rfl, rfl, BitVec.and_self, Nat.le_refl _, fun h => h, fun h => h⟩

theorem kept_bump (i j n : Nat) : Kept s (bump i j n s) := by
  refine ⟨rfl, rfl, BitVec.and_self, Nat.le_refl _, fun h => ?_, fun h => h⟩
  rw [tables_wf_iff] at h ⊢
  obtain ⟨h1, h2, h3, h4, h5, h6, h7, h8, h9, h10, h11, h12, h13, h14, h15, h16, h17, h18, h19⟩ := h
  exact ⟨h1, h2, h3, h4, h5, h6, h7, h8, h9, h10, h11, h12, h13, h14, h15, h16, h17, tabWf_tput 0 _ _ _ h18, h19⟩

theorem kept_hbmWrite (pa : Nat) (b : Bytes) : Kept s (hbmWrite pa b s) :=
  Kept.store _ s.port s.pair s.hif.nextReq s.hif.reqs s.out (tabWf_memWrite 0 b s.hbm pa) rfl

theorem kept_objWrite (m : MemObj) (off : Nat) (b : Bytes) : Kept s (objWrite m off b s).2 := by
  obtain ⟨h, l, p, e, w, hl⟩ := objWrite_eq s m off b
  rw [e]
  exact Kept.store h l p s.hif.nextReq s.hif.reqs s.out w hl

theorem kept_vaWrite (u : HostUse) (c va : Nat) (b : Bytes) : Kept s (vaWrite u c va b s).st := by
  obtain ⟨h, l, p, n, r, o, e, w, hl⟩ := vaWrite_eq s u c va b
  rw [e]
  exact Kept.store h l p n (s.hif.reqs ++ r) (s.out ++ o) w hl

theorem kept_setCtx (c : Nat) (x : Ctx) : Kept s (setCtx s c x) := by
  refine ⟨rfl, rfl, BitVec.and_self, Nat.le_refl _, fun h => ?_, fun h => h⟩
  rw [tables_wf_iff] at h ⊢
  exact ⟨h.1, h.2.1, h.2.2.1, tabWf_tput _ _ _ _ h.2.2.2.1, h.2.2.2.2⟩

theorem kept_setQueue (q : Nat) (x : Queue) : Kept s (setQueue s q x) := by
  refine ⟨rfl, rfl, BitVec.and_self, Nat.le_refl _, fun h => ?_, fun h => h⟩
  rw [tables_wf_iff] at h ⊢
  obtain ⟨h1, h2, h3, h4, h5, h6⟩ := h
  exact ⟨h1, h2, h3, h4, tabWf_tput _ _ _ _ h5, h6⟩

theorem kept_setMo (m : Nat) (x : MemObj) : Kept s (setMo s m x) := by
  refine ⟨rfl, rfl, BitVec.and_self, Nat.le_refl _, fun h => ?_, fun h => h⟩
  rw [tables_wf_iff] at h ⊢
  obtain ⟨h1, h2, h3, h4, h5, h6, h7⟩ := h
  exact ⟨h1, h2, h3, h4, h5, tabWf_tput _ _ _ _ h6, h7⟩

theorem kept_setEv (e : Nat) (x : Event) : Kept s (setEv s e x) := by
  refine ⟨rfl, rfl, BitVec.and_self, Nat.le_refl _, fun h => ?_, fun h => h⟩
  rw [tables_wf_iff] at h ⊢
  obtain ⟨h1, h2, h3, h4, h5, h6, h7, h8⟩ := h
  exact ⟨h1, h2, h3, h4, h5, h6, tabWf_tput _ _ _ _ h7, h8⟩

theorem kept_setQp (q : Nat) (x : Qp) : Kept s (setQp s q x) := by
  refine ⟨rfl, rfl, BitVec.and_self, Nat.le_refl _, fun h => ?_, fun h => h⟩
  rw [tables_wf_iff] at h ⊢
  obtain ⟨h1, h2, h3, h4, h5, h6, h7, h8, h9⟩ := h
  exact ⟨h1, h2, h3, h4, h5, h6, h7, tabWf_tput _ _ _ _ h8, h9⟩

theorem kept_setPort (p : Nat) (x : Port) : Kept s (setPort s p x) := by
  refine ⟨rfl, rfl, BitVec.and_self, Nat.le_refl _, fun h => h, fun h => ?_⟩
  unfold Units.wf at h ⊢
  rw [show (setPort s p x).port.length = s.port.length from lset_length ..]; exact h

theorem kept_setQuad (q : Nat) (x : Quad) : Kept s (setQuad s q x) := by
  refine ⟨rfl, rfl, BitVec.and_self, Nat.le_refl _, fun h => h, fun h => ?_⟩
  unfold Units.wf at h ⊢
  rw [show (setQuad s q x).quad.length = s.quad.length from lset_length ..]; exact h

/-! ## Tiles -/

/-- The entries of a table after a write are those before, and the one written. -/
theorem mem_tput {α : Type} [DecidableEq α] (d : α) (l : Tab α) (k : Nat) (v : α) (e : Nat × α) (h : e ∈ tput d l k v) :
    e ∈ l ∨ e = (k, v) := by
  induction l with
  | nil =>
    unfold tput at h
    split at h
    · simp at h
    · exact .inr (by simpa using h)
  | cons x r ih =>
    obtain ⟨k', v'⟩ := x
    unfold tput at h
    split at h
    · split at h
      · exact .inl h
      · rcases List.mem_cons.1 h with h | h
        · exact .inr h
        · exact .inl h
    · split at h
      · split at h
        · exact .inl (List.mem_cons_of_mem _ h)
        · rcases List.mem_cons.1 h with h | h
          · exact .inr h
          · exact .inl (List.mem_cons_of_mem _ h)
      · rcases List.mem_cons.1 h with h | h
        · exact .inl (h ▸ List.mem_cons_self ..)
        · exact (ih h).imp (List.mem_cons_of_mem _) (fun h => h)

/-- What a key reads is an entry, or the default. -/
theorem tget_mem {α : Type} (d : α) (l : Tab α) (k : Nat) : (∃ j, (j, tget d l k) ∈ l) ∨ tget d l k = d := by
  induction l with
  | nil => exact .inr rfl
  | cons x r ih =>
    obtain ⟨k', v'⟩ := x
    unfold tget
    split
    · exact .inl ⟨k', List.mem_cons_self ..⟩
    · split
      · exact .inr rfl
      · exact ih.imp (fun ⟨j, h⟩ => ⟨j, List.mem_cons_of_mem _ h⟩) (fun h => h)

/-- In a state whose tables have their form, so has every tile, listed or not. -/
theorem tileOf_wf (t : Nat) (h : Tables.wf s = true) : (tileOf s t).wf = true := by
  rcases tget_mem ({} : Tile) s.tile t with ⟨j, hj⟩ | hj
  · exact ((tables_wf_iff s).1 h).2.2.1 _ hj
  · unfold tileOf; rw [hj]; rfl

/-- A tile set in its form. -/
theorem Kept.setTile {s : State} (t : Nat) (x : Tile) (hx : Tables.wf s = true → x.wf = true) : Kept s (setTile s t x) := by
  refine ⟨rfl, rfl, BitVec.and_self, Nat.le_refl _, fun h => ?_, fun h => h⟩
  have hx := hx h
  rw [tables_wf_iff] at h ⊢
  refine ⟨h.1, tabWf_tput _ _ _ _ h.2.1, fun e he => ?_, h.2.2.2⟩
  rcases mem_tput _ _ _ _ _ he with he | rfl
  · exact h.2.2.1 e he
  · exact hx

theorem tile_wf_iff (x : Tile) :
    x.wf = true ↔ tabWf {} x.win = true ∧ tabWf 0 x.mem = true ∧ tabWf Lane.clear x.exa = true := by
  simp [Tile.wf, and_assoc]

theorem kept_setSlot (t n : Nat) (x : Slot) : Kept s (setSlot s t n x) :=
  Kept.setTile t _ fun h => by
    have h := (tile_wf_iff _).1 (tileOf_wf s t h)
    exact (tile_wf_iff _).2 ⟨tabWf_tput _ _ _ _ h.1, h.2⟩

theorem kept_spWrite (t off : Nat) (b : Bytes) : Kept s (spWrite t off b s) :=
  Kept.setTile t _ fun h => by
    have h := (tile_wf_iff _).1 (tileOf_wf s t h)
    exact (tile_wf_iff _).2 ⟨h.1, tabWf_memWrite 0 b _ off h.2.1, h.2.2⟩

theorem kept_setLane (t l : Nat) (a : Lane) : Kept s (setLane t l a s) :=
  Kept.setTile t _ fun h => by
    have h := (tile_wf_iff _).1 (tileOf_wf s t h)
    exact (tile_wf_iff _).2 ⟨h.1, h.2.1, tabWf_tput _ _ _ _ h.2.2⟩

/-- A change of every tile that keeps a tile's form keeps the tables. -/
theorem Kept.tiles {s : State} (f : Nat → Tile → Tile) (hf : ∀ t x, x.wf = true → (f t x).wf = true) :
    Kept s { s with tile := tmap {} f s.tile } := by
  refine ⟨rfl, rfl, BitVec.and_self, Nat.le_refl _, fun h => ?_, fun h => h⟩
  rw [tables_wf_iff] at h ⊢
  refine ⟨h.1, tabWf_tmap _ _ _ h.2.1, fun e he => ?_, h.2.2.2⟩
  obtain ⟨x, hx, rfl⟩ := List.mem_map.1 (List.mem_filter.1 he).1
  exact hf _ _ (h.2.2.1 x hx)

theorem kept_markWaits (c n : Nat) (p : Slot → Bool) (st : Nat) : Kept s (markWaits c n p st s) :=
  Kept.tiles _ fun t x h => by
    split
    · have h := (tile_wf_iff _).1 h
      refine (tile_wf_iff _).2 ⟨?_, h.2⟩
      dsimp only
      exact tabWf_tmap _ _ _ h.1
    · exact h

theorem kept_evNotify (n : Nat) : Kept s (evNotify n s) := by
  unfold evNotify
  dsimp only
  split
  · split
    · exact (kept_setEv s n _).trans (kept_msixIf _ _)
    · exact (kept_setEv s n _).trans (kept_hostWrite ..)
  · exact Kept.refl s

theorem kept_evChange (n : Nat) (v : BitVec 64) : Kept s (evChange n v s) :=
  ((kept_setEv s n _).trans (kept_markWaits ..)).trans (kept_evNotify ..)

theorem kept_evAdd (n inc : Nat) (e : ErrRec) : Kept s (evAdd n inc e s) := by
  unfold evAdd
  dsimp only
  split
  · exact (kept_evChange ..).trans (kept_raise ..)
  · exact kept_evChange ..

/-! ## The window's shared steps -/

theorem kept_retire (t n : Nat) : Kept s (retire t n s) :=
  Kept.setTile t _ fun h => by
    have h := (tile_wf_iff _).1 (tileOf_wf s t h)
    exact (tile_wf_iff _).2 ⟨tabWf_tput _ _ _ _ h.1, h.2⟩

theorem kept_freeGroup (t : Nat) (x : Slot) : Kept s (freeGroup t x s) := by
  unfold freeGroup
  split
  · exact Kept.setTile t _ fun h => (tile_wf_iff _).2 ((tile_wf_iff _).1 (tileOf_wf s t h))
  · exact Kept.refl s

/-- A completing descriptor's failure counts for its tile. -/
theorem kept_tileFail (t : Nat) (x : Slot) : Kept s
    (if x.status = 0 then s else Machine.setTile s t { tileOf s t with fail := earliest (tileOf s t).fail x }) := by
  split
  · exact Kept.refl s
  · exact Kept.setTile t _ fun h => (tile_wf_iff _).2 ((tile_wf_iff _).1 (tileOf_wf s t h))

theorem kept_complete (t n : Nat) : Kept s (complete t n s) := by
  have h := (kept_freeGroup s t (slotOf s t n)).trans (kept_tileFail (freeGroup t (slotOf s t n) s) t (slotOf s t n))
  unfold complete
  dsimp only
  split
  · exact h.trans (kept_retire ..)
  · exact h.trans (kept_setSlot ..)

theorem kept_slotFail (t n : Nat) (e : ErrRec) (quiet : Bool) : Kept s (slotFail t n e quiet s) := by
  unfold slotFail
  dsimp only
  have h : Kept s (if (slotOf s t n).status = 0 then setSlot s t n { slotOf s t n with status := e.code } else s) := by
    split
    · exact kept_setSlot ..
    · exact Kept.refl s
  split
  · exact h
  · exact h.trans (kept_raise ..)

theorem kept_exaFailed (t n : Nat) : Kept s (exaFailed t n s) := by
  unfold exaFailed
  split
  · exact Kept.refl s
  · exact kept_slotFail ..

theorem kept_slotTry (t n : Nat) : Kept s (slotTry t n s) := by
  unfold slotTry
  split
  · exact (kept_exaFailed ..).trans (kept_complete ..)
  · exact Kept.refl s

theorem kept_addLanes (t : Nat) (archive : Bool) (l : List Lane) :
    ∀ (first : Nat) (s : State), Kept s (addLanes t archive first l s) := by
  induction l with
  | nil => exact fun _ s => kept_drawn s
  | cons a r ih => exact fun first s => (kept_setLane ..).trans (ih ..)

/-- What a descriptor waited for has come about: jobs, tiles and sealed rows change, in their forms. -/
theorem kept_slotGot (a : Await) : Kept s (slotGot a s) := by
  unfold slotGot
  dsimp only
  refine Kept.trans (t := { s with sealer.rows := s.sealer.rows.map (fun (r : SealRow) => { r with waits := r.waits.erase a })
                                   obj.q := tmap {} (fun _ (x : Queue) =>
      ({ x with job := x.job.map (fun (j : Job) => { j with owes := j.owes.erase a }) } : Queue)) s.obj.q }) ?_ ?_
  · refine ⟨rfl, rfl, BitVec.and_self, Nat.le_refl _, fun h => ?_, fun h => h⟩
    rw [tables_wf_iff] at h ⊢
    obtain ⟨h1, h2, h3, h4, h5, h6⟩ := h
    refine ⟨h1, h2, h3, h4, ?_, h6⟩
    dsimp only
    exact tabWf_tmap _ _ _ h5
  · refine Kept.foldl _ (fun s e => Kept.foldl _ (fun s w => ?_) _ s) _ _
    split
    · exact (kept_setSlot ..).trans (kept_slotTry ..)
    · exact Kept.refl s

/-! ## A cold reset (13 R343) -/

/-- A cold reset keeps the queue, the clock, the identity, the VBAT domain, the clock's counters and the fuses. -/
theorem kept_coldReset (cause : Nat) : Kept s (coldReset cause s) := by
  refine ⟨rfl, rfl, BitVec.and_self, Nat.le_refl _, fun h => ?_, fun _ => rfl⟩
  rw [tables_wf_iff] at h
  have h1 := h.1
  have b : Tables.wf ({} : State) = true := by decide
  rw [tables_wf_iff] at b ⊢
  obtain ⟨-, -, -, -, -, -, -, -, -, -, -, -, -, -, -, -, -, -, -, -, hheld, -⟩ := h
  obtain ⟨b0, b1, b2, b3, b4, b5, b6, b7, b8, b9, b10, b11, b12, b13, b14, b15, b16, b17, b18, b19, -, b21⟩ := b
  exact ⟨⟨b0.1, h1.2.1, h1.2.2.1, b0.2.2.2⟩, b1, b2, b3, b4, b5, b6, b7, b8, b9, b10, b11, b12, b13, b14, b15, b16, b17, b18, b19,
    tabWf_filter _ _ _ hheld, b21⟩

/-- A step with a command waiting keeps what the command keeps. -/
theorem step_cons {s : State} {c : Instr} {r : List Instr} (h : s.pending = c :: r) :
    step s = exec c (s.withPending r) := by
  unfold step
  rw [h]

end Sys2Proof.Machine
end

