-- ==== Sys2Proof/Tests/Slice0.lean ====
section
/-!
SUPPORT. The model's own tests: ill-formed commands, the manual's numbers, results of single commands, and for each statement states
that meet its hypotheses.
-/
namespace Sys2Proof.Tests
open Sys2Proof Sys2Proof.Machine Sys2Proof.Claims

set_option maxRecDepth 100000


/-- The block in its working state: booted, every domain on, the host ready (13 R347). -/
def idle : State := { State.reset with
  pwr := { State.reset.pwr with stage := 5, on := 0x3FF, perstN := true, dllUp := true } }

/-! ## Ill-formed commands -/

/-- A 65-byte string. -/
def long : Bytes := List.replicate 65 0

/-- One command for each check of well-formedness, which the check refuses. -/
def illFormed : List Instr := [
  .registerWrite .host 0 [], .rcCounterRead .host 0 0, .bar0OffDomainAccess (2 ^ 26) 4 none, .descriptorAdmit 96, .matmul 0 16,
  .descriptorSignalSend 0 0 4, .contextFree 128, .submissionDoorbell 1024 [0], .submissionDoorbell 0 [], .completionDoorbell 0 long,
  .ownerChangeScrubDone 1024, .erqBaseWrite ⟨8, [0]⟩, .erqHeadWrite ⟨0, []⟩, .depositDrainDone 4096]

def illFormed2 : List Instr := [
  .depositWrite (2 ^ 38) [0] 0 false, .depositWrite 0 [0] 65536 false, .depositFlag (2 ^ 15) [0] 0, .release 16,
  .claim 0 128 false 0,
  .hostLossTrigger 4, .ethLinkDown 2, .rocePacketLanded 4096, .linkFrameReceive 8,
  .fecBlockReceive 0 [] [] [] [] 0, .trainingComplete 0 0 0 [] 0 [0, 0, 0, 0], .trainingComplete 0 0 0 [[], [], [], []] 0 [],
  .dataLinkLayerUp { rate := .gt64, width := 3 }, .load 9, .tagQuarantineEnd (2 ^ 17), .jkErase 256 0, .jkInstall 0 256 0,
  .jtagInstruction ⟨0x12, [.readHbm (2 ^ 48) 4]⟩]

def illFormed3 : List Instr := [
  .tamperResponse 0, .tamperResponse 3, .cvuStart 4, .openSlot 256 0, .refclkLoss 4, .coldReset 0, .coldReset 7, .deviceCoreReset 0,
  .deviceCoreReset 4, .quadrantReset 4, .scrubLine 4 0, .scrubLine 0 3, .stolegRead 128 [], .stolegRead 0 long, .heartbeatReceive 128,
  .loadedRoutingTable [], .updateData [], .program false 4, .setTime [], .thermalTrip 0 0, .thermalTrip 21 0]

theorem test_ill_formed_refused : (illFormed ++ illFormed2 ++ illFormed3).all (fun i => !i.wf) = true := by decide

/-- Commands at the ends of their ranges, which the checks accept. -/
theorem test_well_formed_accepted : ([.descriptorSignalSend 95 15 3, .contextFree 127, .submissionDoorbell 1023 [0],
    .depositDrainDone 4095, .release 15, .hostLossTrigger 3, .ethLinkDown 1, .rocePacketLanded 4095, .linkFrameReceive 7,
    .trainingComplete 7 9 0 [[], [], [], []] 0 [0, 1, 2, 4000], .dataLinkLayerUp { rate := .gt64, width := 16 },
    .load 8, .tagQuarantineEnd (2 ^ 17 - 1), .jkErase 255 0, .cvuStart 3, .coldReset 6, .deviceCoreReset 3, .quadrantReset 3,
    .scrubLine 3 2, .heartbeatReceive 127, .program true 3, .thermalTrip 20 0] : List Instr).all Instr.wf = true := by decide


/-! ## The manual's own numbers -/

/-- The nine ASCII bytes of a check value (12 R315). -/
def digits : Bytes := [0x31, 0x32, 0x33, 0x34, 0x35, 0x36, 0x37, 0x38, 0x39]

/-- The check values of the four presets (12 R315). -/
theorem test_crc_check_values : crcOf crc32cP digits = 0xE3069283 ∧ crcOf crc32P digits = 0xCBF43926 ∧
    crcOf crc16P digits = 0x29B1 ∧ crcOf crc64P digits = 0x6C40DF5F0B497347 := by decide

/-- A BF16 lane with window anchor -20: 0x3F81 times 0x3880 is 129 × 2^-21 (02, the BF16 example). -/
theorem test_bf16_below_window :
    let l := addProduct { Lane.clear with cls := 2, anchor := BitVec.ofInt 10 (-20) } false 129 (-21)
    l.n = 64 ∧ l.lossCnt = 1 ∧ l.loss = true ∧ l.ovf = false ∧ l.failed true = true ∧ l.failed false = false := by decide

/-- The same product with anchor -21 is exact. -/
theorem test_bf16_inside_window :
    let l := addProduct { Lane.clear with cls := 2, anchor := BitVec.ofInt 10 (-21) } false 129 (-21)
    l.n = 129 ∧ l.lossCnt = 0 ∧ l.loss = false := by decide

/-- The FP16 dot product of 02: 6144 + 1 - 6144 + 1 is 2, read out as 0x4000. -/
theorem test_fp16_dot_product :
    let l := (laneProducts 2 { Lane.clear with cls := 1 }
      [(0x6800, 0x4200), (0x3800, 0x4000), (0xE800, 0x4200), (0x3800, 0x4000)]).1
    l.n = 2 ^ 49 ∧ l.cnt = 4 ∧ l.lossCnt = 0 ∧ (laneRead .f16 false 0 l) = ⟨0x4000, false⟩ := by decide

/-- The two partials of 02's two-device reduction. -/
def partialD0 : Lane := { Lane.clear with n := 0x0400C00000000000, cnt := 4, cls := 1 }
def partialD1 : Lane := { Lane.clear with n := BitVec.ofInt 256 (-(2 ^ 58) + 2 ^ 47), cnt := 4, cls := 1 }

/-- Their sum is the one-device lane, in either order, and reads 1.25. -/
theorem test_two_device_reduction :
    addLane partialD0 partialD1 = { Lane.clear with n := 0x0001400000000000, cnt := 8, cls := 1 } ∧
    addLane partialD1 partialD0 = addLane partialD0 partialD1 ∧
    laneRead .f16 false 0 (addLane partialD0 partialD1) = ⟨0x3D00, false⟩ := by decide

/-- Their Exact Transport records (09, the slice-mode example). -/
theorem test_exact_transport_records :
    etRecord (partialD1.image ++ leBytes 16 0) =
      [0x03, 0x03, 0x04, 0x00, 0x00, 0x20, 0x00, 0x00, 0x00, 0x00, 0x00, 0x00, 0x00, 0x80, 0x00, 0xFC] ∧
    (etRecord (partialD0.image ++ leBytes 16 0)).length = 12 := by decide

/-- The BEC-12 block of 09: 25 bytes, E 16; 0x2E66 comes back as 51/512, which is 0x2E60. -/
theorem test_bec12_block :
    let x := 0x4200 :: 0x2E66 :: List.replicate 14 0
    (becBlock x).length = 25 ∧ (becBlock x).take 4 = [16, 0x00, 0x36, 0x03] ∧
    becMany 1 (becBlock x) = some (0x4200 :: 0x2E60 :: List.replicate 14 0) := by decide

/-- A node of the eight-device ring of 10: N0 to N3 lead to the next device's N4 to N7. -/
def ringLsa (k : Nat) : Lsa := {
  uid := BitVec.ofNat 64 (100 + k), addr := BitVec.ofNat 8 k
  nbr := (List.range 8).map (fun p =>
    if p < 4 then { uid := BitVec.ofNat 64 (100 + (k + 1) % 8), port := BitVec.ofNat 3 (p + 4), up := true }
    else { uid := BitVec.ofNat 64 (100 + (k + 7) % 8), port := BitVec.ofNat 3 (p - 4), up := true }) }

/-- Device 3 of the ring. -/
def ring3 : State := { idle with
  id := { idle.id with uid := 103 }
  fab := { idle.fab with addr := 3, own := some (ringLsa 3), db := [0, 1, 2, 4, 5, 6, 7].map ringLsa } }

/-- Its routing entries for addresses 2, 3, 4, 5 and 7 (10, the ring example). -/
theorem test_ring_routes_2_3 : computeRoute ring3 2 = 0x00010FF4 ∧ computeRoute ring3 3 = 0x000008F8 := by decide
theorem test_ring_routes_4 : computeRoute ring3 4 = 0x00010040 := by decide
theorem test_ring_routes_5_7 : computeRoute ring3 5 = 0x00060FF4 ∧ computeRoute ring3 7 = 0x00040FF4 := by decide

/-- A shift of -9830 retards the clock: SUB passes its end, and is loaded with 22938 while SEC stays (17, the offset example). -/
theorem test_rtc_offset :
    let r := rtcTick { idle.rtc with t := { year := 2031, month := 5, day := 14, hour := 10, min := 15, sec := 42, sub := 32767 },
                                     prescale := 7, shift := some (-9830) }
    r.t.sec = 42 ∧ r.t.sub = 22938 ∧ r.shift = none := by decide

/-- The request of 15's example reaches node 23 and is answered on identifier 663 with DETAIL 0x80. -/
theorem test_routing_table_request :
    (match exec (.writeSeg 23 [0x03, 0x05, 0x11, 0x24, 0x00, 0x01, 0x00, 0x04])
        { idle with dict := { idle.dict with onBus := true, node := 23 } } with
      | .next t => decide (t.out = [.can 663 [0x83, 0x05, 0x11, 0x24, 0x00, 0x80, 0x00, 0x00]]) &&
          decide (t.dict.xfer.map (fun x => (x.len, x.priv)) = some (1024, 1))
      | _ => false) = true := by decide

/-- The doorbell of 05's example: context 12, queue 37, cookie 0x5A3C91E7, TAIL 5 of 256. -/
theorem test_doorbell_example :
    (match exec (.submissionDoorbell 37 (leBytes 8 0x5A3C91E7000C0005))
        { idle with obj := { idle.obj with
            ctx := [(12, { st := .live })], q := [(37, { st := .running, ctx := 12, sqLog := 8, cqLog := 8, cookie := 0x5A3C91E7 })] } } with
      | .next t => (queueOf t 37).tail == 5 && decide (t.erq.incoming = [])
      | _ => false) = true := by decide

/-- The flag of 06's example: entries 40 and 41 become FLAGGED, LAST_FLAG of 41 reads 8010, event 7 rises by 1. -/
def depositExample : State := { idle with
  obj := { idle.obj with
    ctx := [(12, { st := .live })]
    mo := [(200, { st := .live, ctx := 12, cls := 0, write := true, depo := true, size := 0x8000000 })]
    ev := [(7, { live := true, ctx := 12, thresh := 9 })] }
  hif := { idle.hif with
    dep := [(40, { v := true, ctx := 12, memobj := 200, st := .opened, pages := 0x3FFF }),
      (41, { v := true, ctx := 12, memobj := 200, st := .opened, pages := 0x08EF, evV := true, event := 7 })]
    flags := [{ entry := 41, value := 0x1F4A, waits := [] }] } }

theorem test_deposit_flag :
    (match exec (.depositFlagApply 0) depositExample with
      | .next t => decide ((depOf t 40).st = .flagged) && decide ((depOf t 41).st = .flagged) &&
          decide ((depOf t 41).lastFlag = 0x1F4A) && decide ((evOf t 7).cnt = 1)
      | _ => false) = true := by decide

/-- An R_Key is TAG × 2^16 + object number (07, the band example). -/
theorem test_rkey_of_object : 0x93A1 * 2 ^ 16 + 200 = 0x93A100C8 := by decide

/-- A headroom of 324 KiB with the default Y is accepted, and one of 15 KiB is not (08 R218). -/
theorem test_headroom_324 :
    (match exec (.nlkFlowWrite 0 ⟨0, leBytes 4 (324 + 128 * 2 ^ 16)⟩) idle with
      | .next t => decide ((portOf t 0).h = 324) && decide ((portOf t 0).cfgErr = false)
      | _ => false) = true := by decide

theorem test_headroom_15 :
    (match exec (.nlkFlowWrite 0 ⟨0, leBytes 4 (15 + 128 * 2 ^ 16)⟩) idle with
      | .next t => decide ((portOf t 0).h = 256) && decide ((portOf t 0).cfgErr = true)
      | _ => false) = true := by decide

/-! ## States in which the hypotheses of the statements hold -/

set_option linter.unusedVariables false

/-! ### The clock, the flash, the check-value units and the supplies -/

def setIdle : State := { idle with rtc := { idle.rtc with setV := BitVec.ofNat 80 (ofLe (calBytes { year := 2024, month := 2, day := 29 })) } }

def tickState (c : Option (Nat × Int)) : State := { setIdle with rtc := { setIdle.rtc with cmd := c, prescale := 1 } }

def lockedState : State := { idle with now := 2000000, rtc := { idle.rtc with locked := true } }

def flashState : State := { idle with flash := { idle.flash with len := 256, buf := List.replicate 256 0x5A } }

/-- The erases of an update: `n` are left. -/
def erasing (n : Nat) : State := { flashState with
  flash := { flashState.flash with busy := true, upd := some (.erasing n), run := some ⟨true, 3, true, 0x10000, 0, []⟩ } }

def flashRuns (op : Nat) (bank0 : Tab Byte) : State := { flashState with
  flash := { flashState.flash with busy := true, bank0 := bank0, run := some ⟨false, op, false, 0x3FFFF00, 2, [0x12, 0x34]⟩ } }

def cvuState (x : Cvu) : State := { idle with cvu := [{}, {}, {}, x] }

def cvuOpen : State := cvuState
  { opened := true, mode := 1, foldLen := 8, alvW := 2, started := true, alvLast := some 7, run := 0xFFFFFFFF, width := 64 }

def darkState : State := { idle with pwr := { idle.pwr with main := false, pwrOk := false } }

def heldState : State := { idle with now := 2000000, pwr := { idle.pwr with held := true } }

def noVbat : State := { idle with rtc := { idle.rtc with vbat := false } }

def carryState (c : CalTime) (w : BitVec 3) : State := { idle with rtc := { idle.rtc with t := c, wday := w, prescale := 1 } }

theorem witness_RtcCommandsAct :
  (mcAwake idle = true ∧ idle.rtc.locked = false ∧ idle.rtc.cmd = none) ∧
  (mcAwake setIdle = true ∧ setIdle.rtc.locked = false ∧ setIdle.rtc.cmd = none ∧
    timeOk (leBytes 10 setIdle.rtc.setV.toNat) = true) ∧
  (((tickState (some (1, 0))).pwr.main || (tickState (some (1, 0))).rtc.vbat) = true ∧
    (tickState (some (1, 0))).rtc.cmd = some (1, 0)) ∧
  (((tickState (some (2, 0))).pwr.main || (tickState (some (2, 0))).rtc.vbat) = true ∧
    (tickState (some (2, 0))).rtc.cmd = some (2, 0)) ∧
  (((tickState none).pwr.main || (tickState none).rtc.vbat) = true ∧ (tickState none).rtc.cmd = none ∧
    (tickState none).rtc.prescale ≠ 0 ∧ (tickState none).rtc.trimNow = 0 ∧ (tickState none).rtc.t.sub.toNat < 32767) ∧
  (lockedState.rtc.locked = true ∧ lockedState.pwr.main = true ∧
    lockedState.pwr.okAt + 2000000 ≤ lockedState.now) := by decide

theorem witness_RtcCommandsAct_2 :
  mcAwake idle = true ∧ idle.rtc.locked = false ∧ idle.rtc.cmd = none ∧ idle.rtc.shift = none ∧ (0x8001#16 ≠ 0 ∧
    0x8001#16 ≠ 0x8000) := by decide

theorem witness_FlashCommandsStart_1 :
  (mcAwake flashState = true ∧ flashState.flash.busy = false ∧ flashState.flash.hiZ = false ∧ 1 ≤ flashState.flash.len.toNat ∧
    flashState.flash.len.toNat ≤ 256 ∧ flashState.flash.addr.toNat % 256 + flashState.flash.len.toNat ≤ 256 ∧
    3 ≠ 2 + (if false then 1 else 0) ∧ 0 ≠ 2 + (if true then 1 else 0)) ∧
  (flashState.flash.addr.toNat % 4096 = 0 ∧ flashState.flash.addr.toNat % 65536 = 0) ∧
  ((flashRuns 2 []).flash.busy = true ∧ (flashRuns 2 []).flash.hiZ = false) := by decide

theorem witness_FlashCommandsStart_2 :
  ({ flashState with flash := { flashState.flash with hiZ := true } } : State).flash.hiZ = true := by decide

theorem witness_FlashRefusesOwnBank_1 :
  mcAwake flashState = true ∧ flashState.flash.hiZ = false := by decide

theorem witness_FlashCommandEnds :
  ((erasing 1).flash.run = some ⟨true, 3, true, 0x10000, 0, []⟩ ∧ (erasing 1).flash.upd = some (.erasing 1)) ∧
  ((erasing 385).flash.run = some ⟨true, 3, true, 0x10000, 0, []⟩ ∧ (erasing 385).flash.upd = some (.erasing 385)) ∧
  ((flashRuns 1 []).flash.upd = none) ∧
  ((flashRuns 1 []).flash.run = some ⟨false, 1, false, 0x3FFFF00, 2, [0x12, 0x34]⟩ ∧
    blankB (flashRead (flashRuns 1 []) false 0x3FFFF00 2) = true) ∧
  ((flashRuns 1 [(0x3FFFF01, 0)]).flash.run = some ⟨false, 1, false, 0x3FFFF00, 2, [0x12, 0x34]⟩ ∧
    blankB (flashRead (flashRuns 1 [(0x3FFFF01, 0)]) false 0x3FFFF00 2) = false) ∧
  ((flashRuns 2 [(0x3FFFF01, 0)]).flash.run = some ⟨false, 2, false, 0x3FFFF00, 2, [0x12, 0x34]⟩) ∧
  ((flashRuns 4 [(0x3FFFF01, 0)]).flash.run = some ⟨false, 4, false, 0x3FFFF00, 2, [0x12, 0x34]⟩) ∧
  ((flashRuns 5 [(0x3FFFF01, 0)]).flash.run = some ⟨false, 5, false, 0x3FFFF00, 2, [0x12, 0x34]⟩) := by decide

theorem witness_CvuCommandsAct_1 :
  (mcAwake (cvuState {}) = true ∧ 3 < (cvuState {}).cvu.length) ∧
  (mcAwake cvuOpen = true ∧ 3 < cvuOpen.cvu.length ∧ (cvuOf cvuOpen 3).opened = true ∧ (cvuOf cvuOpen 3).attach = false ∧
    (cvuOf cvuOpen 3).mode = 1 ∧ (cvuOf cvuOpen 3).seen = false ∧ (cvuOf cvuOpen 3).foldLen.toNat = 8 ∧
    (cvuOf cvuOpen 3).alvW = 2 ∧ (cvuOf cvuOpen 3).started = true ∧ (cvuOf cvuOpen 3).alvLast = some 7) ∧
  (mcAwake (cvuState { opened := true, seen := true, foldLen := 1 }) = true ∧ (cvuOf (cvuState {}) 3).foldLen = 0 ∧
    (cvuOf (cvuState { opened := true, seen := true, foldLen := 1 }) 3).seen = true) ∧
  (mcAwake (cvuState { alvW := 1, alvTx := 15 }) = true) ∧
  ((cvuOf (cvuState {}) 3).opened = false ∧ 2568 < 2 ^ 21 ∧ 8 ≤ bitsN 2568 0 7 ∧ bitsN 2568 0 7 ≤ 64 ∧ 1 ≤ bitsN 2568 11 3 ∧
    bitsN 2568 11 3 ≤ 4 ∧ bitsN 2568 18 2 ≠ 3 ∧ bitsN 2568 9 2 ≤ 1) := by decide

theorem witness_CvuCommandsAct_2 :
  ((cvuOf (cvuState {}) 3).opened = false ∧ 4672 < 2 ^ 21 ∧ 8 ≤ bitsN 4672 0 7 ∧ bitsN 4672 0 7 ≤ 64 ∧ 1 ≤ bitsN 4672 11 3 ∧
    bitsN 4672 11 3 ≤ 4 ∧ bitsN 4672 18 2 ≠ 3 ∧ bitsN 4672 9 2 ≤ 1) ∧
  ((cvuOf (cvuState {}) 3).opened = false ∧ 6720 < 2 ^ 21 ∧ 8 ≤ bitsN 6720 0 7 ∧ bitsN 6720 0 7 ≤ 64 ∧ 1 ≤ bitsN 6720 11 3 ∧
    bitsN 6720 11 3 ≤ 4 ∧ bitsN 6720 18 2 ≠ 3 ∧ bitsN 6720 9 2 ≤ 1) ∧
  ((cvuOf (cvuState {}) 3).opened = false ∧ 8768 < 2 ^ 21 ∧ 8 ≤ bitsN 8768 0 7 ∧ bitsN 8768 0 7 ≤ 64 ∧ 1 ≤ bitsN 8768 11 3 ∧
    bitsN 8768 11 3 ≤ 4 ∧ bitsN 8768 18 2 ≠ 3 ∧ bitsN 8768 9 2 ≤ 1) := by decide

theorem witness_SupplyEventsAct_1 :
  (idle.pwr.main = true ∧ idle.rtc.vbat = true) ∧
  (darkState.pwr.main = false) ∧
  (heldState.pwr.main = true ∧ heldState.pwr.trip = false ∧ heldState.pwr.held = true ∧ heldState.pwr.okAt + 2000000 ≤ heldState.now) ∧
  (mcRuns idle = true) ∧
  (mcRuns idle = true) ∧
  (mcRuns idle = true) := by decide

theorem witness_SupplyEventsAct_2 :
  (mcRuns idle = true) ∧
  (dictServed idle = true) ∧
  (noVbat.rtc.vbat = false ∧ noVbat.pwr.main = true) ∧
  (idle.pwr.main = true) := by decide

theorem witness_CalendarLeapYears_1 :
  (((carryState { year := 2024, month := 2, day := 28, hour := 23, min := 59, sec := 59, sub := 32767 } 6).pwr.main || (carryState { year := 2024, month := 2, day := 28, hour := 23, min := 59, sec := 59, sub := 32767 } 6).rtc.vbat) = true ∧
    (carryState { year := 2024, month := 2, day := 28, hour := 23, min := 59, sec := 59, sub := 32767 } 6).rtc.cmd = none ∧
    (carryState { year := 2024, month := 2, day := 28, hour := 23, min := 59, sec := 59, sub := 32767 } 6).rtc.shift = none ∧
    (carryState { year := 2024, month := 2, day := 28, hour := 23, min := 59, sec := 59, sub := 32767 } 6).rtc.trimNow = 0 ∧
    (carryState { year := 2024, month := 2, day := 28, hour := 23, min := 59, sec := 59, sub := 32767 } 6).rtc.prescale ≠ 0 ∧
    (carryState { year := 2024, month := 2, day := 28, hour := 23, min := 59, sec := 59, sub := 32767 } 6).rtc.t.sub = 32767 ∧
    (carryState { year := 2024, month := 2, day := 28, hour := 23, min := 59, sec := 59, sub := 32767 } 6).rtc.t.month = 2) ∧
  (((carryState { year := 2024, month := 2, day := 29, hour := 23, min := 59, sec := 59, sub := 32767 } 6).pwr.main || (carryState { year := 2024, month := 2, day := 29, hour := 23, min := 59, sec := 59, sub := 32767 } 6).rtc.vbat) = true ∧
    (carryState { year := 2024, month := 2, day := 29, hour := 23, min := 59, sec := 59, sub := 32767 } 6).rtc.cmd = none ∧
    (carryState { year := 2024, month := 2, day := 29, hour := 23, min := 59, sec := 59, sub := 32767 } 6).rtc.shift = none ∧
    (carryState { year := 2024, month := 2, day := 29, hour := 23, min := 59, sec := 59, sub := 32767 } 6).rtc.trimNow = 0 ∧
    (carryState { year := 2024, month := 2, day := 29, hour := 23, min := 59, sec := 59, sub := 32767 } 6).rtc.prescale ≠ 0 ∧
    (carryState { year := 2024, month := 2, day := 29, hour := 23, min := 59, sec := 59, sub := 32767 } 6).rtc.t.sub = 32767 ∧
    (carryState { year := 2024, month := 2, day := 29, hour := 23, min := 59, sec := 59, sub := 32767 } 6).rtc.t.month = 2) := by decide

theorem witness_CalendarLeapYears_2 :
  (((carryState { year := 2000, month := 2, day := 28, hour := 23, min := 59, sec := 59, sub := 32767 } 6).pwr.main || (carryState { year := 2000, month := 2, day := 28, hour := 23, min := 59, sec := 59, sub := 32767 } 6).rtc.vbat) = true ∧
    (carryState { year := 2000, month := 2, day := 28, hour := 23, min := 59, sec := 59, sub := 32767 } 6).rtc.cmd = none ∧
    (carryState { year := 2000, month := 2, day := 28, hour := 23, min := 59, sec := 59, sub := 32767 } 6).rtc.shift = none ∧
    (carryState { year := 2000, month := 2, day := 28, hour := 23, min := 59, sec := 59, sub := 32767 } 6).rtc.trimNow = 0 ∧
    (carryState { year := 2000, month := 2, day := 28, hour := 23, min := 59, sec := 59, sub := 32767 } 6).rtc.prescale ≠ 0 ∧
    (carryState { year := 2000, month := 2, day := 28, hour := 23, min := 59, sec := 59, sub := 32767 } 6).rtc.t.sub = 32767 ∧
    (carryState { year := 2000, month := 2, day := 28, hour := 23, min := 59, sec := 59, sub := 32767 } 6).rtc.t.month = 2) ∧
  (((carryState { year := 2100, month := 2, day := 28, hour := 23, min := 59, sec := 59, sub := 32767 } 6).pwr.main || (carryState { year := 2100, month := 2, day := 28, hour := 23, min := 59, sec := 59, sub := 32767 } 6).rtc.vbat) = true ∧
    (carryState { year := 2100, month := 2, day := 28, hour := 23, min := 59, sec := 59, sub := 32767 } 6).rtc.cmd = none ∧
    (carryState { year := 2100, month := 2, day := 28, hour := 23, min := 59, sec := 59, sub := 32767 } 6).rtc.shift = none ∧
    (carryState { year := 2100, month := 2, day := 28, hour := 23, min := 59, sec := 59, sub := 32767 } 6).rtc.trimNow = 0 ∧
    (carryState { year := 2100, month := 2, day := 28, hour := 23, min := 59, sec := 59, sub := 32767 } 6).rtc.prescale ≠ 0 ∧
    (carryState { year := 2100, month := 2, day := 28, hour := 23, min := 59, sec := 59, sub := 32767 } 6).rtc.t.sub = 32767 ∧
    (carryState { year := 2100, month := 2, day := 28, hour := 23, min := 59, sec := 59, sub := 32767 } 6).rtc.t.month = 2) := by decide

theorem witness_CalendarLeapYears_3 :
  (((carryState { year := 1900, month := 2, day := 28, hour := 23, min := 59, sec := 59, sub := 32767 } 6).pwr.main || (carryState { year := 1900, month := 2, day := 28, hour := 23, min := 59, sec := 59, sub := 32767 } 6).rtc.vbat) = true ∧
    (carryState { year := 1900, month := 2, day := 28, hour := 23, min := 59, sec := 59, sub := 32767 } 6).rtc.cmd = none ∧
    (carryState { year := 1900, month := 2, day := 28, hour := 23, min := 59, sec := 59, sub := 32767 } 6).rtc.shift = none ∧
    (carryState { year := 1900, month := 2, day := 28, hour := 23, min := 59, sec := 59, sub := 32767 } 6).rtc.trimNow = 0 ∧
    (carryState { year := 1900, month := 2, day := 28, hour := 23, min := 59, sec := 59, sub := 32767 } 6).rtc.prescale ≠ 0 ∧
    (carryState { year := 1900, month := 2, day := 28, hour := 23, min := 59, sec := 59, sub := 32767 } 6).rtc.t.sub = 32767 ∧
    (carryState { year := 1900, month := 2, day := 28, hour := 23, min := 59, sec := 59, sub := 32767 } 6).rtc.t.month = 2) ∧
  (((carryState { year := 2023, month := 2, day := 28, hour := 23, min := 59, sec := 59, sub := 32767 } 6).pwr.main || (carryState { year := 2023, month := 2, day := 28, hour := 23, min := 59, sec := 59, sub := 32767 } 6).rtc.vbat) = true ∧
    (carryState { year := 2023, month := 2, day := 28, hour := 23, min := 59, sec := 59, sub := 32767 } 6).rtc.cmd = none ∧
    (carryState { year := 2023, month := 2, day := 28, hour := 23, min := 59, sec := 59, sub := 32767 } 6).rtc.shift = none ∧
    (carryState { year := 2023, month := 2, day := 28, hour := 23, min := 59, sec := 59, sub := 32767 } 6).rtc.trimNow = 0 ∧
    (carryState { year := 2023, month := 2, day := 28, hour := 23, min := 59, sec := 59, sub := 32767 } 6).rtc.prescale ≠ 0 ∧
    (carryState { year := 2023, month := 2, day := 28, hour := 23, min := 59, sec := 59, sub := 32767 } 6).rtc.t.sub = 32767 ∧
    (carryState { year := 2023, month := 2, day := 28, hour := 23, min := 59, sec := 59, sub := 32767 } 6).rtc.t.month = 2) := by decide

theorem witness_CalendarLeapYears_4 :
  ((carryState { year := 2023, month := 2, day := 27, hour := 23, min := 59, sec := 59, sub := 32767 } 6).pwr.main || (carryState { year := 2023, month := 2, day := 27, hour := 23, min := 59, sec := 59, sub := 32767 } 6).rtc.vbat) = true ∧
    (carryState { year := 2023, month := 2, day := 27, hour := 23, min := 59, sec := 59, sub := 32767 } 6).rtc.cmd = none ∧
    (carryState { year := 2023, month := 2, day := 27, hour := 23, min := 59, sec := 59, sub := 32767 } 6).rtc.shift = none ∧
    (carryState { year := 2023, month := 2, day := 27, hour := 23, min := 59, sec := 59, sub := 32767 } 6).rtc.trimNow = 0 ∧
    (carryState { year := 2023, month := 2, day := 27, hour := 23, min := 59, sec := 59, sub := 32767 } 6).rtc.prescale ≠ 0 ∧
    (carryState { year := 2023, month := 2, day := 27, hour := 23, min := 59, sec := 59, sub := 32767 } 6).rtc.t.sub = 32767 ∧
    (carryState { year := 2023, month := 2, day := 27, hour := 23, min := 59, sec := 59, sub := 32767 } 6).rtc.t.month = 2 := by decide

theorem witness_WeekdayCounter :
  ((carryState { year := 2299, month := 12, day := 31, hour := 23, min := 59, sec := 59, sub := 32767 } 6).rtc.t.year = 2299 ∧
    (carryState { year := 2299, month := 12, day := 31, hour := 23, min := 59, sec := 59, sub := 32767 } 6).rtc.t.month = 12 ∧
    (carryState { year := 2299, month := 12, day := 31, hour := 23, min := 59, sec := 59, sub := 32767 } 6).rtc.t.day = 31) ∧
  (mcAwake idle = true ∧ idle.rtc.locked = false) := by decide

theorem witness_WeekdayCounter_2 :
  (tickState (some (2, 0))).pwr.main = true ∧ (tickState (some (2, 0))).rtc.prescale = 1 ∧
    (tickState (some (2, 0))).rtc.cmd = some (2, 0) ∧ (tickState (some (2, 0))).rtc.t.hour.toNat < 23 ∧
    (∀ n, (carryState {} 6).rtc.cmd ≠ some (2, n)) := by
  exact ⟨by decide, by decide, by decide, by decide, fun n h => by cases h⟩

theorem witness_OpenCvuResultReads :
  mcAwake cvuOpen = true ∧ cvuOpen.cvu.length = 4 ∧ (cvuOf cvuOpen 3).opened = true := by decide

/-! ### Objects -/

/-- `idle` with a command's staging bytes. -/
def staged (b : Bytes) (s : State) : State := { s with obj := { s.obj with stage := BitVec.ofNat 512 (ofLe b) } }

/-- Bytes with the given pieces put at their offsets in 64 zero bytes. -/
def fields (l : List (Nat × Nat × Nat)) : Bytes := l.foldl (fun b x => putB b x.1 (leBytes x.2.1 x.2.2)) (List.replicate 64 0)

/-- Context 5 LIVE with HBM objects 1 (class M) and 2 (class U), and host object 3; queue 4 STOPPED, queue 5 RUNNING; event 6. -/
def busy : State := { idle with
  obj := { idle.obj with
    ctx := [(5, { st := .live, ptBase := 0x1000000, ptPages := 100, preview := true })]
    q := [(4, { st := .stopped, ctx := 5, sqLog := 4, cqLog := 4, cookie := 9 }),
      (5, { st := .running, ctx := 5, sqLog := 4, cqLog := 4, cookie := 9, sqBase := 0x10000, cqBase := 0x20000 })]
    mo := [(1, { st := .live, ctx := 5, cls := 1, write := true, netw := true, depo := true, va := 0x1000, pa := 0x5000, size := 0x2000 }),
      (2, { st := .live, ctx := 5, cls := 0, write := true, depo := true, va := 0x10000, pa := 0x8000, size := 0x1000 }),
      (3, { st := .live, ctx := 5, host := true, write := true, va := 0x40000, pa := 0x700000, size := 0x1000 })]
    ev := [(6, { live := true, ctx := 5, cnt := 3, thresh := 9, armed := true })] }
  kh := { idle.kh with ctxKey := [(5, some 77)], memKey := [(5, some 77)] } }

def ctxStage : State := staged (fields [(0, 1, 1), (8, 6, 0x1000), (16, 4, 1)]) busy

def retiring : State := { idle with obj := { idle.obj with ctx := [(5, { st := .retiring })], destroying := some 5, busy := true }, kh := busy.kh }

def aborted : State := { busy with obj := { busy.obj with ctx := [(5, { st := .aborted })] } }

def decBad (own : Option Nat) : State := { busy with
  quad := [{ owner := own }, {}, {}, {}], tile := [(3, { part := .running, decFail := some 0 })], now := 1000000 }

def qStage : State := staged (fields [(0, 1, 5), (1, 1, 2), (4, 1, 4), (5, 1, 16), (8, 8, 0x3000), (16, 8, 0x9000)]) busy

def ring (i : Nat) : Bytes := leBytes 8 (i + 5 * 2 ^ 16 + 9 * 2 ^ 32)

def moStage : State := staged (fields [(0, 1, 5), (1, 1, 9), (8, 6, 0x3000), (16, 8, 0x20000), (24, 8, 0x1000)]) busy

def evStage : State := staged (fields [(0, 8, 5), (8, 8, 7), (16, 8, 7)]) busy

def evBig : State := staged (leBytes 64 (2 ^ 64 - 1)) busy

theorem witness_ContextCommandsAct_1 :
  (hostReady ctxStage = true ∧ ctxStage.obj.busy = false ∧ domOn ctxStage dMEM = true ∧ ctxBad (objStage ctxStage) = false ∧
    (ctxOf ctxStage 127).st = .free ∧ boundPartner ctxStage = false ∧ ctxStage.rcv.oos = false ∧
    (jkSlots (objStage ctxStage)).any (jkBad ctxStage) = false ∧
    paBusy ctxStage (leAt (objStage ctxStage) 8 6) (leAt (objStage ctxStage) 8 6 + 4096 * leAt (objStage ctxStage) 16 4) = false ∧
    keyServes ctxStage true = true ∧ ctxStage.kh.run = []) ∧
  (hostReady busy = true ∧ busy.obj.busy = false ∧ domOn busy dMEM = true ∧ (ctxOf busy 5).st = .live) ∧
  ((ctxOf retiring 5).st = .retiring ∧ ctxEmpty retiring 5 = true ∧ retiring.obj.destroying = some 5) ∧
  (hostReady busy = true ∧ busy.obj.busy = false ∧ domOn busy dMEM = true ∧ (ctxOf busy 5).st = .live) ∧
  (hostReady aborted = true ∧ aborted.obj.busy = false ∧ domOn aborted dMEM = true ∧ (ctxOf aborted 5).st = .aborted ∧
    (ctxOf aborted 5).keyLost = false) ∧
  ((tileOf (decBad (some 5)) 3).decFail = some 0 ∧ (tileOf (decBad (some 5)) 3).part = .running ∧
    0 + 1000000 ≤ (decBad (some 5)).now ∧ tileOwner (decBad (some 5)) 3 = some 5 ∧
    (ctxOf (decBad (some 5)) 5).st = .live) := by decide

theorem witness_ContextCommandsAct_2 :
  (tileOf (decBad none) 3).win = [] ∧ tileOwner (decBad none) 3 = none := by decide

theorem witness_QueueCommandsAct :
  (hostReady qStage = true ∧ qStage.obj.busy = false ∧ domOn qStage dMEM = true ∧ queueBad (objStage qStage) = false ∧
    (queueOf qStage 1023).st = .free ∧ isLive qStage (bitsAt (objStage qStage) 0 0 7) = true) ∧
  (hostReady busy = true ∧ busy.obj.busy = false ∧ domOn busy dMEM = true ∧ (queueOf busy 4).st = .stopped ∧
    (ctxOf busy (queueOf busy 4).ctx).st ≠ .retiring ∧ (queueOf busy 4).job = none) ∧
  (hostReady busy = true ∧ busy.obj.busy = false ∧ domOn busy dMEM = true ∧ (queueOf busy 5).st = .running ∧
    (ctxOf busy (queueOf busy 5).ctx).st ≠ .retiring ∧ (queueOf busy 5).job = none) ∧
  (hostReady busy = true ∧ busy.obj.busy = false ∧ domOn busy dMEM = true ∧ (queueOf busy 4).st = .stopped ∧
    isLive busy (queueOf busy 4).ctx = true) ∧
  (hostReady busy = true ∧ doorbellCheck busy 5 (ring 15) (queueOf busy 5).sqLog = 0 ∧
    ringDist (queueOf busy 5).sqLog (queueOf busy 5).head (queueOf busy 5).tail ≤ ringDist (queueOf busy 5).sqLog (queueOf busy 5).head (bitsN (ofLe (ring 15)) 0 16)) ∧

  (hostReady busy = true ∧ doorbellCheck busy 5 (ring 0) (queueOf busy 5).cqLog = 0 ∧
    ringDist (queueOf busy 5).cqLog (queueOf busy 5).cqHead (bitsN (ofLe (ring 0)) 0 16) ≤ ringDist (queueOf busy 5).cqLog (queueOf busy 5).cqHead (queueOf busy 5).cqIdx) := by decide

theorem witness_MemoryObjectCommandsAct :
  (hostReady busy = true ∧ busy.obj.busy = false ∧ domOn busy dMEM = true ∧ (moOf busy 1).st ≠ .free ∧
    (ctxOf busy (moOf busy 1).ctx).st ≠ .retiring ∧ (moOf busy 1).biv = false) ∧
  (hostReady busy = true ∧ busy.obj.busy = false ∧ domOn busy dMEM = true ∧ (moOf busy 1).st = .live ∧ (moOf busy 1).cls = 1 ∧
    (ctxOf busy (moOf busy 1).ctx).st ≠ .retiring) := by decide

theorem witness_EventCommandsAct :
  (hostReady evStage = true ∧ evStage.obj.busy = false ∧ domOn evStage dMEM = true ∧ evBad (objStage evStage) = false ∧
    (evOf evStage 16383).live = false ∧ isLive evStage (bitsAt (objStage evStage) 0 0 7) = true) ∧
  (hostReady busy = true ∧ busy.obj.busy = false ∧ domOn busy dMEM = true ∧ (evOf busy 6).live = true ∧
    (ctxOf busy (evOf busy 6).ctx).st ≠ .retiring) := by decide

theorem witness_MemoryObjectCommandsAct_create :
  (hostReady moStage = true ∧ moStage.obj.busy = false ∧ domOn moStage dMEM = true ∧ moBad (objStage moStage) = false ∧
    (moOf moStage 65535).st = .free ∧ isLive moStage 5 = true ∧ (moOfDesc (objStage moStage)).ctx = 5 ∧
    bivCheck moStage (moOfDesc (objStage moStage)) = 0 ∧
    vaBusy moStage 5 (moOfDesc (objStage moStage)).va ((moOfDesc (objStage moStage)).va + (moOfDesc (objStage moStage)).size) = false ∧
    paBusy moStage (moOfDesc (objStage moStage)).pa ((moOfDesc (objStage moStage)).pa + (moOfDesc (objStage moStage)).size) = false) ∧
  ptUsed moStage 5 + ptNeed moStage (moOfDesc (objStage moStage)).va (moOfDesc (objStage moStage)).size ≤ (ctxOf moStage 5).ptPages :=
  ⟨by decide, Nat.le_trans (Nat.add_le_add_left (Nat.min_le_right _ _) _) (by decide)⟩


/-! ### Jobs, the error queue, the host interface and Bivouac -/

/-- Host bytes: `b` from address `a`. -/
def hostAt (a : Nat) (b : Bytes) : List Host.Cell := b.zipIdx.map (fun x => (a + x.2, x.1))

def setJob (j : Option Job) (s : State) : State :=
  setQueue s 5 { queueOf s 5 with tail := 1, cqHead := 0, job := j }

def ready : State := setJob none busy

def nopEntry : List Host.Cell := hostAt 0x10000 (fields [(4, 4, 0xABCD)])

def signalEntry : List Host.Cell := hostAt 0x10000 (fields [(0, 1, 2), (16, 2, 6), (24, 8, 2 ^ 64 - 1)])

def runEntry : List Host.Cell := hostAt 0x10000 (fields [(0, 1, 1), (1, 1, 1), (2, 1, 1), (8, 6, 0x40000)]) ++
  hostAt 0x700000 (fields [(0, 1, 23), (8, 6, 0x40000), (16, 6, 0x40000)])

/-- A job on tile 23 with QMASK 1. -/
def aJob (ph : JobPh) : Job := { entry := fields [(0, 1, 1), (1, 1, 1)], accSeq := 0, ph := ph, jlt := [⟨23, 0, 0x40000, 0x40000, 0, 0⟩] }

def waitJob : State := { setJob (some (aJob .waiting)) busy with quad := [{ owner := some 9 }, {}, {}, {}] }

def scrubJob : State := { setJob (some (aJob (.scrubbing [0]))) busy with quad := [{ owner := some 9, holder := some 5 }, {}, {}, {}], tile := [(23, { mem := [(1, 7)] }), (24, { mem := [(1, 7)] })] }

def startJob : State := setJob (some (aJob (.scrubbing []))) busy

def endedJob : State := { setJob (some (aJob .running)) busy with
  quad := [{ owner := some 5, holder := some 5 }, {}, {}, {}], tile := [(23, { part := .ended, queue := 5 })] }

def erqState (en : Bool) : State := { idle with erq := { idle.erq with
  en := en, base := 0x10, tail := 0xFFF, head := 4, incoming := [{ code := 0x0101, src := 2 }, { code := 0x0502, src := 4 }] } }

def owing : State := { idle with pwr := { idle.pwr with due := [{ code := 0x0501 }] } }

def biasState : State := { busy with hif := { busy.hif with hbCtx := 5, hbObj := 3, hbBias := true } }

/-- HB_GO runs, and one host write is outstanding: at its first byte's address, the bias of object 3's one page changes at 0x700000. -/
def biasRun (a : Nat) : State := { biasState with
  hif := { biasState.hif with hbBusy := true, hbRun := some (3, 0, 1, true), reqs := [⟨8, a, [1], .eventRec none⟩] } }

/-- MSI-X enabled, vector 3 unmasked. -/
def msixState : State := { idle with hif := { idle.hif with msixEn := true, msix := [(60, 1)] } }

/-- Object 3 as host-memory data of class M, which a digest reads. -/
def hostData : State := { busy with
  obj := { busy.obj with mo := [(3, { st := .live, ctx := 5, host := true, cls := 1, va := 0x40000, pa := 0x700000, size := 0x1000 })] } }

def landing (u : HostUse) : State := { setJob (some (aJob .ended)) busy with
  hif := { busy.hif with reqs := [⟨8, 0x20000, [1], u⟩] }, erq := { busy.erq with en := true, lines := [⟨8, none, false⟩] } }

def depState (x : DepEnt) : State := { busy with hif := { busy.hif with dep := [(511, x)] } }

def depFields : DepEnt := { ctx := 5, memobj := 1, objOff := 0x1000 }

def armWrite : RegWr := ⟨0, leBytes 32 (depValue { depFields with v := true })⟩

def armed : State := depState { depFields with v := true, st := .opened, dseen := true, evV := true, event := 6 }

def draining : State := depState { depFields with st := .draining }

def depOff : Nat := 511 * 0x4000000 + 0xFFC

def flagged : State := { armed with hif := { armed.hif with flags := [{ entry := 511, value := 99, waits := [] }] } }

/-- Region 15 in a state, its record naming context 5 and no object. -/
def region (st : Nat) : State := { busy with hbm := memWrite 0 [] (recBase 15) (putB (declRecord busy 15 5) 6 (leBytes 1 st)) }

/-- As `region`, with bytes 64 to 103 as given in place of the wrapped key. -/
def regionAs (st : Nat) (w : Bytes) : State := { busy with
  hbm := memWrite 0 [] (recBase 15) (putB (leBytes 4 0x52564942 ++ [1, 15, BitVec.ofNat 8 st, 4, 5] ++ List.replicate 119 0) 64 w) }

/-- Context 5 has no class U object, so it may claim. -/
def claimer (s : State) : State := { s with
  obj := { s.obj with mo := [], ctx := [(5, { st := .live, ptBase := 0x1000000, ptPages := 100, preview := true })] } }

/-- The context key 77 of region 15 wrapped under this device's wrap key (11 R290). -/
def wrapped77 : Bytes := leBytes 40 2005721381474323420960209792541982190102417196565475135325905552819938734182401694662383336247704

theorem witness_JobCommandsAct :
  (canRead ready 5 = true ∧ byteAt (entryAt ready nopEntry 5) 0 = 0 ∧
    onlyFields entryFields (entryAt ready nopEntry 5) = true ∧ bitsAt (entryAt ready nopEntry 5) 1 4 1 = 0 ∧
    ready.sealer.slots = [] ∧ ready.erq.incoming = [] ∧ ready.erq.lines = [] ∧ heldQuads ready 5 = [] ∧
    (queueOf ready 5).landing = 0) ∧
  (canRead ready 5 = true ∧ byteAt (entryAt ready signalEntry 5) 0 = 2 ∧
    onlyFields entryFields (entryAt ready signalEntry 5) = true ∧
    evOwned ready (queueOf ready 5).ctx (bitsAt (entryAt ready signalEntry 5) 16 0 14) = true) ∧
  (Units.wf waitJob = true ∧ nextJob waitJob = some 5 ∧ (queueOf waitJob 5).job = some (aJob .waiting) ∧
    waitJob.pwr.cur = .p0 ∧ (∀ k ∈ (aJob .waiting).quads, domOn waitJob (dCQ k) = true)) ∧
  (Tables.wf scrubJob = true ∧ Units.wf scrubJob = true ∧ (queueOf scrubJob 5).job = some (aJob (.scrubbing [0]))) ∧
  ((match allImages startJob [] (queueOf startJob 5).ctx (aJob (.scrubbing [])).jlt with | .ok _ => true | .error _ => false) = true) ∧

  (Tables.wf endedJob = true ∧ (queueOf endedJob 5).job = some (aJob .running) ∧
    (∀ e ∈ (aJob .running).jlt, (tileOf endedJob e.tile).part = .ended)) := by decide

theorem witness_JobCommandsAct_2 :
  canRead ready 5 = true ∧ byteAt (entryAt ready runEntry 5) 0 = 1 ∧
    onlyFields entryFields (entryAt ready runEntry 5) = true ∧ bitsAt (entryAt ready runEntry 5) 1 0 4 ≠ 0 ∧
    1 = bitsAt (entryAt ready runEntry 5) 2 0 7 ∧ 0x40000 = leAt (entryAt ready runEntry 5) 8 6 ∧
    (vaRead (takeEntry 5 (entryAt ready runEntry 5) ready) runEntry (queueOf ready 5).ctx 0x40000 32).2 = none ∧
    jltOk (bitsAt (entryAt ready runEntry 5) 1 0 4) 1 (vaRead (takeEntry 5 (entryAt ready runEntry 5) ready) runEntry (queueOf ready 5).ctx 0x40000 32).1 = true := by decide

theorem witness_ErrorQueueActs :
  (domOn (erqState false) dHOST = true ∧ 1 < (erqState false).erq.incoming.length ∧
    (erqState false).erq.lastAcc ≠ some (erqState false).erq.time ∧ (erqState false).rcv.step ≠ 4 ∧
    (erqState false).erq.en = false) ∧
  ((erqState true).erq.lastAcc ≠ some (erqState true).erq.time ∧ (erqState true).erq.en = true ∧
    erqFull (erqState true) = false ∧ (erqState true).erq.dropN = 0 ∧ (erqState true).hif.loss = .idle) ∧
  (barOn idle = true ∧ rwStraddles ⟨0, leBytes 8 0xFFFFFFFF⟩ 8 = false ∧ idle.erq.en = false) ∧
  (barOn (erqState true) = true ∧ rwStraddles ⟨0, leBytes 4 0xFFF⟩ 4 = false ∧
    (BitVec.ofNat 12 (rwMerge ⟨0, leBytes 4 0xFFF⟩ 4 (erqState true).erq.head.toNat) - (erqState true).erq.head).toNat ≤
      ((erqState true).erq.tail - (erqState true).erq.head).toNat) ∧
  (((erqState true).erq.tail - (erqState true).erq.head).toNat <
    (BitVec.ofNat 12 (rwMerge ⟨0, leBytes 4 3⟩ 4 (erqState true).erq.head.toNat) - (erqState true).erq.head).toNat) ∧
  (rwStraddles ⟨4, leBytes 8 0⟩ 8 = true ∧ rwStraddles ⟨2, leBytes 4 0⟩ 4 = true) ∧
  (barOn owing = true ∧ rwStraddles ⟨0, leBytes 4 0x07FF0003⟩ 4 = false ∧
    (rwMerge ⟨0, leBytes 4 0x07FF0003⟩ 4 0).testBit 0 = true ∧ (rwMerge ⟨0, [0]⟩ 4 0).testBit 0 = false) := by decide

theorem witness_HostCouplingActs_1 :
  (barOn idle = true ∧ domOn idle dHOST = true) ∧
  (hostReady biasState = true ∧ biasState.hif.hbBusy = false ∧ domOn biasState dMEM = true ∧
    (moOf biasState biasState.hif.hbObj.toNat).st ≠ .free ∧
    (moOf biasState biasState.hif.hbObj.toNat).ctx = biasState.hif.hbCtx.toNat ∧
    (moOf biasState biasState.hif.hbObj.toNat).host = true ∧
    4096 * (biasState.hif.hbFirst.toNat + biasState.hif.hbCount.toNat + 1) ≤ (moOf biasState biasState.hif.hbObj.toNat).size) ∧

  ((biasRun 0x700FFF).hif.hbRun = some (3, 0, 1, true) ∧ (moOf (biasRun 0x700FFF) 3).st ≠ .free ∧
    (moOf (biasRun 0x700FFF) 3).host = true ∧ 4096 * (0 + 1) ≤ (moOf (biasRun 0x700FFF) 3).size ∧
    (∃ r ∈ (biasRun 0x700FFF).hif.reqs, r.addr < 0x700000 + 4096 * (0 + 1) ∧ 0x700000 + 4096 * 0 < r.addr + r.data.length)) ∧
  ((moOf (biasRun 0x701000) 3).pa = 0x700000 ∧
    (∀ r ∈ (biasRun 0x701000).hif.reqs, 0x700000 + 4096 * (0 + 1) ≤ r.addr) ∧
    (∀ r ∈ (biasRun 0x6FFFFF).hif.reqs, r.addr + r.data.length ≤ 0x700000 + 4096 * 0)) ∧
  ((landing (.completion 5 (some 3))).hif.reqs.find? (fun r => decide (r.id = 8)) = some ⟨8, 0x20000, [1], .completion 5 (some 3)⟩ ∧
    (queueOf (landing (.completion 5 (some 3))) 5).job ≠ none ∧
    (queueOf (landing (.completion 5 (some 3))) 5).st ≠ .free) ∧
  ((landing (.eventRec (some 3))).hif.reqs.find? (fun r => decide (r.id = 8)) = some ⟨8, 0x20000, [1], .eventRec (some 3)⟩) ∧
  ((landing .errLine).erq.lines = [⟨8, none, false⟩]) := by decide

theorem witness_HostCouplingActs_2 :
  (domOn (landing (.eventRec (some 3))) dHOST = true ∧
    (∀ x ∈ (landing (.eventRec (some 3))).sealer.rows, Await.host 8 ∉ x.waits)) ∧
  (canRead ready 5 = true) ∧
  (hostReady hostData = true ∧ hostData.obj.busy = false ∧ domOn hostData dMEM = true ∧ (moOf hostData 3).st = .live ∧ (moOf hostData 3).host = true ∧ (moOf hostData 3).cls = 1 ∧
    notRetiring hostData (moOf hostData 3).ctx = true) ∧
  (msixOn idle = false ∧ msixOn msixState = true ∧ msixMasked msixState 3 = false ∧ msixMasked msixState 4 = true) := by decide

theorem witness_DepositActs :
  (barOn busy = true ∧ rwStraddles armWrite 32 = false ∧ (depOf busy 511).v = false ∧
    (rwMerge armWrite 32 (depValue (depOf busy 511))).testBit 0 = true ∧
    armOk busy (depSet (depOf busy 511) (rwMerge armWrite 32 (depValue (depOf busy 511)))) = true) ∧
  (barOn armed = true ∧ (depOf armed 511).v = true ∧ (rwMerge ⟨0, [0]⟩ 32 (depValue (depOf armed 511))).testBit 0 = false) ∧
  ((depOf draining 511).st = .draining ∧ (∀ w ∈ draining.hif.depWait, w.entry ≠ 511)) ∧
  (hostReady armed = true ∧ domOn armed dMEM = true ∧ depOpen (depOf armed (depOff / 0x4000000)) 7 = true ∧
    depOff % 0x4000000 + 4 ≤ (depOf armed (depOff / 0x4000000)).len ∧ (moOf armed 1).cls ≠ 0 ∧
    moWritable (moOf armed 1) = true) ∧
  (hostReady armed = true ∧ depOpen (depOf armed (4088 / 8)) 7 = true) ∧
  (Tables.wf flagged = true ∧ flagged.hif.flags[0]? = some { entry := 511, value := 99, waits := [] } ∧
    (depOf flagged 511).evV = true ∧
    evOwned flagged (depOf flagged 511).ctx.toNat (depOf flagged 511).event.toNat = true) := by decide

theorem witness_DepositRefused_1 :
  (Tables.wf draining = true ∧ hostReady draining = true ∧ depOpen (depOf draining (depOff / 0x4000000)) 7 = false) ∧
  (depOpen (depOf draining (4088 / 8)) 7 = false) := by decide

theorem witness_BivouacCommandsAct_3 :
  hostReady busy = true ∧ busy.biv.busy = false ∧ domOn busy dMEM = true ∧ regState busy 15 = 0 ∧ isLive busy 5 = true ∧
    keyServes busy true = true ∧ busy.kh.run = [] := by decide

theorem witness_BivouacCommandsAct_1 :
  (regState (regionAs 1 []) 15 = 1 ∧ regionObjs (regionAs 1 []) 15 = []) ∧
  (regState (regionAs 2 []) 15 ≠ 0) ∧
  (claimCheck (claimer (regionAs 2 [])) 15 5 = 0 ∧ unwrapRegion (claimer (regionAs 2 [])) 15 = none ∧
    byteAt (recOf (claimer (regionAs 2 [])) 15) 13 + 1 < 16) ∧
  (claimCheck (claimer (regionAs 2 [])) 15 5 = 0) := by decide

theorem witness_BivouacCommandsAct_2 :
  hostReady (claimer (regionAs 2 wrapped77)) = true ∧ (claimer (regionAs 2 wrapped77)).biv.busy = false ∧
    domOn (claimer (regionAs 2 wrapped77)) dMEM = true ∧ keyServes (claimer (regionAs 2 wrapped77)) false = true ∧
    claimCheck (claimer (regionAs 2 wrapped77)) 15 5 = 0 ∧ (claimer (regionAs 2 wrapped77)).kh.run = [] ∧
    unwrapRegion (claimer (regionAs 2 wrapped77)) 15 = some 77 := by decide +kernel

theorem witness_BivouacCommandsAct_4 :
  sealOf (claimer (regionAs 2 wrapped77)) (recOf (claimer (regionAs 2 wrapped77)) 15) ≠
    leAt (recOf (claimer (regionAs 2 wrapped77)) 15) 32 8 := by decide +kernel

/-! ### Tiles and registers -/

/-- Tile 23 of context 5 with descriptor `x` in slot 2. -/
def tileWith (x : Slot) (f : Tile) : State := { busy with
  quad := [{ owner := some 5, holder := some 5 }, {}, {}, {}], tile := [(23, { f with part := .running, win := tput {} [] 2 x })] }

def executing (d : Bytes) : Slot := { st := .executing, desc := d, order := 3 }

/-- Scratchpad cells. -/
def cellsAt (a : Nat) (b : Bytes) : Tab Byte := memWrite 0 [] a b

def waitDesc : Bytes := fields [(0, 1, 8), (1, 1, 0x11), (2, 2, 7), (4, 1, 0x3F), (8, 1, 0x22), (16, 2, 6), (24, 8, 3)]

/-- Channel 31 comes from tile 95, entry 30; entry 2 goes to tile 0, channel 9. -/
def wired : Tile := {
  inb := List.replicate 31 0 ++ [2 ^ 31 + 95 + 30 * 128], outb := [0, 0, 2 ^ 31 + 0 + 9 * 128],
  tok := List.replicate 31 0 ++ [5], cred := [0, 0, 4] }

def admitState : State := tileWith {} { wired with fetch := 0x40, mem := cellsAt 0x40 waitDesc, orderNext := 8 }

def haltDesc : Bytes := fields [(0, 1, 15)]

def chainState : State := tileWith { executing (fields [(0, 1, 15), (16, 1, 1), (18, 2, 6)]) with chain := some 3 } { halted := true, mem := cellsAt 0x3FF10C (leBytes 4 0x1000) }

/-- The same HALT before its issue. -/
def chaining : State := tileWith { st := .waiting, desc := fields [(0, 1, 15), (16, 1, 1), (18, 2, 6)], order := 3 } {}

/-- A WAIT-EVENT whose issue found `h`. -/
def waitingFor (h : Option Nat) : State := tileWith { executing waitDesc with hit := h } {}

/-- A token flit and a credit flit to tile 23. -/
def flits : State := { tileWith {} wired with mesh := [
  { credit := false, src := 95, entry := 30, dst := 23, chan := 31, count := 8, ctx := 5 },
  { credit := true, src := 0, entry := 9, dst := 23, chan := 2, count := 8, ctx := 5 }] }

/-- One INT8 product: A at 0, B at 64, into lane 64 × 63. -/
def matDesc : Bytes := fields [(0, 1, 1), (20, 4, 64), (32, 1, 63), (33, 1, 4)]

def matState : State := tileWith (executing matDesc) { mem := [(0, 200), (64, 3)], exa := [(4032, { Lane.clear with n := 5 })] }

def readState : State := tileWith (executing (fields [(0, 1, 2), (16, 4, 0x1000), (22, 1, 63), (25, 1, 3 + 16)])) { exa := [(4032, { Lane.clear with n := 5, cnt := 1 })] }

/-- 1 + 2 in FP32: the source at 0, the scalar 2.0, the result at 8. -/
def vecState : State := tileWith (executing (fields [(0, 1, 3), (16, 1, 1), (17, 1, 32), (32, 4, 8), (40, 4, 0x40000000)])) { mem := cellsAt 0 (leBytes 4 0x3F800000) }

/-- A MOVE of two rows of four bytes, 16 apart, between local 0 and `r`. -/
def moveDesc (dir dst r : Nat) : Bytes := fields [(0, 1, 4), (16, 1, dir), (17, 1, dst), (24, 8, r), (32, 4, 3), (36, 2, 1), (40, 4, 16), (44, 4, 16)]

def moveIn1 : State := { tileWith (executing (moveDesc 1 0 0x1000)) {} with hbm := cellsAt 0x5000 (leBytes 20 (2 ^ 160 - 1)) }

def moveOut1 : State := tileWith (executing (moveDesc 0 0 0x1FEC)) { mem := cellsAt 0 (leBytes 20 (2 ^ 160 - 1)) }

def moveOver (u : Nat) : State := tileWith (executing (moveDesc 2 u 0x4)) { mem := cellsAt 0 (leBytes 20 (2 ^ 160 - 1)) }

/-- As `tileWith`, and context 5's key selector 7 is key slot 9. -/
def linked (x : Slot) (f : Tile) : State :=
  { tileWith x f with fab := { busy.fab with addr := 0 }, obj := { busy.obj with ctx := [(5, { st := .live, ptBase := 0x1000000, ptPages := 100, preview := true, jkv := 0x80, jk := [0, 0, 0, 0, 0, 0, 0, 9] })] } }

def sendDesc (k more : Nat) : Bytes := fields [(0, 1, k), (16, 1, more), (17, 1, 7), (19, 1, 99), (20, 4, 0x100), (24, 8, 0x7000), (32, 4, 4096)]

def exaDesc : Bytes := fields [(0, 1, 5), (16, 1, 0x41), (17, 1, 7), (19, 1, 99), (24, 8, 12 + 128 * 4095), (32, 4, 63)]

def redState : State := linked (executing (fields [(0, 1, 7), (17, 1, 7), (19, 1, 1), (24, 2, 0xABCD)])) {}

def rootDesc : Bytes := fields [(0, 1, 7), (16, 1, 1), (17, 1, 7), (23, 1, 1), (24, 2, 0xABCD)]

def rooted : State := linked { executing rootDesc with redDone := some 0 } { groups := [{ group := 0xABCD, contribs := [(0, 5, 24, 9, 1)], complete := 1 }, { group := 7 }] }

def dark : State := { idle with pwr := { idle.pwr with on := 0x001 } }

theorem witness_TileSequencerActs_1 :
  (admits admitState 23 = true ∧ freeSlot (tileOf admitState 23) = some 0 ∧ (tileOf admitState 23).fetchBad = none ∧
    (tileOf admitState 23).fetch ≤ 0x3FEFC0 ∧
    decodeOk (tileOf admitState 23) (spRead admitState 23 (tileOf admitState 23).fetch 64) = true) ∧
  ((tileOf (tileWith { st := .waiting, desc := waitDesc, order := 3 } wired) 23).part = .running ∧
    canIssue (tileOf (tileWith { st := .waiting, desc := waitDesc, order := 3 } wired) 23) (slotOf (tileWith { st := .waiting, desc := waitDesc, order := 3 } wired) 23 2) = true ∧
    waitCount (slotOf (tileWith { st := .waiting, desc := waitDesc, order := 3 } wired) 23 2).desc 31 = 2 ∧
    tileOwner (tileWith { st := .waiting, desc := waitDesc, order := 3 } wired) 23 = some 5 ∧ bitsAt waitDesc 0 0 4 = 8 ∧
    evOwned (tileWith { st := .waiting, desc := waitDesc, order := 3 } wired) 5 6 = true) ∧
  (canIssue (tileOf chaining 23) (slotOf chaining 23 2) = true ∧ tileOwner chaining 23 = some 5 ∧
    bitsAt (slotOf chaining 23 2).desc 0 0 4 = 15 ∧ bitsAt (slotOf chaining 23 2).desc 16 0 1 = 1 ∧
    evOwned chaining 5 (leAt (slotOf chaining 23 2).desc 18 2) = true) ∧
  (Tables.wf (tileWith (executing haltDesc) {}) = true ∧ executes (tileWith (executing haltDesc) {}) 23 2 15 = true ∧
    bitsAt (slotOf (tileWith (executing haltDesc) {}) 23 2).desc 16 0 1 = 0 ∧
    (slotOf (tileWith (executing haltDesc) {}) 23 2).waits = [] ∧ (slotOf (tileWith (executing haltDesc) {}) 23 2).txns = [] ∧
    (slotOf (tileWith (executing haltDesc) {}) 23 2).exaFail = none ∧
    sigsOf (slotOf (tileWith (executing haltDesc) {}) 23 2) = []) ∧
  (sigsOf (slotOf (tileWith (executing (fields [(0, 1, 15), (1, 1, 0x80)])) {}) 23 2) = [3]) ∧
  (executes chainState 23 2 15 = true ∧ bitsAt (slotOf chainState 23 2).desc 16 0 1 = 1 ∧
    (slotOf chainState 23 2).chain = some 3) ∧
  (Tables.wf (waitingFor none) = true ∧ executes (waitingFor none) 23 2 8 = true ∧ (slotOf (waitingFor none) 23 2).hit = none) ∧
  (Tables.wf (waitingFor (some 0)) = true ∧ executes (waitingFor (some 0)) 23 2 8 = true ∧
    (slotOf (waitingFor (some 0)) 23 2).hit = some 0 ∧ (slotOf (waitingFor (some 0)) 23 2).waits = [] ∧
    (slotOf (waitingFor (some 0)) 23 2).txns = [] ∧ (slotOf (waitingFor (some 0)) 23 2).exaFail = none ∧
    sigsOf (slotOf (waitingFor (some 0)) 23 2) ≠ []) ∧
  (Tables.wf (waitingFor (some 0x0103)) = true ∧ executes (waitingFor (some 0x0103)) 23 2 8 = true ∧
    (slotOf (waitingFor (some 0x0103)) 23 2).status = 0 ∧ domOn (waitingFor (some 0x0103)) dHOST = true) := by decide

theorem witness_TileSequencerActs_2 :
  (executes (tileWith (executing (fields [(0, 1, 9), (16, 2, 6), (24, 8, 2 ^ 64 - 1)])) {}) 23 2 9 = true ∧
    tileOwner (tileWith (executing (fields [(0, 1, 9), (16, 2, 6), (24, 8, 2 ^ 64 - 1)])) {}) 23 = some 5 ∧
    evOwned (tileWith (executing (fields [(0, 1, 9), (16, 2, 6), (24, 8, 2 ^ 64 - 1)])) {}) 5 (bitsAt (slotOf (tileWith (executing (fields [(0, 1, 9), (16, 2, 6), (24, 8, 2 ^ 64 - 1)])) {}) 23 2).desc 16 0 14) = true) ∧

  ((slotOf (tileWith { st := .signalling, desc := waitDesc, order := 3, sigs := [0] } wired) 23 2).st = .signalling ∧
    0 ∈ (slotOf (tileWith { st := .signalling, desc := waitDesc, order := 3, sigs := [0] } wired) 23 2).sigs ∧
    (tileOf (tileWith { st := .signalling, desc := waitDesc, order := 3, sigs := [0] } wired) 23).part = .running ∧
    olderSignal (tileOf (tileWith { st := .signalling, desc := waitDesc, order := 3, sigs := [0] } wired) 23) (slotOf (tileWith { st := .signalling, desc := waitDesc, order := 3, sigs := [0] } wired) 23 2) 0 = false ∧
    sigCount (slotOf (tileWith { st := .signalling, desc := waitDesc, order := 3, sigs := [0] } wired) 23 2).desc 0 ≤ lget 0 (tileOf (tileWith { st := .signalling, desc := waitDesc, order := 3, sigs := [0] } wired) 23).cred (sigEntry (slotOf (tileWith { st := .signalling, desc := waitDesc, order := 3, sigs := [0] } wired) 23 2).desc 0) ∧
    tileOwner (tileWith { st := .signalling, desc := waitDesc, order := 3, sigs := [0] } wired) (bitsN (lget 0 (tileOf (tileWith { st := .signalling, desc := waitDesc, order := 3, sigs := [0] } wired) 23).outb (sigEntry (slotOf (tileWith { st := .signalling, desc := waitDesc, order := 3, sigs := [0] } wired) 23 2).desc 0)) 0 7) = tileOwner (tileWith { st := .signalling, desc := waitDesc, order := 3, sigs := [0] } wired) 23) ∧

  (earlierFlit flits 0 (lget { credit := false, src := 0, entry := 0, dst := 0, chan := 0, count := 0, ctx := 0 } flits.mesh 0) = false ∧
    underAbseil flits 23 = false ∧ (lget 0 (tileOf flits 23).inb 31).testBit 31 = true ∧
    bitsN (lget 0 (tileOf flits 23).inb 31) 0 7 = 95 ∧ bitsN (lget 0 (tileOf flits 23).inb 31) 7 5 = 30) ∧
  ((lget 0 (tileOf flits 23).outb 2).testBit 31 = true) := by decide

theorem witness_TileEnginesAct_1 :
  (Tables.wf matState = true ∧ executes matState 23 2 1 = true ∧ (matmulOf (slotOf matState 23 2).desc).n ≤ 64) ∧
  (Tables.wf readState = true ∧ executes readState 23 2 2 = true) ∧
  (executes vecState 23 2 3 = true) ∧
  (executes moveIn1 23 2 4 = true ∧ tileOwner moveIn1 23 = some 5 ∧ bitsAt (slotOf moveIn1 23 2).desc 16 0 2 = 1 ∧
    (∀ r ∈ List.range 2, rowFault moveIn1 5 (moveRemote (slotOf moveIn1 23 2).desc r) (moveLen (slotOf moveIn1 23 2).desc) false = none) ∧
    moveRows (slotOf moveIn1 23 2).desc = 2) ∧
  (executes moveOut1 23 2 4 = true ∧ bitsAt (slotOf moveOut1 23 2).desc 16 0 2 = 0 ∧
    (∀ r ∈ List.range 2, rowFault moveOut1 5 (moveRemote (slotOf moveOut1 23 2).desc r) (moveLen (slotOf moveOut1 23 2).desc) true = none)) ∧

  (Tables.wf (moveOver 0) = true ∧ executes (moveOver 0) 23 2 4 = true ∧
    tileOwner (moveOver 0) (byteAt (slotOf (moveOver 0) 23 2).desc 17) = some 5 ∧
    underAbseil (moveOver 0) (byteAt (slotOf (moveOver 0) 23 2).desc 17) = false ∧
    byteAt (slotOf (moveOver 0) 23 2).desc 17 ≠ 23) := by decide

theorem witness_TileEnginesAct_2 :
  byteAt (slotOf (moveOver 23) 23 2).desc 17 = 23 := by decide

theorem witness_TileTransfersAct_1 :
  (executes (linked (executing (fields [(0, 1, 6), (17, 1, 7), (20, 4, 0x100), (32, 4, 256)])) {}) 23 2 6 = true ∧
    tileOwner (linked (executing (fields [(0, 1, 6), (17, 1, 7), (20, 4, 0x100), (32, 4, 256)])) {}) 23 = some 5 ∧
    (lengthOk (bitsAt (slotOf (linked (executing (fields [(0, 1, 6), (17, 1, 7), (20, 4, 0x100), (32, 4, 256)])) {}) 23 2).desc 16 0 2) (leAt (slotOf (linked (executing (fields [(0, 1, 6), (17, 1, 7), (20, 4, 0x100), (32, 4, 256)])) {}) 23 2).desc 32 4 + 1) && (decide (bitsAt (slotOf (linked (executing (fields [(0, 1, 6), (17, 1, 7), (20, 4, 0x100), (32, 4, 256)])) {}) 23 2).desc 16 0 2 = 0) || decide (256 < leAt (slotOf (linked (executing (fields [(0, 1, 6), (17, 1, 7), (20, 4, 0x100), (32, 4, 256)])) {}) 23 2).desc 32 4 + 1))) = true ∧
    issueCheck (linked (executing (fields [(0, 1, 6), (17, 1, 7), (20, 4, 0x100), (32, 4, 256)])) {}) 5 (bitsAt (slotOf (linked (executing (fields [(0, 1, 6), (17, 1, 7), (20, 4, 0x100), (32, 4, 256)])) {}) 23 2).desc 16 0 2) (byteAt (slotOf (linked (executing (fields [(0, 1, 6), (17, 1, 7), (20, 4, 0x100), (32, 4, 256)])) {}) 23 2).desc 17) (byteAt (slotOf (linked (executing (fields [(0, 1, 6), (17, 1, 7), (20, 4, 0x100), (32, 4, 256)])) {}) 23 2).desc 18) (bitsAt (slotOf (linked (executing (fields [(0, 1, 6), (17, 1, 7), (20, 4, 0x100), (32, 4, 256)])) {}) 23 2).desc 16 2 3) true false = 0) ∧

  (executes redState 23 2 7 = true ∧ tileOwner redState 23 = some 5 ∧ bitsAt (slotOf redState 23 2).desc 16 0 1 = 0 ∧
    (blockLanes (byteAt (slotOf redState 23 2).desc 18) (byteAt (slotOf redState 23 2).desc 19 + 1) (byteAt (slotOf redState 23 2).desc 20 + 1)).all (fun l => slotFit ((laneOf redState 23 l).image ++ leBytes 16 0)) = true ∧
    issueCheck redState 5 1 (bitsAt (slotOf redState 23 2).desc 17 0 3) (if bitsAt (slotOf redState 23 2).desc 16 1 1 = 1 then redState.fab.addr.toNat else byteAt (slotOf redState 23 2).desc 21) (bitsAt (slotOf redState 23 2).desc 17 3 3) true (decide (bitsAt (slotOf redState 23 2).desc 16 1 1 = 1)) = 0) := by decide

theorem witness_TileTransfersAct_2 :
  (executes (linked (executing rootDesc) {}) 23 2 7 = true ∧
    bitsAt (slotOf (linked (executing rootDesc) {}) 23 2).desc 16 0 1 = 1 ∧
    (slotOf (linked (executing rootDesc) {}) 23 2).redDone = none ∧
    groupOpen (tileOf (linked (executing rootDesc) {}) 23).groups (leAt (slotOf (linked (executing rootDesc) {}) 23 2).desc 24 2) = some [{ group := 0xABCD }]) ∧

  (executes rooted 23 2 7 = true ∧ bitsAt (slotOf rooted 23 2).desc 16 0 1 = 1 ∧ (slotOf rooted 23 2).redDone.isSome = true ∧
    rootGroup rooted 23 2 = some { group := 0xABCD, contribs := [(0, 5, 24, 9, 1)], complete := 1 } ∧
    byteAt (slotOf rooted 23 2).desc 23 ≤ 1) := by decide

theorem witness_TileTransfersAct_3 :
  executes (linked (executing (sendDesc 5 (7 * 4))) { mem := cellsAt 0x1100 [9] }) 23 2 5 = true ∧
    tileOwner (linked (executing (sendDesc 5 (7 * 4))) { mem := cellsAt 0x1100 [9] }) 23 = some 5 ∧
    bitsAt (slotOf (linked (executing (sendDesc 5 (7 * 4))) { mem := cellsAt 0x1100 [9] }) 23 2).desc 16 6 1 = 0 ∧
    (encodeSeg (bitsAt (slotOf (linked (executing (sendDesc 5 (7 * 4))) { mem := cellsAt 0x1100 [9] }) 23 2).desc 16 0 2) (spRead (linked (executing (sendDesc 5 (7 * 4))) { mem := cellsAt 0x1100 [9] }) 23 (leAt (slotOf (linked (executing (sendDesc 5 (7 * 4))) { mem := cellsAt 0x1100 [9] }) 23 2).desc 20 4) (leAt (slotOf (linked (executing (sendDesc 5 (7 * 4))) { mem := cellsAt 0x1100 [9] }) 23 2).desc 32 4 + 1))).isSome = true ∧
    issueCheck (linked (executing (sendDesc 5 (7 * 4))) { mem := cellsAt 0x1100 [9] }) 5 (bitsAt (slotOf (linked (executing (sendDesc 5 (7 * 4))) { mem := cellsAt 0x1100 [9] }) 23 2).desc 16 0 2) (byteAt (slotOf (linked (executing (sendDesc 5 (7 * 4))) { mem := cellsAt 0x1100 [9] }) 23 2).desc 17) (byteAt (slotOf (linked (executing (sendDesc 5 (7 * 4))) { mem := cellsAt 0x1100 [9] }) 23 2).desc 18) (bitsAt (slotOf (linked (executing (sendDesc 5 (7 * 4))) { mem := cellsAt 0x1100 [9] }) 23 2).desc 16 2 3) true false = 0 := by decide +kernel

theorem witness_TileTransfersAct_4 :
  executes (linked (executing (fields [(0, 1, 5), (17, 1, 7), (20, 4, 0x100)])) {}) 23 2 5 = true ∧
    tileOwner (linked (executing (fields [(0, 1, 5), (17, 1, 7), (20, 4, 0x100)])) {}) 23 = some 5 ∧
    bitsAt (slotOf (linked (executing (fields [(0, 1, 5), (17, 1, 7), (20, 4, 0x100)])) {}) 23 2).desc 16 6 1 = 0 ∧
    (encodeSeg (bitsAt (slotOf (linked (executing (fields [(0, 1, 5), (17, 1, 7), (20, 4, 0x100)])) {}) 23 2).desc 16 0 2) (spRead (linked (executing (fields [(0, 1, 5), (17, 1, 7), (20, 4, 0x100)])) {}) 23 (leAt (slotOf (linked (executing (fields [(0, 1, 5), (17, 1, 7), (20, 4, 0x100)])) {}) 23 2).desc 20 4) (leAt (slotOf (linked (executing (fields [(0, 1, 5), (17, 1, 7), (20, 4, 0x100)])) {}) 23 2).desc 32 4 + 1))).isSome = true ∧
    issueCheck (linked (executing (fields [(0, 1, 5), (17, 1, 7), (20, 4, 0x100)])) {}) 5 (bitsAt (slotOf (linked (executing (fields [(0, 1, 5), (17, 1, 7), (20, 4, 0x100)])) {}) 23 2).desc 16 0 2) (byteAt (slotOf (linked (executing (fields [(0, 1, 5), (17, 1, 7), (20, 4, 0x100)])) {}) 23 2).desc 17) (byteAt (slotOf (linked (executing (fields [(0, 1, 5), (17, 1, 7), (20, 4, 0x100)])) {}) 23 2).desc 18) (bitsAt (slotOf (linked (executing (fields [(0, 1, 5), (17, 1, 7), (20, 4, 0x100)])) {}) 23 2).desc 16 2 3) true false = 0 := by decide +kernel

theorem witness_TileTransfersAct_5 :
  executes (linked (executing exaDesc) {}) 23 2 5 = true ∧
    bitsAt (slotOf (linked (executing exaDesc) {}) 23 2).desc 16 6 1 = 1 ∧
    bitsAt (slotOf (linked (executing exaDesc) {}) 23 2).desc 16 0 2 = 1 ∧
    (encodeSeg 1 (spRead (linked (executing exaDesc) {}) 23 (leAt (slotOf (linked (executing exaDesc) {}) 23 2).desc 20 4) (leAt (slotOf (linked (executing exaDesc) {}) 23 2).desc 32 4 + 1))).isSome = true ∧
    bitsAt (slotOf (linked (executing exaDesc) {}) 23 2).desc 24 7 12 + (leAt (slotOf (linked (executing exaDesc) {}) 23 2).desc 32 4 + 1) / 64 ≤ 4096 ∧
    issueCheck (linked (executing exaDesc) {}) 5 (bitsAt (slotOf (linked (executing exaDesc) {}) 23 2).desc 16 0 2) (byteAt (slotOf (linked (executing exaDesc) {}) 23 2).desc 17) (byteAt (slotOf (linked (executing exaDesc) {}) 23 2).desc 18) (bitsAt (slotOf (linked (executing exaDesc) {}) 23 2).desc 16 2 3) true false = 0 := by decide +kernel

/-- CRC_ERR of port p is 100 + p. -/
def counted : State := { idle with port := (List.range 8).map (fun i => { crcErr := BitVec.ofNat 32 (100 + i) }) }

theorem witness_RegisterAccessesAct_1 :
  (viewOn .host idle = true ∧ RegView.host ≠ .bar4 ∧ blockOff .host idle 0x33000A = false ∧
    (regAt .host idle 0x33000A).map (fun r => (r.base, r.n, r.whole, r.rc.isSome)) = some (0x330008, 8, false, false)) ∧
  ((regAt .host idle 0x33000C).map (fun r => (r.base, r.n)) = some (0x330008, 8) ∧ 0x330008 + 8 < 0x33000C + 5 ∧
    (regAt .host idle 0x330010).map (fun r => decide (0x33000C + 5 ≤ r.base + r.n)) = some true) ∧
  (∀ i ∈ List.range 4, (regAt .host idle (0x3FFFFC0 + i)).isNone = true) ∧
  (barOn idle = true ∧ tabWf 0 idle.hif.msix = true ∧ idle.hif.msixEn = false ∧ 0x7FFF + [1#8].length ≤ 0x8000) ∧
  (mcAwake idle = true ∧ xipAt 0x17FFFFFC 4 = some (true, 0x3FFFFFC) ∧ xipHeld idle true = false ∧
    xipHeld (erasing 1) true = true) ∧
  (counted.port.length = 8 ∧ barOn counted = true ∧ domOn counted dLNKB = true) ∧
  (barOn dark = true ∧ blockOff .host dark 0x400028 = true) := by decide

theorem witness_RegisterAccessesAct_2 :
  blockOff .host dark 0x400028 = true := by decide

/-! ### Transactions -/

/-- Segments of a loopback at address 0, sealed under key 77 in slot 9 with counter 0 (09 R226, R250). -/
def seg : Nat → Bytes
  | 0 => leBytes 56 0x6ba808aabf17164662aff70e10aac17400000000000000000000000000000000000000000000100800000100000000001709050500004001
  | 1 => leBytes 60 0x74af8f70e84231f1de7b4373342b0ff2e6cf284c00000000000000000000000000000000000000000000100800040004000000001709050500004002
  | 2 => leBytes 60 0x77881245835e6a2a9f133666e1403babe6cf284c00000000000000000000000000000000000000000000100800040004000000001709050500004003
  | 3 => leBytes 56 0x35723ef58983935045dfb7867303e0c100000000000000000000000000000000000000000000100800000004000000001709050500006003
  | 4 => leBytes 64 0xa2fa2ad8b0df8bbce41d75cf5a5cbbe1dea42eac5d03f5a200000000000000000000000000000000000000000000100800080008000000001709050500004004
  | 5 => leBytes 64 0x958af88103193a09f99923980be1fd3cdea42eac5d03f5a200000000000000000000000000000000000000000000100800080008000000001709050500004014
  | 6 => leBytes 64 0xcd1a8e6bd652e8d7df15d861f8263699dea42eac5d03f5a200000000000000000000000000000000000000000000100800080008000000001709050500004024
  | 7 => leBytes 64 0xfa6a5c3265945962c2918e36a99b7044dea42eac5d03f5a200000000000000000000000000000000000000000000100800080008000000001709050500004034
  | 8 => leBytes 72 0xe2999e4768e6bbd482046f60a0f25ca83c3eda5dc23fb364dea42eac5d03f5a200000000000000000000000000000000000000000000100800100010000000001709050500004044
  | 9 => leBytes 64 0x179954bcd6480aa6ed4f5e22d2e1ffd5215bd153a2fc085d00000000000000000000000000000000000000000007ff9700080040000000001709050500004154
  | 10 => leBytes 64 0x1f415c2313be832059bbfca64b66d12b215bd153a2fc085d0000000000000000000000000100abcd000000000007ff9700080040000000001709050500004164
  | 11 => leBytes 56 0xfe733b48f317d1f2f7c9a99e3a6b09d80000000000000000000003060000abcd000000000000001700000000000000001709050500004074
  | 12 => leBytes 56 0x2e195de88ecf22ad98edffe1fc288e1100000000000000000000000000010006000000000000000000000000000000001709050500004005
  | 13 => leBytes 56 0x5c44aef42e6aca841d3e61026f6a53e900000000000000000000000000000000000000000000000000000000000000031709050500004008
  | _ => leBytes 60 0xdb2a16b75cbb123cc23c0eb0b3809289e6cf284c00000000000000000000000000000000000000000000000000040004000000031709050500004009

/-- `seg i` waits at the head of a loopback queue; tile 23 runs `x` with `f`. -/
def wire (x : Slot) (f : Tile) (i : Nat) : State :=
  let s := linked x f
  { s with
    kh := { s.kh with jobKey := [(9, { key := some 77, bound := some 5 })], gcmKey := [(9, some 77)] }
    txn := if i < 13 then { s.txn with loopQ := [seg i] } else { s.txn with loopA := [seg i] }
    hbm := [(0x5008, 254), (0x500F, 127)] }

/-- The request at the head is taken with payload `d` (09 R236). -/
def takenOk (s : State) (d : Bytes) : Bool :=
  match takeHead 8 false s with
  | .got b _ => !(parseHdr b).isResp && domOn s dMEM && (match reqCheck s b with
    | .ok x => decide (x = d)
    | _ => false)
  | _ => false

def redSlot : Slot := { executing (fields [(0, 1, 7), (17, 1, 7), (19, 1, 1), (24, 2, 0xABCD)]) with begun := true, txns := [0] }

/-- Transaction 7 of tile 23, its one segment outstanding under tag 3. -/
def outstanding (i : Nat) : State :=
  let s := wire { executing (sendDesc 6 0) with begun := true, txns := [7] } {} i
  { s with txn := { s.txn with
      txns := [(7, some { ctx := 5, src := .tile 23 2 3, dev := 0, loop := true, unsent := [], out := 1, window := 64 })]
      tags := [(3, some { txn := 7, seg := { idx := 0, hdr := { ttype := 3, pull := true, dlen := 4 }, data := [], land := 0x100 }, port := none })] } }

/-- The response at the head is taken, and answers tag 3 (09 R231). -/
def respOk (s : State) (d : Bytes) : Bool :=
  match takeHead 8 true s with
  | .got b _ => (parseHdr b).isResp && domOn s dMEM && hdrOk b && decide (openSeg s b = some d) &&
      (match tget none s.txn.tags (parseHdr b).tag with
       | some g => decide (g.seg.hdr.srcDev = (parseHdr b).dstDev) && (match txnOf s g.txn with
         | some x => decide (x.ctx = (parseHdr b).dstCtx)
         | none => false)
       | none => false)
  | _ => false

/-- Transaction 7 has two segments to send, by loopback or to device 1 over port 7. -/
def unsentOf (loop : Bool) : State :=
  let s := wire {} {} 0
  let g : Nat → Seg := fun i => { idx := i, hdr := { ttype := 2, dlen := 4, kslot := 9, dstDev := if loop then 0 else 1 }, data := leBytes 4 7, land := 0 }
  { s with
    txn := { s.txn with loopQ := [], txns := [(7, some { ctx := 5, src := .ntx, dev := if loop then 0 else 1, loop := loop, unsent := [g 0, g 1], window := 64 })] }
    fab := { s.fab with route := [(1, 0xFF0887)] }
    port := s.port.take 7 ++ [{ st := .active, up := true, nbrUid := 4 }] }

/-- A request to device 1 is outstanding by port 2, and the route is port 7 now. -/
def rerouting : State :=
  let s := unsentOf false
  { s with txn := { s.txn with tags := [(3, some { txn := 8, seg := { idx := 0, hdr := { dstDev := 1 }, data := [], land := 0 }, port := some 2 })] } }

/-- No route leads to device 1. -/
def routeless : State := { unsentOf false with fab := { (unsentOf false).fab with route := [] } }

/-- NTX_CTL with operation `op`, selector 7, length 8, to device 1. -/
def ntxState (op : Nat) : State :=
  let s := unsentOf false
  { s with txn := { s.txn with txns := [], ntx := { s.txn.ntx with
      ctl := BitVec.ofNat 64 (op + 7 * 2 ^ 11 + 5 * 2 ^ 16 + 2 ^ 24 + 7 * 2 ^ 40), va := 0x1008, rva := 0x1008, opnd := 3,
      data := leBytes 256 0x99 } } }

theorem witness_RequestsAct_1 :
  (takenOk (wire {} {} 0) [] = true ∧ (hbmPieces (wire {} {} 0) 5 0x1008 256 false).isSome = true) ∧
  (takenOk (wire {} {} 1) [0x11, 0x22, 0x33, 0x44] = true ∧ (hbmPieces (wire {} {} 1) 5 0x1008 4 true).isSome = true) ∧
  (takenOk (wire {} {} 2) [0x11, 0x22, 0x33, 0x44] = true ∧
    (hbmPieces (wire {} {} 2) 5 0x1008 4 true).isSome = true) := by decide

theorem witness_RequestsAct_2 :
  (takenOk (wire {} {} 3) [] = true ∧ (hbmPieces (wire {} {} 3) 5 0x1008 4 false).isSome = true) ∧
  (takenOk (wire {} {} 4) (leBytes 8 (2 ^ 64 - 1)) = true ∧ (hbmPieces (wire {} {} 4) 5 0x1008 8 true).isSome = true) ∧
  (takenOk (wire {} {} 5) (leBytes 8 (2 ^ 64 - 1)) = true ∧
    (hbmPieces (wire {} {} 5) 5 0x1008 8 true).isSome = true) := by decide

theorem witness_RequestsAct_3 :
  (takenOk (wire {} {} 6) (leBytes 8 (2 ^ 64 - 1)) = true ∧ (hbmPieces (wire {} {} 6) 5 0x1008 8 true).isSome = true) ∧
  (takenOk (wire {} {} 7) (leBytes 8 (2 ^ 64 - 1)) = true ∧ (hbmPieces (wire {} {} 7) 5 0x1008 8 true).isSome = true) ∧
  (takenOk (wire {} {} 8) (leBytes 16 (2 ^ 64 - 1)) = true ∧
    (hbmPieces (wire {} {} 8) 5 0x1008 8 true).isSome = true) := by decide

theorem witness_RequestsAct_4 :
  (takenOk (wire {} { exa := [(4095, { Lane.clear with n := 5, cnt := 1 })] } 9) (leBytes 64 0) = true ∧
    tileTarget (wire {} { exa := [(4095, { Lane.clear with n := 5, cnt := 1 })] } 9) 5 23 = true) ∧
  (takenOk (wire {} { exa := [(4095, { Lane.clear with n := 5, cnt := 1 })] } 10) (leBytes 64 0) = true ∧
    tileTarget (wire {} { exa := [(4095, { Lane.clear with n := 5, cnt := 1 })] } 10) 5 23 = true ∧
    (groupOpen (tileOf (wire {} { exa := [(4095, { Lane.clear with n := 5, cnt := 1 })] } 10) 23).groups 0xABCD).isSome = true) ∧

  (takenOk (wire redSlot {} 11) [] = true ∧ tileTarget (wire redSlot {} 11) 5 23 = true ∧
    findReduce (wire redSlot {} 11) 23 0xABCD = some 2 ∧ (slotOf (wire redSlot {} 11) 23 2).txns ≠ []) := by decide

theorem witness_RequestsAct_5 :
  takenOk ((let s := wire {} {} 12; { s with obj := { s.obj with ev := [(6, { live := true, ctx := 5, cnt := 3 })] } }) : State) [] = true ∧
    streamWaits ((let s := wire {} {} 12; { s with obj := { s.obj with ev := [(6, { live := true, ctx := 5, cnt := 3 })] } }) : State) (parseHdr (seg 12)) = false ∧
    evOwned ((let s := wire {} {} 12; { s with obj := { s.obj with ev := [(6, { live := true, ctx := 5, cnt := 3 })] } }) : State) 5 6 = true := by decide

theorem witness_SegmentsAct_1 :
  (Tables.wf (outstanding 13) = true ∧ respOk (outstanding 13) [] = true ∧ (parseHdr (seg 13)).ttype = 8) ∧
  (Tables.wf (outstanding 14) = true ∧ respOk (outstanding 14) [0x11, 0x22, 0x33, 0x44] = true ∧
    (parseHdr (seg 14)).ttype = 9 ∧ (parseHdr (seg 14)).status = 0) ∧
  (domOn (unsentOf true) dMEM = true ∧
    ((match txnOf (unsentOf true) 7 with | some x => decide (x.unsent.length = 2 ∧ x.out < x.window ∧ olderUnsent (unsentOf true) 7 x = false) | none => false) = true) ∧
    ctxTags (unsentOf true) 5 < tagQuota (unsentOf true) 5 ∧ freeTag (unsentOf true) = some 0) := by decide

theorem witness_SegmentsAct_2 :
  (domOn (unsentOf false) dMEM = true ∧
    ((match txnOf (unsentOf false) 7 with | some x => decide (x.unsent.length = 2 ∧ x.out < x.window ∧ olderUnsent (unsentOf false) 7 x = false) | none => false) = true) ∧
    ctxTags (unsentOf false) 5 < tagQuota (unsentOf false) 5 ∧ freeTag (unsentOf false) = some 0 ∧
    7 < (unsentOf false).port.length ∧ routePort (unsentOf false) false 1 5 0 = some 7 ∧
    routeHeld (unsentOf false) 1 = false) ∧
  (routeHeld rerouting 1 = true ∧ olderUnsent rerouting 7 ((txnOf rerouting 7).getD { ctx := 0, src := .ntx, dev := 0, loop := true }) = false ∧
    (txnOf rerouting 7).map (fun x => (x.unsent.length, x.loop, decide (x.out < x.window))) = some (2, false, true)) ∧
  (routeHeld (routeless) 1 = false ∧ routePort routeless false 1 5 0 = none ∧ domOn routeless dHOST = true ∧
    (txnOf routeless 7).map (fun x => (x.src, x.loop)) = some (.ntx, false)) ∧
  (tget 0 ({ idle with txn := { idle.txn with quar := [(3, 5)] }, now := 100000004 } : State).txn.quar 3 ≠ 0 ∧
    tget 0 ({ idle with txn := { idle.txn with quar := [(3, 5)] }, now := 100000004 } : State).txn.quar 3 - 1 + 100000000 ≤ ({ idle with txn := { idle.txn with quar := [(3, 5)] }, now := 100000004 } : State).now) := by decide

theorem witness_NtxCommandsAct_1 :
  (barOn (ntxState 1) = true ∧ (ntxState 1).txn.ntx.busy = false ∧ domOn (ntxState 1) dMEM = true ∧
    (ctxOf (ntxState 1) (bitsN (ntxState 1).txn.ntx.ctl.toNat 16 7)).st = .live ∧
    bitsN (ntxState 1).txn.ntx.ctl.toNat 24 8 ≠ (ntxState 1).fab.addr.toNat ∧
    issueCheck (ntxState 1) (bitsN (ntxState 1).txn.ntx.ctl.toNat 16 7) 0 (bitsN (ntxState 1).txn.ntx.ctl.toNat 11 3) (bitsN (ntxState 1).txn.ntx.ctl.toNat 24 8) (bitsN (ntxState 1).txn.ntx.ctl.toNat 8 3) true false = 0 ∧
    (hbmPieces (ntxState 1) (bitsN (ntxState 1).txn.ntx.ctl.toNat 16 7) (ntxState 1).txn.ntx.rva.toNat 8 true).isSome = true ∧
    bitsN (ntxState 1).txn.ntx.ctl.toNat 4 4 = 0 ∧ bitsN (ntxState 1).txn.ntx.ctl.toNat 0 4 = 1) ∧
  (barOn (ntxState 2) = true ∧ (ntxState 2).txn.ntx.busy = false ∧ domOn (ntxState 2) dMEM = true ∧
    (ctxOf (ntxState 2) (bitsN (ntxState 2).txn.ntx.ctl.toNat 16 7)).st = .live ∧
    bitsN (ntxState 2).txn.ntx.ctl.toNat 24 8 ≠ (ntxState 2).fab.addr.toNat ∧
    issueCheck (ntxState 2) (bitsN (ntxState 2).txn.ntx.ctl.toNat 16 7) 0 (bitsN (ntxState 2).txn.ntx.ctl.toNat 11 3) (bitsN (ntxState 2).txn.ntx.ctl.toNat 24 8) (bitsN (ntxState 2).txn.ntx.ctl.toNat 8 3) true false = 0 ∧
    (hbmPieces (ntxState 2) (bitsN (ntxState 2).txn.ntx.ctl.toNat 16 7) (ntxState 2).txn.ntx.rva.toNat 8 true).isSome = true ∧
    bitsN (ntxState 2).txn.ntx.ctl.toNat 4 4 = 0 ∧ bitsN (ntxState 2).txn.ntx.ctl.toNat 0 4 = 2) ∧
  (barOn (ntxState 4) = true ∧ (ntxState 4).txn.ntx.busy = false ∧ domOn (ntxState 4) dMEM = true ∧
    (ctxOf (ntxState 4) (bitsN (ntxState 4).txn.ntx.ctl.toNat 16 7)).st = .live ∧
    bitsN (ntxState 4).txn.ntx.ctl.toNat 24 8 ≠ (ntxState 4).fab.addr.toNat ∧
    issueCheck (ntxState 4) (bitsN (ntxState 4).txn.ntx.ctl.toNat 16 7) 0 (bitsN (ntxState 4).txn.ntx.ctl.toNat 11 3) (bitsN (ntxState 4).txn.ntx.ctl.toNat 24 8) (bitsN (ntxState 4).txn.ntx.ctl.toNat 8 3) true false = 0 ∧
    (hbmPieces (ntxState 4) (bitsN (ntxState 4).txn.ntx.ctl.toNat 16 7) (ntxState 4).txn.ntx.rva.toNat 8 true).isSome = true ∧
    bitsN (ntxState 4).txn.ntx.ctl.toNat 4 4 = 0 ∧ bitsN (ntxState 4).txn.ntx.ctl.toNat 0 4 = 4) := by decide

theorem witness_NtxCommandsAct_2 :
  barOn (ntxState 5) = true ∧ (ntxState 5).txn.ntx.busy = false ∧ domOn (ntxState 5) dMEM = true ∧
    (ctxOf (ntxState 5) (bitsN (ntxState 5).txn.ntx.ctl.toNat 16 7)).st = .live ∧
    bitsN (ntxState 5).txn.ntx.ctl.toNat 24 8 ≠ (ntxState 5).fab.addr.toNat ∧
    issueCheck (ntxState 5) (bitsN (ntxState 5).txn.ntx.ctl.toNat 16 7) 0 (bitsN (ntxState 5).txn.ntx.ctl.toNat 11 3) (bitsN (ntxState 5).txn.ntx.ctl.toNat 24 8) (bitsN (ntxState 5).txn.ntx.ctl.toNat 8 3) true false = 0 ∧
    (hbmPieces (ntxState 5) (bitsN (ntxState 5).txn.ntx.ctl.toNat 16 7) (ntxState 5).txn.ntx.rva.toNat 8 true).isSome = true ∧
    bitsN (ntxState 5).txn.ntx.ctl.toNat 4 4 = 0 ∧ bitsN (ntxState 5).txn.ntx.ctl.toNat 0 4 = 5 := by decide

/-- An RVA in no object of the context. -/
def ntxNowhere (op : Nat) : State :=
  { ntxState op with txn := { (ntxState op).txn with ntx := { (ntxState op).txn.ntx with rva := 0 } } }

theorem witness_NtxCommandsAct_3 :
  (barOn (ntxNowhere 2) = true ∧ (ntxNowhere 2).txn.ntx.busy = false ∧ domOn (ntxNowhere 2) dMEM = true ∧
    (ctxOf (ntxNowhere 2) (bitsN (ntxNowhere 2).txn.ntx.ctl.toNat 16 7)).st = .live ∧
    bitsN (ntxNowhere 2).txn.ntx.ctl.toNat 24 8 ≠ (ntxNowhere 2).fab.addr.toNat ∧
    issueCheck (ntxNowhere 2) (bitsN (ntxNowhere 2).txn.ntx.ctl.toNat 16 7) 0 (bitsN (ntxNowhere 2).txn.ntx.ctl.toNat 11 3)
      (bitsN (ntxNowhere 2).txn.ntx.ctl.toNat 24 8) (bitsN (ntxNowhere 2).txn.ntx.ctl.toNat 8 3) true false = 0 ∧
    bitsN (ntxNowhere 2).txn.ntx.ctl.toNat 4 4 = 0 ∧ bitsN (ntxNowhere 2).txn.ntx.ctl.toNat 0 4 = 2 ∧
    hbmPieces (ntxNowhere 2) (bitsN (ntxNowhere 2).txn.ntx.ctl.toNat 16 7) (ntxNowhere 2).txn.ntx.rva.toNat 1 true = none) ∧
  (bitsN (ntxNowhere 5).txn.ntx.ctl.toNat 4 4 = 0 ∧ bitsN (ntxNowhere 5).txn.ntx.ctl.toNat 0 4 = 5 ∧
    issueCheck (ntxNowhere 5) (bitsN (ntxNowhere 5).txn.ntx.ctl.toNat 16 7) 0 (bitsN (ntxNowhere 5).txn.ntx.ctl.toNat 11 3)
      (bitsN (ntxNowhere 5).txn.ntx.ctl.toNat 24 8) (bitsN (ntxNowhere 5).txn.ntx.ctl.toNat 8 3) true false = 0 ∧
    hbmPieces (ntxNowhere 5) (bitsN (ntxNowhere 5).txn.ntx.ctl.toNat 16 7) (ntxNowhere 5).txn.ntx.rva.toNat 1 true = none) := by decide

/-! ### Ethernet -/

/-- A queue-pair descriptor of context 5: MTU 1024, retries 1, RNR retries 1, ring object 1, events 6 (07 R173). -/
def qpDesc : Bytes := fields [(0, 1, 5), (1, 1, 0x14), (4, 1, 0), (5, 1, 9), (6, 1, 1), (8, 3, 0x1234), (12, 3, 0xFFFFFF), (16, 3, 7),
  (48, 2, 6), (50, 2, 6), (52, 2, 6), (54, 2, 6), (56, 2, 1), (58, 1, 0x44), (59, 1, 12)]

/-- `busy` with a ring that holds 16 slots of 4 KiB after its send ring, and port 0 up. -/
def netBase : State := { busy with
  obj := { busy.obj with
    mo := [(1, { st := .live, ctx := 5, cls := 1, write := true, netw := true, va := 0x1000, pa := 0x5000, size := 0x20000, rkey := some 0xBEEF })] }
  eth := { busy.eth with stage := BitVec.ofNat 512 (ofLe qpDesc), port := [{ up := true, pfcEn := true }, {}] } }

def theQp (f : Qp → Qp) : State := { netBase with eth := { netBase.eth with qp := [(9, f (qpMake qpDesc netBase))] } }

/-- A RoCE packet to the queue pair of slot 9. -/
def pkt (op : RoceOp) (psn syn : Nat) : RocePkt :=
  ⟨op, 0x1009, BitVec.ofNat 24 psn, false, true, 0x1004, 0xBEEF0001, 4, 0, BitVec.ofNat 8 syn, [0x11, 0x22, 0x33, 0x44]⟩

/-- Port 0 holds a frame. -/
def heldFrame (k : EthKind) (f : Qp → Qp) : State :=
  let s := theQp f
  { s with eth := { s.eth with port := [{ up := true, pfcEn := true, fill := 100, inq := [⟨100, k⟩] }, {}] } }

/-- Port 0 holds a packet with the PSN before the expected one, whose bytes landed at 0x1004. -/
def again (op : RoceOp) : State := heldFrame (.roce (pkt op 6 0)) (fun x => { x with hist := [(6, 0x1004, some 0xBEEF0001)] })

/-- The first entry of the send ring asks for a WRITE of 1,030 bytes. -/
def posting : State := { theQp id with hbm := memWrite 0 [] 0x5000 (fields [(0, 1, 1), (4, 4, 1030), (8, 8, 0x1100), (16, 8, 0x9000), (24, 4, 77)]) }

/-- The first entry of the send ring has a Reserved OP. -/
def badPosting : State := { theQp id with hbm := memWrite 0 [] 0x5000 (fields [(0, 1, 9), (4, 4, 1030), (8, 8, 0x1100), (16, 8, 0x9000), (24, 4, 77)]) }

/-- Port 0 holds a CNP marked CE; the queue pair sent its last CNP at `at0` - 1. -/
def markedCnp (at0 : Nat) : State :=
  let s := heldFrame (.roce { pkt .cnp 0 0 with ce := true }) (fun x => { x with cnpAt := at0 })
  { s with eth := { s.eth with port := s.eth.port.map (fun y => { y with pfcEn := false }) }, now := 50000 }

/-- Two requests wait for acknowledgement. -/
def unacked (x : Qp) : Qp := { x with sent := 2, spsn := 2, outs := [⟨0, 0xFFFFFF, 0⟩, ⟨1, 1, 1⟩], retries := 1 }

def late (r : Nat) : State := { theQp (fun x => { unacked x with retries := r }) with now := 8192 }

theorem witness_NetworkCommandsAct :
  (hostReady netBase = true ∧ domOn netBase dNET = true ∧ domOn netBase dMEM = true ∧ (qpOf netBase 4095).st = .free ∧
    qpBad (netStage netBase) = false ∧ isLive netBase (qpMake (netStage netBase) netBase).ctx = true ∧
    qpRefsOk netBase (qpMake (netStage netBase) netBase) = true) ∧
  ((qpOf (theQp id) 9).st ≠ .free) ∧
  ((qpOf (theQp id) 9).st = .rts) ∧
  ((qpOf (theQp (fun x => { x with st := .error, sent := 3 })) 9).st = .error ∧
    qpBad (netStage (theQp (fun x => { x with st := .error, sent := 3 }))) = false ∧
    isLive (theQp (fun x => { x with st := .error, sent := 3 })) (qpMake (netStage (theQp (fun x => { x with st := .error, sent := 3 }))) (theQp (fun x => { x with st := .error, sent := 3 }))).ctx = true ∧
    qpRefsOk (theQp (fun x => { x with st := .error, sent := 3 })) (qpMake (netStage (theQp (fun x => { x with st := .error, sent := 3 }))) (theQp (fun x => { x with st := .error, sent := 3 }))) = true) ∧

  (hostReady netBase = true ∧ domOn netBase dNET = true ∧ domOn netBase dMEM = true ∧ (moOf netBase 1).st = .live ∧
    (moOf netBase 1).host = false ∧ (moOf netBase 1).netw = true ∧ (moOf netBase 1).write = true ∧
    notRetiring netBase (moOf netBase 1).ctx = true) ∧
  ((moOf netBase 1).rkey.isSome = true) := by decide

theorem witness_EthernetFramesAct :
  (Units.wf netBase = true ∧ domOn netBase dNET = true ∧ (ethOf netBase 0).up = true) ∧
  (qpnOf netBase 0 0x1009 = none) ∧
  (qpnOf (theQp id) 0 0x1009 = some 9 ∧ (qpOf (theQp id) 9).st = .rts) ∧
  ((ethOf (heldFrame (.pfc 3 true) id) 0).inq.map (·.kind) = [.pfc 3 true] ∧
    (ethOf (heldFrame (.pfc 3 true) id) 0).pfcEn = true ∧ (ethOf (heldFrame (.pfc 3 true) id) 0).pfcPrio = 3) ∧
  ((ethOf netBase 0).up = true) ∧
  (domOn netBase dNET = true) := by decide

theorem witness_InboundPacketsAct :
  (((match headPkt (heldFrame (.roce (pkt .writeOnly 7 0)) id) 0 (fun o => decide (o ≠ .ack) && decide (o ≠ .nak) && decide (o ≠ .cnp)) with | some (q, _) => decide (q = 9 ∧ (qpOf (heldFrame (.roce (pkt .writeOnly 7 0)) id) q).st = .rts) | none => false) = true) ∧
    (qpOf (heldFrame (.roce (pkt .writeOnly 7 0)) id) 9).epsn = 7 ∧
    ((match pktLanding (ethTake 0 (heldFrame (.roce (pkt .writeOnly 7 0)) id)) (qpOf (ethTake 0 (heldFrame (.roce (pkt .writeOnly 7 0)) id)) 9) (pkt .writeOnly 7 0) with | .ok w => decide ((netWrite (qpOf (heldFrame (.roce (pkt .writeOnly 7 0)) id) 9).ctx w.writes [] (ethTake 0 (heldFrame (.roce (pkt .writeOnly 7 0)) id))).isSome) | _ => false) = true)) ∧

  (((match pktLanding (ethTake 0 (heldFrame (.roce (pkt .sendOnly 7 0)) (fun x => { x with msgs := 3 }))) (qpOf (ethTake 0 (heldFrame (.roce (pkt .sendOnly 7 0)) (fun x => { x with msgs := 3 }))) 9) (pkt .sendOnly 7 0) with | .error .rnr => decide (True) | _ => false) = true)) ∧

  (((match pktLanding (ethTake 0 (heldFrame (.roce { pkt .writeOnly 7 0 with rkey := 0xBEE00001 }) id)) (qpOf (ethTake 0 (heldFrame (.roce { pkt .writeOnly 7 0 with rkey := 0xBEE00001 }) id)) 9) { pkt .writeOnly 7 0 with rkey := 0xBEE00001 } with | .error (.access va) => decide (va = 0x1004) | _ => false) = true)) ∧

  (((pkt .writeOnly 8 0).psn.toNat + 2 ^ 24 - (qpOf (heldFrame (.roce (pkt .writeOnly 8 0)) id) 9).epsn) % 2 ^ 24 = 1) ∧
  ((headPkt (heldFrame (.roce (pkt .other 7 0)) id) 0 (fun o => decide (o ≠ .ack) && decide (o ≠ .nak) && decide (o ≠ .cnp))).map (·.1) = some 9) ∧
  (((pkt .writeOnly 6 0).psn.toNat + 2 ^ 24 - (qpOf (again .writeOnly) 9).epsn) % 2 ^ 24 = 2 ^ 24 - 1 ∧
    (qpOf (again .writeOnly) 9).hist.find? (fun h => decide (h.1 = 6)) = some (6, 0x1004, some 0xBEEF0001) ∧
    dupPkt.sendOp (pkt .writeOnly 6 0).op = false ∧
    rkeyOk (ethTake 0 (again .writeOnly)) (qpOf (again .writeOnly) 9).ctx 0xBEEF0001 0x1004 4 = true ∧
    (netWrite (qpOf (again .writeOnly) 9).ctx [(0x1004, [0x11, 0x22, 0x33, 0x44])] [] (ethTake 0 (again .writeOnly))).isSome = true) ∧
  (dupPkt.sendOp (pkt .sendOnly 6 0).op = true ∧
    ringFits (ethTake 0 (again .sendOnly)) (qpOf (ethTake 0 (again .sendOnly)) 9) = true) ∧
  (Tables.wf (theQp (fun x => { x with lands := [⟨0, 7, true, false, []⟩] })) = true ∧
    evOwned (theQp (fun x => { x with lands := [⟨0, 7, true, false, []⟩] })) (qpOf (theQp (fun x => { x with lands := [⟨0, 7, true, false, []⟩] })) 9).ctx (qpOf (theQp (fun x => { x with lands := [⟨0, 7, true, false, []⟩] })) 9).rxEvent = true) := by decide

theorem witness_OutboundWritesAct_1 :
  (domOn posting dNET = true ∧ domOn posting dMEM = true ∧ (qpOf posting 9).st = .rts ∧
    (qpOf posting 9).sent < (evOf posting (qpOf posting 9).sqEvent).cnt.toNat ∧
    (ethOf posting (qpOf posting 9).portNo).up = true ∧ (ethOf posting (qpOf posting 9).portNo).paused = false ∧
    ((match requestTx posting [] (qpOf posting 9) (qpOf posting 9).sent (qpOf posting 9).spsn with | .ok l => decide (l.length = 2) | .error _ => false) = true)) ∧
  (canPost badPosting 9 = true ∧
    ((match requestTx badPosting [] (qpOf badPosting 9) (qpOf badPosting 9).sent (qpOf badPosting 9).spsn with | .error _ => true | .ok _ => false) = true)) ∧
  (((match headPkt (heldFrame (.roce (pkt .ack 0 0x1F)) unacked) 0 (fun o => decide (o = .ack)) with | some (q, _) => decide (q = 9 ∧ (qpOf (heldFrame (.roce (pkt .ack 0 0x1F)) unacked) q).st = .rts) | none => false) = true) ∧
    evOwned (heldFrame (.roce (pkt .ack 0 0x1F)) unacked) (qpOf (heldFrame (.roce (pkt .ack 0 0x1F)) unacked) 9).ctx (qpOf (heldFrame (.roce (pkt .ack 0 0x1F)) unacked) 9).cmpEvent = true) ∧

  (((match headPkt (heldFrame (.roce (pkt .nak 0 0x34)) unacked) 0 (fun o => decide (o = .nak)) with | some (q, _) => decide (q = 9 ∧ (qpOf (heldFrame (.roce (pkt .nak 0 0x34)) unacked) q).st = .rts) | none => false) = true) ∧
    (qpOf (heldFrame (.roce (pkt .nak 0 0x34)) unacked) 9).rnr < (qpOf (heldFrame (.roce (pkt .nak 0 0x34)) unacked) 9).rnrMax) ∧

  (((match headPkt (heldFrame (.roce (pkt .nak 0 0x62)) unacked) 0 (fun o => decide (o = .nak)) with | some (q, _) => decide (q = 9 ∧ (qpOf (heldFrame (.roce (pkt .nak 0 0x62)) unacked) q).st = .rts) | none => false) = true)) ∧

  (domOn (late 0) dNET = true ∧ (qpOf (late 0) 9).st = .rts ∧ (qpOf (late 0) 9).outs ≠ [] ∧
    (qpOf (late 0) 9).ackAt + (qpOf (late 0) 9).timeout ≤ (late 0).now ∧
    (qpOf (late 0) 9).retries < (qpOf (late 0) 9).retryMax) ∧
  ((qpOf (late 1) 9).retryMax ≤ (qpOf (late 1) 9).retries ∧
    (qpOf (late 1) 9).ackAt + (qpOf (late 1) 9).timeout ≤ (late 1).now) := by decide

theorem witness_OutboundWritesAct_2 :
  (((match headPkt (markedCnp 0) 0 (fun o => decide (o = .cnp)) with | some (q, k) => decide (q = 9 ∧ (qpOf (markedCnp 0) q).st = .rts ∧ k.ce = true) | none => false) = true) ∧
    (ethOf (markedCnp 0) 0).pfcEn = false ∧ (ethOf (markedCnp 0) (qpOf (markedCnp 0) 9).portNo).up = true ∧
    (ethOf (markedCnp 0) (qpOf (markedCnp 0) 9).portNo).paused = false ∧ (qpOf (markedCnp 0) 9).cnpAt = 0 ∧
    (qpOf (markedCnp 1) 9).cnpAt - 1 + 50000 ≤ (markedCnp 1).now ∧ (qpOf (markedCnp 2) 9).cnpAt ≠ 0 ∧
    (markedCnp 2).now < (qpOf (markedCnp 2) 9).cnpAt - 1 + 50000) ∧
  (((match headPkt (heldFrame (.roce (pkt .cnp 0 0)) id) 0 (fun o => decide (o = .cnp)) with | some (q, _) => decide (q = 9 ∧ (qpOf (heldFrame (.roce (pkt .cnp 0 0)) id) q).st = .rts) | none => false) = true)) ∧

  ((qpOf ({ theQp (fun x => { x with rate := 199000000000 }) with now := 55000 } : State) 9).rateAt + 55000 ≤ ({ theQp (fun x => { x with rate := 199000000000 }) with now := 55000 } : State).now) := by decide

/-! ### Nalfa ports -/

/-- Port 7 as given; the others are disabled. -/
def withPort (x : Port) : State := { idle with port := List.replicate 7 {} ++ [x], now := 2000000000 }

/-- An ACTIVE port that has sent frames 5 and 6 and expects frame 9. -/
def live : Port := {
  st := .active, e := 9, accepted := true, txSeq := 7, fresh := false,
  unack := [{ seq := 5, vcA := false, first := true, data := [1] }, { seq := 6, vcA := true, first := true, data := [2] }] }

/-- Port 7 has received frame `f`. -/
def received (f : LFrame) : State := withPort { live with inFrames := [(f.bytes, false)] }

def dataFrame : LFrame := { ty := 1, seq := 9, payload := [1, 2, 3], xoffQ := true }

def ackFrame : LFrame := { ty := 2, ackv := true, ack := 5 }

def cairnFrame : LFrame := { ty := 4, payload := cairnHead (withPort live) 7 0 }

def badCairn : LFrame := { ty := 4, payload := putB (cairnHead (withPort live) 7 0) 0 [2] }

def initFrame : LFrame := { ty := 3, payload := initPayload 7 live }

def nakFrame : LFrame := { ty := 2, nak := true }

theorem witness_LinkReceiverActs :
  (Units.wf (withPort live) = true ∧ linkRuns (withPort live) 7 = true ∧ (portOf (withPort live) 7).st = .active ∧
    (portOf (withPort live) 7).bcnt = none ∧ (portOf (withPort live) 7).badCw < 2) ∧
  ((portOf (withPort { live with bcnt := some 4095, badBlk := 2 }) 7).bcnt = some 4095 ∧ (4095 + 1) % 4096 ≠ 5 % 4096 ∧
    (portOf (withPort { live with bcnt := some 4095, badBlk := 2 }) 7).badBlk = 2 ∧
    (portOf (withPort { live with bcnt := some 4095, badBlk := 2 }) 7).lastDone = none) ∧
  (Units.wf (withPort { live with inFrames := [(putB dataFrame.bytes 9 [9], false)] }) = true ∧
    linkRuns (withPort { live with inFrames := [(putB dataFrame.bytes 9 [9], false)] }) 7 = true ∧
    frameCrcOk (putB dataFrame.bytes 9 [9]) = false) ∧
  (frameCrcOk dataFrame.bytes = true ∧ frameProtoOk dataFrame.bytes = true ∧ parseFrame dataFrame.bytes = dataFrame ∧
    occupancy (received dataFrame) 7 false < 3072) ∧
  (frameCrcOk ackFrame.bytes = true ∧ frameProtoOk ackFrame.bytes = true ∧ parseFrame ackFrame.bytes = ackFrame ∧
    (portOf (received ackFrame) 7).unack.findIdx? (fun g => decide (g.seq = 5)) = some 0) ∧
  (frameCrcOk cairnFrame.bytes = true ∧ frameProtoOk cairnFrame.bytes = true ∧ (parseFrame cairnFrame.bytes).ty = 4 ∧
    cairnOk (parseFrame cairnFrame.bytes).payload = true ∧ (parseFrame cairnFrame.bytes).ackv = false ∧
    (parseFrame cairnFrame.bytes).nak = false) ∧
  (frameCrcOk badCairn.bytes = true ∧ frameProtoOk badCairn.bytes = true ∧ (parseFrame badCairn.bytes).ty = 4 ∧
    cairnOk (parseFrame badCairn.bytes).payload = false) ∧
  (frameCrcOk initFrame.bytes = true ∧ frameProtoOk initFrame.bytes = true ∧ (parseFrame initFrame.bytes).ty = 3 ∧
    (portOf (withPort { st := .training, inFrames := [(initFrame.bytes, false)] }) 7).inFrames = [(initFrame.bytes, false)]) ∧
  (frameCrcOk nakFrame.bytes = true ∧ frameProtoOk nakFrame.bytes = true ∧ parseFrame nakFrame.bytes = nakFrame ∧
    (portOf (received nakFrame) 7).replayRun < replayMaxOf (portOf (received nakFrame) 7)) := by decide

/-- Codewords of zeros decode to a block of zeros with nothing corrected; lanes more than 32 ns apart give no codeword. -/
theorem witness_LinkReceiverActs_2 :
  (blockReceived (List.replicate 4 (List.replicate 272 0)) (decide (0 ≤ 32))).2 = (0, false, false) ∧
  (blockReceived (List.replicate 4 (List.replicate 272 0)) (decide (33 ≤ 32))).2 = (0, true, true) :=
  ⟨blockReceived_zeros 272, blockReceived_apart _⟩

theorem witness_LinkTransmitterActs :
  (Units.wf (withPort { live with st := .replay, replayLeft := live.unack, nakDue := true }) = true ∧
    linkRuns (withPort { live with st := .replay, replayLeft := live.unack, nakDue := true }) 7 = true ∧
    (portOf (withPort { live with st := .replay, replayLeft := live.unack, nakDue := true }) 7).recalWin = none ∧
    (portOf (withPort { live with st := .replay, replayLeft := live.unack, nakDue := true }) 7).st = .replay) ∧
  ((portOf (withPort { live with rxoffA := true, txA := [{ seq := 0, vcA := true, first := true, data := [7] }], txQ := [{ seq := 0, vcA := false, first := true, data := [8] }] }) 7).unack.length < 2048 ∧
    (portOf (withPort { live with rxoffA := true, txA := [{ seq := 0, vcA := true, first := true, data := [7] }], txQ := [{ seq := 0, vcA := false, first := true, data := [8] }] }) 7).rxoffA = true ∧
    (portOf (withPort { live with rxoffA := true, txA := [{ seq := 0, vcA := true, first := true, data := [7] }], txQ := [{ seq := 0, vcA := false, first := true, data := [8] }] }) 7).rxoffQ = false ∧
    (portOf (withPort { live with rxoffA := true, txA := [{ seq := 0, vcA := true, first := true, data := [7] }], txQ := [{ seq := 0, vcA := false, first := true, data := [8] }] }) 7).replayLeft = [] ∧
    (portOf (withPort { live with rxoffA := true, txA := [{ seq := 0, vcA := true, first := true, data := [7] }], txQ := [{ seq := 0, vcA := false, first := true, data := [8] }] }) 7).cairnOut = []) ∧

  ((portOf (withPort { live with txA := [{ seq := 0, vcA := true, first := true, data := [7] }] }) 7).rxoffA = false ∧
    (portOf (withPort { live with txA := [{ seq := 0, vcA := true, first := true, data := [7] }] }) 7).txA ≠ []) ∧
  (initDue (withPort { st := .training }) (portOf (withPort { st := .training }) 7) = true ∧
    initDue (withPort { st := .retrain, initRx := some (1, true, 0), initsLeft := 2 }) (portOf (withPort { st := .retrain, initRx := some (1, true, 0), initsLeft := 2 }) 7) = true) ∧
  ((portOf (withPort live) 7).unack ≠ [] ∧
    (portOf (withPort live) 7).ackAt + replayToNs (portOf (withPort live) 7) ≤ (withPort live).now) := by decide

theorem witness_LinkStatesMove_1 :
  ((portOf (withPort live) 7).st = .active ∧ (portOf (withPort live) 7).lastDone = none ∧
    domOn (withPort live) dHOST = true) ∧
  ((portOf (withPort { live with lastDone := some 1990000000, fails := [1000000000, 1999999999, 5] }) 7).lastDone = some 1990000000 ∧
    (withPort { live with lastDone := some 1990000000, fails := [1000000000, 1999999999, 5] }).now ≤ 1990000000 + 10000000 ∧
    2 ≤ (recentFails (withPort { live with lastDone := some 1990000000, fails := [1000000000, 1999999999, 5] }).now (portOf (withPort { live with lastDone := some 1990000000, fails := [1000000000, 1999999999, 5] }) 7).fails).length) ∧

  ((portOf (withPort live) 7).st = .active ∧ (portOf (withPort live) 7).lastDone = none ∧
    domOn (withPort live) dHOST = true) ∧
  ((portOf (withPort { live with lastDone := some 1990000000, fails := [1000000000, 1999999999, 5] }) 7).lastDone = some 1990000000 ∧
    (withPort { live with lastDone := some 1990000000, fails := [1000000000, 1999999999, 5] }).now ≤ 1990000000 + 10000000 ∧
    2 ≤ (recentFails (withPort { live with lastDone := some 1990000000, fails := [1000000000, 1999999999, 5] }).now (portOf (withPort { live with lastDone := some 1990000000, fails := [1000000000, 1999999999, 5] }) 7).fails).length) ∧

  (barOn (withPort live) = true ∧ rwStraddles ⟨0, [0x05]⟩ 4 = false ∧
    (rwMerge ⟨0, [0x05]⟩ 4 (nlkCtrl (portOf (withPort live) 7))).testBit 0 = true ∧ (rwOnes ⟨0, [0x05]⟩ 4).testBit 2 = true ∧
    (portOf (withPort live) 7).en = true) ∧
  (barOn (withPort { st := .down }) = true ∧ rwStraddles ⟨0, [0x03]⟩ 4 = false ∧
    (rwMerge ⟨0, [0x03]⟩ 4 (nlkCtrl (portOf (withPort { st := .down }) 7))).testBit 0 = true ∧
    (rwOnes ⟨0, [0x03]⟩ 4).testBit 1 = true) := by decide

/-- Port 7 trains; both ends' INIT frames are through, the partner expecting frame 6 next. -/
def trained (st : PortSt) (fresh : Bool) : State :=
  withPort { live with st := st, fresh := fresh, initRx := some (3, fresh, 6), initsLeft := 0 }

theorem witness_LinkStatesMove_2 :
  (barOn (withPort {}) = true ∧ rwStraddles ⟨0, [0x09]⟩ 4 = false ∧
    (rwMerge ⟨0, [0x09]⟩ 4 (nlkCtrl (portOf (withPort {}) 7))).testBit 0 = true ∧ (rwOnes ⟨0, [0x09]⟩ 4).testBit 1 = false ∧
    (rwOnes ⟨0, [0x09]⟩ 4).testBit 2 = false ∧ (portOf (withPort {}) 7).st = .disabled) ∧
  ((rwMerge ⟨0, [0x08]⟩ 4 (nlkCtrl (portOf (withPort live) 7))).testBit 0 = false) ∧
  (Units.wf (trained .training true) = true ∧ linkOn (trained .training true) 7 = true ∧
    linkClock (trained .training true) 7 = true ∧ (∀ n ∈ [0, 0, 0, 32], n ≤ 32) ∧
    (portOf (trained .training true) 7).initRx = some (3, true, 6) ∧ (portOf (trained .training true) 7).initsLeft = 0 ∧
    (portOf (trained .training true) 7).st = .training ∧ (portOf (trained .training true) 7).fresh = true) ∧
  ((portOf (trained .retrain false) 7).initRx = some (3, false, 6) ∧ (portOf (trained .retrain false) 7).st = .retrain ∧
    (portOf (trained .retrain false) 7).fresh = false ∧ belowNext 6 (portOf (trained .retrain false) 7).unack ≠ []) ∧
  (belowNext 7 (portOf (withPort { live with st := .retrain }) 7).unack = [] ∧
    (portOf (withPort { live with st := .retrain }) 7).initRx = none) ∧
  ((portOf (withPort { live with st := .retrain }) 7).st = .retrain ∧ (∃ n ∈ [0, 33], 32 < n)) ∧
  ((portOf (withPort { st := .training, since := 1500000000 }) 7).since + 500000000 ≤ (withPort { st := .training, since := 1500000000 }).now) := by decide

theorem witness_LinkStatesMove_3 :
  ((portOf (withPort { live with st := .retrain, since := 1990000000 }) 7).since + 10000000 ≤ (withPort { live with st := .retrain, since := 1990000000 }).now ∧
    (recentFails (withPort { live with st := .retrain, since := 1990000000 }).now (portOf (withPort { live with st := .retrain, since := 1990000000 }) 7).fails).length < 2) ∧

  ((portOf (withPort { st := .down, since := 1000000000 }) 7).auto = true ∧
    (portOf (withPort { st := .down, since := 1000000000 }) 7).en = true ∧
    (portOf (withPort { st := .down, since := 1000000000 }) 7).since + 1000000000 ≤ (withPort { st := .down, since := 1000000000 }).now) := by decide

theorem witness_FlowWriteChecked :
  (rwStraddles ⟨0, leBytes 4 0x02F00010⟩ 4 = false ∧
    bitsN (rwMerge ⟨0, leBytes 4 0x02F00010⟩ 4 (nlkFlow (portOf (withPort live) 7))) 0 10 = 16 ∧
    bitsN (rwMerge ⟨0, leBytes 4 0x02F00010⟩ 4 (nlkFlow (portOf (withPort live) 7))) 16 10 = 752) ∧
  (bitsN (rwMerge ⟨0, [15, 0]⟩ 4 (nlkFlow (portOf (withPort live) 7))) 0 10 = 15 ∧
    rwStraddles ⟨2, leBytes 4 0⟩ 4 = true) := by decide

theorem witness_RecalibrationActs :
  (Units.wf (withPort live) = true ∧ linkRuns (withPort live) 7 = true) ∧
  ((portOf (withPort { live with recalForce := true, txSlot := 4, recalSkip := 10 }) 7).recalTaken = false ∧
    (portOf (withPort { live with recalForce := true, txSlot := 4, recalSkip := 10 }) 7).recalWin = none ∧
    (portOf (withPort { live with recalForce := true, txSlot := 4, recalSkip := 10 }) 7).txSlot < 5) ∧
  (portIdle (portOf (withPort live) 7) = true) ∧
  (1999999001 + 999 ≤ (withPort { live with recalWin := some 1999999001 }).now) ∧
  ((portOf (withPort { live with recalAt := 1900000000, recalSkip := 9 }) 7).recalAt + 100000000 ≤ (withPort { live with recalAt := 1900000000, recalSkip := 9 }).now) := by decide

/-! ### The fabric and Roped Pairs -/

/-- Two devices: this one, UID 4, on port 6 to UID 9 at address 1; routes for addresses 1. -/
def pairOfDevices (f : Port → Port) : State := { idle with
  id := { idle.id with uid := 4 }, now := 2000000000,
  port := List.replicate 6 {} ++ [f { live with up := true, nbrUid := 9, nbrPort := 2, nbrAddr := 1, heardAt := some 1990000000 }, {}] }

/-- UID 9's record: its port 2 shows port 6 of UID 4. -/
def neighbour : Lsa := { uid := 9, addr := 1, lseq := 3, nbr := [{}, {}, { uid := 4, port := 6, up := true }, {}, {}, {}, {}, {}] }

def fabricked : State := let s := pairOfDevices id; { s with fab := { s.fab with addr := 0, db := [neighbour], own := some { ownLsa { s with fab := { s.fab with addr := 0 } } 1 with lseq := 1 }, lseq := 1, rtDirty := true } }

/-- A segment for address `d` at the head of port 7. -/
def transit (d : Nat) : State := { fabricked with
  fab := { fabricked.fab with route := [(1, 0x010F66)], transitDrop := 0xFFFFFFFF }
  port := fabricked.port.take 7 ++ [{ live with rxA := [{ seq := 3, vcA := true, first := true, data := Hdr.bytes { ttype := 8, dstDev := d } ++ leBytes 16 0 }] }] }

/-- Port 6 has received a Cairn frame of UID 9 with epoch 5. -/
def cairned : State := pairOfDevices (fun x => { x with nbrUid := 0, heardAt := none, up := false, cairnIn := [leBytes 1 1 ++ leBytes 1 2 ++ leBytes 1 1 ++ leBytes 1 0 ++ leBytes 1 1 ++ leBytes 3 0 ++ leBytes 8 9 ++ leBytes 8 5 ++ leBytes 16 0 ++ neighbour.bytes] })

/-- Auto mode, UID 4 the leader of UIDs 4 and 9, or UID 9's confirmation held by UID 14. -/
def auto4 : State := { fabricked with
  dict := { fabricked.dict with val := [(0x240100, [1])] }
  fab := { fabricked.fab with own := some { ownLsa fabricked 1 with auto := true }, dbAt := 1800000000 } }

/-- UID 14 with UID 9 leading. -/
def auto14 : State :=
  let s : State := { fabricked with id := { fabricked.id with uid := 14 }, dict := { fabricked.dict with val := [(0x240100, [1])] } }
  let l : Lsa := { uid := 14, auto := true, lseq := 1, nbr := List.replicate 8 {} }
  let d := dbDigest { s with fab := { s.fab with own := some l, db := [{ neighbour with auto := true }] } }
  { s with fab := { s.fab with addr := 255, own := some l, db := [{ neighbour with auto := true, adigest := BitVec.ofNat 32 d }] } }

/-- UID 9 carries this device's address too. -/
def rivalled (uid : BitVec 64) : State := { fabricked with
  id := { fabricked.id with uid := uid }
  fab := { fabricked.fab with addr := 1, own := some { uid := uid, addr := 1, nbr := List.replicate 8 {} }, dup := [(2 ^ 64 + 9, 1900000001)] } }

/-- A pair on port 7: its role (1 primary, 2 partner) and state. -/
def paired (role : Nat) (st : PairSt) (f : Port → Port) : State := { idle with
  now := 2000000000, id := { idle.id with uid := 4 }
  dict := { idle.dict with val := [(0x242000, [BitVec.ofNat 8 role]), (0x242200, [9])] }
  pair := { idle.pair with st := st, role := decide (role = 2), hbRx := 1999000000, hbSeen := true }
  kh := { idle.kh with pairSecret := some 3 }
  port := List.replicate 7 {} ++ [f { live with nbrUid := 9, nbrMirror := true, nbrAddr := 5, heardAt := some 1999000000 }] }

/-- A mirror message on VC-Q or VC-A of the Mirror Port. -/
def sentMir (role : Nat) (st : PairSt) (m arg : Nat) (body : Bytes) : State := paired role st (fun x =>
  let l := framesOf (decide (m = 1) || decide (m = 5)) (mirBytes m 200 77 arg body)
  { x with rxQ := l.filter (fun f => !f.vcA), rxA := l.filter (·.vcA) })

/-- Message 9, a checkpoint, waits for the ACK that port 7 has received; BAD came `n` times before. -/
def acked (bad n : Nat) : State :=
  let s := sentMir 1 .paired 5 (9 + 2 ^ 32 * bad) []
  { s with pair := { s.pair with ckBusy := true, mseqTx := 30, out := [{ mseq := 9, mtype := 4, arg := 2, body := [7], use := .ckpt, ref := 9, bad := n }] } }

def ckState : State :=
  let s := paired 1 .paired id
  { s with obj := busy.obj, pair := { s.pair with ckCtx := 5, ckEvv := 0x80, ckEv := BitVec.ofNat 128 (6 * 2 ^ 112), cseq := [(5, 3)] } }

theorem witness_FabricCommandsAct_1 :
  (linkRuns (transit 1) 7 = true ∧
    ((match takeHead 7 true (transit 1) with | .got b _ => decide ((parseHdr b).dstDev = 1 ∧ (parseHdr b).dstDev ≠ 255 ∧ (parseHdr b).dstDev ≠ (transit 1).fab.addr.toNat) | _ => false) = true) ∧
    routePort (transit 1) (upperPort (transit 1) 7) 1 0 0 = some 6) ∧
  (((match takeHead 7 true (transit 2) with | .got b _ => decide ((parseHdr b).dstDev = 2 ∧ (parseHdr b).dstDev ≠ 255 ∧ (parseHdr b).dstDev ≠ (transit 2).fab.addr.toNat) | _ => false) = true) ∧
    routePort (transit 2) (upperPort (transit 2) 7) 2 0 0 = none) ∧
  (Units.wf fabricked = true ∧ linkRuns fabricked 6 = true ∧ portUsable (portOf fabricked 6) = true ∧
    (portOf fabricked 6).cairnAt = 0 ∧ (portOf fabricked 6).cairnOut = []) ∧
  (Units.wf cairned = true ∧ linkRuns cairned 6 = true ∧ (portOf cairned 6).cairnIn.length = 1) ∧
  ((portOf (pairOfDevices (fun x => { x with heardAt := some 1950000000 })) 6).heardAt = some 1950000000 ∧
    1950000000 + 50000000 ≤ (pairOfDevices (fun x => { x with heardAt := some 1950000000 })).now) := by decide

/-- The UIDs that have carried this device's address for 100 ms. -/
def dueRivals (s : State) : List Nat := ((rivals s s.fab.addr.toNat).filter (fun l =>
  decide (tget 0 s.fab.dup (dupKey s.fab.addr.toNat l) ≠ 0) &&
  decide (tget 0 s.fab.dup (dupKey s.fab.addr.toNat l) - 1 + 100000000 ≤ s.now))).map (·.uid.toNat)

theorem witness_FabricCommandsAct_2 :
  (mcAwake fabricked = true ∧ fabricked.fab.rtDirty = true ∧ computeRoute fabricked 0 = 0x000008F8 ∧
    computeRoute fabricked 2 = 0x00FF0FFF) ∧
  (mcAwake auto4 = true ∧ autoMode auto4 = true ∧ ((lsas auto4).find? (fun a => a.auto)).map (·.uid) = some 4 ∧ auto4.id.uid = 4 ∧
    auto4.fab.dbAt + 200000000 ≤ auto4.now ∧ auto4.fab.adigest.toNat ≠ dbDigest auto4 ∧ auto4.fab.epoch.toNat < 2 ^ 64 - 1) ∧
  (mcAwake auto14 = true ∧ autoMode auto14 = true ∧ ((lsas auto14).find? (fun a => a.auto)).map (·.uid) = some 9 ∧ auto14.fab.adigest = 0 ∧
    ((lsas auto14).find? (fun a => a.auto)).map (fun a => a.adigest.toNat) = some (dbDigest auto14) ∧
    ((assignment (lsas auto14)).find? (fun e => decide (e.1 = auto14.id.uid))).map (·.2) = some 0) ∧
  (dueRivals (rivalled 4) = [9] ∧ (rivalled 4).id.uid.toNat < 9 ∧ pairBound (rivalled 4) = false) ∧
  (dueRivals (rivalled 14) = [9] ∧ 9 < (rivalled 14).id.uid.toNat ∧ pairBound (rivalled 14) = false) := by decide

/-- UID 9's identity key. -/
def pub9 : Bytes := leBytes 97 0x4e6dc36172917e54f00e9dd8dbdbd553ae748c88b60632d82257bf25c5b5a6fbb8a7f9534819f7851ab20878a91a938a562c96d5f5e9d65d00551f1e7088964fb755222ddaa2c11a7efc329d133e7c0c82d2a89cdcf60042045f16237c55a5a704

/-- UID 9, a partner of UID 4: its certificate's identity key, and its ephemeral key signed with it (10 R273, 11 R300). -/
def peer9 : PairPeer := { role := 2, partnerUid := 4, cert := some (9, pub9)
                          eph := leBytes 97 0x717673aa2b11ff8e6e3b18199ce2e4c28140ff8c9740dfc51d3d455a0b607ddf381f17bf59c9067deccab457899e3a2d611eaee1de118ea53d6f63ed6aa7b86bf8303c9d2f7743a9cf07f452a5cb7691b7c17e006fab1099c0c660397518e80c04
                          sig := leBytes 96 0x29c3be0eb2b50aa2a93836b77f0842e3b23ef44ef054c58a1b714dd068b8394088bc7b6eed222bc9d50558bc6d231b5d93d247b44c1fa3cef4054d1da24a03833b9378c0f801903060a44853264be6f9cd24789535d85f37215544d811910daa }

theorem witness_PairStatesMove_1 :
  ((paired 1 .binding id).rcv.oos = false ∧ pairRole (paired 1 .binding id) ≠ 0 ∧ partnerShows (paired 1 .binding id) = true ∧
    settingsMatch (paired 1 .binding id) { peer9 with role := 1 } = false ∧
    settingsMatch (paired 1 .binding id) peer9 = true ∧ (paired 1 .binding id).pair.st = .binding ∧
    keyServes (paired 1 .binding id) true = true ∧ (paired 1 .binding id).kh.run = []) ∧
  (∀ d, pairSecretOf (paired 1 .binding id) { peer9 with cert := none } d = none) ∧
  domOn (paired 1 .binding id) dHOST = true :=
  ⟨by decide, fun _ => rfl, by decide⟩

theorem test_partnerKey : (9 : BitVec 64).toNat = param (paired 1 .binding id) 0x2422 0 ∧ ecdsaVerify pub9 peer9.eph peer9.sig = true ∧
  (pointOf peer9.eph).isSome = true := by decide

theorem witness_PairStatesMove_4 (d : Nat) : (pairSecretOf (paired 1 .binding id) peer9 d).isSome = true := by
  have h (s : State) (p : PairPeer) (c : BitVec 64 × Bytes) (hc : p.cert = some c) (hu : c.1.toNat = param s 0x2422 0)
      (hv : ecdsaVerify c.2 p.eph p.sig = true) (hp : (pointOf p.eph).isSome = true) : (pairSecretOf s p d).isSome = true := by
    simp [pairSecretOf, ecdhX, hc, hu, hv, hp]
  exact h _ _ (9, pub9) rfl test_partnerKey.1 test_partnerKey.2.1 test_partnerKey.2.2

/-- A HEARTBEAT from the other side of the pair: its ROLE, and state 2 or 3. -/
def beat (role from' st : Nat) (ps : PairSt) : State := sentMir role ps 1 0 ([BitVec.ofNat 8 from', BitVec.ofNat 8 st] ++ List.replicate 14 0)

/-- A HEARTBEAT with the role byte `x` waits. -/
def beatHeard (s : State) (x : Nat) : Bool := match takeMir true s with | .good m q a b _ => decide (m = 1 ∧ q = 77 ∧ a = 0 ∧ byteAt b 0 = x ∧ byteAt b 1 ≠ 5) | _ => false

theorem witness_PairStatesMove_2 :
  ((paired 1 .syncing id).pair.st = .syncing ∧ (paired 1 .syncing id).pair.role = false ∧ (paired 1 .syncing id).pwr.stage = 5 ∧
    (∀ m ∈ (paired 1 .syncing id).pair.out, m.use ≠ .data ∧ m.use ≠ .region)) ∧
  (pairBound (beat 2 0 3 .syncing) = true ∧ linkRuns (beat 2 0 3 .syncing) (mirPort (beat 2 0 3 .syncing)) = true ∧
    beatHeard (beat 2 0 3 .syncing) 0 = true ∧ (beat 2 0 3 .syncing).pair.role = true) ∧
  (pairBound (beat 1 1 3 .paired) = true ∧ linkRuns (beat 1 1 3 .paired) (mirPort (beat 1 1 3 .paired)) = true ∧
    beatHeard (beat 1 1 3 .paired) 1 = true ∧ (beat 1 1 3 .paired).pair.role = false) ∧
  (pairBound (beat 1 0 3 .paired) = true ∧ linkRuns (beat 1 0 3 .paired) (mirPort (beat 1 0 3 .paired)) = true ∧
    beatHeard (beat 1 0 3 .paired) 0 = true ∧ (0 : Nat) ≠ b2n (!(beat 1 0 3 .paired).pair.role)) := by decide

/-- No HEARTBEAT has come for 5 ms. -/
def missed (role : Nat) (st : PairSt) : State := let s := paired role st id; { s with pair := { s.pair with hbRx := 1995000000 } }

/-- An unbind asked 10 ms ago. -/
def unbinds (st : PairSt) : State := let s := paired 1 st id; { s with pair := { s.pair with unbinding := some 1990000000, rebind := 2, out := [{ mseq := 1, mtype := 6, arg := 0, body := [], use := .unbind, ref := 1 }] } }

/-- A mirror message `m` for argument `a` waits on VC-Q. -/
def mirHeard (s : State) (m a : Nat) : Bool := match takeMir false s with | .good n q b _ _ => decide (n = m ∧ q = 77 ∧ b = a) | _ => false

theorem witness_PairStatesMove_3 :
  ((missed 1 .paired).pair.hbRx + hbMiss (missed 1 .paired) ≤ (missed 1 .paired).now ∧
    (missed 1 .paired).pair.st = .paired ∧ (missed 1 .paired).pair.role = false) ∧
  (({ missed 2 .paired with rcv := { (missed 2 .paired).rcv with oos := true } } : State).rcv.oos = true ∧
    ({ missed 2 .paired with rcv := { (missed 2 .paired).rcv with oos := true } } : State).pair.role = true) ∧
  ((missed 2 .paired).pair.hbRx + hbMiss (missed 2 .paired) ≤ (missed 2 .paired).now ∧ (missed 2 .paired).pair.st = .paired ∧
    (missed 2 .paired).pair.role = true ∧ (missed 2 .paired).rcv.oos = false ∧ (missed 2 .paired).fab.epoch.toNat < 2 ^ 64 - 1) ∧
  ((missed 2 .syncing).pair.st = .syncing ∧ (missed 2 .syncing).pair.hbRx + hbMiss (missed 2 .syncing) ≤ (missed 2 .syncing).now) ∧
  (pairBound (sentMir 2 .paired 6 0 []) = true ∧ linkRuns (sentMir 2 .paired 6 0 []) (mirPort (sentMir 2 .paired 6 0 [])) = true ∧
    mirHeard (sentMir 2 .paired 6 0 []) 6 0 = true) ∧
  ((unbinds .binding).pair.unbinding = some 1990000000 ∧ 1990000000 + 10000000 ≤ (unbinds .binding).now ∧
    (unbinds .binding).pair.st = .binding) ∧
  ((unbinds .paired).pair.unbinding = some 1990000000 ∧ 1990000000 + 10000000 ≤ (unbinds .paired).now ∧
    (unbinds .paired).pair.st ≠ .binding) := by decide

theorem witness_MirrorMessagesAct :
  (({ paired 1 .paired id with rcv := { idle.rcv with oos := true } } : State).rcv.oos = true) ∧
  (Units.wf (paired 1 .paired id) = true ∧ mirPort (paired 1 .paired id) = 7 ∧ pairBound (paired 1 .paired id) = true ∧
    (paired 1 .paired id).rcv.oos = false ∧ (paired 1 .paired id).pair.hbTx + 1000000 ≤ (paired 1 .paired id).now) ∧
  (pairBound (sentMir 2 .syncing 4 127 [0, 0, 0, 0, 0, 0, 2]) = true ∧
    linkRuns (sentMir 2 .syncing 4 127 [0, 0, 0, 0, 0, 0, 2]) (mirPort (sentMir 2 .syncing 4 127 [0, 0, 0, 0, 0, 0, 2])) = true ∧
    mirHeard (sentMir 2 .syncing 4 127 [0, 0, 0, 0, 0, 0, 2]) 4 127 = true ∧
    domOn (sentMir 2 .syncing 4 127 [0, 0, 0, 0, 0, 0, 2]) dMEM = true ∧
    holdsCopies (sentMir 2 .syncing 4 127 [0, 0, 0, 0, 0, 0, 2]) = true) ∧
  (hostReady ckState = true ∧ ckState.pair.ckBusy = false ∧ ckState.pair.role = false ∧ ckState.pair.st = .paired ∧
    (ctxOf ckState ckState.pair.ckCtx.toNat).st = .live ∧
    (∀ k ∈ List.range 8, ckState.pair.ckEvv.toNat.testBit k = true → evOwned ckState ckState.pair.ckCtx.toNat (bitsN ckState.pair.ckEv.toNat (16 * k) 16) = true)) := by decide

theorem witness_MirrorMessagesAct_2 :
  (pairBound (sentMir 2 .syncing 2 0x17FFFFFFFE [5, 6]) = true ∧
    linkRuns (sentMir 2 .syncing 2 0x17FFFFFFFE [5, 6]) (mirPort (sentMir 2 .syncing 2 0x17FFFFFFFE [5, 6])) = true ∧
    mirHeard (sentMir 2 .syncing 2 0x17FFFFFFFE [5, 6]) 2 0x17FFFFFFFE = true ∧
    domOn (sentMir 2 .syncing 2 0x17FFFFFFFE [5, 6]) dMEM = true ∧
    holdsCopies (sentMir 2 .syncing 2 0x17FFFFFFFE [5, 6]) = true) ∧
  (pairBound (sentMir 2 .syncing 3 15 [0, 0, 0, 0, 0, 0, 2]) = true ∧
    linkRuns (sentMir 2 .syncing 3 15 [0, 0, 0, 0, 0, 0, 2]) (mirPort (sentMir 2 .syncing 3 15 [0, 0, 0, 0, 0, 0, 2])) = true ∧
    mirHeard (sentMir 2 .syncing 3 15 [0, 0, 0, 0, 0, 0, 2]) 3 15 = true ∧
    domOn (sentMir 2 .syncing 3 15 [0, 0, 0, 0, 0, 0, 2]) dMEM = true ∧
    holdsCopies (sentMir 2 .syncing 3 15 [0, 0, 0, 0, 0, 0, 2]) = true) := by decide

/-- An ACK for message 9 waits on VC-A. -/
def ackHeard (s : State) (a : Nat) : Bool := match takeMir true s with | .good m q b _ _ => decide (m = 5 ∧ q = 77 ∧ b = a) | _ => false

theorem witness_MirrorMessagesAct_3 :
  (pairBound (acked 0 2) = true ∧ linkRuns (acked 0 2) (mirPort (acked 0 2)) = true ∧ ackHeard (acked 0 2) 9 = true ∧
    (((acked 0 2).pair.out.find? (fun x => decide (x.mseq = 9))).map (·.bad)) = some 2) ∧
  (pairBound (acked 1 2) = true ∧ linkRuns (acked 1 2) (mirPort (acked 1 2)) = true ∧ ackHeard (acked 1 2) (9 + 2 ^ 32) = true ∧
    (((acked 1 2).pair.out.find? (fun x => decide (x.mseq = 9))).map (·.bad)) = some 2) ∧
  (pairBound (acked 1 3) = true ∧ linkRuns (acked 1 3) (mirPort (acked 1 3)) = true ∧ ackHeard (acked 1 3) (9 + 2 ^ 32) = true ∧
    (((acked 1 3).pair.out.find? (fun x => decide (x.mseq = 9))).map (·.bad)) = some 3 ∧
    (acked 1 3).pair.st = .paired ∧ (acked 1 3).pair.role = false) := by decide

/-! ### Keys, seals, power and resets -/

def keyed : State := { busy with kh := { busy.kh with key := 99, grant := [1], result := 5 } }

def withJobKey : State := { keyed with kh := { keyed.kh with jobKey := [(9, { key := some 4 })], gcmKey := [(9, some 4)] } }

def atLevel (l : Nat) : State := { keyed with kh := { keyed.kh with dbg := l } }

/-- The TAP holds instruction `op` at debug level `l`. -/
def scanning (op : BitVec 8) (l : Nat) : State := { keyed with kh := { keyed.kh with dbg := l, jtag := op } }

/-- JK_INSTALL runs under the Secure Hold, and a gating request waits. -/
def heldCmd : State := { keyed with now := 2000005, kh := { keyed.kh with busy := true, run := [(.jkInstall 9 7 99, 3), (.declare 3 5, 4)] }, pwr := { keyed.pwr with defer := some (.state .p2, 5) } }

def debugKey : Bytes := leBytes 97 0x2047263325fd4473fed4e03a1c238b28b19d1c3f4ba84cf5b9dff96793a508678921c6c09aefa84e24577d2db7d9158013bc80545154a26460865590eaf0f8de640c306b28e5aa062ee092aec48b9adaa57f429f02188656a4194e5b414e3aec04

/-- Grants of level 1 and 2 for nonce 77 and UID 1, signed with the debug authority key (11 R305). -/
def grantOf : Nat → Bytes
  | 1 => leBytes 160 0x5e0c788dd8d41ebe276dc2a98e53077872093d79f8e4a615fc6e58c1174c5def847be483d2721488ef277929c38664aee1bea09d1c233da2ca09a8bda55c762ee4c0ff4c56f4c644a22d0ffe2a4b44895b66f6f8b95d58d42859c464df63258200000000000000000000000000000000000000000000000000000000000000000000000000000000000000000000004d000000000000000100000001544e5247
  | _ => leBytes 160 0x7df3ab6189891d5784d7ef5d8bd699efc6a3f691a5bd0e7d1c0380f5a32df48ec4f9ccbf75d75a333b5f4a8264f62c90e1bea09d1c233da2ca09a8bda55c762ee4c0ff4c56f4c644a22d0ffe2a4b44895b66f6f8b95d58d42859c464df63258200000000000000000000000000000000000000000000000000000000000000000000000000000000000000000000004d000000000000000100000002544e5247

def granted (l : Nat) : State := { keyed with
  kh := { keyed.kh with nonce := some 77, grant := grantOf l }, dict := { keyed.dict with val := [(0x603100, debugKey)] } }

/-- Context 5 seals a frame of 64 bytes at 0x1000. -/
def sealStage : Bytes := fields [(0, 1, 5), (2, 2, 5), (8, 8, 0x1000), (16, 5, 64)]

def sealing : State := { busy with sealer := { busy.sealer with stage := BitVec.ofNat 512 (ofLe sealStage) } }

def sealed1 : State := { busy with sealer := { busy.sealer with slots := [(7, { opened := true, desc := sealStage, ctx := 5, queue := 5, opening := 2, crc := 6 })], opens := 3, rows := [{ n := 4, slot := 7, opening := 2, off := 60, data := [1, 2, 3, 4], waits := [] }] } }

def holdsVote : State := { idle with kh := { idle.kh with run := [(.declare 3 5, 4)] } }

def deferred (g : Gating) : State := { idle with pwr := { idle.pwr with busy := true, defer := some (g, 3) } }

def inP1 : State := { idle with pwr := { idle.pwr with cur := .p1, on := 0x211, record := 0x3FF, d3 := true } }

def goingTo (p : PState) : State := { idle with pwr := { idle.pwr with moving := true, goal := some p } }

def inP3 : State := { idle with pwr := { idle.pwr with cur := .p3, on := 0, record := 0x3FF } }

def sample : TeleSample := { volt := [some 1, none], curr := [], die := [], hbm := [], power := 0x42000000, energy := 7, pmbErr := 0 }

/-- Tile 30 runs; a host write, a seal slot and context 5 are live. -/
def working : State := { sealed1 with
  tile := [(30, { part := .running, win := [(2, { st := .executing })] })], mesh := [{ credit := true, src := 30, entry := 0, dst := 3, chan := 0, count := 1, ctx := 5 }]
  quad := [{}, { owner := some 5 }, {}, {}]
  hif := { sealed1.hif with reqs := [⟨8, 0x20000, [1], .eventRec none⟩] }, hbm := [(5, 6)] }

def lossAt (l : LossPh) : State := { working with now := 1000007, hif := { working.hif with loss := l, lossAt := 7, lossCause := 2, lossCore := 1 } }

theorem witness_KeyCommandsAct_2 :
  (mcRuns keyed = true ∧ domOn keyed dSEC = true ∧ keyed.kh.busy = false ∧ slotBound keyed 255 = false ∧
    keyServes keyed false = true ∧ keyed.kh.run = []) ∧
  (slotBound withJobKey 9 = false ∧ keyServes withJobKey false = true ∧ withJobKey.kh.run = []) ∧
  (keyed.kh.chassis = none ∧ keyServes keyed false = true) ∧
  (mcRuns holdsVote = true ∧ domOn holdsVote dSEC = true ∧ holdsVote.kh.busy = false ∧ slotBound holdsVote 255 = false ∧
    keyServes holdsVote false = true ∧ holdsVote.kh.chassis = none ∧ holdsVote.kh.run ≠ []) ∧
  (mcRuns (atLevel 2) = true ∧ domOn (atLevel 2) dSEC = true ∧ (atLevel 2).kh.busy = false ∧ (atLevel 2).kh.dbg = 2) ∧
  (heldCmd.kh.run = [(.jkInstall 9 7 99, 3), (.declare 3 5, 4)] ∧ heldCmd.pwr.defer = some (.state .p2, 5) ∧
    5 + 2000000 ≤ heldCmd.now) := by decide

theorem witness_DebugCommandsAct :
  (mcRuns keyed = true ∧ domOn keyed dSEC = true ∧ keyed.kh.busy = false ∧ keyed.kh.rngOk = true) ∧
  (mcRuns (granted 1) = true ∧ domOn (granted 1) dSEC = true ∧ (granted 1).kh.busy = false ∧ (granted 1).kh.nonce = some 77 ∧
    grantOk (granted 1) (putB (List.replicate 256 0) 0 (granted 1).kh.grant) 77 = true ∧
    byteAt (putB (List.replicate 256 0) 0 (granted 1).kh.grant) 4 = 1) ∧
  (Tables.wf (granted 2) = true ∧ grantOk (granted 2) (putB (List.replicate 256 0) 0 (granted 2).kh.grant) 77 = true ∧
    byteAt (putB (List.replicate 256 0) 0 (granted 2).kh.grant) 4 = 2 ∧ (granted 2).pair.st = .unbound) ∧
  (({ granted 1 with dict := keyed.dict } : State).kh.nonce = some 77 ∧
    grantOk ({ granted 1 with dict := keyed.dict } : State) (putB (List.replicate 256 0) 0 ({ granted 1 with dict := keyed.dict } : State).kh.grant) 77 = false ∧
    byteAt (putB (List.replicate 256 0) 0 ({ granted 1 with dict := keyed.dict } : State).kh.grant) 4 ≠ 2) ∧
  (mcRuns (atLevel 1) = true ∧ domOn (atLevel 1) dSEC = true ∧ (atLevel 1).kh.busy = false ∧ (atLevel 1).kh.dbg = 1) ∧
  (mcRuns (atLevel 2) = true ∧ domOn (atLevel 2) dSEC = true ∧ (atLevel 2).kh.busy = false ∧ (atLevel 2).kh.dbg = 2) := by decide

theorem witness_PortsOfTheKeyholderAct :
  (mcRuns ({ keyed with hbm := [(5, 6)], flash := { keyed.flash with chassis := leBytes 40 3 } } : State) = true) ∧
  (keyed.pwr.main = true ∧ keyed.kh.extest = false ∧ keyed.kh.dbg = 0) ∧
  ((atLevel 1).kh.dbg ≠ 0 ∧ (atLevel 1).pwr.main = true ∧ (atLevel 1).kh.extest = false) ∧
  (Tables.wf keyed = true ∧ keyed.kh.jtag ≠ 0x04) ∧
  (mcRuns (scanning 0x11 1) = true ∧ (scanning 0x11 1).kh.extest = false ∧ (scanning 0x11 1).kh.jtag = 0x11 ∧ (scanning 0x11 1).kh.dbg ≠ 0) ∧
  (mcRuns (scanning 0x12 2) = true ∧ (scanning 0x12 2).kh.extest = false ∧ (scanning 0x12 2).kh.jtag = 0x12 ∧ (scanning 0x12 2).kh.dbg = 2 ∧
    domOn (scanning 0x12 2) dMEM = true ∧ khAddr .host 0x700004 4 = true) ∧
  (({ scanning 0x12 2 with pwr := inP1.pwr } : State).pwr.cur ≠ .p0 ∧ mcRuns ({ scanning 0x12 2 with pwr := inP1.pwr } : State) = true) ∧
  ((scanning 0x12 2).pwr.main = true ∧ (scanning 0x11 1).kh.dbg ≠ 2) ∧
  (({ keyed with kh := { keyed.kh with extest := true } } : State).kh.extest = true) := by decide

theorem witness_SealCommandsAct :
  (hostReady sealing = true ∧ sealing.sealer.busy = false ∧ domOn sealing dMEM = true ∧
    onlyFields sealFields (leBytes 64 sealing.sealer.stage.toNat) = true ∧ (tget {} sealing.sealer.slots 7).opened = false ∧
    isLive sealing (bitsAt (leBytes 64 sealing.sealer.stage.toNat) 0 0 7) = true ∧
    sealRangeBad sealing (leBytes 64 sealing.sealer.stage.toNat) = false) ∧
  ((tget {} sealed1.sealer.slots 7).opened = true) ∧
  ((tget {} busy.sealer.slots 7).opened = false) ∧
  ((sealed1.sealer.rows.find? (fun r => decide (r.n = 4) && r.waits.isEmpty)).isSome = true ∧
    (tget {} sealed1.sealer.slots 7).opened = true ∧ (tget {} sealed1.sealer.slots 7).opening = 2) := by decide

/-- A write of SEL, VALUE 0 standing in the register. -/
def selWr (n : Nat) : RegWr := ⟨2, leBytes 2 n⟩

theorem witness_DomainRequestsAct :
  (mcRuns idle = true ∧ idle.pwr.busy = false ∧ idle.pwr.moving = false ∧ barOn idle = true ∧
    rwStraddles ⟨0, [1, 2]⟩ 4 = false ∧ rwTouches ⟨0, [1, 2]⟩ 2 = false ∧ rwTouches ⟨0, [1, 2]⟩ 3 = false) ∧
  (rwStraddles (selWr 0x1E0) 4 = false ∧ rwTouches (selWr 0x1E0) 2 = true ∧
    rwMerge (selWr 0x1E0) 4 (woHeld idle 0x900008) = 0x01E00000 ∧ (0x01E00000 : Nat) &&& 0xFC00FC00 = 0 ∧
    (bitsN 0x01E00000 16 10).testBit 0 = false ∧
    needsBroken (domTarget (bitsN 0x01E00000 0 10) (bitsN 0x01E00000 16 10) idle) = false ∧
    offRefused (domTarget (bitsN 0x01E00000 0 10) (bitsN 0x01E00000 16 10) idle) true idle = false ∧
    isGating (domTarget (bitsN 0x01E00000 0 10) (bitsN 0x01E00000 16 10) idle) idle = false) ∧
  (rwTouches ⟨3, [4]⟩ 3 = true ∧ rwMerge ⟨3, [4]⟩ 4 (woHeld idle 0x900008) &&& 0xFC00FC00 ≠ 0 ∧
    (bitsN (rwMerge (selWr 1) 4 (woHeld idle 0x900008)) 16 10).testBit 0 = true) ∧
  (rwMerge (selWr 0x010) 4 (woHeld idle 0x900008) = 0x00100000 ∧
    needsBroken (domTarget (bitsN 0x00100000 0 10) (bitsN 0x00100000 16 10) idle) = true) ∧
  (rwMerge (selWr 0x200) 4 (woHeld holdsVote 0x900008) = 0x02000000 ∧
    isGating (domTarget (bitsN 0x02000000 0 10) (bitsN 0x02000000 16 10) holdsVote) holdsVote = true ∧
    holding holdsVote = true ∧ needsBroken (domTarget (bitsN 0x02000000 0 10) (bitsN 0x02000000 16 10) holdsVote) = false ∧
    offRefused (domTarget (bitsN 0x02000000 0 10) (bitsN 0x02000000 16 10) holdsVote) true holdsVote = false) ∧
  (mcRuns (deferred (.state .p2)) = true ∧ barOn (deferred (.state .p2)) = true ∧ (deferred (.state .p2)).pwr.busy = true) ∧
  (mcRuns (goingTo .p1) = true ∧ (goingTo .p1).pwr.moving = true) := by decide

theorem witness_DomainRequestsAct_2 :
  ((deferred (.dom 0 0x1E0 false)).pwr.defer = some (.dom 0 0x1E0 false, 3) ∧ (deferred (.dom 0 0x1E0 false)).kh.run = [] ∧
    needsBroken (domTarget 0 0x1E0 (deferred (.dom 0 0x1E0 false))) = false ∧
    offRefused (domTarget 0 0x1E0 (deferred (.dom 0 0x1E0 false))) true (deferred (.dom 0 0x1E0 false)) = false) ∧
  (needsBroken (domTarget 0 0x010 (deferred (.dom 0 0x010 false))) = true ∧
    offRefused (domTarget 0 0x001 (deferred (.dom 0 0x001 false))) true (deferred (.dom 0 0x001 false)) = true) ∧
  ((deferred (.state .p2)).pwr.defer = some (.state .p2, 3) ∧ (deferred (.state .p2)).kh.run = [] ∧
    (∀ x ∈ (deferred (.state .p2)).quad, x.holder = none) ∧ stateRefused .p2 (deferred (.state .p2)) = false) ∧
  (stateRefused .p2 { deferred (.state .p2) with biv := { idle.biv with busy := true } } = true) := by decide

theorem witness_PowerStatesMove_2 :
  (mcRuns idle = true ∧ idle.pwr.busy = false ∧ idle.pwr.moving = false ∧ barOn idle = true ∧ pstateOf 0 = idle.pwr.cur ∧
    idle.pwr.cur = .p0 ∧ idle.pwr.stage = 5 ∧ idle.hif.loss = .idle ∧ lowBlocked .p2 idle = false ∧ pstateOf 2 = .p2 ∧
    isGating (stateDoms .p2 idle) idle = true ∧ holding idle = false) ∧
  (mcRuns holdsVote = true ∧ holdsVote.pwr.busy = false ∧ holdsVote.pwr.moving = false ∧ holdsVote.pwr.cur = .p0 ∧
    holdsVote.pwr.stage = 5 ∧ holdsVote.hif.loss = .idle ∧ lowBlocked .p2 holdsVote = false ∧
    isGating (stateDoms .p2 holdsVote) holdsVote = true ∧ holding holdsVote = true) ∧
  (mcRuns inP1 = true ∧ inP1.pwr.busy = false ∧ inP1.pwr.moving = false ∧ inP1.pwr.cur ≠ .p0 ∧ inP1.pwr.stage = 5 ∧
    inP1.hif.loss = .idle ∧ isGating inP1.pwr.record.toNat inP1 = false) := by decide

theorem witness_PowerStatesMove :
  ((goingTo .p1).pwr.goal = some .p1 ∧ (goingTo .p1).pwr.moving = true ∧ (goingTo .p1).pwr.cur = .p0 ∧
    (goingTo .p1).pwr.defer = none ∧ (∀ x ∈ (goingTo .p1).quad, x.holder = none) ∧ stateRefused .p1 (goingTo .p1) = false ∧
    isGating (stateDoms .p1 (goingTo .p1)) (goingTo .p1) = false) ∧
  (barOn idle = true ∧ idle.pwr.d3 = false ∧ idle.hif.loss = .idle ∧ lowBlocked .p1 idle = false) ∧
  (barOn inP1 = true ∧ inP1.pwr.d3 = true ∧ inP1.pwr.cur = .p1 ∧ mcRuns inP1 = true ∧ inP1.pwr.busy = false ∧
    inP1.pwr.moving = false ∧ inP1.hif.loss = .idle ∧ isGating inP1.pwr.record.toNat inP1 = false) ∧
  (mcRuns inP3 = true ∧ inP3.pwr.cur = .p3 ∧ inP3.pwr.perstN = true ∧ inP3.hif.loss = .idle) ∧
  (({ idle with pwr := { idle.pwr with perstN := false } } : State).pwr.perstN = false ∧
    ({ idle with pwr := { idle.pwr with perstN := false } } : State).pwr.cur ≠ .p3) := by decide

/-- 100 ms after PERST_N rose, at boot stage `st`. -/
def perstUp (st : Nat) : State := { idle with now := 100000005, pwr := { idle.pwr with perstAt := some 5, stage := st } }

/-- Patrol scrub of stack 3 at the line before its last, its counter full. -/
def lastLine : State := { idle with scrub := [{}, {}, {}, { line := 402653182, corr := 0xFFFFFFFFFFFFFFFF }] }

/-- Scrub of stack 1 is behind. -/
def scrubLate : State := { idle with scrub := [{}, { age := 86400000000 }, {}, {}] }

/-- Port 7 has counted errors since the last sample. -/
def sampled : State := { withPort { live with crcErr := 9, fecCorr := 8 } with now := 10000000, dict := { idle.dict with stat := [(0x201208, 2 ^ 64 - 3)] } }

theorem witness_BackgroundWorkActs_1 :
  (domOn idle dHOST = true ∧ idle.pwr.perstN = true) ∧
  (domOn (perstUp 4) dHOST = true ∧ (perstUp 4).pwr.perstN = true ∧ (perstUp 4).pwr.perstAt = some 5 ∧
    5 + 100000000 ≤ (perstUp 4).now ∧ (perstUp 4).pwr.stage ≠ 5) ∧
  (domOn (perstUp 5) dHOST = true ∧ (perstUp 5).pwr.perstN = true ∧ (perstUp 5).pwr.perstAt = some 5 ∧ (perstUp 5).pwr.stage = 5) ∧
  (Units.wf (withPort live) = true ∧ domOn (withPort live) dLNKB = true ∧ (portOf (withPort live) 7).st = .active) ∧
  (Units.wf netBase = true ∧ domOn netBase dNET = true) ∧
  (Units.wf lastLine = true ∧ domOn lastLine dMEM = true ∧ domOn lastLine dHOST = true ∧ 3 ≤ lastLine.pwr.stage ∧
    (scrubOf lastLine 3).line + 1 < 402653184) := by decide

theorem witness_BackgroundWorkActs_2 :
  (Units.wf scrubLate = true ∧ domOn scrubLate dMEM = true ∧ 3 ≤ scrubLate.pwr.stage ∧ scrubBehind (scrubOf scrubLate 1) = true ∧
    (scrubOf scrubLate 1).slotAt = 0) ∧
  (Tables.wf sampled = true ∧ Units.wf sampled = true ∧ mcAwake sampled = true ∧ 2 ≤ sampled.pwr.stage ∧
    sampled.tele.since + param sampled 0x9010 10 * 1000000 ≤ sampled.now ∧ linkOn sampled 7 = true) := by decide

theorem witness_ResetCommandsAct :
  (mcRuns working = true ∧ domOn working dHOST = true ∧ working.pwr.stage = 5 ∧ working.hif.loss = .idle) ∧
  (Tables.wf (lossAt .draining) = true ∧ (lossAt .draining).hif.loss = .draining ∧
    (lossAt .draining).hif.lossAt + 1000000 ≤ (lossAt .draining).now) ∧
  ((lossAt .sealing).hif.loss = .sealing ∧ (lossAt .sealing).kh.dbg ≠ 2) ∧
  (working.pwr.stage = 5 ∧ working.hif.loss = .idle ∧ working.kh.dbg ≠ 2) ∧
  (Tables.wf working = true ∧ Units.wf working = true ∧ mcRuns working = true ∧ domOn working (dCQ 1) = true) := by decide

/-- The device during boot: its stage, whether the ROM runs, whether a warm boot. -/
def booting (st : Nat) (rom warm : Bool) : State := { idle with
  hbm := [(5, 6)], pwr := { idle.pwr with stage := st, romRuns := rom, warm := warm, on := 0x001, testN := false } }

theorem witness_BootStagesAdvance_1 :
  (mcRuns (booting 0 false false) = true ∧ (booting 0 false false).pwr.parked = false ∧ (booting 0 false false).pwr.stage = 0 ∧
    (booting 0 false false).pwr.romRuns = false) ∧
  (mcRuns (booting 0 true false) = true ∧ (booting 0 true false).pwr.parked = false ∧ (booting 0 true false).pwr.stage = 0 ∧
    (booting 0 true false).pwr.romRuns = true) ∧
  (mcRuns (booting 1 true false) = true ∧ (booting 1 true false).pwr.stage = 1) ∧
  (mcRuns (booting 2 true false) = true ∧ (booting 2 true false).pwr.stage = 2 ∧ (booting 2 true false).pwr.warm = false) ∧
  ((booting 2 true true).pwr.stage = 2 ∧ (booting 2 true true).pwr.warm = true) ∧
  ((booting 3 true false).pwr.stage = 3 ∧ (booting 3 true false).pwr.warm = false) ∧
  ((booting 3 true true).pwr.stage = 3 ∧ (booting 3 true true).pwr.warm = true) ∧
  (mcRuns (booting 4 true false) = true ∧ (booting 4 true false).pwr.parked = false ∧ (booting 4 true false).pwr.stage = 4) := by decide

/-! ### Recovery, the dictionary and the general statements -/

/-- Tile 23 runs the job of queue 5 and has made no progress for 50 ms. -/
def hung : State := { setJob (some (aJob .running)) busy with
  quad := [{ owner := some 5, holder := some 5 }, {}, {}, {}]
  tile := [(23, { part := .running, queue := 5, prog := 50000000, win := [(2, { st := .executing })] })] }

/-- A job with a watchdog of 1 µs that has run for 1 µs. -/
def slowJob : Job := { aJob .running with entry := fields [(0, 1, 1), (1, 1, 1), (32, 4, 1)], ran := 1000 }

def stalled (step : Nat) : State := { setJob (some slowJob) hung with rcv := { hung.rcv with step := step, since := 0 }, now := 10000000 }

/-- An Abseil of quadrant 0 in the given step; context 5 is its suspect. -/
def abseil (step : Nat) : State := { hung with
  now := 1000000, rcv := { hung.rcv with step := step, scope := 1, since := 0, expired := [23], suspects := [{ ctx := 5, queue := 5, acc := 0 }] } }

/-- The record of tile 23's hang (14 R364). -/
def hangRec : ErrRec := { code := 0x0A01, src := 1, unit := 23, ctx := some 5 }

/-- An Abseil whose records `recs` are to be sent, and `inc` sent and not yet accepted. -/
def reported (step : Nat) (recs inc : List ErrRec) : State := let s := abseil step; { s with
  now := 77, erq := { s.erq with incoming := inc, time := 1 }, rcv := { s.rcv with recs := recs } }

/-- An Abseil that the job watchdog of queue 5 started. -/
def byJob (s : State) : State := { s with rcv := { s.rcv with jobTrig := some 5 } }

/-- The suspect's replay passed; an Abseil before had no conviction. -/
def acquitted : State := let s := abseil 6; { s with rcv := { s.rcv with suspects := [{ ctx := 5, queue := 5, acc := 0, settled := true, outcome := 1 }], noConv := [7] } }

/-- The job of queue 5 has been replayed for a second. -/
def replays : State := { setJob (some { aJob .running with replay := true }) (abseil 6) with
  now := 1000000000, rcv := { (abseil 6).rcv with rctx := some 5, replay := 2 ^ 5, replayAt := 0 } }

/-- Transaction 7 holds tag 3, whose timer has run for 2 ms. -/
def timedOut : State := { busy with txn := { busy.txn with
  txns := [(7, some { ctx := 5, src := .ntx, dev := 1, loop := false, out := 1 })]
  tags := [(3, some { txn := 7, seg := { idx := 0, hdr := {}, data := [], land := 0 }, port := some 2, run := 2000000 })] } }

/-- The MC watchdog has not been kicked for 4 s. -/
def unkicked : State := { idle with now := 4000000000, hbm := [(1, 2)] }

/-- Context 5 exports the crash area to host object 3. -/
def exporting : State := { busy with
  rcv := { busy.rcv with exCtx := 5, exObj := 3 }
  obj := { busy.obj with mo := [(3, { st := .live, ctx := 5, host := true, write := true, va := 0x40000, pa := 0x700000, size := 0x800000 })] } }

/-- The device as node 9 of the field bus. -/
def onBus : State := { idle with dict := { idle.dict with onBus := true, node := 9 } }

/-- A REQUEST frame (15 R390). -/
def req (op client index sub priv len : Nat) (b : Bytes) : Bytes :=
  leBytes 1 op ++ leBytes 1 client ++ leBytes 2 index ++ leBytes 1 sub ++ leBytes 1 priv ++ leBytes 2 len ++ b

def readReq : Bytes := req 1 0x77 0x5010 0 0 0 []

def writeReq : Bytes := req 2 0x77 0x4002 0 0 1 [6]

def setReq : Bytes := req 2 0x77 0x2410 0 1 1 ([1] ++ List.replicate 12 0)

def key9 : State := { onBus with kh := { onBus.kh with chassis := some 5 } }

def segReq : Bytes := req 3 0x77 0x2411 0 1 1024 []

def xfers : SegXfer := { index := 0x2411, sub := 0, client := 0x77, priv := 1, len := 1024, data := [9], k := 17, since := 3 }

def opened : State := { onBus with now := 500000003, dict := { onBus.dict with xfer := some xfers } }

def abortReq : Bytes := req 4 0x77 0 0 0 0 []

def mailed : State := { idle with dict := { idle.dict with mbxReq := readReq ++ List.replicate 4120 0 } }

/-- Both copies of the journal hold the committed generation 1, with no value (16 R416, R417). -/
def journal1 : Tab Byte := memWrite 0xFF [] journalBase (leBytes 52 0x768702390000000100000000000000000000025a0426490a0000000000000000000000000000000000000001000000014c4e524a)

def journalled : State := { idle with flash := { idle.flash with bank0 := journal1, bank1 := journal1 } }

def table : Bytes := (List.range 256).flatMap (fun _ => leBytes 4 0x00FF0FFF)

def onTrial (b : Bool) : State := { idle with pwr := { idle.pwr with trial := b }, flash := { idle.flash with trialBoots := 2 } }

def updating : State := { idle with flash := { idle.flash with updOpen := true, updOff := 0x17FF000 } }

/-- The image of the other bank is being verified, `n` ns to go. -/
def verifying (n : Nat) : State := { idle with flash := { idle.flash with upd := some (.verifying n), updStatus := 1 } }

def image : Bytes := leBytes 32 5 ++ List.replicate 32 0

theorem witness_AbseilActs_1 :
  (progExpired hung 23 = true ∧ hung.hif.loss = .idle ∧ hung.rcv.step = 0) ∧
  ((queueOf (stalled 0) 5).job = some slowJob ∧ slowJob.ph = .running ∧ jobLimit (stalled 0) 5 slowJob ≠ 0 ∧
    jobLimit (stalled 0) 5 slowJob ≤ slowJob.ran ∧ (stalled 0).hif.loss = .idle ∧ (stalled 0).rcv.step = 0) ∧
  ((queueOf (stalled 3) 5).job = some slowJob ∧ jobLimit (stalled 3) 5 slowJob ≤ slowJob.ran ∧ (stalled 3).rcv.step ≠ 0 ∧
    (stalled 3).rcv.step ≠ 6 ∧ (∀ x ∈ (stalled 3).rcv.suspects, x.queue ≠ 5) ∧
    (ctxOf (stalled 3) (queueOf (stalled 3) 5).ctx).st = .live) ∧
  (Tables.wf (abseil 2) = true ∧ (abseil 2).rcv.step = 2 ∧ (abseil 2).rcv.since + 1000000 ≤ (abseil 2).now) ∧
  ((reported 3 [hangRec] []).rcv.step = 3 ∧ domOn (reported 3 [hangRec] []) dHOST = true ∧
    ∃ e ∈ (reported 3 [hangRec] []).erq.incoming ++ (reported 3 [hangRec] []).rcv.recs, e.code = 0x0A01) ∧
  ((reported 3 [] []).rcv.step = 3 ∧ (reported 3 [] []).rcv.jobTrig = none ∧ domOn (reported 3 [] []) dHOST = true ∧
    ∀ e ∈ (reported 3 [] []).erq.incoming ++ (reported 3 [] []).rcv.recs, e.code ≠ 0x0A01) := by decide

theorem witness_AbseilActs_2 :
  ((reported 4 [] [hangRec, hangRec]).rcv.step = 4 ∧ domOn (reported 4 [] [hangRec, hangRec]) dHOST = true ∧
    1 < (reported 4 [] [hangRec, hangRec]).erq.incoming.length ∧
    (reported 4 [] [hangRec, hangRec]).erq.lastAcc ≠ some (reported 4 [] [hangRec, hangRec]).erq.time ∧
    ∃ e ∈ ldel (reported 4 [] [hangRec, hangRec]).erq.incoming 1, e.code = 0x0A01) ∧
  ((reported 4 [] [hangRec]).rcv.step = 4 ∧ 0 < (reported 4 [] [hangRec]).erq.incoming.length ∧
    (∀ e ∈ ldel (reported 4 [] [hangRec]).erq.incoming 0, e.code ≠ 0x0A01) ∧ (reported 4 [] [hangRec]).rcv.jobTrig = none) ∧
  (jobTrigCtx (byJob (reported 4 [] [hangRec])) = some 5 ∧ (byJob (reported 4 [] [hangRec])).rcv.queued = [] ∧
    (byJob (reported 4 [] [hangRec])).rcv.step = 4 ∧
    (byJob (reported 4 [] [hangRec])).erq.lastAcc ≠ some (byJob (reported 4 [] [hangRec])).erq.time ∧
    (ctxOf (byJob (reported 4 [] [hangRec])) 5).st = .live) ∧
  (Units.wf (abseil 5) = true ∧ (abseil 5).rcv.step = 5 ∧
    (abseil 5).rcv.stepAt + 21000 * (scopeQuads (abseil 5)).length ≤ (abseil 5).now ∧
    ({ abseil 5 with now := 20999 } : State).now < (abseil 5).rcv.stepAt + 21000 * (scopeQuads { abseil 5 with now := 20999 }).length) ∧
  (1 ≤ (stalled 5).rcv.step ∧ (stalled 5).rcv.step ≤ 5 ∧ (stalled 5).rcv.since + 10000000 ≤ (stalled 5).now ∧
    (stalled 5).hif.loss = .idle) := by decide

theorem witness_SoloReplayActs :
  ((abseil 6).rcv.step = 6 ∧ (abseil 6).rcv.rctx = none ∧ nextReplay (abseil 6) = none ∧ (abseil 6).rcv.queued = [] ∧
    notReplayable (abseil 6) = [5] ∧ (ctxOf (abseil 6) 5).st = .live) ∧
  (acquitted.rcv.step = 6 ∧ acquitted.rcv.rctx = none ∧ nextReplay acquitted = none ∧ acquitted.rcv.queued = [] ∧
    (notReplayable acquitted).length ≠ 1 ∧ (recentNoConv acquitted).length < 2) ∧
  (replays.rcv.step = 6 ∧ replays.rcv.replayAt + param replays 0x5015 1000 * 1000000 ≤ replays.now ∧
    replayQueue replays = some 5 ∧
    replays.rcv.suspects.find? (fun y => decide (y.queue = 5)) = some { ctx := 5, queue := 5, acc := 0 } ∧
    replays.rcv.queued = [] ∧ (ctxOf replays 5).st = .live) := by decide

theorem witness_TimeoutsAndExportAct :
  (Tables.wf timedOut = true ∧ (tget none timedOut.txn.tags 3).map Tag.txn = some 7 ∧ (txnOf timedOut 7).isSome = true ∧
    param timedOut 0x5011 2000 * 1000 ≤ ((tget none timedOut.txn.tags 3).map Tag.run).getD 0) ∧
  ((booting 0 true false).pwr.stage = 0 ∧ (booting 0 true false).pwr.romRuns = true) ∧
  (mcRuns unkicked = true ∧ unkicked.pwr.parked = false ∧ unkicked.pwr.stage ≠ 0 ∧
    unkicked.pwr.mcAt + unkicked.pwr.mcPeriod.toNat * 1000000 ≤ unkicked.now ∧ mcAwake unkicked = true) ∧
  (hostReady exporting = true ∧ exporting.rcv.exBusy = false ∧ domOn exporting dMEM = true ∧
    (ctxOf exporting exporting.rcv.exCtx.toNat).st = .live ∧
    (moOf exporting exporting.rcv.exObj.toNat).ctx = exporting.rcv.exCtx.toNat ∧
    (moOf exporting exporting.rcv.exObj.toNat).host = true ∧ moWritable (moOf exporting exporting.rcv.exObj.toNat) = true ∧
    0x800000 ≤ (moOf exporting exporting.rcv.exObj.toNat).size) ∧
  (hostReady idle = true ∧ (ctxOf idle 0).st ≠ .live ∧ (ctxOf idle 0).st ≠ .aborted) := by decide

theorem witness_DictionaryRequestsAct_1 :
  (dictServed onBus = true ∧ onBus.dict.onBus = true ∧ onBus.dict.busOff = false ∧ nodeId onBus = 9 ∧ onBus.dict.wait = none ∧
    onBus.dict.later = [] ∧ 8 ≤ readReq.length ∧ byteAt readReq 0 = 1 ∧ bitsAt readReq 5 2 6 = 0 ∧ bitsAt readReq 5 0 2 ≠ 3 ∧
    leAt readReq 6 2 = 0 ∧
    (catFind (leAt readReq 2 2) (byteAt readReq 4)).map (fun x => (x.1.index, x.2)) = some (0x5010, false) ∧
    (catFind (leAt readReq 2 2) (byteAt readReq 4)).map (fun x => x.1.acc) ≠ some .wo ∧
    ((catFind (leAt readReq 2 2) (byteAt readReq 4)).map (fun x => objectValue (heard onBus) x.1 0)) = some [50, 0, 0, 0]) ∧
  (dictServed onBus = true ∧ onBus.dict.onBus = true ∧ onBus.dict.busOff = false ∧ nodeId onBus = 9 ∧ onBus.dict.wait = none ∧
    onBus.dict.later = [] ∧ 8 ≤ segReq.length ∧ byteAt segReq 0 = 3 ∧ onBus.dict.xfer = none ∧ 4 ≤ onBus.cvu.length ∧
    writeOpen (leAt segReq 2 2) (byteAt segReq 4) (bitsAt segReq 5 0 2) (leAt segReq 6 2) onBus = (0, 0)) ∧
  (dictServed opened = true ∧ opened.dict.onBus = true ∧ opened.dict.busOff = false ∧ nodeId opened = 9 ∧
    opened.dict.wait = none ∧ opened.dict.later = [] ∧ opened.dict.xfer = some xfers ∧ xfers.full = false ∧
    byteAt [1, 0x77, 4, 5] 1 = xfers.client ∧ bitsAt [1, 0x77, 4, 5] 0 0 4 = xfers.k % 16 ∧
    bitsAt [1, 0x77, 4, 5] 0 4 1 = 0) ∧
  (opened.dict.xfer = some xfers ∧ bitsAt [0x11, 0x77, 4, 5] 0 0 4 = xfers.k % 16 ∧ bitsAt [0x11, 0x77, 4, 5] 0 4 1 = 1 ∧
    xfers.data.length + 2 < xfers.len + trailerLen opened xfers.index xfers.priv + 4) := by decide

/-- The form of a WRITE that `s` may take up. -/
def writable (s : State) (r : Bytes) : Bool :=
  dictServed s && s.dict.onBus && !s.dict.busOff && decide (nodeId s = 9) && decide (s.dict.wait = none) && s.dict.later.isEmpty &&
    decide (byteAt r 0 = 2) && decide (bitsAt r 5 2 6 = 0) && decide (bitsAt r 5 0 2 ≠ 3) &&
    decide (leAt r 6 2 + trailerLen s (leAt r 2 2) (bitsAt r 5 0 2) ≤ 56) &&
    decide (r.length = 8 + leAt r 6 2 + trailerLen s (leAt r 2 2) (bitsAt r 5 0 2))

/-- A write of the chassis key (15 R386). -/
def chassisReq : Bytes := req 2 0x77 0x6010 0 0 32 (List.replicate 32 3)

def noObject : Bytes := req 2 0x77 0x9999 0 0 1 [6]

/-- SEC is about to be gated. -/
def gated : State := { onBus with pwr := { onBus.pwr with defer := some (.state .p2, 5) } }

theorem witness_DictionaryRequestsAct_3 :
  (writable onBus noObject = true ∧ writeOpen (leAt noObject 2 2) (byteAt noObject 4) 0 1 onBus = (0x0B07, 0)) ∧
  (writable onBus setReq = true ∧ (writeOpen (leAt setReq 2 2) (byteAt setReq 4) 1 1 onBus).1 = 0 ∧
    authGate (leAt setReq 2 2) 1 onBus = .refused 0x0902 0) ∧
  (writable onBus chassisReq = true ∧ (writeOpen (leAt chassisReq 2 2) (byteAt chassisReq 4) 0 32 onBus).1 = 0 ∧
    authGate (leAt chassisReq 2 2) 0 onBus = .free ∧
    (writeValue 0x6010 0 (List.replicate 32 3) (useChallenge 0 (drawn (heard onBus)))).1 = some 0) ∧
  (writable gated chassisReq = true ∧ (writeOpen (leAt chassisReq 2 2) (byteAt chassisReq 4) 0 32 gated).1 = 0 ∧
    authGate (leAt chassisReq 2 2) 0 gated = .free ∧
    (writeValue 0x6010 0 (List.replicate 32 3) (useChallenge 0 (drawn (heard gated)))).1 = some 0x0902) ∧
  (writable key9 setReq = true ∧ (writeOpen (leAt setReq 2 2) (byteAt setReq 4) 1 1 key9).1 = 0 ∧
    authGate (leAt setReq 2 2) 1 key9 = .verify ∧ key9.kh.run = []) := by decide

/-- Routing Source written with counter 1 and its MAC, or with another. -/
def macOf : Bytes := (hmac256 (keyBytes 5) (macBytes 9 2 0x2410 0 1 1 [] [1])).take 8

def keyedWith (mac : Bytes) : KeyedWrite := { w := busWrite setReq, node := 9, priv := 1, value := [1], trailer := leBytes 4 1 ++ mac, chal := [] }

theorem witness_DictionaryRequestsAct_4 :
  key9.kh.chassis = some 5 ∧ macOf = sliceB (keyedWith macOf).trailer 4 8 ∧ key9.vb.auth.toNat < leAt (keyedWith macOf).trailer 0 4 ∧
    macOf ≠ sliceB (keyedWith (List.replicate 8 0)).trailer 4 8 ∧
    leAt (keyedWith macOf).trailer 0 4 ≤ ({ key9 with vb := { key9.vb with auth := 1 } } : State).vb.auth.toNat := by decide

/-- A segmented write of one byte to Weekday, and its last segment: the byte and the CRC-32C of 15 R394. -/
def segXf : SegXfer := { index := 0x4002, sub := 0, client := 0x77, priv := 0, len := 1, data := [], k := 0, since := 0 }

def lastSeg : Bytes := [0x10, 0x77, 6, 119, 15, 196, 22]

def atLast : State := { onBus with
  cvu := onBus.cvu.take 3 ++ [(cvuOf onBus 3).stream 3 0x4002 0], dict := { onBus.dict with xfer := some segXf } }

theorem witness_DictionaryRequestsAct_5 :
  (dictServed atLast = true ∧ atLast.dict.onBus = true ∧ atLast.dict.busOff = false ∧ nodeId atLast = 9 ∧
    atLast.dict.wait = none ∧ atLast.dict.later = []) ∧
  atLast.dict.xfer = some segXf ∧ segXf.full = false ∧ bitsAt lastSeg 0 0 4 = segXf.k % 16 ∧ bitsAt lastSeg 0 4 1 = 1 ∧
  (segXf.data ++ (lastSeg.drop 2).take (segTotal segXf atLast - segXf.data.length)).length = segTotal segXf atLast ∧
  (streamCheck (streamFeed (lastSeg.drop 2) { heard atLast with dict.xfer := some { segXf with
    since := atLast.now, data := lastSeg.drop 2, k := 1, full := true } })).1 = true := by decide

theorem witness_DictionaryRequestsAct_2 :
  (dictServed opened = true ∧ opened.dict.onBus = true ∧ opened.dict.busOff = false ∧ nodeId opened = 9 ∧
    opened.dict.wait = none ∧ opened.dict.later = [] ∧ 8 ≤ abortReq.length ∧ byteAt abortReq 0 = 4 ∧ bitsAt abortReq 5 2 6 = 0 ∧
    bitsAt abortReq 5 0 2 ≠ 3 ∧ opened.dict.xfer = some xfers ∧ byteAt abortReq 1 = xfers.client) ∧
  (({ xfers with priv := 2 } : SegXfer).priv = 2) ∧
  (opened.dict.xfer = some xfers ∧ xfers.full = false ∧ dictServed opened = true ∧
    xfers.since + param opened 0x1027 500 * 1000000 ≤ opened.now) ∧
  (hostReady mailed = true ∧ mcAwake mailed = true ∧ mailed.dict.wait = none ∧ mailed.dict.later = [] ∧ mailed.dict.mbxBusy = false ∧
    rwStraddles ⟨0, [1, 0, 0, 0]⟩ 4 = false ∧ (rwOnes ⟨0, [1, 0, 0, 0]⟩ 4).testBit 0 = true ∧
    byteAt mailed.dict.mbxReq 0 = 1 ∧ bitsAt mailed.dict.mbxReq 5 2 6 = 0 ∧ bitsAt mailed.dict.mbxReq 5 0 2 ≠ 3 ∧
    leAt mailed.dict.mbxReq 2 2 = 0x5010 ∧ leAt mailed.dict.mbxReq 6 2 = 0) := by decide

/-- The node's heartbeat period has passed, and the node has been off the bus for 1,408 µs. -/
def beatDue : State := { onBus with now := 1000000000 }

def offBus : State := { onBus with now := 1408000, dict := { onBus.dict with busOff := true } }

theorem witness_FieldBusNodeActs :
  (dictServed onBus = true ∧ onBus.dict.onBus = true ∧ onBus.dict.busOff = false ∧ nodeId onBus = 9 ∧ byteAt [1] 0 = 1) ∧
  (dictServed beatDue = true ∧ beatDue.dict.onBus = true ∧ beatDue.dict.busOff = false ∧ nodeId beatDue = 9 ∧
    param beatDue 0x1023 1000 ≠ 0 ∧ beatDue.dict.hbAt + param beatDue 0x1023 1000 * 1000000 ≤ beatDue.now) ∧
  (onBus.dict.onBus = true ∧ onBus.dict.busOff = false ∧ 4 ≤ onBus.dict.bus.length) ∧
  (offBus.dict.busOff = true ∧ offBus.dict.busOffAt + 1408000 ≤ offBus.now) ∧
  (dictServed idle = true ∧ domOn idle dSEC = true ∧ idle.kh.rngOk = true) := by decide

theorem witness_DictionaryObjectsAct_3 :
  (Tables.wf idle = true ∧ dictServed idle = true ∧ (1#8).toNat ≤ 3 ∧ mcRuns idle = true ∧ idle.pwr.busy = false ∧
    idle.pwr.moving = false ∧ pstateOf (1#8).toNat ≠ .p0 ∧ idle.pwr.cur = .p0 ∧ idle.pwr.stage = 5 ∧ idle.hif.loss = .idle ∧
    lowBlocked (pstateOf (1#8).toNat) idle = false ∧ isGating (stateDoms (pstateOf (1#8).toNat) idle) idle = false) ∧
  (Tables.wf journalled = true ∧ dictServed journalled = true ∧ autoMode journalled = false ∧
    (journalWrite 0x2400 0 (leBytes 1 0x21) journalled).1 = 0) ∧
  (dictServed idle = true ∧ table.length = 1024 ∧ loadedBad idle table = false) ∧
  ((1#8).toNat ≤ 2 ∧ (1#8).toNat ≠ pairRole journalled ∧ journalled.pair.st = .unbound ∧
    (journalWrite 0x2420 0 (leBytes 1 1) journalled).1 = 0) ∧
  (Tables.wf (paired 1 .paired id) = true ∧ dictServed (paired 1 .paired id) = true ∧ (0#8).toNat ≠ pairRole (paired 1 .paired id) ∧
    (paired 1 .paired id).pair.st = .paired) := by decide

theorem witness_DictionaryObjectsAct_4 :
  (Tables.wf idle = true ∧ dictServed idle = true ∧ idle.hif.loss = .idle) ∧
  (Tables.wf ({ idle with rcv := { idle.rcv with oos := true, resets := [3] } } : State) = true ∧
    dictServed ({ idle with rcv := { idle.rcv with oos := true, resets := [3] } } : State) = true) ∧
  ((2#8).toNat ≤ 3 ∧ (2#8).toNat ≠ bitsAt (imageHeader idle idle.pwr.bank) 5 0 2 ∧
    idle.flash.revoked ||| BitVec.ofNat 4 (2 ^ (2#8).toNat) ≠ 15) ∧
  keyServes idle false = true := by decide

theorem witness_DictionaryObjectsAct_5 :
  ((calBytes { year := 2024, month := 2, day := 29 }).length = 10 ∧
    timeOk (calBytes { year := 2024, month := 2, day := 29 }) = true ∧ idle.rtc.locked = false) ∧
  ((0xFFFF8001#32 ≠ 0) ∧ (0xFFFF8001#32).toInt.natAbs ≤ 32767 ∧ idle.rtc.locked = false ∧ shiftPend idle.rtc = false) ∧
  (Tables.wf ({ idle with rtc := { idle.rtc with locked := true } } : State) = true ∧
    dictServed ({ idle with rtc := { idle.rtc with locked := true } } : State) = true ∧
    ({ idle with rtc := { idle.rtc with locked := true } } : State).rtc.locked = true) := by decide

theorem witness_FirmwareObjectsAct_1 :
  (Tables.wf (onTrial true) = true ∧ dictServed (onTrial true) = true ∧ (onTrial true).pwr.trial = true ∧ (onTrial true).flash.upd = none) ∧
  (Tables.wf (onTrial false) = true ∧ dictServed (onTrial false) = true ∧ (onTrial false).pwr.trial = false ∧
    (onTrial false).flash.upd = none ∧ (onTrial false).flash.busy = false) ∧
  (Tables.wf (verifying 1) = true ∧ dictServed (verifying 1) = true ∧ (verifying 1).flash.upd = some (.verifying 1) ∧
    verifyImage (verifying 1) (otherBank (verifying 1)) = false) ∧
  (Tables.wf updating = true ∧ dictServed updating = true ∧ updating.flash.upd = none ∧ (List.replicate 4096 (7#8)).length = 4096 ∧
    updating.flash.updOpen = true ∧ updating.flash.updOff.toNat % 4096 = 0 ∧ updating.flash.updOff.toNat < 0x1800000 ∧
    blankB (flashRead updating (otherBank updating) updating.flash.updOff.toNat 4096) = true) := by decide

theorem witness_FirmwareObjectsAct_2 :
  ({ idle with dict := { idle.dict with val := [(0x501000, [7, 0])] } } : State).pwr.trial = false := by decide

theorem witness_StepRunsFrontCommand :
  ({ idle with pending := [.bar2Read, .capture] } : State).pending = .bar2Read :: [.capture] := by decide

theorem witness_EmptyQueueTicks :
  idle.pending = [] ∧ idle.kh.run = [] ∧ idle.dict.later = [] ∧ idle.dict.keyed = none ∧ idle.pwr.held = false ∧
    idle.flash.upd = none ∧ domOn idle dHOST = true ∧ idle.pwr.clkLost.getLsbD 0 = false ∧
    domOn ({ idle with pwr := { idle.pwr with on := 0x3FE } } : State) dHOST = false := by decide

theorem witness_ExactTransportIsExact :
  image.length = 64 ∧ slotFit image = true := by decide

theorem witness_Bec12LossBound :
  (List.replicate 16 0x3C00).length = 16 ∧ (∀ v ∈ List.replicate 16 0x3C00, v < 65536) ∧
    (∀ v ∈ List.replicate 16 0x3C00, expOf v ≠ 31) := by decide

/-! ### Memory and the frames -/

/-- A command runs. -/
def runs (s : State) (i : Instr) : Bool :=
  match exec i s with
  | .next _ => true
  | _ => false

def framed0 : List Instr := [
  .registerWrite .bar4 0 [], .rcCounterRead .bar4 0 0, .bar0OffDomainAccess 0 0 none, .bar2Read, .descriptorAdmit 0, .decodeFailureEnd 0,
  .descriptorIssue 0 0, .matmul 0 0, .exaRead 0 0, .vec 0 0, .move 0 0 [], .send 0 0,
  .recv 0 0, .reduce 0 0, .reduceRootComplete 0 0, .waitEvent 0 0, .signalEvent 0 0, .halt 0 0,
  .descriptorSignalSend 0 0 0, .tokenArrival 0, .creditReturn 0, .ctxCreate { id := 0 } 0, .ctxDestroy { id := 0 }, .contextFree 0]

def framed1 : List Instr := [
  .ctxAbort { id := 0 }, .ctxRestart { id := 0 }, .qCreate { id := 0 }, .qDestroy { id := 0 }, .qStop { id := 0 }, .qStart { id := 0 },
  .memCreate { id := 0 }, .memDestroy { id := 0 }, .memFreeze { id := 0 } [], .memVerify { id := 0 } [], .evCreate { id := 0 }, .evDestroy { id := 0 },
  .evAdd { id := 0 }, .evSet { id := 0 }, .evArm { id := 0 }, .submissionDoorbell 0 [], .completionDoorbell 0 [], .nop 0 [],
  .run 0 [], .signal 0 [], .quadrantAcquire, .ownerChangeScrubDone 0, .jobStart 0 [], .jobComplete 0]

def framed2 : List Instr := [
  .errorRecordAccept 0, .erqBaseWrite ⟨0, []⟩, .erqHeadWrite ⟨0, []⟩, .erqEnable ⟨0, []⟩, .hbGo, .biasChangeDone,
  .hostAccessRefused (.write 0) 0 [], .depositArm 0 ⟨0, []⟩, .depositDisarm 0 ⟨0, []⟩, .depositDrainDone 0, .depositWrite 0 [] 0 false, .depositFlag 0 [] 0,
  .depositFlagApply 0, .declare 0 0 0, .release 0, .claim 0 0 false 0, .discard 0, .hostLossTrigger 0,
  .bivouacSealDone, .qpCreate { id := 0 }, .qpDestroy { id := 0 }, .qpFail { id := 0 }, .qpRecover { id := 0 }, .mrReg { id := 0 }]

def framed3 : List Instr := [
  .mrDereg { id := 0 }, .ethFrameReceive 0 ⟨64, .other⟩, .pfcPauseReceived 0, .roceInboundPacket 0, .rocePacketLanded 0, .roceWritePost 0 [],
  .roceAckReceived 0, .roceNakReceived 0 [], .roceAckTimeout 0 [], .roceCnpReceived 0, .roceRateIncrease 0, .ethLinkDown 0,
  .fecBlockReceive 0 [] [] [] [] 33, .linkFrameReceive 0, .linkFrameTransmit 0, .replayTimeout 0, .lossOfSignal 0 false, .nlkRetrain 0 ⟨0, []⟩,
  .nlkTrain 0 ⟨0, []⟩, .nlkEnable 0 ⟨0, []⟩, .nlkFlowWrite 0 ⟨0, []⟩, .trainingComplete 0 0 0 [] 0 [], .trainingTimeout 0, .retrainTimeout 0]

def framed4 : List Instr := [
  .autoTrain 0, .recalWindowStart 0, .recalWindowEnd 0, .recalPeriodEnd 0, .segmentSend 0, .load 0,
  .store 0, .copy 0, .atomicAdd 0, .atomicMin 0, .atomicMax 0, .atomicSwap 0,
  .atomicCas 0, .exaAdd 0, .exaRed 0, .reduceDone 0, .fence 0, .doneResponse 0,
  .dataResponse 0, .transitForward 0 false, .ntxLoad, .ntxStore, .ntxAtomic, .ntxFence]

def framed5 : List Instr := [
  .tagQuarantineEnd 0, .cairnSend 0, .cairnReceive 0, .cairnTimeout 0, .routeRecompute, .addressAssign,
  .addressConflict, .pairBind {} 0, .pairSyncDone, .mirrorHeartbeatSend, .heartbeat, .write,
  .region, .ckpt, .ack, .unbind, .heartbeatMiss, .ckGo,
  .unbindTimeout, .jkInstall 0 0 0, .jkErase 0 0, .chassisSet 0, .dbgChallenge false, .entropyHealthFail]

def framed6 : List Instr := [
  .jtagInstruction { op := 0 }, .cvuStart 0, .cvuFinish 0, .cvuFold 0 0, .cvuData8 0 0, .cvuData16 0 0,
  .cvuData32 0 0, .cvuPreset 0 ⟨0, []⟩, .cvuAlvTx 0, .cvuAlvRx 0 0, .openSlot 0 0, .sealDiscard 0 0,
  .sealRowLanded 0, .pcrDomreq false ⟨0, []⟩, .domainRequestResume, .pcrPstateReq false 0, .p1Enter, .pciPowerState false,
  .perstDeassert, .configRequest .other, .coldReset 0, .deviceCoreReset 0, .quadrantReset 0, .scrubLine 0 0]

def framed7 : List Instr := [
  .scrubForcedSlot 0 [], .telemetrySample ⟨[], [], [], [], 0, 0, 0⟩, .tileProgressWatchdog 0, .abseilDrainEnd, .abseilSampleDone, .abseilResetDone [],
  .soloReplayEnd, .soloReplayLimit, .abseilAbandon, .jobWatchdog 0, .linkTransactionTimeout 0, .mcWdogKick 0,
  .rcvExportGo, .stolegRead 0 [], .stolegWrite 0 [], .writeSeg 0 [], .segDown 0 [], .stolegAbort 0 [],
  .segmentTimeout, .identify 0 [], .stolegHeartbeatSend, .heartbeatReceive 0, .writeChallenge, .revokeSigningKey 0]

def framed8 : List Instr := [
  .updateBegin, .updateFinish, .updateAbort, .program false 0, .erase4K false 0, .erase64K false 0,
  .flashRead false 0, .blankCheck false 0, .flashCommandDone false, .capture, .rtcSet, .shift 0,
  .rtcTick, .setTime [], .subsecondShift 0, .currentTime, .mainPowerFail, .rtcUnlock,
  .pwrOkRise, .thermalTrip 0 0, .pmbusAlert [] 0, .trainingPatternsReceived 0 false, .ethLinkUp 0, .dataLinkLayerUp { rate := .gt32 }]

def framed9 : List Instr := [
  .hostCompletion 0, .hostSnoop 0, .busOff, .busOffRecovery, .vbatSupplyApplied, .vbatSupplyLoss]

/-- The commands that the frame statements name. -/
def framed : List Instr := framed0 ++ framed1 ++ framed2 ++ framed3 ++ framed4 ++ framed5 ++ framed6 ++ framed7 ++ framed8 ++ framed9

theorem witness_StoresKeepOtherBytes :
  (Memory.wf busy = true ∧ ¬storeCovers (moOf busy 2) 0x10 [1#8].length 0x8040 ∧
    storeCovers (moOf busy 2) 0x10 [1#8].length 0x803F ∧ ¬storeCovers (moOf busy 1) 0x10 [1#8].length 0x5011 ∧
    storeCovers (moOf busy 1) 0x10 [1#8].length 0x5010) ∧
  (Memory.wf (wire {} {} 1) = true ∧
    ((match takeHead 8 false (wire {} {} 1) with | .got b _ => decide (¬vaCovers (wire {} {} 1) (parseHdr b).dstCtx (parseHdr b).va (parseHdr b).dlen 0x500C ∧ vaCovers (wire {} {} 1) (parseHdr b).dstCtx (parseHdr b).va (parseHdr b).dlen 0x500B) | _ => false) = true)) ∧

  (Memory.wf (wire {} {} 4) = true ∧
    ((match takeHead 8 false (wire {} {} 4) with | .got b _ => decide (¬vaCovers (wire {} {} 4) (parseHdr b).dstCtx (parseHdr b).va 8 0x5010 ∧ vaCovers (wire {} {} 4) (parseHdr b).dstCtx (parseHdr b).va 8 0x500F) | _ => false) = true)) ∧

  (Memory.wf moveOut1 = true ∧
    (∀ r ∈ List.range (moveRows (slotOf moveOut1 23 2).desc), ∀ i ∈ List.range (moveLen (slotOf moveOut1 23 2).desc), ¬vaCovers moveOut1 ((tileOwner moveOut1 23).getD 0) (moveRemote (slotOf moveOut1 23 2).desc r) (moveLen (slotOf moveOut1 23 2).desc) 0x5FF0 ∧
    ¬vaCovers moveOut1 ((tileOwner moveOut1 23).getD 0) (moveRemote (slotOf moveOut1 23 2).desc r + i) 1 0x5FF0)) ∧
  (Memory.wf armed = true ∧
    ¬storeCovers (moOf armed (depOf armed (depOff / 0x4000000)).memobj.toNat) ((depOf armed (depOff / 0x4000000)).objOff.toNat + depOff % 0x4000000) 4 0x6FFB) := by decide

theorem witness_Frames :
  framed.all (runs idle) = true ∧ Tables.wf idle = true ∧ Units.wf idle = true ∧ Memory.wf idle = true := by decide

/-! ### The general statements -/

/-- A lane that has lost a finite contribution and taken 2^24 contributions. -/
def lostLane : Lane := { Lane.clear with cnt := 2 ^ 24, loss := true }

theorem witness_DepositRefused_2 :
  depOpen (depOf draining (4088 / 8)) 7 = false := by decide

theorem witness_FlashRefusesOwnBank_2 :
  mcAwake flashState = true ∧ flashState.flash.busy = false ∧ flashState.flash.addr.toNat % 65536 = 0 ∧
    1 ≤ flashState.flash.len.toNat ∧ flashState.flash.len.toNat ≤ 256 := by decide

theorem witness_FusesNeverClear :
  (match step { idle with pending := [.updateFinish] } with | .next _ => true | _ => false) = true := by decide

theorem witness_ObjectCommandFormChecked :
  hostReady busy = true ∧ busy.obj.busy = false ∧ ({ id := 0, rsvLo := 1 } : ObjCmd).rsvLo ≠ 0 := by decide

theorem witness_HostCouplingActs_4 :
  (let s := { idle with pwr := { idle.pwr with cxl := true, rate := some .gt64 } }; s.hif.loss = .idle ∧ s.pwr.cxl = true ∧ s.pwr.rate = some .gt64 ∧ (64 : Nat) % 64 = 0 ∧ (List.replicate 64 (0 : Byte)).length = 64 ∧ 48 % 64 + (List.replicate 16 (0 : Byte)).length ≤ 64) := by decide

theorem witness_FailedObjectCommandChangesNoObject :
  (match exec (.qStop { id := 9 }) busy with | .next t => t.obj.busy == false && decide (t.obj.code ≠ 0) | _ => false) = true := by decide

theorem witness_StepKeepsTables :
  (let s := { idle with pending := [.bar2Read] }; Tables.wf s && Units.wf s && (match step s with | .next _ => true | _ => false)) = true := by decide

theorem witness_CommandsLeaveTheQueue :
  (match step { idle with pending := [.bar2Read, .capture] } with | .next t => decide (t.pending = [.capture]) | _ => false) = true := by decide

theorem witness_LanesFailForGood :
  2 ^ 24 < lostLane.cnt.toNat + lostLane.cnt.toNat ∧ 2 ^ 24 < lostLane.cnt.toNat + 1 ∧ lostLane.failed true = true ∧
    lostLane.loss = true := by decide

theorem witness_PixelLosslessIsExact :
  byteAt [17] 0 > 16 ∧ ([1, 2, 3] : Bytes).length % 2 = 1 ∧ (∀ v ∈ [0, 65535], v < 65536) := by decide

end Sys2Proof.Tests
end

section
/-!
PROOF. What an addition does to the flags of an EXA lane (02 R36, R37, R39, R41). A failed lane is one with a failure flag set, and
both additions only ever set flags: each input's flags are among those of the result (`Lane.FlagsIn`), so a failure is kept and
carried along. What a product or a partial sum does to each flag is said once below.
-/
namespace Sys2Proof

/-- Every flag that can make the lane `a` failed is set in `b` too. -/
structure Lane.FlagsIn (a b : Lane) : Prop where
  ovf : a.ovf = true → b.ovf = true
  nonfin : a.nonfin = true → b.nonfin = true
  mism : a.mism = true → b.mism = true
  loss : a.loss = true → b.loss = true

theorem Lane.failed_iff (archive : Bool) (a : Lane) :
    a.failed archive = true ↔ a.ovf = true ∨ a.nonfin = true ∨ a.mism = true ∨ a.loss = true ∧ archive = true := by
  simp [Lane.failed, or_assoc]

/-- A lane is failed by its flags alone, and more flags never mend it. -/
theorem Lane.FlagsIn.failed {a b : Lane} (h : a.FlagsIn b) {archive : Bool} (ha : a.failed archive = true) :
    b.failed archive = true := by
  rw [Lane.failed_iff] at ha ⊢
  exact ha.imp h.ovf (Or.imp h.nonfin (Or.imp h.mism (And.imp_left h.loss)))

/-- The stored CNT saturates at 2^25 - 1, above the bound of R37, so the test sees every count that passes the bound. -/
theorem satCnt_gt_iff (n : Nat) : min n (2 ^ 25 - 1) > 2 ^ 24 ↔ 2 ^ 24 < n := by omega

@[simp] theorem addLane_ovf (a b : Lane) :
    (addLane a b).ovf = (a.ovf || b.ovf || decide (2 ^ 24 < a.cnt.toNat + b.cnt.toNat)) := by
  simp only [addLane, satCnt_gt_iff]

@[simp] theorem addLane_nonfin (a b : Lane) : (addLane a b).nonfin = (a.nonfin || b.nonfin) := rfl

@[simp] theorem addLane_loss (a b : Lane) : (addLane a b).loss = (a.loss || b.loss) := rfl

theorem addLane_mism_of_left (a b : Lane) (h : a.mism = true) : (addLane a b).mism = true := by
  simp [addLane, h]

theorem addLane_mism_of_right (a b : Lane) (h : b.mism = true) : (addLane a b).mism = true := by
  simp [addLane, h]

theorem flagsIn_addLane_left (a b : Lane) : a.FlagsIn (addLane a b) where
  ovf h := by simp [h]
  nonfin h := by simp [h]
  mism := addLane_mism_of_left a b
  loss h := by simp [h]

theorem flagsIn_addLane_right (a b : Lane) : b.FlagsIn (addLane a b) where
  ovf h := by simp [h]
  nonfin h := by simp [h]
  mism := addLane_mism_of_right a b
  loss h := by simp [h]

/-- OVF after a product: it was set, the count passes 2^24 (R37), or the product itself is too large (R36). -/
theorem addProduct_ovf (a : Lane) (neg : Bool) (m : Nat) (e : Int) :
    (addProduct a neg m e).ovf = (a.ovf || decide (2 ^ 24 < a.cnt.toNat + 1) ||
      (decide (m ≠ 0) && decide ((bitLen m : Int) - 1 + e ≥ a.weight + 231))) := by
  simp only [addProduct, satCnt_gt_iff]
  split
  next tooLarge => rw [tooLarge, Bool.or_true]
  next fits => rw [Bool.eq_false_of_not_eq_true fits, Bool.or_false]

@[simp] theorem addProduct_nonfin (a : Lane) (neg : Bool) (m : Nat) (e : Int) :
    (addProduct a neg m e).nonfin = a.nonfin := by
  simp only [addProduct]
  split <;> rfl

@[simp] theorem addProduct_mism (a : Lane) (neg : Bool) (m : Nat) (e : Int) : (addProduct a neg m e).mism = a.mism := by
  simp only [addProduct]
  split <;> rfl

theorem addProduct_loss_of_loss (a : Lane) (neg : Bool) (m : Nat) (e : Int) (h : a.loss = true) :
    (addProduct a neg m e).loss = true := by
  simp only [addProduct]
  split <;> simp [h]

theorem flagsIn_addProduct (a : Lane) (neg : Bool) (m : Nat) (e : Int) : a.FlagsIn (addProduct a neg m e) where
  ovf h := by simp [addProduct_ovf, h]
  nonfin h := by simp [h]
  mism h := by simp [h]
  loss := addProduct_loss_of_loss a neg m e

theorem addLane_overflows (a b : Lane) (h : 2 ^ 24 < a.cnt.toNat + b.cnt.toNat) : (addLane a b).ovf = true := by
  rw [addLane_ovf, decide_eq_true h, Bool.or_true]

theorem addProduct_overflows (a : Lane) (neg : Bool) (m : Nat) (e : Int) (h : 2 ^ 24 < a.cnt.toNat + 1) :
    (addProduct a neg m e).ovf = true := by
  rw [addProduct_ovf, decide_eq_true h, Bool.or_true, Bool.true_or]

/-- In Archive mode a partial with LOSS is itself failed, so it makes failed the lane that receives it (R41). -/
theorem addLane_failed_of_partial_loss (a b : Lane) (h : b.loss = true) : (addLane a b).failed true = true :=
  (flagsIn_addLane_right a b).failed ((b.failed_iff true).2 (.inr (.inr (.inr ⟨h, rfl⟩))))

/-- Settles O60: the counts are judged before they saturate, and both additions keep every flag of what they add. -/
theorem lanesFailForGood : Obligations.LanesFailForGood := by
  refine ⟨addLane_overflows, addProduct_overflows, fun a b archive ha => ⟨?_, ?_, ?_⟩, addLane_failed_of_partial_loss⟩
  · exact (flagsIn_addLane_left a b).failed ha
  · exact (flagsIn_addLane_right b a).failed ha
  · exact fun neg m e => (flagsIn_addProduct a neg m e).failed ha

end Sys2Proof
end

section
/-!
PROOF. Byte strings as numbers (00 R8): `leBytes` and `ofLe` undo each other, what a little-endian field of a concatenation reads,
and cutting a string into the pieces it was joined from.
-/
namespace Sys2Proof

/-! ## Little-endian bytes -/

@[simp] theorem leBytes_length (n x : Nat) : (leBytes n x).length = n := by
  induction n generalizing x with
  | zero => rfl
  | succ n ih => simp [leBytes, ih]

theorem leBytes_zero_eq_replicate (n : Nat) : leBytes n 0 = List.replicate n 0 := by
  induction n with
  | zero => rfl
  | succ n ih => simp [leBytes, ih, List.replicate_succ]

theorem ofLe_append (a b : Bytes) : ofLe (a ++ b) = 2 ^ (8 * a.length) * ofLe b + ofLe a := by
  induction a with
  | nil => simp [ofLe]
  | cons x a ih =>
    rw [List.cons_append, ofLe, ofLe, ih, List.length_cons, Nat.mul_succ, pow_add]
    ring

theorem ofLe_lt (b : Bytes) : ofLe b < 2 ^ (8 * b.length) := by
  induction b with
  | nil => simp [ofLe]
  | cons x b ih =>
    have hx : x.toNat < 256 := x.isLt
    rw [ofLe, List.length_cons, Nat.mul_succ, pow_add]
    omega

theorem ofLe_leBytes (n x : Nat) : ofLe (leBytes n x) = x % 2 ^ (8 * n) := by
  induction n generalizing x with
  | zero => simp [leBytes, ofLe, Nat.mod_one]
  | succ n ih =>
    rw [leBytes, ofLe, ih, BitVec.toNat_ofNat, Nat.mul_succ, Nat.add_comm (8 * n), pow_add, Nat.mod_mul]
    norm_num

theorem ofLe_leBytes_of_lt {n x : Nat} (h : x < 2 ^ (8 * n)) : ofLe (leBytes n x) = x := by
  rw [ofLe_leBytes, Nat.mod_eq_of_lt h]

theorem leBytes_ofLe (b : Bytes) : leBytes b.length (ofLe b) = b := by
  induction b with
  | nil => rfl
  | cons x b ih =>
    have hx : x.toNat < 256 := x.isLt
    have low : BitVec.ofNat 8 (x.toNat + 256 * ofLe b) = x := by
      apply BitVec.eq_of_toNat_eq
      rw [BitVec.toNat_ofNat]
      omega
    have high : (x.toNat + 256 * ofLe b) / 256 = ofLe b := by omega
    rw [List.length_cons, ofLe, leBytes, low, high, ih]

theorem eq_replicate_of_ofLe_eq_zero {b : Bytes} (h : ofLe b = 0) : b = List.replicate b.length 0 := by
  rw [← leBytes_zero_eq_replicate, ← h, leBytes_ofLe]

/-! ## Fields of a byte string -/

theorem sliceB_eq_take_drop {b : Bytes} {o n : Nat} (h : o + n ≤ b.length) : sliceB b o n = (b.drop o).take n := by
  have hlen : ((b.drop o).take n).length = n := by rw [List.length_take, List.length_drop]; omega
  simp [sliceB, hlen]

@[simp] theorem sliceB_length (b : Bytes) (o n : Nat) : (sliceB b o n).length = n := by
  simp [sliceB]

theorem leAt_lt (b : Bytes) (o n : Nat) : leAt b o n < 2 ^ (8 * n) := by
  simpa [leAt] using ofLe_lt (sliceB b o n)

@[simp] theorem leBytes_leAt (b : Bytes) (o n : Nat) : leBytes n (leAt b o n) = sliceB b o n := by
  simpa [leAt] using leBytes_ofLe (sliceB b o n)

/-- A field that lies behind the first part of a concatenation is a field of the rest. -/
theorem leAt_append_right (p q : Bytes) {o : Nat} (n : Nat) (h : p.length ≤ o) :
    leAt (p ++ q) o n = leAt q (o - p.length) n := by
  simp [leAt, sliceB, List.drop_append, List.drop_eq_nil_of_le h]

theorem leAt_leBytes_append {n x : Nat} (r : Bytes) (h : x < 2 ^ (8 * n)) : leAt (leBytes n x ++ r) 0 n = x := by
  rw [leAt, sliceB_eq_take_drop (by simp), List.drop_zero, List.take_left' (leBytes_length n x), ofLe_leBytes_of_lt h]

theorem bitsN_eq (x lo n : Nat) : bitsN x lo n = x / 2 ^ lo % 2 ^ n := by
  rw [bitsN, Nat.shiftRight_eq_div_pow]

theorem b2n_le_one (b : Bool) : b2n b ≤ 1 := by cases b <;> decide

/-! ## Cutting a string into the pieces it was joined from -/

theorem chunksN_flatten {α : Type} (n : Nat) (l : List (List α)) (h : ∀ c ∈ l, c.length = n) :
    chunksN n l.length l.flatten = l := by
  induction l with
  | nil => rfl
  | cons c l ih =>
    obtain ⟨hc, hl⟩ := List.forall_mem_cons.1 h
    rw [List.length_cons, List.flatten_cons, chunksN, List.take_left' hc, List.drop_left' hc, ih hl]

theorem flatten_length_of_forall {α : Type} (n : Nat) (l : List (List α)) (h : ∀ c ∈ l, c.length = n) :
    l.flatten.length = l.length * n := by
  rw [List.length_flatten, List.map_eq_replicate_iff.2 h, List.sum_replicate, smul_eq_mul]

theorem plSamples_flatMap_leBytes (x : List Nat) (h : ∀ v ∈ x, v < 65536) : plSamples (x.flatMap (leBytes 2)) = x := by
  have pairs : ∀ c ∈ x.map (leBytes 2), c.length = 2 := by simp
  have len := flatten_length_of_forall 2 (x.map (leBytes 2)) pairs
  have cut := chunksN_flatten 2 (x.map (leBytes 2)) pairs
  rw [List.flatMap_def, plSamples, len, Nat.mul_div_cancel _ two_pos, cut, List.map_map]
  exact (List.map_congr_left fun v hv => ofLe_leBytes_of_lt (h v hv)).trans x.map_id

end Sys2Proof
end

section
/-!
PROOF. Exact Transport (09 R242, R243). `etBytes` writes a record out of its fields and `etImage` the image that the fields stand
for: `etOne` reads the one and rebuilds the other whatever the fields are, and the encoder's record of a slot is `etBytes` of the
slot's own fields.
-/
namespace Sys2Proof
open Claims

/-! ## Records and images written out of their fields -/

/-- The limbs of `mask`, in ascending order. -/
def etPresent (mask : Nat) : List Nat := (List.range 8).filter mask.testBit

/-- A record as R242 lays it out, with the limbs `v`. -/
def etBytes (mask flags anchor loss : Nat) (sign lz : Bool) (v : Nat → Nat) : Bytes :=
  leBytes 1 mask ++ leBytes 1 (b2n sign + 2 * b2n lz) ++ leBytes 4 flags ++ leBytes 2 anchor ++
    (if lz then [] else leBytes 4 loss) ++ (etPresent mask).flatMap (fun k => leBytes 4 (v k))

/-- The 48 bytes of an image with the limbs `v`. -/
def etImage (flags anchor loss : Nat) (v : Nat → Nat) : Bytes :=
  (List.range 8).flatMap (fun k => leBytes 4 (v k)) ++ leBytes 4 loss ++ leBytes 4 flags ++ leBytes 2 anchor ++ leBytes 6 0

/-! ## The decoder -/

/-- The decoder's walk over limbs takes a present limb from the bytes and puts the fill for an absent one. -/
theorem etLimbs_flatMap (mask fill : Nat) (v : Nat → Nat) (r : Bytes) (n k : Nat) :
    etLimbs mask fill n k (((List.range' k n).filter mask.testBit).flatMap (fun k => leBytes 4 (v k)) ++ r) =
      some ((List.range' k n).flatMap (fun k => leBytes 4 (if mask.testBit k then v k else fill)), r) := by
  induction n generalizing k with
  | zero => rfl
  | succ n ih =>
    rw [List.range'_succ]
    cases present : mask.testBit k with
    | true =>
      have cut (p : Bytes) : (leBytes 4 (v k) ++ p).take 4 = leBytes 4 (v k) ∧ (leBytes 4 (v k) ++ p).drop 4 = p :=
        ⟨List.take_left' (by simp), List.drop_left' (by simp)⟩
      simp [etLimbs, present, cut, ih]
    | false => simp [etLimbs, present, ih]

/-- The head of a record reads as the fields it was written from. -/
theorem etBytes_head {mask flags anchor loss : Nat} {sign lz : Bool} {v : Nat → Nat} (r : Bytes) (hmask : mask < 256)
    (hflags : flags < 2 ^ 31) (hanchor : anchor < 1024) :
    let b := etBytes mask flags anchor loss sign lz v ++ r
    byteAt b 0 = mask ∧ byteAt b 1 = b2n sign + 2 * b2n lz ∧ leAt b 2 4 = flags ∧ leAt b 6 2 = anchor := by
  have hfill : b2n sign + 2 * b2n lz < 256 := by have := b2n_le_one sign; have := b2n_le_one lz; omega
  simp only [etBytes, byteAt, List.append_assoc]
  refine ⟨leAt_leBytes_append _ hmask, ?_, ?_, ?_⟩
  · rw [leAt_append_right _ _ 1 (by simp)]
    simpa using leAt_leBytes_append _ hfill
  · rw [leAt_append_right _ _ 4 (by simp), leAt_append_right _ _ 4 (by simp)]
    simpa using leAt_leBytes_append _ (by omega)
  · rw [leAt_append_right _ _ 2 (by simp), leAt_append_right _ _ 2 (by simp), leAt_append_right _ _ 2 (by simp)]
    simpa using leAt_leBytes_append _ (by omega)

theorem etBytes_drop_head (mask flags anchor loss : Nat) (sign lz : Bool) (v : Nat → Nat) (r : Bytes) :
    (etBytes mask flags anchor loss sign lz v ++ r).drop 8 =
      (if lz then [] else leBytes 4 loss) ++ ((etPresent mask).flatMap (fun k => leBytes 4 (v k)) ++ r) := by
  have head : (leBytes 1 mask ++ leBytes 1 (b2n sign + 2 * b2n lz) ++ leBytes 4 flags ++ leBytes 2 anchor).length = 8 := by simp
  rw [etBytes, List.append_assoc, List.append_assoc, List.drop_left' head]

theorem testBit_fill (sign lz : Bool) :
    (b2n sign + 2 * b2n lz).testBit 0 = sign ∧ (b2n sign + 2 * b2n lz).testBit 1 = lz ∧ (b2n sign + 2 * b2n lz) / 4 = 0 := by
  cases sign <;> cases lz <;> decide

theorem etLimbs_present (mask fill : Nat) (v : Nat → Nat) (r : Bytes) :
    etLimbs mask fill 8 0 ((etPresent mask).flatMap (fun k => leBytes 4 (v k)) ++ r) =
      some ((List.range 8).flatMap (fun k => leBytes 4 (if mask.testBit k then v k else fill)), r) := by
  rw [etPresent, List.range_eq_range']
  exact etLimbs_flatMap mask fill v r 8 0

/-- The decoder takes a record of any MASK and SIGN, and absent limbs are the fill (R243). -/
theorem etOne_etBytes {mask flags anchor loss : Nat} (sign lz : Bool) (v : Nat → Nat) (r : Bytes) (hmask : mask < 256)
    (hflags : flags < 2 ^ 31) (hclass : flags / 2 ^ 29 ≠ 3) (hanchor : anchor < 1024) (hloss : loss < 2 ^ 32) :
    etOne (etBytes mask flags anchor loss sign lz v ++ r) =
      some (etImage flags anchor (if lz then 0 else loss) (fun k => if mask.testBit k then v k else fillOf sign), r) := by
  obtain ⟨readMask, readFill, readFlags, readAnchor⟩ := etBytes_head (loss := loss) (sign := sign) (lz := lz) (v := v) r
    hmask hflags hanchor
  obtain ⟨bitSign, bitLz, noReserved⟩ := testBit_fill sign lz
  have class_ok : bitsN flags 29 2 ≠ 3 := by rw [bitsN_eq]; omega
  have flags_ok : bitsN flags 31 1 = 0 := by rw [bitsN_eq]; omega
  have anchor_ok : bitsN anchor 10 6 = 0 := by rw [bitsN_eq]; omega
  have long : ¬ (etBytes mask flags anchor loss sign lz v ++ r).length < 8 := by simp [etBytes]; omega
  simp only [etOne, long, readMask, readFill, readFlags, readAnchor, etBytes_drop_head, bitSign, bitLz, noReserved, class_ok,
    flags_ok, anchor_ok]
  cases lz with
  | true => simp [etLimbs_present, etImage, fillOf]
  | false =>
    have loss_read (p : Bytes) : leAt (leBytes 4 loss ++ p) 0 4 = loss := leAt_leBytes_append p hloss
    have loss_drop (p : Bytes) : (leBytes 4 loss ++ p).drop 4 = p := List.drop_left' (by simp)
    simp [etLimbs_present, etImage, fillOf, loss_read, loss_drop]

/-! ## The encoder -/

/-- MASK of the encoder's record: the limbs that differ from the fill. -/
def etMask (b : Bytes) : Nat :=
  (((List.range 8).filter (fun k => decide (limbOf b k ≠ fillOf (imageSign b)))).map (2 ^ ·)).sum

/-- A sum of different powers of 2 has the bits of the powers summed. -/
theorem sum_two_pow_filter (p : Nat → Bool) (n : Nat) :
    (((List.range n).filter p).map (2 ^ ·)).sum < 2 ^ n ∧
      ∀ k, k < n → (((List.range n).filter p).map (2 ^ ·)).sum.testBit k = p k := by
  induction n with
  | zero => simp
  | succ n ih =>
    obtain ⟨small, bits⟩ := ih
    rw [List.range_succ, List.filter_append, List.map_append, List.sum_append]
    cases top : p n with
    | false =>
      simp only [List.filter_singleton, top, cond_false, List.map_nil, List.sum_nil, Nat.add_zero]
      refine ⟨small.trans (by rw [pow_succ]; omega), fun k hk => ?_⟩
      rcases Nat.lt_succ_iff_lt_or_eq.1 hk with below | rfl
      · exact bits k below
      · rw [top, Nat.testBit_lt_two_pow small]
    | true =>
      simp only [List.filter_singleton, top, cond_true, List.map_cons, List.map_nil, List.sum_cons, List.sum_nil, Nat.add_zero,
        Nat.add_comm _ (2 ^ n)]
      refine ⟨by rw [pow_succ]; omega, fun k hk => ?_⟩
      rcases Nat.lt_succ_iff_lt_or_eq.1 hk with below | rfl
      · rw [Nat.testBit_two_pow_add_gt below, bits k below]
      · rw [Nat.testBit_two_pow_add_eq, Nat.testBit_lt_two_pow small, top]; rfl

theorem etMask_lt (b : Bytes) : etMask b < 256 := (sum_two_pow_filter _ 8).1

theorem testBit_etMask (b : Bytes) {k : Nat} (hk : k < 8) :
    (etMask b).testBit k = decide (limbOf b k ≠ fillOf (imageSign b)) := (sum_two_pow_filter _ 8).2 k hk

theorem etPresent_etMask (b : Bytes) :
    etPresent (etMask b) = (List.range 8).filter (fun k => decide (limbOf b k ≠ fillOf (imageSign b))) :=
  List.filter_congr fun _ hk => testBit_etMask b (List.mem_range.1 hk)

/-- The encoder reads the sign of N from the top bit of its last byte. -/
theorem imageSign_eq {b : Bytes} (hb : b.length = 64) : imageSign b = decide (bitsN (leAt b 31 1) 7 1 = 1) := by
  have split : b.take 32 = b.take 31 ++ sliceB b 31 1 := by
    rw [sliceB_eq_take_drop (by omega), ← List.take_add]
  have low := ofLe_lt (b.take 31)
  have len : (b.take 31).length = 31 := by simp [hb]
  rw [len] at low
  rw [imageSign, split, ofLe_append, len, Nat.testBit_two_pow_mul_add _ low, if_neg (by omega),
    Nat.testBit_eq_decide_div_mod_eq, bitsN_eq]
  rfl

theorem etRecord_eq_etBytes {b : Bytes} (hb : b.length = 64) :
    etRecord b = etBytes (etMask b) (leAt b 36 4) (leAt b 40 2) (leAt b 32 4) (imageSign b) (decide (leAt b 32 4 = 0))
      (limbOf b) := by
  rw [etBytes, etPresent_etMask]
  simp only [etRecord, ← imageSign_eq hb, etMask, limbOf, fillOf, leBytes_leAt, decide_eq_true_eq, List.filter_map, List.map_map,
    List.flatMap_map]
  rfl

theorem etBytes_length (mask flags anchor loss : Nat) (sign lz : Bool) (v : Nat → Nat) :
    (etBytes mask flags anchor loss sign lz v).length = 8 + (if lz then 0 else 4) + 4 * (etPresent mask).length := by
  cases lz <;> simp [etBytes, Nat.mul_comm] <;> omega

/-- The limbs of an image, written out again, are the bytes of N. -/
theorem flatMap_limbOf {b : Bytes} {n : Nat} (h : 4 * n ≤ b.length) :
    (List.range n).flatMap (fun k => leBytes 4 (limbOf b k)) = b.take (4 * n) := by
  induction n with
  | zero => rfl
  | succ n ih =>
    rw [List.range_succ, List.flatMap_append, ih (by omega), List.flatMap_singleton, limbOf, leBytes_leAt,
      sliceB_eq_take_drop (by omega), ← List.take_add, Nat.mul_succ]

/-! ## A slot that may be sent -/

/-- What R244 asks of a slot, read as numbers. -/
theorem slotFit_iff (b : Bytes) :
    slotFit b = true ↔ leAt b 42 6 = 0 ∧ ofLe (sliceB b 48 16) = 0 ∧ leAt b 36 4 < 2 ^ 31 ∧ leAt b 36 4 / 2 ^ 29 ≠ 3 ∧
      leAt b 40 2 < 1024 := by
  have := leAt_lt b 36 4
  have := leAt_lt b 40 2
  simp only [slotFit, bitsN_eq, Bool.and_eq_true, decide_eq_true_eq]
  omega

/-- The image of a slot that may be sent is rebuilt from its fields. -/
theorem etImage_fields {b : Bytes} (hb : b.length = 64) (pad : leAt b 42 6 = 0) :
    etImage (leAt b 36 4) (leAt b 40 2) (leAt b 32 4) (limbOf b) = b.take 48 := by
  have zeros : leBytes 6 0 = sliceB b 42 6 := by rw [← leBytes_leAt, pad]
  rw [etImage, zeros, flatMap_limbOf (by omega)]
  simp only [leBytes_leAt]
  rw [sliceB_eq_take_drop (by omega), sliceB_eq_take_drop (by omega), sliceB_eq_take_drop (by omega),
    sliceB_eq_take_drop (by omega), ← List.take_add, ← List.take_add, ← List.take_add, ← List.take_add]

/-- Decoding the encoder's record gives the image back: a limb is either present or equal to the fill. -/
theorem etOne_etRecord {b : Bytes} (hb : b.length = 64) (fit : slotFit b = true) (r : Bytes) :
    etOne (etRecord b ++ r) = some (b.take 48, r) := by
  obtain ⟨pad, -, hflags, hclass, hanchor⟩ := (slotFit_iff b).1 fit
  have loss : (if decide (leAt b 32 4 = 0) = true then 0 else leAt b 32 4) = leAt b 32 4 := by
    by_cases h : leAt b 32 4 = 0 <;> simp [h]
  have limbs : ∀ k ∈ List.range 8, leBytes 4 (if (etMask b).testBit k then limbOf b k else fillOf (imageSign b)) =
      leBytes 4 (limbOf b k) := by
    intro k hk
    rw [testBit_etMask b (List.mem_range.1 hk)]
    by_cases absent : limbOf b k = fillOf (imageSign b) <;> simp [absent]
  rw [etRecord_eq_etBytes hb, etOne_etBytes _ _ _ _ (etMask_lt b) hflags hclass hanchor (leAt_lt b 32 4), loss,
    ← etImage_fields hb pad, etImage, etImage, List.flatMap_congr limbs]

/-- The fields of the encoder's record (R243). -/
theorem etRecord_fields {b : Bytes} (hb : b.length = 64) (fit : slotFit b = true) :
    byteAt (etRecord b) 1 = b2n (imageSign b) + 2 * b2n (decide (leAt b 32 4 = 0)) ∧
    (∀ k, k < 8 → (byteAt (etRecord b) 0).testBit k = decide (limbOf b k ≠ fillOf (imageSign b))) ∧
    (etRecord b).length = 8 + (if leAt b 32 4 = 0 then 0 else 4) +
      4 * ((List.range 8).filter (fun k => decide (limbOf b k ≠ fillOf (imageSign b)))).length := by
  obtain ⟨-, -, hflags, -, hanchor⟩ := (slotFit_iff b).1 fit
  have head := etBytes_head (loss := leAt b 32 4) (sign := imageSign b) (lz := decide (leAt b 32 4 = 0)) (v := limbOf b) []
    (etMask_lt b) hflags hanchor
  rw [List.append_nil, ← etRecord_eq_etBytes hb] at head
  obtain ⟨readMask, readFill, -, -⟩ := head
  refine ⟨readFill, fun k hk => ?_, ?_⟩
  · rw [readMask, testBit_etMask b hk]
  · rw [etRecord_eq_etBytes hb, etBytes_length, etPresent_etMask]
    simp only [decide_eq_true_eq]

/-! ## Segments of slots -/

/-- The bytes behind the image of a slot that may be sent are 0. -/
theorem drop_image {b : Bytes} (hb : b.length = 64) (fit : slotFit b = true) : b.drop 48 = List.replicate 16 0 := by
  obtain ⟨-, tail, -⟩ := (slotFit_iff b).1 fit
  have zeros := eq_replicate_of_ofLe_eq_zero tail
  rwa [sliceB_length, sliceB_eq_take_drop (by omega), List.take_of_length_le (by simp [hb])] at zeros

theorem etMany_flatMap_etRecord (slots : List Bytes) (h : ∀ b ∈ slots, b.length = 64 ∧ slotFit b = true) :
    etMany slots.length (slots.flatMap etRecord) = some (slots.map (·.take 48)) := by
  induction slots with
  | nil => rfl
  | cons b slots ih =>
    obtain ⟨⟨hb, fit⟩, rest⟩ := List.forall_mem_cons.1 h
    simp [etMany, etOne_etRecord hb fit, ih rest]

/-- Each slot is its image followed by 16 bytes 0. -/
theorem flatMap_image_eq_flatten (slots : List Bytes) (h : ∀ b ∈ slots, b.length = 64 ∧ slotFit b = true) :
    (slots.map (·.take 48)).flatMap (fun i => i ++ leBytes 16 0) = slots.flatten := by
  rw [List.flatMap_map, ← List.flatMap_id']
  refine List.flatMap_congr fun b hb => ?_
  rw [leBytes_zero_eq_replicate, ← drop_image (h b hb).1 (h b hb).2, List.take_append_drop]

theorem encodeSeg_slots (slots : List Bytes) (h : ∀ b ∈ slots, b.length = 64 ∧ slotFit b = true) :
    encodeSeg 1 slots.flatten = some (slots.flatMap etRecord) := by
  have sizes : ∀ b ∈ slots, b.length = 64 := fun b hb => (h b hb).1
  have fits : slots.all slotFit = true := List.all_eq_true.2 fun b hb => (h b hb).2
  have len := flatten_length_of_forall 64 slots sizes
  simp [encodeSeg, len, chunksN_flatten 64 slots sizes, fits]

theorem decodeSeg_slots (slots : List Bytes) (h : ∀ b ∈ slots, b.length = 64 ∧ slotFit b = true) :
    decodeSeg 1 slots.flatten.length (slots.flatMap etRecord) = some slots.flatten := by
  have len := flatten_length_of_forall 64 slots fun b hb => (h b hb).1
  simp only [decodeSeg, len, Nat.mul_mod_left, if_true, Nat.mul_div_cancel _ (show 0 < 64 by omega),
    etMany_flatMap_etRecord slots h, Option.map_some, flatMap_image_eq_flatten slots h]

/-- Settles O54: the record is written out of the slot's fields, and the decoder, which reads any fields, rebuilds the image. -/
theorem exactTransportIsExact : Obligations.ExactTransportIsExact := by
  refine ⟨fun b hb fit => ?_, ?_, fun slots h => ?_⟩
  · obtain ⟨readFill, readMask, len⟩ := etRecord_fields hb fit
    exact ⟨readFill, readMask, len, etOne_etRecord hb fit⟩
  · intro mask flags anchor loss sign lz v r hmask hflags hclass hanchor hloss _
    exact etOne_etBytes sign lz v r hmask hflags hclass hanchor hloss
  · have tails : ∀ b ∈ slots, b.drop 48 = List.replicate 16 0 := fun b hb => drop_image (h b hb).1 (h b hb).2
    exact ⟨slots.flatMap etRecord, encodeSeg_slots slots h, decodeSeg_slots slots h, tails⟩

end Sys2Proof
end

section
/-!
PROOF. FP16 values (02 R29, R30) and the two roundings of a BEC-12 block. A finite value is a significand times a power of 2
(`sigOf`, `expUnit`), and its sign and magnitude determine it. Rounding to nearest loses at most half a step; at most 11 bits at a
step that FP16 has are rounded to themselves.
-/
namespace Sys2Proof
open Claims

/-! ## FP16 values -/

/-- The significand of a finite FP16 value. -/
def sigOf (v : Nat) : Nat := if expOf v = 0 then v % 1024 else 1024 + v % 1024

/-- The exponent field of a value's unit: subnormals share that of the least normal values. -/
def expUnit (v : Nat) : Nat := max (expOf v) 1

theorem magOf_eq (v : Nat) : magOf v = sigOf v * 2 ^ (expUnit v - 1) := by
  by_cases h : expOf v = 0
  · simp [magOf, sigOf, expUnit, h]
  · simp [magOf, sigOf, expUnit, h, Nat.max_eq_left (Nat.one_le_iff_ne_zero.2 h)]

theorem sigOf_lt (v : Nat) : sigOf v < 2048 := by
  unfold sigOf; split <;> omega

theorem magOf_lt (v : Nat) : magOf v < 2 ^ (expOf v + 10) := by
  by_cases h : expOf v = 0
  · simp only [magOf, h, if_true]; omega
  · obtain ⟨n, hn⟩ := Nat.exists_eq_succ_of_ne_zero h
    simp only [magOf, hn, Nat.succ_ne_zero, if_false, Nat.succ_sub_one]
    calc (1024 + v % 1024) * 2 ^ n < 2 ^ 11 * 2 ^ n := Nat.mul_lt_mul_of_pos_right (by omega) (by positivity)
      _ = 2 ^ (n.succ + 10) := by rw [← pow_add]; congr 1; omega

theorem two_pow_le_magOf {v : Nat} (h : expOf v ≠ 0) : 2 ^ (expOf v + 9) ≤ magOf v := by
  obtain ⟨n, hn⟩ := Nat.exists_eq_succ_of_ne_zero h
  simp only [magOf, hn, Nat.succ_ne_zero, if_false, Nat.succ_sub_one]
  calc 2 ^ (n.succ + 9) = 2 ^ 10 * 2 ^ n := by rw [← pow_add]; congr 1; omega
    _ ≤ (1024 + v % 1024) * 2 ^ n := Nat.mul_le_mul_right _ (by omega)

theorem expOf_le_of_magOf_le {a b : Nat} (h : magOf a ≤ magOf b) : expOf a ≤ expOf b := by
  by_contra above
  have low := two_pow_le_magOf (v := a) (by omega)
  have high := magOf_lt b
  have := Nat.pow_le_pow_right two_pos (show expOf b + 10 ≤ expOf a + 9 by omega)
  omega

/-- Sign and magnitude determine a value. -/
theorem eq_of_magOf_eq {a b : Nat} (sign : a / 32768 = b / 32768) (mag : magOf a = magOf b) : a = b := by
  have exps : expOf a = expOf b := Nat.le_antisymm (expOf_le_of_magOf_le mag.le) (expOf_le_of_magOf_le mag.ge)
  have fracs : a % 1024 = b % 1024 := by
    simp only [magOf, exps] at mag
    split at mag
    · exact mag
    · have := Nat.eq_of_mul_eq_mul_right (by positivity) mag
      omega
  simp only [expOf] at exps
  omega

theorem fpDec_fp16 {v : Nat} (h : expOf v ≠ 31) :
    fpDec fp16 v = .fin (v.testBit 15) (sigOf v) ((expUnit v : Int) - 25) := by
  have exps : bitsN v 10 5 = expOf v := bitsN_eq v 10 5
  have fracs : bitsN v 0 10 = v % 1024 := by rw [bitsN_eq, pow_zero, Nat.div_one]; rfl
  by_cases sub : expOf v = 0
  · simp [fpDec, fp16, exps, fracs, sub, sigOf, expUnit, FpFmt.emin, FpFmt.bias]
  · have unit : expUnit v = expOf v := Nat.max_eq_left (Nat.one_le_iff_ne_zero.2 sub)
    have ulp : (expOf v : Int) - 15 - 10 = expOf v - 25 := by omega
    simp [fpDec, fp16, exps, fracs, sub, h, sigOf, unit, FpFmt.bias, Nat.add_comm, ulp]

/-! ## Rounding -/

theorem lt_two_pow_bitLen (m : Nat) : m < 2 ^ bitLen m := by
  by_cases h : m = 0
  · simp [bitLen, h]
  · simpa [bitLen, h] using Nat.lt_log2_self

theorem two_pow_le_of_bitLen {m n : Nat} (h : bitLen m = n + 1) : 2 ^ n ≤ m := by
  by_cases hm : m = 0
  · simp [bitLen, hm] at h
  · have : m.log2 = n := by simpa [bitLen, hm] using h
    exact this ▸ Nat.log2_self_le hm

theorem roundShift_of_le (rtz : Bool) (m : Nat) (e : Int) (k : Nat) : roundShift rtz m e (e - k) = m * 2 ^ k := by
  simp [roundShift]

/-- Rounding to nearest leaves at most half a unit. -/
theorem roundShift_near (m : Nat) (e : Int) (k : Nat) :
    2 * ((roundShift false m e (e + k) * 2 ^ k : Nat) - (m : Int)).natAbs ≤ 2 ^ k := by
  rcases Nat.eq_zero_or_pos k with rfl | pos
  · simp [roundShift]
  · have shift : (e + k - e : Int).toNat = k := by omega
    have coarse : ¬ (e + k ≤ e) := by omega
    simp only [roundShift, coarse, if_false, shift]
    split
    next far =>
      have := lt_two_pow_bitLen m
      have := Nat.pow_le_pow_right two_pos (show bitLen m + 1 ≤ k by omega)
      rw [pow_succ] at this
      omega
    next =>
      have split_m := Nat.div_add_mod' m (2 ^ k)
      have rem := Nat.mod_lt m (show 2 ^ k > 0 by positivity)
      simp only [Bool.false_eq_true, if_false]
      split
      next up =>
        simp only [Bool.or_eq_true, Bool.and_eq_true, decide_eq_true_eq] at up
        rw [Nat.add_mul, Nat.one_mul]
        omega
      next down =>
        simp only [Bool.or_eq_true, Bool.and_eq_true, decide_eq_true_eq, not_or] at down
        omega

/-! ## The decoder's rounding -/

/-- How far the top bit of `m` units of 2^(e − 25) lies above the least normal exponent. -/
def binade (e m : Nat) : Nat := bitLen m + e - 12

/-- `m` units of 2^(e − 25) in the units of their own binade. -/
def normSig (e m : Nat) : Nat := m * 2 ^ (e - 1 - binade e m)

theorem bitLen_le {m n : Nat} (h : m < 2 ^ n) : bitLen m ≤ n := by
  by_contra above
  have low := two_pow_le_of_bitLen (show bitLen m = (bitLen m - 1) + 1 by omega)
  have := Nat.pow_le_pow_right two_pos (show n ≤ bitLen m - 1 by omega)
  omega

theorem binade_lt {e m : Nat} (he : 1 ≤ e) (hm : m < 2048) : binade e m < e := by
  have := bitLen_le (n := 11) hm
  unfold binade; omega

theorem normSig_mul {e m : Nat} (he : 1 ≤ e) (hm : m < 2048) : normSig e m * 2 ^ binade e m = m * 2 ^ (e - 1) := by
  have := binade_lt he hm
  rw [normSig, Nat.mul_assoc, ← pow_add]
  congr 2; omega

theorem normSig_lt {e m : Nat} (hm : m < 2048) : normSig e m < 2048 := by
  have := bitLen_le (n := 11) hm
  calc m * 2 ^ (e - 1 - binade e m) < 2 ^ bitLen m * 2 ^ (e - 1 - binade e m) :=
        Nat.mul_lt_mul_of_pos_right (lt_two_pow_bitLen m) (by positivity)
    _ = 2 ^ (bitLen m + (e - 1 - binade e m)) := (pow_add ..).symm
    _ ≤ 2 ^ 11 := Nat.pow_le_pow_right two_pos (by unfold binade; omega)

/-- Above the least binade the significand has its leading bit. -/
theorem le_normSig {e m : Nat} (h : binade e m ≠ 0) (h0 : m ≠ 0) (hm : m < 2048) : 1024 ≤ normSig e m := by
  have := bitLen_le (n := 11) hm
  obtain ⟨n, hn⟩ : ∃ n, bitLen m = n + 1 := ⟨m.log2, by simp [bitLen, h0]⟩
  calc 1024 = 2 ^ (n + (e - 1 - binade e m)) := by
        rw [show n + (e - 1 - binade e m) = 10 by unfold binade at *; omega]; rfl
    _ = 2 ^ n * 2 ^ (e - 1 - binade e m) := pow_add ..
    _ ≤ normSig e m := Nat.mul_le_mul_right _ (two_pow_le_of_bitLen hn)

/-- At most 11 bits at a step that FP16 has are rounded to themselves. -/
theorem fpRound_fp16_enc {e m : Nat} (neg : Bool) (he : 1 ≤ e) (he' : e ≤ 30) (h0 : m ≠ 0) (hm : m < 2048) :
    (fpRound fp16 true neg m ((e : Int) - 25)).enc = 32768 * b2n neg + (binade e m * 1024 + normSig e m) := by
  have small := normSig_lt (e := e) hm
  have below := binade_lt he hm
  have len := bitLen_le (n := 11) hm
  have top : max ((bitLen m : Int) - 1 + (e - 25)) (-14) = binade e m - 14 := by unfold binade; omega
  have sig : roundShift true m (e - 25) ((binade e m : Int) - 14 - 10) = normSig e m := by
    rw [show (binade e m : Int) - 14 - 10 = (e - 25 : Int) - (e - 1 - binade e m : Nat) by omega, roundShift_of_le, normSig]
  have fits : ¬ 16 < (bitLen m : Int) - 1 + (e - 25) := by omega
  have finite : ¬ (binade e m * 1024 + normSig e m ≥ 31744) := by omega
  cases neg <;>
    simp [fpRound, fp16, FpFmt.emin, FpFmt.bias, FpFmt.infEnc, FpFmt.signW, h0, top, sig, fits, finite, b2n]

/-- The value with significand `m` in binade `k`, whose sign bit is `s`. -/
theorem magOf_enc {k m : Nat} (s : Nat) (hk : k ≤ 29) (hm : m < 2048) (norm : k ≠ 0 → 1024 ≤ m) :
    expOf (32768 * s + (k * 1024 + m)) ≠ 31 ∧ magOf (32768 * s + (k * 1024 + m)) = m * 2 ^ k := by
  by_cases lead : 1024 ≤ m
  · have exps : expOf (32768 * s + (k * 1024 + m)) = k + 1 := by unfold expOf; omega
    have sig : 1024 + (32768 * s + (k * 1024 + m)) % 1024 = m := by omega
    have finite : k + 1 ≠ 31 := by omega
    exact ⟨exps ▸ finite, by simp [magOf, exps, sig]⟩
  · obtain rfl : k = 0 := by_contra fun h => lead (norm h)
    have exps : expOf (32768 * s + (0 * 1024 + m)) = 0 := by unfold expOf; omega
    simp only [magOf, exps, if_true]
    omega

/-- The decoder's value is exact: its sign, and its magnitude `m` × 2^(e − 25). -/
theorem fpRound_fp16_exact {e m b : Nat} (neg : Bool) (he : 1 ≤ e) (he' : e ≤ 30) (hm : m < 2048)
    (hb : (fpRound fp16 true neg m ((e : Int) - 25)).enc = b) :
    b < 65536 ∧ expOf b ≠ 31 ∧ b / 32768 = b2n neg ∧ magOf b = m * 2 ^ (e - 1) := by
  have sign := b2n_le_one neg
  by_cases h0 : m = 0
  · have zero : b = 32768 * b2n neg := by rw [← hb, h0]; cases neg <;> rfl
    have exps : expOf b = 0 := by unfold expOf; omega
    simp only [magOf, exps, if_true, h0]
    omega
  · have below := binade_lt he hm
    have small := normSig_lt (e := e) hm
    have value := magOf_enc (b2n neg) (show binade e m ≤ 29 by omega) small fun h => le_normSig h h0 hm
    rw [fpRound_fp16_enc neg he he' h0 hm] at hb
    rw [hb, normSig_mul he hm] at value
    exact ⟨by omega, value.1, by omega, value.2⟩

end Sys2Proof
end

section
/-!
PROOF. BEC-12 (09 R247, R248). The encoder rounds an element's significand to the block's step; the decoder is exact on every field
the encoder writes; a block is its elements' fields, packed and unpacked in order.
-/
namespace Sys2Proof
open Claims

/-! ## One element -/

/-- M_i of R247. -/
def becMag (e v : Nat) : Nat := roundShift false (sigOf v) ((expUnit v : Int) - 25) ((e : Int) - 25)

/-- The field of an element: M_i and the sign. -/
def becField (e v : Nat) : Nat := becMag e v % 2048 + 2048 * b2n (v.testBit 15)

/-- The value of a field. -/
def becValue (e f : Nat) : Nat := (fpRound fp16 true (f.testBit 11) (f % 2048) ((e : Int) - 25)).enc

/-- M_i in units of the element's own significand is off by at most half the step. -/
theorem becMag_near {e v : Nat} (h : expUnit v ≤ e) :
    2 * ((becMag e v * 2 ^ (e - expUnit v) : Nat) - (sigOf v : Int)).natAbs ≤ 2 ^ (e - expUnit v) := by
  have step : (e : Int) - 25 = ((expUnit v : Int) - 25) + (e - expUnit v : Nat) := by omega
  rw [becMag, step]
  exact roundShift_near _ _ _

theorem becMag_of_eq {e v : Nat} (h : expUnit v = e) : becMag e v = sigOf v := by
  simp [becMag, h, roundShift]

/-- 11 bits always suffice (R248). -/
theorem becMag_lt {e v : Nat} (h : expUnit v ≤ e) : becMag e v < 2048 := by
  have near := becMag_near h
  have sig := sigOf_lt v
  have step : 0 < 2 ^ (e - expUnit v) := by positivity
  by_contra large
  have := Nat.mul_le_mul_right (2 ^ (e - expUnit v)) (not_lt.1 large)
  omega

theorem becField_lt (e v : Nat) : becField e v < 4096 := by
  have := b2n_le_one (v.testBit 15)
  unfold becField; omega

theorem testBit_becField (e v : Nat) : (becField e v).testBit 11 = v.testBit 15 := by
  have low := Nat.mod_lt (becMag e v) (show 0 < 2 ^ 11 by omega)
  rw [becField, Nat.add_comm, show 2048 = 2 ^ 11 from rfl, Nat.testBit_two_pow_mul_add _ low]
  cases v.testBit 15 <;> rfl

theorem becField_mod {e v : Nat} (h : expUnit v ≤ e) : becField e v % 2048 = becMag e v := by
  have := becMag_lt h
  unfold becField; omega

theorem sign_eq_testBit {v : Nat} (h : v < 65536) : v / 32768 = b2n (v.testBit 15) := by
  have bit : v / 32768 = 0 ∨ v / 32768 = 1 := by omega
  rcases bit with h0 | h1
  · simp [Nat.testBit_eq_decide_div_mod_eq, b2n, h0]
  · simp [Nat.testBit_eq_decide_div_mod_eq, b2n, h1]

/-- An element decodes to its own sign and to M_i steps. -/
theorem becValue_becField {e v : Nat} (hv : v < 65536) (h : expUnit v ≤ e) (he : e ≤ 30) :
    becValue e (becField e v) < 65536 ∧ expOf (becValue e (becField e v)) ≠ 31 ∧
      becValue e (becField e v) / 32768 = v / 32768 ∧
      magOf (becValue e (becField e v)) = becMag e v * 2 ^ (e - 1) := by
  have one : 1 ≤ e := (Nat.le_max_right _ _).trans h
  rw [sign_eq_testBit hv]
  exact fpRound_fp16_exact _ one he (becMag_lt h) (by rw [becValue, testBit_becField, becField_mod h])

/-- What is lost of an element is at most half a step of 2^(e − 25) (R248). -/
theorem becMag_loss {e v : Nat} (h : expUnit v ≤ e) :
    4 * ((becMag e v * 2 ^ (e - 1) : Nat) - (magOf v : Int)).natAbs ≤ 2 ^ e := by
  obtain ⟨u, hu⟩ : ∃ u, expUnit v = u + 1 := Nat.exists_eq_succ_of_ne_zero (by unfold expUnit; omega)
  have near := becMag_near h
  have pows : 2 ^ (e - 1) = 2 ^ (e - expUnit v) * 2 ^ u := by rw [← pow_add]; congr 1; omega
  have steps : ((becMag e v * 2 ^ (e - 1) : Nat) : Int) - magOf v =
      ((becMag e v * 2 ^ (e - expUnit v) : Nat) - (sigOf v : Int)) * (2 ^ u : Nat) := by
    rw [magOf_eq, pows, hu]
    push_cast [Nat.add_sub_cancel]
    ring
  rw [steps, Int.natAbs_mul, Int.natAbs_natCast]
  calc 4 * (((becMag e v * 2 ^ (e - expUnit v) : Nat) - (sigOf v : Int)).natAbs * 2 ^ u)
      = 2 * (2 * ((becMag e v * 2 ^ (e - expUnit v) : Nat) - (sigOf v : Int)).natAbs) * 2 ^ u := by ring
    _ ≤ 2 * 2 ^ (e - expUnit v) * 2 ^ u := by gcongr
    _ = 2 * 2 ^ (e - 1) := by rw [pows, Nat.mul_assoc]
    _ = 2 ^ e := by rw [← pow_succ']; congr 1; omega

/-- Elements at the block's own exponent are exact (R248). -/
theorem becValue_becField_of_eq {e v : Nat} (hv : v < 65536) (h : expUnit v = e) (he : e ≤ 30) :
    becValue e (becField e v) = v := by
  obtain ⟨-, -, sign, mag⟩ := becValue_becField hv h.le he
  refine eq_of_magOf_eq sign ?_
  rw [mag, becMag_of_eq h, magOf_eq, h]

theorem eq_zero_of_magOf_eq_zero {b : Nat} (h : magOf b = 0) : b = 32768 * (b / 32768) := by
  have zero : magOf (32768 * (b / 32768)) = 0 := by
    have exps : expOf (32768 * (b / 32768)) = 0 := by unfold expOf; omega
    simp only [magOf, exps, if_true]
    omega
  exact eq_of_magOf_eq (by omega) (h.trans zero.symm)

/-! ## A block -/

theorem foldl_max_le_iff (l : List Nat) (a n : Nat) : l.foldl max a ≤ n ↔ a ≤ n ∧ ∀ v ∈ l, v ≤ n := by
  induction l generalizing a with
  | nil => simp
  | cons v l ih => simp [ih, and_assoc]

theorem blockExp_le_iff (x : List Nat) (n : Nat) : blockExp x ≤ n ↔ 1 ≤ n ∧ ∀ v ∈ x, expOf v ≤ n := by
  simp [blockExp, foldl_max_le_iff]

theorem one_le_blockExp (x : List Nat) : 1 ≤ blockExp x := ((blockExp_le_iff x _).1 le_rfl).1

theorem expUnit_le_blockExp {x : List Nat} {v : Nat} (hv : v ∈ x) : expUnit v ≤ blockExp x :=
  max_le (((blockExp_le_iff x _).1 le_rfl).2 v hv) (one_le_blockExp x)

theorem blockExp_le {x : List Nat} (finite : ∀ v ∈ x, expOf v ≠ 31) : blockExp x ≤ 30 := by
  refine (blockExp_le_iff x 30).2 ⟨by omega, fun v hv => ?_⟩
  have := finite v hv
  unfold expOf at *
  omega

theorem exp_fields_eq (x : List Nat) : x.map (fun v => bitsN v 10 5) = x.map expOf :=
  List.map_congr_left fun v _ => bitsN_eq v 10 5

theorem becBlock_nonfinite {x : List Nat} (h : ∃ v ∈ x, expOf v = 31) :
    becBlock x = leBytes 1 31 ++ x.flatMap (leBytes 2) := by
  have any : (x.map expOf).any (fun e => decide (e = 31)) = true := by simpa using h
  simp only [becBlock, exp_fields_eq, any, if_true]

theorem becBlock_finite {x : List Nat} (finite : ∀ v ∈ x, expOf v ≠ 31) :
    becBlock x = leBytes 1 (blockExp x) ++ leBytes 24 (packBits 12 (x.map (becField (blockExp x)))) := by
  have any : (x.map expOf).any (fun e => decide (e = 31)) = false := by simpa using finite
  simp only [becBlock, exp_fields_eq, any, Bool.false_eq_true, if_false]
  congr 3
  exact List.map_congr_left fun v hv => by rw [fpDec_fp16 (finite v hv)]; rfl

theorem packBits_lt (w : Nat) (l : List Nat) : packBits w l < 2 ^ (w * l.length) := by
  induction l with
  | nil => simp [packBits]
  | cons f l ih =>
    have low := Nat.mod_lt f (show 2 ^ w > 0 by positivity)
    rw [packBits, List.length_cons, Nat.mul_succ, Nat.add_comm (w * _), pow_add]
    calc f % 2 ^ w + 2 ^ w * packBits w l < 2 ^ w * (packBits w l + 1) := by rw [Nat.mul_add_one]; omega
      _ ≤ 2 ^ w * 2 ^ (w * l.length) := Nat.mul_le_mul_left _ ih

theorem becValues_packBits (e : Nat) (l : List Nat) (h : ∀ f ∈ l, f < 4096) :
    becValues e l.length (packBits 12 l) = l.map (becValue e) := by
  induction l with
  | nil => rfl
  | cons f l ih =>
    obtain ⟨hf, hl⟩ := List.forall_mem_cons.1 h
    have front : packBits 12 (f :: l) % 4096 = f := by simp only [packBits]; omega
    have rest : packBits 12 (f :: l) / 4096 = packBits 12 l := by simp only [packBits]; omega
    simp only [List.length_cons, becValues, front, rest, ih hl, List.map_cons, becValue]

/-- A block stored with byte 31 is its 32 bytes (R247). -/
theorem becMany_one_special {r : Bytes} (h : r.length = 32) : becMany 1 (leBytes 1 31 ++ r) = some (plSamples r) := by
  simp [becMany, leBytes, h, List.take_of_length_le h.le]

/-- A block with an exponent of its own is 16 packed fields (R247, R249). -/
theorem becMany_one_fields {e : Nat} (he : 1 ≤ e) (he' : e ≤ 30) {r : Bytes} (h : r.length = 24) :
    becMany 1 (leBytes 1 e ++ r) = some (becValues e 16 (ofLe r)) := by
  have byte : (BitVec.ofNat 8 e).toNat = e := by rw [BitVec.toNat_ofNat]; omega
  have nonzero : e ≠ 0 := by omega
  have finite : e ≠ 31 := by omega
  have reserved : e / 32 = 0 := by omega
  rw [leBytes, leBytes, List.cons_append, List.nil_append]
  simp only [becMany, byte]
  simp [nonzero, finite, reserved, h, List.take_of_length_le h.le]

/-- What a finite block decodes to, element by element. -/
theorem becMany_becBlock_finite {x : List Nat} (len : x.length = 16) (finite : ∀ v ∈ x, expOf v ≠ 31) :
    becMany 1 (becBlock x) = some (x.map fun v => becValue (blockExp x) (becField (blockExp x) v)) := by
  have fields : ∀ f ∈ x.map (becField (blockExp x)), f < 4096 := by
    simpa using fun v _ => becField_lt (blockExp x) v
  have fits := packBits_lt 12 (x.map (becField (blockExp x)))
  have values := becValues_packBits (blockExp x) _ fields
  rw [List.length_map, len] at fits values
  rw [becBlock_finite finite, becMany_one_fields (one_le_blockExp x) (blockExp_le finite) (leBytes_length 24 _),
    ofLe_leBytes_of_lt fits, values, List.map_map]
  rfl

/-- Settles O56: an element decodes to M_i steps of the block, with its sign, and M_i is within half a step of it. -/
theorem bec12LossBound : Obligations.Bec12LossBound := by
  intro x len small
  by_cases special : ∃ v ∈ x, expOf v = 31
  · have block := becBlock_nonfinite special
    refine ⟨x, ?_, len, fun _ => ⟨rfl, ?_⟩, fun finite => ?_⟩
    · have bytes : (x.flatMap (leBytes 2)).length = 32 := by simp [List.length_flatMap, len]
      rw [block, becMany_one_special bytes, plSamples_flatMap_leBytes x small]
    · rw [block]; exact leAt_leBytes_append _ (by omega)
    · obtain ⟨v, hv, h31⟩ := special
      exact absurd h31 (finite v hv)
  · have finite : ∀ v ∈ x, expOf v ≠ 31 := fun v hv h31 => special ⟨v, hv, h31⟩
    refine ⟨_, becMany_becBlock_finite len finite, by simpa using len, fun h => absurd h special, fun _ i a b hx hy => ?_⟩
    have mem : a ∈ x := List.mem_of_getElem? hx
    have le := expUnit_le_blockExp mem
    have he := blockExp_le finite
    rw [List.getElem?_map, hx, Option.map_some, Option.some_inj] at hy
    subst hy
    obtain ⟨small_b, finite_b, sign, mag⟩ := becValue_becField (small a mem) le he
    refine ⟨small_b, finite_b, sign, mag ▸ becMag_loss le, fun h => ?_, fun h => sign ▸ eq_zero_of_magOf_eq_zero h⟩
    refine becValue_becField_of_eq (small a mem) (le_antisymm le ?_) he
    unfold expUnit
    omega

end Sys2Proof
end

section
/-!
PROOF. Register reads (00 R10). A read that lies inside one register answers that register's bytes and clears it where it is RC; a
register that only reads answers its value as little-endian bytes.
-/
namespace Sys2Proof.Machine
open Claims

/-! ## Bytes -/

/-- Byte `i` of a number is its digit of weight 256^i. -/
theorem leBytes_eq_map_range (n x : Nat) : leBytes n x = (List.range n).map fun i => BitVec.ofNat 8 (x / 256 ^ i) := by
  induction n generalizing x with
  | zero => rfl
  | succ n ih =>
    simp [leBytes, ih, List.range_succ_eq_map, Function.comp_def, Nat.div_div_eq_div_mul, pow_succ']

/-- `n` bytes hold a number modulo 2^(8n). -/
theorem leBytes_mod (n x : Nat) : leBytes n (x % 2 ^ (8 * n)) = leBytes n x := by
  have h := leBytes_ofLe (leBytes n x)
  rwa [leBytes_length, ofLe_leBytes] at h

@[simp] theorem sliceB_zero_length (b : Bytes) : sliceB b 0 b.length = b := by
  rw [sliceB_eq_take_drop (by omega), List.drop_zero, List.take_length]

/-! ## One register -/

@[simp] theorem regBytes_roReg (s : State) (base n : Nat) (dom : Option Nat) (val : Nat) :
    regBytes s (roReg base n dom val) = leBytes n val := by
  have unmasked (x : Byte) : x &&& 255#8 = x := BitVec.and_allOnes
  simp [regBytes, roReg, leBytes_eq_map_range, unmasked]

/-- Both XIP windows lie below 0x18000000 (16 R403). -/
theorem xipAt_eq_none {a n : Nat} (above : 0x18000000 < a + n) : xipAt a n = none := by
  have not_first : ¬a + n ≤ 0x14000000 := by omega
  have not_second : ¬a + n ≤ 0x18000000 := by omega
  simp [xipAt, not_first, not_second]

/-- The MC's registers without a domain are reached while the MC is awake. -/
theorem regReached_mc {s : State} {src a : Nat} {r : Reg} (awake : mcAwake s = true) (at_a : regAt (.mc src) s a = some r)
    (no_dom : r.dom = none) : regReached (.mc src) s a r :=
  ⟨awake, nofun, by simp [blockOff, at_a, no_dom], at_a⟩

/-- A read inside one register, not in an XIP window, answers the register's bytes (R10). -/
theorem regLoad_of_regReached {view : RegView} {s : State} {a n : Nat} {r : Reg} (reached : regReached view s a r)
    (nonempty : n ≠ 0) (inside : a + n ≤ r.base + r.n) (no_xip : xipAt a n = none) :
    regLoad view a n s = emit (.readData (sliceB (regBytes s r) (a - r.base) n)) (rcClear r (a - r.base) n (drawn s)) := by
  obtain ⟨on, not_bar4, block_on, at_a⟩ := reached
  have not_held : heldRead view s a n = none := by cases view <;> simp [heldRead, no_xip]
  simp [regLoad, regFetch, on, nonempty, not_held, not_bar4, block_on, no_xip, at_a, inside]

/-- A read of a whole register that only reads answers its value and leaves the state but for the draw. -/
theorem regLoad_roReg {view : RegView} {s : State} {a n val : Nat} {dom : Option Nat}
    (reached : regReached view s a (roReg a n dom val)) (nonempty : n ≠ 0) (no_xip : xipAt a n = none) :
    regLoad view a n s = emit (.readData (leBytes n val)) (drawn s) := by
  have whole := sliceB_zero_length (leBytes n val)
  rw [leBytes_length] at whole
  rw [regLoad_of_regReached reached nonempty le_rfl no_xip, regBytes_roReg]
  simp [roReg, rcClear, whole]

end Sys2Proof.Machine
end

section
/-!
PROOF. The result of a check-value channel (12 R314, R318). CVU_RESULT of an open computation is a register that only reads, with the
value `Cvu.now`; `Cvu.finish` fixes the same value.
-/
namespace Sys2Proof.Machine
open Claims

/-! ## The end of a check and of a computation -/

@[simp] theorem Cvu.check_result (x : Cvu) (ok : Bool) : (x.check ok).result = x.result := by cases ok <;> rfl
@[simp] theorem Cvu.check_done (x : Cvu) (ok : Bool) : (x.check ok).done = x.done := by cases ok <;> rfl
@[simp] theorem Cvu.check_opened (x : Cvu) (ok : Bool) : (x.check ok).opened = x.opened := by cases ok <;> rfl

/-- Whatever the mode adds (R319, R321), FINISH fixes the result, sets DONE and clears OPEN (R318). -/
theorem Cvu.finish_spec (x : Cvu) :
    x.finish.1.result = BitVec.ofNat 64 x.now ∧ x.finish.1.done = true ∧ x.finish.1.opened = false := by
  unfold Cvu.finish
  dsimp only
  split <;> simp

/-! ## The channels of a state -/

theorem cvuOf_setCvu (s : State) (c d : Nat) (x : Cvu) (h : c < s.cvu.length) :
    cvuOf (setCvu s c x) d = if d = c then x else cvuOf s d := lget_lset _ _ _ _ _ h

theorem onCvu_of_awake {s : State} {c : Nat} {act : Cvu → State → State} (awake : mcAwake s = true) (channel : c < 4) :
    onCvu c act s = act (cvuOf s c) s := by
  simp [onCvu, awake, channel]

@[simp] theorem cvuPass_cvu (c : Nat) (b : Bytes) (s : State) : (cvuPass c b s).cvu = s.cvu := by
  unfold cvuPass
  split <;> rfl

/-- CVU_FINISH of an open computation leaves what `Cvu.finish` makes of the channel (R318). -/
theorem cvuOf_effCvuFinish {s : State} {c : Nat} (awake : mcAwake s = true) (channel : c < 4) (present : c < s.cvu.length)
    (opened : (cvuOf s c).opened = true) : cvuOf (effCvuFinish c s) c = (cvuOf s c).finish.1 := by
  have kept : (effCvuFinish c s).cvu = (setCvu s c (cvuOf s c).finish.1).cvu := by
    simp only [effCvuFinish, onCvu_of_awake awake channel, opened, Bool.not_true, Bool.false_eq_true, if_false]
    split <;> simp
  rw [cvuOf, kept, ← cvuOf, cvuOf_setCvu s c c _ present, if_pos rfl]

/-! ## The register CVU_RESULT -/

/-- The 256 bytes from 0x40001000 + 0x100 c are those of channel c (R313). -/
theorem blockRegs_cvu (s : State) (src : Nat) {c o : Nat} (channel : c < 4) (offset : o < 0x100) :
    blockRegs (.mc src) s (0x40001000 + 0x100 * c + o) = cvuRegs s c := by
  have block : 0x40001000 ≤ 0x40001000 + 0x100 * c + o ∧ 0x40001000 + 0x100 * c + o < 0x40001400 := by omega
  have index : (0x40001000 + 0x100 * c + o - 0x40001000) / 0x100 = c := by omega
  simp [blockRegs, block, index]

/-- CVU_RESULT of an open computation reads as the result as it is now (R318). -/
theorem regAt_cvuResult {s : State} (src : Nat) {c : Nat} (channel : c < 4) (opened : (cvuOf s c).opened = true) :
    regAt (.mc src) s (0x40001040 + 0x100 * c) = some (roReg (0x40001040 + 0x100 * c) 8 none (cvuOf s c).now) := by
  have addr : 0x40001040 + 0x100 * c = 0x40001000 + 0x100 * c + 0x40 := by omega
  have current : lget {} s.cvu c = cvuOf s c := rfl
  rw [regAt, addr, blockRegs_cvu s src channel (by omega)]
  simp only [cvuRegs, current, opened, if_true]
  generalize 0x40001000 + 0x100 * c = b
  simp [rwReg, goReg, w1cReg, cmdReg, roReg, Nat.add_assoc]

/-- A read of CVU_RESULT while OPEN is 1 answers the result as it is now and changes no channel (R318). -/
theorem regLoad_cvuResult {s : State} (src : Nat) {c : Nat} (awake : mcAwake s = true) (channel : c < 4)
    (opened : (cvuOf s c).opened = true) :
    regLoad (.mc src) (0x40001040 + 0x100 * c) 8 s = emit (.readData (leBytes 8 (cvuOf s c).now)) (drawn s) := by
  have reached := regReached_mc awake (regAt_cvuResult src channel opened) rfl
  exact regLoad_roReg reached (by decide) (xipAt_eq_none (by omega))

/-- Settles O59: both the read and FINISH take the value `Cvu.now` of the open channel. -/
theorem openCvuResultReads : Obligations.OpenCvuResultReads := by
  intro s c src awake channel channels opened
  obtain ⟨result, done, closed⟩ := Cvu.finish_spec (cvuOf s c)
  have finished := cvuOf_effCvuFinish awake channel (channels ▸ channel) opened
  rw [← finished] at result done closed
  have answer : leBytes 8 (BitVec.ofNat 64 (cvuOf s c).now).toNat = leBytes 8 (cvuOf s c).now := leBytes_mod 8 _
  refine ⟨_, emit (.readData (leBytes 8 (cvuOf s c).now)) (drawn s), effCvuFinish c s, ?_, ?_, rfl, rfl, result, done, closed⟩
  · exact congrArg Host.Outcome.next (regLoad_cvuResult src awake channel opened)
  · rw [answer, emit_out, drawn_out]

end Sys2Proof.Machine
end

section
/-!
PROOF. Register writes (00 R10). A write inside one register is that register's own; a register of plain bits takes the whole value
written to it.
-/
namespace Sys2Proof.Machine
open Claims

theorem rwMerge_whole {n v : Nat} (old : Nat) (fits : v < 2 ^ (8 * n)) : rwMerge { off := 0, data := leBytes n v } n old = v := by
  have replaced : putB (leBytes n old) 0 (leBytes n v) = leBytes n v := by
    simp [putB, List.take_of_length_le, List.drop_eq_nil_of_le]
  rw [rwMerge, replaced, ofLe_leBytes_of_lt fits]

/-- A write inside one register writes that register (R10). -/
theorem regStore_of_regReached {view : RegView} {s : State} {a : Nat} {b : Bytes} {r : Reg} (reached : regReached view s a r)
    (nonempty : b ≠ []) (inside : a + b.length ≤ r.base + r.n) :
    regStore view a b s = r.wr { off := a - r.base, data := b } s := by
  obtain ⟨on, not_bar4, block_on, at_a⟩ := reached
  simp [regStore, regPut, on, nonempty, not_bar4, block_on, at_a, inside]

/-- A write of a whole register of plain bits puts the value written. -/
theorem regStore_rwReg {view : RegView} {s : State} {a n v val : Nat} {dom : Option Nat} {fs : List (Nat × Nat)}
    {put : Nat → State → State} (reached : regReached view s a (rwReg a n dom fs val put)) (nonempty : n ≠ 0)
    (fits : v < 2 ^ (8 * n)) : regStore view a (leBytes n v) s = put v s := by
  have bytes : leBytes n v ≠ [] := List.ne_nil_of_length_pos (by rw [leBytes_length]; omega)
  have inside : a + (leBytes n v).length ≤ a + n := by rw [leBytes_length]
  rw [regStore_of_regReached reached bytes inside]
  simp [rwReg, rwMerge_whole val fits]

end Sys2Proof.Machine
end

section
/-!
PROOF. The calendar's carry (17 R425 to R428). A day's carry always changes DAY, for every month has at least 28 days and at most
31; so DAY changes at a carry out of HOUR and only there.
-/
namespace Sys2Proof.Machine

/-! ## Months and years -/

theorem isLeap_iff (y : Nat) : isLeap y = true ↔ (y % 4 = 0 ∧ y % 100 ≠ 0) ∨ y % 400 = 0 := by simp [isLeap]

theorem monthLen_bounds (y m : Nat) : 28 ≤ monthLen y m ∧ monthLen y m ≤ 31 := by
  unfold monthLen
  split_ifs <;> omega

theorem monthLen_february (y : Nat) : monthLen y 2 = if isLeap y then 29 else 28 := rfl

theorem monthLen_december (y : Nat) : monthLen y 12 = 31 := rfl

/-! ## The carry into MONTH and DAY -/

@[simp] theorem nextMonth_day (t : CalTime) : (nextMonth t).day = t.day := by unfold nextMonth; split <;> rfl
@[simp] theorem nextMonth_sec (t : CalTime) : (nextMonth t).sec = t.sec := by unfold nextMonth; split <;> rfl

@[simp] theorem nextDay_sec (t : CalTime) : (nextDay t).sec = t.sec := by unfold nextDay; split <;> simp

theorem nextDay_of_lt {t : CalTime} (h : t.day.toNat < monthLen t.year.toNat t.month.toNat) :
    nextDay t = { t with day := t.day + 1 } := if_neg (Nat.not_le.2 h)

theorem nextDay_of_le {t : CalTime} (h : monthLen t.year.toNat t.month.toNat ≤ t.day.toNat) :
    nextDay t = nextMonth { t with day := 1 } := if_pos h

theorem nextDay_day_ne (t : CalTime) : (nextDay t).day ≠ t.day := by
  obtain ⟨least, most⟩ := monthLen_bounds t.year.toNat t.month.toNat
  rcases Nat.lt_or_ge t.day.toNat (monthLen t.year.toNat t.month.toNat) with inside | last
  · rw [nextDay_of_lt inside]
    bv_omega
  · rw [nextDay_of_le last, nextMonth_day]
    bv_omega

/-- The day after one of February is in February, or is 1 March. -/
theorem nextDay_february {t : CalTime} (february : t.month = 2) :
    nextDay t =
      { t with day := if t.day.toNat < monthLen t.year.toNat 2 then t.day + 1 else 1,
               month := if t.day.toNat < monthLen t.year.toNat 2 then 2 else 3 } := by
  have month : t.month.toNat = 2 := by rw [february]; rfl
  rcases Nat.lt_or_ge t.day.toNat (monthLen t.year.toNat 2) with inside | last
  · rw [nextDay_of_lt (month ▸ inside), if_pos inside, if_pos inside, ← february]
  · rw [nextDay_of_le (month ▸ last), if_neg (Nat.not_lt.2 last), if_neg (Nat.not_lt.2 last)]
    simp [nextMonth, february]

/-! ## The carry into SEC, MIN and HOUR -/

/-- A carry into SEC leaves the date, or carries out of HOUR into the next day (R425). -/
theorem nextSec_cases (t : CalTime) :
    ((nextSec t).1 = false ∧ (nextSec t).2.day = t.day) ∨
      (23 ≤ t.hour.toNat ∧ nextSec t = (true, nextDay { t with sec := 0, min := 0, hour := 0 })) := by
  unfold nextSec
  split_ifs with sec min hour
  · exact .inl ⟨rfl, rfl⟩
  · exact .inl ⟨rfl, rfl⟩
  · exact .inl ⟨rfl, rfl⟩
  · exact .inr ⟨Nat.not_lt.1 hour, rfl⟩

/-- DAY changes where the carry passes HOUR, and only there. -/
theorem nextSec_day_ne_iff (t : CalTime) : (nextSec t).2.day ≠ t.day ↔ (nextSec t).1 = true := by
  rcases nextSec_cases t with ⟨stays, day⟩ | ⟨-, next⟩
  · simp [stays, day]
  · simpa [next] using nextDay_day_ne { t with sec := 0, min := 0, hour := 0 }

theorem nextSec_of_hour_lt {t : CalTime} (h : t.hour.toNat < 23) : (nextSec t).1 = false := by
  rcases nextSec_cases t with ⟨stays, -⟩ | ⟨late, -⟩
  · exact stays
  · omega

/-- Second 59 is the last of every minute: there is no leap second (R426). -/
theorem nextSec_sec_of_59 {t : CalTime} (h : t.sec = 59) : (nextSec t).2.sec = 0 := by
  have last : ¬t.sec.toNat < 59 := by rw [h]; decide
  unfold nextSec
  split_ifs <;> simp

theorem nextSec_of_midnight {t : CalTime} (sec : t.sec = 59) (min : t.min = 59) (hour : t.hour = 23) :
    nextSec t = (true, nextDay { t with sec := 0, min := 0, hour := 0 }) := by
  simp [nextSec, sec, min, hour]

/-! ## The weekday counter -/

theorem nextWday_eq (w : BitVec 3) : nextWday w = if w.toNat < 6 then w + 1 else 0 := by
  by_cases last : w.toNat < 6
  · rw [nextWday, if_neg (Nat.not_le.2 last), if_pos last]
  · rw [nextWday, if_pos (Nat.not_lt.1 last), if_neg last]

theorem calWraps_eq_false {t : CalTime}
    (h : t.year.toNat < 2299 ∨ t.month.toNat < 12 ∨ (t.month = 12 ∧ t.day.toNat < 31)) : calWraps t = false := by
  rcases h with year | month | ⟨december, day⟩
  · simp [calWraps, year]
  · simp [calWraps, month]
  · have len : monthLen t.year.toNat t.month.toNat = 31 := by rw [december]; exact monthLen_december _
    simp [calWraps, len, day]

theorem calWraps_of_last_day {t : CalTime} (year : t.year = 2299) (month : t.month = 12) (day : t.day = 31) :
    calWraps t = true := by
  rw [calWraps, year, month, day]
  rfl

end Sys2Proof.Machine
end

section
/-!
PROOF. A tick of the real-time clock (17 R425, R431 to R434). The counters advance, and the accepted command is then applied to
what they have become: a SET alone replaces the calendar, and no command touches WDAY.
-/
namespace Sys2Proof.Machine
open Claims

/-! ## The clock in the state -/

@[simp] theorem setRtc_rtc (r : Rtc) (s : State) : (setRtc r s).rtc = r := rfl

/-- Where a supply is present a crystal tick ticks the clock (18 R452). -/
theorem exec_rtcTick {s : State} (runs : clockRuns s) :
    ∃ t, exec .rtcTick s = .next t ∧ t.rtc = rtcTick s.rtc :=
  ⟨effRtcTick s, rfl, congrArg State.rtc (if_pos runs)⟩

/-! ## The advance -/

/-- An advance moves SUB within the second, or carries into SEC; WDAY advances with a carry out of HOUR that does not wrap the
calendar (R425, R428). -/
theorem rtcAdvance_cases (n : Nat) (r : Rtc) :
    (∃ sub, (rtcAdvance n r).t = { r.t with sub := sub } ∧ (rtcAdvance n r).wday = r.wday) ∨
    (∃ sub, (rtcAdvance n r).t = { (nextSec r.t).2 with sub := sub } ∧
      (rtcAdvance n r).wday = if (nextSec r.t).1 && !calWraps r.t then nextWday r.wday else r.wday) := by
  unfold rtcAdvance
  dsimp only
  split
  next => exact .inl ⟨_, rfl, rfl⟩
  next =>
    split
    next => exact .inr ⟨_, rfl, rfl⟩
    next =>
      split
      next => exact .inr ⟨_, rfl, rfl⟩
      next => exact .inl ⟨_, rfl, rfl⟩

theorem rtcAdvance_one_of_carry {r : Rtc} (shift : r.shift = none) (last : r.t.sub = 32767) :
    (rtcAdvance 1 r).t = { (nextSec r.t).2 with sub := 0 } := by
  simp [rtcAdvance, shift, last]

@[simp] theorem rtcAdvance_cmd (n : Nat) (r : Rtc) : (rtcAdvance n r).cmd = r.cmd := by
  unfold rtcAdvance
  dsimp only
  split
  next => rfl
  next =>
    split
    next => rfl
    next => split <;> rfl

theorem rtcAdvance_wday (n : Nat) (r : Rtc) :
    (rtcAdvance n r).wday =
      if (rtcAdvance n r).t.day ≠ r.t.day ∧ calWraps r.t = false then nextWday r.wday else r.wday := by
  rcases rtcAdvance_cases n r with ⟨sub, time, wday⟩ | ⟨sub, time, wday⟩
  · simp [time, wday]
  · rw [time, wday]
    simp only [nextSec_day_ne_iff, Bool.and_eq_true, Bool.not_eq_true']

theorem rtcAdvance_wday_of_hour_lt (n : Nat) {r : Rtc} (h : r.t.hour.toNat < 23) : (rtcAdvance n r).wday = r.wday := by
  rcases rtcAdvance_cases n r with ⟨_, -, wday⟩ | ⟨_, -, wday⟩
  · exact wday
  · simpa [nextSec_of_hour_lt h] using wday

/-! ## The command -/

@[simp] theorem rtcCommand_wday (r : Rtc) : (rtcCommand r).wday = r.wday := by
  unfold rtcCommand
  split
  next => rfl
  next => dsimp only; split_ifs <;> rfl

/-- Only a SET replaces the calendar (R431 to R433). -/
theorem rtcCommand_t_of_not_set {r : Rtc} (not_set : ∀ n, r.cmd ≠ some (2, n)) : (rtcCommand r).t = r.t := by
  unfold rtcCommand
  split
  next => rfl
  next op n accepted =>
    have other : op ≠ 2 := fun set => not_set n (set ▸ accepted)
    dsimp only
    split_ifs <;> rfl

/-! ## The tick -/

/-- The clock as a tick's advance finds it: TRIM is taken at the start of a window, and the prescaler counts the tick (R434). -/
def tickStart (r : Rtc) : Rtc :=
  let q := if r.prescale.toNat = 0 then { r with trimNow := r.trim } else r
  { q with prescale := q.prescale + 1 }

@[simp] theorem tickStart_t (r : Rtc) : (tickStart r).t = r.t := by dsimp only [tickStart]; split <;> rfl
@[simp] theorem tickStart_wday (r : Rtc) : (tickStart r).wday = r.wday := by dsimp only [tickStart]; split <;> rfl
@[simp] theorem tickStart_cmd (r : Rtc) : (tickStart r).cmd = r.cmd := by dsimp only [tickStart]; split <;> rfl
@[simp] theorem tickStart_shift (r : Rtc) : (tickStart r).shift = r.shift := by dsimp only [tickStart]; split <;> rfl

theorem tickStart_trimNow {r : Rtc} (inside : r.prescale ≠ 0) : (tickStart r).trimNow = r.trimNow := by
  have nonzero : r.prescale.toNat ≠ 0 := by bv_omega
  simp [tickStart, nonzero]

/-- The clock after a tick's advance, before the accepted command is applied. -/
def tickAdvanced (r : Rtc) : Rtc := rtcAdvance (trimStep (tickStart r).trimNow r.prescale.toNat) (tickStart r)

/-- A power-fail capture and the alarms read the calendar and leave it. -/
theorem rtcTick_t (r : Rtc) : (rtcTick r).t = (rtcCommand (tickAdvanced r)).t :=
  (apply_ite Rtc.t ((rtcCommand (tickAdvanced r)).failCap = true) _ _).trans (ite_self _)

theorem rtcTick_wday (r : Rtc) : (rtcTick r).wday = (tickAdvanced r).wday := by
  have kept : (rtcTick r).wday = (rtcCommand (tickAdvanced r)).wday :=
    (apply_ite Rtc.wday ((rtcCommand (tickAdvanced r)).failCap = true) _ _).trans (ite_self _)
  rw [kept, rtcCommand_wday]

theorem rtcTick_t_of_not_set {r : Rtc} (not_set : ∀ n, r.cmd ≠ some (2, n)) : (rtcTick r).t = (tickAdvanced r).t := by
  rw [rtcTick_t]
  exact rtcCommand_t_of_not_set (by simpa [tickAdvanced] using not_set)

/-- With no SET to apply, WDAY advances with DAY and not at the calendar's wrap (R428). -/
theorem rtcTick_wday_of_not_set {r : Rtc} (not_set : ∀ n, r.cmd ≠ some (2, n)) :
    (rtcTick r).wday = if (rtcTick r).t.day ≠ r.t.day ∧ calWraps r.t = false then nextWday r.wday else r.wday := by
  rw [rtcTick_wday, rtcTick_t_of_not_set not_set, tickAdvanced, rtcAdvance_wday, tickStart_t, tickStart_wday]

theorem rtcTick_wday_of_hour_lt {r : Rtc} (h : r.t.hour.toNat < 23) : (rtcTick r).wday = r.wday := by
  rw [rtcTick_wday, tickAdvanced, rtcAdvance_wday_of_hour_lt _ (by simpa using h), tickStart_wday]

/-- A tick that carries and has nothing else to do (R425). -/
theorem rtcTick_t_of_carryDue {s : State} (due : carryDue s) :
    (rtcTick s.rtc).t = { (nextSec s.rtc.t).2 with sub := 0 } := by
  obtain ⟨-, no_cmd, no_shift, no_trim, inside, last⟩ := due
  have one : trimStep (tickStart s.rtc).trimNow s.rtc.prescale.toNat = 1 := by
    simp [tickStart_trimNow inside, no_trim, trimStep, trimPulses]
  have carry := rtcAdvance_one_of_carry (r := tickStart s.rtc) (by simpa using no_shift) (by simpa using last)
  rw [rtcTick_t_of_not_set (by simp [no_cmd]), tickAdvanced, one, carry, tickStart_t]

/-- The tick that ends a day of February. -/
theorem rtcTick_t_february {s : State} (due : carryDue s) (sec : s.rtc.t.sec = 59) (min : s.rtc.t.min = 59)
    (hour : s.rtc.t.hour = 23) (february : s.rtc.t.month = 2) :
    (rtcTick s.rtc).t =
      { sub := 0, sec := 0, min := 0, hour := 0, year := s.rtc.t.year,
        day := if s.rtc.t.day.toNat < monthLen s.rtc.t.year.toNat 2 then s.rtc.t.day + 1 else 1,
        month := if s.rtc.t.day.toNat < monthLen s.rtc.t.year.toNat 2 then 2 else 3 } := by
  have next_day := nextDay_february (t := { s.rtc.t with sec := 0, min := 0, hour := 0 }) february
  rw [rtcTick_t_of_carryDue due, nextSec_of_midnight sec min hour, next_day]

/-- Settles O57: a carry out of the last second of a day is a step of `nextDay`, and February's length is that of `isLeap`. -/
theorem calendarLeapYears : Obligations.CalendarLeapYears := by
  refine ⟨fun s due sec min hour february => ?_, fun s due sec => ?_⟩
  · obtain ⟨t, ran, clock⟩ := exec_rtcTick due.1
    have time := rtcTick_t_february due sec min hour february
    rw [← clock, monthLen_february] at time
    refine ⟨t, ran, ?_⟩
    simp only [time, ← isLeap_iff, true_and]
    refine ⟨fun leap => ⟨fun day => ?_, fun day => ?_⟩, fun common day => ?_, fun early => ?_⟩
    · simp [leap, day]
    · simp [leap, day]
    · simp [common, day]
    · have inside : s.rtc.t.day.toNat < if isLeap s.rtc.t.year.toNat then 29 else 28 := by split <;> omega
      simp [inside]
  · obtain ⟨t, ran, clock⟩ := exec_rtcTick due.1
    refine ⟨t, ran, ?_⟩
    rw [clock, rtcTick_t_of_carryDue due]
    exact ⟨nextSec_sec_of_59 sec, rfl⟩

/-! ## Software's own commands and WDAY -/

/-- Accepting a command, or refusing it, leaves WDAY. -/
@[simp] theorem rtcCmd_wday (op : Nat) (n : Int) (s : State) : (rtcCmd op n s).rtc.wday = s.rtc.wday := by
  unfold rtcCmd
  dsimp only
  split_ifs <;> rfl

/-- The register RTC_WDAY (R429, R430). -/
theorem regAt_rtcWday (src : Nat) (s : State) :
    regAt (.mc src) s 0x4000200C = some (rwReg 0x4000200C 4 none [(0, 3)] s.rtc.wday.toNat
      (fun v => rtcField (decide (v % 8 = 7)) (fun r => { r with wday := BitVec.ofNat 3 v }))) := by
  simp [regAt, blockRegs, rtcRegs, rwReg, w1cReg, roReg]

/-- RTC_WDAY takes a value of its range while the RTC is not locked (17 R428, R430, R437). -/
theorem regStore_rtcWday {s : State} (src : Nat) {v : Nat} (awake : mcAwake s = true) (unlocked : s.rtc.locked = false)
    (range : v < 7) :
    regStore (.mc src) 0x4000200C (leBytes 4 v) s = setRtc { s.rtc with wday := BitVec.ofNat 3 v } s := by
  have reached := regReached_mc awake (regAt_rtcWday src s) rfl
  have valid : v % 8 ≠ 7 := by omega
  rw [regStore_rwReg reached (by decide) (by omega)]
  simp [rtcField, unlocked, valid]

/-- Settles O58: at a tick WDAY follows the carry into DAY; the commands leave it, and RTC_WDAY alone sets it. -/
theorem weekdayCounter : Obligations.WeekdayCounter := by
  refine ⟨fun s runs not_set => ?_, fun s n runs _ hour => ?_, fun s t ran => ?_, fun s t n ran => ?_,
    fun s src v awake unlocked range => ⟨_, congrArg Host.Outcome.next (regStore_rtcWday src awake unlocked range), rfl⟩⟩
  · obtain ⟨t, ran, clock⟩ := exec_rtcTick runs
    have wday := rtcTick_wday_of_not_set not_set
    rw [← clock] at wday
    refine ⟨t, ran, fun same => ?_, fun changed date => ?_, fun year month day => ?_⟩
    · simpa [same] using wday
    · simpa [changed, calWraps_eq_false date, nextWday_eq] using wday
    · simpa [calWraps_of_last_day year month day] using wday
  · obtain ⟨t, ran, clock⟩ := exec_rtcTick runs
    exact ⟨t, ran, clock ▸ rtcTick_wday_of_hour_lt hour⟩
  · obtain rfl := Host.Outcome.next.inj ran
    exact rtcCmd_wday 2 0 s
  · obtain rfl := Host.Outcome.next.inj ran
    exact rtcCmd_wday 3 n.toInt s

end Sys2Proof.Machine
end

section
/-!
PROOF. Pixel Lossless (09 R245, R246). A residual and the sample before it give the sample back; `plUnfold` reads the packed
residuals in order, so a block decodes to its samples whatever follows it, and a segment block by block.
-/
namespace Sys2Proof
open Claims

/-! ## Residuals -/

/-- The mapped residual of a sample `y` after `x`. -/
def residual (x y : Nat) : Nat :=
  let d := sextN (y + 2 ^ 16 - x) 16
  if d ≥ 0 then (2 * d).toNat else (-2 * d - 1).toNat

/-- The difference that a mapped residual stands for. -/
def plDelta (z : Nat) : Int := if z % 2 = 0 then (z / 2 : Nat) else -((z / 2 : Nat) : Int) - 1

theorem residual_lt (x y : Nat) : residual x y < 2 ^ 16 := by
  simp only [residual, sextN]
  split <;> split <;> omega

theorem residual_undo {x y : Nat} (hx : x < 65536) (hy : y < 65536) : ((x : Int) + plDelta (residual x y)) % 2 ^ 16 = y := by
  simp only [plDelta, residual, sextN]
  split <;> split <;> split <;> omega

theorem plResid_cons_cons (x y : Nat) (r : List Nat) : plResid (x :: y :: r) = residual x y :: plResid (y :: r) := rfl

@[simp] theorem plResid_length (x : List Nat) : (plResid x).length = x.length - 1 := by
  induction x with
  | nil => rfl
  | cons x r ih =>
    cases r with
    | nil => rfl
    | cons y r => rw [plResid_cons_cons, List.length_cons, ih]; rfl

theorem plResid_lt (x : List Nat) : ∀ z ∈ plResid x, z < 2 ^ 16 := by
  induction x with
  | nil => simp [plResid]
  | cons x r ih =>
    cases r with
    | nil => simp [plResid]
    | cons y r => exact List.forall_mem_cons.2 ⟨residual_lt x y, ih⟩

/-- The samples after the first, from the packed residuals. -/
theorem plUnfold_packBits {w : Nat} (x : Nat) (r : List Nat) (samples : ∀ v ∈ x :: r, v < 65536)
    (fit : ∀ z ∈ plResid (x :: r), z < 2 ^ w) : plUnfold w r.length x (packBits w (plResid (x :: r))) = r := by
  induction r generalizing x with
  | nil => rfl
  | cons y r ih =>
    obtain ⟨hx, hr⟩ := List.forall_mem_cons.1 samples
    obtain ⟨hy, -⟩ := List.forall_mem_cons.1 hr
    rw [plResid_cons_cons] at fit ⊢
    obtain ⟨hz, hzs⟩ := List.forall_mem_cons.1 fit
    have front : packBits w (residual x y :: plResid (y :: r)) % 2 ^ w = residual x y := by
      simp [packBits, Nat.mod_eq_of_lt hz]
    have rest : packBits w (residual x y :: plResid (y :: r)) / 2 ^ w = packBits w (plResid (y :: r)) := by
      rw [packBits, Nat.mod_eq_of_lt hz, Nat.add_mul_div_left _ _ (by positivity), Nat.div_eq_of_lt hz, Nat.zero_add]
    have undo := residual_undo hx hy
    rw [plDelta] at undo
    rw [List.length_cons, plUnfold]
    simp only [front, rest, undo, Int.toNat_natCast, ih y hr hzs]

/-! ## The width of a block -/

/-- The width of a block: the smallest that holds every mapped residual. -/
def plWidth (x : List Nat) : Nat := ((plResid x).map bitLen).foldl max 0

theorem plWidth_le_iff (x : List Nat) (n : Nat) : plWidth x ≤ n ↔ ∀ z ∈ plResid x, bitLen z ≤ n := by
  simp [plWidth, foldl_max_le_iff]

theorem plWidth_le (x : List Nat) : plWidth x ≤ 16 := (plWidth_le_iff x 16).2 fun z hz => bitLen_le (plResid_lt x z hz)

theorem plResid_lt_width (x : List Nat) : ∀ z ∈ plResid x, z < 2 ^ plWidth x := fun z hz =>
  (lt_two_pow_bitLen z).trans_le (Nat.pow_le_pow_right two_pos ((plWidth_le_iff x _).1 le_rfl z hz))

/-- No smaller width holds every residual. -/
theorem exists_wide_residual {x : List Nat} {w : Nat} (h : w < plWidth x) : ∃ z ∈ plResid x, 2 ^ w ≤ z := by
  by_contra narrow
  push Not at narrow
  exact absurd ((plWidth_le_iff x w).2 fun z hz => bitLen_le (narrow z hz)) (by omega)

/-! ## One block -/

/-- A block too wide to pack is its width byte and its samples. -/
theorem plBlock_raw {x : List Nat} (h : plWidth x = 16) : plBlock x = leBytes 1 16 ++ x.flatMap (leBytes 2) := by
  have wide : ((plResid x).map bitLen).foldl max 0 ≥ 16 := h.ge
  simp only [plBlock, wide, if_true]

theorem plBlock_packed {x : Nat} {r : List Nat} (h : plWidth (x :: r) < 16) :
    plBlock (x :: r) = leBytes 1 (plWidth (x :: r)) ++ (leBytes 2 x ++
      leBytes (ceilDiv (r.length * plWidth (x :: r)) 8) (packBits (plWidth (x :: r)) (plResid (x :: r)))) := by
  have narrow : ¬((plResid (x :: r)).map bitLen).foldl max 0 ≥ 16 := Nat.not_le.2 h
  have first : (leBytes 2 x ++ r.flatMap (leBytes 2)).take 2 = leBytes 2 x := List.take_left' (leBytes_length 2 x)
  simp only [plBlock, narrow, if_false, List.flatMap_cons, first, List.append_assoc, plResid_length, List.length_cons,
    Nat.add_sub_cancel]
  rfl

theorem byteAt_leBytes_one {w : Nat} (r : Bytes) (h : w ≤ 16) : byteAt (leBytes 1 w ++ r) 0 = w :=
  leAt_leBytes_append r (by omega)

/-- Byte 0 of a block is its width (R245). -/
theorem byteAt_plBlock {x : List Nat} (h : 1 ≤ x.length) : byteAt (plBlock x) 0 = plWidth x := by
  obtain ⟨y, r, rfl⟩ := List.exists_cons_of_length_pos h
  rcases (plWidth_le (y :: r)).eq_or_lt with wide | narrow
  · rw [plBlock_raw wide, wide, byteAt_leBytes_one _ le_rfl]
  · rw [plBlock_packed narrow, byteAt_leBytes_one _ narrow.le]

theorem flatMap_leBytes_length (n : Nat) (x : List Nat) : (x.flatMap (leBytes n)).length = x.length * n := by
  induction x with
  | nil => simp
  | cons v x ih => rw [List.flatMap_cons, List.length_append, ih, leBytes_length, List.length_cons]; ring

theorem plBlock_length_le {x : List Nat} (h : 1 ≤ x.length) : (plBlock x).length ≤ 1 + 2 * x.length := by
  obtain ⟨y, r, rfl⟩ := List.exists_cons_of_length_pos h
  rcases (plWidth_le (y :: r)).eq_or_lt with wide | narrow
  · rw [plBlock_raw wide, List.length_append, leBytes_length, flatMap_leBytes_length]
    omega
  · have packed : r.length * plWidth (y :: r) ≤ r.length * 15 := Nat.mul_le_mul_left _ (by omega)
    rw [plBlock_packed narrow]
    simp only [List.length_append, leBytes_length, List.length_cons, ceilDiv]
    omega

/-- The decoder on the width byte 16 (R246). -/
theorem plOne_raw {x : List Nat} (r : Bytes) (samples : ∀ v ∈ x, v < 65536) :
    plOne x.length (leBytes 1 16 ++ (x.flatMap (leBytes 2) ++ r)) = some (x, r) := by
  have len : (x.flatMap (leBytes 2)).length = 2 * x.length := by rw [flatMap_leBytes_length, Nat.mul_comm]
  have width : leBytes 1 16 = [16#8] := rfl
  rw [width, List.cons_append, List.nil_append]
  simp [plOne, List.take_left' len, List.drop_left' len, plSamples_flatMap_leBytes x samples]
  omega

/-- The decoder on a packed block: the fields after the first sample, whatever comes behind. -/
theorem plOne_packed {n w x0 bits : Nat} (r : Bytes) (hw : w < 16) (hx : x0 < 65536) (fit : bits < 2 ^ (n * w)) :
    plOne (n + 1) (leBytes 1 w ++ (leBytes 2 x0 ++ (leBytes (ceilDiv (n * w) 8) bits ++ r))) =
      some (x0 :: plUnfold w n x0 bits, r) := by
  have byte : (BitVec.ofNat 8 w).toNat = w := by rw [BitVec.toNat_ofNat]; omega
  have head : leAt (leBytes 2 x0 ++ (leBytes (ceilDiv (n * w) 8) bits ++ r)) 0 2 = x0 := leAt_leBytes_append _ (by omega)
  have room : n * w ≤ 8 * ceilDiv (n * w) 8 := by unfold ceilDiv; omega
  have field : ofLe (leBytes (ceilDiv (n * w) 8) bits) = bits :=
    ofLe_leBytes_of_lt (fit.trans_le (Nat.pow_le_pow_right two_pos room))
  have enough : ¬(leBytes 2 x0 ++ (leBytes (ceilDiv (n * w) 8) bits ++ r)).length < 2 + ceilDiv (n * w) 8 := by
    simp only [List.length_append, leBytes_length]; omega
  have behind : (leBytes 2 x0 ++ (leBytes (ceilDiv (n * w) 8) bits ++ r)).drop 2 = leBytes (ceilDiv (n * w) 8) bits ++ r :=
    List.drop_left' (leBytes_length 2 x0)
  have rest : (leBytes 2 x0 ++ (leBytes (ceilDiv (n * w) 8) bits ++ r)).drop (2 + ceilDiv (n * w) 8) = r := by
    rw [← List.drop_drop, behind, List.drop_left' (leBytes_length _ _)]
  have clear : bits / 2 ^ (n * w) = 0 := Nat.div_eq_of_lt fit
  rw [leBytes, leBytes, List.cons_append, List.nil_append]
  simp only [plOne, byte, Nat.add_sub_cancel, behind, rest, head, List.take_left' (leBytes_length _ _), field, enough, clear,
    show ¬w > 16 by omega, show w ≠ 16 by omega, if_false, ne_eq, not_true_eq_false]

/-- Decoding a block gives its samples back, and leaves what follows it. -/
theorem plOne_plBlock {x : List Nat} (r : Bytes) (h : 1 ≤ x.length) (samples : ∀ v ∈ x, v < 65536) :
    plOne x.length (plBlock x ++ r) = some (x, r) := by
  obtain ⟨y, l, rfl⟩ := List.exists_cons_of_length_pos h
  rcases (plWidth_le (y :: l)).eq_or_lt with wide | narrow
  · rw [plBlock_raw wide, List.append_assoc, plOne_raw r samples]
  · have fit := packBits_lt (plWidth (y :: l)) (plResid (y :: l))
    rw [plResid_length, List.length_cons, Nat.add_sub_cancel, Nat.mul_comm] at fit
    rw [plBlock_packed narrow, List.append_assoc, List.append_assoc, List.length_cons,
      plOne_packed r narrow (List.forall_mem_cons.1 samples).1 fit,
      plUnfold_packBits y l samples (plResid_lt_width _)]

/-! ## What the decoder refuses (R246) -/

theorem byteAt_cons_zero (v : Byte) (r : Bytes) : byteAt (v :: r) 0 = v.toNat := by
  simp [byteAt, leAt, sliceB, ofLe]

theorem plOne_of_width_gt {n : Nat} {b : Bytes} (h : 16 < byteAt b 0) : plOne n b = none := by
  cases b with
  | nil => rfl
  | cons v r =>
    rw [byteAt_cons_zero] at h
    simp only [plOne, gt_iff_lt, h, if_true]

theorem plOne_of_stray_bit {n : Nat} {b : Bytes} (hw : byteAt b 0 < 16)
    (stray : ofLe (sliceB b 3 (((n - 1) * byteAt b 0 + 7) / 8)) / 2 ^ ((n - 1) * byteAt b 0) ≠ 0) : plOne n b = none := by
  cases b with
  | nil => rfl
  | cons v r =>
    rw [byteAt_cons_zero] at hw stray
    simp only [plOne, show ¬v.toNat > 16 by omega, show v.toNat ≠ 16 by omega, if_false]
    split
    next => rfl
    next enough =>
      have field : sliceB (v :: r) 3 (ceilDiv ((n - 1) * v.toNat) 8) = (r.drop 2).take (ceilDiv ((n - 1) * v.toNat) 8) :=
        sliceB_eq_take_drop (by rw [List.length_cons]; omega)
      rw [← field]
      exact if_pos stray

/-! ## A segment -/

theorem plMany_chunks (k : Nat) : ∀ x : List Nat, (∀ v ∈ x, v < 65536) → x.length ≤ 64 * k → 64 * k < x.length + 64 →
    plMany k x.length ((chunksN 64 k x).flatMap plBlock) = some x := by
  induction k with
  | zero =>
    intro x _ short _
    obtain rfl : x = [] := List.eq_nil_of_length_eq_zero (by omega)
    rfl
  | succ k ih =>
    intro x samples short long
    have front : (x.take 64).length = min x.length 64 := by rw [List.length_take, Nat.min_comm]
    have back : (x.drop 64).length = x.length - min x.length 64 := by rw [List.length_drop]; omega
    have block := plOne_plBlock ((chunksN 64 k (x.drop 64)).flatMap plBlock) (x := x.take 64) (by omega)
      fun v hv => samples v (List.mem_of_mem_take hv)
    have tail := ih (x.drop 64) (fun v hv => samples v (List.mem_of_mem_drop hv)) (by omega) (by omega)
    rw [front] at block
    rw [back] at tail
    rw [plMany, chunksN, List.flatMap_cons, if_neg (by omega : ¬x.length = 0), block]
    simp only [tail, Option.map_some, List.take_append_drop]

theorem plEncode_length_le (k : Nat) : ∀ x : List Nat, x.length = 64 * k →
    ((chunksN 64 k x).flatMap plBlock).length ≤ 129 * k := by
  induction k with
  | zero => intro x _; simp [chunksN]
  | succ k ih =>
    intro x len
    have front : (x.take 64).length = 64 := by rw [List.length_take]; omega
    have block := plBlock_length_le (x := x.take 64) (by omega)
    have tail := ih (x.drop 64) (by rw [List.length_drop]; omega)
    rw [chunksN, List.flatMap_cons, List.length_append]
    omega

theorem chunksN_length {α : Type} (n k : Nat) (l : List α) : (chunksN n k l).length = k := by
  induction k generalizing l with
  | zero => rfl
  | succ k ih => rw [chunksN, List.length_cons, ih]

theorem flatten_chunksN {α : Type} (n : Nat) : ∀ (k : Nat) (l : List α), l.length = n * k →
    (chunksN n k l).flatten = l ∧ ∀ c ∈ chunksN n k l, c.length = n := by
  intro k
  induction k with
  | zero => intro l len; simpa [chunksN] using List.eq_nil_of_length_eq_zero len
  | succ k ih =>
    intro l len
    rw [Nat.mul_succ] at len
    obtain ⟨join, each⟩ := ih (l.drop n) (by rw [List.length_drop]; omega)
    refine ⟨by rw [chunksN, List.flatten_cons, join, List.take_append_drop], List.forall_mem_cons.2 ⟨?_, each⟩⟩
    rw [List.length_take]
    omega

theorem plSamples_length (b : Bytes) : (plSamples b).length = b.length / 2 := by
  rw [plSamples, List.length_map, chunksN_length]

/-- The samples of an even string, written again, are the string. -/
theorem flatMap_leBytes_plSamples {b : Bytes} (even : b.length % 2 = 0) : (plSamples b).flatMap (leBytes 2) = b := by
  obtain ⟨join, pairs⟩ := flatten_chunksN 2 (b.length / 2) b (by omega)
  rw [plSamples, List.flatMap_def, List.map_map]
  refine Eq.trans (congrArg List.flatten ((List.map_congr_left fun c hc => ?_).trans (List.map_id _))) join
  have undo := leBytes_ofLe c
  rwa [pairs c hc] at undo

theorem plSamples_lt {b : Bytes} (even : b.length % 2 = 0) : ∀ v ∈ plSamples b, v < 65536 := by
  obtain ⟨-, pairs⟩ := flatten_chunksN 2 (b.length / 2) b (by omega)
  intro v hv
  obtain ⟨c, hc, rfl⟩ := List.mem_map.1 hv
  have := ofLe_lt c
  rwa [pairs c hc] at this

theorem decodeSeg_plEncode {b : Bytes} (even : b.length % 2 = 0) : decodeSeg 2 b.length (plEncode b) = some b := by
  have len := plSamples_length b
  have blocks : ceilDiv (plSamples b).length 64 = ceilDiv b.length 128 := by rw [len]; unfold ceilDiv; omega
  have many := plMany_chunks (ceilDiv b.length 128) (plSamples b) (plSamples_lt even) (by rw [len]; unfold ceilDiv; omega)
    (by rw [len]; unfold ceilDiv; omega)
  rw [len] at many
  rw [decodeSeg, if_pos even, plEncode]
  simp only [blocks, many, Option.map_some, flatMap_leBytes_plSamples even]

/-- Settles O55: a block, a segment, and what the decoder refuses. -/
theorem pixelLosslessIsExact : Obligations.PixelLosslessIsExact := by
  refine ⟨fun x one _ samples => ?_, fun b len => ?_, fun n b => plOne_of_width_gt, fun n b _ => plOne_of_stray_bit,
    fun b even => ⟨plEncode b, by rw [encodeSeg, if_pos even], decodeSeg_plEncode even⟩⟩
  · rw [byteAt_plBlock one]
    exact ⟨plWidth_le x, plResid_lt_width x, fun w hw => exists_wide_residual hw, plBlock_length_le one,
      fun r => plOne_plBlock r one samples⟩
  · have samples : (plSamples b).length = 64 * 32 := by rw [plSamples_length, len]
    have bound := plEncode_length_le 32 (plSamples b) samples
    rw [plEncode, samples]
    exact bound

end Sys2Proof
end

section
/-!
PROOF. One step (log 1) and the state after reset (13 R346, R347).
-/
namespace Sys2Proof.Machine

/-- Settles O1: by the definition of `step`. -/
theorem stepRunsFrontCommand : Obligations.StepRunsFrontCommand := by
  intro s c rest queue
  simp only [step, queue, State.withPending]

/-! ## A tick with nothing in progress -/

theorem tickKeyholder_of_idle {s : State} (h : s.kh.run = []) : tickKeyholder s = s := by
  simp only [tickKeyholder, h]

theorem keyedServed_of_none {s : State} (h : s.dict.keyed = none) : keyedServed s = s := by
  simp only [keyedServed, h]

theorem serveLater_of_nil {s : State} (h : s.dict.later = []) : serveLater s = s := by
  simp only [serveLater, h]

theorem powerOn_of_not_held {s : State} (h : s.pwr.held = false) : powerOn s = s := by
  simp [powerOn, h]

theorem tickUpdate_of_not_verifying {s : State} (h : ∀ n, s.flash.upd ≠ some (.verifying n)) : tickUpdate s = s := by
  unfold tickUpdate
  split
  next n upd => exact absurd upd (h n)
  next => rfl

/-- The clocks and timers that a tick moves by 1 ns. -/
def clocked (s : State) : State :=
  { s with
    now := s.now + 1
    erq.time := if domOn s dHOST && !s.pwr.clkLost.getLsbD 0 then s.erq.time + 1 else s.erq.time
    scrub := if domOn s dMEM then s.scrub.map (fun x => { x with age := x.age + 1 }) else s.scrub
    obj.q := tmap {} (fun q x => { x with job := x.job.map (tickJob s q) }) s.obj.q
    txn.tags := tmap none (fun _ g => g.map (tickTag s)) s.txn.tags
    tile := tmap {} (fun t x => if progRuns s t then { x with prog := x.prog + 1 } else x) s.tile }

/-- A tick moves the clocks, then what is in progress goes on. -/
theorem tick_eq (s : State) : tick s = serveLater (powerOn (tickUpdate (keyedServed (tickKeyholder (clocked s))))) := rfl

theorem clocked_time_of_on {s : State} (on : domOn s dHOST = true) (clock : s.pwr.clkLost.getLsbD 0 = false) :
    (clocked s).erq.time = s.erq.time + 1 := by
  simpa [clocked, on] using clock

theorem clocked_time_of_off {s : State} (off : domOn s dHOST = false ∨ s.pwr.clkLost.getLsbD 0 = true) :
    (clocked s).erq.time = s.erq.time := by
  rcases off with off | off <;> simp [clocked, off]

/-- Settles O2: nothing is in progress, so a tick moves the clocks and timers alone. -/
theorem emptyQueueTicks : Obligations.EmptyQueueTicks := by
  intro s queue kh later keyed held upd
  have idle : tick s = clocked s := by
    rw [tick_eq, tickKeyholder_of_idle (s := clocked s) kh, keyedServed_of_none (s := clocked s) keyed,
      tickUpdate_of_not_verifying (s := clocked s) upd, powerOn_of_not_held (s := clocked s) held,
      serveLater_of_nil (s := clocked s) later]
  refine ⟨clocked s, by simp only [step, queue, idle], rfl, queue, rfl, rfl, rfl, rfl, rfl, rfl, rfl, rfl, ?_, ?_⟩
  · exact clocked_time_of_on
  · exact clocked_time_of_off

/-- Settles O3: each register of the reset state, evaluated. -/
theorem resetState : Obligations.ResetState := by
  refine ⟨rfl, rfl, rfl, rfl, rfl, rfl, rfl, rfl, rfl, rfl, rfl, rfl, rfl, rfl, rfl, rfl, rfl, rfl, rfl, rfl, rfl, rfl, rfl, rfl, rfl,
    by decide, rfl, rfl, rfl, rfl, rfl, rfl, rfl, by decide, by decide⟩

/-- Settles O4: each table of the reset state is the empty one. -/
theorem resetTablesWf : Obligations.ResetTablesWf := by
  constructor
  · decide
  · decide

end Sys2Proof.Machine
end

section
/-!
PROOF. What an operation may change. A `Part` is a piece of the state; `Within l s t` says that `t` differs from `s` in the parts
`l` alone, and that each of them has kept its form. One lemma per operation names the parts it reaches; what it leaves as it was, and
what every step keeps, follow from the list.
-/
namespace Sys2Proof.Machine

/-- A piece of the state. Where pieces of a unit are listed, the piece with the unit's own name is the rest of it. -/
inductive Part where
  | now | free | out | held | scrub | vb | biv | quad | tile | mesh | hbm | port | cvu
  | pwrDue | pwrClk | pwrDll | pwrCfg | pwrMc | pwrRst | pwr
  | pmbErr | tele
  | erqIn | erq
  | msix | msixCtl | bars | dep | owned | hif
  | ctx | queue | mo | ev | obj
  | txns | tags | quar | hold | txn
  | route | rtDirty | transitDrop | loaded | fab
  | pairSt | leaving | cseq | before | pair
  | ctxKey | jobKey | memKey | gcmKey | ret | chassis | dbg | nonce | khCtl | rngOk | jtag | kh
  | seals | sealRows | sealStage | sealer
  | replay | rcv
  | qp | ethPort | eth
  | stat | val | challenge | dict
  | bank0 | bank1 | revoked | minSvn | wrapped | flash
  | capC | shift | rtc
  deriving DecidableEq

/-- The graft of `pwr`. -/
def pwrGraft (l : List Part) (t s : Pwr) : Pwr :=
  { cond (l.contains .pwr) s t with
    due := cond (l.contains .pwrDue) s.due t.due
    clkLost := cond (l.contains .pwrClk) s.clkLost t.clkLost
    dllUp := cond (l.contains .pwrDll) s.dllUp t.dllUp
    rate := cond (l.contains .pwrDll) s.rate t.rate
    width := cond (l.contains .pwrDll) s.width t.width
    cxl := cond (l.contains .pwrCfg) s.cxl t.cxl
    relaxed := cond (l.contains .pwrCfg) s.relaxed t.relaxed
    mcAt := cond (l.contains .pwrMc) s.mcAt t.mcAt
    rstCold := cond (l.contains .pwrRst) s.rstCold t.rstCold
    rstCore := cond (l.contains .pwrRst) s.rstCore t.rstCore }

/-- The graft of `tele`. -/
def teleGraft (l : List Part) (t s : Tele) : Tele :=
  { cond (l.contains .tele) s t with
    pmbErr := cond (l.contains .pmbErr) s.pmbErr t.pmbErr }

/-- The graft of `erq`. -/
def erqGraft (l : List Part) (t s : Erq) : Erq :=
  { cond (l.contains .erq) s t with
    incoming := cond (l.contains .erqIn) s.incoming t.incoming }

/-- The graft of `hif`. -/
def hifGraft (l : List Part) (t s : Hif) : Hif :=
  { cond (l.contains .hif) s t with
    msix := cond (l.contains .msix) s.msix t.msix
    msixEn := cond (l.contains .msixCtl) s.msixEn t.msixEn
    msixMask := cond (l.contains .msixCtl) s.msixMask t.msixMask
    bars := cond (l.contains .bars) s.bars t.bars
    dep := cond (l.contains .dep) s.dep t.dep
    owned := cond (l.contains .owned) s.owned t.owned }

/-- The graft of `obj`. -/
def objGraft (l : List Part) (t s : Obj) : Obj :=
  { cond (l.contains .obj) s t with
    ctx := cond (l.contains .ctx) s.ctx t.ctx
    q := cond (l.contains .queue) s.q t.q
    mo := cond (l.contains .mo) s.mo t.mo
    ev := cond (l.contains .ev) s.ev t.ev }

/-- The graft of `txn`. -/
def txnGraft (l : List Part) (t s : TxnEng) : TxnEng :=
  { cond (l.contains .txn) s t with
    txns := cond (l.contains .txns) s.txns t.txns
    tags := cond (l.contains .tags) s.tags t.tags
    quar := cond (l.contains .quar) s.quar t.quar
    hold := cond (l.contains .hold) s.hold t.hold }

/-- The graft of `fab`. -/
def fabGraft (l : List Part) (t s : Fab) : Fab :=
  { cond (l.contains .fab) s t with
    route := cond (l.contains .route) s.route t.route
    rtDirty := cond (l.contains .rtDirty) s.rtDirty t.rtDirty
    transitDrop := cond (l.contains .transitDrop) s.transitDrop t.transitDrop
    loaded := cond (l.contains .loaded) s.loaded t.loaded }

/-- The graft of `pair`. -/
def pairGraft (l : List Part) (t s : Pair) : Pair :=
  { cond (l.contains .pair) s t with
    st := cond (l.contains .pairSt) s.st t.st
    leaving := cond (l.contains .leaving) s.leaving t.leaving
    cseq := cond (l.contains .cseq) s.cseq t.cseq
    before := cond (l.contains .before) s.before t.before }

/-- The graft of `kh`. -/
def khGraft (l : List Part) (t s : Kh) : Kh :=
  { cond (l.contains .kh) s t with
    ctxKey := cond (l.contains .ctxKey) s.ctxKey t.ctxKey
    jobKey := cond (l.contains .jobKey) s.jobKey t.jobKey
    memKey := cond (l.contains .memKey) s.memKey t.memKey
    gcmKey := cond (l.contains .gcmKey) s.gcmKey t.gcmKey
    ret := cond (l.contains .ret) s.ret t.ret
    chassis := cond (l.contains .chassis) s.chassis t.chassis
    dbg := cond (l.contains .dbg) s.dbg t.dbg
    nonce := cond (l.contains .nonce) s.nonce t.nonce
    busy := cond (l.contains .khCtl) s.busy t.busy
    done := cond (l.contains .khCtl) s.done t.done
    code := cond (l.contains .khCtl) s.code t.code
    key := cond (l.contains .khCtl) s.key t.key
    result := cond (l.contains .khCtl) s.result t.result
    grant := cond (l.contains .khCtl) s.grant t.grant
    rngOk := cond (l.contains .rngOk) s.rngOk t.rngOk
    jtag := cond (l.contains .jtag) s.jtag t.jtag }

/-- The graft of `sealer`. -/
def sealerGraft (l : List Part) (t s : SealEng) : SealEng :=
  { cond (l.contains .sealer) s t with
    slots := cond (l.contains .seals) s.slots t.slots
    rows := cond (l.contains .sealRows) s.rows t.rows
    stage := cond (l.contains .sealStage) s.stage t.stage }

/-- The graft of `rcv`. -/
def rcvGraft (l : List Part) (t s : Rcv) : Rcv :=
  { cond (l.contains .rcv) s t with
    replay := cond (l.contains .replay) s.replay t.replay }

/-- The graft of `eth`. -/
def ethGraft (l : List Part) (t s : Eth) : Eth :=
  { cond (l.contains .eth) s t with
    qp := cond (l.contains .qp) s.qp t.qp
    port := cond (l.contains .ethPort) s.port t.port }

/-- The graft of `dict`. -/
def dictGraft (l : List Part) (t s : Dict) : Dict :=
  { cond (l.contains .dict) s t with
    stat := cond (l.contains .stat) s.stat t.stat
    val := cond (l.contains .val) s.val t.val
    challenge := cond (l.contains .challenge) s.challenge t.challenge }

/-- The graft of `flash`. -/
def flashGraft (l : List Part) (t s : Flash) : Flash :=
  { cond (l.contains .flash) s t with
    bank0 := cond (l.contains .bank0) s.bank0 t.bank0
    bank1 := cond (l.contains .bank1) s.bank1 t.bank1
    revoked := cond (l.contains .revoked) s.revoked t.revoked
    minSvn := cond (l.contains .minSvn) s.minSvn t.minSvn
    chassis := cond (l.contains .wrapped) s.chassis t.chassis }

/-- The graft of `rtc`. -/
def rtcGraft (l : List Part) (t s : Rtc) : Rtc :=
  { cond (l.contains .rtc) s t with
    capC := cond (l.contains .capC) s.capC t.capC
    shift := cond (l.contains .shift) s.shift t.shift }

/-- `t` with the parts `l` put back as `s` has them. -/
def graft (l : List Part) (t s : State) : State where
  pending := t.pending
  id := t.id
  now := cond (l.contains .now) s.now t.now
  free := cond (l.contains .free) s.free t.free
  out := cond (l.contains .out) s.out t.out
  held := cond (l.contains .held) s.held t.held
  scrub := cond (l.contains .scrub) s.scrub t.scrub
  vb := cond (l.contains .vb) s.vb t.vb
  biv := cond (l.contains .biv) s.biv t.biv
  quad := cond (l.contains .quad) s.quad t.quad
  tile := cond (l.contains .tile) s.tile t.tile
  mesh := cond (l.contains .mesh) s.mesh t.mesh
  hbm := cond (l.contains .hbm) s.hbm t.hbm
  port := cond (l.contains .port) s.port t.port
  cvu := cond (l.contains .cvu) s.cvu t.cvu
  pwr := pwrGraft l t.pwr s.pwr
  tele := teleGraft l t.tele s.tele
  erq := erqGraft l t.erq s.erq
  hif := hifGraft l t.hif s.hif
  obj := objGraft l t.obj s.obj
  txn := txnGraft l t.txn s.txn
  fab := fabGraft l t.fab s.fab
  pair := pairGraft l t.pair s.pair
  kh := khGraft l t.kh s.kh
  sealer := sealerGraft l t.sealer s.sealer
  rcv := rcvGraft l t.rcv s.rcv
  eth := ethGraft l t.eth s.eth
  dict := dictGraft l t.dict s.dict
  flash := flashGraft l t.flash s.flash
  rtc := rtcGraft l t.rtc s.rtc

/-- Every table of the state is in canonical form, by name. -/
structure Formed (s : State) : Prop where
  hbm : tabWf 0 s.hbm = true
  bank0 : tabWf 0xFF s.flash.bank0 = true
  bank1 : tabWf 0xFF s.flash.bank1 = true
  msix : tabWf 0 s.hif.msix = true
  ctx : tabWf {} s.obj.ctx = true
  queue : tabWf {} s.obj.q = true
  mo : tabWf {} s.obj.mo = true
  ev : tabWf {} s.obj.ev = true
  qp : tabWf {} s.eth.qp = true
  dep : tabWf {} s.hif.dep = true
  txns : tabWf none s.txn.txns = true
  tags : tabWf none s.txn.tags = true
  quar : tabWf 0 s.txn.quar = true
  ctxKey : tabWf none s.kh.ctxKey = true
  memKey : tabWf none s.kh.memKey = true
  jobKey : tabWf {} s.kh.jobKey = true
  gcmKey : tabWf none s.kh.gcmKey = true
  seals : tabWf {} s.sealer.slots = true
  stat : tabWf 0 s.dict.stat = true
  val : tabWf [] s.dict.val = true
  owned : tabWf false s.hif.owned = true
  held : tabWf 0 s.held = true
  hold : tabWf false s.txn.hold = true
  tile : tabWf {} s.tile = true
  tiles : ∀ e ∈ s.tile, e.2.wf = true
  ret : ∀ r, s.kh.ret = some r → tabWf none r.ctxKey = true ∧ tabWf none r.jobKey = true

theorem formed_iff (s : State) : Formed s ↔ Tables.wf s = true := by
  rw [tables_wf_iff]
  constructor
  · rintro ⟨⟩
    exact ⟨⟨‹_›, ‹_›, ‹_›, ‹_›⟩, ‹_›, ‹_›, ‹_›, ‹_›, ‹_›, ‹_›, ‹_›, ‹_›, ‹_›, ‹_›, ‹_›, ‹_›, ‹_›, ‹_›, ‹_›, ‹_›, ‹_›, ‹_›, ‹_›, ‹_›,
      ‹_›, ‹_›⟩
  · rintro ⟨⟨_, _, _, _⟩, _, _, _, _, _, _, _, _, _, _, _, _, _, _, _, _, _, _, _, _, _, _⟩
    constructor <;> assumption

/-- The form that a part keeps from `s` to `t`: a table its canonical form, a list of units its length, a fuse what is set. -/
def Part.Ok (s t : State) : Part → Prop
  | .hbm => Formed s → tabWf 0 t.hbm = true
  | .bank0 => Formed s → tabWf 0xFF t.flash.bank0 = true
  | .bank1 => Formed s → tabWf 0xFF t.flash.bank1 = true
  | .msix => Formed s → tabWf 0 t.hif.msix = true
  | .ctx => Formed s → tabWf {} t.obj.ctx = true
  | .queue => Formed s → tabWf {} t.obj.q = true
  | .mo => Formed s → tabWf {} t.obj.mo = true
  | .ev => Formed s → tabWf {} t.obj.ev = true
  | .qp => Formed s → tabWf {} t.eth.qp = true
  | .dep => Formed s → tabWf {} t.hif.dep = true
  | .txns => Formed s → tabWf none t.txn.txns = true
  | .tags => Formed s → tabWf none t.txn.tags = true
  | .quar => Formed s → tabWf 0 t.txn.quar = true
  | .ctxKey => Formed s → tabWf none t.kh.ctxKey = true
  | .memKey => Formed s → tabWf none t.kh.memKey = true
  | .jobKey => Formed s → tabWf {} t.kh.jobKey = true
  | .gcmKey => Formed s → tabWf none t.kh.gcmKey = true
  | .seals => Formed s → tabWf {} t.sealer.slots = true
  | .stat => Formed s → tabWf 0 t.dict.stat = true
  | .val => Formed s → tabWf [] t.dict.val = true
  | .owned => Formed s → tabWf false t.hif.owned = true
  | .held => Formed s → tabWf 0 t.held = true
  | .hold => Formed s → tabWf false t.txn.hold = true
  | .tile => Formed s → tabWf {} t.tile = true ∧ ∀ e ∈ t.tile, e.2.wf = true
  | .ret => Formed s → ∀ r, t.kh.ret = some r → tabWf none r.ctxKey = true ∧ tabWf none r.jobKey = true
  | .scrub => s.scrub.length = 4 → t.scrub.length = 4
  | .quad => s.quad.length = 4 → t.quad.length = 4
  | .port => s.port.length = 8 → t.port.length = 8
  | .cvu => s.cvu.length = 4 → t.cvu.length = 4
  | .ethPort => s.eth.port.length = 2 → t.eth.port.length = 2
  | .revoked => s.flash.revoked &&& t.flash.revoked = s.flash.revoked
  | .minSvn => s.flash.minSvn.toNat ≤ t.flash.minSvn.toNat
  | _ => True

/-- Every part of a list keeps its form. -/
def AllOk (s t : State) : List Part → Prop
  | [] => True
  | p :: l => p.Ok s t ∧ AllOk s t l

/-- A part that has no form to keep. -/
def Part.plain : Part → Bool
  | .now | .free | .out | .vb | .biv | .mesh | .pwrDue | .pwrClk | .pwrDll | .pwrCfg | .pwrMc | .pwrRst | .pwr | .pmbErr | .tele
  | .erqIn | .erq | .msixCtl | .bars | .hif | .obj | .txn | .route | .rtDirty | .transitDrop | .loaded | .fab | .pairSt | .leaving
  | .cseq | .before | .pair | .chassis | .dbg | .nonce | .khCtl | .rngOk | .jtag | .kh | .sealRows | .sealStage | .sealer
  | .replay | .rcv | .eth | .challenge | .dict | .wrapped | .flash | .capC | .shift | .rtc => true
  | _ => false

/-- `t` differs from `s` in the parts `l` alone, and each of them keeps its form. -/
structure Within (l : List Part) (s t : State) : Prop where
  same : graft l t s = s
  ok : AllOk s t l

/-! ## Composing -/

theorem cond_cond_same {α : Type} (b : Bool) (x y z : α) : cond b x (cond b y z) = cond b x z := by cases b <;> rfl

theorem cond_cond_of_imp {α : Type} {a b : Bool} (h : a = true → b = true) (x z : α) : cond b x (cond a x z) = cond b x z := by
  cases a <;> cases b <;> simp_all

/-- The parts `l` are all among `m`. -/
abbrev Sub (l m : List Part) : Prop := l.all m.contains = true

theorem pwrGraft_pwrGraft (l : List Part) (u t s : Pwr) : pwrGraft l (pwrGraft l u t) s = pwrGraft l u s := by
  unfold pwrGraft
  cases l.contains .pwr <;> simp only [cond_cond_same, cond_true, cond_false]

theorem teleGraft_teleGraft (l : List Part) (u t s : Tele) : teleGraft l (teleGraft l u t) s = teleGraft l u s := by
  unfold teleGraft
  cases l.contains .tele <;> simp only [cond_cond_same, cond_true, cond_false]

theorem erqGraft_erqGraft (l : List Part) (u t s : Erq) : erqGraft l (erqGraft l u t) s = erqGraft l u s := by
  unfold erqGraft
  cases l.contains .erq <;> simp only [cond_cond_same, cond_true, cond_false]

theorem hifGraft_hifGraft (l : List Part) (u t s : Hif) : hifGraft l (hifGraft l u t) s = hifGraft l u s := by
  unfold hifGraft
  cases l.contains .hif <;> simp only [cond_cond_same, cond_true, cond_false]

theorem objGraft_objGraft (l : List Part) (u t s : Obj) : objGraft l (objGraft l u t) s = objGraft l u s := by
  unfold objGraft
  cases l.contains .obj <;> simp only [cond_cond_same, cond_true, cond_false]

theorem txnGraft_txnGraft (l : List Part) (u t s : TxnEng) : txnGraft l (txnGraft l u t) s = txnGraft l u s := by
  unfold txnGraft
  cases l.contains .txn <;> simp only [cond_cond_same, cond_true, cond_false]

theorem fabGraft_fabGraft (l : List Part) (u t s : Fab) : fabGraft l (fabGraft l u t) s = fabGraft l u s := by
  unfold fabGraft
  cases l.contains .fab <;> simp only [cond_cond_same, cond_true, cond_false]

theorem pairGraft_pairGraft (l : List Part) (u t s : Pair) : pairGraft l (pairGraft l u t) s = pairGraft l u s := by
  unfold pairGraft
  cases l.contains .pair <;> simp only [cond_cond_same, cond_true, cond_false]

theorem khGraft_khGraft (l : List Part) (u t s : Kh) : khGraft l (khGraft l u t) s = khGraft l u s := by
  unfold khGraft
  cases l.contains .kh <;> simp only [cond_cond_same, cond_true, cond_false]

theorem sealerGraft_sealerGraft (l : List Part) (u t s : SealEng) : sealerGraft l (sealerGraft l u t) s = sealerGraft l u s := by
  unfold sealerGraft
  cases l.contains .sealer <;> simp only [cond_cond_same, cond_true, cond_false]

theorem rcvGraft_rcvGraft (l : List Part) (u t s : Rcv) : rcvGraft l (rcvGraft l u t) s = rcvGraft l u s := by
  unfold rcvGraft
  cases l.contains .rcv <;> simp only [cond_cond_same, cond_true, cond_false]

theorem ethGraft_ethGraft (l : List Part) (u t s : Eth) : ethGraft l (ethGraft l u t) s = ethGraft l u s := by
  unfold ethGraft
  cases l.contains .eth <;> simp only [cond_cond_same, cond_true, cond_false]

theorem dictGraft_dictGraft (l : List Part) (u t s : Dict) : dictGraft l (dictGraft l u t) s = dictGraft l u s := by
  unfold dictGraft
  cases l.contains .dict <;> simp only [cond_cond_same, cond_true, cond_false]

theorem flashGraft_flashGraft (l : List Part) (u t s : Flash) : flashGraft l (flashGraft l u t) s = flashGraft l u s := by
  unfold flashGraft
  cases l.contains .flash <;> simp only [cond_cond_same, cond_true, cond_false]

theorem rtcGraft_rtcGraft (l : List Part) (u t s : Rtc) : rtcGraft l (rtcGraft l u t) s = rtcGraft l u s := by
  unfold rtcGraft
  cases l.contains .rtc <;> simp only [cond_cond_same, cond_true, cond_false]

theorem pwrGraft_mono {l m : List Part} (h : ∀ p, l.contains p = true → m.contains p = true) (t s : Pwr) :
    pwrGraft m (pwrGraft l t s) s = pwrGraft m t s := by
  have rest := h .pwr
  unfold pwrGraft
  cases hl : l.contains .pwr
  · cases m.contains .pwr <;> simp only [cond_cond_of_imp (h _), cond_true, cond_false]
  · simp only [rest hl, cond_cond_of_imp (h _), cond_true]

theorem teleGraft_mono {l m : List Part} (h : ∀ p, l.contains p = true → m.contains p = true) (t s : Tele) :
    teleGraft m (teleGraft l t s) s = teleGraft m t s := by
  have rest := h .tele
  unfold teleGraft
  cases hl : l.contains .tele
  · cases m.contains .tele <;> simp only [cond_cond_of_imp (h _), cond_true, cond_false]
  · simp only [rest hl, cond_cond_of_imp (h _), cond_true]

theorem erqGraft_mono {l m : List Part} (h : ∀ p, l.contains p = true → m.contains p = true) (t s : Erq) :
    erqGraft m (erqGraft l t s) s = erqGraft m t s := by
  have rest := h .erq
  unfold erqGraft
  cases hl : l.contains .erq
  · cases m.contains .erq <;> simp only [cond_cond_of_imp (h _), cond_true, cond_false]
  · simp only [rest hl, cond_cond_of_imp (h _), cond_true]

theorem hifGraft_mono {l m : List Part} (h : ∀ p, l.contains p = true → m.contains p = true) (t s : Hif) :
    hifGraft m (hifGraft l t s) s = hifGraft m t s := by
  have rest := h .hif
  unfold hifGraft
  cases hl : l.contains .hif
  · cases m.contains .hif <;> simp only [cond_cond_of_imp (h _), cond_true, cond_false]
  · simp only [rest hl, cond_cond_of_imp (h _), cond_true]

theorem objGraft_mono {l m : List Part} (h : ∀ p, l.contains p = true → m.contains p = true) (t s : Obj) :
    objGraft m (objGraft l t s) s = objGraft m t s := by
  have rest := h .obj
  unfold objGraft
  cases hl : l.contains .obj
  · cases m.contains .obj <;> simp only [cond_cond_of_imp (h _), cond_true, cond_false]
  · simp only [rest hl, cond_cond_of_imp (h _), cond_true]

theorem txnGraft_mono {l m : List Part} (h : ∀ p, l.contains p = true → m.contains p = true) (t s : TxnEng) :
    txnGraft m (txnGraft l t s) s = txnGraft m t s := by
  have rest := h .txn
  unfold txnGraft
  cases hl : l.contains .txn
  · cases m.contains .txn <;> simp only [cond_cond_of_imp (h _), cond_true, cond_false]
  · simp only [rest hl, cond_cond_of_imp (h _), cond_true]

theorem fabGraft_mono {l m : List Part} (h : ∀ p, l.contains p = true → m.contains p = true) (t s : Fab) :
    fabGraft m (fabGraft l t s) s = fabGraft m t s := by
  have rest := h .fab
  unfold fabGraft
  cases hl : l.contains .fab
  · cases m.contains .fab <;> simp only [cond_cond_of_imp (h _), cond_true, cond_false]
  · simp only [rest hl, cond_cond_of_imp (h _), cond_true]

theorem pairGraft_mono {l m : List Part} (h : ∀ p, l.contains p = true → m.contains p = true) (t s : Pair) :
    pairGraft m (pairGraft l t s) s = pairGraft m t s := by
  have rest := h .pair
  unfold pairGraft
  cases hl : l.contains .pair
  · cases m.contains .pair <;> simp only [cond_cond_of_imp (h _), cond_true, cond_false]
  · simp only [rest hl, cond_cond_of_imp (h _), cond_true]

theorem khGraft_mono {l m : List Part} (h : ∀ p, l.contains p = true → m.contains p = true) (t s : Kh) :
    khGraft m (khGraft l t s) s = khGraft m t s := by
  have rest := h .kh
  unfold khGraft
  cases hl : l.contains .kh
  · cases m.contains .kh <;> simp only [cond_cond_of_imp (h _), cond_true, cond_false]
  · simp only [rest hl, cond_cond_of_imp (h _), cond_true]

theorem sealerGraft_mono {l m : List Part} (h : ∀ p, l.contains p = true → m.contains p = true) (t s : SealEng) :
    sealerGraft m (sealerGraft l t s) s = sealerGraft m t s := by
  have rest := h .sealer
  unfold sealerGraft
  cases hl : l.contains .sealer
  · cases m.contains .sealer <;> simp only [cond_cond_of_imp (h _), cond_true, cond_false]
  · simp only [rest hl, cond_cond_of_imp (h _), cond_true]

theorem rcvGraft_mono {l m : List Part} (h : ∀ p, l.contains p = true → m.contains p = true) (t s : Rcv) :
    rcvGraft m (rcvGraft l t s) s = rcvGraft m t s := by
  have rest := h .rcv
  unfold rcvGraft
  cases hl : l.contains .rcv
  · cases m.contains .rcv <;> simp only [cond_cond_of_imp (h _), cond_true, cond_false]
  · simp only [rest hl, cond_cond_of_imp (h _), cond_true]

theorem ethGraft_mono {l m : List Part} (h : ∀ p, l.contains p = true → m.contains p = true) (t s : Eth) :
    ethGraft m (ethGraft l t s) s = ethGraft m t s := by
  have rest := h .eth
  unfold ethGraft
  cases hl : l.contains .eth
  · cases m.contains .eth <;> simp only [cond_cond_of_imp (h _), cond_true, cond_false]
  · simp only [rest hl, cond_cond_of_imp (h _), cond_true]

theorem dictGraft_mono {l m : List Part} (h : ∀ p, l.contains p = true → m.contains p = true) (t s : Dict) :
    dictGraft m (dictGraft l t s) s = dictGraft m t s := by
  have rest := h .dict
  unfold dictGraft
  cases hl : l.contains .dict
  · cases m.contains .dict <;> simp only [cond_cond_of_imp (h _), cond_true, cond_false]
  · simp only [rest hl, cond_cond_of_imp (h _), cond_true]

theorem flashGraft_mono {l m : List Part} (h : ∀ p, l.contains p = true → m.contains p = true) (t s : Flash) :
    flashGraft m (flashGraft l t s) s = flashGraft m t s := by
  have rest := h .flash
  unfold flashGraft
  cases hl : l.contains .flash
  · cases m.contains .flash <;> simp only [cond_cond_of_imp (h _), cond_true, cond_false]
  · simp only [rest hl, cond_cond_of_imp (h _), cond_true]

theorem rtcGraft_mono {l m : List Part} (h : ∀ p, l.contains p = true → m.contains p = true) (t s : Rtc) :
    rtcGraft m (rtcGraft l t s) s = rtcGraft m t s := by
  have rest := h .rtc
  unfold rtcGraft
  cases hl : l.contains .rtc
  · cases m.contains .rtc <;> simp only [cond_cond_of_imp (h _), cond_true, cond_false]
  · simp only [rest hl, cond_cond_of_imp (h _), cond_true]

theorem graft_graft (l : List Part) (u t s : State) : graft l (graft l u t) s = graft l u s := by
  unfold graft
  simp only [cond_cond_same, pwrGraft_pwrGraft, teleGraft_teleGraft, erqGraft_erqGraft, hifGraft_hifGraft, objGraft_objGraft, txnGraft_txnGraft, fabGraft_fabGraft, pairGraft_pairGraft, khGraft_khGraft, sealerGraft_sealerGraft, rcvGraft_rcvGraft, ethGraft_ethGraft, dictGraft_dictGraft, flashGraft_flashGraft, rtcGraft_rtcGraft]

theorem graft_mono {l m : List Part} (h : ∀ p, l.contains p = true → m.contains p = true) (t s : State) :
    graft m (graft l t s) s = graft m t s := by
  unfold graft
  simp only [cond_cond_of_imp (h _), pwrGraft_mono h, teleGraft_mono h, erqGraft_mono h, hifGraft_mono h, objGraft_mono h, txnGraft_mono h, fabGraft_mono h, pairGraft_mono h, khGraft_mono h, sealerGraft_mono h, rcvGraft_mono h, ethGraft_mono h, dictGraft_mono h, flashGraft_mono h, rtcGraft_mono h]

@[simp] theorem graft_self (l : List Part) (s : State) : graft l s s = s := by
  unfold graft
  simp only [pwrGraft, teleGraft, erqGraft, hifGraft, objGraft, txnGraft, fabGraft, pairGraft, khGraft, sealerGraft, rcvGraft, ethGraft, dictGraft, flashGraft, rtcGraft, Bool.cond_self]

/-! ## The form kept -/

theorem mem_of_contains {l : List Part} {p : Part} (h : l.contains p = true) : p ∈ l := by simpa using h

theorem allOk_iff {s t : State} {l : List Part} : AllOk s t l ↔ ∀ p ∈ l, p.Ok s t := by
  induction l with
  | nil => simp [AllOk]
  | cons p l ih => simp [AllOk, ih]

namespace Within

variable {l m : List Part} {s t u : State}

theorem ok_of_contains (w : Within l s t) {p : Part} (h : l.contains p = true) : p.Ok s t :=
  allOk_iff.1 w.ok p (mem_of_contains h)

/-- A part outside the list is as it was: `f` reads it through the graft. -/
theorem read (w : Within l s t) {β : Type} (f : State → β) : f (graft l t s) = f s := congrArg f w.same

/-- What held of a part holds of it still, where the part keeps it. -/
theorem keep (w : Within l s t) (p : Part) {β : Type} (x : State → β) (P : β → Prop) (h : P (x s))
    (ok : p.Ok s t → P (x t)) (at_p : ∀ a b, x (graft l a b) = cond (l.contains p) (x b) (x a)) : P (x t) := by
  cases hp : l.contains p
  · have same := w.read x
    rw [at_p, hp, cond_false] at same
    exact same ▸ h
  · exact ok (w.ok_of_contains hp)

theorem keepTable (w : Within l s t) (p : Part) {α : Type} [DecidableEq α] {d : α} (x : State → Tab α) (h : tabWf d (x s) = true)
    (ok : p.Ok s t → tabWf d (x t) = true) (at_p : ∀ a b, x (graft l a b) = cond (l.contains p) (x b) (x a)) :
    tabWf d (x t) = true := w.keep p x (fun y => tabWf d y = true) h ok at_p

theorem formed (w : Within l s t) (f : Formed s) : Formed t where
  hbm := w.keepTable .hbm (·.hbm) f.hbm (· f) fun _ _ => rfl
  bank0 := w.keepTable .bank0 (·.flash.bank0) f.bank0 (· f) fun _ _ => rfl
  bank1 := w.keepTable .bank1 (·.flash.bank1) f.bank1 (· f) fun _ _ => rfl
  msix := w.keepTable .msix (·.hif.msix) f.msix (· f) fun _ _ => rfl
  ctx := w.keepTable .ctx (·.obj.ctx) f.ctx (· f) fun _ _ => rfl
  queue := w.keepTable .queue (·.obj.q) f.queue (· f) fun _ _ => rfl
  mo := w.keepTable .mo (·.obj.mo) f.mo (· f) fun _ _ => rfl
  ev := w.keepTable .ev (·.obj.ev) f.ev (· f) fun _ _ => rfl
  qp := w.keepTable .qp (·.eth.qp) f.qp (· f) fun _ _ => rfl
  dep := w.keepTable .dep (·.hif.dep) f.dep (· f) fun _ _ => rfl
  txns := w.keepTable .txns (·.txn.txns) f.txns (· f) fun _ _ => rfl
  tags := w.keepTable .tags (·.txn.tags) f.tags (· f) fun _ _ => rfl
  quar := w.keepTable .quar (·.txn.quar) f.quar (· f) fun _ _ => rfl
  ctxKey := w.keepTable .ctxKey (·.kh.ctxKey) f.ctxKey (· f) fun _ _ => rfl
  memKey := w.keepTable .memKey (·.kh.memKey) f.memKey (· f) fun _ _ => rfl
  jobKey := w.keepTable .jobKey (·.kh.jobKey) f.jobKey (· f) fun _ _ => rfl
  gcmKey := w.keepTable .gcmKey (·.kh.gcmKey) f.gcmKey (· f) fun _ _ => rfl
  seals := w.keepTable .seals (·.sealer.slots) f.seals (· f) fun _ _ => rfl
  stat := w.keepTable .stat (·.dict.stat) f.stat (· f) fun _ _ => rfl
  val := w.keepTable .val (·.dict.val) f.val (· f) fun _ _ => rfl
  owned := w.keepTable .owned (·.hif.owned) f.owned (· f) fun _ _ => rfl
  held := w.keepTable .held (·.held) f.held (· f) fun _ _ => rfl
  hold := w.keepTable .hold (·.txn.hold) f.hold (· f) fun _ _ => rfl
  tile := w.keep .tile (·.tile) (fun x => tabWf {} x = true) f.tile (fun ok => (ok f).1) fun _ _ => rfl
  tiles := w.keep .tile (·.tile) (fun x => ∀ e ∈ x, e.2.wf = true) f.tiles (fun ok => (ok f).2) fun _ _ => rfl
  ret := w.keep .ret (·.kh.ret) (fun x => ∀ r, x = some r → tabWf none r.ctxKey = true ∧ tabWf none r.jobKey = true) f.ret
    (· f) fun _ _ => rfl

theorem revoked (w : Within l s t) : s.flash.revoked &&& t.flash.revoked = s.flash.revoked :=
  w.keep .revoked (·.flash.revoked) (fun x => s.flash.revoked &&& x = s.flash.revoked) BitVec.and_self id fun _ _ => rfl
theorem minSvn (w : Within l s t) : s.flash.minSvn.toNat ≤ t.flash.minSvn.toNat :=
  w.keep .minSvn (·.flash.minSvn) (fun x => s.flash.minSvn.toNat ≤ x.toNat) le_rfl id fun _ _ => rfl
theorem scrub_length (w : Within l s t) : s.scrub.length = 4 → t.scrub.length = 4 :=
  w.keep .scrub (·.scrub) (fun x => s.scrub.length = 4 → x.length = 4) id id fun _ _ => rfl
theorem quad_length (w : Within l s t) : s.quad.length = 4 → t.quad.length = 4 :=
  w.keep .quad (·.quad) (fun x => s.quad.length = 4 → x.length = 4) id id fun _ _ => rfl
theorem port_length (w : Within l s t) : s.port.length = 8 → t.port.length = 8 :=
  w.keep .port (·.port) (fun x => s.port.length = 8 → x.length = 8) id id fun _ _ => rfl
theorem cvu_length (w : Within l s t) : s.cvu.length = 4 → t.cvu.length = 4 :=
  w.keep .cvu (·.cvu) (fun x => s.cvu.length = 4 → x.length = 4) id id fun _ _ => rfl
theorem ethPort_length (w : Within l s t) : s.eth.port.length = 2 → t.eth.port.length = 2 :=
  w.keep .ethPort (·.eth.port) (fun x => s.eth.port.length = 2 → x.length = 2) id id fun _ _ => rfl

/-- What every command keeps follows from the parts' forms. -/
theorem kept (w : Within l s t) : Kept s t where
  pending := w.read (·.pending)
  id := w.read (·.id)
  revoked := w.revoked
  minSvn := w.minSvn
  tables h := (formed_iff t).1 (w.formed ((formed_iff s).2 h))
  units h := by
    simp only [Units.wf, Bool.and_eq_true, decide_eq_true_eq] at h ⊢
    obtain ⟨⟨⟨⟨scrub, quad⟩, port⟩, cvu⟩, eth⟩ := h
    exact ⟨⟨⟨⟨w.scrub_length scrub, w.quad_length quad⟩, w.port_length port⟩, w.cvu_length cvu⟩, w.ethPort_length eth⟩

end Within

/-- A part keeps its form over two changes. -/
theorem Part.Ok.trans {s t u : State} {p : Part} (f : Formed s → Formed t) (a : p.Ok s t) (b : p.Ok t u) : p.Ok s u := by
  cases p
  case revoked => exact (by rw [← a, BitVec.and_assoc, b] : s.flash.revoked &&& u.flash.revoked = s.flash.revoked)
  case minSvn => exact Nat.le_trans a b
  case scrub => exact fun h => b (a h)
  case quad => exact fun h => b (a h)
  case port => exact fun h => b (a h)
  case cvu => exact fun h => b (a h)
  case ethPort => exact fun h => b (a h)
  any_goals exact trivial
  all_goals exact fun h => b (f h)

/-- A part that is as it was has its form. -/
theorem Part.Ok.refl (s : State) (p : Part) : p.Ok s s := by
  cases p
  case revoked => exact BitVec.and_self
  case minSvn => exact Nat.le_refl _
  case scrub => exact id
  case quad => exact id
  case port => exact id
  case cvu => exact id
  case ethPort => exact id
  case ret => exact fun f => f.ret
  case tile => exact fun f => ⟨f.tile, f.tiles⟩
  any_goals exact trivial
  all_goals exact fun f => by cases f; assumption

namespace Within

variable {l m : List Part} {s t u : State}

@[simp] theorem refl (l : List Part) (s : State) : Within l s s := ⟨graft_self l s, allOk_iff.2 fun p _ => Part.Ok.refl s p⟩

theorem trans (a : Within l s t) (b : Within l t u) : Within l s u where
  same := by rw [← graft_graft l u t s, b.same, a.same]
  ok := allOk_iff.2 fun p hp => Part.Ok.trans a.formed (allOk_iff.1 a.ok p hp) (allOk_iff.1 b.ok p hp)

/-- Every part keeps its form, listed or not. -/
theorem ok_all (w : Within l s t) (p : Part) : p.Ok s t := by
  cases p
  case revoked => exact w.revoked
  case minSvn => exact w.minSvn
  case scrub => exact w.scrub_length
  case quad => exact w.quad_length
  case port => exact w.port_length
  case cvu => exact w.cvu_length
  case ethPort => exact w.ethPort_length
  case ret => exact fun f => (w.formed f).ret
  case tile => exact fun f => ⟨(w.formed f).tile, (w.formed f).tiles⟩
  any_goals exact trivial
  all_goals exact fun f => by cases w.formed f; assumption

/-- A list that holds more parts says less. -/
theorem sub (w : Within l s t) (h : Sub l m) : Within m s t where
  same := by
    have h : ∀ p, l.contains p = true → m.contains p = true := fun p hp => List.all_eq_true.1 h p (mem_of_contains hp)
    rw [← graft_mono h, w.same, graft_self]
  ok := allOk_iff.2 fun p _ => w.ok_all p

/-- One change after another. -/
theorem after (b : Within m t u) (a : Within l s t) : Within (l ++ m) s u :=
  (a.sub (List.all_eq_true.2 fun p hp => by simp [hp])).trans (b.sub (List.all_eq_true.2 fun p hp => by simp [hp]))

/-- A change of parts that have no form to keep. -/
theorem upd (l : List Part) (h : (graft l t s, l.all Part.plain) = (s, true)) : Within l s t := by
  obtain ⟨same, plain⟩ := Prod.mk.inj h
  refine ⟨same, allOk_iff.2 fun p hp => ?_⟩
  have := List.all_eq_true.1 plain p hp
  cases p
  any_goals exact trivial
  all_goals exact absurd this Bool.false_ne_true

/-- A change of parts that keep their form. -/
theorem of (l : List Part) (ok : AllOk s t l) (same : graft l t s = s) : Within l s t := ⟨same, ok⟩

theorem ite {c : Prop} [Decidable c] (a : Within l s t) (b : Within m s u) : Within (l ++ m) s (if c then t else u) := by
  split
  · exact a.sub (List.all_eq_true.2 fun p hp => by simp [hp])
  · exact b.sub (List.all_eq_true.2 fun p hp => by simp [hp])

theorem foldl {β : Type} {f : State → β → State} (h : ∀ s x, Within l s (f s x)) (xs : List β) :
    ∀ s, Within l s (xs.foldl f s) := by
  induction xs with
  | nil => exact refl l
  | cons x xs ih => exact fun s => (h s x).trans (ih _)

theorem each {f : Nat → State → State} (h : ∀ i s, Within l s (f i s)) (xs : List Nat) (s : State) :
    Within l s (Machine.each xs f s) := foldl (fun s x => h x s) xs s

/-- The state of a pair that a function answers. -/
theorem of_snd {α : Type} {p : α × State} {a : α} (h : p = (a, t)) (w : Within l s p.2) : Within l s t := by
  subst h
  exact w

end Within

/-! ## Tiles -/

theorem tile_wf {x : Tile} (win : tabWf {} x.win = true) (mem : tabWf 0 x.mem = true) (exa : tabWf Lane.clear x.exa = true) :
    x.wf = true := (tile_wf_iff x).2 ⟨win, mem, exa⟩

theorem Formed.tileOf {s : State} (f : Formed s) (t : Nat) : (Machine.tileOf s t).wf = true :=
  tileOf_wf s t ((formed_iff s).1 f)

theorem Formed.win {s : State} (f : Formed s) (t : Nat) : tabWf {} (Machine.tileOf s t).win = true :=
  ((tile_wf_iff _).1 (f.tileOf t)).1

theorem Formed.mem {s : State} (f : Formed s) (t : Nat) : tabWf 0 (Machine.tileOf s t).mem = true :=
  ((tile_wf_iff _).1 (f.tileOf t)).2.1

theorem Formed.exa {s : State} (f : Formed s) (t : Nat) : tabWf Lane.clear (Machine.tileOf s t).exa = true :=
  ((tile_wf_iff _).1 (f.tileOf t)).2.2

/-- A tile written in its form. -/
theorem within_setTile (s : State) (t : Nat) (x : Tile) (hx : Formed s → x.wf = true) :
    Within [.tile] s (setTile s t x) := by
  unfold setTile
  exact
  .of [.tile] ⟨fun f => ⟨tabWf_tput _ _ _ _ f.tile, fun e he => by
    rcases mem_tput _ _ _ _ _ he with he | rfl
    · exact f.tiles e he
    · exact hx f⟩, trivial⟩ (by rfl)

/-- A change of every tile that keeps a tile's form. -/
theorem Within.tiles {s : State} (g : Nat → Tile → Tile) (hg : ∀ t x, x.wf = true → (g t x).wf = true) :
    Within [.tile] s { s with tile := tmap {} g s.tile } :=
  .of [.tile] ⟨fun f => ⟨tabWf_tmap _ _ _ f.tile, fun e he => by
    obtain ⟨x, hx, rfl⟩ := List.mem_map.1 (List.mem_filter.1 he).1
    exact hg _ _ (f.tiles x hx)⟩, trivial⟩ (by rfl)

end Sys2Proof.Machine
end

section
/-!
PROOF. The parts that the shared operations on the state reach.
-/
namespace Sys2Proof.Machine
open Host

theorem within_setCvu (s : State) (c : Nat) (x : Cvu) : Within [.cvu] s (setCvu s c x) := by
  unfold setCvu
  exact .sub (.of [.cvu] ⟨(lset_length ..).trans, trivial⟩ (by rfl)) (by rfl)

theorem within_setCtx (s : State) (c : Nat) (x : Ctx) : Within [.ctx] s (setCtx s c x) := by
  unfold setCtx
  dsimp only
  exact .sub (.of [.ctx] ⟨fun f => tabWf_tput _ _ _ _ f.ctx, trivial⟩ (by rfl)) (by rfl)

theorem within_setQueue (s : State) (q : Nat) (x : Queue) : Within [.queue] s (setQueue s q x) := by
  unfold setQueue
  dsimp only
  exact .sub (.of [.queue] ⟨fun f => tabWf_tput _ _ _ _ f.queue, trivial⟩ (by rfl)) (by rfl)

theorem within_setMo (s : State) (m : Nat) (x : MemObj) : Within [.mo] s (setMo s m x) := by
  unfold setMo
  dsimp only
  exact .sub (.of [.mo] ⟨fun f => tabWf_tput _ _ _ _ f.mo, trivial⟩ (by rfl)) (by rfl)

theorem within_setEv (s : State) (e : Nat) (x : Event) : Within [.ev] s (setEv s e x) := by
  unfold setEv
  dsimp only
  exact .sub (.of [.ev] ⟨fun f => tabWf_tput _ _ _ _ f.ev, trivial⟩ (by rfl)) (by rfl)

theorem within_setSlot (s : State) (t : Nat) (n : Nat) (x : Slot) : Within [.tile] s (setSlot s t n x) := by
  unfold setSlot
  dsimp only
  exact .sub (within_setTile _ _ _ (by exact fun f => tile_wf (tabWf_tput _ _ _ _ (f.win _)) (f.mem _) (f.exa _))) (by rfl)

theorem within_setQuad (s : State) (q : Nat) (x : Quad) : Within [.quad] s (setQuad s q x) := by
  unfold setQuad
  exact .sub (.of [.quad] ⟨(lset_length ..).trans, trivial⟩ (by rfl)) (by rfl)

theorem within_setPort (s : State) (p : Nat) (x : Port) : Within [.port] s (setPort s p x) := by
  unfold setPort
  exact .sub (.of [.port] ⟨(lset_length ..).trans, trivial⟩ (by rfl)) (by rfl)

theorem within_setQp (s : State) (q : Nat) (x : Qp) : Within [.qp] s (setQp s q x) := by
  unfold setQp
  dsimp only
  exact .sub (.of [.qp] ⟨fun f => tabWf_tput _ _ _ _ f.qp, trivial⟩ (by rfl)) (by rfl)

theorem within_drawn (s : State) : Within [.free] s (drawn s) := by
  unfold drawn
  exact .sub (.upd [.free] (by rfl)) (by rfl)

theorem within_emit (s : State) (o : Out) : Within [.out] s (emit o s) := by
  unfold emit
  exact .sub (.upd [.out] (by rfl)) (by rfl)

theorem within_emitAll (s : State) (l : List Out) : Within [.out] s (emitAll l s) := by
  unfold emitAll
  exact .sub (.upd [.out] (by rfl)) (by rfl)

theorem within_bump (s : State) (index : Nat) (sub : Nat) (n : Nat) : Within [.stat] s (bump index sub n s) := by
  unfold bump
  dsimp only
  exact .sub (.of [.stat] ⟨fun f => tabWf_tput _ _ _ _ f.stat, trivial⟩ (by rfl)) (by rfl)

theorem within_canSend (s : State) (fc : Nat) (data : Bytes) : Within [.out, .dict] s (canSend fc data s) := by
  unfold canSend
  dsimp only
  exact .sub (.ite (.after (within_emit ..) (.upd [.dict] (by rfl))) (.refl [] _)) (by rfl)

theorem within_sendEmergency (s : State) (b : Bytes) : Within [.out, .dict] s (sendEmergency b s) := by
  unfold sendEmergency
  dsimp only
  split
  · exact .sub (.upd [.dict] (by rfl)) (by rfl)
  · exact .sub (.after (within_canSend ..) (.upd [.dict] (by rfl))) (by rfl)

theorem within_emergency (s : State) (e : ErrRec) : Within [.out, .dict] s (emergency e s) := by
  unfold emergency
  dsimp only
  exact .sub (.ite (.ite (within_sendEmergency ..) (.upd [.dict] (by rfl))) (.refl [] _)) (by rfl)

theorem within_stbyDrive (s : State) : Within [.out] s (stbyDrive s) := by
  unfold stbyDrive
  exact .sub (within_emit ..) (by rfl)

theorem within_record (s : State) (e : ErrRec) : Within [.erqIn] s (record e s) := by
  unfold record
  dsimp only
  exact .sub (.ite (.upd [.erqIn] (by rfl)) (.refl [] _)) (by rfl)

theorem within_raise (s : State) (e : ErrRec) : Within [.out, .erqIn, .dict] s (raise e s) := by
  unfold raise
  exact .sub (.after (within_record ..) (within_emergency ..)) (by rfl)

theorem within_owe (s : State) (e : ErrRec) : Within [.out, .pwrDue, .dict] s (owe e s) := by
  unfold owe
  dsimp only
  exact .sub (.after (.upd [.pwrDue] (by rfl)) (within_emergency ..)) (by rfl)

theorem within_aggregate (s : State) (kind : Nat) (key : Nat) (n : Nat) : Within [.txn] s (aggregate kind key n s).2 := by
  unfold aggregate
  dsimp only
  split
  · split
    · dsimp only
      exact .sub (.upd [.txn] (by rfl)) (by rfl)
    · dsimp only
      exact .sub (.upd [.txn] (by rfl)) (by rfl)
  · dsimp only
    exact .sub (.upd [.txn] (by rfl)) (by rfl)

theorem within_hostWrite (s : State) (addr : Nat) (data : Bytes) (owned : Bool) (use : HostUse) :
    Within [.out, .hif] s (hostWrite addr data owned use s) := by
  unfold hostWrite
  dsimp only
  exact .sub (.ite (.refl [] _) (.after (within_emit ..) (.upd [.hif] (by rfl)))) (by rfl)

theorem within_msixStore (s : State) (a : Nat) (b : Bytes) : Within [.msix] s (msixStore a b s) := by
  unfold msixStore
  dsimp only
  exact .sub (.of [.msix] ⟨fun f => tabWf_memWrite _ _ _ _ f.msix, trivial⟩ (by rfl)) (by rfl)

theorem within_msixPend (s : State) (v : Nat) (b : Bool) : Within [.msix] s (msixPend v b s) := by
  unfold msixPend
  dsimp only
  exact .sub (within_msixStore ..) (by rfl)

theorem within_msix (s : State) (v : BitVec 11) : Within [.out, .msix] s (msix v s) := by
  unfold msix
  exact .sub (.ite (.refl [] _) (.ite (within_msixPend ..) (within_emit ..))) (by rfl)

theorem within_msixRelease (s : State) : Within [.out, .msix] s (msixRelease s) := by
  unfold msixRelease
  exact .sub (.ite (.refl [] _) (.foldl (fun s x => .ite (.refl [] _) (.after (within_emit ..) (within_msixPend ..))) _ _)) (by rfl)

theorem within_msixIf (s : State) (v : Option (BitVec 11)) : Within [.out, .msix] s (msixIf v s) := by
  unfold msixIf
  split
  · exact .sub (within_msix ..) (by rfl)
  · exact .refl _ _

theorem within_hbmWrite (s : State) (pa : Nat) (b : Bytes) : Within [.hbm] s (hbmWrite pa b s) := by
  unfold hbmWrite
  exact .sub (.of [.hbm] ⟨fun f => tabWf_memWrite _ _ _ _ f.hbm, trivial⟩ (by rfl)) (by rfl)

theorem within_encLines (k : BitVec 256) (n : Nat) :
    ∀ (line : Nat) (b : Bytes) (s : State), Within [.hbm] s (encLines k n line b s) := by
  induction n with
  | zero => exact fun _ _ s => .refl _ s
  | succ n ih => exact fun _ _ _ => (within_hbmWrite ..).trans (ih ..)

theorem within_plainWrite (s : State) (k : BitVec 256) (pa : Nat) (b : Bytes) : Within [.hbm] s (plainWrite k pa b s) := by
  unfold plainWrite
  dsimp only
  exact .sub (.ite (.refl [] _) (within_encLines ..)) (by rfl)

theorem within_objWriteRaw (s : State) (m : MemObj) (off : Nat) (b : Bytes) : Within [.hbm] s (objWriteRaw m off b s) := by
  unfold objWriteRaw
  exact .sub (.ite (within_plainWrite ..) (within_hbmWrite ..)) (by rfl)

theorem within_queueFrames (s : State) (p : Nat) (l : List DFrame) : Within [.port] s (queueFrames p l s) := by
  unfold queueFrames
  dsimp only
  exact .sub (within_setPort ..) (by rfl)

theorem within_mirSend (s : State) (mtype : Nat) (arg : Nat) (body : Bytes) (use : MirUse) (ref : Option Nat) (bad : Nat) :
    Within [.port, .pair] s (mirSend mtype arg body use ref bad s) := by
  unfold mirSend
  dsimp only
  exact .sub (.after (.upd [.pair] (by rfl)) (within_queueFrames ..)) (by rfl)

theorem within_mirrorChunks (fuel : Nat) :
    ∀ (pa n : Nat) (s : State), Within [.port, .pair] s (mirrorChunks fuel pa n s).2 := by
  induction fuel with
  | zero => exact fun _ _ s => .refl _ s
  | succ f ih =>
    intro pa n s
    unfold mirrorChunks
    split
    · exact .refl _ _
    · exact (within_mirSend ..).trans (ih ..)

theorem within_objWrite (s : State) (m : MemObj) (off : Nat) (b : Bytes) :
    Within [.hbm, .port, .pair] s (objWrite m off b s).2 := by
  unfold objWrite
  dsimp only
  split
  · exact .sub (.after (within_mirrorChunks ..) (within_objWriteRaw ..)) (by rfl)
  · exact .sub (within_objWriteRaw ..) (by rfl)

theorem within_hostPieces (use : HostUse) (num : Nat) (m : MemObj) (fuel : Nat) :
    ∀ (off : Nat) (b : Bytes) (s : State), Within [.out, .hif] s (hostPieces use num m fuel off b s) := by
  induction fuel with
  | zero => exact fun _ _ s => .refl _ s
  | succ f ih =>
    intro off b s
    unfold hostPieces
    split
    · exact .refl _ _
    · exact (within_hostWrite ..).trans (ih ..)

theorem within_writePieces (use : HostUse) (c : Nat) (ps : List Piece) :
    ∀ (b : Bytes) (ms : List Nat) (s : State), Within [.out, .hbm, .port, .hif, .pair] s (writePieces use c ps b ms s).st := by
  induction ps with
  | nil => exact fun _ _ s => .refl _ s
  | cons p ps ih =>
    intro b ms s
    unfold writePieces
    split
    · exact .refl _ _
    · split
      · exact ((within_hostPieces ..).sub (by rfl)).trans (ih ..)
      · exact ((within_objWrite ..).sub (by rfl)).trans (ih ..)

theorem within_vaWrite (s : State) (use : HostUse) (c va : Nat) (b : Bytes) :
    Within [.out, .hbm, .port, .hif, .pair] s (vaWrite use c va b s).st := by
  unfold vaWrite
  dsimp only
  split <;> exact within_writePieces ..

theorem within_evNotify (s : State) (n : Nat) : Within [.out, .msix, .hif, .ev] s (evNotify n s) := by
  unfold evNotify
  dsimp only
  exact .sub (.ite (.ite (.after (within_msixIf ..) (within_setEv ..)) (.after (within_hostWrite ..) (within_setEv ..)))
      (.refl [] _)) (by rfl)

theorem within_markWaits (s : State) (c n : Nat) (p : Slot → Bool) (st : Nat) : Within [.tile] s (markWaits c n p st s) :=
  .tiles _ fun t x h => by
    obtain ⟨win, mem, exa⟩ := (tile_wf_iff x).1 h
    split
    · refine tile_wf ?_ mem exa
      dsimp only
      exact tabWf_tmap _ _ _ win
    · exact h

theorem within_evChange (s : State) (n : Nat) (v : BitVec 64) : Within [.out, .tile, .msix, .hif, .ev] s (evChange n v s) := by
  unfold evChange
  dsimp only
  exact .sub (.after (within_evNotify ..) (.after (within_markWaits ..) (within_setEv ..))) (by rfl)

theorem within_evAdd (s : State) (n : Nat) (inc : Nat) (mk : ErrRec) :
    Within [.out, .tile, .erqIn, .msix, .hif, .ev, .dict] s (evAdd n inc mk s) := by
  unfold evAdd
  dsimp only
  exact .sub (.ite (.after (within_raise ..) (within_evChange ..)) (within_evChange ..)) (by rfl)

end Sys2Proof.Machine
end

section
/-!
PROOF. The parts that the real-time clock reach.
-/
namespace Sys2Proof.Machine
open Host

theorem within_setRtc (s : State) (r : Rtc) : Within [.out, .capC, .shift, .rtc] s (setRtc r s) := by
  unfold setRtc
  dsimp only
  exact .sub (.after (within_emitAll ..) (.upd [.capC, .shift, .rtc] (by rfl))) (by rfl)

theorem within_effRtcTick (s : State) : Within [.out, .capC, .shift, .rtc] s (effRtcTick s) := by
  unfold effRtcTick
  exact .sub (.ite (within_setRtc ..) (.refl [] _)) (by rfl)

theorem within_faultCapture (s : State) : Within [.rtc] s (faultCapture s) := by
  unfold faultCapture
  dsimp only
  exact .sub (.upd [.rtc] (by rfl)) (by rfl)

theorem within_rtcCmd (s : State) (op : Nat) (n : Int) : Within [.rtc] s (rtcCmd op n s) := by
  unfold rtcCmd
  dsimp only
  exact .sub (.ite (.refl [] _) (.ite (.upd [.rtc] (by rfl)) (.upd [.rtc] (by rfl)))) (by rfl)

theorem within_effCapture (s : State) : Within [.rtc] s (effCapture s) := by
  unfold effCapture
  exact .sub (within_rtcCmd ..) (by rfl)

theorem within_effSet (s : State) : Within [.rtc] s (effSet s) := by
  unfold effSet
  exact .sub (within_rtcCmd ..) (by rfl)

theorem within_effShift (s : State) (n : BitVec 16) : Within [.rtc] s (effShift n s) := by
  unfold effShift
  exact .sub (within_rtcCmd ..) (by rfl)

theorem within_rtcSetNow (s : State) (b : Bytes) : Within [.out, .capC, .shift, .rtc] s (rtcSetNow b s) := by
  unfold rtcSetNow
  dsimp only
  exact .sub (.ite (.refl [] _) (within_setRtc ..)) (by rfl)

theorem within_rtcCaptureNow (s : State) : Within [.capC] s (rtcCaptureNow s).2 := by
  unfold rtcCaptureNow
  dsimp only
  exact .sub (.ite (.refl [] _) (.upd [.capC] (by rfl))) (by rfl)

theorem within_rtcShiftNow (s : State) (n : Int) : Within [.shift] s (rtcShiftNow n s).2 := by
  unfold rtcShiftNow
  dsimp only
  split
  · exact .refl _ _
  · split
    · exact .refl _ _
    · dsimp only
      exact .sub (.upd [.shift] (by rfl)) (by rfl)

theorem within_rtcPowerFail (s : State) : Within [.rtc] s (rtcPowerFail s) := by
  unfold rtcPowerFail
  dsimp only
  exact .sub (.upd [.rtc] (by rfl)) (by rfl)

end Sys2Proof.Machine
end

section
/-!
PROOF. The parts that the dictionary’s catalogue reach.
-/
namespace Sys2Proof.Machine
open Host

theorem within_storeVal (s : State) (r : CatRow) (sub : Nat) (b : Bytes) : Within [.val] s (storeVal r sub b s) := by
  unfold storeVal
  dsimp only
  exact .sub (.of [.val] ⟨fun f => tabWf_tput _ _ _ _ f.val, trivial⟩ (by rfl)) (by rfl)

end Sys2Proof.Machine
end

section
/-!
PROOF. The parts that the settings journal reach.
-/
namespace Sys2Proof.Machine
open Host

theorem within_setBank (s : State) (b : Bool) (t : Tab Byte) (ht : Formed s → tabWf 0xFF t = true) :
    Within [.bank0, .bank1] s (setBank b t s) := by
  unfold setBank
  split
  · exact .sub (.of [.bank1] ⟨ht, trivial⟩ (by rfl)) (by rfl)
  · exact .sub (.of [.bank0] ⟨ht, trivial⟩ (by rfl)) (by rfl)

theorem Formed.bank {s : State} (f : Formed s) (b : Bool) : tabWf 0xFF (bankOf s b) = true := by
  unfold bankOf
  split
  · exact f.bank1
  · exact f.bank0

theorem within_flashPut (s : State) (b : Bool) (a : Nat) (d : Bytes) : Within [.bank0, .bank1] s (flashPut b a d s) :=
  within_setBank s b _ fun f => tabWf_memWrite _ _ _ _ (f.bank b)

theorem within_flashErase (s : State) (b : Bool) (a n : Nat) : Within [.bank0, .bank1] s (flashErase b a n s) :=
  within_setBank s b _ fun f => tabWf_memClear _ _ _ _ (f.bank b)

theorem within_flashProgram {s t : State} {b : Bool} {a : Nat} {d : Bytes} (h : flashProgram b a d s = some t) :
    Within [.bank0, .bank1] s t := by
  unfold flashProgram at h
  split at h
  · exact Option.some.inj h ▸ within_flashPut ..
  · cases h

theorem within_putMarker (s : State) (b : Bool) (kind : Nat) (iseq : Nat) :
    Within [.bank0, .bank1] s (putMarker b kind iseq s) := by
  unfold putMarker
  dsimp only
  split
  · exact .refl _ _
  · exact .sub (within_flashPut ..) (by rfl)

theorem within_openSector {s t : State} {b : Bool} {g iseq schema k : Nat} (h : openSector b g iseq schema s = some (k, t)) :
    Within [.bank0, .bank1] s t := by
  unfold openSector at h
  dsimp only at h
  split at h
  · cases h
  · cases h
    exact .sub (.after (within_flashPut ..) (within_flashErase ..)) (by rfl)

theorem within_appendRec (s : State) (b : Bool) (g : Nat) (r : JRec) : Within [.bank0, .bank1] s (appendRec b g r s).2 := by
  unfold appendRec
  generalize journalBase = base
  dsimp only
  split
  · split
    · split
      · rename_i h
        exact within_flashProgram h
      · exact .refl _ _
    · split
      · rename_i h
        split
        · rename_i h1
          exact (within_openSector h).trans (within_flashProgram h1)
        · exact within_openSector h
      · exact .refl _ _
  · split
    · rename_i h
      split
      · rename_i h1
        exact (within_openSector h).trans (within_flashProgram h1)
      · exact within_openSector h
    · exact .refl _ _

theorem within_appendBoth (s : State) (g : Nat) (r : JRec) : Within [.bank0, .bank1] s (appendBoth g r s).2 := by
  unfold appendBoth
  dsimp only
  split
  · exact .sub (within_appendRec ..) (by rfl)
  · exact .sub (.after (within_appendRec ..) (within_appendRec ..)) (by rfl)

/-- A fold that carries a status beside the state. -/
theorem Within.foldl_snd {l : List Part} {β γ : Type} {f : γ × State → β → γ × State} (h : ∀ a x, Within l a.2 (f a x).2)
    (xs : List β) : ∀ a, Within l a.2 (xs.foldl f a).2 := by
  induction xs with
  | nil => exact fun a => .refl l a.2
  | cons x xs ih => exact fun a => (h a x).trans (ih _)

theorem within_commitGen (s : State) (g : Nat) (val : CatRow → Nat → Bytes) :
    Within [.bank0, .bank1] s (commitGen g val s).2 := by
  unfold commitGen
  generalize journalObjs = objs
  dsimp only
  split
  · refine .foldl_snd (fun a x => ?_) objs (0, s)
    split
    · exact .refl _ _
    · exact within_appendBoth ..
  · refine .trans (.foldl_snd (fun a x => ?_) objs (0, s)) (within_appendBoth ..)
    split
    · exact .refl _ _
    · exact within_appendBoth ..

theorem within_eraseGens (s : State) (p : Nat → Bool) : Within [.bank0, .bank1] s (eraseGens p s) := by
  unfold eraseGens
  exact .sub (.foldl (fun s x => .foldl (fun s x => within_flashErase ..) _ _) _ _) (by rfl)

theorem within_compact (s : State) : Within [.bank0, .bank1] s (compact s) := by
  unfold compact
  dsimp only
  exact .sub (.ite (.ite (.after (within_eraseGens ..) (within_commitGen ..)) (.refl [] _)) (.refl [] _)) (by rfl)

theorem within_writeGen (s : State) : Within [.bank0, .bank1] s (writeGen s).2.2 := by
  unfold writeGen
  dsimp only
  split
  · exact .refl _ _
  · split
    · dsimp only
      exact .sub (within_commitGen ..) (by rfl)
    · exact .refl _ _

theorem within_journalWrite (s : State) (index : Nat) (sub : Nat) (v : Bytes) :
    Within [.val, .bank0, .bank1] s (journalWrite index sub v s).2 := by
  unfold journalWrite
  dsimp only
  split
  · exact .refl _ _
  · split
    · exact .refl _ _
    · split
      · dsimp only
        exact .sub (.after (within_appendBoth ..) (.after (within_writeGen ..) (within_compact ..))) (by rfl)
      · dsimp only
        exact .sub (.after (within_compact ..) (.after (within_storeVal ..) (.after (within_appendBoth ..) (.after
            (within_writeGen ..) (within_compact ..))))) (by rfl)

theorem within_persist (s : State) (index : Nat) (sub : Nat) (v : Bytes) :
    Within [.val, .bank0, .bank1] s (persist index sub v s) := by
  unfold persist
  exact .sub (within_journalWrite ..) (by rfl)

theorem within_mergeCopies (s : State) : Within [.bank0, .bank1] s (mergeCopies s) := by
  unfold mergeCopies
  dsimp only
  exact .sub (.ite (.refl [] _) (.foldl (fun s x => .foldl (fun s x => within_appendRec ..) _ _) _ _)) (by rfl)

theorem within_settleGens (s : State) : Within [.bank0, .bank1] s (settleGens s) := by
  unfold settleGens
  refine .foldl (fun s e => ?_) _ _
  split
  · split
    · exact .refl _ _
    · exact .sub (within_commitGen ..) (by rfl)
  · exact .sub (within_eraseGens ..) (by rfl)

theorem within_loadValues (s : State) : Within [.out, .val, .dict, .flash] s (loadValues s) := by
  unfold loadValues
  dsimp only
  exact .sub (.foldl (fun s x => .ite (.after (within_emergency ..) (.after (.upd [.flash] (by rfl)) (within_storeVal ..)))
      (within_storeVal ..)) _ _) (by rfl)

end Sys2Proof.Machine
end

section
/-!
PROOF. The parts that the firmware store reach.
-/
namespace Sys2Proof.Machine
open Host

theorem within_flashEnd (s : State) (code : Nat) : Within [.flash] s (flashEnd code s) := by
  unfold flashEnd
  dsimp only
  exact .sub (.upd [.flash] (by rfl)) (by rfl)

theorem within_flashRefused (s : State) (code : Nat) : Within [.out, .erqIn, .dict, .flash] s (flashRefused code s) := by
  unfold flashRefused
  dsimp only
  exact .sub (.after (within_raise ..) (.upd [.flash] (by rfl))) (by rfl)

theorem within_flashProbe (s : State) : Within [.flash] s (flashProbe s) := by
  unfold flashProbe
  dsimp only
  exact .sub (.upd [.flash] (by rfl)) (by rfl)

theorem within_flashAim (s : State) (bank : Bool) (a : Nat) : Within [.flash] s (flashAim bank a s) := by
  unfold flashAim
  dsimp only
  exact .sub (.ite (.upd [.flash] (by rfl)) (.upd [.flash] (by rfl))) (by rfl)

theorem within_flashGo (s : State) (r : FlashRun) : Within [.flash] s (flashGo r s) := by
  unfold flashGo
  dsimp only
  exact .sub (.after (within_flashAim ..) (.upd [.flash] (by rfl))) (by rfl)

theorem within_flashStart (s : State) (op : Nat) (bank : Bool) (src : Nat) :
    Within [.out, .erqIn, .dict, .flash] s (flashStart op bank src s) := by
  unfold flashStart
  dsimp only
  exact .sub (.ite (.refl [] _) (.ite (within_flashEnd ..) (.ite (.after (within_flashEnd ..) (within_flashRefused ..))
      (within_flashGo ..)))) (by rfl)

theorem within_effProgram (s : State) (bank : Bool) (src : Nat) :
    Within [.out, .erqIn, .dict, .flash] s (effProgram bank src s) := by
  unfold effProgram
  exact .sub (within_flashStart ..) (by rfl)

theorem within_effErase4K (s : State) (bank : Bool) (src : Nat) :
    Within [.out, .erqIn, .dict, .flash] s (effErase4K bank src s) := by
  unfold effErase4K
  exact .sub (within_flashStart ..) (by rfl)

theorem within_effErase64K (s : State) (bank : Bool) (src : Nat) :
    Within [.out, .erqIn, .dict, .flash] s (effErase64K bank src s) := by
  unfold effErase64K
  exact .sub (within_flashStart ..) (by rfl)

theorem within_effFlashRead (s : State) (bank : Bool) (src : Nat) :
    Within [.out, .erqIn, .dict, .flash] s (effFlashRead bank src s) := by
  unfold effFlashRead
  exact .sub (within_flashStart ..) (by rfl)

theorem within_effBlankCheck (s : State) (bank : Bool) (src : Nat) :
    Within [.out, .erqIn, .dict, .flash] s (effBlankCheck bank src s) := by
  unfold effBlankCheck
  exact .sub (within_flashStart ..) (by rfl)

theorem within_flashFinish (s : State) (r : FlashRun) (good : Bool) :
    Within [.free, .out, .erqIn, .dict, .bank0, .bank1, .flash] s (flashFinish r good s) := by
  unfold flashFinish
  dsimp only
  split
  · split
    · exact .sub (.after (within_flashEnd ..) (within_flashRefused ..)) (by rfl)
    · rename_i h1
      exact .sub (.ite (.after (within_flashEnd ..) (within_flashProgram h1)) (.after (within_flashEnd ..) (.after
          (.upd [.flash] (by rfl)) (.after (within_drawn ..) (within_flashPut ..))))) (by rfl)
  · exact .sub (.ite (.after (within_flashEnd ..) (within_flashErase ..)) (.ite (.after (within_flashEnd ..)
      (within_flashErase ..)) (.ite (.after (within_flashEnd ..) (.upd [.flash] (by rfl))) (.after (within_flashEnd ..) (.upd [.flash] (by rfl)))))) (by rfl)

theorem within_xipServe (s : State) (b : Bool) : Within [.out, .flash] s (xipServe b s) := by
  unfold xipServe
  dsimp only
  exact .sub (.after (within_emitAll ..) (.upd [.flash] (by rfl))) (by rfl)

theorem within_runImage (s : State) (b : Bool) (trial : Bool) (first : Bool) :
    Within [.pwr, .flash] s (runImage b trial first s) := by
  unfold runImage
  dsimp only
  exact .sub (.upd [.pwr, .flash] (by rfl)) (by rfl)

theorem within_bootCode (s : State) (c : Nat) : Within [.pwr] s (bootCode c s) := by
  unfold bootCode
  dsimp only
  exact .sub (.upd [.pwr] (by rfl)) (by rfl)

theorem within_badImage (s : State) : Within [.out, .dict] s (badImage s) := by
  unfold badImage
  exact .sub (within_emergency ..) (by rfl)

theorem within_selectFrom (l : List Bool) :
    ∀ (first : Bool) (s : State), Within [.out, .dict, .pwr, .bank0, .bank1, .flash] s (selectFrom l first s) := by
  induction l with
  | nil =>
    intro _ s
    unfold selectFrom
    exact .sub (.upd [.pwr, .flash] (by rfl)) (by rfl)
  | cons b rest ih =>
    intro first s
    unfold selectFrom
    dsimp only
    split
    · split
      · exact .sub (within_runImage ..) (by rfl)
      · exact .trans (.sub (.after (within_badImage ..) (within_bootCode ..)) (by rfl)) (ih ..)
    · split
      · exact .trans (.sub (.after (within_bootCode ..) (within_putMarker ..)) (by rfl)) (ih ..)
      · split
        · exact .sub (.after (within_runImage ..) (within_putMarker ..)) (by rfl)
        · exact .trans (.sub (.after (within_badImage ..) (.after (within_bootCode ..) (within_putMarker ..))) (by rfl)) (ih ..)

theorem within_imageSelect (s : State) : Within [.out, .dict, .pwr, .bank0, .bank1, .flash] s (imageSelect s) := by
  unfold imageSelect
  exact .sub (within_selectFrom ..) (by rfl)

theorem within_updStep (s : State) (code : Nat) : Within [.flash] s (updStep code s).2 := by
  unfold updStep
  dsimp only
  exact .sub (.upd [.flash] (by rfl)) (by rfl)

theorem within_updErase (s : State) : Within [.flash] s (updErase s) := by
  unfold updErase
  dsimp only
  split
  · exact .sub (.after (within_updStep ..) (.upd [.flash] (by rfl))) (by rfl)
  · exact .sub (.ite (.refl [] _) (within_flashGo ..)) (by rfl)
  · exact .refl _ _

theorem within_updBegin (s : State) : Within [.flash] s (updBegin s).2 := by
  unfold updBegin
  dsimp only
  split
  · exact .sub (within_updStep ..) (by rfl)
  · dsimp only
    exact .sub (.after (within_updErase ..) (.after (within_updStep ..) (.upd [.flash] (by rfl)))) (by rfl)

theorem within_updErased (s : State) : Within [.flash] s (updErased s) := by
  unfold updErased
  dsimp only
  split
  · exact .sub (.upd [.flash] (by rfl)) (by rfl)
  · exact .refl _ _

theorem within_effFlashDone (s : State) (good : Bool) :
    Within [.free, .out, .erqIn, .dict, .bank0, .bank1, .flash] s (effFlashDone good s) := by
  unfold effFlashDone
  dsimp only
  split
  · exact .refl _ _
  · exact .sub (.after (within_updErase ..) (.ite (.after (within_updErased ..) (.after (within_xipServe ..)
      (within_flashFinish ..))) (.after (within_xipServe ..) (within_flashFinish ..)))) (by rfl)

theorem within_updVerified (s : State) : Within [.out, .dict, .bank0, .bank1, .flash] s (updVerified s) := by
  unfold updVerified
  dsimp only
  exact .sub (.ite (.after (within_updStep ..) (.after (within_putMarker ..) (.upd [.flash] (by rfl)))) (.after (within_badImage ..)
      (.after (within_updStep ..) (.upd [.flash] (by rfl))))) (by rfl)

theorem within_updFinish (s : State) : Within [.free, .out, .bank0, .bank1, .dict, .flash] s (updFinish s).2 := by
  have drew : Within [.flash, .free] s (drawn { s with flash.updOpen := false }) := .after (within_drawn ..) (.upd [.flash] (by rfl))
  unfold updFinish
  dsimp only
  generalize drawn { s with flash.updOpen := false } = u at drew ⊢
  split
  · exact .sub (.after (within_updVerified ..) drew) (by rfl)
  · exact .sub (.after (within_updStep ..) (.after (.upd [.flash] (by rfl)) drew)) (by rfl)

theorem within_tickUpdate (s : State) : Within [.out, .dict, .bank0, .bank1, .flash] s (tickUpdate s) := by
  unfold tickUpdate
  dsimp only
  split
  · exact .sub (.ite (.refl [] _) (.ite (within_updVerified ..) (.upd [.flash] (by rfl)))) (by rfl)
  · exact .refl _ _

theorem within_updAbort (s : State) : Within [.flash] s (updAbort s).2 := by
  unfold updAbort
  dsimp only
  exact .sub (.after (within_updStep ..) (.upd [.flash] (by rfl))) (by rfl)

theorem within_updPages (b : Bool) (ps : List Bytes) :
    ∀ (a : Nat) (s : State), Within [.out, .erqIn, .dict, .bank0, .bank1, .flash] s (updPages b a ps s).2 := by
  induction ps with
  | nil => exact fun _ s => .refl _ s
  | cons d r ih =>
    intro a s
    unfold updPages
    split
    next done => exact .trans (.sub (within_flashProgram done) (by rfl)) (ih ..)
    next => exact .sub (within_flashRefused ..) (by rfl)

theorem within_updData (d : Bytes) (s : State) : Within [.out, .erqIn, .dict, .bank0, .bank1, .flash] s (updData d s).2 := by
  have pages := within_updPages (otherBank s) (chunksN 256 16 d) s.flash.updOff.toNat s
  unfold updData
  dsimp only
  generalize updPages (otherBank s) s.flash.updOff.toNat (chunksN 256 16 d) s = r at pages ⊢
  split
  · exact .refl _ _
  · split
    · exact .sub (within_updStep ..) (by rfl)
    · split
      · exact .sub (within_updStep ..) (by rfl)
      · split
        · exact .sub (.after (within_updStep ..) pages) (by rfl)
        · exact .sub (.after (within_updStep ..) (.after (.upd [.flash] (by rfl)) pages)) (by rfl)

theorem within_raiseSvn (s : State) : Within [.minSvn] s (raiseSvn s) := by
  unfold raiseSvn
  dsimp only
  split
  next up =>
    simp only [Bool.and_eq_true, decide_eq_true_eq] at up
    have small : bitsAt (imageHeader s s.pwr.bank) 6 0 6 < 2 ^ 6 := by
      rw [bitsAt, bitsN_eq]
      exact Nat.mod_lt _ (by decide)
    refine .of [.minSvn] ⟨?_, trivial⟩ (by rfl)
    change s.flash.minSvn.toNat ≤ (BitVec.ofNat 6 (bitsAt (imageHeader s s.pwr.bank) 6 0 6)).toNat
    rw [BitVec.toNat_ofNat, Nat.mod_eq_of_lt small]
    exact up.2.le
  next => exact .refl _ _

/-- The trial of the running image ends. -/
theorem within_trialEnd (s : State) :
    Within [.pwr, .flash] s { s with pwr.trial := false, flash.trialBoots := 0 } := .upd [.pwr, .flash] (by rfl)

theorem within_confirmImage (s : State) : Within [.pwr, .bank0, .bank1, .minSvn, .flash] s (confirmImage s).2 := by
  unfold confirmImage
  split
  · exact .refl _ _
  · extract_lets g w pwr flash v
    have ended : Within [.bank0, .bank1, .pwr, .flash] s v := (within_trialEnd w).after (within_putMarker ..)
    clear_value v g
    split
    · exact .sub (.after (within_raiseSvn ..) ended) (by rfl)
    · extract_lets a
      have committed : Within [.bank0, .bank1, .pwr, .flash, .bank0, .bank1] s a.2 := .after (within_commitGen ..) ended
      clear_value a
      dsimp only
      split
      · exact .sub (.after (within_raiseSvn ..) (.after (within_eraseGens ..) committed)) (by rfl)
      · exact .sub (.after (within_raiseSvn ..) committed) (by rfl)

theorem within_revokeKey (i : Nat) (s : State) : Within [.revoked] s (revokeKey i s).2 := by
  unfold revokeKey
  dsimp only
  split
  · exact .refl _ _
  · refine .of [.revoked] ⟨?_, trivial⟩ (by rfl)
    change s.flash.revoked &&& (s.flash.revoked ||| _) = s.flash.revoked
    ext i hi
    simp only [BitVec.getElem_and, BitVec.getElem_or]
    cases s.flash.revoked[i] <;> rfl

theorem within_restoreJournal (s : State) : Within [.val, .bank0, .bank1] s (restoreJournal s).2 := by
  unfold restoreJournal
  generalize journalObjs = objs
  extract_lets val done a g b
  have stored (u : State) : Within [.val] u (done u) := .foldl (fun _ _ => within_storeVal ..) objs u
  split
  · have wrote : Within [.val, .bank0, .bank1] s a.2 := by
      refine .foldl_snd (fun a o => ?_) objs (0, s)
      split
      · exact .refl _ _
      · exact .sub (within_journalWrite ..) (by rfl)
    split
    · exact .sub (.after (stored _) wrote) (by rfl)
    · exact wrote
  · split
    · exact .sub (.after (stored _) (.after (within_eraseGens ..) (within_commitGen ..))) (by rfl)
    · exact .refl _ _

end Sys2Proof.Machine
end

section
/-!
PROOF. The parts that register accesses reach.
-/
namespace Sys2Proof.Machine
open Host

theorem within_mayBe {l : List Part} {act : State → State} (h : ∀ s, Within l s (act s)) (s : State) :
    Within ([.free] ++ l) s (mayBe act s) := by
  unfold mayBe
  split
  · exact .after (h _) (within_drawn ..)
  · exact (within_drawn ..).sub (List.all_eq_true.2 fun p hp => by simp [List.mem_singleton.1 hp])

theorem within_regWrite {l : List Part} {act : State → State} {w : RegWr} {n : Nat} {s t : State} (h : ∀ s, Within l s (act s))
    (ran : regWrite w n act s = .next t) : Within ([.free] ++ l) s t := by
  obtain rfl := Host.Outcome.next.inj ran
  split
  · exact within_mayBe h s
  · exact (h s).sub (List.all_eq_true.2 fun p hp => by simp [hp])

theorem within_woStore (s : State) (key : Nat) (n : Nat) (w : RegWr) : Within [.held] s (woStore key n w s) := by
  unfold woStore
  exact .sub (.of [.held] ⟨fun f => tabWf_tput _ _ _ _ f.held, trivial⟩ (by rfl)) (by rfl)

theorem within_woWrite {l : List Part} {key n : Nat} {starts : List Nat} {go : Nat → State → State} {w : RegWr}
    (h : ∀ v s, Within l s (go v s)) (s : State) : Within ([.held] ++ l) s (woWrite key n starts go w s) := by
  unfold woWrite
  dsimp only
  split
  · exact .after (h _ _) (within_woStore ..)
  · exact (within_woStore ..).sub (List.all_eq_true.2 fun p hp => by simp [List.mem_singleton.1 hp])

end Sys2Proof.Machine
end

section
/-!
PROOF. The parts that the check-value units reach.
-/
namespace Sys2Proof.Machine
open Host

theorem within_onCvu {l : List Part} {act : Cvu → State → State} {c : Nat} (h : ∀ x s, Within l s (act x s)) (s : State) :
    Within l s (onCvu c act s) := by
  unfold onCvu
  split
  · exact h _ _
  · exact .refl _ _

theorem within_effCvuPreset (s : State) (c : Nat) (w : RegWr) : Within [.cvu] s (effCvuPreset c w s) := by
  unfold effCvuPreset
  dsimp only
  exact .sub (within_onCvu (fun _ _ => .ite (within_setCvu ..) (within_setCvu ..)) _) (by rfl)

theorem within_cvuParam (s : State) (c : Nat) (f : Cvu → Cvu) : Within [.cvu] s (cvuParam c f s) := by
  unfold cvuParam
  exact .sub (within_onCvu (fun _ _ => within_setCvu ..) _) (by rfl)

theorem within_effCvuStart (s : State) (c : Nat) : Within [.cvu] s (effCvuStart c s) := by
  unfold effCvuStart
  exact .sub (within_onCvu (fun _ _ => within_setCvu ..) _) (by rfl)

theorem within_cvuPass (s : State) (c : Nat) (b : Bytes) : Within [.out] s (cvuPass c b s) := by
  unfold cvuPass
  exact .sub (.ite (.refl [] _) (within_emit ..)) (by rfl)

theorem within_cvuFeed (s : State) (c : Nat) (b : Bytes) (x : Cvu) : Within [.out, .cvu] s (cvuFeed c b x s) := by
  unfold cvuFeed
  exact .sub (.after (within_cvuPass ..) (within_setCvu ..)) (by rfl)

theorem within_cvuData (s : State) (c : Nat) (n : Nat) (v : Nat) : Within [.out, .cvu] s (cvuData c n v s) := by
  unfold cvuData
  exact .sub (within_onCvu (fun _ _ => .ite (within_setCvu ..) (within_cvuFeed ..)) _) (by rfl)

theorem within_effCvuData8 (s : State) (c : Nat) (v : BitVec 8) : Within [.out, .cvu] s (effCvuData8 c v s) := by
  unfold effCvuData8
  exact .sub (within_cvuData ..) (by rfl)

theorem within_effCvuData16 (s : State) (c : Nat) (v : BitVec 16) : Within [.out, .cvu] s (effCvuData16 c v s) := by
  unfold effCvuData16
  exact .sub (within_cvuData ..) (by rfl)

theorem within_effCvuData32 (s : State) (c : Nat) (v : BitVec 32) : Within [.out, .cvu] s (effCvuData32 c v s) := by
  unfold effCvuData32
  exact .sub (within_cvuData ..) (by rfl)

theorem within_effCvuFold (s : State) (c : Nat) (v : BitVec 64) : Within [.free, .cvu] s (effCvuFold c v s) := by
  unfold effCvuFold
  dsimp only
  exact .sub (within_onCvu (fun _ _ => .ite (within_setCvu ..) (.ite (within_setCvu ..) (.after (within_drawn ..)
      (within_setCvu ..)))) _) (by rfl)

theorem within_effCvuFinish (s : State) (c : Nat) : Within [.out, .cvu] s (effCvuFinish c s) := by
  unfold effCvuFinish
  dsimp only
  exact .sub (within_onCvu (fun _ _ => .ite (.refl [] _) (.ite (.after (within_emit ..) (.after (within_cvuPass ..)
      (within_setCvu ..))) (.after (within_cvuPass ..) (within_setCvu ..)))) _) (by rfl)

theorem within_effCvuAlvTx (s : State) (c : Nat) : Within [.out, .cvu] s (effCvuAlvTx c s) := by
  unfold effCvuAlvTx
  dsimp only
  exact .sub (within_onCvu (fun _ _ => .after (within_emit ..) (within_setCvu ..)) _) (by rfl)

theorem within_effCvuAlvRx (s : State) (c : Nat) (a : BitVec 8) : Within [.cvu] s (effCvuAlvRx c a s) := by
  refine within_onCvu (fun x s => ?_) s
  split
  · exact .refl _ _
  · dsimp only
    split
    · exact within_setCvu ..
    · exact .sub (.ite (within_setCvu ..) (.ite (within_setCvu ..) (within_setCvu ..))) (by rfl)

end Sys2Proof.Machine
end

section
/-!
PROOF. The parts that the window slots reach.
-/
namespace Sys2Proof.Machine
open Host

theorem within_retire (s : State) (t : Nat) (n : Nat) : Within [.tile] s (retire t n s) := by
  unfold retire
  dsimp only
  exact .sub (within_setTile _ _ _ (by exact fun f => tile_wf (tabWf_tput _ _ _ _ (f.win _)) (f.mem _) (f.exa _))) (by rfl)

theorem within_freeGroup (s : State) (t : Nat) (x : Slot) : Within [.tile] s (freeGroup t x s) := by
  unfold freeGroup
  dsimp only
  exact .sub (.ite (within_setTile _ _ _ fun f => f.tileOf _) (.refl [] _)) (by rfl)

theorem within_complete (s : State) (t : Nat) (n : Nat) : Within [.tile] s (complete t n s) := by
  unfold complete
  dsimp only
  exact .sub (.ite (.after (within_retire ..) (.ite (within_freeGroup ..) (.after (within_setTile _ _ _ fun f => f.tileOf _) (within_freeGroup ..))))
      (.after (within_setSlot ..) (.ite (within_freeGroup ..) (.after (within_setTile _ _ _ fun f => f.tileOf _) (within_freeGroup ..))))) (by rfl)

theorem within_slotFail (s : State) (t : Nat) (n : Nat) (e : ErrRec) (quiet : Bool) :
    Within [.out, .tile, .erqIn, .dict] s (slotFail t n e quiet s) := by
  unfold slotFail
  dsimp only
  exact .sub (.ite (.ite (within_setSlot ..) (.refl [] _)) (.after (within_raise ..) (.ite (within_setSlot ..) (.refl [] _)))) (by rfl)

theorem within_slotErr (s : State) (t : Nat) (n : Nat) (code : Nat) :
    Within [.out, .tile, .erqIn, .dict] s (slotErr t n code s) := by
  unfold slotErr
  exact .sub (within_slotFail ..) (by rfl)

theorem within_exaFailed (s : State) (t : Nat) (n : Nat) : Within [.out, .tile, .erqIn, .dict] s (exaFailed t n s) := by
  unfold exaFailed
  dsimp only
  split
  · exact .refl _ _
  · exact .sub (within_slotFail ..) (by rfl)

theorem within_slotTry (s : State) (t : Nat) (n : Nat) : Within [.out, .tile, .erqIn, .dict] s (slotTry t n s) := by
  unfold slotTry
  exact .sub (.ite (.after (within_complete ..) (within_exaFailed ..)) (.refl [] _)) (by rfl)

/-- What the jobs wait for is struck off. -/
theorem within_jobsGot (s : State) (a : Await) :
    Within [.queue] s { s with obj.q := tmap {} (fun _ (x : Queue) =>
      ({ x with job := x.job.map (fun (j : Job) => { j with owes := j.owes.erase a }) } : Queue)) s.obj.q } :=
  .of [.queue] ⟨fun f => by dsimp only; exact tabWf_tmap _ _ _ f.queue, trivial⟩ (by rfl)

theorem within_slotGot (s : State) (a : Await) : Within [.out, .tile, .erqIn, .queue, .sealRows, .dict] s (slotGot a s) := by
  unfold slotGot
  extract_lets eng u obj v
  have rowsGot : Within [.sealRows] s u := .upd [.sealRows] (by rfl)
  have got : Within [.sealRows, .queue] s v := .after (within_jobsGot u a) rowsGot
  clear_value v
  exact .sub (.after (.foldl (fun s x => .foldl (fun s x => .ite (.after (within_slotTry ..) (within_setSlot ..))
      (.refl [] _)) _ _) _ _) got) (by rfl)

theorem within_spWrite (s : State) (t : Nat) (off : Nat) (b : Bytes) : Within [.tile] s (spWrite t off b s) := by
  unfold spWrite
  dsimp only
  exact .sub (within_setTile _ _ _ (by exact fun f => tile_wf (f.win _) (tabWf_memWrite _ _ _ _ (f.mem _)) (f.exa _))) (by rfl)

theorem within_setLane (s : State) (t : Nat) (l : Nat) (a : Lane) : Within [.tile] s (setLane t l a s) := by
  unfold setLane
  dsimp only
  exact .sub (within_setTile _ _ _ (by exact fun f => tile_wf (f.win _) (f.mem _) (tabWf_tput _ _ _ _ (f.exa _)))) (by rfl)

theorem within_addLanes (t : Nat) (archive : Bool) (as : List Lane) :
    ∀ (first : Nat) (s : State), Within [.free, .tile] s (addLanes t archive first as s) := by
  induction as with
  | nil => exact fun _ s => .sub (within_drawn s) (by rfl)
  | cons a r ih => exact fun _ s => .trans (.sub (within_setLane ..) (by rfl)) (ih _ _)

end Sys2Proof.Machine
end

section
/-!
PROOF. The parts that the transaction engine reach.
-/
namespace Sys2Proof.Machine
open Host

theorem within_sealSeg {s t : State} {h : Hdr} {coded b : Bytes} (e : sealSeg h coded s = some (b,
    t)) : Within [.jobKey] s t := by
  unfold sealSeg at e
  split at e
  · cases e
  · dsimp only at e
    split at e
    · cases e
    · obtain ⟨-, rfl⟩ := Prod.mk.inj (Option.some.inj e)
      exact .of [.jobKey] ⟨fun f => tabWf_tput _ _ _ _ f.jobKey, trivial⟩ (by rfl)

theorem within_queueSeg (s : State) (p : Nat) (vcA : Bool) (src : Nat) (b : Bytes) :
    Within [.port] s (queueSeg p vcA src b s) := by
  unfold queueSeg
  dsimp only
  exact .sub (within_setPort ..) (by rfl)

theorem within_sendResp (s : State) (src : Nat) (h : Hdr) (coded : Bytes) :
    Within [.port, .txn, .jobKey] s (sendResp src h coded s) := by
  unfold sendResp
  dsimp only
  split
  · exact .refl _ _
  · split
    · exact .refl _ _
    · rename_i h1
      split
      · exact .sub (.after (.upd [.txn] (by rfl)) (within_sealSeg h1)) (by rfl)
      · split
        · exact .sub (within_sealSeg h1) (by rfl)
        · exact .sub (.after (within_queueSeg ..) (within_sealSeg h1)) (by rfl)

theorem within_txnNew (s : State) (x : Txn) : Within [.txns, .txn] s (txnNew x s).2 := by
  unfold txnNew
  dsimp only
  exact .sub (.of [.txns, .txn] ⟨fun f => tabWf_tput _ _ _ _ f.txns, trivial, trivial⟩ (by rfl)) (by rfl)

/-- Writing many entries keeps a table's form. -/
theorem tabWf_foldl_tput {α β : Type} [DecidableEq α] (d : α) (k : β → Nat) (v : β → α) (l : List β) :
    ∀ t : Tab α, tabWf d t = true → tabWf d (l.foldl (fun q x => tput d q (k x) (v x)) t) = true := by
  induction l with
  | nil => exact fun _ h => h
  | cons x l ih => exact fun t h => ih _ (tabWf_tput _ _ _ _ h)

theorem within_quarantine (s : State) (l : List Nat) : Within [.tags, .quar] s (quarantine l s) := by
  unfold quarantine
  exact .of [.tags, .quar] ⟨fun f => tabWf_filter _ _ _ f.tags,
    fun f => tabWf_foldl_tput 0 (fun t => t) (fun _ => s.now + 1) l _ f.quar, trivial⟩ (by rfl)

theorem within_ntxEnd (s : State) : Within [.txn] s (ntxEnd s) := by
  unfold ntxEnd
  dsimp only
  exact .sub (.ite (.upd [.txn] (by rfl)) (.refl [] _)) (by rfl)

theorem within_txnNotify (s : State) (id : Nat) (x : Txn) (status : Nat) (quiet : Bool) :
    Within [.out, .tile, .erqIn, .queue, .txn, .sealRows, .dict] s (txnNotify id x status quiet s) := by
  unfold txnNotify
  dsimp only
  split
  · split
    · exact .refl _ _
    · refine .trans ?_ (.sub (within_slotTry ..) (by rfl))
      split
      · exact .sub (.after (within_setSlot ..) (within_setSlot ..)) (by rfl)
      · exact .sub (.ite (within_setSlot ..) (.after (within_slotFail ..) (within_setSlot ..))) (by rfl)
  · exact .sub (.after (within_ntxEnd ..) (.upd [.txn] (by rfl))) (by rfl)
  · exact .sub (within_slotGot ..) (by rfl)

theorem within_endTxn (s : State) (id : Nat) (status : Nat) (quiet : Bool) :
    Within [.out, .tile, .erqIn, .queue, .txns, .tags, .quar, .txn, .sealRows, .dict] s (endTxn id status quiet s) := by
  unfold endTxn
  dsimp only
  split
  · exact .refl _ _
  · exact .sub (.after (within_txnNotify ..) (.after (.of [.txns] ⟨fun f => tabWf_tput _ _ _ _ f.txns, trivial⟩ (by rfl))
      (within_quarantine ..))) (by rfl)

theorem within_endTxns (s : State) (p : Txn → Bool) (status : Nat) :
    Within [.out, .tile, .erqIn, .queue, .txns, .tags, .quar, .txn, .sealRows, .dict] s (endTxns p status s) := by
  unfold endTxns
  exact .sub (.foldl (fun s x => within_endTxn ..) _ _) (by rfl)

theorem within_txnTry (s : State) (id : Nat) :
    Within [.out, .tile, .erqIn, .queue, .txns, .txn, .sealRows, .dict] s (txnTry id s) := by
  unfold txnTry
  dsimp only
  split
  · exact .refl _ _
  · exact .sub (.ite (.after (within_txnNotify ..) (.of [.txns] ⟨fun f => tabWf_tput _ _ _ _ f.txns, trivial⟩ (by rfl))) (.refl [] _)) (by rfl)

theorem within_tagWait (s : State) (id : Nat) (x : Txn) (why : Nat) :
    Within [.out, .erqIn, .queue, .txns, .dict] s (tagWait id x why s) := by
  unfold tagWait
  dsimp only
  split
  · exact .sub (.ite (.refl [] _) (.after (within_raise ..) (.of [.txns] ⟨fun f => tabWf_tput _ _ _ _ f.txns, trivial⟩ (by rfl)))) (by rfl)
  · split
    · exact .refl _ _
    · split
      · exact .refl _ _
      · exact .sub (.ite (.refl [] _) (.after (within_raise ..) (within_setQueue ..))) (by rfl)
  · split
    · exact .refl _ _
    · split
      · exact .refl _ _
      · exact .sub (.ite (.refl [] _) (.after (within_raise ..) (within_setQueue ..))) (by rfl)

theorem within_sendSeg (s : State) (id : Nat) (x : Txn) (g : Seg) (rest : List Seg) (port : Option Nat) (tag : Nat) :
    Within [.out, .tile, .port, .erqIn, .queue, .txns, .tags, .quar, .txn, .jobKey, .sealRows, .dict] s
        (sendSeg id x g rest port tag s) := by
  unfold sendSeg
  dsimp only
  split
  · exact .sub (within_endTxn ..) (by rfl)
  · rename_i h
    split
    · refine .trans ?_ (.sub (within_slotGot ..) (by rfl))
      split
      · exact .sub (.after (.of [.txns, .tags, .txn] ⟨fun f => tabWf_tput _ _ _ _ f.txns, fun f => tabWf_tput _ _ _ _ f.tags,
          trivial, trivial⟩ (by rfl)) (within_sealSeg h)) (by rfl)
      · exact .sub (.after (within_queueSeg ..) (.after (.of [.txns, .tags] ⟨fun f => tabWf_tput _ _ _ _ f.txns,
          fun f => tabWf_tput _ _ _ _ f.tags, trivial⟩ (by rfl)) (within_sealSeg h))) (by rfl)
    · split
      · exact .sub (.after (.of [.txns, .tags, .txn] ⟨fun f => tabWf_tput _ _ _ _ f.txns, fun f => tabWf_tput _ _ _ _ f.tags,
          trivial, trivial⟩ (by rfl)) (within_sealSeg h)) (by rfl)
      · exact .sub (.after (within_queueSeg ..) (.after (.of [.txns, .tags] ⟨fun f => tabWf_tput _ _ _ _ f.txns,
          fun f => tabWf_tput _ _ _ _ f.tags, trivial⟩ (by rfl)) (within_sealSeg h))) (by rfl)

theorem within_segSend (s : State) (id : Nat) :
    Within [.out, .tile, .port, .erqIn, .queue, .txns, .tags, .quar, .hold, .txn, .jobKey, .sealRows, .dict] s
        (segSend id s) := by
  unfold segSend
  dsimp only
  split
  · exact .refl _ _
  · split
    · exact .refl _ _
    · split
      · exact .refl _ _
      · split
        · exact .sub (.of [.hold] ⟨fun f => tabWf_tput _ _ _ _ f.hold, trivial⟩ (by rfl)) (by rfl)
        · split
          · split
            · exact .sub (.after (within_endTxn ..) (.after (within_raise ..) (.of [.hold] ⟨fun f => tabWf_tput _ _ _ _ f.hold,
                trivial⟩ (by rfl)))) (by rfl)
            · split
              · exact .sub (.after (within_tagWait ..) (.of [.hold] ⟨fun f => tabWf_tput _ _ _ _ f.hold, trivial⟩ (by rfl))) (by rfl)
              · split
                · exact .sub (.after (within_tagWait ..) (.of [.hold] ⟨fun f => tabWf_tput _ _ _ _ f.hold, trivial⟩ (by rfl))) (by rfl)
                · exact .sub (.after (within_sendSeg ..) (.of [.hold] ⟨fun f => tabWf_tput _ _ _ _ f.hold, trivial⟩ (by rfl))) (by rfl)
          · split
            · exact .sub (.after (within_endTxn ..) (.after (within_raise ..) (.of [.hold] ⟨fun f => tabWf_tput _ _ _ _ f.hold,
                trivial⟩ (by rfl)))) (by rfl)
            · split
              · exact .sub (.after (within_tagWait ..) (.of [.hold] ⟨fun f => tabWf_tput _ _ _ _ f.hold, trivial⟩ (by rfl))) (by rfl)
              · split
                · exact .sub (.after (within_tagWait ..) (.of [.hold] ⟨fun f => tabWf_tput _ _ _ _ f.hold, trivial⟩ (by rfl))) (by rfl)
                · exact .sub (.after (within_sendSeg ..) (.of [.hold] ⟨fun f => tabWf_tput _ _ _ _ f.hold, trivial⟩ (by rfl))) (by rfl)

theorem within_malformed (s : State) (p : Nat) : Within [.out, .port, .erqIn, .txn, .dict] s (malformed p s) := by
  unfold malformed
  dsimp only
  split
  · rename_i h
    exact .sub (.after (within_raise ..) (.of_snd h (.after (within_aggregate ..) (within_setPort ..)))) (by rfl)
  · rename_i h
    exact .sub (.of_snd h (.after (within_aggregate ..) (within_setPort ..))) (by rfl)

theorem within_refusal (s : State) (h : Hdr) (code : Nat) : Within [.out, .erqIn, .txn, .dict] s (refusal h code s) := by
  unfold refusal
  split
  · rename_i h
    exact .sub (.after (within_raise ..) (.of_snd h (within_aggregate ..))) (by rfl)
  · rename_i h
    exact .sub (.of_snd h (within_aggregate ..)) (by rfl)

theorem within_answer (src : Nat) (h : Hdr) (e : Effect) :
    Within [.out, .port, .erqIn, .txn, .jobKey, .dict] e.st (answer src h e) := by
  unfold answer
  dsimp only
  split
  · exact .sub (.after (within_sendResp ..) (within_refusal ..)) (by rfl)
  · split
    · split
      · exact .sub (within_sendResp ..) (by rfl)
      · exact .sub (.after (within_sendResp ..) (within_refusal ..)) (by rfl)
    · exact .sub (.ite (within_sendResp ..) (.upd [.txn] (by rfl))) (by rfl)

theorem within_dropped {s t : State} {src : Nat} {vcA : Bool} (h : takeHead src vcA s = .dropped t) :
    Within [.out, .port, .erqIn, .txn, .dict] s t := by
  unfold takeHead at h
  split at h
  · split at h <;> split at h <;> cases h
  · split at h
    · cases h
    · dsimp only at h
      generalize headOf _ = hd at h
      cases hd <;> cases h
      exact .sub (.after (within_malformed ..) (within_setPort ..)) (by rfl)

theorem within_got {s t : State} {src : Nat} {vcA : Bool} {b : Bytes} (h : takeHead src vcA s = .got b t) :
    Within [.port, .txn] s t := by
  unfold takeHead at h
  split at h
  · split at h <;> split at h <;> cases h <;> exact .sub (.upd [.txn] (by rfl)) (by rfl)
  · split at h
    · cases h
    · dsimp only at h
      generalize headOf _ = hd at h
      cases hd <;> cases h
      exact .sub (within_setPort ..) (by rfl)

/-- A request changes what its effect does, and what taking and answering it do. -/
theorem within_destReq {l : List Part} {src : Nat} {want : Hdr → Bool} {act : Hdr → Bytes → State → Effect}
    (h : ∀ x d s, Within l s (act x d s).st) (s : State) :
    Within ([.out, .port, .erqIn, .txn, .jobKey, .dict] ++ l) s (destReq src want act s) := by
  have wide {m : List Part} {s t : State} (w : Within m s t) (sub : Sub m [.out, .port, .erqIn, .txn, .jobKey, .dict]) :
      Within ([.out, .port, .erqIn, .txn, .jobKey, .dict] ++ l) s t :=
    (w.sub sub).sub (List.all_eq_true.2 fun p hp => List.contains_iff_mem.2 (List.mem_append_left l hp))
  unfold destReq
  split
  · exact .refl _ _
  next t drop => exact wide (within_dropped drop) (by decide)
  next b t got =>
    dsimp only
    have taken := wide (within_got got) (by decide)
    split
    · exact .refl _ _
    · split
      · exact taken
      · split
        · exact .refl _ _
        · split
          · split
            · exact .refl _ _
            · exact taken
          · split
            next c _ => exact taken.trans (wide (within_answer src (parseHdr b) { st := t, refuse := c }) (by decide))
            next d _ =>
              have did : Within ([.out, .port, .erqIn, .txn, .jobKey, .dict] ++ l) t (act (parseHdr b) d t).st :=
                (h ..).sub (List.all_eq_true.2 fun p hp => List.contains_iff_mem.2 (List.mem_append_right _ hp))
              exact taken.trans (did.trans (wide (within_answer ..) (by decide)))

theorem within_landPieces (ps : List Piece) :
    ∀ (b : Bytes) (ms : List Nat) (s : State), Within [.hbm, .port, .pair] s (landPieces ps b ms s).2 := by
  induction ps with
  | nil => exact fun _ _ s => .refl _ s
  | cons p ps ih => exact fun _ _ _ => .trans (within_objWrite ..) (ih ..)

/-! The effects of the requests. -/

theorem within_actLoad (h : Hdr) (d : Bytes) (s : State) : Within [] s (actLoad h d s).st := by
  unfold actLoad
  split
  · exact .refl _ _
  · split <;> exact .refl _ _

theorem within_actStore (h : Hdr) (d : Bytes) (s : State) : Within [.hbm, .port, .pair] s (actStore h d s).st := by
  unfold actStore
  split
  · exact .refl _ _
  · split
    · exact within_objWrite ..
    · exact .refl _ _

theorem within_actCopy (h : Hdr) (d : Bytes) (s : State) : Within [.hbm, .port, .pair] s (actCopy h d s).st := by
  unfold actCopy
  split
  · exact .refl _ _
  · split
    · exact .refl _ _
    · split
      · exact .refl _ _
      · exact within_landPieces ..

theorem within_actAtomic (h : Hdr) (d : Bytes) (s : State) : Within [.hbm, .port, .pair] s (actAtomic h d s).st := by
  unfold actAtomic
  generalize (if h.aop = 4 then 16 else 8) = n
  split
  · exact .refl _ _
  · generalize (if h.va % 8 = 0 then hbmPieces s h.dstCtx h.va 8 true else none) = ps
    split
    · exact within_objWrite ..
    · exact .refl _ _

theorem within_actExaAdd (h : Hdr) (d : Bytes) (s : State) : Within [.free, .tile] s (actExaAdd h d s).st := by
  unfold actExaAdd
  dsimp only
  split
  · exact .refl _ _
  · split
    · exact .refl _ _
    · split
      · exact .refl _ _
      · exact within_addLanes ..

theorem within_actExaRed (h : Hdr) (d : Bytes) (s : State) : Within [.free, .tile] s (actExaRed h d s).st := by
  unfold actExaRed
  dsimp only
  split
  · exact .refl _ _
  · split
    · exact .refl _ _
    · split
      · exact .refl _ _
      · split
        · exact .refl _ _
        · exact .sub (.after (within_setTile _ _ _ fun f => f.tileOf _) (within_addLanes ..)) (by rfl)

theorem within_actReduceDone (h : Hdr) (d : Bytes) (s : State) :
    Within [.out, .tile, .erqIn, .dict] s (actReduceDone h d s).st := by
  unfold actReduceDone
  dsimp only
  split
  · exact .refl _ _
  · split
    · exact .refl _ _
    · split
      · exact .refl _ _
      · dsimp only
        split
        · exact .sub (.after (within_slotTry ..) (within_setSlot ..)) (by rfl)
        · exact .sub (.after (within_slotTry ..) (.after (within_slotFail ..) (within_setSlot ..))) (by rfl)

theorem within_actFence (h : Hdr) (d : Bytes) (s : State) : Within [.out, .tile, .erqIn, .msix, .hif, .ev, .dict] s
    (actFence h d s).st := by
  unfold actFence
  split
  · exact .refl _ _
  · split
    · split
      · exact .sub (within_evAdd ..) (by rfl)
      · exact .refl _ _
    · exact .refl _ _

theorem within_landData (g : Seg) (x : Txn) (d : Bytes) (s : State) :
    Within [.out, .tile, .hbm, .port, .hif, .txn, .pair] s (landData g x d s).2 := by
  unfold landData
  generalize (if g.hdr.ttype = 4 then 8 else g.hdr.dlen) = n
  dsimp only
  split
  · exact .refl _ _
  · split
    · exact .sub (within_spWrite ..) (by rfl)
    · exact .sub (.after (.upd [.txn] (by rfl)) (within_vaWrite ..)) (by rfl)
    · exact .refl _ _

theorem within_segDone (s : State) (tag : Nat) (g : Seg) (id : Nat) (x : Txn) (status : Nat) :
    Within [.out, .tile, .erqIn, .queue, .txns, .tags, .txn, .sealRows, .dict] s (segDone tag g id x status s) := by
  unfold segDone
  dsimp only
  exact .sub (.after (within_txnTry ..) (.of [.txns, .tags] ⟨fun f => tabWf_tput _ _ _ _ f.txns,
      fun f => tabWf_tput _ _ _ _ f.tags, trivial⟩ (by rfl))) (by rfl)

theorem within_badResp (s : State) (h : Hdr) (m : Option (Nat × Txn)) :
    Within [.out, .tile, .erqIn, .queue, .txns, .tags, .quar, .txn, .sealRows, .dict] s (badResp h m s) := by
  unfold badResp
  split
  · split
    · exact .sub (within_endTxn ..) (by rfl)
    · exact .sub (.after (within_endTxn ..) (within_raise ..)) (by rfl)
  · exact .sub (within_raise ..) (by rfl)

theorem within_sourceResp (s : State) (src ttype : Nat) :
    Within [.out, .tile, .hbm, .port, .hif, .erqIn, .queue, .txns, .tags, .quar, .txn, .pair, .sealRows, .dict] s
      (sourceResp src ttype s) := by
  unfold sourceResp
  split
  · exact .refl _ _
  next drop => exact .sub (within_dropped drop) (by rfl)
  next b t got =>
    have taken := within_got got
    extract_lets h m
    clear_value m
    split
    · exact .refl _ _
    · split
      · exact .refl _ _
      · split
        · exact .sub (.ite (.refl [] _) taken) (by rfl)
        · split
          · exact taken.sub (by rfl)
          · split
            · exact .sub (.after (within_badResp ..) taken) (by rfl)
            · split
              · exact taken.sub (by rfl)
              · split
                · exact .sub (.after (within_segDone ..) taken) (by rfl)
                · split
                  · exact .sub (.after (within_segDone ..) taken) (by rfl)
                  · exact .sub (.after (within_segDone ..) (.after (within_landData ..) taken)) (by rfl)

theorem within_mirLanded (s : State) (ref : Nat) :
    Within [.out, .tile, .port, .erqIn, .hif, .queue, .txn, .jobKey, .sealRows, .qp, .dict] s (mirLanded ref s) := by
  unfold mirLanded
  dsimp only
  exact .sub (.after (.foldl (fun s x => within_sendResp ..) _ _) (.ite (.after (within_ntxEnd ..) (.after (.of [.hif, .txn,
      .qp] ⟨trivial, trivial, fun f => by dsimp only; exact tabWf_tmap _ _ _ f.qp, trivial⟩ (by rfl)) (within_slotGot ..))) (.after
      (.of [.hif, .txn, .qp] ⟨trivial, trivial, fun f => by dsimp only; exact tabWf_tmap _ _ _ f.qp, trivial⟩ (by rfl))
      (within_slotGot ..)))) (by rfl)

end Sys2Proof.Machine
end

section
/-!
PROOF. The parts that aborts reach.
-/
namespace Sys2Proof.Machine
open Host

theorem within_stopTile (s : State) (t : Nat) : Within [.tile] s (stopTile t s) := by
  unfold stopTile
  dsimp only
  exact .sub (.ite (.refl [] _) (within_setTile _ _ _ (by exact fun f => tile_wf rfl (f.mem _) (f.exa _)))) (by rfl)

theorem within_tileReset (s : State) (t : Nat) : Within [.tile] s (tileReset t s) := by
  unfold tileReset
  exact .sub (within_setTile _ _ _ (by exact fun f => tile_wf rfl (f.mem _) rfl)) (by rfl)

theorem within_scrubQuad (s : State) (q : Nat) (owner : Option Nat) : Within [.quad, .tile, .mesh] s (scrubQuad q owner s) := by
  unfold scrubQuad
  extract_lets u v
  have wiped : Within [.tile] s u := by
    refine .each (fun t s => ?_) _ _
    exact .sub (.after (within_setTile _ _ _ fun f => tile_wf (f.win _) rfl (f.exa _)) (within_tileReset s t)) (by rfl)
  clear_value u
  have cleared : Within [.mesh] u v := .upd [.mesh] (by rfl)
  exact .sub (.after (within_setQuad ..) (.after cleared wiped)) (by rfl)

theorem within_dropHeld (s : State) (q : Nat) : Within [.ethPort] s (dropHeld q s) := by
  unfold dropHeld
  dsimp only
  exact .sub (.of [.ethPort] ⟨(List.length_map ..).trans, trivial⟩ (by rfl)) (by rfl)

theorem within_qpError (s : State) (q : Nat) (cause : QpCause) (addr : Nat) :
    Within [.out, .erqIn, .qp, .ethPort, .dict] s (qpError q cause addr s) := by
  unfold qpError
  dsimp only
  exact .sub (.ite (.after (within_raise ..) (.after (within_dropHeld ..) (within_setQp ..))) (.refl [] _)) (by rfl)

theorem within_qpsError (s : State) (p : Qp → Bool) (cause : QpCause) :
    Within [.out, .erqIn, .qp, .ethPort, .dict] s (qpsError p cause s) := by
  unfold qpsError
  exact .sub (.each (fun i s => within_qpError ..) _ _) (by rfl)

theorem within_closeSeal (s : State) (n : Nat) : Within [.seals] s (closeSeal n s) := by
  unfold closeSeal
  dsimp only
  exact .sub (.of [.seals] ⟨fun f => tabWf_tput _ _ _ _ f.seals, trivial⟩ (by rfl)) (by rfl)

theorem within_closeSeals (s : State) (c : Nat) : Within [.seals] s (closeSeals c s) := by
  unfold closeSeals
  exact .sub (.each (fun i s => within_closeSeal ..) _ _) (by rfl)

theorem within_sealAtEnd (s : State) (q jobId n : Nat) :
    Within [.out, .hbm, .port, .hif, .erqIn, .pair, .seals, .sealer, .dict] s (sealAtEnd q jobId n s).2.2 := by
  unfold sealAtEnd
  extract_lets x old w
  have wrote : Within [.out, .hbm, .port, .hif, .pair] s w.st := within_vaWrite ..
  clear_value w
  split
  · exact .sub (.after (within_raise ..) (within_closeSeal ..)) (by rfl)
  · exact .sub (.after (within_closeSeal ..) (.after (.upd [.sealer] (by rfl)) wrote)) (by rfl)

/-- A fold that carries two more values beside the state. -/
theorem Within.foldl_third {l : List Part} {α β γ : Type} {f : α × β × State → γ → α × β × State}
    (h : ∀ a x, Within l a.2.2 (f a x).2.2) (xs : List γ) : ∀ a, Within l a.2.2 (xs.foldl f a).2.2 := by
  induction xs with
  | nil => exact fun a => .refl l a.2.2
  | cons x xs ih => exact fun a => (h a x).trans (ih _)

theorem within_sealsAtEnd (s : State) (q c jobId : Nat) :
    Within [.out, .hbm, .port, .hif, .erqIn, .pair, .seals, .sealer, .dict] s (sealsAtEnd q c jobId s).2.2 := by
  unfold sealsAtEnd
  split
  · exact .refl _ _
  · refine .foldl_third (fun acc n => ?_) _ (0, [], s)
    exact within_sealAtEnd ..

theorem within_jobSignal (s : State) (q : Nat) (c : Nat) (j : Job) :
    Within [.out, .tile, .erqIn, .msix, .hif, .ev, .dict] s (jobSignal q c j s).2 := by
  unfold jobSignal
  split
  · dsimp only
    exact .sub (within_evAdd ..) (by rfl)
  · dsimp only
    exact .sub (within_raise ..) (by rfl)

theorem within_endJob (s : State) (q status : Nat) (given : Bool) :
    Within [.out, .tile, .hbm, .port, .hif, .erqIn, .msix, .queue, .ev, .pair, .seals, .sealer, .dict] s
        (endJob q status given s) := by
  unfold endJob
  extract_lets qu
  split
  · exact .refl _ _
  · extract_lets sig r st j'
    have signalled : Within [.out, .tile, .hif, .erqIn, .msix, .ev, .dict] s sig.2 := by
      unfold sig
      split
      · exact .sub (within_jobSignal ..) (by rfl)
      · exact .refl _ _
    have sealed : Within [.out, .hbm, .port, .hif, .erqIn, .pair, .seals, .sealer, .dict] sig.2 r.2.2 := within_sealsAtEnd ..
    exact .sub (.after (within_setQueue ..) (.after sealed signalled)) (by rfl)

theorem within_freeQuads (s : State) (q : Nat) : Within [.quad, .stat] s (freeQuads q s) := by
  unfold freeQuads
  dsimp only
  exact .sub (.each (fun i s => .after (within_bump ..) (within_setQuad ..)) _ _) (by rfl)

theorem within_queueSettle (s : State) (q : Nat) : Within [.queue] s (queueSettle q s) := by
  unfold queueSettle
  dsimp only
  exact .sub (.ite (.refl [] _) (.ite (.ite (within_setQueue ..) (.refl [] _)) (.ite (within_setQueue ..) (.refl [] _)))) (by rfl)

theorem within_replaySettled (s : State) (q : Nat) (j : Job) : Within [.rcv] s (replaySettled q j s) := by
  unfold replaySettled
  dsimp only
  exact .sub (.ite (.upd [.rcv] (by rfl)) (.refl [] _)) (by rfl)

theorem within_finishJob (s : State) (q : Nat) (j : Job) :
    Within [.free, .out, .quad, .hif, .queue, .rcv, .stat] s (finishJob q j s) := by
  unfold finishJob
  dsimp only
  exact .sub (.after (within_replaySettled ..) (.after (within_queueSettle ..) (.after (within_freeQuads ..) (.after
      (within_bump ..) (.after (within_bump ..) (.after (within_bump ..) (.after (within_setQueue ..) (.after
      (within_hostWrite ..) (within_drawn ..))))))))) (by rfl)

theorem within_jobTry (s : State) (q : Nat) : Within [.free, .out, .quad, .hif, .queue, .rcv, .stat] s (jobTry q s) := by
  unfold jobTry
  split
  · exact .sub (.ite (within_finishJob ..) (.refl [] _)) (by rfl)
  · exact .refl _ _

theorem within_cutJob (s : State) (q : Nat) (status : Nat) :
    Within [.out, .tile, .hbm, .port, .erqIn, .msix, .hif, .queue, .ev, .pair, .seals, .sealer, .dict] s (cutJob q status s) := by
  unfold cutJob
  dsimp only
  split
  · exact .refl _ _
  · exact .sub (.ite (.refl [] _) (.after (within_endJob ..) (within_setQueue ..))) (by rfl)

/-- After the context has its new state, steps 1 to 5 of R112 reach no context. -/
theorem within_abortSteps_rest (s : State) (c cause : Nat) (st : CtxSt) :
    Within [.free, .out, .quad, .tile, .mesh, .hbm, .port, .erqIn, .msix, .hif, .queue, .ev, .txns, .tags, .quar, .txn,
      .pair, .seals, .sealRows, .sealer, .rcv, .qp, .ethPort, .stat, .dict]
      (setCtx s c { ctxOf s c with st := st }) (abortSteps c cause st s) := by
  unfold abortSteps
  extract_lets ctx qs own s1 s2 s3 s4 s5 s6 s7 s8
  change Within _ s1 _
  have h2 : Within [.queue] s1 s2 := .each (fun q s => .sub (.ite (within_setQueue ..) (.refl [] _)) (by rfl)) _ _
  have h3 : Within [.queue] s2 s3 := .each (fun q s => by
    dsimp only
    split
    · exact .sub (.ite (within_setQueue ..) (.refl [] _)) (by rfl)
    · exact .refl _ _) _ _
  have h4 : Within [.tile] s3 s4 := .each (fun k s => .each (fun t s => within_stopTile s t) _ _) _ _
  have h5 := within_endTxns s4 (fun x => decide (x.ctx = c)) errCtxAborted
  have h6 : Within [.seals, .out, .erqIn, .qp, .ethPort, .dict] s5 s6 := .after (within_qpsError ..) (within_closeSeals ..)
  have h7 : Within [.quad, .tile, .mesh] s6 s7 := .each (fun k s => within_scrubQuad s k none) _ _
  have h8 : Within [.out, .tile, .hbm, .port, .hif, .erqIn, .msix, .queue, .ev, .pair, .seals, .sealer, .dict] s7 s8 :=
    .each (fun q s => by
      split
      · exact .sub (.ite (.refl [] _) (within_endJob ..)) (by rfl)
      · exact .refl _ _) _ _
  have h9 := Within.each (fun q s => within_jobTry s q) qs s8
  exact .sub (.after h9 (.after h8 (.after h7 (.after h6 (.after h5 (.after h4 (.after h3 h2))))))) (by rfl)

theorem within_abortSteps (s : State) (c cause : Nat) (st : CtxSt) :
    Within [.free, .out, .quad, .tile, .mesh, .hbm, .port, .erqIn, .msix, .hif, .ctx, .queue, .ev, .txns, .tags, .quar,
        .txn,
      .pair, .seals, .sealRows, .sealer, .rcv, .qp, .ethPort, .stat, .dict] s (abortSteps c cause st s) :=
  .sub (.after (within_abortSteps_rest ..) (within_setCtx ..)) (by rfl)

theorem within_ctxAbort (s : State) (c : Nat) (cause : Nat) :
    Within [.free, .out, .quad, .tile, .mesh, .hbm, .port, .erqIn, .msix, .hif, .ctx, .queue, .ev, .txns, .tags, .quar,
        .txn, .pair, .seals, .sealRows, .sealer, .rcv, .qp, .ethPort, .stat, .dict] s (ctxAbort c cause s) := by
  unfold ctxAbort
  exact .sub (.ite (.after (within_raise ..) (within_abortSteps ..)) (.refl [] _)) (by rfl)

theorem within_setDep (s : State) (e : Nat) (x : DepEnt) : Within [.dep] s (setDep s e x) := by
  unfold setDep
  dsimp only
  exact .sub (.of [.dep] ⟨fun f => tabWf_tput _ _ _ _ f.dep, trivial⟩ (by rfl)) (by rfl)

theorem within_depClear (s : State) (e : Nat) : Within [.dep] s (depClear e s) := by
  unfold depClear
  dsimp only
  exact .sub (.ite (within_setDep ..) (.refl [] _)) (by rfl)

theorem within_depClearAll (s : State) (p : DepEnt → Bool) : Within [.dep] s (depClearAll p s) := by
  unfold depClearAll
  exact .sub (.each (fun i s => within_depClear ..) _ _) (by rfl)

theorem within_freeMo (s : State) (m : Nat) : Within [.dep, .owned, .mo] s (freeMo m s) := by
  unfold freeMo
  dsimp only
  exact .sub (.after (within_setMo ..) (.after (.of [.owned] ⟨fun f => tabWf_filter _ _ _ f.owned, trivial⟩ (by rfl))
      (within_depClearAll ..))) (by rfl)

theorem within_freeEv (s : State) (n : Nat) : Within [.tile, .ev] s (freeEv n s) := by
  unfold freeEv
  exact .sub (.after (within_setEv ..) (within_markWaits ..)) (by rfl)

end Sys2Proof.Machine
end

section
/-!
PROOF. The parts that the key tables reach.
-/
namespace Sys2Proof.Machine
open Host

theorem within_khQueue (s : State) (c : KhCmd) (dur : Nat) : Within [.kh] s (khQueue c dur s) := by
  unfold khQueue
  dsimp only
  exact .sub (.upd [.kh] (by rfl)) (by rfl)

theorem within_setCtxKey (s : State) (c : Nat) (k : Option (BitVec 256)) : Within [.ctxKey, .memKey] s (setCtxKey c k s) := by
  unfold setCtxKey
  dsimp only
  exact .sub (.of [.ctxKey, .memKey] ⟨fun f => tabWf_tput _ _ _ _ f.ctxKey, fun f => tabWf_tput _ _ _ _ f.memKey, trivial⟩ (by rfl)) (by rfl)

/-- A table of the values that another's entries give, with those left out that give the default, is in form. -/
theorem tabWfFrom_map_filter {α β : Type} [DecidableEq α] [DecidableEq β] (d : α) (d' : β) (f : α → β) (p : Nat × β → Bool)
    (hp : ∀ e, p e = true → e.2 ≠ d') (l : Tab α) :
    ∀ lo, tabWfFrom d lo l = true → tabWfFrom d' lo ((l.map fun e => (e.1, f e.2)).filter p) = true := by
  induction l with
  | nil => exact fun _ _ => rfl
  | cons e r ih =>
    obtain ⟨k, v⟩ := e
    intro lo h
    obtain ⟨above, -, rest⟩ := (tabWfFrom_cons ..).1 h
    have tail := ih (some k) rest
    rw [List.map_cons]
    by_cases kept : p (k, f v) = true
    · rw [List.filter_cons_of_pos kept]
      exact (tabWfFrom_cons ..).2 ⟨above, hp _ kept, tail⟩
    · rw [List.filter_cons_of_neg kept]
      exact tabWfFrom_mono d' _ (some k) lo (fun x hx => ⟨k, rfl, (above x hx).le⟩) tail

theorem tabWf_map_isSome {α β : Type} [DecidableEq α] [DecidableEq β] (d : α) (f : α → Option β) (t : Tab α)
    (h : tabWf d t = true) : tabWf none ((t.map fun e => (e.1, f e.2)).filter (fun e => e.2.isSome)) = true :=
  tabWfFrom_map_filter d none f _ (fun e some_e none_e => by simp [none_e] at some_e) t none h

/-- The retention store, changed in its form. -/
theorem retained_map {s : State} (f : Formed s) {g : Retained → Retained}
    (h : ∀ r, tabWf none r.ctxKey = true → tabWf none r.jobKey = true →
      tabWf none (g r).ctxKey = true ∧ tabWf none (g r).jobKey = true) (r : Retained) (hr : s.kh.ret.map g = some r) :
    tabWf none r.ctxKey = true ∧ tabWf none r.jobKey = true := by
  obtain ⟨r0, hr0, rfl⟩ := Option.map_eq_some_iff.1 hr
  obtain ⟨ctx, job⟩ := f.ret r0 hr0
  exact h r0 ctx job

theorem within_zeroCtxKey (s : State) (c : Nat) : Within [.ctxKey, .memKey, .ret] s (zeroCtxKey c s) :=
  .of [.ctxKey, .memKey, .ret] ⟨fun f => tabWf_tput _ _ _ _ f.ctxKey, fun f => tabWf_tput _ _ _ _ f.memKey,
    fun f => retained_map f fun _ ctx job => ⟨tabWf_tput _ _ _ _ ctx, job⟩, trivial⟩ rfl

theorem within_zeroJobKey (s : State) (k : Nat) : Within [.jobKey, .gcmKey, .ret] s (zeroJobKey k s) :=
  .of [.jobKey, .gcmKey, .ret] ⟨fun f => tabWf_tput _ _ _ _ f.jobKey, fun f => tabWf_tput _ _ _ _ f.gcmKey,
    fun f => retained_map f fun _ ctx job => ⟨ctx, tabWf_tput _ _ _ _ job⟩, trivial⟩ rfl

/-- Job key slots with their bindings alone. -/
theorem tabWf_boundSlots (t : Tab JobKey) (h : tabWf {} t = true) :
    tabWf {} ((t.map (fun e => (e.1, ({ bound := e.2.bound } : JobKey)))).filter (fun e => e.2.bound.isSome)) = true := by
  refine tabWfFrom_map_filter (d := ({} : JobKey)) {} (fun j : JobKey => ({ bound := j.bound } : JobKey)) _ ?_ t none h
  intro e bound unbound
  rw [unbound] at bound
  cases bound

theorem within_zeroKeys (s : State) : Within [.ctxKey, .jobKey, .memKey, .gcmKey, .ret] s (zeroKeys s) :=
  .of [.ctxKey, .jobKey, .memKey, .gcmKey, .ret] ⟨fun _ => rfl, fun f => tabWf_boundSlots _ f.jobKey,
    fun _ => rfl, fun _ => rfl, fun f => retained_map f fun _ _ _ => ⟨rfl, rfl⟩, trivial⟩ rfl

/-- The pair secret goes, and every context that is not FREE has lost its keys. -/
theorem within_secretsLost (s : State) :
    Within [.ctx, .ret, .kh] s { s with
      kh.pairSecret := none, kh.ret := s.kh.ret.map (fun (r : Retained) => { r with pairSecret := none }),
      obj.ctx := tmap {} (fun _ (x : Ctx) => if x.st = .free then x else { x with keyLost := true }) s.obj.ctx } :=
  .of [.ctx, .ret, .kh] ⟨fun f => by dsimp only; exact tabWf_tmap _ _ _ f.ctx,
    fun f => retained_map f fun _ ctx job => ⟨ctx, job⟩, trivial, trivial⟩ (by rfl)

theorem within_zeroAll (s : State) : Within [.ctx, .ctxKey, .jobKey, .memKey, .gcmKey, .ret, .kh] s (zeroAll s) :=
  .sub (.after (within_secretsLost (zeroKeys s)) (within_zeroKeys s)) (by rfl)

theorem tabWf_retKeys (s : State) (t : Tab (Option Bytes)) (h : tabWf none t = true) : tabWf none (retKeys s t) = true :=
  tabWf_map_isSome none (fun w => w.bind (retOpen s)) t h

theorem within_reloadTables (s : State) : Within [.memKey, .gcmKey] s (reloadTables s) := by
  unfold reloadTables
  split
  next r hr =>
    exact .of [.memKey, .gcmKey] ⟨fun f => tabWf_retKeys s _ (f.ret r hr).1, fun f => tabWf_retKeys s _ (f.ret r hr).2, trivial⟩ (by rfl)
  next =>
    exact .of [.memKey, .gcmKey] ⟨fun f => f.ctxKey, fun f => tabWf_map_isSome {} JobKey.key _ f.jobKey, trivial⟩ (by rfl)

theorem within_drawKey (s : State) : Within [.free] s (drawKey s).2 := by
  unfold drawKey
  dsimp only
  exact .sub (within_drawn ..) (by rfl)

theorem within_drawScalar (s : State) : Within [.free] s (drawScalar s).2 := by
  unfold drawScalar
  dsimp only
  exact .sub (.after (within_drawKey ..) (within_drawKey ..)) (by rfl)

theorem within_putRec (s : State) (r : Nat) (b : Bytes) : Within [.hbm] s (putRec r b s) := by
  unfold putRec
  exact .sub (within_hbmWrite ..) (by rfl)

theorem within_regSync (s : State) (r : Nat) : Within [.hbm] s (regSync r s) := by
  unfold regSync
  exact .sub (.ite (within_putRec ..) (.refl [] _)) (by rfl)

theorem within_clearRec (s : State) (r : Nat) : Within [.hbm, .pair] s (clearRec r s) := by
  unfold clearRec
  dsimp only
  exact .sub (.after (within_putRec ..) (.upd [.pair] (by rfl))) (by rfl)

theorem within_regionMsg (s : State) (r : Nat) : Within [.port, .pair] s (regionMsg r s) := by
  unfold regionMsg
  dsimp only
  exact .sub (.ite (within_mirSend ..) (.refl [] _)) (by rfl)

end Sys2Proof.Machine
end

section
/-!
PROOF. The parts that the object commands reach.
-/
namespace Sys2Proof.Machine
open Host

theorem within_objDone (s : State) (code : Nat) (result : Bytes) (vec : Option (BitVec 11)) :
    Within [.out, .msix, .obj] s (objDone code result vec s) := by
  unfold objDone
  dsimp only
  exact .sub (.after (within_msixIf ..) (.upd [.obj] (by rfl))) (by rfl)

theorem within_objFail (s : State) (code : Nat) (raw : Nat) (addr : Nat) (ctx : Option Nat) (vec : Option (BitVec 11)) :
    Within [.out, .erqIn, .msix, .obj, .dict] s (objFail code raw addr ctx vec s) := by
  unfold objFail
  exact .sub (.after (within_objDone ..) (within_raise ..)) (by rfl)

/-- What an object command's own effect changes, where it has one. -/
def ObjEnd.Leaves (l : List Part) (s : State) : ObjEnd → Prop
  | .fail _ _ => True
  | .done _ t => Within l s t
  | .runs t => Within l s t

namespace ObjEnd.Leaves

variable {l : List Part} {s t : State} {e e' : ObjEnd} {c : Prop} [Decidable c] {code addr : Nat} {r : Bytes}

theorem fail : Leaves l s (.fail code addr) := trivial

theorem done (w : Within l s t) : Leaves l s (.done r t) := w

theorem runs (w : Within l s t) : Leaves l s (.runs t) := w

theorem ite (a : Leaves l s e) (b : Leaves l s e') : Leaves l s (if c then e else e') := by
  split
  · exact a
  · exact b

/-- A check that refuses. -/
theorem check (b : Leaves l s e) : Leaves l s (if c then .fail code addr else e) := .ite trivial b

/-- A check that accepts. -/
theorem gate (a : Leaves l s e) : Leaves l s (if c then e else .fail code addr) := .ite a trivial

end ObjEnd.Leaves

/-- The parts that the command interface itself reaches. -/
abbrev cmdParts : List Part := [.out, .erqIn, .msix, .obj, .dict]

theorem Within.left {l m : List Part} {s t : State} (w : Within l s t) : Within (l ++ m) s t :=
  w.sub (List.all_eq_true.2 fun _ hp => List.contains_iff_mem.2 (List.mem_append_left _ hp))

theorem Within.right {l m : List Part} {s t : State} (w : Within m s t) : Within (l ++ m) s t :=
  w.sub (List.all_eq_true.2 fun _ hp => List.contains_iff_mem.2 (List.mem_append_right _ hp))

/-- An object command changes the interface's own parts, and what its effect changes. -/
theorem within_objCmd {l : List Part} {op lim : Nat} {x : ObjCmd} {bad : Bytes → Bool} {ctx : Bytes → Option Nat}
    {act : Bytes → State → ObjEnd} (h : ∀ d s, (act d s).Leaves l s) (s : State) :
    Within (cmdParts ++ l) s (objCmd op lim x bad ctx act s) := by
  have failed (code raw addr c vec) : Within cmdParts s (objFail code raw addr c vec s) := within_objFail ..
  unfold objCmd
  split
  · exact .refl _ _
  · split
    · exact .left (.sub (.upd [.obj] (by rfl)) (by rfl))
    · extract_lets stage vec raw
      split
      · exact .left (failed ..)
      · split
        · exact .left (failed ..)
        · split
          · exact .left (failed ..)
          · have left := h stage s
            split
            · exact .left (failed ..)
            next r t done =>
              rw [done] at left
              exact .trans (.right left) (.left (.sub (within_objDone t 0 r vec) (by rfl)))
            next t runs =>
              rw [runs] at left
              exact .trans (.right left) (.left (.sub (.upd [.obj] (by rfl)) (by rfl)))

theorem within_ctxMake (s : State) (c : Nat) (d : Bytes) :
    Within [.free, .ctx, .cseq, .before, .ctxKey, .jobKey, .memKey, .replay] s (ctxMake c d s) := by
  unfold ctxMake
  dsimp only
  exact .sub (.after (.each (fun i s => .of [.jobKey] ⟨fun f => tabWf_tput _ _ _ _ f.jobKey, trivial⟩ (by rfl)) _ _) (.after
      (.upd [.cseq, .before, .replay] (by rfl)) (.after (within_setCtx ..) (.after (within_setCtxKey ..) (within_drawKey ..))))) (by rfl)

theorem within_effCtxCreate (s : State) (x : ObjCmd) (dur : Nat) :
    Within (cmdParts ++ [.free, .ctx, .cseq, .before, .ctxKey, .jobKey, .memKey, .kh, .replay]) s (effCtxCreate x dur s) := by
  unfold effCtxCreate
  refine within_objCmd (fun d s => ?_) s
  exact .check <| .check <| .check <| .check <| .check <| .check <| .check <|
    .ite (.done (.sub (within_ctxMake ..) (by rfl))) (.runs (.sub (within_khQueue ..) (by rfl)))

/-- The context that CTX_DESTROY found is RETIRING before its objects go. -/
def retiring (c : Nat) (s : State) : State :=
  if isLive s c then abortSteps c errCtxAborted .retiring s else setCtx s c { ctxOf s c with st := .retiring }

theorem within_retiring (s : State) (c : Nat) :
    Within [.free, .out, .quad, .tile, .mesh, .hbm, .port, .erqIn, .msix, .hif, .ctx, .queue, .ev, .txns, .tags, .quar, .txn,
      .pair, .seals, .sealRows, .sealer, .rcv, .qp, .ethPort, .stat, .dict] s (retiring c s) := by
  unfold retiring
  exact .sub (.ite (within_abortSteps ..) (within_setCtx ..)) (by rfl)

/-- Once the context is RETIRING, CTX_DESTROY reaches no context. -/
theorem within_ctxRetire_rest (s : State) (c : Nat) :
    Within [.out, .tile, .hbm, .erqIn, .dep, .owned, .queue, .mo, .ev, .pair, .seals, .qp, .ethPort, .dict]
      (retiring c s) (ctxRetire c s) := by
  unfold ctxRetire
  extract_lets ctx s1 s2 s3 eth s4 s5 s6 s7
  change Within _ s1 _
  have h2 : Within [.queue] s1 s2 := by
    refine .each (fun q s => ?_) _ _
    exact .sub (.after (within_queueSettle ..) (within_setQueue ..)) (by rfl)
  have h3 : Within [.out, .erqIn, .qp, .ethPort, .dict] s2 s3 := within_qpsError ..
  clear_value s3
  have h4 : Within [.qp] s3 s4 := .of [.qp] ⟨fun f => tabWf_filter _ _ _ f.qp, trivial⟩ (by rfl)
  have h5 : Within [.dep, .seals] s4 s5 := .after (within_closeSeals ..) (within_depClearAll ..)
  have h6 := Within.each (fun n s => within_freeEv s n) (tkeys (fun _ x => x.live && decide (x.ctx = c)) s5.obj.ev) s5
  have h7 := Within.each (fun n s => within_freeMo s n)
    (tkeys (fun _ x => decide (x.st ≠ .free) && decide (x.ctx = c)) s6.obj.mo) s6
  exact .sub (.after (.each (fun r s => within_clearRec s r) _ _) (.after h7 (.after h6 (.after h5 (.after h4 (.after h3
    h2)))))) (by rfl)

theorem within_ctxRetire (s : State) (c : Nat) :
    Within [.free, .out, .quad, .tile, .mesh, .hbm, .port, .erqIn, .msix, .dep, .owned, .hif, .ctx, .queue, .mo, .ev,
        .txns,
      .tags, .quar, .txn, .pair, .seals, .sealRows, .sealer, .rcv, .qp, .ethPort, .stat, .dict] s (ctxRetire c s) :=
  .sub (.after (within_ctxRetire_rest ..) (within_retiring ..)) (by rfl)

theorem within_effCtxDestroy (s : State) (x : ObjCmd) :
    Within (cmdParts ++ [.free, .out, .quad, .tile, .mesh, .hbm, .port, .erqIn, .msix, .dep, .owned, .hif, .ctx, .queue,
        .mo,
      .ev, .obj, .txns, .tags, .quar, .txn, .pair, .seals, .sealRows, .sealer, .rcv, .qp, .ethPort, .stat, .dict]) s
      (effCtxDestroy x s) := by
  unfold effCtxDestroy
  refine within_objCmd (fun d s => ?_) s
  have retired := within_ctxRetire s x.id.toNat
  revert retired
  generalize ctxRetire x.id.toNat s = t
  intro retired
  exact .gate (.runs (.sub (.after (.upd [.obj] (by rfl)) retired) (by rfl)))

theorem within_effContextFree (s : State) (c : Nat) :
    Within [.out, .msix, .ctx, .obj, .ctxKey, .jobKey, .memKey, .gcmKey, .ret] s (effContextFree c s) := by
  unfold effContextFree
  dsimp only
  exact .sub (.ite (.ite (.after (within_objDone ..) (.after (within_setCtx ..) (.after (.each
      (fun i s => within_zeroJobKey ..) _ _) (within_zeroCtxKey ..)))) (.after (within_setCtx ..) (.after (.each
      (fun i s => within_zeroJobKey ..) _ _) (within_zeroCtxKey ..)))) (.refl [] _)) (by rfl)

theorem within_effCtxAbort (s : State) (x : ObjCmd) :
    Within (cmdParts ++ [.free, .out, .quad, .tile, .mesh, .hbm, .port, .erqIn, .msix, .hif, .ctx, .queue, .ev, .txns,
        .tags,
      .quar, .txn, .pair, .seals, .sealRows, .sealer, .rcv, .qp, .ethPort, .stat, .dict]) s (effCtxAbort x s) := by
  unfold effCtxAbort
  refine within_objCmd (fun d s => ?_) s
  exact .gate (.done (.sub (within_ctxAbort ..) (by rfl)))

theorem within_effCtxRestart (s : State) (x : ObjCmd) : Within (cmdParts ++ [.ctx]) s (effCtxRestart x s) := by
  unfold effCtxRestart
  refine within_objCmd (fun d s => ?_) s
  exact .check (.check (.done (within_setCtx ..)))

theorem within_effQCreate (s : State) (x : ObjCmd) : Within (cmdParts ++ [.free, .queue, .obj]) s (effQCreate x s) := by
  unfold effQCreate
  refine within_objCmd (fun d s => ?_) s
  exact .check (.done (.sub (.after (within_setQueue ..) (.after (.upd [.obj] (by rfl)) (within_drawn ..))) (by rfl)))

theorem within_onQueue {l : List Part} {op : Nat} {x : ObjCmd} {st : QSt} {act : Nat → State → ObjEnd}
    (h : ∀ q s, (act q s).Leaves l s) (s : State) : Within (cmdParts ++ l) s (onQueue op x st act s) := by
  unfold onQueue
  exact within_objCmd (fun _ _ => .gate (h ..)) s

theorem within_effQDestroy (s : State) (x : ObjCmd) :
    Within (cmdParts ++ [.quad, .queue, .rcv, .stat]) s (effQDestroy x s) := by
  unfold effQDestroy
  refine within_onQueue (fun q s => .done ?_) s
  refine .sub (.after (within_setQueue ..) (?_ : Within [.quad, .rcv, .stat] s _)) (by rfl)
  split
  · exact .sub (.after (within_replaySettled ..) (within_freeQuads ..)) (by rfl)
  · exact .refl _ _

theorem within_effQStop (s : State) (x : ObjCmd) : Within (cmdParts ++ [.queue]) s (effQStop x s) := by
  unfold effQStop
  refine within_onQueue (fun q s => .done ?_) s
  exact .sub (.after (within_queueSettle ..) (within_setQueue ..)) (by rfl)

theorem within_effQStart (s : State) (x : ObjCmd) : Within (cmdParts ++ [.queue]) s (effQStart x s) := by
  unfold effQStart
  exact within_onQueue (fun q s => .gate (.done (within_setQueue ..))) s

theorem within_effMemCreate (s : State) (x : ObjCmd) : Within (cmdParts ++ [.free, .hbm, .mo]) s (effMemCreate x s) := by
  unfold effMemCreate
  refine within_objCmd (fun d s => ?_) s
  refine .check <| .check <| .check <| .check <| .check <| .done ?_
  exact .sub (.ite (.after (within_regSync ..) (.after (within_setMo ..) (within_drawn ..)))
    (.after (within_setMo ..) (within_drawn ..))) (by rfl)

theorem within_effMemDestroy (s : State) (x : ObjCmd) : Within (cmdParts ++ [.hbm, .dep, .owned, .mo]) s (effMemDestroy x s) := by
  unfold effMemDestroy
  refine within_objCmd (fun d s => ?_) s
  exact .check (.done (.sub (.ite (.after (within_regSync ..) (within_freeMo ..)) (within_freeMo ..)) (by rfl)))

theorem within_effMemFreeze (s : State) (x : ObjCmd) (hr : List Host.Cell) :
    Within (cmdParts ++ [.free, .mo]) s (effMemFreeze x hr s) := by
  unfold effMemFreeze
  refine within_objCmd (fun d s => ?_) s
  exact .check (.done (.sub (.after (within_setMo ..) (within_drawn ..)) (by rfl)))

theorem within_effMemVerify (s : State) (x : ObjCmd) (hr : List Host.Cell) :
    Within (cmdParts ++ [.free]) s (effMemVerify x hr s) := by
  unfold effMemVerify
  refine within_objCmd (fun d s => ?_) s
  exact .check (.done (within_drawn ..))

theorem within_effEvCreate (s : State) (x : ObjCmd) : Within (cmdParts ++ [.out, .msix, .hif, .ev]) s (effEvCreate x s) := by
  unfold effEvCreate
  refine within_objCmd (fun d s => ?_) s
  exact .check (.done (.sub (.after (within_evNotify ..) (within_setEv ..)) (by rfl)))

theorem within_onEvent {l : List Part} {op : Nat} {x : ObjCmd} {act : Nat → Bytes → State → State}
    (h : ∀ n d s, Within l s (act n d s)) (s : State) : Within (cmdParts ++ l) s (onEvent op x act s) := by
  unfold onEvent
  exact within_objCmd (fun _ _ => .gate (.done (h ..))) s

theorem within_effEvDestroy (s : State) (x : ObjCmd) : Within (cmdParts ++ [.tile, .ev]) s (effEvDestroy x s) := by
  unfold effEvDestroy
  exact within_onEvent (fun _ _ _ => .sub (within_freeEv ..) (by rfl)) s

theorem within_effEvAdd (s : State) (x : ObjCmd) :
    Within (cmdParts ++ [.out, .tile, .erqIn, .msix, .hif, .ev, .dict]) s (effEvAdd x s) := by
  unfold effEvAdd
  exact within_onEvent (fun _ _ _ => .sub (within_evAdd ..) (by rfl)) s

theorem within_effEvSet (s : State) (x : ObjCmd) : Within (cmdParts ++ [.out, .tile, .msix, .hif, .ev]) s (effEvSet x s) := by
  unfold effEvSet
  exact within_onEvent (fun _ _ _ => .sub (within_evChange ..) (by rfl)) s

theorem within_effEvArm (s : State) (x : ObjCmd) : Within (cmdParts ++ [.out, .msix, .hif, .ev]) s (effEvArm x s) := by
  unfold effEvArm
  exact within_onEvent (fun _ _ _ => .sub (.after (within_evNotify ..) (within_setEv ..)) (by rfl)) s

theorem within_effObjUnknown (s : State) (op : Nat) (x : ObjCmd) : Within (cmdParts ++ []) s (effObjUnknown op x s) := by
  unfold effObjUnknown
  exact within_objCmd (fun _ _ => .fail) s

theorem within_doorbell {l : List Part} {q : Nat} {data : Bytes} {log : Nat} {act : Nat → State → State}
    (h : ∀ v s, Within l s (act v s)) (s : State) : Within ([.out, .erqIn, .dict] ++ l) s (doorbell q data log act s) := by
  unfold doorbell
  dsimp only
  split
  · exact .refl _ _
  · split
    · exact .right (h ..)
    · exact .left (within_raise ..)

theorem within_effSubmissionDoorbell (s : State) (q : Nat) (data : Bytes) :
    Within [.free, .out, .erqIn, .queue, .dict] s (effSubmissionDoorbell q data s) := by
  unfold effSubmissionDoorbell
  dsimp only
  exact .sub (within_doorbell (fun _ _ => .ite (.after (within_setQueue ..) (within_drawn ..)) (within_setQueue ..)) _) (by rfl)

theorem within_effCompletionDoorbell (s : State) (q : Nat) (data : Bytes) :
    Within [.free, .out, .erqIn, .queue, .dict] s (effCompletionDoorbell q data s) := by
  unfold effCompletionDoorbell
  dsimp only
  exact .sub (within_doorbell (fun _ _ => .ite (.after (within_setQueue ..) (within_drawn ..)) (within_setQueue ..)) _) (by rfl)

theorem within_effDecodeFailureEnd (s : State) (t : Nat) :
    Within [.free, .out, .quad, .tile, .mesh, .hbm, .port, .erqIn, .msix, .hif, .ctx, .queue, .ev, .txns, .tags, .quar,
        .txn, .pair, .seals, .sealRows, .sealer, .rcv, .qp, .ethPort, .stat, .dict] s (effDecodeFailureEnd t s) := by
  unfold effDecodeFailureEnd
  dsimp only
  split
  · exact .refl _ _
  · split
    · split
      · exact .sub (.after (within_ctxAbort ..) (within_setTile _ _ _ fun f => f.tileOf _)) (by rfl)
      · exact .sub (within_setTile _ _ _ fun f => f.tileOf _) (by rfl)
    · exact .refl _ _

end Sys2Proof.Machine
end

section
/-!
PROOF. The parts that the error queue reach.
-/
namespace Sys2Proof.Machine
open Host

theorem within_erqPut (s : State) (e : ErrRec) (seq : Nat) (time : Nat) : Within [.out, .erq, .hif] s (erqPut e seq time s) := by
  unfold erqPut
  dsimp only
  exact .sub (.after (.upd [.erq] (by rfl)) (within_hostWrite ..)) (by rfl)

theorem within_erqDrop (s : State) (seq : BitVec 64) (time : BitVec 64) : Within [.erq, .stat] s (erqDrop seq time s) := by
  unfold erqDrop
  dsimp only
  exact .sub (.after (within_bump ..) (.upd [.erq] (by rfl))) (by rfl)

theorem within_erqOverflow (s : State) : Within [.out, .erq, .hif] s (erqOverflow s) := by
  unfold erqOverflow
  dsimp only
  exact .sub (.ite (.refl [] _) (.after (.upd [.erq] (by rfl)) (within_erqPut ..))) (by rfl)

theorem within_erqStore (s : State) (e : ErrRec) (seq : BitVec 64) (time : BitVec 64) :
    Within [.out, .erq, .hif, .stat] s (erqStore e seq time s) := by
  unfold erqStore
  dsimp only
  exact .sub (.ite (within_erqDrop ..) (.ite (.after (within_erqDrop ..) (within_erqOverflow ..)) (.after (within_erqPut ..)
      (within_erqOverflow ..)))) (by rfl)

theorem within_markFirst (s : State) (e : ErrRec) (seq : BitVec 64) : Within [.queue] s (markFirst e seq s) := by
  unfold markFirst
  dsimp only
  split
  · exact .refl _ _
  · split
    · exact .sub (.ite (within_setQueue ..) (.refl [] _)) (by rfl)
    · exact .refl _ _

theorem within_effErrorAccept (s : State) (i : Nat) :
    Within [.out, .erqIn, .erq, .hif, .queue, .stat] s (effErrorAccept i s) := by
  unfold effErrorAccept
  dsimp only
  exact .sub (.ite (.refl [] _) (.after (within_erqStore ..) (.after (within_markFirst ..) (.after (within_bump ..)
      (.upd [.erqIn, .erq] (by rfl)))))) (by rfl)

theorem within_erqAdvance (l : List ErqLine) : ∀ s : State, Within [.out, .erq, .msix] s (erqAdvance l s) := by
  induction l with
  | nil =>
    intro s
    unfold erqAdvance
    exact .sub (.upd [.erq] (by rfl)) (by rfl)
  | cons x r ih =>
    intro s
    unfold erqAdvance
    split
    · refine .trans ?_ (ih _)
      dsimp only
      exact .sub (.ite (.after (within_msix ..) (.upd [.erq] (by rfl))) (.upd [.erq] (by rfl))) (by rfl)
    · exact .sub (.upd [.erq] (by rfl)) (by rfl)

theorem within_erqLanded (s : State) (id : Nat) : Within [.out, .erq, .msix] s (erqLanded id s) := by
  unfold erqLanded
  dsimp only
  exact .sub (.after (within_erqAdvance ..) (.upd [.erq] (by rfl))) (by rfl)

theorem within_effErqBase (s : State) (w : RegWr) : Within [.erq] s (effErqBase w s) := by
  unfold effErqBase
  dsimp only
  exact .sub (.ite (.refl [] _) (.ite (.upd [.erq] (by rfl)) (.upd [.erq] (by rfl)))) (by rfl)

theorem within_effErqHead (s : State) (w : RegWr) : Within [.erq] s (effErqHead w s) := by
  unfold effErqHead
  dsimp only
  exact .sub (.ite (.refl [] _) (.ite (.upd [.erq] (by rfl)) (.upd [.erq] (by rfl)))) (by rfl)

theorem within_effErqEnable (s : State) (w : RegWr) : Within [.pwrDue, .erqIn, .erq] s (effErqEnable w s) := by
  unfold effErqEnable
  dsimp only
  exact .sub (.ite (.refl [] _) (.ite (.after (.foldl (fun s x => within_record ..) _ _) (.upd [.pwrDue, .erq] (by rfl))) (.upd [.erq] (by rfl)))) (by rfl)

end Sys2Proof.Machine
end

section
/-!
PROOF. The parts that the tiles reach.
-/
namespace Sys2Proof.Machine
open Host

theorem within_mesh (s : State) (m : List Flit) : Within [.mesh] s { s with mesh := m } := .upd [.mesh] (by rfl)

theorem within_decodeFail (s : State) (t : Nat) (off : Nat) (d : Bytes) :
    Within [.out, .tile, .erqIn, .dict] s (decodeFail t off d s) := by
  unfold decodeFail
  dsimp only
  exact .sub (.after (within_raise ..) (within_setTile _ _ _ fun f => f.tileOf _)) (by rfl)

theorem within_effAdmit (s : State) (t : Nat) : Within [.out, .tile, .erqIn, .dict] s (effAdmit t s) := by
  unfold effAdmit
  dsimp only
  split
  · split
    · exact .sub (within_decodeFail ..) (by rfl)
    · exact .sub (.ite (within_decodeFail ..) (.ite (within_setTile _ _ _ (by exact fun f => tile_wf (tabWf_tput _ _ _ _ (f.win _)) (f.mem _) (f.exa _))) (within_decodeFail ..))) (by rfl)
  · exact .refl _ _

theorem within_takeTokens (s : State) (t : Nat) (d : Bytes) : Within [.tile, .mesh] s (takeTokens t d s) := by
  unfold takeTokens
  dsimp only
  exact .sub (.after (within_mesh _ _) (within_setTile _ _ _ fun f => f.tileOf _)) (by rfl)

theorem within_bindSeal (s : State) (t : Nat) (n : Nat) : Within [.out, .tile, .erqIn, .dict] s (bindSeal t n s) := by
  unfold bindSeal
  dsimp only
  exact .sub (.ite (.ite (within_setSlot ..) (within_slotErr ..)) (.refl [] _)) (by rfl)

theorem within_readEvent (s : State) (t : Nat) (n : Nat) : Within [.tile] s (readEvent t n s) := by
  unfold readEvent
  dsimp only
  exact .sub (.ite (within_setSlot ..) (.ite (within_setSlot ..) (.refl [] _))) (by rfl)

theorem within_effIssue (s : State) (t : Nat) (n : Nat) : Within [.out, .tile, .mesh, .erqIn, .dict] s (effIssue t n s) := by
  unfold effIssue
  dsimp only
  exact .sub (.ite (.after (within_readEvent ..) (.after (within_bindSeal ..) (.after (within_setSlot ..)
      (within_takeTokens ..)))) (.refl [] _)) (by rfl)

theorem within_begin (s : State) (t : Nat) (n : Nat) : Within [.tile] s (begin t n s) := by
  unfold begin
  dsimp only
  exact .sub (within_setSlot ..) (by rfl)

theorem within_mergeLanes (s : State) (t : Nat) (archive : Bool) (clear : Bool) (l : List (Nat × Lane)) :
    Within [.free, .tile] s (mergeLanes t archive clear l s) := by
  unfold mergeLanes
  dsimp only
  exact .sub (.after (within_drawn ..) (.foldl (fun s x => within_setLane ..) _ _)) (by rfl)

theorem within_addLoss (s : State) (t : Nat) (n : Nat) (sum : Nat) : Within [.tile] s (addLoss t n sum s) := by
  unfold addLoss
  dsimp only
  exact .sub (.after (within_setTile _ _ _ fun f => f.tileOf _) (within_setSlot ..)) (by rfl)

theorem within_laneFail (s : State) (t : Nat) (n : Nat) (st : Nat × Nat) :
    Within [.out, .tile, .erqIn, .dict] s (laneFail t n st s) := by
  unfold laneFail
  dsimp only
  exact .sub (.ite (.refl [] _) (within_slotFail ..)) (by rfl)

theorem within_effMatmul (s : State) (t : Nat) (n : Nat) : Within [.free, .out, .tile, .erqIn, .dict] s (effMatmul t n s) := by
  unfold effMatmul
  dsimp only
  exact .sub (.ite (.after (within_slotTry ..) (.after (within_begin ..) (.after (within_laneFail ..) (.after
      (within_addLoss ..) (within_mergeLanes ..))))) (.refl [] _)) (by rfl)

theorem within_effExaRead (s : State) (t n : Nat) : Within [.out, .tile, .erqIn, .dict] s (effExaRead t n s) := by
  unfold effExaRead
  split
  · extract_lets d f lanes s1 novf tl s2 s3 st
    have h1 : Within [.tile] s s1 := by
      refine .foldl (fun s' x => ?_) _ _
      exact within_spWrite ..
    have h2 : Within [.tile] s1 s2 := by
      refine within_setTile _ _ _ fun f => ?_
      split <;> exact f.tileOf t
    have h3 : Within [.tile] s2 s3 := by
      unfold s3
      split
      · refine .foldl (fun s' x => ?_) _ _
        exact within_setLane ..
      · exact .refl _ _
    exact .sub (.after (within_slotTry ..) (.after (within_begin ..) (.after (within_laneFail ..) (.after h3 (.after h2 h1))))) (by rfl)
  · exact .refl _ _

theorem within_effVec (s : State) (t : Nat) (n : Nat) : Within [.free, .out, .tile, .erqIn, .dict] s (effVec t n s) := by
  unfold effVec
  dsimp only
  exact .sub (.ite (.after (within_slotTry ..) (.after (within_begin ..) (.after (within_drawn ..) (within_spWrite ..))))
      (.refl [] _)) (by rfl)

theorem within_slotAwait (s : State) (t : Nat) (n : Nat) (l : List Await) : Within [.tile] s (slotAwait t n l s) := by
  unfold slotAwait
  dsimp only
  exact .sub (within_setSlot ..) (by rfl)

/-- A fold that carries a value behind the state. -/
theorem Within.foldl_fst {l : List Part} {β γ : Type} {f : State × γ → β → State × γ} (h : ∀ a x, Within l a.1 (f a x).1)
    (xs : List β) : ∀ a, Within l a.1 (xs.foldl f a).1 := by
  induction xs with
  | nil => exact fun a => .refl l a.1
  | cons x xs ih => exact fun a => (h a x).trans (ih _)

theorem within_moveOut (s : State) (t n r : Nat) (all : Bool) :
    Within [.out, .tile, .hbm, .port, .hif, .pair, .sealRows, .sealer] s (moveOut t n r all s) := by
  unfold moveOut
  extract_lets x c len b va old use w aw s1 k eng p
  split
  · have wrote : Within [.out, .hbm, .port, .hif, .pair] s w.st := within_vaWrite ..
    have h1 : Within [.out, .hbm, .port, .hif, .pair, .tile] s s1 := .after (within_slotAwait ..) wrote
    clear_value k s1
    split
    · exact h1.sub (by rfl)
    · exact .sub (.after (within_slotAwait ..) (.after (.upd [.sealRows, .sealer] (by rfl)) h1)) (by rfl)
  · have bytes : Within [.out, .hbm, .port, .hif, .pair] s p.1 := by
      refine .foldl_fst (fun st i => ?_) _ (s, [])
      split
      · exact within_vaWrite ..
      · exact .refl _ _
    exact .sub (.after (within_slotAwait ..) bytes) (by rfl)

theorem within_moveIn (s : State) (t : Nat) (n : Nat) (r : Nat) (hr : List Cell) (all : Bool) :
    Within [.tile] s (moveIn t n r hr all s) := by
  unfold moveIn
  dsimp only
  exact .sub (.ite (within_spWrite ..) (.foldl (fun s x => .ite (within_spWrite ..) (.refl [] _)) _ _)) (by rfl)

theorem within_moveFaults (s : State) (t : Nat) (n : Nat) (l : List Nat) :
    Within [.out, .tile, .erqIn, .dict] s (moveFaults t n l s) := by
  unfold moveFaults
  dsimp only
  exact .sub (.foldl (fun s x => within_slotFail ..) _ _) (by rfl)

theorem within_effMove (s : State) (t n : Nat) (hr : List Host.Cell) :
    Within [.free, .out, .tile, .hbm, .port, .erqIn, .hif, .pair, .sealRows, .sealer, .dict] s (effMove t n hr s) := by
  unfold effMove
  split
  · extract_lets d dir rows c u faults all s'
    split
    · split
      · exact .sub (.after (within_slotTry ..) (.after (within_begin ..) (.foldl (fun s r => within_spWrite s u _ _) _ _))) (by rfl)
      · exact .sub (.after (within_slotTry ..) (.after (within_begin ..) (within_slotErr ..))) (by rfl)
    · have moved : Within [.out, .tile, .hbm, .port, .hif, .pair, .sealRows, .sealer] s s' := by
        refine .foldl (fun s r => ?_) _ _
        exact .sub (.ite (within_moveOut ..) (within_moveIn ..)) (by rfl)
      exact .sub (.after (within_slotTry ..) (.after (within_begin ..) (.after (within_moveFaults ..)
        (.ite moved (.after (within_drawn ..) moved))))) (by rfl)
  · exact .refl _ _

theorem within_startTxns (s : State) (t : Nat) (n : Nat) (l : List Txn) : Within [.tile, .txns, .txn] s (startTxns t n l s) := by
  unfold startTxns
  dsimp only
  exact .sub (.foldl (fun s x => .after (within_setSlot ..) (within_txnNew ..)) _ _) (by rfl)

theorem within_effSend (s : State) (t : Nat) (n : Nat) : Within [.out, .tile, .erqIn, .txns, .txn, .dict] s (effSend t n s) := by
  unfold effSend
  dsimp only
  exact .sub (.ite (.ite (.after (within_slotTry ..) (.after (within_begin ..) (within_slotErr ..))) (.after (within_begin ..)
      (within_startTxns ..))) (.refl [] _)) (by rfl)

theorem within_effRecv (s : State) (t : Nat) (n : Nat) : Within [.out, .tile, .erqIn, .txns, .txn, .dict] s (effRecv t n s) := by
  unfold effRecv
  dsimp only
  exact .sub (.ite (.ite (.after (within_slotTry ..) (.after (within_begin ..) (within_slotErr ..))) (.after (within_begin ..)
      (within_startTxns ..))) (.refl [] _)) (by rfl)

theorem within_effReduce (s : State) (t : Nat) (n : Nat) :
    Within [.out, .tile, .erqIn, .txns, .txn, .dict] s (effReduce t n s) := by
  unfold effReduce
  dsimp only
  split
  · split
    · split
      · exact .refl _ _
      · split
        · exact .sub (.after (within_slotTry ..) (.after (within_begin ..) (within_slotErr ..))) (by rfl)
        · exact .sub (.after (within_setSlot ..) (within_setTile _ _ _ fun f => f.tileOf _)) (by rfl)
    · exact .sub (.ite (.after (within_slotTry ..) (.after (within_begin ..) (within_slotErr ..))) (.after (within_begin ..)
        (within_startTxns ..))) (by rfl)
  · exact .refl _ _

theorem within_sendDone (s : State) (t : Nat) (n : Nat) (st : Nat) (final : Option (Nat × Nat × Nat × Nat × Nat))
    (k : Nat × Nat × Nat × Nat × Nat) :
    Within [.out, .tile, .erqIn, .txns, .txn, .dict] s (sendDone t n st final s k) := by
  unfold sendDone
  dsimp only
  exact .sub (.ite (within_raise ..) (.after (within_slotAwait ..) (within_txnNew ..))) (by rfl)

theorem within_effReduceRoot (s : State) (t n : Nat) :
    Within [.out, .tile, .erqIn, .txns, .txn, .dict] s (effReduceRoot t n s) := by
  unfold effReduceRoot
  extract_lets x lanes st
  split
  · split
    · exact .refl _ _
    · split
      · exact .refl _ _
      · extract_lets final
        have failed := within_laneFail s t n st
        exact .sub (.after (within_slotTry ..) (.after (within_begin ..)
          (.after (.foldl (fun s k => within_sendDone s t n st.1 final k) _ _) failed))) (by rfl)
  · exact .refl _ _

theorem within_effWaitEvent (s : State) (t : Nat) (n : Nat) : Within [.out, .tile, .erqIn, .dict] s (effWaitEvent t n s) := by
  unfold effWaitEvent
  split
  · split
    · exact .sub (.after (within_slotTry ..) (.after (within_begin ..) (.ite (.refl [] _) (within_slotErr ..)))) (by rfl)
    · exact .refl _ _
  · exact .refl _ _

theorem within_effSignalEvent (s : State) (t : Nat) (n : Nat) :
    Within [.out, .tile, .erqIn, .msix, .hif, .ev, .dict] s (effSignalEvent t n s) := by
  unfold effSignalEvent
  dsimp only
  exact .sub (.ite (.ite (.after (within_slotTry ..) (.after (within_begin ..) (within_slotErr ..))) (.after (within_slotTry ..)
      (.after (within_begin ..) (within_evAdd ..)))) (.refl [] _)) (by rfl)

theorem within_effHalt (s : State) (t : Nat) (n : Nat) : Within [.out, .tile, .erqIn, .dict] s (effHalt t n s) := by
  unfold effHalt
  dsimp only
  split
  · split
    · exact .sub (.after (within_slotTry ..) (within_begin ..)) (by rfl)
    · split
      · exact .sub (.after (within_slotTry ..) (.after (within_begin ..) (within_slotErr ..))) (by rfl)
      · exact .sub (.after (within_slotTry ..) (.after (within_begin ..) (within_setTile _ _ _ fun f => f.tileOf _))) (by rfl)
  · exact .refl _ _

theorem within_sigDone (s : State) (t : Nat) (n : Nat) (k : Nat) : Within [.tile] s (sigDone t n k s) := by
  unfold sigDone
  dsimp only
  exact .sub (.ite (within_retire ..) (within_setSlot ..)) (by rfl)

theorem within_sigRefused (s : State) (t : Nat) (n : Nat) (k : Nat) :
    Within [.out, .tile, .erqIn, .dict] s (sigRefused t n k s) := by
  unfold sigRefused
  dsimp only
  exact .sub (.after (within_sigDone ..) (.after (within_setTile _ _ _ fun f => f.tileOf _) (within_slotErr ..))) (by rfl)

theorem within_effSignalSend (s : State) (t : Nat) (n : Nat) (k : Nat) :
    Within [.out, .tile, .mesh, .erqIn, .dict] s (effSignalSend t n k s) := by
  unfold effSignalSend
  dsimp only
  exact .sub (.ite (.ite (within_sigRefused ..) (.after (within_sigDone ..) (.after (within_mesh _ _) (within_setTile _ _ _ fun f => f.tileOf _))))
      (.refl [] _)) (by rfl)

theorem within_effToken (s : State) (i : Nat) : Within [.out, .tile, .mesh, .erqIn, .dict] s (effToken i s) := by
  unfold effToken
  dsimp only
  split
  · exact .refl _ _
  · exact .sub (.ite (.refl [] _) (.ite (within_mesh _ _) (.ite (.after (within_raise ..) (within_mesh _ _)) (.ite (.after
      (within_raise ..) (.after (within_setTile _ _ _ fun f => f.tileOf _) (within_mesh _ _))) (.after (within_setTile _ _ _ fun f => f.tileOf _) (within_mesh _ _)))))) (by rfl)

theorem within_effCredit (s : State) (i : Nat) : Within [.tile, .mesh] s (effCredit i s) := by
  unfold effCredit
  dsimp only
  split
  · exact .refl _ _
  · exact .sub (.ite (.refl [] _) (.ite (within_mesh _ _) (.ite (.after (within_setTile _ _ _ fun f => f.tileOf _) (within_mesh _ _)) (within_mesh _ _)))) (by rfl)

end Sys2Proof.Machine
end

section
/-!
PROOF. The parts that jobs reach.
-/
namespace Sys2Proof.Machine
open Host

theorem within_takeEntry (s : State) (q : Nat) (b : Bytes) : Within [.free, .queue, .obj] s (takeEntry q b s) := by
  unfold takeEntry
  dsimp only
  exact .sub (.after (.upd [.obj] (by rfl)) (.after (within_setQueue ..) (within_drawn ..))) (by rfl)

theorem within_jobInvalid (s : State) (q : Nat) :
    Within [.free, .out, .quad, .tile, .hbm, .port, .erqIn, .msix, .hif, .queue, .ev, .pair, .seals, .sealer, .rcv, .stat,
        .dict] s (jobInvalid q s) := by
  unfold jobInvalid
  dsimp only
  exact .sub (.after (within_jobTry ..) (.after (within_endJob ..) (within_raise ..))) (by rfl)

/-- What the end and the completion of a job may change. -/
abbrev jobParts : List Part :=
  [.free, .out, .quad, .tile, .hbm, .port, .erqIn, .msix, .hif, .queue, .ev, .pair, .seals, .sealer, .rcv, .stat, .dict]

theorem within_onEntry {l : List Part} {q : Nat} {hr : List Host.Cell} {want : Nat → Bool} {act : State → State}
    (h : ∀ s, Within l s (act s)) (s : State) : Within ((.obj :: jobParts) ++ l) s (onEntry q hr want act s) := by
  unfold onEntry
  extract_lets b u
  split
  · have taken : Within (.obj :: jobParts) s u := .sub (within_takeEntry s q b) (by rfl)
    split
    · exact .trans (.left taken) (.right (h u))
    · exact .left (taken.trans (.sub (within_jobInvalid u q) (by rfl)))
  · exact .refl _ _

theorem within_effNop (s : State) (q : Nat) (hr : List Host.Cell) :
    Within ((.obj :: jobParts) ++ jobParts) s (effNop q hr s) := by
  unfold effNop
  exact within_onEntry (fun _ => .sub (.after (within_jobTry ..) (within_endJob ..)) (by rfl)) s

theorem within_effSignal (s : State) (q : Nat) (hr : List Host.Cell) :
    Within ((.obj :: jobParts) ++ jobParts) s (effSignal q hr s) := by
  unfold effSignal
  refine within_onEntry (fun s => ?_) s
  dsimp only
  split
  · exact .refl _ _
  · exact .sub (.after (within_jobTry ..) (.after (within_endJob ..) (within_jobSignal ..))) (by rfl)

theorem within_jobFault (s : State) (q : Nat) (va : Nat) :
    Within [.free, .out, .quad, .tile, .hbm, .port, .erqIn, .msix, .hif, .queue, .ev, .pair, .seals, .sealer, .rcv, .stat,
        .dict] s (jobFault q va s) := by
  unfold jobFault
  dsimp only
  exact .sub (.after (within_jobTry ..) (.after (within_endJob ..) (within_raise ..))) (by rfl)

theorem within_runChecks (s : State) (q : Nat) (hr : List Cell) :
    Within [.free, .out, .quad, .tile, .hbm, .port, .erqIn, .msix, .hif, .queue, .ev, .pair, .seals, .sealer, .rcv, .stat,
        .dict] s (runChecks q hr s) := by
  unfold runChecks
  dsimp only
  split
  · exact .refl _ _
  · split
    · exact .sub (within_jobInvalid ..) (by rfl)
    · split
      · exact .sub (within_jobFault ..) (by rfl)
      · exact .sub (.ite (.after (within_setQueue ..) (within_drawn ..)) (within_jobInvalid ..)) (by rfl)

theorem within_effRun (s : State) (q : Nat) (hr : List Host.Cell) :
    Within ((.obj :: jobParts) ++ jobParts) s (effRun q hr s) := by
  unfold effRun
  refine within_onEntry (fun s => ?_) s
  split
  · exact .refl _ _
  · exact .sub (.ite (within_runChecks ..) (within_jobInvalid ..)) (by rfl)

theorem within_effQuadrantAcquire (s : State) :
    Within [.free, .out, .quad, .tile, .hbm, .port, .erqIn, .msix, .hif, .queue, .ev, .pair, .seals, .sealer, .rcv, .stat,
        .dict] s (effQuadrantAcquire s) := by
  unfold effQuadrantAcquire
  dsimp only
  split
  · exact .refl _ _
  · split
    · exact .refl _ _
    · exact .sub (.ite (within_jobInvalid ..) (.after (within_setQueue ..) (.each (fun i s => within_setQuad ..) _ _))) (by rfl)

theorem within_effScrubDone (s : State) (q : Nat) : Within [.quad, .tile, .mesh, .queue, .stat] s (effScrubDone q s) := by
  unfold effScrubDone
  dsimp only
  split
  · split
    · exact .sub (.after (within_bump ..) (.after (within_scrubQuad ..) (within_setQueue ..))) (by rfl)
    · exact .refl _ _
  · exact .refl _ _

theorem within_startTile (s : State) (q : Nat) (e : Jlt) : Within [.tile] s (startTile q e s) := by
  unfold startTile
  dsimp only
  exact .sub (within_setTile _ _ _ (by exact fun f => tile_wf rfl (f.mem _) (f.exa _))) (by rfl)

theorem within_effJobStart (s : State) (q : Nat) (hr : List Cell) :
    Within [.free, .out, .quad, .tile, .hbm, .port, .erqIn, .msix, .hif, .queue, .ev, .pair, .seals, .sealer, .rcv, .stat,
        .dict] s (effJobStart q hr s) := by
  unfold effJobStart
  dsimp only
  split
  · split
    · split
      · exact .sub (.after (within_jobFault ..) (within_drawn ..)) (by rfl)
      · exact .sub (.after (within_setQueue ..) (.after (.foldl (fun s x => within_startTile ..) _ _) (.after (.foldl
          (fun s x => .after (within_spWrite ..) (within_spWrite ..)) _ _) (within_drawn ..)))) (by rfl)
    · exact .refl _ _
  · exact .refl _ _

theorem within_effJobComplete (s : State) (q : Nat) :
    Within [.free, .out, .quad, .tile, .hbm, .port, .erqIn, .msix, .hif, .queue, .ev, .pair, .seals, .sealer, .rcv, .stat,
        .dict] s (effJobComplete q s) := by
  unfold effJobComplete
  dsimp only
  split
  · exact .refl _ _
  · exact .sub (.ite (.after (within_jobTry ..) (.after (within_endJob ..) (within_setQueue ..))) (within_jobTry ..)) (by rfl)

end Sys2Proof.Machine
end

section
/-!
PROOF. The parts that the host interface reach.
-/
namespace Sys2Proof.Machine
open Host

theorem within_hbEnd (s : State) (code : Nat) : Within [.hif] s (hbEnd code s) := by
  unfold hbEnd
  dsimp only
  exact .sub (.upd [.hif] (by rfl)) (by rfl)

theorem within_effHbGo (s : State) : Within [.hif] s (effHbGo s) := by
  unfold effHbGo
  dsimp only
  exact .sub (.ite (.refl [] _) (.ite (within_hbEnd ..) (.ite (within_hbEnd ..) (.upd [.hif] (by rfl))))) (by rfl)

theorem within_effBiasDone (s : State) : Within [.owned, .hif] s (effBiasDone s) := by
  unfold effBiasDone
  split
  · exact .refl _ _
  next n first count bias _ =>
    have set : Within [.owned] s { s with
        hif.owned := (List.range count).foldl (fun t i => tput false t (n * 2 ^ 36 + first + i) bias) s.hif.owned } :=
      .of [.owned] ⟨fun f => tabWf_foldl_tput false (fun i => n * 2 ^ 36 + first + i) (fun _ => bias) _ _ f.owned, trivial⟩ (by rfl)
    exact .sub (.ite (.refl [] _) (.after (within_hbEnd ..) (.ite (.refl [] _) set))) (by rfl)

theorem within_dropReq (s : State) (id : Nat) : Within [.hif] s (dropReq id s) := by
  unfold dropReq
  dsimp only
  exact .sub (.upd [.hif] (by rfl)) (by rfl)

theorem within_completionLanded (s : State) (q : Nat) : Within [.queue] s (completionLanded q s) := by
  unfold completionLanded
  dsimp only
  exact .sub (.ite (.refl [] _) (.after (within_queueSettle ..) (within_setQueue ..))) (by rfl)

theorem within_exportTry (s : State) : Within [.rcv] s (exportTry s) := by
  unfold exportTry
  dsimp only
  exact .sub (.ite (.upd [.rcv] (by rfl)) (.refl [] _)) (by rfl)

theorem within_effHostCompletion (s : State) (id : Nat) :
    Within [.out, .tile, .erqIn, .erq, .msix, .hif, .queue, .sealRows, .rcv, .dict] s (effHostCompletion id s) := by
  unfold effHostCompletion
  dsimp only
  split
  · exact .refl _ _
  · split
    · exact .sub (.after (within_msixIf ..) (.after (within_completionLanded ..) (within_dropReq ..))) (by rfl)
    · exact .sub (.after (within_erqLanded ..) (within_dropReq ..)) (by rfl)
    · exact .sub (.after (within_msixIf ..) (within_dropReq ..)) (by rfl)
    · exact .sub (.after (within_slotGot ..) (within_dropReq ..)) (by rfl)
    · exact .sub (.after (within_slotGot ..) (within_dropReq ..)) (by rfl)
    · exact .sub (.after (within_exportTry ..) (within_dropReq ..)) (by rfl)

theorem within_effHostSnoop (s : State) (addr : Nat) : Within [.out] s (effHostSnoop addr s) := by
  unfold effHostSnoop
  exact .sub (.ite (within_emit ..) (.refl [] _)) (by rfl)

theorem within_effDepositArm (s : State) (e : Nat) (w : RegWr) : Within [.out, .erqIn, .dep, .dict] s (effDepositArm e w s) := by
  unfold effDepositArm
  dsimp only
  exact .sub (.ite (.refl [] _) (.ite (within_setDep ..) (.after (within_raise ..) (within_setDep ..)))) (by rfl)

theorem within_effDepositDisarm (s : State) (e : Nat) (w : RegWr) : Within [.dep] s (effDepositDisarm e w s) := by
  unfold effDepositDisarm
  exact .sub (.ite (within_depClear ..) (.refl [] _)) (by rfl)

theorem within_effDepositDrained (s : State) (e : Nat) : Within [.dep] s (effDepositDrained e s) := by
  unfold effDepositDrained
  dsimp only
  exact .sub (.ite (within_setDep ..) (.refl [] _)) (by rfl)

theorem within_depRefuse (s : State) (e : Nat) (addr : Nat) : Within [.out, .erqIn, .dep, .dict] s (depRefuse e addr s) := by
  unfold depRefuse
  dsimp only
  exact .sub (.ite (within_setDep ..) (.after (within_raise ..) (within_setDep ..))) (by rfl)

theorem within_effDepositWrite (s : State) (off : Nat) (data : Bytes) (req : Nat) (poisoned : Bool) :
    Within [.out, .hbm, .port, .erqIn, .dep, .hif, .pair, .dict] s (effDepositWrite off data req poisoned s) := by
  unfold effDepositWrite
  dsimp only
  exact .sub (.ite (.refl [] _) (.ite (within_depRefuse ..) (.ite (within_raise ..) (.ite (.after (within_objWrite ..)
      (within_setDep ..)) (.after (.upd [.hif] (by rfl)) (.after (within_objWrite ..) (within_setDep ..))))))) (by rfl)

theorem within_effDepositFlag (s : State) (off : Nat) (data : Bytes) (req : Nat) :
    Within [.out, .erqIn, .dep, .hif, .dict] s (effDepositFlag off data req s) := by
  unfold effDepositFlag
  dsimp only
  exact .sub (.ite (.refl [] _) (.ite (within_depRefuse ..) (.upd [.hif] (by rfl)))) (by rfl)

theorem within_effFlagApply (s : State) (i : Nat) :
    Within [.out, .tile, .erqIn, .msix, .dep, .hif, .ev, .dict] s (effFlagApply i s) := by
  unfold effFlagApply
  dsimp only
  split
  · exact .refl _ _
  · exact .sub (.ite (.refl [] _) (.ite (.after (within_evAdd ..) (.after
      (.of [.dep] ⟨fun f => by dsimp only; exact tabWf_tmap _ _ _ f.dep, trivial⟩ (by rfl)) (.after (within_setDep ..) (.upd [.hif] (by rfl)))))
      (.after (.of [.dep] ⟨fun f => by dsimp only; exact tabWf_tmap _ _ _ f.dep, trivial⟩ (by rfl)) (.after (within_setDep ..)
      (.upd [.hif] (by rfl)))))) (by rfl)

theorem within_effBar2Read (s : State) : Within [.out] s (effBar2Read s) := by
  unfold effBar2Read
  exact .sub (.ite (within_emit ..) (.refl [] _)) (by rfl)

end Sys2Proof.Machine
end

section
/-!
PROOF. The parts that Bivouac Regions reach.
-/
namespace Sys2Proof.Machine
open Host

theorem within_bivEnd (s : State) (code : Nat) : Within [.biv] s (bivEnd code s) := by
  unfold bivEnd
  dsimp only
  exact .sub (.upd [.biv] (by rfl)) (by rfl)

theorem within_bivCmd {l : List Part} {act : State → State} (h : ∀ s, Within l s (act s)) (s : State) :
    Within ([.biv] ++ l) s (bivCmd act s) := by
  unfold bivCmd
  split
  · exact .refl _ _
  · split
    · exact .left (within_bivEnd ..)
    · exact .right (h s)

theorem within_mirrorWrap (s : State) (r : Nat) (k : BitVec 256) : Within [.pair] s (mirrorWrap r k s) := by
  unfold mirrorWrap
  dsimp only
  split
  · exact .sub (.upd [.pair] (by rfl)) (by rfl)
  · exact .refl _ _

theorem within_declared (s : State) (r : Nat) (c : Nat) : Within [.biv, .hbm, .port, .pair] s (declared r c s) := by
  unfold declared
  exact .sub (.after (within_bivEnd ..) (.after (within_regionMsg ..) (.after (within_mirrorWrap ..) (within_putRec ..)))) (by rfl)

theorem within_effDeclare (s : State) (r : Nat) (c : Nat) (dur : Nat) :
    Within [.biv, .hbm, .port, .pair, .kh] s (effDeclare r c dur s) := by
  unfold effDeclare
  dsimp only
  exact .sub (within_bivCmd (fun _ => .ite (within_bivEnd ..) (.ite (within_bivEnd ..) (.ite (within_bivEnd ..) (.ite
      (within_declared ..) (.after (within_khQueue ..) (.upd [.biv] (by rfl))))))) _) (by rfl)

theorem within_effRelease (s : State) (r : Nat) : Within [.biv, .hbm, .port, .pair] s (effRelease r s) := by
  unfold effRelease
  exact .sub (within_bivCmd (fun _ => .ite (.after (within_bivEnd ..) (.after (within_regionMsg ..) (within_clearRec ..)))
      (within_bivEnd ..)) _) (by rfl)

theorem within_effDiscard (s : State) (r : Nat) : Within [.biv, .hbm, .port, .pair] s (effDiscard r s) := by
  unfold effDiscard
  exact .sub (within_bivCmd (fun _ => .ite (.after (within_bivEnd ..) (.after (within_regionMsg ..) (within_clearRec ..)))
      (within_bivEnd ..)) _) (by rfl)

theorem within_claimFail (s : State) (r : Nat) (c : Nat) (n : Nat) :
    Within [.out, .biv, .erqIn, .dict] s (claimFail r c n s) := by
  unfold claimFail
  exact .sub (.after (within_bivEnd ..) (within_raise ..)) (by rfl)

theorem within_claimed (s : State) (r c : Nat) (k : BitVec 256) (ok : Bool) :
    Within [.free, .out, .biv, .hbm, .port, .erqIn, .ctx, .mo, .pair, .ctxKey, .memKey, .dict] s (claimed r c k ok s) := by
  unfold claimed
  extract_lets b l made x bound b1 b2 b3 b4 b5 u pair v
  have objects : Within [.mo] s made := by
    refine .foldl (fun s o => ?_) _ _
    exact within_setMo ..
  have context : Within [.ctxKey, .memKey, .ctx] made bound := .after (within_setCtx ..) (within_setCtxKey ..)
  have recorded : Within [.free, .hbm] bound u := .after (within_putRec ..) (within_drawn ..)
  clear_value u
  have listed : Within [.pair] u _ := (.upd [.pair] (by rfl) : Within [.pair] u { u with pair.mirrored := bound.pair.mirrored.erase r })
  exact .sub (.after (within_bivEnd ..) (.after (within_raise ..) (.after (within_regionMsg ..) (.after (within_mirrorWrap ..)
    (.after listed (.after recorded (.after context objects))))))) (by rfl)

theorem within_claimRun (s : State) (r : Nat) (c : Nat) (damaged : Bool) :
    Within [.free, .out, .biv, .hbm, .port, .erqIn, .ctx, .mo, .pair, .ctxKey, .memKey, .dict] s (claimRun r c damaged s) := by
  unfold claimRun
  dsimp only
  split
  · exact .sub (.after (within_claimFail ..) (.ite (.after (within_regionMsg ..) (within_clearRec ..)) (within_putRec ..))) (by rfl)
  · exact .sub (.ite (within_claimed ..) (within_claimFail ..)) (by rfl)

theorem within_effClaim (s : State) (r : Nat) (c : Nat) (damaged : Bool) (dur : Nat) :
    Within [.free, .out, .biv, .hbm, .port, .erqIn, .ctx, .mo, .pair, .ctxKey, .memKey, .kh, .dict] s
        (effClaim r c damaged dur s) := by
  unfold effClaim
  dsimp only
  exact .sub (within_bivCmd (fun _ => .ite (within_bivEnd ..) (.ite (within_claimFail ..) (.ite (within_claimRun ..) (.after
      (within_khQueue ..) (.upd [.biv] (by rfl)))))) _) (by rfl)

theorem within_sealPrepare (s : State) (r : Nat) (cut : Bool) (inc : List Nat) (cause : Nat) :
    Within [.hbm] s (sealPrepare r cut inc cause s) := by
  unfold sealPrepare
  dsimp only
  exact .sub (within_putRec ..) (by rfl)

theorem within_sealFinish (s : State) (r : Nat) : Within [.hbm, .port, .pair] s (sealFinish r s) := by
  unfold sealFinish
  dsimp only
  exact .sub (.after (within_regionMsg ..) (within_putRec ..)) (by rfl)

end Sys2Proof.Machine
end

section
/-!
PROOF. The parts that link-state announcements reach.
-/
namespace Sys2Proof.Machine
open Host

theorem within_queueLsa (s : State) (uid : Nat) (arrival : Option Nat) : Within [.port] s (queueLsa uid arrival s) := by
  unfold queueLsa
  dsimp only
  exact .sub (.each (fun i s => .ite (within_setPort ..) (.refl [] _)) _ _) (by rfl)

theorem within_dupSync (s : State) : Within [.fab] s (dupSync s) := by
  unfold dupSync
  dsimp only
  exact .sub (.upd [.fab] (by rfl)) (by rfl)

theorem within_dbChanged (s : State) : Within [.rtDirty, .fab] s (dbChanged s) := by
  unfold dbChanged
  dsimp only
  exact .sub (.after (within_dupSync ..) (.upd [.rtDirty, .fab] (by rfl))) (by rfl)

theorem within_dbPrune (s : State) : Within [.rtDirty, .fab] s (dbPrune s) := by
  unfold dbPrune
  dsimp only
  exact .sub (.ite (.ite (.upd [.fab] (by rfl)) (.refl [] _)) (.after (within_dbChanged ..) (.after (.upd [.fab] (by rfl)) (.ite (.upd [.fab] (by rfl))
      (.refl [] _))))) (by rfl)

theorem within_lsaSync (s : State) : Within [.port, .rtDirty, .fab] s (lsaSync s) := by
  unfold lsaSync
  dsimp only
  exact .sub (.ite (.refl [] _) (.after (within_dbPrune ..) (.after (within_dbChanged ..) (.after (within_queueLsa ..)
      (.upd [.fab] (by rfl)))))) (by rfl)

theorem within_setUp (s : State) (p : Nat) (up : Bool) : Within [.port, .rtDirty, .fab] s (setUp p up s) := by
  unfold setUp
  dsimp only
  exact .sub (.ite (.refl [] _) (.after (within_lsaSync ..) (within_setPort ..))) (by rfl)

theorem within_upAgain (s : State) (p : Nat) : Within [.port, .rtDirty, .fab] s (upAgain p s) := by
  unfold upAgain
  exact .sub (.ite (within_setUp ..) (.refl [] _)) (by rfl)

theorem within_adoptEpoch (s : State) (e : Nat) : Within [.out, .erqIn, .fab, .dict] s (adoptEpoch e s) := by
  unfold adoptEpoch
  dsimp only
  exact .sub (.ite (.after (within_raise ..) (.upd [.fab] (by rfl))) (.refl [] _)) (by rfl)

theorem within_setAddr (s : State) (a : Nat) : Within [.port, .rtDirty, .fab] s (setAddr a s) := by
  unfold setAddr
  dsimp only
  exact .sub (.after (within_lsaSync ..) (.upd [.fab] (by rfl))) (by rfl)

end Sys2Proof.Machine
end

section
/-!
PROOF. The parts that the Nalfa ports reach.
-/
namespace Sys2Proof.Machine
open Host

theorem within_xoffEval (s : State) (p : Nat) : Within [.port] s (xoffEval p s) := by
  unfold xoffEval
  dsimp only
  exact .sub (within_setPort ..) (by rfl)

theorem within_dropTransit (s : State) (p : Nat) : Within [.port] s (dropTransit p s) := by
  unfold dropTransit
  exact .sub (.of [.port] ⟨(List.length_map ..).trans, trivial⟩ (by rfl)) (by rfl)

theorem within_endPortTags (s : State) (p : Nat) :
    Within [.out, .tile, .erqIn, .queue, .txns, .tags, .quar, .txn, .sealRows, .dict] s (endPortTags p s) := by
  unfold endPortTags
  dsimp only
  exact .sub (.after (.foldl (fun s x => within_endTxn ..) _ _) (.foldl (fun s x => within_raise ..) _ _)) (by rfl)

theorem within_portEnter (s : State) (p : Nat) (st : PortSt) : Within [.port, .rtDirty, .fab] s (portEnter p st s) := by
  unfold portEnter
  dsimp only
  exact .sub (.after (within_setUp ..) (.after (within_dropTransit ..) (within_setPort ..))) (by rfl)

theorem within_portDown (s : State) (p : Nat) :
    Within [.out, .tile, .port, .erqIn, .queue, .txns, .tags, .quar, .txn, .rtDirty, .fab, .sealRows, .dict] s
        (portDown p s) := by
  unfold portDown
  dsimp only
  exact .sub (.after (.upd [.rtDirty] (by rfl)) (.after (within_endPortTags ..) (.after (within_raise ..) (within_portEnter ..)))) (by rfl)

theorem within_beginAttempt (s : State) (p : Nat) : Within [.out, .port, .erqIn, .dict] s (beginAttempt p s) := by
  unfold beginAttempt
  dsimp only
  exact .sub (.after (within_raise ..) (within_setPort ..)) (by rfl)

theorem within_retrainFailed (s : State) (p : Nat) :
    Within [.out, .tile, .port, .erqIn, .queue, .txns, .tags, .quar, .txn, .rtDirty, .fab, .sealRows, .dict] s
        (retrainFailed p s) := by
  unfold retrainFailed
  dsimp only
  exact .sub (.ite (.after (within_portDown ..) (within_setPort ..)) (.after (within_beginAttempt ..) (within_setPort ..))) (by rfl)

theorem within_retrainTrigger (s : State) (p : Nat) :
    Within [.out, .tile, .port, .erqIn, .queue, .txns, .tags, .quar, .txn, .rtDirty, .fab, .sealRows, .dict] s
        (retrainTrigger p s) := by
  unfold retrainTrigger
  dsimp only
  split
  · split
    · exact .sub (.ite (within_retrainFailed ..) (within_beginAttempt ..)) (by rfl)
    · exact .sub (within_beginAttempt ..) (by rfl)
  · exact .refl _ _

theorem within_lostSignal (s : State) (p : Nat) (handshake : Bool) :
    Within [.out, .tile, .port, .erqIn, .queue, .txns, .tags, .quar, .txn, .rtDirty, .fab, .sealRows, .dict] s
        (lostSignal p handshake s) := by
  unfold lostSignal
  dsimp only
  exact .sub (.ite (.ite (within_retrainFailed ..) (.refl [] _)) (.ite (within_setPort ..) (within_retrainTrigger ..))) (by rfl)

theorem within_startReplay (s : State) (p : Nat) :
    Within [.out, .tile, .port, .erqIn, .queue, .txns, .tags, .quar, .txn, .rtDirty, .fab, .sealRows, .dict] s
        (startReplay p s) := by
  unfold startReplay
  dsimp only
  exact .sub (.ite (within_retrainTrigger ..) (within_setPort ..)) (by rfl)

theorem within_effFecBlock (s : State) (p : Nat) (lanes : List (List (BitVec 10))) (skew : Nat) :
    Within [.out, .tile, .port, .erqIn, .queue, .txns, .tags, .quar, .txn, .rtDirty, .fab, .sealRows, .dict] s
        (effFecBlock p lanes skew s) := by
  unfold effFecBlock
  dsimp only
  exact .sub (.ite (.refl [] _) (.ite (.after (within_lostSignal ..) (within_setPort ..)) (within_setPort ..))) (by rfl)

theorem within_rxError (s : State) (p : Nat) : Within [.port] s (rxError p s) := by
  unfold rxError
  dsimp only
  exact .sub (.ite (.refl [] _) (within_setPort ..)) (by rfl)

theorem within_ackFrames (s : State) (p : Nat) (a : Nat) : Within [.port] s (ackFrames p a s) := by
  unfold ackFrames
  dsimp only
  split
  · exact .refl _ _
  · exact .sub (within_setPort ..) (by rfl)

theorem within_rxData (s : State) (p : Nat) (f : LFrame) : Within [.port] s (rxData p f s) := by
  unfold rxData
  dsimp only
  exact .sub (.ite (.ite (.after (within_rxError ..) (within_setPort ..)) (within_setPort ..)) (.ite (.refl [] _)
      (within_rxError ..))) (by rfl)

theorem within_rxGood (s : State) (p : Nat) (f : LFrame) :
    Within [.out, .tile, .port, .erqIn, .queue, .txns, .tags, .quar, .txn, .rtDirty, .fab, .sealRows, .dict] s
        (rxGood p f s) := by
  unfold rxGood
  dsimp only
  exact .sub (.ite (.after (within_startReplay ..) (.ite (.after (within_rxData ..) (.ite (.after (within_ackFrames ..)
      (within_setPort ..)) (within_setPort ..))) (.ite (.after (within_setPort ..) (.ite (.after (within_ackFrames ..)
      (within_setPort ..)) (within_setPort ..))) (.ite (.after (within_ackFrames ..) (within_setPort ..))
      (within_setPort ..))))) (.ite (.after (within_rxData ..) (.ite (.after (within_ackFrames ..) (within_setPort ..))
      (within_setPort ..))) (.ite (.after (within_setPort ..) (.ite (.after (within_ackFrames ..) (within_setPort ..))
      (within_setPort ..))) (.ite (.after (within_ackFrames ..) (within_setPort ..)) (within_setPort ..))))) (by rfl)

theorem within_rxInit (s : State) (p : Nat) (f : LFrame) : Within [.port] s (rxInit p f s) := by
  unfold rxInit
  dsimp only
  exact .sub (within_setPort ..) (by rfl)

theorem within_effFrameReceive (s : State) (p : Nat) :
    Within [.out, .tile, .port, .erqIn, .queue, .txns, .tags, .quar, .txn, .rtDirty, .fab, .sealRows, .dict] s
        (effFrameReceive p s) := by
  unfold effFrameReceive
  dsimp only
  split
  · exact .refl _ _
  · exact .sub (.ite (.refl [] _) (.ite (.ite (.after (within_rxInit ..) (within_setPort ..)) (within_setPort ..)) (.ite
      (within_setPort ..) (.ite (.after (within_rxError ..) (within_setPort ..)) (.ite (.after (within_rxError ..) (.after
      (within_setPort ..) (within_setPort ..))) (.ite (.after (within_setPort ..) (within_setPort ..)) (.after
      (within_rxGood ..) (within_setPort ..)))))))) (by rfl)

theorem within_blockStart (s : State) (p : Nat) (recal : Bool) : Within [.out, .port] s (blockStart p recal s) := by
  unfold blockStart
  dsimp only
  exact .sub (.ite (.after (within_emit ..) (within_setPort ..)) (.refl [] _)) (by rfl)

theorem within_blockEnd (s : State) (p : Nat) : Within [.out, .port] s (blockEnd p s) := by
  unfold blockEnd
  dsimp only
  exact .sub (.ite (.after (within_emit ..) (within_setPort ..)) (within_setPort ..)) (by rfl)

theorem within_sendFrame (s : State) (p : Nat) (ty : Nat) (vcA : Bool) (seq : Nat) (payload : Bytes) (recal : Bool) :
    Within [.out, .port] s (sendFrame p ty vcA seq payload recal s) := by
  unfold sendFrame
  dsimp only
  exact .sub (.after (within_blockEnd ..) (.after (within_emit ..) (.after (within_setPort ..) (.after (within_blockStart ..)
      (within_xoffEval ..))))) (by rfl)

theorem within_refill (s : State) (p : Nat) (vcA : Bool) : Within [.port] s (refill p vcA s) := by
  unfold refill
  dsimp only
  split
  · split
    · exact .refl _ _
    · exact .sub (within_setPort ..) (by rfl)
  · split
    · exact .refl _ _
    · exact .sub (within_setPort ..) (by rfl)

theorem within_sendData (s : State) (p : Nat) (f : DFrame) (recal : Bool) : Within [.out, .port] s (sendData p f recal s) := by
  unfold sendData
  dsimp only
  exact .sub (.after (within_sendFrame ..) (within_setPort ..)) (by rfl)

theorem within_sendCairn (s : State) (p : Nat) (c : Bytes) (recal : Bool) : Within [.out, .port] s (sendCairn p c recal s) := by
  unfold sendCairn
  dsimp only
  exact .sub (.after (within_sendFrame ..) (within_setPort ..)) (by rfl)

theorem within_slotFrame (s : State) (p : Nat) (recal : Bool) : Within [.out, .port] s (slotFrame p recal s) := by
  unfold slotFrame
  dsimp only
  split
  · exact .sub (.after (within_sendFrame ..) (within_setPort ..)) (by rfl)
  · split
    · exact .sub (within_sendCairn ..) (by rfl)
    · split
      · exact .sub (.after (within_sendData ..) (.after (within_setPort ..) (.ite (.after (within_refill ..) (.ite
          (within_refill ..) (.refl [] _))) (.ite (within_refill ..) (.refl [] _))))) (by rfl)
      · split
        · exact .sub (.after (within_sendData ..) (.after (within_setPort ..) (.ite (.after (within_refill ..) (.ite
            (within_refill ..) (.refl [] _))) (.ite (within_refill ..) (.refl [] _))))) (by rfl)
        · exact .sub (.after (within_sendFrame ..) (.ite (.after (within_refill ..) (.ite (within_refill ..) (.refl [] _)))
            (.ite (within_refill ..) (.refl [] _)))) (by rfl)

theorem within_initSlot (s : State) (p : Nat) : Within [.out, .port] s (initSlot p s) := by
  unfold initSlot
  dsimp only
  split
  · exact .sub (.after (within_sendFrame ..) (within_setPort ..)) (by rfl)
  · split
    · exact .sub (within_sendCairn ..) (by rfl)
    · exact .sub (within_sendFrame ..) (by rfl)

theorem within_effFrameTransmit (s : State) (p : Nat) : Within [.out, .port] s (effFrameTransmit p s) := by
  unfold effFrameTransmit
  dsimp only
  exact .sub (.ite (.refl [] _) (.ite (within_slotFrame ..) (.ite (within_initSlot ..) (.refl [] _)))) (by rfl)

theorem within_effReplayTimeout (s : State) (p : Nat) :
    Within [.out, .tile, .port, .erqIn, .queue, .txns, .tags, .quar, .txn, .rtDirty, .fab, .sealRows, .dict] s
        (effReplayTimeout p s) := by
  unfold effReplayTimeout
  dsimp only
  exact .sub (.ite (.refl [] _) (.ite (.after (within_startReplay ..) (.ite (within_setPort ..) (.refl [] _))) (.ite
      (within_setPort ..) (.refl [] _)))) (by rfl)

theorem within_effLossOfSignal (s : State) (p : Nat) (handshake : Bool) :
    Within [.out, .tile, .port, .erqIn, .queue, .txns, .tags, .quar, .txn, .rtDirty, .fab, .sealRows, .dict] s
        (effLossOfSignal p handshake s) := by
  unfold effLossOfSignal
  exact .sub (.ite (within_lostSignal ..) (.refl [] _)) (by rfl)

theorem within_effTrainingPatterns (s : State) (p : Nat) (handshake : Bool) :
    Within [.out, .tile, .port, .pwrClk, .erqIn, .queue, .txns, .tags, .quar, .txn, .rtDirty, .fab, .sealRows, .dict] s
        (effTrainingPatterns p handshake s) := by
  unfold effTrainingPatterns
  dsimp only
  exact .sub (.ite (.after (within_lostSignal ..) (.upd [.pwrClk] (by rfl))) (.refl [] _)) (by rfl)

theorem within_startTraining (s : State) (p : Nat) : Within [.port] s (startTraining p s) := by
  unfold startTraining
  dsimp only
  exact .sub (within_setPort ..) (by rfl)

theorem within_setEnable (s : State) (p : Nat) (en : Bool) : Within [.port, .rtDirty, .fab] s (setEnable p en s) := by
  unfold setEnable
  dsimp only
  exact .sub (.ite (.ite (.after (within_startTraining ..) (within_setPort ..)) (within_setPort ..)) (.ite (within_setPort ..)
      (.after (.upd [.rtDirty] (by rfl)) (.after (within_portEnter ..) (within_setPort ..))))) (by rfl)

theorem within_nlkWrite (s : State) (p : Nat) (w : RegWr) :
    Within [.out, .tile, .port, .erqIn, .queue, .txns, .tags, .quar, .txn, .rtDirty, .fab, .sealRows, .dict] s
        (nlkWrite p w s) := by
  unfold nlkWrite
  dsimp only
  exact .sub (.ite (.refl [] _) (.ite (.after (within_retrainTrigger ..) (.ite (.after (within_startTraining ..) (.after
      (within_setEnable ..) (within_setPort ..))) (.after (within_setEnable ..) (within_setPort ..)))) (.ite (.after
      (within_startTraining ..) (.after (within_setEnable ..) (within_setPort ..))) (.after (within_setEnable ..)
      (within_setPort ..))))) (by rfl)

theorem within_effNlkRetrain (s : State) (p : Nat) (w : RegWr) :
    Within [.out, .tile, .port, .erqIn, .queue, .txns, .tags, .quar, .txn, .rtDirty, .fab, .sealRows, .dict] s
        (effNlkRetrain p w s) := by
  unfold effNlkRetrain
  exact .sub (.ite (within_nlkWrite ..) (.refl [] _)) (by rfl)

theorem within_effNlkTrain (s : State) (p : Nat) (w : RegWr) :
    Within [.out, .tile, .port, .erqIn, .queue, .txns, .tags, .quar, .txn, .rtDirty, .fab, .sealRows, .dict] s
        (effNlkTrain p w s) := by
  unfold effNlkTrain
  exact .sub (.ite (within_nlkWrite ..) (.refl [] _)) (by rfl)

theorem within_effNlkEnable (s : State) (p : Nat) (w : RegWr) :
    Within [.out, .tile, .port, .erqIn, .queue, .txns, .tags, .quar, .txn, .rtDirty, .fab, .sealRows, .dict] s
        (effNlkEnable p w s) := by
  unfold effNlkEnable
  exact .sub (within_nlkWrite ..) (by rfl)

theorem within_effNlkFlow (s : State) (p : Nat) (w : RegWr) : Within [.port] s (effNlkFlow p w s) := by
  unfold effNlkFlow
  dsimp only
  exact .sub (.ite (.refl [] _) (.ite (within_setPort ..) (within_setPort ..))) (by rfl)

theorem within_effTrainingComplete (s : State) (p : Nat) (tr : Option Trained) :
    Within [.out, .tile, .port, .erqIn, .queue, .txns, .tags, .quar, .txn, .rtDirty, .fab, .sealRows, .dict] s
        (effTrainingComplete p tr s) := by
  unfold effTrainingComplete
  dsimp only
  split
  · exact .refl _ _
  · split
    · exact .sub (.ite (within_retrainFailed ..) (.refl [] _)) (by rfl)
    · exact .refl _ _
    · exact .sub (.after (within_upAgain ..) (within_setPort ..)) (by rfl)

theorem within_effTrainingTimeout (s : State) (p : Nat) :
    Within [.out, .tile, .port, .erqIn, .queue, .txns, .tags, .quar, .txn, .rtDirty, .fab, .sealRows, .dict] s
        (effTrainingTimeout p s) := by
  unfold effTrainingTimeout
  dsimp only
  exact .sub (.ite (within_portDown ..) (.refl [] _)) (by rfl)

theorem within_effRetrainTimeout (s : State) (p : Nat) :
    Within [.out, .tile, .port, .erqIn, .queue, .txns, .tags, .quar, .txn, .rtDirty, .fab, .sealRows, .dict] s
        (effRetrainTimeout p s) := by
  unfold effRetrainTimeout
  dsimp only
  exact .sub (.ite (within_retrainFailed ..) (.refl [] _)) (by rfl)

theorem within_effAutoTrain (s : State) (p : Nat) : Within [.port] s (effAutoTrain p s) := by
  unfold effAutoTrain
  dsimp only
  exact .sub (.ite (within_startTraining ..) (.refl [] _)) (by rfl)

theorem within_fillBlock (p : Nat) (recal : Bool) (n : Nat) :
    ∀ s : State, Within [.out, .port] s (fillBlock p recal n s) := by
  induction n with
  | zero => exact fun s => .refl _ s
  | succ n ih => exact fun s => .trans (.sub (within_slotFrame ..) (by rfl)) (ih _)

theorem within_effRecalStart (s : State) (p : Nat) : Within [.out, .port] s (effRecalStart p s) := by
  unfold effRecalStart
  dsimp only
  exact .sub (.ite (.refl [] _) (.after (within_emit ..) (.after (within_setPort ..) (.after (within_fillBlock ..)
      (within_fillBlock ..))))) (by rfl)

theorem within_effRecalEnd (s : State) (p : Nat) : Within [.port] s (effRecalEnd p s) := by
  unfold effRecalEnd
  dsimp only
  split
  · exact .sub (.ite (within_setPort ..) (.refl [] _)) (by rfl)
  · exact .refl _ _

theorem within_effRecalPeriod (s : State) (p : Nat) : Within [.port] s (effRecalPeriod p s) := by
  unfold effRecalPeriod
  dsimp only
  exact .sub (.ite (.refl [] _) (within_setPort ..)) (by rfl)

theorem within_portCoreReset (s : State) (p : Nat) : Within [.out, .port, .erqIn, .dict] s (portCoreReset p s) := by
  unfold portCoreReset
  dsimp only
  exact .sub (.ite (.after (within_beginAttempt ..) (.after (within_setPort ..) (within_setPort ..))) (within_setPort ..)) (by rfl)

theorem within_portOff (s : State) (p : Nat) : Within [.port, .rtDirty, .fab] s (portOff p s) := by
  unfold portOff
  dsimp only
  exact .sub (.after (.upd [.rtDirty] (by rfl)) (within_portEnter ..)) (by rfl)

theorem within_portOn (s : State) (p : Nat) : Within [.port] s (portOn p s) := by
  unfold portOn
  dsimp only
  exact .sub (.ite (.after (within_startTraining ..) (within_setPort ..)) (within_setPort ..)) (by rfl)

end Sys2Proof.Machine
end

section
/-!
PROOF. The parts that the fabric reach.
-/
namespace Sys2Proof.Machine
open Host

theorem within_effRouteRecompute (s : State) : Within [.route, .rtDirty, .leaving] s (effRouteRecompute s) := by
  unfold effRouteRecompute
  generalize List.range 255 = ds
  dsimp only
  exact .sub (.ite (.refl [] _) (.upd [.route, .rtDirty, .leaving] (by rfl))) (by rfl)

theorem within_transitDrop (s : State) (dev : Nat) : Within [.out, .erqIn, .txn, .transitDrop, .dict] s (transitDrop dev s) := by
  unfold transitDrop
  dsimp only
  split
  · rename_i h
    exact .sub (.after (within_raise ..) (.of_snd h (.after (within_aggregate ..) (.upd [.transitDrop] (by rfl))))) (by rfl)
  · rename_i h
    exact .sub (.of_snd h (.after (within_aggregate ..) (.upd [.transitDrop] (by rfl)))) (by rfl)

theorem within_effTransit (s : State) (p : Nat) (vcA : Bool) :
    Within [.out, .port, .erqIn, .txn, .transitDrop, .dict] s (effTransit p vcA s) := by
  unfold effTransit
  split
  · exact .refl _ _
  · split
    · exact .refl _ _
    next drop => exact .sub (within_dropped drop) (by rfl)
    next b t got =>
      have taken := within_got got
      dsimp only
      generalize (if (parseHdr b).dstDev = 255 then none else _ : Option Nat) = route
      split
      · exact .refl _ _
      · split
        · exact .sub (.after (within_transitDrop ..) taken) (by rfl)
        · exact .sub (.after (within_queueSeg ..) taken) (by rfl)

theorem within_effCairnSend (s : State) (p : Nat) : Within [.port] s (effCairnSend p s) := by
  unfold effCairnSend
  dsimp only
  exact .sub (.ite (.refl [] _) (within_setPort ..)) (by rfl)

theorem within_ownSupersede (s : State) (l : Lsa) : Within [.port, .fab] s (ownSupersede l s) := by
  unfold ownSupersede
  dsimp only
  exact .sub (.ite (.refl [] _) (.after (within_queueLsa ..) (.upd [.fab] (by rfl)))) (by rfl)

theorem within_lsaAccept (s : State) (p : Nat) (l : Lsa) : Within [.port, .rtDirty, .fab] s (lsaAccept p l s) := by
  unfold lsaAccept
  dsimp only
  exact .sub (.ite (.refl [] _) (.ite (within_ownSupersede ..) (.ite (.refl [] _) (.after (within_dbChanged ..) (.after
      (within_queueLsa ..) (.upd [.fab] (by rfl))))))) (by rfl)

theorem within_effCairnReceive (s : State) (p : Nat) :
    Within [.out, .port, .erqIn, .rtDirty, .fab, .dict] s (effCairnReceive p s) := by
  unfold effCairnReceive
  dsimp only
  split
  · exact .refl _ _
  · exact .sub (.ite (.refl [] _) (.after (within_dbPrune ..) (.after (.foldl (fun s x => within_lsaAccept ..) _ _) (.after
      (within_adoptEpoch ..) (.after (within_lsaSync ..) (within_setPort ..)))))) (by rfl)

theorem within_effCairnTimeout (s : State) (p : Nat) : Within [.port, .rtDirty, .fab] s (effCairnTimeout p s) := by
  unfold effCairnTimeout
  split
  · exact .sub (.ite (within_setUp ..) (.refl [] _)) (by rfl)
  · exact .refl _ _

theorem within_effAddressAssign (s : State) : Within [.out, .port, .erqIn, .rtDirty, .fab, .dict] s (effAddressAssign s) := by
  have adopt (u : State) : Within [.port, .rtDirty, .fab] u
      (match (assignment (lsas u)).find? (fun e => decide (e.1 = u.id.uid)) with
        | some e => setAddr e.2 u
        | none => u) := by
    split
    · exact .sub (within_setAddr ..) (by rfl)
    · exact .refl _ _
  have synced (u : State) (d : BitVec 32) : Within [.fab, .port, .rtDirty] u (lsaSync { u with fab.adigest := d }) :=
    .sub (.after (within_lsaSync ..) (.upd [.fab] (by rfl))) (by rfl)
  unfold effAddressAssign
  split
  · exact .refl _ _
  · split
    · exact .sub (.ite (.refl [] _) (synced s 0)) (by rfl)
    · dsimp only
      split
      · exact .refl _ _
      · split
        · split
          · exact .sub (.after (adopt _) (.after (within_adoptEpoch ..) (synced s _))) (by rfl)
          · exact .refl _ _
        · exact .sub (.ite (.after (adopt _) (.ite (.refl [] _) (synced s 0))) (.ite (.refl [] _) (synced s 0))) (by rfl)

theorem within_standDown (s : State) :
    Within [.free, .out, .quad, .tile, .mesh, .hbm, .port, .erqIn, .msix, .hif, .ctx, .queue, .ev, .txns, .tags, .quar,
        .txn, .rtDirty, .fab, .pairSt, .pair, .seals, .sealRows, .sealer, .rcv, .qp, .ethPort, .stat, .dict] s (standDown s) := by
  unfold standDown
  dsimp only
  exact .sub (.after (within_setAddr ..) (.after (.upd [.pairSt] (by rfl)) (.each (fun i s => within_ctxAbort ..) _ _))) (by rfl)

theorem within_effAddressConflict (s : State) :
    Within [.free, .out, .quad, .tile, .mesh, .hbm, .port, .erqIn, .msix, .hif, .ctx, .queue, .ev, .txns, .tags, .quar,
        .txn, .rtDirty, .fab, .pairSt, .pair, .seals, .sealRows, .sealer, .rcv, .qp, .ethPort, .stat, .dict] s
        (effAddressConflict s) := by
  unfold effAddressConflict
  dsimp only
  exact .sub (.ite (.foldl (fun s x => .after (within_raise ..) (.upd [.fab] (by rfl))) _ _) (.ite (.after (within_standDown ..) (.foldl
      (fun s x => .after (within_raise ..) (.upd [.fab] (by rfl))) _ _)) (.after (within_setAddr ..) (.foldl (fun s x => .after
      (within_raise ..) (.upd [.fab] (by rfl))) _ _)))) (by rfl)

theorem within_loadTable (s : State) (b : Bytes) : Within [.rtDirty, .loaded] s (loadTable b s).2 := by
  unfold loadTable
  generalize List.range 255 = ds
  split
  · exact .refl _ _
  · exact .upd [.rtDirty, .loaded] (by rfl)

end Sys2Proof.Machine
end

section
/-!
PROOF. The parts that answers and emergencies reach.
-/
namespace Sys2Proof.Machine
open Host

theorem within_streamOpen (s : State) (c : Nat) (mode : BitVec 2) (index : Nat) (sub : Nat) :
    Within [.cvu] s (streamOpen c mode index sub s) := by
  unfold streamOpen
  exact .sub (within_setCvu ..) (by rfl)

theorem within_streamFeed (s : State) (b : Bytes) : Within [.cvu] s (streamFeed b s) := by
  unfold streamFeed
  dsimp only
  exact .sub (.ite (within_setCvu ..) (.refl [] _)) (by rfl)

theorem within_streamCheck (s : State) : Within [.cvu] s (streamCheck s).2 := by
  unfold streamCheck
  dsimp only
  split
  · dsimp only
    exact .sub (within_setCvu ..) (by rfl)
  · exact .refl _ _

theorem within_streamSend (s : State) (index : Nat) (sub : Nat) (b : Bytes) : Within [.cvu] s (streamSend index sub b s).2 := by
  unfold streamSend
  dsimp only
  exact .sub (within_setCvu ..) (by rfl)

theorem within_segUp (client n : Nat) :
    ∀ (k : Nat) (b : Bytes) (s : State), Within [.out, .dict] s (segUp client n k b s) := by
  induction n with
  | zero => exact fun _ _ s => .refl _ s
  | succ n ih =>
    intro k b s
    unfold segUp
    dsimp only
    split
    · exact .sub (within_canSend ..) (by rfl)
    · exact .trans (.sub (within_canSend ..) (by rfl)) (ih ..)

theorem within_canRespond (s : State) (w : DictWait) (status : Nat) (detail : Nat) (value : Bytes) :
    Within [.out, .cvu, .dict] s (canRespond w status detail value s) := by
  unfold canRespond
  dsimp only
  exact .sub (.ite (within_canSend ..) (.ite (within_canSend ..) (.after (within_segUp ..) (.after (within_streamSend ..)
      (within_canSend ..))))) (by rfl)

theorem within_mbxRespond (s : State) (w : DictWait) (status : Nat) (detail : Nat) (value : Bytes) :
    Within [.out, .msix, .dict] s (mbxRespond w status detail value s) := by
  unfold mbxRespond
  dsimp only
  exact .sub (.ite (.refl [] _) (.ite (.after (within_msix ..) (.upd [.dict] (by rfl))) (.upd [.dict] (by rfl)))) (by rfl)

theorem within_respond (s : State) (w : DictWait) (status : Nat) (detail : Nat) (value : Bytes) :
    Within [.out, .cvu, .msix, .dict] s (respond w status detail value s) := by
  unfold respond
  exact .sub (.ite (within_mbxRespond ..) (within_canRespond ..)) (by rfl)

/-- A response without a value streams nothing. -/
theorem within_canRespond_nil (s : State) (w : DictWait) (status : Nat) (detail : Nat) :
    Within [.out, .dict] s (canRespond w status detail [] s) := by
  unfold canRespond
  dsimp only
  split
  · exact (within_canSend ..).sub (by rfl)
  · split
    · exact (within_canSend ..).sub (by rfl)
    · next streams => exact absurd (Nat.zero_le 56) streams

theorem within_respond_nil (s : State) (w : DictWait) (status : Nat) (detail : Nat) :
    Within [.out, .msix, .dict] s (respond w status detail [] s) := by
  unfold respond
  exact .sub (.ite (within_mbxRespond ..) (within_canRespond_nil ..)) (by rfl)

theorem within_answerWait (s : State) (status : Nat) : Within [.out, .msix, .dict] s (answerWait status s) := by
  unfold answerWait
  dsimp only
  split
  · exact .sub (.after (within_respond_nil ..) (.upd [.dict] (by rfl))) (by rfl)
  · exact .refl _ _

end Sys2Proof.Machine
end

section
/-!
PROOF. The parts that Roped Pairs reach.
-/
namespace Sys2Proof.Machine
open Host

theorem within_releaseMirror (s : State) :
    Within [.out, .tile, .port, .erqIn, .hif, .queue, .txn, .pair, .jobKey, .sealRows, .qp, .dict] s (releaseMirror s) := by
  unfold releaseMirror
  dsimp only
  exact .sub (.after (.foldl (fun s x => within_mirLanded ..) _ _) (.upd [.pair] (by rfl))) (by rfl)

theorem within_ckEnd (s : State) (code : Nat) : Within [.pair] s (ckEnd code s) := by
  unfold ckEnd
  dsimp only
  exact .sub (.upd [.pair] (by rfl)) (by rfl)

theorem within_ckFail (s : State) : Within [.pair] s (ckFail s) := by
  unfold ckFail
  dsimp only
  exact .sub (.ite (.after (within_ckEnd ..) (.upd [.pair] (by rfl))) (.refl [] _)) (by rfl)

theorem within_pairState (s : State) (st : PairSt) : Within [.port, .rtDirty, .fab, .pairSt] s (pairState st s) := by
  unfold pairState
  dsimp only
  exact .sub (.after (within_lsaSync ..) (.upd [.pairSt] (by rfl))) (by rfl)

theorem within_mirrorAll (s : State) : Within [.port, .pair] s (mirrorAll s) := by
  unfold mirrorAll
  dsimp only
  exact .sub (.each (fun i s => .ite (.refl [] _) (.after (within_regionMsg ..) (.foldl
      (fun s x => within_mirrorChunks ..) _ _))) _ _) (by rfl)

theorem within_syncAnew (s : State) : Within [.port, .rtDirty, .fab, .pairSt, .pair] s (syncAnew s) := by
  unfold syncAnew
  dsimp only
  split
  · exact .sub (.after (within_mirSend ..) (.after (.upd [.pair] (by rfl)) (.after (within_pairState ..) (.after (.upd [.pair] (by rfl))
      (within_ckFail ..))))) (by rfl)
  · exact .sub (.after (within_pairState ..) (.after (.upd [.pair] (by rfl)) (within_ckFail ..))) (by rfl)

theorem within_enterSyncing (s : State) :
    Within [.out, .tile, .port, .erqIn, .hif, .queue, .txn, .rtDirty, .fab, .pairSt, .pair, .jobKey, .sealRows, .qp, .dict] s
        (enterSyncing s) := by
  unfold enterSyncing
  dsimp only
  exact .sub (.ite (.after (within_syncAnew ..) (within_releaseMirror ..)) (.after (within_mirrorAll ..) (.after
      (within_syncAnew ..) (within_releaseMirror ..)))) (by rfl)

theorem within_enterBinding (s : State) :
    Within [.out, .tile, .hbm, .port, .erqIn, .hif, .queue, .txn, .rtDirty, .fab, .pairSt, .leaving, .pair, .jobKey, .sealRows,
        .qp, .dict] s (enterBinding s) := by
  unfold enterBinding
  dsimp only
  exact .sub (.after (within_pairState ..) (.after (.upd [.leaving, .pair] (by rfl)) (.ite (.after (.foldl
      (fun s x => within_clearRec ..) _ _) (.after (within_ckFail ..) (within_releaseMirror ..))) (.after (within_ckFail ..)
      (within_releaseMirror ..))))) (by rfl)

theorem within_zeroPairSecret (s : State) : Within [.ret, .kh] s (zeroPairSecret s) :=
  .of [.ret, .kh] ⟨fun f => retained_map f fun _ ctx job => ⟨ctx, job⟩, trivial, trivial⟩ rfl

theorem within_setPairRole (s : State) (v : Nat) : Within [.pair, .val, .bank0, .bank1] s (setPairRole v s).2 := by
  unfold setPairRole
  dsimp only
  exact .sub (.after (.upd [.pair] (by rfl)) (within_journalWrite ..)) (by rfl)

theorem within_enterUnbound (s : State) (role : Nat) :
    Within [.out, .tile, .hbm, .port, .erqIn, .hif, .queue, .txn, .rtDirty, .fab, .pairSt, .leaving, .pair, .jobKey, .ret, .kh,
      .sealRows, .qp, .val, .dict, .bank0, .bank1] s (enterUnbound role s).2 := by
  unfold enterUnbound
  extract_lets partner s1 s2 s3 a s4 p s5 f
  have h1 : Within [.out, .tile, .port, .erqIn, .hif, .queue, .txn, .pair, .jobKey, .ret, .kh, .sealRows, .qp, .dict] s s1 :=
    .sub (.after (within_zeroPairSecret ..) (.after (within_ckFail ..) (within_releaseMirror ..))) (by rfl)
  have h2 : Within [.hbm, .pair] s1 s2 := by
    refine .foldl (fun s r => ?_) _ _
    exact within_clearRec ..
  have h3 : Within [.hbm, .pair] s1 s3 := by
    unfold s3
    split
    · exact .sub (.after (.of [.hbm] ⟨fun f => tabWf_memClear _ _ _ _ f.hbm, trivial⟩ (by rfl)) h2) (by rfl)
    · exact .refl _ _
  have h4 : Within [.pair, .val, .bank0, .bank1] s3 s4 := within_setPairRole ..
  clear_value s4
  have h5 : Within [.leaving, .pair, .port, .rtDirty, .fab, .pairSt] s4 s5 := by
    unfold s5
    exact .sub (.after (within_pairState ..) (.upd [.leaving, .pair] (by rfl))) (by rfl)
  clear_value s5
  exact .sub (.after (.upd [.rtDirty] (by rfl)) (.after h5 (.after h4 (.after h3 h1)))) (by rfl)

theorem within_pairBound2 (s : State) (peer : PairPeer) (d : Nat) :
    Within [.out, .tile, .port, .erqIn, .hif, .queue, .txn, .rtDirty, .fab, .pairSt, .pair, .jobKey, .kh, .sealRows, .qp,
        .dict] s (pairBound2 peer d s) := by
  unfold pairBound2
  dsimp only
  split
  · exact .refl _ _
  · split
    · exact .sub (.after (within_enterSyncing ..) (.upd [.kh] (by rfl))) (by rfl)
    · exact .sub (within_raise ..) (by rfl)

theorem within_pairHello (s : State) : Within [.free, .out] s (pairHello s).2 := by
  unfold pairHello
  dsimp only
  exact .sub (.after (within_emit ..) (.after (within_drawScalar ..) (within_drawScalar ..))) (by rfl)

theorem within_effPairBind (s : State) (peer : PairPeer) (dur : Nat) :
    Within [.free, .out, .tile, .hbm, .port, .erqIn, .hif, .queue, .txn, .rtDirty, .fab, .pairSt, .leaving, .pair, .jobKey, .kh,
        .sealRows, .qp, .dict] s (effPairBind peer dur s) := by
  unfold effPairBind
  dsimp only
  exact .sub (.ite (.refl [] _) (.ite (.ite (.after (within_enterBinding ..) (.upd [.pair] (by rfl))) (.refl [] _)) (.ite (.after
      (within_pairBound2 ..) (.after (within_pairHello ..) (.ite (.after (within_enterBinding ..) (.upd [.pair] (by rfl)))
      (.refl [] _)))) (.after (within_khQueue ..) (.after (within_pairHello ..) (.ite (.after (within_enterBinding ..)
      (.upd [.pair] (by rfl))) (.refl [] _))))))) (by rfl)

theorem within_effPairSyncDone (s : State) : Within [.port, .rtDirty, .fab, .pairSt] s (effPairSyncDone s) := by
  unfold effPairSyncDone
  exact .sub (.ite (within_pairState ..) (.refl [] _)) (by rfl)

theorem within_failover (s : State) :
    Within [.out, .hbm, .port, .erqIn, .rtDirty, .fab, .pairSt, .before, .pair, .dict] s (failover s) := by
  unfold failover
  dsimp only
  exact .sub (.after (within_raise ..) (.after (.foldl (fun s x => .ite (.refl [] _) (.ite (within_clearRec ..) (.after
      (within_sealFinish ..) (within_sealPrepare ..)))) _ _) (.after (within_adoptEpoch ..) (.after (within_setAddr ..) (.after
      (within_pairState ..) (.upd [.before, .pair] (by rfl))))))) (by rfl)

theorem within_pairMiss (s : State) :
    Within [.out, .tile, .hbm, .port, .erqIn, .hif, .queue, .txn, .rtDirty, .fab, .pairSt, .leaving, .before, .pair, .jobKey,
      .sealRows, .qp, .dict] s (pairMiss s) := by
  unfold pairMiss
  split
  · exact .sub (within_enterBinding ..) (by rfl)
  · exact .sub (within_enterBinding ..) (by rfl)
  · split
    · exact .sub (.ite (.refl [] _) (within_failover ..)) (by rfl)
    · extract_lets solo u
      have released : Within [.out, .tile, .port, .erqIn, .hif, .queue, .txn, .rtDirty, .fab, .pairSt, .pair, .jobKey, .sealRows,
          .qp, .dict] s u := .sub (.after (within_ckFail ..) (.after (within_releaseMirror ..) (within_pairState ..))) (by rfl)
      clear_value u
      exact .sub (.after (within_raise ..) (.after (.upd [.pair] (by rfl)) released)) (by rfl)
  · exact .refl _ _

theorem within_effHeartbeatMiss (s : State) :
    Within [.out, .tile, .hbm, .port, .erqIn, .hif, .queue, .txn, .rtDirty, .fab, .pairSt, .leaving, .before, .pair, .jobKey,
        .sealRows, .qp, .dict] s (effHeartbeatMiss s) := by
  unfold effHeartbeatMiss
  exact .sub (.ite (within_pairMiss ..) (.refl [] _)) (by rfl)

theorem within_effHeartbeatSend (s : State) : Within [.port, .pair] s (effHeartbeatSend s) := by
  unfold effHeartbeatSend
  dsimp only
  exact .sub (.ite (.refl [] _) (.after (within_mirSend ..) (.upd [.pair] (by rfl)))) (by rfl)

theorem within_sendAck (s : State) (mseq : Nat) (bad : Bool) : Within [.port, .pair] s (sendAck mseq bad s) := by
  unfold sendAck
  exact .sub (within_mirSend ..) (by rfl)

/-- The states that taking a message off the buffer can leave. -/
def Mir.Leaves (l : List Part) (s : State) : Mir → Prop
  | .nothing => True
  | .ignored t => Within l s t
  | .bad _ t => Within l s t
  | .good _ _ _ _ t => Within l s t

theorem leaves_takeMir (vcA : Bool) (s : State) : (takeMir vcA s).Leaves [.port, .pair] s := by
  unfold takeMir
  extract_lets p x l put
  have taken (r : List DFrame) : Within [.port] s (put r) := within_setPort ..
  clear_value put
  split
  · exact trivial
  · next r _ => exact (taken r).sub (by rfl)
  · next b r _ =>
    have noted (a : BitVec 8) : Within [.port, .pair] s { put r with pair.aliveRx := some a } :=
      .after (.upd [.pair] (by rfl)) (taken r)
    have taken : Within [.port, .pair] s (put r) := (taken r).sub (by rfl)
    dsimp only
    generalize put r = t at taken noted
    split
    · exact taken
    · split
      · exact taken
      · cases s.pair.aliveRx <;> dsimp only <;> split <;> exact noted _

theorem within_mirReceive {l : List Part} {mtype : Nat} {act : Nat → Nat → Bytes → State → State} {s : State}
    (h : ∀ mseq arg body u, Within l u (act mseq arg body u)) :
    Within ([.port, .pair] ++ l) s (mirReceive mtype act s) := by
  unfold mirReceive
  split
  · exact .refl ..
  · have taken := leaves_takeMir (decide (mtype = 1) || decide (mtype = 5)) s
    cases took : takeMir (decide (mtype = 1) || decide (mtype = 5)) s <;> rw [took] at taken
    case nothing => exact .refl ..
    case ignored => exact Within.left (Within.sub taken (by rfl))
    case bad mseq u =>
      have acked : Within [.port, .pair] s (sendAck mseq true u) := .sub (.after (within_sendAck ..) taken) (by rfl)
      exact acked.left
    case good m mseq arg body u =>
      have taken : Within ([.port, .pair] ++ l) s u := Within.left taken
      dsimp only
      split
      · exact taken.trans (h ..).right
      · exact .refl ..

theorem within_effMirHeartbeat (s : State) :
    Within [.free, .out, .quad, .tile, .mesh, .hbm, .port, .erqIn, .msix, .hif, .ctx, .queue, .ev, .txns, .tags, .quar,
        .txn, .rtDirty, .fab, .pairSt, .pair, .jobKey, .seals, .sealRows, .sealer, .rcv, .qp, .ethPort, .stat, .dict] s
        (effMirHeartbeat s) := by
  unfold effMirHeartbeat
  dsimp only
  exact .sub (within_mirReceive (fun _ _ _ _ => .ite (.refl [] _) (.ite (.after (within_raise ..) (.after (within_standDown ..)
      (.upd [.pair] (by rfl)))) (.ite (.after (within_pairState ..) (.upd [.pair] (by rfl))) (.ite (.after (within_enterSyncing ..)
      (.upd [.pair] (by rfl))) (.upd [.pair] (by rfl))))))) (by rfl)

theorem within_effMirWrite (s : State) : Within [.hbm, .port, .pair] s (effMirWrite s) := by
  unfold effMirWrite
  dsimp only
  exact .sub (.ite (.refl [] _) (within_mirReceive (fun _ _ _ _ => .after (within_sendAck ..) (.ite (within_hbmWrite ..)
      (.refl [] _))))) (by rfl)

theorem within_effMirRegion (s : State) : Within [.hbm, .port, .pair] s (effMirRegion s) := by
  unfold effMirRegion
  dsimp only
  exact .sub (.ite (.refl [] _) (within_mirReceive (fun _ _ _ _ => .after (within_sendAck ..) (.ite (.after (within_putRec ..)
      (.upd [.pair] (by rfl))) (.refl [] _))))) (by rfl)

theorem within_effMirCkpt (s : State) : Within [.hbm, .port, .pair] s (effMirCkpt s) := by
  unfold effMirCkpt
  dsimp only
  exact .sub (.ite (.refl [] _) (within_mirReceive (fun _ _ _ _ => .after (within_sendAck ..) (.ite (within_hbmWrite ..)
      (.refl [] _))))) (by rfl)

theorem within_unbindDone (s : State) :
    Within [.out, .tile, .hbm, .port, .erqIn, .msix, .hif, .queue, .txn, .rtDirty, .fab, .pairSt, .leaving, .pair,
        .jobKey, .ret, .kh, .sealRows, .qp, .val, .dict, .bank0, .bank1] s (unbindDone s) := by
  unfold unbindDone
  dsimp only
  exact .sub (.after (within_answerWait ..) (within_enterUnbound ..)) (by rfl)

theorem within_effMirAck (s : State) :
    Within [.out, .tile, .hbm, .port, .erqIn, .msix, .hif, .queue, .txn, .rtDirty, .fab, .pairSt, .leaving, .before, .pair,
      .jobKey, .ret, .kh, .sealRows, .qp, .val, .dict, .bank0, .bank1] s (effMirAck s) := by
  unfold effMirAck
  refine .sub (within_mirReceive (l := [.out, .tile, .hbm, .port, .erqIn, .msix, .hif, .queue, .txn, .rtDirty, .fab,
      .pairSt,
    .leaving, .before, .pair, .jobKey, .ret, .kh, .sealRows, .qp, .val, .dict, .bank0, .bank1]) (fun mseq arg body s => ?_)) (by rfl)
  dsimp only
  split
  · exact .refl ..
  · next m _ =>
    generalize hu : ({ s with pair.out := s.pair.out.filter (fun x => decide (x.mseq ≠ m.mseq)) } : State) = u
    have listed : Within [.pair] s u := hu ▸ .upd [.pair] (by rfl)
    split
    · split
      · exact .sub (.after (within_pairMiss ..) (.upd [.pair] (by rfl))) (by rfl)
      · exact .sub (.after (within_mirSend ..) listed) (by rfl)
    · split
      · exact .sub (.after (within_mirLanded ..) listed) (by rfl)
      · exact listed.sub (by rfl)
      · exact listed.sub (by rfl)
      · exact .sub (.after (within_ckEnd ..) listed) (by rfl)
      · exact .sub (.after (within_unbindDone ..) listed) (by rfl)

theorem within_effMirUnbind (s : State) :
    Within [.out, .tile, .hbm, .port, .erqIn, .msix, .hif, .queue, .txn, .rtDirty, .fab, .pairSt, .leaving, .pair,
        .jobKey, .ret, .kh, .sealRows, .qp, .val, .dict, .bank0, .bank1] s (effMirUnbind s) := by
  unfold effMirUnbind
  dsimp only
  exact .sub (within_mirReceive (fun _ _ _ _ => .ite (within_sendAck ..) (.ite (.after (within_unbindDone ..)
      (within_sendAck ..)) (.after (within_enterUnbound ..) (within_sendAck ..))))) (by rfl)

theorem within_effCkGo (s : State) : Within [.port, .cseq, .pair] s (effCkGo s) := by
  unfold effCkGo
  dsimp only
  exact .sub (.ite (.refl [] _) (.ite (within_ckEnd ..) (.after (within_mirSend ..) (.upd [.cseq, .pair] (by rfl))))) (by rfl)

theorem within_pairRoleWrite (s : State) (v : Nat) :
    Within [.out, .tile, .hbm, .port, .erqIn, .hif, .queue, .txn, .rtDirty, .fab, .pairSt, .leaving, .pair, .jobKey, .ret, .kh,
        .sealRows, .qp, .val, .dict, .bank0, .bank1] s (pairRoleWrite v s).2 := by
  unfold pairRoleWrite
  dsimp only
  split
  · exact .refl _ _
  · split
    · dsimp only
      exact .sub (within_journalWrite ..) (by rfl)
    · split
      · dsimp only
        exact .sub (.ite (.after (within_lsaSync ..) (within_setPairRole ..)) (within_setPairRole ..)) (by rfl)
      · dsimp only
        exact .sub (.after (within_enterUnbound ..) (within_mirSend ..)) (by rfl)
      · dsimp only
        exact .sub (.after (within_mirSend ..) (.upd [.pair] (by rfl))) (by rfl)
      · dsimp only
        exact .sub (.after (within_mirSend ..) (.upd [.pair] (by rfl))) (by rfl)
      · dsimp only
        exact .sub (.after (within_enterUnbound ..) (.ite (within_mirSend ..) (.refl [] _))) (by rfl)

theorem within_effUnbindTimeout (s : State) :
    Within [.out, .tile, .hbm, .port, .erqIn, .msix, .hif, .queue, .txn, .rtDirty, .fab, .pairSt, .leaving, .pair,
        .jobKey, .ret, .kh, .sealRows, .qp, .val, .dict, .bank0, .bank1] s (effUnbindTimeout s) := by
  unfold effUnbindTimeout
  dsimp only
  split
  · exact .sub (.ite (.ite (within_unbindDone ..) (.after (within_answerWait ..) (.upd [.pair] (by rfl)))) (.refl [] _)) (by rfl)
  · exact .refl _ _

end Sys2Proof.Machine
end

section
/-!
PROOF. The parts that Keyholder commands in progress reach.
-/
namespace Sys2Proof.Machine
open Host

theorem within_secEnd (s : State) (code : Nat) : Within [.khCtl] s (secEnd code s) := by
  unfold secEnd
  dsimp only
  exact .sub (.upd [.khCtl] (by rfl)) (by rfl)

theorem within_installChassis (s : State) (k : BitVec 256) : Within [.chassis, .wrapped] s (installChassis k s) := by
  unfold installChassis
  dsimp only
  exact .sub (.upd [.chassis, .wrapped] (by rfl)) (by rfl)

theorem within_jkInstalled (s : State) (slot : Nat) (snum : Nat) (k : BitVec 256) :
    Within [.jobKey, .gcmKey] s (jkInstalled slot snum k s) := by
  unfold jkInstalled
  refine .of [.jobKey, .gcmKey] ⟨fun f => tabWf_tput _ _ _ _ f.jobKey, fun f => ?_, trivial⟩ (by rfl)
  dsimp only
  split
  · exact tabWf_tput _ _ _ _ f.gcmKey
  · exact f.gcmKey

theorem within_khFinish (s : State) (c : KhCmd) :
    Within [.free, .out, .biv, .tile, .hbm, .port, .erqIn, .msix, .hif, .ctx, .queue, .mo, .obj, .txn, .rtDirty, .fab, .pairSt,
        .cseq, .before, .pair, .ctxKey, .jobKey, .memKey, .gcmKey, .ret, .chassis, .khCtl, .kh, .sealRows, .replay, .qp, .dict,
        .wrapped] s (khFinish c s) := by
  unfold khFinish
  dsimp only
  split
  · exact .sub (.after (within_objDone ..) (within_ctxMake ..)) (by rfl)
  · exact .sub (.after (within_secEnd ..) (within_jkInstalled ..)) (by rfl)
  · exact .sub (.after (within_secEnd ..) (within_zeroJobKey ..)) (by rfl)
  · exact .sub (.after (within_secEnd ..) (within_installChassis ..)) (by rfl)
  · exact .sub (within_declared ..) (by rfl)
  · exact .sub (within_claimRun ..) (by rfl)
  · exact .sub (within_pairBound2 ..) (by rfl)
  · exact .sub (.upd [.dict] (by rfl)) (by rfl)

theorem within_khFail (s : State) (code : Nat) (c : KhCmd) :
    Within [.out, .biv, .erqIn, .msix, .obj, .khCtl, .dict] s (khFail code c s) := by
  unfold khFail
  dsimp only
  split
  · exact .sub (within_objFail ..) (by rfl)
  · exact .sub (within_secEnd ..) (by rfl)
  · exact .sub (within_secEnd ..) (by rfl)
  · exact .sub (within_secEnd ..) (by rfl)
  · exact .sub (within_bivEnd ..) (by rfl)
  · exact .sub (within_bivEnd ..) (by rfl)
  · exact .refl _ _
  · exact .sub (.after (within_respond_nil ..) (.upd [.dict] (by rfl))) (by rfl)

theorem within_khWrote (s : State) (c : KhCmd) : Within [.ctxKey, .jobKey, .memKey, .gcmKey, .ret] s (khWrote c s) := by
  unfold khWrote
  split
  · exact .sub (within_zeroCtxKey ..) (by rfl)
  · exact .sub (within_zeroJobKey ..) (by rfl)
  · exact .sub (within_zeroJobKey ..) (by rfl)
  · exact .refl _ _
  · exact .refl _ _
  · exact .refl _ _
  · exact .refl _ _
  · exact .refl _ _

theorem within_abortHeld (s : State) :
    Within [.out, .biv, .erqIn, .msix, .obj, .ctxKey, .jobKey, .memKey, .gcmKey, .ret, .khCtl, .kh, .dict] s
        (abortHeld s) := by
  unfold abortHeld
  dsimp only
  split
  · exact .refl _ _
  · exact .sub (.after (.foldl (fun s x => within_khFail ..) _ _) (.after (within_khFail ..) (.after (within_khWrote ..)
      (.upd [.kh] (by rfl))))) (by rfl)

theorem within_khServed (s : State) :
    Within [.free, .out, .biv, .tile, .hbm, .port, .erqIn, .msix, .hif, .ctx, .queue, .mo, .obj, .txn, .rtDirty, .fab,
        .pairSt, .cseq, .before, .pair, .ctxKey, .jobKey, .memKey, .gcmKey, .ret, .chassis, .khCtl, .kh, .sealRows, .replay,
        .qp, .dict, .wrapped] s (khServed s) := by
  unfold khServed
  dsimp only
  split
  · exact .refl _ _
  · exact .sub (.ite (.after (.foldl (fun s x => within_khFail ..) _ _) (.after (within_khFinish ..) (.upd [.kh] (by rfl)))) (.after
      (within_khFinish ..) (.upd [.kh] (by rfl)))) (by rfl)

end Sys2Proof.Machine
end

section
/-!
PROOF. The parts that Ethernet and RoCE reach.
-/
namespace Sys2Proof.Machine
open Host

theorem within_setEth (s : State) (p : Nat) (x : EthPort) : Within [.ethPort] s (setEth s p x) := by
  unfold setEth
  dsimp only
  exact .sub (.of [.ethPort] ⟨(lset_length ..).trans, trivial⟩ (by rfl)) (by rfl)

theorem within_netDone (s : State) (code : Nat) (result : Nat) : Within [.eth] s (netDone code result s) := by
  unfold netDone
  dsimp only
  exact .sub (.upd [.eth] (by rfl)) (by rfl)

/-- What a network command's own effect changes, where it has one. -/
def NetEnd.Leaves (l : List Part) (s : State) : Except Nat (Nat × State) → Prop
  | .error _ => True
  | .ok r => Within l s r.2

namespace NetEnd.Leaves

variable {l : List Part} {s t : State} {c : Prop} [Decidable c] {code r : Nat} {e : Except Nat (Nat × State)}

theorem error : Leaves l s (.error code) := trivial

theorem ok (w : Within l s t) : Leaves l s (.ok (r, t)) := w

/-- A check that refuses. -/
theorem check (a : Leaves l s e) : Leaves l s (if c then .error code else e) := by
  split
  · exact trivial
  · exact a

/-- A check that accepts. -/
theorem gate (a : Leaves l s e) : Leaves l s (if c then e else .error code) := by
  split
  · exact a
  · exact trivial

end NetEnd.Leaves

/-- A network command changes the interface's own parts, and what its effect changes. -/
theorem within_netCmd {l : List Part} {op lim : Nat} {x : NetCmd} {bad : Bytes → Bool} {ctx : Bytes → Option Nat}
    {act : Bytes → State → Except Nat (Nat × State)} {s : State} (h : ∀ d s, NetEnd.Leaves l s (act d s)) :
    Within ([.out, .erqIn, .dict, .eth] ++ l) s (netCmd op lim x bad ctx act s) := by
  unfold netCmd
  split
  · exact .refl ..
  · extract_lets stage raw fail
    have failed (code : Nat) (c : Option Nat) : Within ([.out, .erqIn, .dict, .eth] ++ l) s (fail code c) :=
      Within.left (.sub (.after (within_netDone ..) (within_raise ..)) (by rfl))
    clear_value fail
    have left := h stage s
    split
    · exact failed ..
    split
    · exact failed ..
    split
    · exact failed ..
    split
    · exact failed ..
    · next r done =>
      rw [done] at left
      exact (Within.right left).trans (Within.left (.sub (within_netDone ..) (by rfl)))

theorem within_effQpCreate (s : State) (x : NetCmd) : Within ([.out, .erqIn, .dict, .eth] ++ [.qp]) s (effQpCreate x s) := by
  unfold effQpCreate
  exact within_netCmd (fun d s => .check (.check (.ok (within_setQp ..))))

theorem within_effQpDestroy (s : State) (x : NetCmd) : Within ([.out, .erqIn, .dict, .eth] ++ [.qp, .ethPort]) s
    (effQpDestroy x s) := by
  unfold effQpDestroy
  exact within_netCmd (fun d s => .check (.ok (.sub (.after (within_dropHeld ..) (within_setQp ..)) (by rfl))))

theorem within_effQpFail (s : State) (x : NetCmd) : Within ([.out, .erqIn, .dict, .eth] ++ [.out, .erqIn, .qp, .ethPort,
    .dict]) s (effQpFail x s) := by
  unfold effQpFail
  exact within_netCmd (fun d s => .gate (.ok (.sub (within_qpError ..) (by rfl))))

theorem within_effQpRecover (s : State) (x : NetCmd) : Within ([.out, .erqIn, .dict, .eth] ++ [.qp]) s (effQpRecover x s) := by
  unfold effQpRecover
  exact within_netCmd (fun d s => .check (.check (.ok (within_setQp ..))))

theorem within_effMrReg (s : State) (x : NetCmd) : Within ([.out, .erqIn, .dict, .eth] ++ [.free, .mo]) s (effMrReg x s) := by
  unfold effMrReg
  exact within_netCmd (fun d s => .check (.check (.ok (.sub (.after (within_setMo ..) (within_drawn ..)) (by rfl)))))

theorem within_effMrDereg (s : State) (x : NetCmd) : Within ([.out, .erqIn, .dict, .eth] ++ [.mo]) s (effMrDereg x s) := by
  unfold effMrDereg
  exact within_netCmd (fun d s => .gate (.ok (within_setMo ..)))

theorem within_effNetUnknown (s : State) (op : Nat) (x : NetCmd) : Within ([.out, .erqIn, .dict, .eth] ++ []) s
    (effNetUnknown op x s) := by
  unfold effNetUnknown
  exact within_netCmd (fun _ _ => .error)

theorem within_pfcCheck (s : State) (p : Nat) : Within [.out, .ethPort] s (pfcCheck p s) := by
  unfold pfcCheck
  dsimp only
  exact .sub (.ite (.refl [] _) (.ite (.after (within_emit ..) (within_setEth ..)) (.ite (.after (within_emit ..)
      (within_setEth ..)) (.refl [] _)))) (by rfl)

theorem within_ethResume (s : State) (p : Nat) : Within [.out, .ethPort] s (ethResume p s) := by
  unfold ethResume
  dsimp only
  exact .sub (.after (within_emitAll ..) (within_setEth ..)) (by rfl)

theorem within_effPfcWrite (s : State) (p : Nat) (prio : BitVec 3) (en : Bool) :
    Within [.out, .ethPort] s (effPfcWrite p prio en s) := by
  unfold effPfcWrite
  dsimp only
  exact .sub (.after (within_pfcCheck ..) (.ite (within_setEth ..) (.after (within_ethResume ..) (within_setEth ..)))) (by rfl)

theorem within_ethKeep (s : State) (p : Nat) (f : EthFrame) : Within [.out, .ethPort] s (ethKeep p f s) := by
  unfold ethKeep
  dsimp only
  exact .sub (.after (within_pfcCheck ..) (within_setEth ..)) (by rfl)

theorem within_ethDrop (s : State) (p : Nat) : Within [.ethPort] s (ethDrop p s) := by
  unfold ethDrop
  dsimp only
  exact .sub (within_setEth ..) (by rfl)

theorem within_effEthFrame (s : State) (p : Nat) (f : EthFrame) : Within [.out, .ethPort] s (effEthFrame p f s) := by
  unfold effEthFrame
  dsimp only
  split
  · exact .refl _ _
  · split
    · exact .sub (within_ethDrop ..) (by rfl)
    · split
      · exact .sub (within_ethKeep ..) (by rfl)
      · exact .sub (within_ethDrop ..) (by rfl)
      · split
        · exact .sub (within_setEth ..) (by rfl)
        · split
          · exact .sub (within_ethDrop ..) (by rfl)
          · exact .sub (.ite (within_ethKeep ..) (within_ethDrop ..)) (by rfl)

theorem within_ethTake (s : State) (p : Nat) : Within [.out, .ethPort] s (ethTake p s) := by
  unfold ethTake
  dsimp only
  split
  · exact .refl _ _
  · exact .sub (.after (within_pfcCheck ..) (within_setEth ..)) (by rfl)

theorem within_ethSkip (s : State) (p : Nat) : Within [.out, .ethPort] s (ethSkip p s) := by
  unfold ethSkip
  exact .sub (.foldl (fun s x => .after (within_ethDrop ..) (within_ethTake ..)) _ _) (by rfl)

theorem within_ethSend (s : State) (q : Nat) (k : RoceTx) : Within [.out, .ethPort] s (ethSend q k s) := by
  unfold ethSend
  dsimp only
  exact .sub (.ite (.refl [] _) (.ite (within_setEth ..) (within_emit ..))) (by rfl)

theorem within_effPfcPause (s : State) (p : Nat) : Within [.out, .ethPort] s (effPfcPause p s) := by
  unfold effPfcPause
  dsimp only
  split
  · exact .sub (.ite (.after (within_ethTake ..) (within_ethSkip ..)) (.ite (.after (within_setEth ..) (.after
      (within_ethTake ..) (within_ethSkip ..))) (.after (within_ethResume ..) (.after (within_ethTake ..) (within_ethSkip ..))))) (by rfl)
  · exact .sub (within_ethSkip ..) (by rfl)

theorem within_qpReply (s : State) (q : Nat) (op : RoceOp) (psn : Nat) (syn : Nat) :
    Within [.out, .ethPort] s (qpReply q op psn syn s) := by
  unfold qpReply
  exact .sub (within_ethSend ..) (by rfl)

theorem within_qpNak (s : State) (q : Nat) (psn : Nat) (syn : Nat) (cause : QpCause) (addr : Nat) :
    Within [.out, .erqIn, .qp, .ethPort, .dict] s (qpNak q psn syn cause addr s) := by
  unfold qpNak
  exact .sub (.after (within_qpReply ..) (within_qpError ..)) (by rfl)

theorem within_qpFault (s : State) (q : Nat) (va : Option Nat) :
    Within [.out, .erqIn, .qp, .ethPort, .dict] s (qpFault q va s) := by
  unfold qpFault
  refine .trans ?_ (.sub (within_qpError ..) (by rfl))
  split
  · exact .sub (within_raise ..) (by rfl)
  · exact .refl _ _

theorem within_sendCnp (s : State) (q : Nat) : Within [.out, .qp, .ethPort] s (sendCnp q s) := by
  unfold sendCnp
  dsimp only
  exact .sub (.ite (.after (within_qpReply ..) (within_setQp ..)) (.refl [] _)) (by rfl)

theorem within_takePkt (s : State) (p : Nat) (want : RoceOp → Bool) : Within [.out, .qp, .ethPort] s (takePkt p want s).2 := by
  unfold takePkt
  dsimp only
  split
  · dsimp only
    exact .sub (within_ethSkip ..) (by rfl)
  · dsimp only
    exact .sub (.ite (.after (within_sendCnp ..) (.after (within_ethTake ..) (within_ethSkip ..))) (.after (within_ethTake ..)
        (within_ethSkip ..))) (by rfl)

theorem within_netWrite {c : Nat} : ∀ {l : List (Nat × Bytes)} {ms : List Nat} {s : State} {w : List Nat × State},
    netWrite c l ms s = some w → Within [.hbm, .port, .pair] s w.2
  | [], ms, s, w, h => by
    obtain rfl := Option.some.inj h
    exact .refl _ _
  | (_, []) :: r, ms, s, w, h => within_netWrite (l := r) h
  | (va, b :: bs) :: r, ms, s, w, h => by
    simp only [netWrite] at h
    split at h
    · cases h
    · exact (within_landPieces ..).trans (within_netWrite h)

theorem within_qpLanded (s : State) (q : Nat) (psn : Nat) (ev : Bool) (dup : Bool) (waits : List Nat) :
    Within [.qp] s (qpLanded q psn ev dup waits s) := by
  unfold qpLanded
  dsimp only
  exact .sub (within_setQp ..) (by rfl)

theorem within_dupPkt (s : State) (q : Nat) (k : RocePkt) :
    Within [.out, .hbm, .port, .erqIn, .pair, .qp, .ethPort, .dict] s (dupPkt q k s) := by
  unfold dupPkt
  extract_lets x psn
  split
  · exact .sub (within_qpLanded ..) (by rfl)
  · next va rkey _ =>
    split
    · exact .sub (within_qpNak ..) (by rfl)
    split
    · exact .sub (within_qpFault ..) (by rfl)
    split
    · exact .sub (within_qpFault ..) (by rfl)
    · next w wrote => exact .sub (.after (within_qpLanded ..) (within_netWrite wrote)) (by rfl)

theorem within_effRoceInbound (s : State) (p : Nat) :
    Within [.out, .hbm, .port, .erqIn, .pair, .qp, .ethPort, .dict] s (effRoceInbound p s) := by
  unfold effRoceInbound
  have took := within_takePkt s p (fun o => decide (o ≠ .ack) && decide (o ≠ .nak) && decide (o ≠ .cnp))
  split
  · next u e =>
    rw [e] at took
    exact took.sub (by rfl)
  · next q k u e =>
    rw [e] at took
    refine Within.sub (.after (?_ : Within [.out, .hbm, .port, .erqIn, .pair, .qp, .ethPort, .dict] u _) took) (by rfl)
    extract_lets x psn ahead
    split
    · exact .sub (within_qpNak ..) (by rfl)
    split
    · exact within_dupPkt ..
    split
    · exact .sub (within_qpReply ..) (by rfl)
    split
    · exact .sub (within_qpReply ..) (by rfl)
    · exact .sub (within_qpNak ..) (by rfl)
    · exact .sub (within_qpNak ..) (by rfl)
    · exact .sub (within_qpFault ..) (by rfl)
    split
    · exact .sub (within_qpFault ..) (by rfl)
    · next r wrote =>
      exact .sub (.after (within_qpLanded ..) (.after (within_setQp ..) (within_netWrite wrote))) (by rfl)

theorem within_effRoceLanded (s : State) (q : Nat) :
    Within [.out, .tile, .erqIn, .msix, .hif, .ev, .qp, .ethPort, .dict] s (effRoceLanded q s) := by
  unfold effRoceLanded
  dsimp only
  split
  · exact .sub (.ite (.ite (.after (within_evAdd ..) (.ite (.after (within_qpReply ..) (within_setQp ..)) (within_setQp ..)))
      (.ite (.after (within_qpReply ..) (within_setQp ..)) (within_setQp ..))) (.refl [] _)) (by rfl)
  · exact .refl _ _

theorem within_sendTx (s : State) (q : Nat) (l : List RoceTx) : Within [.out, .ethPort] s (sendTx q l s) := by
  unfold sendTx
  exact .sub (.foldl (fun s x => within_ethSend ..) _ _) (by rfl)

theorem within_effRocePost (s : State) (q : Nat) (hr : List Cell) :
    Within [.free, .out, .erqIn, .qp, .ethPort, .dict] s (effRocePost q hr s) := by
  unfold effRocePost
  dsimp only
  split
  · exact .refl _ _
  · split
    · exact .sub (.after (within_qpFault ..) (within_drawn ..)) (by rfl)
    · exact .sub (.after (within_sendTx ..) (.after (within_setQp ..) (within_drawn ..))) (by rfl)

theorem within_resend (s : State) (q : Nat) (hr : List Host.Cell) :
    Within [.free, .out, .erqIn, .qp, .ethPort, .dict] s (resend q hr s) := by
  unfold resend
  refine .sub (.after (.foldl (l := [.out, .erqIn, .qp, .ethPort, .dict]) (fun s o => ?_) _ _) (within_drawn ..)) (by rfl)
  split
  · exact .refl _ _
  split
  · exact .sub (within_qpFault ..) (by rfl)
  · exact .sub (within_sendTx ..) (by rfl)

theorem within_ackOuts (q psn : Nat) : ∀ (l : List QpOut) (s : State),
    Within [.out, .tile, .erqIn, .msix, .hif, .ev, .qp, .dict] s (ackOuts q psn l s)
  | [], s => .sub (within_setQp ..) (by rfl)
  | o :: r, s => by
    unfold ackOuts
    split
    · refine Within.trans ?_ (within_ackOuts q psn r _)
      split
      · exact .sub (.after (within_evAdd ..) (within_setQp ..)) (by rfl)
      · exact .sub (within_setQp ..) (by rfl)
    · exact .sub (within_setQp ..) (by rfl)

theorem within_effRoceAck (s : State) (p : Nat) :
    Within [.out, .tile, .erqIn, .msix, .hif, .ev, .qp, .ethPort, .dict] s (effRoceAck p s) := by
  unfold effRoceAck
  dsimp only
  split
  · rename_i h
    exact .sub (.of_snd h (within_takePkt ..)) (by rfl)
  · rename_i h
    exact .sub (.after (within_ackOuts ..) (.after (within_setQp ..) (.of_snd h (within_takePkt ..)))) (by rfl)

theorem within_effRoceNak (s : State) (p : Nat) (hr : List Cell) :
    Within [.free, .out, .erqIn, .qp, .ethPort, .dict] s (effRoceNak p hr s) := by
  unfold effRoceNak
  dsimp only
  split
  · rename_i h
    exact .sub (.of_snd h (within_takePkt ..)) (by rfl)
  · rename_i h
    exact .sub (.ite (.after (within_qpError ..) (.of_snd h (within_takePkt ..))) (.ite (.after (within_resend ..) (.after
        (within_setQp ..) (.of_snd h (within_takePkt ..)))) (.after (within_qpError ..) (.of_snd h (within_takePkt ..))))) (by rfl)

theorem within_effRoceTimeout (s : State) (q : Nat) (hr : List Cell) :
    Within [.free, .out, .erqIn, .qp, .ethPort, .dict] s (effRoceTimeout q hr s) := by
  unfold effRoceTimeout
  dsimp only
  exact .sub (.ite (.refl [] _) (.ite (.after (within_resend ..) (within_setQp ..)) (within_qpError ..))) (by rfl)

theorem within_effRoceCnp (s : State) (p : Nat) : Within [.out, .qp, .ethPort] s (effRoceCnp p s) := by
  unfold effRoceCnp
  dsimp only
  split
  · rename_i h
    exact .sub (.of_snd h (within_takePkt ..)) (by rfl)
  · rename_i h
    exact .sub (.after (within_setQp ..) (.of_snd h (within_takePkt ..))) (by rfl)

theorem within_effRoceRate (s : State) (q : Nat) : Within [.qp] s (effRoceRate q s) := by
  unfold effRoceRate
  dsimp only
  exact .sub (.ite (within_setQp ..) (.refl [] _)) (by rfl)

theorem within_effEthDown (s : State) (p : Nat) : Within [.out, .erqIn, .ethPort, .dict] s (effEthDown p s) := by
  unfold effEthDown
  dsimp only
  exact .sub (.ite (.after (within_raise ..) (within_setEth ..)) (.refl [] _)) (by rfl)

theorem within_effEthUp (s : State) (p : Nat) : Within [.pwrClk, .ethPort] s (effEthUp p s) := by
  unfold effEthUp
  dsimp only
  exact .sub (.ite (.after (.upd [.pwrClk] (by rfl)) (within_setEth ..)) (.refl [] _)) (by rfl)

end Sys2Proof.Machine
end

section
/-!
PROOF. The parts that the power domains reach.
-/
namespace Sys2Proof.Machine
open Host

theorem within_setDom (s : State) (d : Nat) (b : Bool) : Within [.pwr] s (setDom d b s) := by
  unfold setDom
  dsimp only
  exact .sub (.upd [.pwr] (by rfl)) (by rfl)

/-- A table whose entries change to values that are not the default is in form. -/
theorem tabWfFrom_map {α β : Type} [DecidableEq α] [DecidableEq β] {d : α} {d' : β} {f : α → β} (hf : ∀ v, v ≠ d → f v ≠ d')
    (l : Tab α) : ∀ lo, tabWfFrom d lo l = true → tabWfFrom d' lo (l.map fun e => (e.1, f e.2)) = true := by
  induction l with
  | nil => exact fun _ _ => rfl
  | cons e r ih =>
    obtain ⟨k, v⟩ := e
    intro lo h
    obtain ⟨above, some_v, rest⟩ := (tabWfFrom_cons ..).1 h
    exact (tabWfFrom_cons ..).2 ⟨above, hf v some_v, ih _ rest⟩

theorem within_secOff (s : State) : Within [.ctxKey, .jobKey, .ret, .nonce, .kh] s (secOff s) := by
  unfold secOff
  refine .of [.ctxKey, .jobKey, .ret, .nonce, .kh]
    ⟨fun _ => rfl, fun f => by dsimp only; exact tabWf_tmap _ _ _ f.jobKey, fun f r hr => ?_, trivial, trivial, trivial⟩ (by rfl)
  obtain rfl := Option.some.inj hr
  have mapped (v : Option (BitVec 256)) (hv : v ≠ none) : v.map (retWrap s) ≠ none := by simpa using hv
  exact ⟨tabWfFrom_map mapped _ _ f.ctxKey, tabWf_map_isSome {} (fun k : JobKey => k.key.map (retWrap s)) _ f.jobKey⟩

theorem within_secOn (s : State) : Within [.ctxKey, .jobKey, .memKey, .gcmKey, .ret, .kh] s (secOn s) := by
  unfold secOn
  split
  · exact .refl _ _
  · next r held =>
    extract_lets k u
    have opened : Within [.ctxKey, .jobKey, .ret, .kh] s u := by
      refine .of [.ctxKey, .jobKey, .ret, .kh]
        ⟨fun f => tabWf_retKeys _ _ (f.ret r held).1, fun f => ?_, fun _ r hr => (by cases hr), trivial, trivial⟩ (by rfl)
      exact List.foldlRecOn (motive := fun t => tabWf ({} : JobKey) t = true) _ _ f.jobKey
        (fun t ht e _ => tabWf_tput ({} : JobKey) t e.1 _ ht)
    clear_value u
    split
    · exact .sub (.after (within_reloadTables ..) opened) (by rfl)
    · exact opened.sub (by rfl)

theorem within_netOff (s : State) : Within [.out, .erqIn, .qp, .ethPort, .dict] s (netOff s) := by
  unfold netOff
  dsimp only
  exact .sub (.after (.of [.ethPort] ⟨(List.length_map ..).trans, trivial⟩ (by rfl)) (within_qpsError ..)) (by rfl)

theorem within_domainOff (s : State) (d : Nat) :
    Within [.out, .quad, .tile, .mesh, .port, .pwrDll, .pwrCfg, .pwr, .erqIn, .rtDirty, .fab, .ctxKey, .jobKey, .memKey,
        .gcmKey, .ret, .nonce, .kh, .qp, .ethPort, .dict] s (domainOff d s) := by
  unfold domainOff
  dsimp only
  exact .sub (.ite (.refl [] _) (.ite (.after (within_setDom ..) (within_secOff ..)) (.ite (.after (within_setDom ..)
      (.of [.memKey, .gcmKey] ⟨fun _ => rfl, fun _ => rfl, trivial⟩ (by rfl))) (.ite (.after (within_setDom ..) (.upd [.pwrDll,
      .pwrCfg] (by rfl))) (.ite (.after (within_setDom ..) (.each (fun i s => within_portOff ..) _ _)) (.ite (.after (within_setDom ..)
      (within_netOff ..)) (.after (within_setDom ..) (within_scrubQuad ..)))))))) (by rfl)

theorem within_domainOn (s : State) (d : Nat) :
    Within [.port, .pwr, .ctxKey, .jobKey, .memKey, .gcmKey, .ret, .kh] s (domainOn d s) := by
  unfold domainOn
  dsimp only
  exact .sub (.ite (.refl [] _) (.ite (.after (within_secOn ..) (within_setDom ..)) (.ite (.after (within_reloadTables ..)
      (.after (within_setDom ..) (.ite (.refl [] _) (.after (within_secOn ..) (within_setDom ..))))) (.ite (.after (.each
      (fun i s => within_portOn ..) _ _) (within_setDom ..)) (within_setDom ..))))) (by rfl)

theorem within_domainsTo (s : State) (v : Nat) :
    Within [.out, .quad, .tile, .mesh, .port, .pwrDll, .pwrCfg, .pwr, .erqIn, .rtDirty, .fab, .ctxKey, .jobKey, .memKey,
        .gcmKey, .ret, .nonce, .kh, .qp, .ethPort, .dict] s (domainsTo v s) := by
  unfold domainsTo
  dsimp only
  exact .sub (.after (.each (fun i s => within_domainOff ..) _ _) (.each (fun i s => within_domainOn ..) _ _)) (by rfl)

end Sys2Proof.Machine
end

section
/-!
PROOF. The parts that resets and boot reach.
-/
namespace Sys2Proof.Machine
open Host

/-- The parts that a Cold reset reaches: all but VBAT, the clock, the fuses and the flash banks. -/
abbrev coldParts : List Part :=
  [.free, .held, .scrub, .biv, .quad, .tile, .mesh, .hbm, .port, .cvu, .pwrDue, .pwrClk, .pwrDll, .pwrCfg, .pwrMc, .pwrRst,
   .pwr, .pmbErr, .tele, .erqIn, .erq, .msix, .msixCtl, .bars, .dep, .owned, .hif, .ctx, .queue, .mo, .ev, .obj, .txns,
   .tags, .quar, .hold, .txn] ++
  [.route, .rtDirty, .transitDrop, .loaded, .fab, .pairSt, .leaving, .cseq, .before, .pair, .ctxKey, .jobKey, .memKey,
   .gcmKey, .ret, .chassis, .dbg, .nonce, .khCtl, .rngOk, .jtag, .kh, .seals, .sealRows, .sealStage, .sealer, .replay, .rcv,
   .qp, .ethPort, .eth, .stat, .val, .challenge, .dict, .flash]

theorem within_coldReset (s : State) (cause : Nat) : Within coldParts s (coldReset cause s) := by
  refine ⟨rfl, allOk_iff.2 fun p _ => ?_⟩
  cases p
  case held => exact fun f => tabWf_filter _ _ _ f.held
  case bank0 => exact fun f => f.bank0
  case bank1 => exact fun f => f.bank1
  case revoked => exact BitVec.and_self
  case minSvn => exact Nat.le_refl _
  case tile => exact fun _ => ⟨rfl, fun _ he => (by cases he)⟩
  case ret => exact fun _ _ hr => (by cases hr)
  any_goals exact trivial
  all_goals exact fun _ => rfl

theorem within_effColdReset (s : State) (cause : Nat) : Within coldParts s (effColdReset cause s) := by
  unfold effColdReset
  exact .sub (.ite (within_coldReset ..) (.refl [] _)) (by rfl)

theorem within_startLoss (s : State) (cause : Nat) (core : Nat) :
    Within [.out, .quad, .tile, .mesh, .port, .pwrDll, .pwrCfg, .pwr, .erqIn, .hif, .rtDirty, .fab, .ctxKey, .jobKey, .memKey,
      .gcmKey, .ret, .nonce, .kh, .rcv, .qp, .ethPort, .dict] s (startLoss cause core s) := by
  unfold startLoss
  extract_lets u hif rcv v
  have switched : Within _ s u := within_domainsTo ..
  clear_value u
  have started : Within [.hif, .rcv] u v := .upd [.hif, .rcv] (by rfl)
  clear_value v
  exact .sub (.after (within_qpsError ..) (.after started switched)) (by rfl)

theorem within_lossPins (s : State) (cause : Nat) :
    Within [.pwrDll, .pwrCfg, .pwr, .msix, .msixCtl, .bars] s (lossPins cause s) := by
  unfold lossPins
  dsimp only
  exact .sub (.of [.pwrDll, .pwrCfg, .pwr, .msix, .msixCtl, .bars] ⟨trivial, trivial, trivial, fun _ => rfl, trivial, trivial,
      trivial⟩ (by rfl)) (by rfl)

theorem within_effHostLoss (s : State) (cause : Nat) :
    Within [.out, .quad, .tile, .mesh, .port, .pwrDll, .pwrCfg, .pwr, .erqIn, .msix, .msixCtl, .bars, .hif, .rtDirty, .fab,
      .ctxKey, .jobKey, .memKey, .gcmKey, .ret, .nonce, .kh, .rcv, .qp, .ethPort, .dict] s (effHostLoss cause s) := by
  unfold effHostLoss
  dsimp only
  exact .sub (.ite (within_lossPins ..) (.after (within_startLoss ..) (within_lossPins ..))) (by rfl)

theorem within_requestCoreReset (s : State) (core : Nat) :
    Within [.out, .quad, .tile, .mesh, .port, .pwrDll, .pwrCfg, .pwr, .erqIn, .hif, .rtDirty, .fab, .ctxKey, .jobKey, .memKey,
      .gcmKey, .ret, .nonce, .kh, .rcv, .qp, .ethPort, .dict] s (requestCoreReset core s) := by
  unfold requestCoreReset
  exact .sub (.ite (.refl [] _) (within_startLoss ..)) (by rfl)

theorem within_drainNow (s : State) : Within [.tile, .hbm, .hif, .seals, .sealRows] s (drainNow s) := by
  unfold drainNow
  extract_lets regs cuts s1 slots s2 s3 hif
  have stopped : Within [.tile] s s1 := .sub (.each (fun i s => within_stopTile ..) _ _) (by rfl)
  clear_value s1
  have closed : Within [.seals, .sealRows] s1 s2 := .of [.seals, .sealRows] ⟨fun _ => rfl, trivial, trivial⟩ (by rfl)
  clear_value s2
  have prepared : Within _ s2 s3 := .each (fun i s => .after (within_sealPrepare ..) (within_regSync ..)) _ _
  clear_value s3
  exact .sub (.after (.upd [.hif] (by rfl)) (.after prepared (.after closed stopped))) (by rfl)

theorem within_effDrainEnd (s : State) : Within [.tile, .hbm, .hif, .seals, .sealRows] s (effDrainEnd s) := by
  unfold effDrainEnd
  exact .sub (.ite (.refl [] _) (within_drainNow ..)) (by rfl)

theorem within_escalate (s : State) (core : Nat) : Within [.out, .port, .rtDirty, .fab, .rcv, .dict] s (escalate core s) := by
  unfold escalate
  dsimp only
  exact .sub (.ite (.refl [] _) (.ite (.upd [.rcv] (by rfl)) (.ite (.after (within_setAddr ..) (.after (within_emergency ..)
      (.upd [.rcv] (by rfl)))) (.after (within_lsaSync ..) (.after (within_emergency ..) (.upd [.rcv] (by rfl))))))) (by rfl)

theorem within_lossRecords (s : State) (cause : Nat) : Within [.out, .pwrDue, .dict] s (lossRecords cause s) := by
  unfold lossRecords
  dsimp only
  have sent := within_emergency s { code := errHostLinkDown, src := 4, detail := cause }
  exact .sub (.after (.upd [.pwrDue] (by rfl)) sent) (by rfl)

theorem within_pairReset (s : State) : Within [.port, .rtDirty, .fab, .pairSt, .before, .pair] s (pairReset s) := by
  unfold pairReset
  dsimp only
  exact .sub (.ite (.after (within_syncAnew ..) (.upd [.before] (by rfl))) (.upd [.before] (by rfl))) (by rfl)

/-- The parts that a Device-Core reset clears. -/
abbrev coreParts : List Part :=
  [.out, .held, .biv, .quad, .tile, .mesh, .port, .cvu, .pwrDll, .pwrCfg, .pwr, .erqIn, .erq, .msix, .msixCtl, .bars, .dep,
   .owned, .hif, .ctx, .queue, .mo, .ev, .obj, .txns, .tags, .quar] ++
  [.hold, .txn, .rtDirty, .fab, .pairSt, .before, .pair, .ctxKey, .jobKey, .memKey, .gcmKey, .ret, .dbg, .nonce, .khCtl,
   .rngOk, .kh, .seals, .sealRows, .sealStage, .sealer, .replay, .rcv, .qp, .ethPort, .eth, .dict]

theorem within_coreClear (s : State) : Within coreParts s (coreClear s) := by
  unfold coreClear
  extract_lets b secret dict s1 pwr hif biv obj kh sealer rcv dict' s2
  have aborted : Within _ s s1 := .after (within_abortHeld ..) (.upd [.dict] (by rfl))
  clear_value s1
  have cleared : Within coreParts s1 s2 := by
    refine ⟨rfl, allOk_iff.2 fun p listed => ?_⟩
    cases p
    case held => exact fun f => tabWf_filter _ _ _ f.held
    case tile => exact fun _ => ⟨rfl, fun _ he => (by cases he)⟩
    case ret =>
      intro _ r hr
      obtain rfl := Option.some.inj hr
      exact ⟨rfl, rfl⟩
    any_goals exact trivial
    any_goals exact fun _ => rfl
    any_goals exact id
    all_goals exact absurd listed (by decide)
  clear_value s2
  exact .sub (.after (within_pairReset ..) (.after (.each (fun i s => within_portCoreReset ..) _ _) (.after cleared aborted))) (by rfl)

/-- The parts that a reset reaches. -/
abbrev resetParts : List Part := coldParts ++ [.out]

theorem within_coreReset (s : State) (core : Nat) : Within resetParts s (coreReset core s) := by
  unfold coreReset
  split
  · exact (within_coldReset ..).sub (by rfl)
  · extract_lets cause u
    have cleared : Within coreParts s u := within_coreClear ..
    clear_value u
    exact .sub (.after (within_lossRecords ..) (.after (within_escalate ..) (.after (.upd [.pwrRst] (by rfl)) cleared))) (by rfl)

theorem within_sealAndReset (s : State) : Within resetParts s (sealAndReset s) := by
  unfold sealAndReset
  dsimp only
  exact .sub (.after (within_coreReset ..) (.after (within_zeroKeys ..) (.after (.each (fun i s => within_clearRec ..) _ _)
      (.each (fun i s => within_sealFinish ..) _ _)))) (by rfl)

theorem within_effSealDone (s : State) : Within resetParts s (effSealDone s) := by
  unfold effSealDone
  exact .sub (.ite (within_sealAndReset ..) (.refl [] _)) (by rfl)

theorem within_finishLoss (s : State) : Within resetParts s (finishLoss s) := by
  unfold finishLoss
  exact .sub (.after (within_sealAndReset ..) (.ite (within_drainNow ..) (.refl [] _))) (by rfl)

theorem within_effCoreReset (s : State) (core : Nat) : Within resetParts s (effCoreReset core s) := by
  unfold effCoreReset
  exact .sub (.ite (.refl [] _) (.after (within_finishLoss ..) (within_requestCoreReset ..))) (by rfl)

theorem within_effQuadReset (s : State) (q : Nat) : Within [.quad, .tile, .mesh] s (effQuadReset q s) := by
  unfold effQuadReset
  exact .sub (.ite (within_scrubQuad ..) (.refl [] _)) (by rfl)

theorem within_sendHb (s : State) : Within [.out, .dict] s (sendHb s) := by
  unfold sendHb
  dsimp only
  exact .sub (.after (within_canSend ..) (.upd [.dict] (by rfl))) (by rfl)

theorem within_busJoin (s : State) : Within [.out, .dict] s (busJoin s) := by
  unfold busJoin
  dsimp only
  exact .sub (.after (.foldl (fun s x => within_sendEmergency ..) _ _) (.after (.upd [.dict] (by rfl)) (.after (within_sendHb ..)
      (.upd [.dict] (by rfl))))) (by rfl)

theorem within_linkSettings (s : State) : Within [.port] s (linkSettings s) := by
  unfold linkSettings
  dsimp only
  exact .sub (.each (fun i s => within_setPort ..) _ _) (by rfl)

theorem within_reportTrip (s : State) : Within [.out, .vb, .pwrDue, .dict] s (reportTrip s) := by
  unfold reportTrip
  dsimp only
  split
  · exact .refl _ _
  · exact .sub (.after (within_owe ..) (.upd [.vb] (by rfl))) (by rfl)

theorem within_aonUp (s : State) :
    Within [.out, .vb, .port, .pwrDue, .pwrMc, .pwr, .tele, .rtDirty, .fab, .pair, .chassis, .val, .dict, .bank0, .bank1, .minSvn,
      .flash, .capC, .shift, .rtc] s (aonUp s) := by
  unfold aonUp
  extract_lets kh keyed loaded raised boots counted linked pwr pair dict rtc set routed tripped owed parked pwr' tele run driven
  have h1 : Within [.chassis] s keyed := .upd [.chassis] (by rfl)
  have h2 : Within _ keyed loaded :=
    .after (within_loadValues ..) (.after (within_settleGens ..) (within_mergeCopies ..))
  clear_value keyed
  have h3 : Within [.minSvn] loaded raised := .sub (.ite (.refl [] _) (within_raiseSvn ..)) (by rfl)
  clear_value loaded
  have h4 : Within _ raised linked := .after (within_linkSettings ..) (within_persist ..)
  clear_value raised linked
  have h5 : Within [.dict, .pair, .pwr, .pwrMc, .capC, .shift, .rtc] linked set := by
    cases h : linked.rtc.locked
    · exact .upd [.dict, .pair, .pwr, .pwrMc, .capC, .shift, .rtc] (by simp only [set, rtc, h]; rfl)
    · exact .upd [.dict, .pair, .pwr, .pwrMc, .capC, .shift, .rtc] (by simp only [set, rtc, h]; rfl)
  clear_value set
  have h6 : Within _ set tripped := .after (within_reportTrip ..) (.ite (within_setAddr ..) (within_lsaSync ..))
  clear_value tripped
  have h7 : Within _ tripped owed := .ite (within_owe ..) (.refl [] _)
  clear_value owed
  have h8 : Within _ owed parked := .ite (within_emergency ..) (.refl [] _)
  clear_value parked
  have h9 : Within _ parked driven :=
    .after (within_stbyDrive ..) (.after (within_emitAll ..) (.upd [.pwr, .tele] (by rfl)))
  clear_value driven
  have all := h9.after (h8.after (h7.after (h6.after (h5.after (h4.after (h3.after (h2.after h1)))))))
  split
  · exact .sub (.after (within_busJoin ..) all) (by rfl)
  · exact all.sub (by rfl)

theorem within_hostUp (s : State) :
    Within [.out, .quad, .tile, .mesh, .port, .pwrDll, .pwrCfg, .pwr, .erqIn, .rtDirty, .fab, .pair, .ctxKey, .jobKey, .memKey,
      .gcmKey, .ret, .nonce, .kh, .qp, .ethPort, .dict] s (hostUp s) := by
  unfold hostUp
  dsimp only
  exact .sub (.ite (.after (within_domainsTo ..) (.after (.upd [.pwr] (by rfl)) (.ite (.after (within_mirrorAll ..) (.after (.each
      (fun i s => within_domainOn ..) _ _) (.upd [.pwr] (by rfl)))) (.after (.each (fun i s => within_domainOn ..) _ _) (.upd [.pwr] (by rfl))))))
      (.ite (.after (within_mirrorAll ..) (.after (.each (fun i s => within_domainOn ..) _ _) (.upd [.pwr] (by rfl)))) (.after (.each
      (fun i s => within_domainOn ..) _ _) (.upd [.pwr] (by rfl))))) (by rfl)

theorem within_effBootStage (s : State) :
    Within [.out, .scrub, .vb, .quad, .tile, .mesh, .hbm, .port, .pwrDue, .pwrDll, .pwrCfg, .pwrMc, .pwr, .tele, .erqIn,
      .rtDirty, .fab, .pair, .ctxKey, .jobKey, .memKey, .gcmKey, .ret, .chassis, .nonce, .kh, .qp, .ethPort, .val, .dict,
      .bank0, .bank1, .minSvn, .flash, .capC, .shift, .rtc] s (effBootStage s) := by
  unfold effBootStage
  dsimp only
  split
  · exact .refl _ _
  · split
    · have started : Within [.pwrMc] s { s with pwr.mcAt := s.now } := .upd [.pwrMc] (by rfl)
      exact .sub (.ite (.after (within_imageSelect ..) started) (.after (within_domainOn ..) (.after (.upd [.pwr] (by rfl))
        (.after (within_flashProbe _) started)))) (by rfl)
    · exact .sub (within_aonUp ..) (by rfl)
    · exact .sub (.ite (.after (.upd [.pwr] (by rfl)) (.each (fun i s => within_domainOn ..) _ _)) (.after (.of [.scrub, .hbm,
        .pwr] ⟨fun _ => rfl, fun _ => rfl, trivial, trivial⟩ (by rfl)) (.each (fun i s => within_domainOn ..) _ _))) (by rfl)
    · exact .sub (.ite (within_hostUp ..) (.after (.each (fun i s => within_domainOn ..) _ _) (.upd [.pwr] (by rfl)))) (by rfl)
    · exact .sub (within_hostUp ..) (by rfl)
    · exact .refl _ _

end Sys2Proof.Machine
end

section
/-!
PROOF. The parts that the Keyholder reach.
-/
namespace Sys2Proof.Machine
open Host

theorem within_secCmd {l : List Part} {act : State → State} (h : ∀ s, Within l s (act s)) (s : State) :
    Within l s (secCmd act s) := by
  unfold secCmd
  split
  · exact .refl _ _
  · exact h s

/-- A key command reaches what its completion reaches, and the list of those in progress. -/
theorem within_secStart {l : List Part} {c : KhCmd} (h : ∀ s, Within l s (khFinish c s)) (s : State) (dur : Nat) :
    Within ([.khCtl, .kh] ++ l) s (secStart c dur s) := by
  unfold secStart
  split
  · exact (h s).right
  · exact Within.left (.sub (.after (within_khQueue ..) (.upd [.khCtl] (by rfl))) (by rfl))

theorem within_keyCmd {l : List Part} {bad : State → Option Nat} {c : State → KhCmd} {dur : Nat}
    (h : ∀ k s, Within l s (khFinish (c k) s)) (s : State) : Within ([.khCtl, .kh] ++ l) s (keyCmd bad c dur s) := by
  unfold keyCmd
  refine within_secCmd (fun s => ?_) s
  have ended (code : Nat) : Within ([.khCtl, .kh] ++ l) s (secEnd code s) := Within.left ((within_secEnd ..).sub (by rfl))
  split
  · exact ended _
  · split
    · exact ended _
    · split
      · exact ended _
      · exact within_secStart (h s) ..

theorem within_effJkInstall (s : State) (slot snum dur : Nat) : Within ([.khCtl, .kh] ++ [.jobKey, .gcmKey, .khCtl]) s
    (effJkInstall slot snum dur s) := by
  unfold effJkInstall
  exact within_keyCmd (fun k s => .sub (.after (within_secEnd ..) (within_jkInstalled ..)) (by rfl)) s

theorem within_effJkErase (s : State) (slot dur : Nat) : Within ([.khCtl, .kh] ++ [.jobKey, .gcmKey, .ret, .khCtl]) s
    (effJkErase slot dur s) := by
  unfold effJkErase
  exact within_keyCmd (fun k s => .sub (.after (within_secEnd ..) (within_zeroJobKey ..)) (by rfl)) s

theorem within_effChassisSet (s : State) (dur : Nat) : Within ([.khCtl, .kh] ++ [.chassis, .wrapped, .khCtl]) s
    (effChassisSet dur s) := by
  unfold effChassisSet
  exact within_keyCmd (fun k s => .sub (.after (within_secEnd ..) (within_installChassis ..)) (by rfl)) s

theorem within_effSecUnknown (s : State) : Within [.khCtl] s (effSecUnknown s) := by
  unfold effSecUnknown
  exact within_secCmd (fun s => within_secEnd ..) s

theorem within_dbgCmd {l : List Part} {act : State → Nat × Bytes × State} (h : ∀ s, Within l s (act s).2.2) (jtag : Bool)
    (s : State) : Within ([.out, .khCtl] ++ l) s (dbgCmd jtag act s) := by
  unfold dbgCmd
  split
  · split
    · exact .refl _ _
    split
    · exact Within.left ((within_emit ..).sub (by rfl))
    · exact (h s).right.trans (Within.left ((within_emit ..).sub (by rfl)))
  · refine within_secCmd (fun s => (h s).right.trans (Within.left ?_)) s
    dsimp only
    split
    · exact (within_secEnd ..).sub (by rfl)
    · exact .sub (.after (within_secEnd ..) (.upd [.khCtl] (by rfl))) (by rfl)

theorem within_effDbgChallenge (s : State) (jtag : Bool) : Within ([.out, .khCtl] ++ [.free, .nonce]) s
    (effDbgChallenge jtag s) := by
  unfold effDbgChallenge
  refine within_dbgCmd (fun s => ?_) jtag s
  split
  · exact .refl _ _
  · exact .sub (.after (.upd [.nonce] (by rfl)) (within_drawKey ..)) (by rfl)

theorem within_evictAll (s : State) (cause : Nat) :
    Within [.free, .out, .vb, .biv, .quad, .tile, .mesh, .hbm, .port, .erqIn, .msix, .hif, .ctx, .queue, .ev,
      .obj, .txns, .tags, .quar, .txn, .pair, .ctxKey, .jobKey, .memKey, .gcmKey, .ret, .khCtl, .kh, .seals, .sealRows,
      .sealer, .rcv, .qp, .ethPort, .stat, .dict] s (evictAll cause s) := by
  unfold evictAll
  dsimp only
  exact .sub (.after (.upd [.vb] (by rfl)) (.after (within_zeroAll ..) (.after (.each (fun i s => within_ctxAbort ..) _ _) (.after
      (.foldl (fun s x => within_khFail ..) _ _) (.upd [.kh] (by rfl)))))) (by rfl)

theorem within_effDbgGrant (s : State) (jtag : Option Bytes) : Within (resetParts ++ [.vb]) s (effDbgGrant jtag s) := by
  unfold effDbgGrant
  refine .sub (within_dbgCmd (l := resetParts ++ [.vb]) (fun s => ?_) jtag.isSome s) (by rfl)
  extract_lets g kh u evicted kh' kh''
  split
  · exact .refl _ _
  · next n _ =>
    have consumed : Within [.nonce] s u := .upd [.nonce] (by rfl)
    have evict : Within _ u evicted := within_evictAll ..
    split
    · exact consumed.sub (by rfl)
    split
    · exact consumed.sub (by rfl)
    split
    · exact .sub (.after (.upd [.dbg] (by rfl)) (.after evict consumed)) (by rfl)
    · exact .sub (.after (.upd [.dbg] (by rfl)) consumed) (by rfl)

theorem within_effDbgLower (s : State) (jtag : Bool) : Within resetParts s (effDbgLower jtag s) := by
  unfold effDbgLower
  generalize (if jtag then _ else _) = reached
  split
  · exact (within_coldReset ..).sub (by rfl)
  · refine .sub (within_dbgCmd (l := [.dbg]) (fun s => ?_) jtag s) (by rfl)
    split
    · exact .refl _ _
    · exact .upd [.dbg] (by rfl)

theorem within_effTamper (s : State) (cause : Nat) :
    Within [.free, .held, .scrub, .vb, .biv, .quad, .tile, .mesh, .hbm, .port, .cvu, .pwrDue, .pwrClk, .pwrDll, .pwrCfg,
      .pwrMc, .pwrRst, .pwr, .pmbErr, .tele, .erqIn, .erq, .msix, .msixCtl, .bars, .dep, .owned, .hif, .ctx, .queue, .mo, .ev,
      .obj, .txns, .tags, .quar, .hold, .txn, .route, .rtDirty, .transitDrop, .loaded, .fab, .pairSt, .leaving, .cseq, .before,
      .pair, .ctxKey, .jobKey, .memKey, .gcmKey, .ret, .chassis, .dbg, .nonce, .khCtl, .rngOk, .jtag, .kh, .seals, .sealRows,
      .sealStage, .sealer, .replay, .rcv, .qp, .ethPort, .eth, .stat, .val, .challenge, .dict, .flash, .rtc]
      s (effTamper cause s) := by
  unfold effTamper
  dsimp only
  exact .sub (.ite (.refl [] _) (.after (within_coldReset ..) (.after (within_faultCapture ..) (.after (.upd [.vb, .chassis] (by rfl))
      (within_zeroAll ..))))) (by rfl)

theorem within_effEntropyFail (s : State) : Within [.rngOk] s (effEntropyFail s) := by
  unfold effEntropyFail
  dsimp only
  exact .sub (.upd [.rngOk] (by rfl)) (by rfl)

end Sys2Proof.Machine
end

section
/-!
PROOF. The parts that recovery reach.
-/
namespace Sys2Proof.Machine
open Host

theorem within_joinScope (s : State) (q : Nat) : Within [.rcv] s (joinScope q s) := by
  unfold joinScope
  extract_lets mask rcv u
  have joined : Within [.rcv] s u := .upd [.rcv] (by rfl)
  clear_value u
  split
  · exact joined
  · split
    · exact joined
    · exact .sub (.after (.upd [.rcv] (by rfl)) joined) (by rfl)

theorem within_joinTile (s : State) (t : Nat) : Within [.rcv] s (joinTile t s) := by
  unfold joinTile
  dsimp only
  exact .sub (.ite (.refl [] _) (.after (within_joinScope ..) (.upd [.rcv] (by rfl)))) (by rfl)

theorem within_abseilBegin (s : State) (trigger : Nat) (first : Nat) : Within [.rcv] s (abseilBegin trigger first s) := by
  unfold abseilBegin
  dsimp only
  exact .sub (.upd [.rcv] (by rfl)) (by rfl)

theorem within_abseilStart (l : List Nat) (s : State) : Within [.rcv] s (abseilStart l s) := by
  cases l with
  | nil => exact .refl _ _
  | cons t r => exact .sub (.after (.foldl (fun s u => within_joinTile ..) (t :: r) _) (within_abseilBegin ..)) (by rfl)

theorem within_abseilEnd (s : State) : Within [.rcv] s (abseilEnd s) := by
  unfold abseilEnd
  dsimp only
  exact .sub (.after (within_abseilStart ..) (.upd [.rcv] (by rfl))) (by rfl)

theorem within_writeHeader (s : State) : Within [.hbm] s (writeHeader s) := by
  unfold writeHeader
  exact .sub (within_hbmWrite ..) (by rfl)

theorem within_writeSample (s : State) (t : Nat) : Within [.hbm] s (writeSample t s) := by
  unfold writeSample
  split
  · exact .refl _ _
  · exact .sub (within_plainWrite ..) (by rfl)

theorem within_queueTile (s : State) (t : Nat) : Within [.tile, .rcv] s (queueTile t s) := by
  unfold queueTile
  dsimp only
  exact .sub (.ite (.refl [] _) (.after (within_setTile _ _ _ fun f => f.tileOf _) (.upd [.rcv] (by rfl)))) (by rfl)

/-- The conviction, or its absence, is counted. -/
theorem within_convicted (s : State) (conv : Option Nat) :
    Within [.free, .out, .quad, .tile, .mesh, .hbm, .port, .erqIn, .msix, .hif, .ctx, .queue, .ev, .txns, .tags, .quar,
        .txn,
      .pair, .seals, .sealRows, .sealer, .rcv, .qp, .ethPort, .stat, .dict] s (match conv with
      | some c => ctxAbort c errConvicted { s with rcv.convictions := s.rcv.convictions + 1, rcv.noConv := [] }
      | none => { s with rcv.noConv := s.now :: recentNoConv s }) := by
  cases conv with
  | none => exact .sub (l := [.rcv]) (.upd [.rcv] (by rfl)) (by rfl)
  | some c => exact .sub (.after (within_ctxAbort ..) (.upd [.rcv] (by rfl))) (by rfl)

theorem within_conclude (s : State) (conv : Option Nat) :
    Within ([.free, .out, .quad, .tile, .mesh, .hbm, .port, .pwrDll, .pwrCfg, .pwr, .erqIn, .msix, .hif, .ctx, .queue,
        .ev] ++
      [.txns, .tags, .quar, .txn, .rtDirty, .fab, .pair, .ctxKey, .jobKey, .memKey, .gcmKey, .ret, .nonce, .kh, .seals, .sealRows,
      .sealer, .rcv, .qp, .ethPort, .stat, .dict]) s (conclude conv s) := by
  unfold conclude
  extract_lets sus rcv headed rcv' decided ended rcv''
  have head : Within _ s headed := .after (within_writeHeader ..) (.upd [.rcv] (by rfl))
  clear_value headed
  have decide : Within _ headed decided := within_convicted headed conv
  clear_value decided
  have cut : Within _ decided ended :=
    .foldl (fun s x => .ite (.after (within_jobTry ..) (within_cutJob ..)) (.refl [] _)) _ _
  clear_value ended
  have all := cut.after (decide.after head)
  split
  · exact .sub (.after (within_requestCoreReset ..) (.after (.upd [.rcv] (by rfl)) all)) (by rfl)
  · exact .sub (.after (within_abseilEnd ..) all) (by rfl)

theorem within_replayHang (s : State) (q : Nat) :
    Within [.free, .out, .quad, .tile, .mesh, .hbm, .port, .pwrDll, .pwrCfg, .pwr, .erqIn, .msix, .hif, .ctx, .queue,
      .ev, .txns, .tags, .quar, .txn, .rtDirty, .fab, .pair, .ctxKey, .jobKey, .memKey, .gcmKey, .ret, .nonce, .kh, .seals,
      .sealRows, .sealer, .rcv, .qp, .ethPort, .stat, .dict] s (replayHang q s) := by
  unfold replayHang
  split
  · exact .refl _ _
  · exact .sub (within_conclude ..) (by rfl)

theorem within_effTileWatchdog (s : State) (t : Nat) :
    Within [.free, .out, .quad, .tile, .mesh, .hbm, .port, .pwrDll, .pwrCfg, .pwr, .erqIn, .msix, .hif, .ctx, .queue,
      .ev, .txns, .tags, .quar, .txn, .rtDirty, .fab, .pair, .ctxKey, .jobKey, .memKey, .gcmKey, .ret, .nonce, .kh, .seals,
      .sealRows, .sealer, .rcv, .qp, .ethPort, .stat, .dict] s (effTileWatchdog t s) := by
  unfold effTileWatchdog
  dsimp only
  exact .sub (.ite (.refl [] _) (.ite (within_abseilStart ..) (.ite (within_joinTile ..) (.ite (within_replayHang ..) (.ite
      (.refl [] _) (within_queueTile ..)))))) (by rfl)

theorem within_suspectHalt (s : State) (x : Suspect) : Within [.queue] s (suspectHalt x s) := by
  unfold suspectHalt
  dsimp only
  split
  · exact .refl _ _
  · exact .sub (within_setQueue ..) (by rfl)

theorem within_effDrainStop (s : State) :
    Within [.free, .out, .quad, .tile, .hbm, .port, .erqIn, .msix, .hif, .queue, .ev, .txns, .tags, .quar, .txn, .pair, .seals,
      .sealRows, .sealer, .rcv, .stat, .dict] s (effDrainStop s) := by
  unfold effDrainStop
  dsimp only
  exact .sub (.ite (.refl [] _) (.after (.upd [.rcv] (by rfl)) (.after (within_endTxns ..) (.after (.each
      (fun i s => within_stopTile ..) _ _) (.after (.foldl (fun s x => within_suspectHalt ..) _ _) (.after (.each
      (fun i s => within_hbmWrite ..) _ _) (.after (within_drawn ..) (.after (within_drawn ..) (.after (.upd [.rcv] (by rfl)) (.each
      (fun i s => within_effJobComplete ..) _ _)))))))))) (by rfl)

theorem within_recordEnd (s : State) :
    Within [.free, .out, .quad, .tile, .mesh, .hbm, .port, .erqIn, .msix, .hif, .ctx, .queue, .ev, .txns, .tags, .quar,
      .txn, .pair, .seals, .sealRows, .sealer, .rcv, .qp, .ethPort, .stat, .dict] s (recordEnd s) := by
  unfold recordEnd
  dsimp only
  split
  · exact .refl _ _
  · split
    · exact .sub (.after (within_abseilEnd ..) (within_ctxAbort ..)) (by rfl)
    · exact .sub (.upd [.rcv] (by rfl)) (by rfl)

theorem within_effSampleDone (s : State) :
    Within [.free, .out, .quad, .tile, .mesh, .hbm, .port, .erqIn, .msix, .hif, .ctx, .queue, .ev, .txns, .tags, .quar,
      .txn, .pair, .seals, .sealRows, .sealer, .rcv, .qp, .ethPort, .stat, .dict] s (effSampleDone s) := by
  unfold effSampleDone
  dsimp only
  exact .sub (.ite (.refl [] _) (.after (within_recordEnd ..) (.after (.upd [.rcv] (by rfl)) (.after (.foldl
      (fun s x => within_raise ..) _ _) (.after (within_writeHeader ..) (.after (.each (fun i s => within_writeSample ..) _ _)
      (.upd [.rcv] (by rfl)))))))) (by rfl)

theorem within_replayTake {s t : State} {q : Nat} (h : replayTake s = some (q, t)) : Within [.queue, .rcv] s t := by
  obtain ⟨⟨x, j⟩, -, e⟩ := Option.map_eq_some_iff.1 h
  obtain ⟨-, rfl⟩ := Prod.mk.inj e
  exact .sub (.after (.upd [.rcv] (by rfl)) (within_setQueue ..)) (by rfl)

theorem within_resetScope (s : State) : Within [.quad, .tile, .mesh, .rcv, .stat] s (resetScope s) := by
  unfold resetScope
  dsimp only
  exact .sub (.ite (.refl [] _) (.after (.upd [.rcv] (by rfl)) (.after (.each (fun i s => within_scrubQuad ..) _ _) (.each
      (fun i s => within_freeQuads ..) _ _)))) (by rfl)

theorem within_replayNext {l : List Part} {act : Nat → State → State} (h : ∀ q s, Within l s (act q s)) (s : State) :
    Within ([.quad, .tile, .mesh, .queue, .rcv, .stat] ++ l) s (replayNext act s) := by
  unfold replayNext
  have rest : Within ([.quad, .tile, .mesh, .queue, .rcv, .stat] ++ l) s (resetScope s) := Within.left ((within_resetScope ..).sub (by rfl))
  extract_lets u
  change Within ([.quad, .tile, .mesh, .queue, .rcv, .stat] ++ l) s u at rest
  clear_value u
  split
  · split
    · next q v taken => exact rest.trans ((Within.left ((within_replayTake taken).sub (by rfl))).trans (h ..).right)
    · exact rest
  · exact rest

theorem within_effResetDone (s : State) (hr : List Cell) :
    Within [.free, .out, .quad, .tile, .mesh, .hbm, .port, .erqIn, .msix, .hif, .ctx, .queue, .ev, .txns, .tags, .quar,
      .txn, .pair, .seals, .sealRows, .sealer, .rcv, .qp, .ethPort, .stat, .dict] s (effResetDone hr s) := by
  unfold effResetDone
  exact .sub (.after (within_replayNext (fun _ _ => within_runChecks ..) _) (within_recordEnd ..)) (by rfl)

theorem within_effReplayEnd (s : State) :
    Within [.free, .out, .quad, .tile, .mesh, .hbm, .port, .pwrDll, .pwrCfg, .pwr, .erqIn, .msix, .hif, .ctx, .queue,
      .ev, .txns, .tags, .quar, .txn, .rtDirty, .fab, .pair, .ctxKey, .jobKey, .memKey, .gcmKey, .ret, .nonce, .kh, .seals,
      .sealRows, .sealer, .rcv, .qp, .ethPort, .stat, .dict] s (effReplayEnd s) := by
  unfold effReplayEnd
  split
  · exact .refl _ _
  · split
    · exact .sub (within_conclude ..) (by rfl)
    · exact .sub (within_conclude ..) (by rfl)

theorem within_effReplayLimit (s : State) :
    Within [.free, .out, .quad, .tile, .mesh, .hbm, .port, .pwrDll, .pwrCfg, .pwr, .erqIn, .msix, .hif, .ctx, .queue,
      .ev, .txns, .tags, .quar, .txn, .rtDirty, .fab, .pair, .ctxKey, .jobKey, .memKey, .gcmKey, .ret, .nonce, .kh, .seals,
      .sealRows, .sealer, .rcv, .qp, .ethPort, .stat, .dict] s (effReplayLimit s) := by
  unfold effReplayLimit
  split
  · split
    · exact .sub (within_replayHang ..) (by rfl)
    · exact .refl _ _
  · exact .refl _ _

theorem within_effAbseilAbandon (s : State) :
    Within [.out, .quad, .tile, .mesh, .port, .pwrDll, .pwrCfg, .pwr, .erqIn, .hif, .rtDirty, .fab, .ctxKey, .jobKey, .memKey,
      .gcmKey, .ret, .nonce, .kh, .rcv, .qp, .ethPort, .dict] s (effAbseilAbandon s) := by
  unfold effAbseilAbandon
  exact .sub (.ite (within_requestCoreReset ..) (.refl [] _)) (by rfl)

theorem within_effJobWatchdog (s : State) (q : Nat) :
    Within [.free, .out, .quad, .tile, .mesh, .hbm, .port, .pwrDll, .pwrCfg, .pwr, .erqIn, .msix, .hif, .ctx, .queue,
      .ev, .txns, .tags, .quar, .txn, .rtDirty, .fab, .pair, .ctxKey, .jobKey, .memKey, .gcmKey, .ret, .nonce, .kh, .seals,
      .sealRows, .sealer, .rcv, .qp, .ethPort, .stat, .dict] s (effJobWatchdog q s) := by
  unfold effJobWatchdog
  dsimp only
  split
  · exact .refl _ _
  · exact .sub (.ite (.refl [] _) (.ite (within_replayHang ..) (.ite (.after (within_joinScope ..) (.after (.upd [.rcv] (by rfl)) (.after
      (within_drawn ..) (within_abseilBegin ..)))) (.ite (.refl [] _) (within_ctxAbort ..))))) (by rfl)

theorem within_timeoutAgg (s : State) (c : Nat) (n : Nat) (jobId : Nat) (dtag : Nat) :
    Within [.txn] s (timeoutAgg c n jobId dtag s).2 := by
  unfold timeoutAgg
  dsimp only
  split
  · dsimp only
    exact .sub (.upd [.txn] (by rfl)) (by rfl)
  · split
    · dsimp only
      exact .sub (.upd [.txn] (by rfl)) (by rfl)
    · split
      · dsimp only
        exact .sub (.upd [.txn] (by rfl)) (by rfl)
      · dsimp only
        exact .sub (.upd [.txn] (by rfl)) (by rfl)

theorem within_effLinkTimeout (s : State) (tag : Nat) :
    Within [.out, .tile, .erqIn, .queue, .txns, .tags, .quar, .txn, .sealRows, .dict] s (effLinkTimeout tag s) := by
  unfold effLinkTimeout
  split
  · exact .refl _ _
  split
  · exact .refl _ _
  · next g _ _ x _ =>
    split
    · exact .refl _ _
    · have counted := within_timeoutAgg s x.ctx (tagsOf s g.txn).length x.jobId x.dtag
      extract_lets n r u
      have told : Within [.out, .erqIn, .txn, .dict] s u := by
        rcases answered : r.1 with _ | ⟨cnt, jobId, dtag⟩ <;> simp only [u, answered]
        · exact counted.sub (by rfl)
        · exact .sub (.after (within_raise ..) counted) (by rfl)
      clear_value u
      exact .sub (.after (within_endTxn ..) told) (by rfl)

theorem within_effMcWatchdog (s : State) :
    Within [.free, .held, .scrub, .vb, .biv, .quad, .tile, .mesh, .hbm, .port, .cvu, .pwrDue, .pwrClk, .pwrDll, .pwrCfg,
      .pwrMc, .pwrRst, .pwr, .pmbErr, .tele, .erqIn, .erq, .msix, .msixCtl, .bars, .dep, .owned, .hif, .ctx, .queue, .mo, .ev,
      .obj, .txns, .tags, .quar, .hold, .txn, .route, .rtDirty, .transitDrop, .loaded, .fab, .pairSt, .leaving, .cseq, .before,
      .pair, .ctxKey, .jobKey, .memKey, .gcmKey, .ret, .chassis, .dbg, .nonce, .khCtl, .rngOk, .jtag, .kh, .seals, .sealRows,
      .sealStage, .sealer, .replay, .rcv, .qp, .ethPort, .eth, .stat, .val, .challenge, .dict, .flash, .rtc]
      s (effMcWatchdog s) := by
  unfold effMcWatchdog
  dsimp only
  exact .sub (.ite (.refl [] _) (.after (within_coldReset ..) (.after (within_faultCapture ..) (.upd [.vb] (by rfl))))) (by rfl)

theorem within_effMcKick (s : State) (v : BitVec 16) : Within [.pwrMc] s (effMcKick v s) := by
  unfold effMcKick
  dsimp only
  exact .sub (.ite (.upd [.pwrMc] (by rfl)) (.refl [] _)) (by rfl)

theorem within_effMcPeriod (s : State) (v : BitVec 16) : Within [.pwr] s (effMcPeriod v s) := by
  unfold effMcPeriod
  dsimp only
  exact .sub (.ite (.upd [.pwr] (by rfl)) (.refl [] _)) (by rfl)

theorem within_exportEnd (s : State) (code : Nat) : Within [.rcv] s (exportEnd code s) := by
  unfold exportEnd
  dsimp only
  exact .sub (.upd [.rcv] (by rfl)) (by rfl)

theorem within_effExportGo (s : State) : Within [.free, .out, .hif, .rcv] s (effExportGo s) := by
  unfold effExportGo
  dsimp only
  exact .sub (.ite (.refl [] _) (.ite (within_exportEnd ..) (.ite (within_exportEnd ..) (.after (within_hostPieces ..) (.after
      (within_drawn ..) (.upd [.rcv] (by rfl))))))) (by rfl)

end Sys2Proof.Machine
end

section
/-!
PROOF. The parts that reads of the dictionary reach.
-/
namespace Sys2Proof.Machine
open Host

theorem within_challengeRead (s : State) : Within [.free, .challenge] s (challengeRead s).2.2 := by
  unfold challengeRead
  dsimp only
  split
  · exact .refl _ _
  · dsimp only
    exact .sub (.after (.upd [.challenge] (by rfl)) (within_drawKey ..)) (by rfl)

theorem within_dictRead (s : State) (index sub len : Nat) :
    Within [.free, .challenge, .capC] s (dictRead index sub len s).2.2.2 := by
  unfold dictRead
  split
  · exact .refl _ _
  · split
    · exact .refl _ _
    split
    · exact .refl _ _
    split
    · exact .refl _ _
    split
    · exact (within_rtcCaptureNow ..).sub (by rfl)
    split
    · exact (within_challengeRead ..).sub (by rfl)
    · exact (within_drawn ..).sub (by rfl)

end Sys2Proof.Machine
end

section
/-!
PROOF. The parts that the power controller reach.
-/
namespace Sys2Proof.Machine
open Host

theorem within_domEnd (s : State) (code : Nat) : Within [.pwr] s (domEnd code s) := by
  unfold domEnd
  dsimp only
  exact .sub (.upd [.pwr] (by rfl)) (by rfl)

theorem within_deferReq (s : State) (g : Gating) (v : Nat) : Within [.pwr] s (deferReq g v s) := by
  unfold deferReq
  dsimp only
  exact .sub (.upd [.pwr] (by rfl)) (by rfl)

theorem within_domRequest (s : State) (v : Nat) (host : Bool) :
    Within [.out, .quad, .tile, .mesh, .port, .pwrDll, .pwrCfg, .pwr, .erqIn, .rtDirty, .fab, .ctxKey, .jobKey, .memKey,
      .gcmKey, .ret, .nonce, .kh, .qp, .ethPort, .dict] s (domRequest v host s) := by
  unfold domRequest
  dsimp only
  exact .sub (.ite (.refl [] _) (.ite (within_domEnd ..) (.ite (within_domEnd ..) (.ite (.after (within_deferReq ..)
      (.upd [.pwr] (by rfl))) (.after (within_domEnd ..) (within_domainsTo ..)))))) (by rfl)

theorem within_effDomReq (s : State) (v : Nat) (host : Bool) :
    Within [.out, .quad, .tile, .mesh, .port, .pwrDll, .pwrCfg, .pwr, .erqIn, .rtDirty, .fab, .ctxKey, .jobKey, .memKey,
      .gcmKey, .ret, .nonce, .kh, .qp, .ethPort, .dict] s (effDomReq v host s) := by
  unfold effDomReq
  exact .sub (.ite (.refl [] _) (within_domRequest ..)) (by rfl)

theorem within_effDomWrite (s : State) (w : RegWr) (host : Bool) :
    Within [.out, .held, .quad, .tile, .mesh, .port, .pwrDll, .pwrCfg, .pwr, .erqIn, .rtDirty, .fab, .ctxKey, .jobKey, .memKey,
      .gcmKey, .ret, .nonce, .kh, .qp, .ethPort, .dict] s (effDomWrite w host s) := by
  unfold effDomWrite
  exact .sub (.ite (.refl [] _) (within_woWrite (fun _ _ => within_effDomReq ..) _)) (by rfl)

theorem within_stateFail (s : State) (code : Nat) : Within [.pwr] s (stateFail code s) := by
  unfold stateFail
  dsimp only
  exact .sub (.upd [.pwr] (by rfl)) (by rfl)

theorem within_stateEnter (s : State) (p : PState) :
    Within [.out, .quad, .tile, .mesh, .port, .pwrDll, .pwrCfg, .pwr, .erqIn, .rtDirty, .fab, .ctxKey, .jobKey, .memKey,
      .gcmKey, .ret, .nonce, .kh, .qp, .ethPort, .dict] s (stateEnter p s) := by
  unfold stateEnter
  dsimp only
  exact .sub (.after (.upd [.pwr] (by rfl)) (.after (within_domainsTo ..) (.ite (within_domainOn ..) (.refl [] _)))) (by rfl)

theorem within_stateGo (s : State) (p : PState) :
    Within [.out, .quad, .tile, .mesh, .port, .pwrDll, .pwrCfg, .pwr, .erqIn, .rtDirty, .fab, .ctxKey, .jobKey, .memKey,
      .gcmKey, .ret, .nonce, .kh, .qp, .ethPort, .dict] s (stateGo p s) := by
  unfold stateGo
  dsimp only
  exact .sub (.ite (within_stateFail ..) (.ite (.after (within_deferReq ..) (.upd [.pwr] (by rfl))) (within_stateEnter ..))) (by rfl)

theorem within_pstateReq (s : State) (n : Nat) :
    Within [.out, .quad, .tile, .mesh, .port, .pwrDll, .pwrCfg, .pwr, .erqIn, .rtDirty, .fab, .ctxKey, .jobKey, .memKey,
      .gcmKey, .ret, .nonce, .kh, .qp, .ethPort, .dict] s (pstateReq n s).2 := by
  unfold pstateReq
  dsimp only
  split
  · exact .refl _ _
  · split
    · dsimp only
      exact .sub (within_stateFail ..) (by rfl)
    · split
      · dsimp only
        exact .sub (.upd [.pwr] (by rfl)) (by rfl)
      · split
        · dsimp only
          exact .sub (within_stateFail ..) (by rfl)
        · split
          · split
            · dsimp only
              exact .sub (within_stateFail ..) (by rfl)
            · dsimp only
              exact .sub (.ite (.after (within_deferReq ..) (.upd [.pwr] (by rfl))) (.upd [.pwr] (by rfl))) (by rfl)
          · dsimp only
            exact .sub (.after (within_stateGo ..) (.upd [.pwr] (by rfl))) (by rfl)

theorem within_effPstateReq (s : State) (n : Nat) (host : Bool) :
    Within [.out, .quad, .tile, .mesh, .port, .pwrDll, .pwrCfg, .pwr, .erqIn, .rtDirty, .fab, .ctxKey, .jobKey, .memKey,
      .gcmKey, .ret, .nonce, .kh, .qp, .ethPort, .dict] s (effPstateReq n host s) := by
  unfold effPstateReq
  exact .sub (.ite (.refl [] _) (within_pstateReq ..)) (by rfl)

theorem within_effP1Enter (s : State) :
    Within [.out, .quad, .tile, .mesh, .port, .pwrDll, .pwrCfg, .pwr, .erqIn, .rtDirty, .fab, .ctxKey, .jobKey, .memKey,
      .gcmKey, .ret, .nonce, .kh, .qp, .ethPort, .dict] s (effP1Enter s) := by
  unfold effP1Enter
  split
  · exact .refl _ _
  · exact .sub (.ite (within_stateGo ..) (.refl [] _)) (by rfl)

theorem within_effPciPower (s : State) (d3 : Bool) :
    Within [.out, .quad, .tile, .mesh, .port, .pwrDll, .pwrCfg, .pwr, .erqIn, .rtDirty, .fab, .ctxKey, .jobKey, .memKey,
      .gcmKey, .ret, .nonce, .kh, .qp, .ethPort, .dict] s (effPciPower d3 s) := by
  unfold effPciPower
  dsimp only
  exact .sub (.ite (.refl [] _) (.ite (.after (within_pstateReq ..) (.upd [.pwr] (by rfl))) (.ite (.after (within_pstateReq ..)
      (.upd [.pwr] (by rfl))) (.upd [.pwr] (by rfl))))) (by rfl)

theorem within_gatingGo (s : State) (g : Gating) :
    Within [.out, .quad, .tile, .mesh, .port, .pwrDll, .pwrCfg, .pwr, .erqIn, .rtDirty, .fab, .ctxKey, .jobKey, .memKey,
      .gcmKey, .ret, .nonce, .kh, .qp, .ethPort, .dict] s (gatingGo g s) := by
  unfold gatingGo
  dsimp only
  split
  · exact .sub (.ite (within_domEnd ..) (.after (within_domEnd ..) (within_domainsTo ..))) (by rfl)
  · exact .sub (.ite (.upd [.pwr] (by rfl)) (.ite (.after (.upd [.pwr] (by rfl)) (within_stateFail _ errObjState)) (within_stateEnter ..))) (by rfl)

theorem within_effResume (s : State) :
    Within [.out, .biv, .quad, .tile, .mesh, .port, .pwrDll, .pwrCfg, .pwr, .erqIn, .msix, .obj, .rtDirty, .fab, .ctxKey,
      .jobKey, .memKey, .gcmKey, .ret, .nonce, .khCtl, .kh, .qp, .ethPort, .dict] s (effResume s) := by
  unfold effResume
  split
  · exact .refl _ _
  · exact .sub (.ite (.refl [] _) (.after (within_gatingGo ..) (within_abortHeld ..))) (by rfl)

theorem within_effHoldLimit (s : State) :
    Within [.out, .biv, .erqIn, .msix, .obj, .ctxKey, .jobKey, .memKey, .gcmKey, .ret, .khCtl, .kh, .dict]
      s (effHoldLimit s) := by
  unfold effHoldLimit
  split
  · exact .refl _ _
  · exact .sub (.ite (within_abortHeld ..) (.refl [] _)) (by rfl)

theorem within_effPerstP3 (s : State) :
    Within [.out, .quad, .tile, .mesh, .port, .pwrDll, .pwrCfg, .pwr, .erqIn, .msix, .msixCtl, .bars, .hif, .rtDirty, .fab,
      .ctxKey, .jobKey, .memKey, .gcmKey, .ret, .nonce, .kh, .rcv, .qp, .ethPort, .dict] s (effPerstP3 s) := by
  unfold effPerstP3
  exact .sub (.ite (.after (within_startLoss ..) (within_lossPins ..)) (.refl [] _)) (by rfl)

theorem within_effPerstRise (s : State) :
    Within [.out, .quad, .tile, .mesh, .port, .pwrDll, .pwrCfg, .pwr, .erqIn, .rtDirty, .fab, .ctxKey, .jobKey, .memKey,
      .gcmKey, .ret, .nonce, .kh, .qp, .ethPort, .dict] s (effPerstRise s) := by
  unfold effPerstRise
  dsimp only
  exact .sub (.ite (.refl [] _) (.ite (.after (within_pstateReq ..) (.upd [.pwr] (by rfl))) (.upd [.pwr] (by rfl)))) (by rfl)

theorem within_clkBack (s : State) (k : Nat) : Within [.pwrClk] s (clkBack k s) := by
  unfold clkBack
  dsimp only
  exact .sub (.upd [.pwrClk] (by rfl)) (by rfl)

theorem within_effDllUp (s : State) (link : HostLink) : Within [.pwrClk, .pwrDll] s (effDllUp link s) := by
  unfold effDllUp
  dsimp only
  exact .sub (.ite (.after (within_clkBack ..) (.upd [.pwrDll] (by rfl))) (.refl [] _)) (by rfl)

theorem within_configServe (s : State) (q : CfgReq) : Within [.out, .pwrCfg, .msix, .msixCtl, .bars] s (configServe q s) := by
  unfold configServe
  dsimp only
  split
  · exact .sub (within_emit ..) (by rfl)
  · exact .sub (.after (within_emit ..) (.upd [.bars] (by rfl))) (by rfl)
  · exact .sub (.after (within_msixRelease ..) (.after (within_emit ..) (.upd [.msixCtl] (by rfl)))) (by rfl)
  · exact .sub (.after (within_emit ..) (.upd [.pwrCfg] (by rfl))) (by rfl)
  · exact .sub (.after (within_emit ..) (.upd [.pwrCfg] (by rfl))) (by rfl)
  · exact .sub (within_emit ..) (by rfl)

theorem within_effConfig (s : State) (q : CfgReq) : Within [.free, .out, .pwrCfg, .msix, .msixCtl, .bars] s (effConfig q s) := by
  unfold effConfig
  dsimp only
  exact .sub (.ite (.refl [] _) (.ite (within_drawn ..) (.ite (.after (within_configServe ..) (within_drawn ..)) (.after
      (within_emit ..) (within_drawn ..))))) (by rfl)

theorem within_effRefclk (s : State) (which : Nat) :
    Within [.out, .quad, .tile, .mesh, .port, .pwrClk, .pwrDll, .pwrCfg, .pwr, .erqIn, .msix, .msixCtl, .bars, .hif, .queue,
      .txns, .tags, .quar, .txn, .rtDirty, .fab, .ctxKey, .jobKey, .memKey, .gcmKey, .ret, .nonce, .kh, .sealRows, .rcv, .qp,
      .ethPort, .dict] s (effRefclk which s) := by
  unfold effRefclk
  dsimp only
  split
  · exact .sub (.after (within_effHostLoss ..) (.upd [.pwrClk] (by rfl))) (by rfl)
  · exact .sub (.ite (.after (.each (fun i s => within_portDown ..) _ _) (.upd [.pwrClk] (by rfl))) (.upd [.pwrClk] (by rfl))) (by rfl)
  · exact .sub (.ite (.after (.each (fun i s => within_portDown ..) _ _) (.upd [.pwrClk] (by rfl))) (.upd [.pwrClk] (by rfl))) (by rfl)
  · exact .sub (.ite (.after (within_effEthDown ..) (.after (within_effEthDown ..) (.upd [.pwrClk] (by rfl)))) (.upd [.pwrClk] (by rfl))) (by rfl)
  · exact .sub (.upd [.pwrClk] (by rfl)) (by rfl)

theorem within_setScrub (s : State) (k : Nat) (x : Scrub) : Within [.scrub] s (setScrub s k x) := by
  unfold setScrub
  exact .sub (.of [.scrub] ⟨(lset_length ..).trans, trivial⟩ (by rfl)) (by rfl)

theorem within_scrubOne (s : State) (k : Nat) (res : Nat) : Within [.out, .scrub, .erqIn, .dict] s (scrubOne k res s) := by
  unfold scrubOne
  dsimp only
  exact .sub (.ite (.after (within_raise ..) (within_setScrub ..)) (.ite (.after (within_raise ..) (within_setScrub ..))
      (within_setScrub ..))) (by rfl)

theorem within_effScrubLine (s : State) (k : Nat) (res : Nat) :
    Within [.out, .scrub, .erqIn, .dict] s (effScrubLine k res s) := by
  unfold effScrubLine
  exact .sub (.ite (within_scrubOne ..) (.refl [] _)) (by rfl)

theorem within_effScrubSlot (s : State) (k : Nat) (bad : List (Nat × Nat)) :
    Within [.out, .scrub, .erqIn, .dict] s (effScrubSlot k bad s) := by
  unfold effScrubSlot
  dsimp only
  exact .sub (.ite (.after (.each (fun i s => within_scrubOne ..) _ _) (within_setScrub ..)) (.refl [] _)) (by rfl)

theorem within_takePort (s : State) (p : Nat) : Within [.port, .stat] s (takePort p s) := by
  unfold takePort
  dsimp only
  exact .sub (.ite (.refl [] _) (.after (.foldl (fun s x => within_bump ..) _ _) (within_setPort ..))) (by rfl)

theorem within_takeEth (s : State) (p : Nat) : Within [.ethPort, .stat] s (takeEth p s) := by
  unfold takeEth
  dsimp only
  exact .sub (.ite (.refl [] _) (.after (within_bump ..) (.after (within_bump ..) (within_setEth ..)))) (by rfl)

theorem within_effTelemetry (s : State) (x : TeleSample) :
    Within [.port, .pmbErr, .tele, .transitDrop, .ethPort, .stat] s (effTelemetry x s) := by
  unfold effTelemetry
  dsimp only
  exact .sub (.ite (.refl [] _) (.after (within_bump ..) (.after (.upd [.transitDrop] (by rfl)) (.after (.each
      (fun i s => within_takeEth ..) _ _) (.after (.each (fun i s => within_takePort ..) _ _) (.upd [.pmbErr, .tele] (by rfl))))))) (by rfl)

end Sys2Proof.Machine
end

section
/-!
PROOF. The parts that writes of the dictionary reach.
-/
namespace Sys2Proof.Machine
open Host

theorem within_busEnable (s : State) : Within [.out, .dict] s (busEnable s) := by
  unfold busEnable
  dsimp only
  exact .sub (.ite (.after (.upd [.dict] (by rfl)) (within_stbyDrive ..)) (.ite (within_stbyDrive ..) (.after (within_busJoin ..)
      (within_stbyDrive ..)))) (by rfl)

theorem within_portField (s : State) (sub : Nat) (f : Port → Port) : Within [.port] s (portField sub f s) := by
  unfold portField
  exact .sub (within_setPort ..) (by rfl)

theorem within_almWrite (s : State) (b : Bool) (f : RtcAlarm → RtcAlarm) :
    Within [.out, .capC, .shift, .rtc] s (almWrite b f s) := by
  unfold almWrite
  dsimp only
  exact .sub (.ite (.refl [] _) (within_setRtc ..)) (by rfl)

theorem within_applyRwp (s : State) (index : Nat) (sub : Nat) :
    Within [.out, .port, .pwr, .rtDirty, .fab, .dict, .rtc] s (applyRwp index sub s) := by
  unfold applyRwp
  dsimp only
  split
  · exact .sub (within_busEnable ..) (by rfl)
  · exact .sub (.ite (within_setEnable ..) (within_portField ..)) (by rfl)
  · exact .sub (within_portField ..) (by rfl)
  · exact .sub (within_portField ..) (by rfl)
  · exact .sub (within_portField ..) (by rfl)
  · exact .sub (within_portField ..) (by rfl)
  · exact .sub (within_portField ..) (by rfl)
  · exact .sub (.ite (.refl [] _) (within_setAddr ..)) (by rfl)
  · exact .sub (.ite (within_lsaSync ..) (within_setAddr ..)) (by rfl)
  · exact .sub (.after (.upd [.rtDirty] (by rfl)) (within_lsaSync ..)) (by rfl)
  · exact .sub (.ite (.refl [] _) (.upd [.rtc] (by rfl))) (by rfl)
  · exact .sub (.upd [.pwr] (by rfl)) (by rfl)
  · exact .refl _ _

theorem within_writeRwp (s : State) (index : Nat) (sub : Nat) (v : Bytes) :
    Within [.out, .port, .pwr, .rtDirty, .fab, .val, .dict, .bank0, .bank1, .rtc] s (writeRwp index sub v s).2 := by
  unfold writeRwp
  dsimp only
  split
  · exact .refl _ _
  · split
    · exact .refl _ _
    · split
      · dsimp only
        exact .sub (.after (within_applyRwp ..) (within_journalWrite ..)) (by rfl)
      · exact .sub (within_journalWrite ..) (by rfl)

theorem within_setTime (s : State) (v : Bytes) : Within [.out, .val, .bank0, .bank1, .capC, .shift, .rtc] s (setTime v s) := by
  unfold setTime
  exact .sub (.ite (.refl [] _) (.after (within_persist ..) (within_rtcSetNow ..))) (by rfl)

theorem within_chassisWrite (s : State) (v : Bytes) : Within [.chassis, .wrapped] s (chassisWrite v s).2 := by
  unfold chassisWrite
  split
  · exact .refl _ _
  · dsimp only
    exact .sub (within_installChassis ..) (by rfl)

theorem within_clearOos (s : State) : Within [.port, .rtDirty, .fab, .rcv] s (clearOos s) := by
  unfold clearOos
  dsimp only
  exact .sub (.after (within_lsaSync ..) (.upd [.rcv] (by rfl))) (by rfl)

theorem within_restoreDefaults (s : State) :
    Within [.out, .port, .pwr, .rtDirty, .fab, .val, .dict, .bank0, .bank1, .rtc] s (restoreDefaults s).2 := by
  unfold restoreDefaults
  dsimp only
  split
  · dsimp only
    exact .sub (.after (.foldl (fun s x => within_applyRwp ..) _ _) (within_restoreJournal ..)) (by rfl)
  · exact .sub (within_restoreJournal ..) (by rfl)

theorem within_updControl (s : State) (n : Nat) : Within [.free, .out, .dict, .bank0, .bank1, .flash] s (updControl n s).2 := by
  unfold updControl
  split
  · exact .refl _ _
  · split
    · exact .sub (within_updBegin ..) (by rfl)
    · exact .sub (within_updFinish ..) (by rfl)
    · exact .sub (within_updAbort ..) (by rfl)

theorem within_writeOther (s : State) (index : Nat) (v : Bytes) :
    Within [.free, .out, .quad, .tile, .mesh, .port, .pwrDll, .pwrCfg, .pwr, .erqIn, .rtDirty, .loaded, .fab, .ctxKey, .jobKey,
      .memKey, .gcmKey, .ret, .chassis, .nonce, .kh, .rcv, .qp, .ethPort, .val, .dict, .bank0, .bank1, .revoked, .minSvn,
      .wrapped, .flash, .capC, .shift, .rtc] s (writeOther index v s).2 := by
  unfold writeOther
  dsimp only
  split
  · exact .sub (within_pstateReq ..) (by rfl)
  · dsimp only
    exact .sub (within_adoptEpoch ..) (by rfl)
  · dsimp only
    exact .sub (.upd [.rtDirty, .fab] (by rfl)) (by rfl)
  · exact .sub (within_loadTable ..) (by rfl)
  · dsimp only
    exact .sub (within_setTime ..) (by rfl)
  · dsimp only
    exact .sub (.ite (.refl [] _) (.upd [.rtc] (by rfl))) (by rfl)
  · exact .sub (within_rtcShiftNow ..) (by rfl)
  · dsimp only
    exact .sub (within_almWrite ..) (by rfl)
  · dsimp only
    exact .sub (within_almWrite ..) (by rfl)
  · dsimp only
    exact .sub (within_almWrite ..) (by rfl)
  · dsimp only
    exact .sub (within_almWrite ..) (by rfl)
  · dsimp only
    exact .sub (within_clearOos ..) (by rfl)
  · exact .sub (within_chassisWrite ..) (by rfl)
  · exact .sub (within_revokeKey ..) (by rfl)
  · exact .sub (within_confirmImage ..) (by rfl)
  · exact .sub (within_updControl ..) (by rfl)
  · dsimp only
    exact .sub (.upd [.flash] (by rfl)) (by rfl)
  · exact .sub (within_updData ..) (by rfl)
  · exact .sub (within_restoreDefaults ..) (by rfl)
  · exact .refl _ _

theorem within_dictApply (s : State) (r : CatRow) (sub : Nat) (v : Bytes) :
    Within [.free, .out, .quad, .tile, .mesh, .hbm, .port, .pwrDll, .pwrCfg, .pwr, .erqIn, .hif, .queue, .txn, .rtDirty,
      .loaded, .fab, .pairSt, .leaving, .pair, .ctxKey, .jobKey, .memKey, .gcmKey, .ret, .chassis, .nonce, .kh, .sealRows,
      .rcv, .qp, .ethPort, .val, .dict, .bank0, .bank1, .revoked, .minSvn, .wrapped, .flash, .capC, .shift, .rtc]
      s (dictApply r sub v s).2 := by
  unfold dictApply
  dsimp only
  split
  · exact .sub (within_pairRoleWrite ..) (by rfl)
  · dsimp only
    split
    · exact .sub (within_writeRwp ..) (by rfl)
    · exact .sub (within_writeOther ..) (by rfl)

theorem within_afterWrite (s : State) (index : Nat) (v : Bytes) : Within resetParts s (afterWrite index v s) := by
  unfold afterWrite
  dsimp only
  exact .sub (.ite (.upd [.dict] (by rfl)) (.ite (.ite (within_coldReset ..) (within_requestCoreReset ..)) (.refl [] _))) (by rfl)

theorem within_dictSet (s : State) (index : Nat) (v : Bytes) :
    Within [.free, .out, .held, .scrub, .biv, .quad, .tile, .mesh, .hbm, .port, .cvu, .pwrDue, .pwrClk, .pwrDll, .pwrCfg,
      .pwrMc, .pwrRst, .pwr, .pmbErr, .tele, .erqIn, .erq, .msix, .msixCtl, .bars, .dep, .owned, .hif, .ctx, .queue, .mo, .ev,
      .obj, .txns, .tags, .quar, .hold, .txn, .route, .rtDirty, .transitDrop, .loaded, .fab, .pairSt, .leaving, .cseq, .before,
      .pair, .ctxKey, .jobKey, .memKey, .gcmKey, .ret, .chassis, .dbg, .nonce, .khCtl, .rngOk, .jtag, .kh, .seals, .sealRows,
      .sealStage, .sealer, .replay, .rcv, .qp, .ethPort, .eth, .stat, .val, .challenge, .dict, .bank0, .bank1, .revoked,
      .minSvn, .wrapped, .flash, .capC, .shift, .rtc] s (dictSet index v s) := by
  unfold dictSet
  dsimp only
  split
  · exact .refl _ _
  · split
    · exact .refl _ _
    · exact .sub (.ite (.refl [] _) (.ite (.after (within_afterWrite ..) (within_dictApply ..)) (within_dictApply ..))) (by rfl)

theorem within_macFailed (s : State) : Within [.erqIn, .dict] s (macFailed s) := by
  unfold macFailed
  dsimp only
  exact .sub (.ite (.upd [.dict] (by rfl)) (.ite (.after (within_record ..) (.upd [.dict] (by rfl))) (.upd [.dict] (by rfl)))) (by rfl)

theorem within_useChallenge (s : State) (priv : Nat) : Within [.challenge] s (useChallenge priv s) := by
  unfold useChallenge
  dsimp only
  exact .sub (.ite (.upd [.challenge] (by rfl)) (.refl [] _)) (by rfl)

theorem within_macCheck (s : State) (k : KeyedWrite) : Within [.vb, .erqIn, .dict] s (macCheck k s).2.2 := by
  unfold macCheck
  dsimp only
  split
  · exact .refl _ _
  · split
    · dsimp only
      exact .sub (within_macFailed ..) (by rfl)
    · split
      · exact .refl _ _
      · dsimp only
        exact .sub (.upd [.vb] (by rfl)) (by rfl)

theorem within_writeValue (s : State) (index : Nat) (sub : Nat) (value : Bytes) :
    Within [.free, .out, .quad, .tile, .mesh, .hbm, .port, .pwrDll, .pwrCfg, .pwr, .erqIn, .hif, .queue, .txn, .rtDirty,
      .loaded, .fab, .pairSt, .leaving, .pair, .ctxKey, .jobKey, .memKey, .gcmKey, .ret, .chassis, .nonce, .kh, .sealRows,
      .rcv, .qp, .ethPort, .val, .dict, .bank0, .bank1, .revoked, .minSvn, .wrapped, .flash, .capC, .shift, .rtc]
      s (writeValue index sub value s).2.2 := by
  unfold writeValue
  dsimp only
  split
  · exact .refl _ _
  · split
    · exact .refl _ _
    · dsimp only
      exact .sub (within_dictApply ..) (by rfl)

/-- The parts that the end of a write of the dictionary can reach: a reset among them. -/
abbrev writeParts : List Part :=
  resetParts ++ [.vb, .bank0, .bank1, .revoked, .minSvn, .wrapped, .capC, .shift, .rtc]

theorem within_writeEnd (w : DictWait) (value : Bytes) (r : Option Nat × Nat × State) :
    Within writeParts r.2.2 (writeEnd w value r) := by
  unfold writeEnd
  split
  · exact .sub (.upd [.dict] (by rfl)) (by rfl)
  · exact .sub (.ite (.after (within_afterWrite ..) (within_respond_nil ..)) (within_respond_nil ..)) (by rfl)

theorem within_keyedEnd (s : State) (k : KeyedWrite) : Within writeParts s (keyedEnd k s) := by
  unfold keyedEnd
  have checked := within_macCheck s k
  extract_lets a
  change Within _ s a.2.2 at checked
  clear_value a
  split
  · exact .sub (.after (within_respond_nil ..) checked) (by rfl)
  · exact .sub (.after (within_writeEnd ..) (.after (within_writeValue ..) checked)) (by rfl)

theorem within_keyedServed (s : State) : Within writeParts s (keyedServed s) := by
  unfold keyedServed
  dsimp only
  split
  · exact .sub (.ite (.after (within_keyedEnd ..) (.upd [.dict] (by rfl))) (.refl [] _)) (by rfl)
  · exact .refl _ _

theorem within_writeAndAnswer (s : State) (w : DictWait) (node priv : Nat) (value trailer : Bytes) :
    Within writeParts s (writeAndAnswer w node priv value trailer s) := by
  unfold writeAndAnswer
  extract_lets c u k
  have used : Within _ s u := within_useChallenge ..
  clear_value u
  split
  · exact .sub (.after (within_respond_nil ..) used) (by rfl)
  split
  · exact .sub (.after (within_writeEnd ..) (.after (within_writeValue ..) used)) (by rfl)
  · exact .sub (.after (within_respond_nil ..) used) (by rfl)
  · split
    · exact .sub (.after (within_keyedEnd ..) (.after (within_drawn ..) used)) (by rfl)
    · exact .sub (.after (within_khQueue ..) (.after (within_drawn ..) (.after (.upd [.dict] (by rfl)) used))) (by rfl)

end Sys2Proof.Machine
end

section
/-!
PROOF. The parts that requests to the dictionary reach.
-/
namespace Sys2Proof.Machine
open Host

theorem within_closeXfer (s : State) (x : SegXfer) : Within [.challenge, .dict] s (closeXfer x s) := by
  unfold closeXfer
  dsimp only
  exact .sub (.after (within_useChallenge ..) (.upd [.dict] (by rfl))) (by rfl)

theorem within_abandon (s : State) (x : SegXfer) : Within [.challenge, .dict] s (abandon x s) := by
  unfold abandon
  dsimp only
  exact .sub (.after (within_closeXfer ..) (.upd [.dict] (by rfl))) (by rfl)

theorem within_serveWrite (s : State) (w : DictWait) (priv : Nat) (len : Nat) (b : Bytes) :
    Within writeParts s (serveWrite w priv len b s) := by
  unfold serveWrite
  dsimp only
  exact .sub (.ite (.after (within_respond_nil ..) (within_useChallenge ..)) (.after (within_writeAndAnswer ..) (within_drawn ..))) (by rfl)

theorem within_serveOpen (s : State) (w : DictWait) (priv : Nat) (len : Nat) :
    Within [.out, .cvu, .msix, .challenge, .dict] s (serveOpen w priv len s) := by
  unfold serveOpen
  dsimp only
  exact .sub (.ite (.after (within_respond_nil ..) (within_useChallenge ..)) (.ite (.after (within_respond_nil ..)
      (within_useChallenge ..)) (.after (within_respond_nil ..) (.after (within_streamOpen ..) (.upd [.dict] (by rfl)))))) (by rfl)

theorem within_serveAbort (s : State) (w : DictWait) : Within [.out, .msix, .challenge, .dict] s (serveAbort w s) := by
  unfold serveAbort
  split
  · exact .sub (.ite (.after (within_respond_nil ..) (within_abandon ..)) (within_respond_nil ..)) (by rfl)
  · exact .sub (within_respond_nil ..) (by rfl)

theorem within_serve (s : State) (mbx : Bool) (b : Bytes) : Within writeParts s (serve mbx b s) := by
  unfold serve
  extract_lets op priv len w r
  split
  · exact .sub (.after (within_respond ..) (.ite (within_useChallenge ..) (.refl [] _))) (by rfl)
  clear_value op
  split
  · exact .sub (.after (within_respond ..) (within_dictRead ..)) (by rfl)
  · exact within_serveWrite ..
  · exact (within_serveOpen ..).sub (by rfl)
  · exact (within_serveAbort ..).sub (by rfl)
  · exact .refl _ _

theorem within_segEnd (s : State) (x : SegXfer) (status : Nat) (detail : Nat) :
    Within [.out, .challenge, .dict] s (segEnd x status detail s) := by
  unfold segEnd
  exact .sub (.after (within_canRespond_nil ..) (within_closeXfer ..)) (by rfl)

theorem within_segLast (s : State) (x : SegXfer) : Within writeParts s (segLast x s) := by
  unfold segLast
  dsimp only
  exact .sub (.ite (.after (within_segEnd ..) (within_streamCheck ..)) (.after (within_writeAndAnswer ..) (.after (.upd [.dict] (by rfl))
      (within_streamCheck ..)))) (by rfl)

theorem within_serveLast (s : State) : Within writeParts s (serveLast s) := by
  unfold serveLast
  split
  · exact .sub (.ite (within_segLast ..) (.refl [] _)) (by rfl)
  · exact .refl _ _

theorem within_serveNext (s : State) (x : DictLater) : Within writeParts s (serveNext x s) := by
  unfold serveNext
  split
  · exact .sub (within_serve ..) (by rfl)
  · exact .sub (within_serveLast ..) (by rfl)

theorem within_arbiter (s : State) (x : DictLater) : Within writeParts s (arbiter x s) := by
  unfold arbiter
  dsimp only
  exact .sub (.ite (.upd [.dict] (by rfl)) (within_serveNext ..)) (by rfl)

theorem within_request (s : State) (mbx : Bool) (b : Bytes) : Within writeParts s (request mbx b s) := by
  unfold request
  exact .sub (within_arbiter ..) (by rfl)

theorem within_serveLater (s : State) : Within writeParts s (serveLater s) := by
  unfold serveLater
  dsimp only
  split
  · exact .refl _ _
  · exact .sub (.ite (.refl [] _) (.after (within_serveNext ..) (.upd [.dict] (by rfl)))) (by rfl)

theorem within_frameIn (s : State) : Within [.dict] s (frameIn s) := by
  unfold frameIn
  dsimp only
  exact .sub (.upd [.dict] (by rfl)) (by rfl)

theorem within_onFrame {l : List Part} {act : State → State} (h : ∀ s, Within l s (act s)) (s : State) (target : Nat) :
    Within ([.dict] ++ l) s (onFrame target act s) := by
  unfold onFrame
  split
  · exact .after (h _) (within_frameIn ..)
  · exact .refl _ _

theorem within_onRequest (s : State) (op : Nat) (target : Nat) (frame : Bytes) :
    Within writeParts s (onRequest op target frame s) := by
  unfold onRequest
  exact .sub (.ite (.refl [] _) (within_onFrame (fun _ => within_request ..) _ _)) (by rfl)

theorem within_effStolegRead (s : State) (target : Nat) (frame : Bytes) : Within writeParts s (effStolegRead target frame s) := by
  unfold effStolegRead
  exact .sub (within_onRequest ..) (by rfl)

theorem within_effStolegWrite (s : State) (target : Nat) (frame : Bytes) :
    Within writeParts s (effStolegWrite target frame s) := by
  unfold effStolegWrite
  exact .sub (within_onRequest ..) (by rfl)

theorem within_effWriteSeg (s : State) (target : Nat) (frame : Bytes) : Within writeParts s (effWriteSeg target frame s) := by
  unfold effWriteSeg
  exact .sub (within_onRequest ..) (by rfl)

theorem within_effStolegAbort (s : State) (target : Nat) (frame : Bytes) :
    Within writeParts s (effStolegAbort target frame s) := by
  unfold effStolegAbort
  exact .sub (within_onRequest ..) (by rfl)

theorem within_segment (s : State) (frame : Bytes) (x : SegXfer) : Within writeParts s (segment frame x s) := by
  unfold segment
  extract_lets alive y dict last b u
  split
  · exact .refl _ _
  split
  · exact .sub (.upd [.dict] (by rfl)) (by rfl)
  split
  · exact (within_segEnd ..).sub (by rfl)
  · have fed : Within _ s u := .after (within_streamFeed ..) (.upd [.dict] (by rfl))
    clear_value u
    split
    · exact .sub (.after (within_arbiter ..) fed) (by rfl)
    · exact fed.sub (by rfl)

theorem within_effSegDown (s : State) (target : Nat) (frame : Bytes) : Within writeParts s (effSegDown target frame s) := by
  unfold effSegDown
  split
  · exact .refl _ _
  · refine .sub (within_onFrame (l := writeParts) (fun s => ?_) s target) (by rfl)
    split
    · exact .refl _ _
    · split
      · exact .refl _ _
      · exact within_segment ..

theorem within_effSegTimeout (s : State) : Within [.out, .challenge, .dict] s (effSegTimeout s) := by
  unfold effSegTimeout
  split
  · exact .refl _ _
  · exact .sub (.ite (.after (within_segEnd ..) (within_abandon ..)) (.refl [] _)) (by rfl)

theorem within_effIdentify (s : State) (target : Nat) (frame : Bytes) : Within [.out, .dict] s (effIdentify target frame s) := by
  unfold effIdentify
  exact .sub (.ite (.refl [] _) (within_onFrame (fun _ => within_sendHb ..) _ _)) (by rfl)

theorem within_effStolegHb (s : State) : Within [.out, .dict] s (effStolegHb s) := by
  unfold effStolegHb
  dsimp only
  exact .sub (.ite (within_sendHb ..) (.refl [] _)) (by rfl)

theorem within_effHbReceive (s : State) (node : Nat) : Within [.dict] s (effHbReceive node s) := by
  unfold effHbReceive
  dsimp only
  exact .sub (.ite (.ite (.after (.upd [.dict] (by rfl)) (within_frameIn ..)) (within_frameIn ..)) (.refl [] _)) (by rfl)

theorem within_effBusOff (s : State) : Within [.free, .dict] s (effBusOff s) := by
  unfold effBusOff
  dsimp only
  exact .sub (.ite (.after (within_drawn ..) (.upd [.dict] (by rfl))) (.refl [] _)) (by rfl)

theorem within_effBusOffRecovery (s : State) : Within [.dict] s (effBusOffRecovery s) := by
  unfold effBusOffRecovery
  dsimp only
  exact .sub (.ite (.upd [.dict] (by rfl)) (.refl [] _)) (by rfl)

theorem within_effMbxGo (s : State) (w : RegWr) : Within writeParts s (effMbxGo w s) := by
  unfold effMbxGo
  dsimp only
  exact .sub (.ite (.refl [] _) (.ite (.after (within_request ..) (.upd [.dict] (by rfl))) (.upd [.dict] (by rfl)))) (by rfl)

theorem within_effWriteChallenge (s : State) : Within [.free, .out, .challenge] s (effWriteChallenge s) := by
  unfold effWriteChallenge
  dsimp only
  exact .sub (.ite (.ite (.after (within_emit ..) (within_challengeRead ..)) (.refl [] _)) (.refl [] _)) (by rfl)

theorem within_effStateRequest (s : State) (v : BitVec 8) : Within writeParts s (effStateRequest v s) := by
  unfold effStateRequest
  exact .sub (within_dictSet ..) (by rfl)

theorem within_effEpoch (s : State) (v : BitVec 64) : Within writeParts s (effEpoch v s) := by
  unfold effEpoch
  exact .sub (within_dictSet ..) (by rfl)

theorem within_effAddress (s : State) (v : BitVec 8) : Within writeParts s (effAddress v s) := by
  unfold effAddress
  exact .sub (within_dictSet ..) (by rfl)

theorem within_effRoutingTable (s : State) (b : Bytes) : Within writeParts s (effRoutingTable b s) := by
  unfold effRoutingTable
  exact .sub (within_dictSet ..) (by rfl)

theorem within_effRoleWrite (s : State) (v : BitVec 8) : Within writeParts s (effRoleWrite v s) := by
  unfold effRoleWrite
  exact .sub (within_dictSet ..) (by rfl)

theorem within_effResetRequest (s : State) (v : BitVec 8) : Within writeParts s (effResetRequest v s) := by
  unfold effResetRequest
  exact .sub (within_dictSet ..) (by rfl)

theorem within_effOosClear (s : State) : Within writeParts s (effOosClear s) := by
  unfold effOosClear
  exact .sub (within_dictSet ..) (by rfl)

theorem within_effRevokeKey (s : State) (i : BitVec 8) : Within writeParts s (effRevokeKey i s) := by
  unfold effRevokeKey
  exact .sub (within_dictSet ..) (by rfl)

theorem within_effChassisKey (s : State) (key : BitVec 256) : Within writeParts s (effChassisKey key s) := by
  unfold effChassisKey
  exact .sub (within_dictSet ..) (by rfl)

theorem within_effConfirm (s : State) : Within writeParts s (effConfirm s) := by
  unfold effConfirm
  exact .sub (within_dictSet ..) (by rfl)

theorem within_effBegin (s : State) : Within writeParts s (effBegin s) := by
  unfold effBegin
  exact .sub (within_dictSet ..) (by rfl)

theorem within_effFinish (s : State) : Within writeParts s (effFinish s) := by
  unfold effFinish
  exact .sub (within_dictSet ..) (by rfl)

theorem within_effUpdateAbort (s : State) : Within writeParts s (effUpdateAbort s) := by
  unfold effUpdateAbort
  exact .sub (within_dictSet ..) (by rfl)

theorem within_effUpdateData (s : State) (b : Bytes) : Within writeParts s (effUpdateData b s) := by
  unfold effUpdateData
  exact .sub (within_dictSet ..) (by rfl)

theorem within_effRestore (s : State) : Within writeParts s (effRestore s) := by
  unfold effRestore
  exact .sub (within_dictSet ..) (by rfl)

theorem within_effCurrentTime (s : State) : Within [.out, .capC] s (effCurrentTime s) := by
  unfold effCurrentTime
  dsimp only
  exact .sub (.ite (.after (within_emit ..) (within_rtcCaptureNow ..)) (.refl [] _)) (by rfl)

theorem within_effSetTime (s : State) (b : Bytes) : Within writeParts s (effSetTime b s) := by
  unfold effSetTime
  exact .sub (within_dictSet ..) (by rfl)

end Sys2Proof.Machine
end

section
/-!
PROOF. The parts that supplies reach.
-/
namespace Sys2Proof.Machine
open Host

theorem within_vbatFresh (s : State) : Within [.free, .out, .vb, .pwrRst, .capC, .shift, .rtc] s (vbatFresh s) := by
  unfold vbatFresh
  extract_lets f r
  exact .sub (.after (.upd [.free, .vb, .pwrRst] (by rfl)) (within_setRtc s r)) (by rfl)

theorem within_effVbatApplied (s : State) : Within [.free, .out, .vb, .pwrRst, .capC, .shift, .rtc] s (effVbatApplied s) := by
  unfold effVbatApplied
  dsimp only
  exact .sub (.ite (.refl [] _) (.ite (.upd [.rtc] (by rfl)) (.after (within_vbatFresh ..) (.upd [.rtc] (by rfl))))) (by rfl)

theorem within_effVbatLoss (s : State) : Within [.free, .out, .vb, .pwrRst, .capC, .shift, .rtc] s (effVbatLoss s) := by
  unfold effVbatLoss
  dsimp only
  exact .sub (.ite (.upd [.rtc] (by rfl)) (.after (within_vbatFresh ..) (.upd [.rtc] (by rfl)))) (by rfl)

theorem within_effPowerFail (s : State) : Within writeParts s (effPowerFail s) := by
  unfold effPowerFail
  split
  · exact .refl _ _
  · extract_lets a b w c
    have emitted : Within [.out] s a := .sub (.after (within_emit ..) (.ite (within_emit ..) (.refl [] _))) (by rfl)
    have reset : Within writeParts s b := .sub (.after (within_rtcPowerFail _) (.after (within_coldReset ..) emitted)) (by rfl)
    clear_value b
    have off : Within writeParts s c := .sub (.after (.upd [.pwrRst, .pwr] (by rfl)) reset) (by rfl)
    clear_value c
    split
    · exact off
    · exact .trans off (.sub (within_vbatFresh ..) (by rfl))

theorem within_powerOn (s : State) : Within coldParts s (powerOn s) := by
  unfold powerOn
  dsimp only
  exact .sub (.ite (.after (within_coldReset ..) (.upd [.pwr] (by rfl))) (.refl [] _)) (by rfl)

theorem within_effPwrOkRise (s : State) : Within writeParts s (effPwrOkRise s) := by
  unfold effPwrOkRise
  dsimp only
  exact .sub (.ite (within_powerOn ..) (.after (within_stbyDrive ..) (.upd [.pwr, .rtc] (by rfl)))) (by rfl)

theorem within_effRtcUnlock (s : State) : Within [.rtc] s (effRtcUnlock s) := by
  unfold effRtcUnlock
  dsimp only
  exact .sub (.ite (.upd [.rtc] (by rfl)) (.refl [] _)) (by rfl)

theorem within_effThermal (s : State) (n : Nat) (t : Nat) :
    Within [.out, .vb, .quad, .tile, .mesh, .port, .pwrDll, .pwrCfg, .pwr, .erqIn, .ctx, .rtDirty, .fab, .ctxKey, .jobKey,
      .memKey, .gcmKey, .ret, .chassis, .nonce, .kh, .qp, .ethPort, .dict, .rtc] s (effThermal n t s) := by
  unfold effThermal
  dsimp only
  exact .sub (.ite (.refl [] _) (.after (within_emit ..) (.after (.of [.vb, .pwr, .ret] ⟨trivial, trivial, fun _ _ hr =>
      (by cases hr), trivial⟩ (by rfl)) (.after (.each (fun i s => within_domainOff ..) _ _) (.after (within_faultCapture ..) (.after
      (.upd [.chassis] (by rfl)) (within_zeroAll ..))))))) (by rfl)

theorem within_effPmbusAlert (s : State) (more : List Nat) (errs : Nat) :
    Within [.out, .pmbErr] s (effPmbusAlert more errs s) := by
  unfold effPmbusAlert
  dsimp only
  exact .sub (.ite (.after (within_emitAll ..) (.upd [.pmbErr] (by rfl))) (.refl [] _)) (by rfl)

theorem within_effSubShift (s : State) (n : BitVec 32) : Within writeParts s (effSubShift n s) := by
  unfold effSubShift
  exact .sub (within_dictSet ..) (by rfl)

end Sys2Proof.Machine
end

section
/-!
PROOF. The parts that requests and responses reach.
-/
namespace Sys2Proof.Machine
open Host

theorem within_effSegmentSend (s : State) (id : Nat) :
    Within [.out, .tile, .port, .erqIn, .queue, .txns, .tags, .quar, .hold, .txn, .jobKey, .sealRows, .dict]
      s (effSegmentSend id s) := by
  unfold effSegmentSend
  exact .sub (within_segSend ..) (by rfl)

theorem within_effLoad (s : State) (src : Nat) :
    Within ([.out, .port, .erqIn, .txn, .jobKey, .dict] ++ []) s (effLoad src s) := by
  unfold effLoad
  exact within_destReq within_actLoad s

theorem within_effStore (s : State) (src : Nat) :
    Within ([.out, .port, .erqIn, .txn, .jobKey, .dict] ++ [.hbm, .port, .pair]) s (effStore src s) := by
  unfold effStore
  exact within_destReq within_actStore s

theorem within_effCopy (s : State) (src : Nat) :
    Within ([.out, .port, .erqIn, .txn, .jobKey, .dict] ++ [.hbm, .port, .pair]) s (effCopy src s) := by
  unfold effCopy
  exact within_destReq within_actCopy s

theorem within_atomicReq (s : State) (aop src : Nat) :
    Within ([.out, .port, .erqIn, .txn, .jobKey, .dict] ++ [.hbm, .port, .pair]) s (atomicReq aop src s) := by
  unfold atomicReq
  exact within_destReq within_actAtomic s

theorem within_effAtomicAdd (s : State) (src : Nat) :
    Within [.out, .port, .erqIn, .txn, .jobKey, .dict, .hbm, .port, .pair] s (effAtomicAdd src s) := by
  unfold effAtomicAdd
  exact .sub (within_atomicReq ..) (by rfl)

theorem within_effAtomicMin (s : State) (src : Nat) :
    Within [.out, .port, .erqIn, .txn, .jobKey, .dict, .hbm, .port, .pair] s (effAtomicMin src s) := by
  unfold effAtomicMin
  exact .sub (within_atomicReq ..) (by rfl)

theorem within_effAtomicMax (s : State) (src : Nat) :
    Within [.out, .port, .erqIn, .txn, .jobKey, .dict, .hbm, .port, .pair] s (effAtomicMax src s) := by
  unfold effAtomicMax
  exact .sub (within_atomicReq ..) (by rfl)

theorem within_effAtomicSwap (s : State) (src : Nat) :
    Within [.out, .port, .erqIn, .txn, .jobKey, .dict, .hbm, .port, .pair] s (effAtomicSwap src s) := by
  unfold effAtomicSwap
  exact .sub (within_atomicReq ..) (by rfl)

theorem within_effAtomicCas (s : State) (src : Nat) :
    Within [.out, .port, .erqIn, .txn, .jobKey, .dict, .hbm, .port, .pair] s (effAtomicCas src s) := by
  unfold effAtomicCas
  exact .sub (within_atomicReq ..) (by rfl)

theorem within_effExaAdd (s : State) (src : Nat) :
    Within ([.out, .port, .erqIn, .txn, .jobKey, .dict] ++ [.free, .tile]) s (effExaAdd src s) := by
  unfold effExaAdd
  exact within_destReq within_actExaAdd s

theorem within_effExaRed (s : State) (src : Nat) :
    Within ([.out, .port, .erqIn, .txn, .jobKey, .dict] ++ [.free, .tile]) s (effExaRed src s) := by
  unfold effExaRed
  exact within_destReq within_actExaRed s

theorem within_effReduceDone (s : State) (src : Nat) :
    Within ([.out, .port, .erqIn, .txn, .jobKey, .dict] ++ [.out, .tile, .erqIn, .dict]) s (effReduceDone src s) := by
  unfold effReduceDone
  exact within_destReq within_actReduceDone s

theorem within_effFence (s : State) (src : Nat) :
    Within ([.out, .port, .erqIn, .txn, .jobKey, .dict] ++ [.out, .tile, .erqIn, .msix, .hif, .ev, .dict]) s
        (effFence src s) := by
  unfold effFence
  split
  · split
    · exact .refl _ _
    · exact within_destReq within_actFence s
  · exact within_destReq within_actFence s

theorem within_effDoneResponse (s : State) (src : Nat) :
    Within [.out, .tile, .hbm, .port, .hif, .erqIn, .queue, .txns, .tags, .quar, .txn, .pair, .sealRows, .dict]
      s (effDoneResponse src s) := by
  unfold effDoneResponse
  exact .sub (within_sourceResp ..) (by rfl)

theorem within_effDataResponse (s : State) (src : Nat) :
    Within [.out, .tile, .hbm, .port, .hif, .erqIn, .queue, .txns, .tags, .quar, .txn, .pair, .sealRows, .dict]
      s (effDataResponse src s) := by
  unfold effDataResponse
  exact .sub (within_sourceResp ..) (by rfl)

theorem within_ntxFail (s : State) (code : Nat) : Within [.txn] s (ntxFail code s) := by
  unfold ntxFail
  dsimp only
  exact .sub (.upd [.txn] (by rfl)) (by rfl)

theorem within_ntxGo (s : State) (want : Nat) : Within [.txns, .txn] s (ntxGo want s) := by
  unfold ntxGo
  dsimp only
  exact .sub (.ite (.refl [] _) (.ite (within_ntxFail ..) (.ite (within_ntxFail ..) (.ite (within_ntxFail ..) (.ite
      (within_ntxFail ..) (.after (.upd [.txn] (by rfl)) (within_txnNew ..))))))) (by rfl)

theorem within_effNtxLoad (s : State) : Within [.txns, .txn] s (effNtxLoad s) := by
  unfold effNtxLoad
  exact .sub (within_ntxGo ..) (by rfl)

theorem within_effNtxStore (s : State) : Within [.txns, .txn] s (effNtxStore s) := by
  unfold effNtxStore
  exact .sub (within_ntxGo ..) (by rfl)

theorem within_effNtxAtomic (s : State) : Within [.txns, .txn] s (effNtxAtomic s) := by
  unfold effNtxAtomic
  exact .sub (within_ntxGo ..) (by rfl)

theorem within_effNtxFence (s : State) : Within [.txns, .txn] s (effNtxFence s) := by
  unfold effNtxFence
  exact .sub (within_ntxGo ..) (by rfl)

theorem within_effTagQuarantineEnd (s : State) (tag : Nat) : Within [.quar] s (effTagQuarantineEnd tag s) := by
  unfold effTagQuarantineEnd
  dsimp only
  exact .sub (.ite (.of [.quar] ⟨fun f => tabWf_tput _ _ _ _ f.quar, trivial⟩ (by rfl)) (.refl [] _)) (by rfl)

end Sys2Proof.Machine
end

section
/-!
PROOF. The parts that Frame Seals reach.
-/
namespace Sys2Proof.Machine
open Host

theorem within_sealEnd (s : State) (code : Nat) (raw : Nat) (slot : Nat) :
    Within [.out, .erqIn, .sealer, .dict] s (sealEnd code raw slot s) := by
  unfold sealEnd
  dsimp only
  exact .sub (.ite (.upd [.sealer] (by rfl)) (.after (within_raise ..) (.upd [.sealer] (by rfl)))) (by rfl)

theorem within_sealCmd {l : List Part} {op slot rsv : Nat} {bad : Bytes → Bool} {act : State → Nat × State}
    (h : ∀ s, Within l s (act s).2) (s : State) :
    Within ([.out, .erqIn, .sealer, .dict] ++ l) s (sealCmd op slot rsv bad act s) := by
  have ended (code raw : Nat) (s : State) : Within ([.out, .erqIn, .sealer, .dict] ++ l) s (sealEnd code raw slot s) :=
    Within.left ((within_sealEnd ..).sub (by rfl))
  unfold sealCmd
  split
  · exact .refl _ _
  split
  · exact Within.left (.sub (.upd [.sealer] (by rfl)) (by rfl))
  split
  · exact ended ..
  split
  · exact ended ..
  · have acted : Within ([.out, .erqIn, .sealer, .dict] ++ l) s (act s).2 := (h s).right
    dsimp only
    split
    · exact acted.trans (ended ..)
    · exact ended ..

theorem within_effOpen (s : State) (slot rsv : Nat) :
    Within ([.out, .erqIn, .sealer, .dict] ++ [.seals, .sealer]) s (effOpen slot rsv s) := by
  unfold effOpen
  refine within_sealCmd (fun s => ?_) s
  extract_lets d c eng
  split
  · exact .refl _ _
  split
  · exact .refl _ _
  · exact .of [.seals, .sealer] ⟨fun f => tabWf_tput _ _ _ _ f.seals, trivial, trivial⟩ (by rfl)

theorem within_effSealDiscard (s : State) (slot rsv : Nat) :
    Within ([.out, .erqIn, .sealer, .dict] ++ [.seals]) s (effSealDiscard slot rsv s) := by
  unfold effSealDiscard
  refine within_sealCmd (fun s => ?_) s
  split
  · exact within_closeSeal ..
  · exact .refl _ _

theorem within_effSealUnknown (s : State) (op slot rsv : Nat) :
    Within ([.out, .erqIn, .sealer, .dict] ++ []) s (effSealUnknown op slot rsv s) := by
  unfold effSealUnknown
  exact within_sealCmd (fun s => .refl _ _) s

theorem within_effSealRow (s : State) (n : Nat) :
    Within [.out, .tile, .erqIn, .queue, .seals, .sealRows, .dict] s (effSealRow n s) := by
  unfold effSealRow
  dsimp only
  split
  · exact .refl _ _
  · exact .sub (.after (within_slotGot ..) (.ite (.of [.seals, .sealRows] ⟨fun f => tabWf_tput _ _ _ _ f.seals, trivial,
      trivial⟩ (by rfl)) (.upd [.sealRows] (by rfl)))) (by rfl)

end Sys2Proof.Machine
end

section
/-!
PROOF. The parts that the register file reach.
-/
namespace Sys2Proof.Machine
open Host

theorem within_objCmdWrite (s : State) (v : Nat) : Within writeParts s (objCmdWrite v s) := by
  unfold objCmdWrite
  generalize v % 2 ^ 8 = op
  dsimp only
  split
  · exact (within_effCtxCreate ..).sub (by rfl)
  · exact (within_effCtxDestroy ..).sub (by rfl)
  · exact (within_effCtxAbort ..).sub (by rfl)
  · exact (within_effCtxRestart ..).sub (by rfl)
  · exact (within_effQCreate ..).sub (by rfl)
  · exact (within_effQDestroy ..).sub (by rfl)
  · exact (within_effQStop ..).sub (by rfl)
  · exact (within_effQStart ..).sub (by rfl)
  · exact (within_effMemCreate ..).sub (by rfl)
  · exact (within_effMemDestroy ..).sub (by rfl)
  · exact (within_effMemFreeze ..).sub (by rfl)
  · exact (within_effMemVerify ..).sub (by rfl)
  · exact (within_effEvCreate ..).sub (by rfl)
  · exact (within_effEvDestroy ..).sub (by rfl)
  · exact (within_effEvAdd ..).sub (by rfl)
  · exact (within_effEvSet ..).sub (by rfl)
  · exact (within_effEvArm ..).sub (by rfl)
  · exact (within_effObjUnknown ..).sub (by rfl)

theorem within_netCmdWrite (s : State) (v : Nat) : Within writeParts s (netCmdWrite v s) := by
  unfold netCmdWrite
  generalize v % 2 ^ 8 = op
  dsimp only
  split
  · exact (within_effQpCreate ..).sub (by rfl)
  · exact (within_effQpDestroy ..).sub (by rfl)
  · exact (within_effQpFail ..).sub (by rfl)
  · exact (within_effQpRecover ..).sub (by rfl)
  · exact (within_effMrReg ..).sub (by rfl)
  · exact (within_effMrDereg ..).sub (by rfl)
  · exact (within_effNetUnknown ..).sub (by rfl)

theorem within_sealCmdWrite (s : State) (v : Nat) : Within writeParts s (sealCmdWrite v s) := by
  unfold sealCmdWrite
  generalize v % 2 ^ 8 = op
  dsimp only
  split
  · exact (within_effOpen ..).sub (by rfl)
  · exact (within_effSealDiscard ..).sub (by rfl)
  · exact (within_effSealUnknown ..).sub (by rfl)

theorem within_secCmdWrite (s : State) (v : Nat) : Within writeParts s (secCmdWrite v s) := by
  unfold secCmdWrite
  generalize v % 2 ^ 8 = op
  dsimp only
  split
  · exact (within_effJkInstall ..).sub (by rfl)
  · exact (within_effJkErase ..).sub (by rfl)
  · exact (within_effChassisSet ..).sub (by rfl)
  · exact (within_effDbgChallenge ..).sub (by rfl)
  · exact (within_effDbgGrant ..).sub (by rfl)
  · exact (within_effDbgLower ..).sub (by rfl)
  · exact (within_effSecUnknown ..).sub (by rfl)

theorem within_bivCmdWrite (s : State) (v : Nat) : Within writeParts s (bivCmdWrite v s) := by
  unfold bivCmdWrite
  generalize v % 2 ^ 4 = op
  dsimp only
  split
  · exact (within_effDeclare ..).sub (by rfl)
  · exact (within_effRelease ..).sub (by rfl)
  · exact (within_effClaim ..).sub (by rfl)
  · exact (within_effDiscard ..).sub (by rfl)
  · exact .refl _ _

theorem within_depWrite (s : State) (e : Nat) (w : RegWr) : Within [.out, .erqIn, .dep, .dict] s (depWrite e w s) := by
  unfold depWrite
  dsimp only
  exact .sub (.ite (within_effDepositDisarm ..) (.ite (within_effDepositArm ..) (within_setDep ..))) (by rfl)

theorem within_rtcField (s : State) (bad : Bool) (f : Rtc → Rtc) : Within [.out, .capC, .shift, .rtc] s (rtcField bad f s) := by
  unfold rtcField
  dsimp only
  exact .sub (.ite (.refl [] _) (.ite (.upd [.rtc] (by rfl)) (within_setRtc ..))) (by rfl)

theorem within_msixWrite (s : State) (a : Nat) (b : Bytes) : Within [.out, .msix] s (msixWrite a b s) := by
  unfold msixWrite
  exact .sub (.ite (.after (within_msixRelease ..) (within_msixStore ..)) (.refl [] _)) (by rfl)

/-- What the accesses of a register do stays within what a write can reach. -/
def Reg.Keeps (r : Reg) : Prop :=
  (∀ w s, Within writeParts s (r.wr w s)) ∧ ∀ put, r.rc = some put → ∀ v s, Within writeParts s (put v s)

namespace Reg.Keeps

variable {base n key val wo : Nat} {dom : Option Nat} {fs : List (Nat × Nat)} {starts : List Nat} {whole : Bool}
  {put : Nat → State → State} {wr : RegWr → State → State}

theorem plain (h : ∀ w s, Within writeParts s (wr w s)) :
    Keeps { base := base, n := n, dom := dom, whole := whole, wo := wo, val := val, wr := wr } :=
  ⟨h, fun _ none_some => nomatch none_some⟩

theorem ro : (roReg base n dom val).Keeps := plain fun _ s => .refl _ s

theorem rw (h : ∀ v s, Within writeParts s (put v s)) : (rwReg base n dom fs val put).Keeps := plain fun _ s => h _ s

theorem go (h : ∀ v s, Within writeParts s (put v s)) : (goReg base n dom put).Keeps := plain fun _ s => h _ s

theorem cmd (h : ∀ v s, Within writeParts s (put v s)) : (cmdReg base n dom key starts put).Keeps :=
  plain fun _ s => .trans (t := s) (.refl _ s)
    ((within_woWrite h s).sub (List.all_eq_true.2 fun p hp => by
      rcases List.mem_append.1 hp with held | reached
      · simp [List.mem_singleton.1 held]
      · exact List.contains_iff_mem.2 reached))

theorem w1c (h : ∀ v s, Within writeParts s (put v s)) : (w1cReg base n dom fs val put).Keeps := plain fun _ s => h _ s

theorem rc (h : ∀ v s, Within writeParts s (put v s)) : (rcReg base dom val put).Keeps :=
  ⟨fun _ s => .refl _ s, fun _ same => by
    obtain rfl := Option.some.inj same
    exact h⟩

end Reg.Keeps

theorem keeps_ethRegs (s : State) (p : Nat) : ∀ r ∈ ethRegs s p, r.Keeps := by
  simp only [ethRegs, List.forall_mem_cons]
  exact ⟨.rw fun v s => (within_setEth ..).sub (by rfl), .rw fun v s => (within_setEth ..).sub (by rfl), .rw fun v s => (within_setEth ..).sub (by rfl),
    .rw fun v s => (within_effPfcWrite ..).sub (by rfl), .w1c fun _ s => .refl _ s, .rc fun v s => (within_setEth ..).sub (by rfl),
    .rc fun v s => (within_setEth ..).sub (by rfl), List.forall_mem_nil _⟩

theorem keeps_nlkRegs (s : State) (p : Nat) : ∀ r ∈ nlkRegs s p, r.Keeps := by
  have count (b n : Nat) (d : Option Nat) (f : State → Nat → Port) : (rcReg b d n fun v s => setPort s p (f s v)).Keeps :=
    .rc fun v s => (within_setPort ..).sub (by rfl)
  simp only [nlkRegs, List.forall_mem_cons]
  exact ⟨.plain fun v s => (within_nlkWrite ..).sub (by rfl), .plain fun v s => (within_effNlkFlow ..).sub (by rfl),
    .plain fun v s => (within_setPort ..).sub (by rfl), count .., count .., count .., count .., count .., count .., count .., count ..,
    List.forall_mem_nil _⟩

theorem keeps_netRegs (s : State) : ∀ r ∈ netRegs s, r.Keeps := by
  simp only [netRegs, List.forall_mem_cons]
  exact ⟨.rw fun v s => .sub (.upd [.eth] (by rfl)) (by rfl), .cmd fun v s => (within_netCmdWrite ..).sub (by rfl), .w1c fun v s => .sub (.upd [.eth] (by rfl)) (by rfl),
    .ro, List.forall_mem_nil _⟩

theorem keeps_sealRegs (s : State) : ∀ r ∈ sealRegs s, r.Keeps := by
  simp only [sealRegs, List.forall_mem_cons]
  exact ⟨.rw fun v s => .sub (.upd [.sealStage] (by rfl)) (by rfl), .cmd fun v s => (within_sealCmdWrite ..).sub (by rfl),
    .plain fun w s => .sub (.upd [.sealer] (by rfl)) (by rfl), .ro, List.forall_mem_nil _⟩

theorem keeps_secRegs (s : State) (b : Nat) : ∀ r ∈ secRegs s b, r.Keeps := by
  simp only [secRegs, List.forall_mem_cons]
  exact ⟨.ro, .cmd fun v s => (within_secCmdWrite ..).sub (by rfl), .w1c fun v s => .sub (.upd [.khCtl] (by rfl)) (by rfl),
    .plain fun w s => .sub (.upd [.khCtl] (by rfl)) (by rfl), .ro, .plain fun w s => .sub (.upd [.khCtl] (by rfl)) (by rfl), List.forall_mem_nil _⟩

theorem keeps_fabRegs (s : State) : ∀ r ∈ fabRegs s, r.Keeps := by
  simp only [fabRegs, List.forall_mem_cons]
  exact ⟨.ro, .ro, .rc fun v s => .sub (.upd [.transitDrop] (by rfl)) (by rfl), List.forall_mem_nil _⟩

theorem keeps_ntxRegs (s : State) : ∀ r ∈ ntxRegs s, r.Keeps := by
  simp only [ntxRegs, List.forall_mem_cons]
  exact ⟨.rw fun v s => .sub (.upd [.txn] (by rfl)) (by rfl), .rw fun v s => .sub (.upd [.txn] (by rfl)) (by rfl), .rw fun v s => .sub (.upd [.txn] (by rfl)) (by rfl),
    .go fun v s => .sub (.ite (within_ntxGo ..) (.refl [] _)) (by rfl), .w1c fun v s => .sub (.upd [.txn] (by rfl)) (by rfl),
    .rw fun v s => .sub (.upd [.txn] (by rfl)) (by rfl), .plain fun w s => .sub (.upd [.txn] (by rfl)) (by rfl), List.forall_mem_nil _⟩

theorem keeps_pairRegs (s : State) : ∀ r ∈ pairRegs s, r.Keeps := by
  simp only [pairRegs, List.forall_mem_cons]
  exact ⟨.ro, .rw fun v s => .sub (.upd [.pair] (by rfl)) (by rfl), .rw fun v s => .sub (.upd [.pair] (by rfl)) (by rfl),
    .go fun v s => .sub (.ite (within_effCkGo ..) (.refl [] _)) (by rfl), .w1c fun v s => .sub (.upd [.pair] (by rfl)) (by rfl),
    .rw fun v s => .sub (.upd [.pair] (by rfl)) (by rfl), .ro, List.forall_mem_nil _⟩

theorem keeps_pcrRegs (s : State) (b : Nat) (host : Bool) : ∀ r ∈ pcrRegs s b host, r.Keeps := by
  simp only [pcrRegs, List.forall_mem_cons]
  exact ⟨.plain fun w s => .sub (.upd [.pwr] (by rfl)) (by rfl), .plain fun v s => (within_effDomWrite ..).sub (by rfl),
    .plain fun w s => .sub (.ite (within_effPstateReq ..) (.refl [] _)) (by rfl), .ro, .ro, List.forall_mem_nil _⟩

theorem keeps_rcvRegs (s : State) : ∀ r ∈ rcvRegs s, r.Keeps := by
  simp only [rcvRegs, List.forall_mem_cons]
  exact ⟨.ro, .w1c fun _ s => .refl _ s, .rw fun v s => .sub (.upd [.replay] (by rfl)) (by rfl),
    .plain fun w s => .sub (.ite (.after (within_effExportGo ..) (.upd [.rcv] (by rfl))) (.upd [.rcv] (by rfl))) (by rfl),
    .w1c fun v s => .sub (.upd [.rcv] (by rfl)) (by rfl), List.forall_mem_nil _⟩

theorem keeps_bivRegs (s : State) : ∀ r ∈ bivRegs s, r.Keeps := by
  simp only [bivRegs, List.forall_mem_cons]
  exact ⟨.cmd fun v s => (within_bivCmdWrite ..).sub (by rfl), .w1c fun v s => .sub (.upd [.biv] (by rfl)) (by rfl), .rw fun v s => .sub (.upd [.biv] (by rfl)) (by rfl),
    .plain fun w s => .sub (.upd [.biv] (by rfl)) (by rfl), .ro, List.forall_mem_nil _⟩

theorem within_cvuFlags (c : Nat) (f : Cvu → Cvu) (s : State) : Within [.cvu] s (onCvu c (fun x s => setCvu s c (f x)) s) :=
  within_onCvu (fun _ _ => within_setCvu ..) s

theorem keeps_cvuRegs (s : State) (c : Nat) : ∀ r ∈ cvuRegs s c, r.Keeps := by
  have advance (b n v : Nat) (f : Cvu → Cvu) :
      Reg.Keeps { base := b, n := n, val := v, rc := some fun _ s => onCvu c (fun x s => setCvu s c (f x)) s } :=
    ⟨fun _ s => .refl _ s, fun _ same => by
      obtain rfl := Option.some.inj same
      exact fun _ s => (within_cvuFlags ..).sub (by rfl)⟩
  simp only [cvuRegs, List.forall_mem_cons]
  exact ⟨.plain fun v s => (within_effCvuPreset ..).sub (by rfl), .rw fun v s => (within_cvuParam ..).sub (by rfl),
    .rw fun v s => (within_cvuParam ..).sub (by rfl), .rw fun v s => (within_cvuParam ..).sub (by rfl), .go fun v s => .sub (.ite (.after
        (within_effCvuFinish ..) (.ite (within_effCvuStart ..) (.refl [] _)))
      (.ite (within_effCvuStart ..) (.refl [] _))) (by rfl),
    .w1c fun v s => (within_cvuFlags ..).sub (by rfl), .cmd fun v s => (within_effCvuFold ..).sub (by rfl),
    .rw fun v s => (within_cvuFlags ..).sub (by rfl), .ro, .go fun v s => (within_effCvuData8 ..).sub (by rfl),
    .cmd fun v s => (within_effCvuData16 ..).sub (by rfl), .cmd fun v s => (within_effCvuData32 ..).sub (by rfl), advance ..,
    .go fun v s => (within_effCvuAlvRx ..).sub (by rfl), List.forall_mem_nil _⟩

theorem keeps_rtcRegs (s : State) : ∀ r ∈ rtcRegs s, r.Keeps := by
  simp only [rtcRegs, List.forall_mem_cons]
  refine ⟨.plain fun w s => ?_, .w1c fun v s => (within_rtcField ..).sub (by rfl), .rw fun v s => (within_rtcField ..).sub (by rfl),
    .rw fun v s => (within_rtcField ..).sub (by rfl), .rw fun v s => (within_rtcField ..).sub (by rfl), .ro, .ro, .ro,
    .rw fun v s => (within_almWrite ..).sub (by rfl), .rw fun v s => (within_almWrite ..).sub (by rfl), .rw fun v s => (within_almWrite ..).sub (by rfl),
    .rw fun v s => (within_almWrite ..).sub (by rfl), List.forall_mem_nil _⟩
  split
  · exact .refl _ _
  · exact .sub (within_woWrite (fun v s => within_rtcCmd ..) s) (by rfl)

theorem keeps_flRegs (s : State) (src : Nat) : ∀ r ∈ flRegs s src, r.Keeps := by
  simp only [flRegs, List.forall_mem_cons]
  exact ⟨.cmd fun v s => (within_flashStart ..).sub (by rfl), .rw fun v s => .sub (.upd [.flash] (by rfl)) (by rfl), .rw fun v s => .sub (.upd [.flash] (by rfl)) (by rfl),
    .w1c fun v s => .sub (.upd [.flash] (by rfl)) (by rfl), .rc fun v s => .sub (.upd [.flash] (by rfl)) (by rfl), .rw fun v s => .sub (.upd [.flash] (by rfl)) (by rfl),
    List.forall_mem_nil _⟩

theorem keeps_wdogReg (s : State) : (wdogReg s).Keeps := by
  refine .plain fun w s => ?_
  extract_lets v u t
  have held : Within [.held] s u := within_woStore ..
  clear_value u
  have kicked : Within [.pwrMc, .held] s t := .sub (.ite (.after (within_effMcKick ..) held) held) (by rfl)
  clear_value t
  split
  · exact .sub (.after (within_effMcPeriod ..) kicked) (by rfl)
  · exact kicked.sub (by rfl)

/-- The registers of the HOST domain below its doorbells and the Deposit Window. -/
theorem keeps_hostRegs {s : State} {a : Nat} {r : Reg} (h : hostRegs s a = some r) : r.Keeps := by
  unfold hostRegs at h
  dsimp only at h
  split at h
  · obtain rfl := Option.some.inj h
    exact .plain fun w s => (within_depWrite ..).sub (by rfl)
  split at h
  · obtain rfl := Option.some.inj h
    exact .plain fun w s => (within_effDepositFlag ..).sub (by rfl)
  split at h
  · split at h
    · obtain rfl := Option.some.inj h
      exact .plain fun w s => (within_effSubmissionDoorbell ..).sub (by rfl)
    split at h
    · obtain rfl := Option.some.inj h
      exact .plain fun w s => (within_effCompletionDoorbell ..).sub (by rfl)
    split at h
    · obtain rfl := Option.some.inj h
      exact .ro
    · obtain rfl := Option.some.inj h
      exact .ro
  · refine List.forall_mem_cons.2 ?_ r (List.mem_of_find?_eq_some h)
    simp only [List.forall_mem_cons]
    exact ⟨.rw fun v s => .sub (.upd [.obj] (by rfl)) (by rfl), .cmd fun v s => (within_objCmdWrite ..).sub (by rfl), .plain fun w s => .sub (.upd [.obj] (by rfl)) (by rfl),
      .ro, .rw fun v s => .sub (.upd [.hif] (by rfl)) (by rfl), .rw fun v s => .sub (.upd [.hif] (by rfl)) (by rfl), .rw fun v s => .sub (.upd [.hif] (by rfl)) (by rfl),
      .go fun v s => .sub (.ite (within_effHbGo ..) (.refl [] _)) (by rfl), .w1c fun v s => .sub (.upd [.hif] (by rfl)) (by rfl),
      .plain fun w s => (within_effErqBase ..).sub (by rfl), .plain fun w s => (within_effErqEnable ..).sub (by rfl), .ro,
      .plain fun w s => (within_effErqHead ..).sub (by rfl), .rc fun v s => .sub (.upd [.erq] (by rfl)) (by rfl), .ro, .rw fun v s => .sub (.upd [.dict] (by rfl)) (by rfl),
      .plain fun w s => (within_effMbxGo ..).sub (by rfl), .w1c fun v s => .sub (.upd [.dict] (by rfl)) (by rfl), .ro, List.forall_mem_nil _⟩

theorem forall_mem_ite {α : Type} {P : α → Prop} {c : Prop} [Decidable c] {l m : List α} (a : ∀ x ∈ l, P x) (b : ∀ x ∈ m, P x) :
    ∀ x ∈ if c then l else m, P x := by
  split
  · exact a
  · exact b

theorem keeps_blockRegs (view : RegView) (s : State) (a : Nat) : ∀ r ∈ blockRegs view s a, r.Keeps := by
  have one {r : Reg} (h : r.Keeps) : ∀ x ∈ [r], x.Keeps := List.forall_mem_singleton.2 h
  cases view with
  | bar4 => exact List.forall_mem_nil _
  | host =>
    unfold blockRegs
    exact forall_mem_ite (keeps_nlkRegs s _) <| forall_mem_ite (keeps_fabRegs s) <| forall_mem_ite (one .ro) <|
      forall_mem_ite (keeps_pairRegs s) <| forall_mem_ite (keeps_ntxRegs s) <| forall_mem_ite (keeps_netRegs s) <|
      forall_mem_ite (keeps_ethRegs s _) <| forall_mem_ite (keeps_secRegs s _) <| forall_mem_ite (keeps_pcrRegs s _ _) <|
      forall_mem_ite (keeps_rcvRegs s) <| forall_mem_ite (keeps_bivRegs s) <| forall_mem_ite (keeps_sealRegs s) <|
      List.forall_mem_nil _
  | mc src =>
    unfold blockRegs
    exact forall_mem_ite (keeps_cvuRegs s _) <| forall_mem_ite (keeps_rtcRegs s) <| forall_mem_ite (keeps_flRegs s _) <|
      forall_mem_ite (one (keeps_wdogReg s)) <| forall_mem_ite (keeps_pcrRegs s _ _) <| forall_mem_ite (keeps_secRegs s _) <|
      List.forall_mem_nil _

theorem keeps_regAt {view : RegView} {s : State} {a : Nat} {r : Reg} (h : regAt view s a = some r) : r.Keeps := by
  unfold regAt at h
  split at h
  · next x found =>
    obtain rfl := Option.some.inj h
    exact keeps_blockRegs view s a _ (List.mem_of_find?_eq_some found)
  · split at h
    · exact keeps_hostRegs h
    · cases h

theorem within_onParts {l : List Part} {act : Nat × Nat → State → State} (h : ∀ p s, Within l s (act p s))
    (parts : List (Nat × Nat)) (s : State) : Within ([.free] ++ l) s (onParts parts act s) := by
  unfold onParts
  split
  · exact (h ..).right
  · exact .foldl (fun s p => within_mayBe (h p) s) _ _

theorem within_storePart (s : State) (view : RegView) (a : Nat) (b : Bytes) (p : Nat × Nat) :
    Within writeParts s (storePart view a b p s) := by
  unfold storePart
  split
  · next r at_p => exact (keeps_regAt at_p).1 _ s
  · exact .refl _ _

theorem within_regPut (s : State) (view : RegView) (a : Nat) (b : Bytes) : Within writeParts s (regPut view a b s) := by
  unfold regPut
  split
  · exact (within_msixWrite ..).sub (by rfl)
  split
  · exact .refl _ _
  · extract_lets parts
    have partly : Within writeParts s parts := (within_onParts (fun p s => within_storePart s view a b p) _ s).sub (by rfl)
    clear_value parts
    split
    · next r at_a =>
      split
      · exact (keeps_regAt at_a).1 _ s
      · exact partly
    · exact partly

theorem within_regStore (s : State) (view : RegView) (a : Nat) (b : Bytes) : Within writeParts s (regStore view a b s) := by
  unfold regStore
  exact .sub (.ite (.refl [] _) (within_regPut ..)) (by rfl)

theorem within_rcClear {r : Reg} (h : r.Keeps) (o n : Nat) (s : State) : Within writeParts s (rcClear r o n s) := by
  unfold rcClear
  split
  · exact .refl _ _
  · next put clears => exact h.2 put clears _ s

theorem within_loadPart (s : State) (view : RegView) (p : Nat × Nat) : Within writeParts s (loadPart view p s) := by
  unfold loadPart
  split
  · next r at_p => exact within_rcClear (keeps_regAt at_p) ..
  · exact .refl _ _

theorem within_regFetch (s : State) (view : RegView) (a n : Nat) : Within writeParts s (regFetch view a n s).2 := by
  unfold regFetch
  split
  · exact .refl _ _
  split
  · exact .refl _ _
  split
  · exact .refl _ _
  · extract_lets parts
    have drew : Within writeParts s (drawn s) := (within_drawn ..).sub (by rfl)
    have partly : Within writeParts s parts.2 := drew.trans ((within_onParts (fun p s => within_loadPart s view p) _ _).sub (by rfl))
    clear_value parts
    split
    · next r at_a =>
      split
      · exact drew.trans (within_rcClear (keeps_regAt at_a) ..)
      · exact partly
    · exact partly

theorem within_regLoad (s : State) (view : RegView) (a n : Nat) : Within writeParts s (regLoad view a n s) := by
  unfold regLoad
  split
  · exact .refl _ _
  split
  · exact .sub (.upd [.flash] (by rfl)) (by rfl)
  · exact .sub (.after (within_emit ..) (within_regFetch ..)) (by rfl)

end Sys2Proof.Machine
end

section
/-!
PROOF. The parts that JTAG reach.
-/
namespace Sys2Proof.Machine
open Host

theorem within_jtagSelect (s : State) (op : BitVec 8) :
    Within ([.free, .out, .vb, .biv, .quad, .tile, .mesh, .hbm, .port, .erqIn, .msix, .hif, .ctx, .queue, .ev,
      .obj, .txns, .tags, .quar] ++ [.txn, .pair, .ctxKey, .jobKey, .memKey, .gcmKey, .ret, .khCtl, .jtag, .kh, .seals,
      .sealRows, .sealer, .rcv, .qp, .ethPort, .stat, .dict]) s (jtagSelect op s) := by
  unfold jtagSelect
  extract_lets k u
  have selected : Within [.jtag] s u := .upd [.jtag] (by rfl)
  clear_value u
  have evicted := Within.after (within_evictAll u 4) selected
  exact .sub (.ite (.after (.upd [.kh] (by rfl)) evicted) selected) (by rfl)

theorem within_effJtagOp (s : State) (op : BitVec 8) : Within writeParts s (effJtagOp op s) := by
  unfold effJtagOp
  dsimp only
  exact .sub (.ite (.refl [] _) (.ite (.ite (.refl [] _) (.after (within_jtagSelect ..) (within_coldReset ..))) (.ite
      (.refl [] _) (within_jtagSelect ..)))) (by rfl)

theorem within_dbgRead (s : State) (on : Bool) (b : Bytes) : Within [.out] s (dbgRead on b s) := by
  unfold dbgRead
  exact .sub (within_emit ..) (by rfl)

theorem within_dbgAccess (s : State) (a : DbgAccess) : Within writeParts s (dbgAccess s a) := by
  unfold dbgAccess
  dsimp only
  split
  · exact .sub (.after (within_drawn ..) (within_emit ..)) (by rfl)
  · exact .sub (.ite (within_emit ..) (.after (within_emit ..) (within_regFetch ..))) (by rfl)
  · exact .sub (.ite (.refl [] _) (within_regPut ..)) (by rfl)
  · exact .sub (within_dbgRead ..) (by rfl)
  · exact .sub (.ite (within_hbmWrite ..) (.refl [] _)) (by rfl)
  · exact .sub (within_dbgRead ..) (by rfl)
  · exact .sub (.ite (within_spWrite ..) (.refl [] _)) (by rfl)
  · exact .sub (.after (within_drawn ..) (within_emit ..)) (by rfl)
  · exact .sub (.upd [.kh] (by rfl)) (by rfl)
  · exact .refl _ _
  · exact .sub (.upd [.kh] (by rfl)) (by rfl)

theorem within_effJtag (s : State) (x : JtagScan) : Within writeParts s (effJtag x s) := by
  unfold effJtag
  refine .trans (within_effJtagOp ..) (.foldl (fun s x => ?_) _ _)
  split
  · exact within_dbgAccess ..
  · exact .refl _ _

theorem within_effTapReset (s : State) : Within coldParts s (effTapReset s) := by
  unfold effTapReset
  dsimp only
  exact .sub (.ite (.refl [] _) (.ite (within_coldReset ..) (.ite (within_coldReset ..) (.upd [.jtag, .kh] (by rfl))))) (by rfl)

end Sys2Proof.Machine
end

section
/-!
PROOF. The parts that refusals of the host reach.
-/
namespace Sys2Proof.Machine
open Host

theorem within_sealRefused (s : State) (id : Nat) : Within [.queue] s (sealRefused id s) := by
  unfold sealRefused
  dsimp only
  exact .sub (.of [.queue] ⟨fun f => by dsimp only; exact tabWf_tmap _ _ _ f.queue, trivial⟩ (by rfl)) (by rfl)

theorem within_rowsRefused (s : State) (id : Nat) :
    Within [.out, .tile, .erqIn, .queue, .sealRows, .dict] s (rowsRefused id s) := by
  unfold rowsRefused
  dsimp only
  exact .sub (.after (.foldl (fun s x => within_slotGot ..) _ _) (.upd [.sealRows] (by rfl))) (by rfl)

theorem within_writeRefused (s : State) (r : HostReq) (addr : Nat) :
    Within [.out, .tile, .erqIn, .erq, .msix, .hif, .queue, .sealRows, .rcv, .dict] s (writeRefused r addr s) := by
  unfold writeRefused
  dsimp only
  split
  · exact .sub (.after (within_completionLanded ..) (.after (within_raise ..) (.after (within_rowsRefused ..)
      (within_dropReq ..)))) (by rfl)
  · exact .sub (.after (within_erqLanded ..) (.after (within_raise ..) (.after (within_rowsRefused ..) (within_dropReq ..)))) (by rfl)
  · exact .sub (.after (within_raise ..) (.after (within_rowsRefused ..) (within_dropReq ..))) (by rfl)
  · split
    · exact .sub (.after (within_slotGot ..) (.after (within_slotFail ..) (.after (within_rowsRefused ..) (within_dropReq ..)))) (by rfl)
    · exact .sub (.after (within_slotGot ..) (.after (within_raise ..) (.after (within_rowsRefused ..) (within_dropReq ..)))) (by rfl)
  · exact .sub (.after (within_slotGot ..) (.after (within_sealRefused ..) (.after (within_raise ..) (.after
      (within_rowsRefused ..) (within_dropReq ..))))) (by rfl)
  · exact .sub (.after (within_exportTry ..) (.after (.upd [.rcv] (by rfl)) (.after (within_raise ..) (.after (within_rowsRefused ..)
      (within_dropReq ..))))) (by rfl)

theorem within_moveRefused (s : State) (t : Nat) (n : Nat) (addr : Nat) :
    Within [.free, .out, .tile, .erqIn, .dict] s (moveRefused t n addr s) := by
  unfold moveRefused
  dsimp only
  exact .sub (.ite (.after (within_slotTry ..) (.after (within_begin ..) (.after (within_slotFail ..) (.after (within_drawn ..)
      (.foldl (fun s x => within_spWrite ..) _ _))))) (.refl [] _)) (by rfl)

theorem within_jobRefused (s : State) (q : Nat) (addr : Nat) :
    Within [.free, .out, .quad, .tile, .hbm, .port, .erqIn, .msix, .hif, .queue, .ev, .pair, .seals, .sealer, .rcv, .stat,
      .dict] s (jobRefused q addr s) := by
  unfold jobRefused
  dsimp only
  exact .sub (.after (within_jobTry ..) (.after (within_endJob ..) (within_raise ..))) (by rfl)

theorem within_digestRefused (s : State) (freeze : Bool) (x : ObjCmd) (addr : Nat) :
    Within cmdParts s (digestRefused freeze x addr s) := by
  unfold digestRefused
  extract_lets n
  split
  · exact .refl _ _
  · exact .sub (within_objCmd (l := []) (fun d s => .check .fail) s) (by rfl)

theorem within_effHostRefused (s : State) (who : HostReqRef) (addr : Nat) (hr : List Cell) :
    Within [.free, .out, .quad, .tile, .mesh, .hbm, .port, .erqIn, .erq, .msix, .hif, .queue, .ev, .obj, .pair, .seals,
      .sealRows, .sealer, .rcv, .qp, .ethPort, .stat, .dict] s (effHostRefused who addr hr s) := by
  unfold effHostRefused
  dsimp only
  split
  · split
    · exact .sub (within_writeRefused ..) (by rfl)
    · exact .refl _ _
  · exact .sub (within_moveRefused ..) (by rfl)
  · exact .sub (.ite (.after (within_jobRefused ..) (within_takeEntry ..)) (.refl [] _)) (by rfl)
  · exact .sub (.ite (.after (within_jobRefused ..) (within_takeEntry ..)) (.refl [] _)) (by rfl)
  · split
    · exact .sub (.ite (within_jobRefused ..) (.refl [] _)) (by rfl)
    · exact .refl _ _
  · exact .sub (within_digestRefused ..) (by rfl)
  · exact .sub (within_replayNext (fun _ _ => within_jobRefused ..) _) (by rfl)
  · exact .sub (.ite (.after (within_qpError ..) (within_raise ..)) (.refl [] _)) (by rfl)

end Sys2Proof.Machine
end

section
/-!
PROOF. The parts that a tick reach.
-/
namespace Sys2Proof.Machine
open Host

theorem within_tickKeyholder (s : State) :
    Within [.free, .out, .biv, .tile, .hbm, .port, .erqIn, .msix, .hif, .ctx, .queue, .mo, .obj, .txn, .rtDirty, .fab,
      .pairSt, .cseq, .before, .pair, .ctxKey, .jobKey, .memKey, .gcmKey, .ret, .chassis, .khCtl, .kh, .sealRows, .replay, .qp,
      .dict, .wrapped] s (tickKeyholder s) := by
  unfold tickKeyholder
  dsimp only
  split
  · exact .refl _ _
  · exact .sub (.ite (within_khServed ..) (.upd [.kh] (by rfl))) (by rfl)

end Sys2Proof.Machine
end

section
/-!
PROOF. What every step keeps: the queue, the identity, the fuses, the form of the tables and the number of the units.
-/
namespace Sys2Proof.Machine
open Host

/-! ## A command -/

theorem Within.kept_next {l : List Part} {s t u : State} (w : Within l s u)
    (h : (Outcome.next u : Outcome State Fault Refusal) = .next t) : Kept s t := by
  obtain rfl := Outcome.next.inj h
  exact w.kept

/-- A command that writes one register, where its requester reaches it. -/
theorem kept_regWriteIf {l : List Part} {act : State → State} {w : RegWr} {n : Nat} {c : Prop} [Decidable c] {s t : State}
    (h : ∀ s, Within l s (act s)) (ran : (if c then .next s else regWrite w n act s) = .next t) : Kept s t := by
  split at ran
  · exact Outcome.next.inj ran ▸ Kept.refl s
  · exact (within_regWrite h ran).kept

theorem kept_offDomainAccess {addr n : Nat} {data : Option Bytes} {s t : State}
    (h : execBar0OffDomainAccess addr n data s = .next t) : Kept s t := by
  unfold execBar0OffDomainAccess at h
  split at h
  · exact Outcome.next.inj h ▸ Kept.refl s
  · split at h
    · exact Outcome.next.inj h ▸ Kept.refl s
    · exact (within_emit ..).kept_next h

/-- No command touches the queue, the identity, a fuse that is set, or the form of a table. -/
theorem kept_exec {s t : State} : ∀ i : Instr, exec i s = .next t → Kept s t
  | .registerWrite _ _ _, h => (within_regStore ..).kept_next h
  | .rcCounterRead _ _ _, h => (within_regLoad ..).kept_next h
  | .bar0OffDomainAccess _ _ _, h => kept_offDomainAccess h
  | .bar2Read, h => (within_effBar2Read ..).kept_next h
  | .descriptorAdmit _, h => (within_effAdmit ..).kept_next h
  | .decodeFailureEnd _, h => (within_effDecodeFailureEnd ..).kept_next h
  | .descriptorIssue _ _, h => (within_effIssue ..).kept_next h
  | .matmul _ _, h => (within_effMatmul ..).kept_next h
  | .exaRead _ _, h => (within_effExaRead ..).kept_next h
  | .vec _ _, h => (within_effVec ..).kept_next h
  | .move _ _ _, h => (within_effMove ..).kept_next h
  | .send _ _, h => (within_effSend ..).kept_next h
  | .recv _ _, h => (within_effRecv ..).kept_next h
  | .reduce _ _, h => (within_effReduce ..).kept_next h
  | .reduceRootComplete _ _, h => (within_effReduceRoot ..).kept_next h
  | .waitEvent _ _, h => (within_effWaitEvent ..).kept_next h
  | .signalEvent _ _, h => (within_effSignalEvent ..).kept_next h
  | .halt _ _, h => (within_effHalt ..).kept_next h
  | .descriptorSignalSend _ _ _, h => (within_effSignalSend ..).kept_next h
  | .tokenArrival _, h => (within_effToken ..).kept_next h
  | .creditReturn _, h => (within_effCredit ..).kept_next h
  | .ctxCreate _ _, h => (within_effCtxCreate ..).kept_next h
  | .ctxDestroy _, h => (within_effCtxDestroy ..).kept_next h
  | .contextFree _, h => (within_effContextFree ..).kept_next h
  | .ctxAbort _, h => (within_effCtxAbort ..).kept_next h
  | .ctxRestart _, h => (within_effCtxRestart ..).kept_next h
  | .qCreate _, h => (within_effQCreate ..).kept_next h
  | .qDestroy _, h => (within_effQDestroy ..).kept_next h
  | .qStop _, h => (within_effQStop ..).kept_next h
  | .qStart _, h => (within_effQStart ..).kept_next h
  | .memCreate _, h => (within_effMemCreate ..).kept_next h
  | .memDestroy _, h => (within_effMemDestroy ..).kept_next h
  | .memFreeze _ _, h => (within_effMemFreeze ..).kept_next h
  | .memVerify _ _, h => (within_effMemVerify ..).kept_next h
  | .evCreate _, h => (within_effEvCreate ..).kept_next h
  | .evDestroy _, h => (within_effEvDestroy ..).kept_next h
  | .evAdd _, h => (within_effEvAdd ..).kept_next h
  | .evSet _, h => (within_effEvSet ..).kept_next h
  | .evArm _, h => (within_effEvArm ..).kept_next h
  | .submissionDoorbell _ _, h => (within_effSubmissionDoorbell ..).kept_next h
  | .completionDoorbell _ _, h => (within_effCompletionDoorbell ..).kept_next h
  | .nop _ _, h => (within_effNop ..).kept_next h
  | .run _ _, h => (within_effRun ..).kept_next h
  | .signal _ _, h => (within_effSignal ..).kept_next h
  | .quadrantAcquire, h => (within_effQuadrantAcquire ..).kept_next h
  | .ownerChangeScrubDone _, h => (within_effScrubDone ..).kept_next h
  | .jobStart _ _, h => (within_effJobStart ..).kept_next h
  | .jobComplete _, h => (within_effJobComplete ..).kept_next h
  | .errorRecordAccept _, h => (Within.after (within_recordEnd ..) (within_effErrorAccept ..)).kept_next h
  | .erqBaseWrite _, h => kept_regWriteIf (fun _ => (within_effErqBase ..)) h
  | .erqHeadWrite _, h => kept_regWriteIf (fun _ => (within_effErqHead ..)) h
  | .erqEnable _, h => kept_regWriteIf (fun _ => (within_effErqEnable ..)) h
  | .hbGo, h => (within_effHbGo ..).kept_next h
  | .biasChangeDone, h => (within_effBiasDone ..).kept_next h
  | .hostAccessRefused _ _ _, h => (within_effHostRefused ..).kept_next h
  | .depositArm _ _, h => kept_regWriteIf (fun _ => (within_effDepositArm ..)) h
  | .depositDisarm _ _, h => kept_regWriteIf (fun _ => (within_effDepositDisarm ..)) h
  | .depositDrainDone _, h => (within_effDepositDrained ..).kept_next h
  | .depositWrite _ _ _ _, h => (within_effDepositWrite ..).kept_next h
  | .depositFlag _ _ _, h => (within_effDepositFlag ..).kept_next h
  | .depositFlagApply _, h => (within_effFlagApply ..).kept_next h
  | .declare _ _ _, h => (within_effDeclare ..).kept_next h
  | .release _, h => (within_effRelease ..).kept_next h
  | .claim _ _ _ _, h => (within_effClaim ..).kept_next h
  | .discard _, h => (within_effDiscard ..).kept_next h
  | .hostLossTrigger _, h => (within_effHostLoss ..).kept_next h
  | .hostLossDrainEnd, h => (within_effDrainEnd ..).kept_next h
  | .bivouacSealDone, h => (within_effSealDone ..).kept_next h
  | .qpCreate _, h => (within_effQpCreate ..).kept_next h
  | .qpDestroy _, h => (within_effQpDestroy ..).kept_next h
  | .qpFail _, h => (within_effQpFail ..).kept_next h
  | .qpRecover _, h => (within_effQpRecover ..).kept_next h
  | .mrReg _, h => (within_effMrReg ..).kept_next h
  | .mrDereg _, h => (within_effMrDereg ..).kept_next h
  | .ethFrameReceive _ _, h => (within_effEthFrame ..).kept_next h
  | .pfcPauseReceived _, h => (within_effPfcPause ..).kept_next h
  | .roceInboundPacket _, h => (within_effRoceInbound ..).kept_next h
  | .rocePacketLanded _, h => (within_effRoceLanded ..).kept_next h
  | .roceWritePost _ _, h => (within_effRocePost ..).kept_next h
  | .roceAckReceived _, h => (within_effRoceAck ..).kept_next h
  | .roceNakReceived _ _, h => (within_effRoceNak ..).kept_next h
  | .roceAckTimeout _ _, h => (within_effRoceTimeout ..).kept_next h
  | .roceCnpReceived _, h => (within_effRoceCnp ..).kept_next h
  | .roceRateIncrease _, h => (within_effRoceRate ..).kept_next h
  | .ethLinkDown _, h => (within_effEthDown ..).kept_next h
  | .fecBlockReceive _ _ _ _ _ _, h => (within_effFecBlock ..).kept_next h
  | .linkFrameReceive _, h => (within_effFrameReceive ..).kept_next h
  | .linkFrameTransmit _, h => (within_effFrameTransmit ..).kept_next h
  | .replayTimeout _, h => (within_effReplayTimeout ..).kept_next h
  | .lossOfSignal _ _, h => (within_effLossOfSignal ..).kept_next h
  | .nlkRetrain _ _, h => kept_regWriteIf (fun _ => (within_effNlkRetrain ..)) h
  | .nlkTrain _ _, h => kept_regWriteIf (fun _ => (within_effNlkTrain ..)) h
  | .nlkEnable _ _, h => kept_regWriteIf (fun _ => (within_effNlkEnable ..)) h
  | .nlkFlowWrite _ _, h => kept_regWriteIf (fun _ => (within_effNlkFlow ..)) h
  | .trainingComplete _ _ _ _ _ _, h => (within_effTrainingComplete ..).kept_next h
  | .trainingTimeout _, h => (within_effTrainingTimeout ..).kept_next h
  | .retrainTimeout _, h => (within_effRetrainTimeout ..).kept_next h
  | .autoTrain _, h => (within_effAutoTrain ..).kept_next h
  | .recalWindowStart _, h => (within_effRecalStart ..).kept_next h
  | .recalWindowEnd _, h => (within_effRecalEnd ..).kept_next h
  | .recalPeriodEnd _, h => (within_effRecalPeriod ..).kept_next h
  | .segmentSend _, h => (within_effSegmentSend ..).kept_next h
  | .load _, h => (within_effLoad ..).kept_next h
  | .store _, h => (within_effStore ..).kept_next h
  | .copy _, h => (within_effCopy ..).kept_next h
  | .atomicAdd _, h => (within_effAtomicAdd ..).kept_next h
  | .atomicMin _, h => (within_effAtomicMin ..).kept_next h
  | .atomicMax _, h => (within_effAtomicMax ..).kept_next h
  | .atomicSwap _, h => (within_effAtomicSwap ..).kept_next h
  | .atomicCas _, h => (within_effAtomicCas ..).kept_next h
  | .exaAdd _, h => (within_effExaAdd ..).kept_next h
  | .exaRed _, h => (within_effExaRed ..).kept_next h
  | .reduceDone _, h => (within_effReduceDone ..).kept_next h
  | .fence _, h => (within_effFence ..).kept_next h
  | .doneResponse _, h => (within_effDoneResponse ..).kept_next h
  | .dataResponse _, h => (within_effDataResponse ..).kept_next h
  | .transitForward _ _, h => (within_effTransit ..).kept_next h
  | .ntxLoad, h => (within_effNtxLoad ..).kept_next h
  | .ntxStore, h => (within_effNtxStore ..).kept_next h
  | .ntxAtomic, h => (within_effNtxAtomic ..).kept_next h
  | .ntxFence, h => (within_effNtxFence ..).kept_next h
  | .tagQuarantineEnd _, h => (within_effTagQuarantineEnd ..).kept_next h
  | .cairnSend _, h => (within_effCairnSend ..).kept_next h
  | .cairnReceive _, h => (within_effCairnReceive ..).kept_next h
  | .cairnTimeout _, h => (within_effCairnTimeout ..).kept_next h
  | .routeRecompute, h => (within_effRouteRecompute ..).kept_next h
  | .addressAssign, h => (within_effAddressAssign ..).kept_next h
  | .addressConflict, h => (within_effAddressConflict ..).kept_next h
  | .pairBind _ _, h => (within_effPairBind ..).kept_next h
  | .pairSyncDone, h => (within_effPairSyncDone ..).kept_next h
  | .mirrorHeartbeatSend, h => (within_effHeartbeatSend ..).kept_next h
  | .heartbeat, h => (within_effMirHeartbeat ..).kept_next h
  | .write, h => (within_effMirWrite ..).kept_next h
  | .region, h => (within_effMirRegion ..).kept_next h
  | .ckpt, h => (within_effMirCkpt ..).kept_next h
  | .ack, h => (within_effMirAck ..).kept_next h
  | .unbind, h => (within_effMirUnbind ..).kept_next h
  | .heartbeatMiss, h => (within_effHeartbeatMiss ..).kept_next h
  | .ckGo, h => (within_effCkGo ..).kept_next h
  | .pairRoleWrite _, h => (within_effRoleWrite ..).kept_next h
  | .unbindTimeout, h => (within_effUnbindTimeout ..).kept_next h
  | .jkInstall _ _ _, h => (within_effJkInstall ..).kept_next h
  | .jkErase _ _, h => (within_effJkErase ..).kept_next h
  | .chassisSet _, h => (within_effChassisSet ..).kept_next h
  | .dbgChallenge _, h => (within_effDbgChallenge ..).kept_next h
  | .dbgGrant _, h => (within_effDbgGrant ..).kept_next h
  | .dbgLower _, h => (within_effDbgLower ..).kept_next h
  | .secureHoldLimit, h => (within_effHoldLimit ..).kept_next h
  | .tamperResponse _, h => (within_effTamper ..).kept_next h
  | .entropyHealthFail, h => (within_effEntropyFail ..).kept_next h
  | .jtagInstruction _, h => (within_effJtag ..).kept_next h
  | .tapReset, h => (within_effTapReset ..).kept_next h
  | .cvuStart _, h => (within_effCvuStart ..).kept_next h
  | .cvuFinish _, h => (within_effCvuFinish ..).kept_next h
  | .cvuFold _ _, h => (within_effCvuFold ..).kept_next h
  | .cvuData8 _ _, h => (within_effCvuData8 ..).kept_next h
  | .cvuData16 _ _, h => (within_effCvuData16 ..).kept_next h
  | .cvuData32 _ _, h => (within_effCvuData32 ..).kept_next h
  | .cvuPreset _ _, h => kept_regWriteIf (fun _ => (within_effCvuPreset ..)) h
  | .cvuAlvTx _, h => (within_effCvuAlvTx ..).kept_next h
  | .cvuAlvRx _ _, h => (within_effCvuAlvRx ..).kept_next h
  | .openSlot _ _, h => (within_effOpen ..).kept_next h
  | .sealDiscard _ _, h => (within_effSealDiscard ..).kept_next h
  | .sealRowLanded _, h => (within_effSealRow ..).kept_next h
  | .pcrDomreq _ _, h => kept_regWriteIf (fun _ => (within_effDomWrite ..)) h
  | .domainRequestResume, h => (within_effResume ..).kept_next h
  | .pcrPstateReq _ _, h => (within_effPstateReq ..).kept_next h
  | .powerStateRequest _, h => (within_effStateRequest ..).kept_next h
  | .p1Enter, h => (within_effP1Enter ..).kept_next h
  | .pciPowerState _, h => (within_effPciPower ..).kept_next h
  | .perstAssertInP3, h => (within_effPerstP3 ..).kept_next h
  | .perstDeassert, h => (within_effPerstRise ..).kept_next h
  | .configRequest _, h => (within_effConfig ..).kept_next h
  | .refclkLoss _, h => (within_effRefclk ..).kept_next h
  | .coldReset _, h => (within_effColdReset ..).kept_next h
  | .bootStageComplete, h => (within_effBootStage ..).kept_next h
  | .deviceCoreReset _, h => (within_effCoreReset ..).kept_next h
  | .quadrantReset _, h => (within_effQuadReset ..).kept_next h
  | .scrubLine _ _, h => (within_effScrubLine ..).kept_next h
  | .scrubForcedSlot _ _, h => (within_effScrubSlot ..).kept_next h
  | .telemetrySample _, h => (within_effTelemetry ..).kept_next h
  | .tileProgressWatchdog _, h => (within_effTileWatchdog ..).kept_next h
  | .abseilDrainEnd, h => (within_effDrainStop ..).kept_next h
  | .abseilSampleDone, h => (within_effSampleDone ..).kept_next h
  | .abseilResetDone _, h => (within_effResetDone ..).kept_next h
  | .soloReplayEnd, h => (within_effReplayEnd ..).kept_next h
  | .soloReplayLimit, h => (within_effReplayLimit ..).kept_next h
  | .abseilAbandon, h => (within_effAbseilAbandon ..).kept_next h
  | .jobWatchdog _, h => (within_effJobWatchdog ..).kept_next h
  | .linkTransactionTimeout _, h => (within_effLinkTimeout ..).kept_next h
  | .mcWatchdog, h => (within_effMcWatchdog ..).kept_next h
  | .mcWdogKick _, h => (within_effMcKick ..).kept_next h
  | .rcvExportGo, h => (within_effExportGo ..).kept_next h
  | .stolegRead _ _, h => (within_effStolegRead ..).kept_next h
  | .stolegWrite _ _, h => (within_effStolegWrite ..).kept_next h
  | .writeSeg _ _, h => (within_effWriteSeg ..).kept_next h
  | .segDown _ _, h => (within_effSegDown ..).kept_next h
  | .stolegAbort _ _, h => (within_effStolegAbort ..).kept_next h
  | .segmentTimeout, h => (within_effSegTimeout ..).kept_next h
  | .identify _ _, h => (within_effIdentify ..).kept_next h
  | .stolegHeartbeatSend, h => (within_effStolegHb ..).kept_next h
  | .heartbeatReceive _, h => (within_effHbReceive ..).kept_next h
  | .mbxGo _, h => kept_regWriteIf (fun _ => (within_effMbxGo ..)) h
  | .writeChallenge, h => (within_effWriteChallenge ..).kept_next h
  | .fabricEpochWrite _, h => (within_effEpoch ..).kept_next h
  | .deviceAddressWrite _, h => (within_effAddress ..).kept_next h
  | .loadedRoutingTable _, h => (within_effRoutingTable ..).kept_next h
  | .resetRequest _, h => (within_effResetRequest ..).kept_next h
  | .outOfServiceClear, h => (within_effOosClear ..).kept_next h
  | .revokeSigningKey _, h => (within_effRevokeKey ..).kept_next h
  | .chassisKeyWrite _, h => (within_effChassisKey ..).kept_next h
  | .confirmImage, h => (within_effConfirm ..).kept_next h
  | .updateBegin, h => (within_effBegin ..).kept_next h
  | .updateFinish, h => (within_effFinish ..).kept_next h
  | .updateAbort, h => (within_effUpdateAbort ..).kept_next h
  | .updateData _, h => (within_effUpdateData ..).kept_next h
  | .restoreDefaults, h => (within_effRestore ..).kept_next h
  | .program _ _, h => (within_effProgram ..).kept_next h
  | .erase4K _ _, h => (within_effErase4K ..).kept_next h
  | .erase64K _ _, h => (within_effErase64K ..).kept_next h
  | .flashRead _ _, h => (within_effFlashRead ..).kept_next h
  | .blankCheck _ _, h => (within_effBlankCheck ..).kept_next h
  | .flashCommandDone _, h => (within_effFlashDone ..).kept_next h
  | .capture, h => (within_effCapture ..).kept_next h
  | .rtcSet, h => (within_effSet ..).kept_next h
  | .shift _, h => (within_effShift ..).kept_next h
  | .rtcTick, h => (within_effRtcTick ..).kept_next h
  | .setTime _, h => (within_effSetTime ..).kept_next h
  | .subsecondShift _, h => (within_effSubShift ..).kept_next h
  | .currentTime, h => (within_effCurrentTime ..).kept_next h
  | .mainPowerFail, h => (within_effPowerFail ..).kept_next h
  | .rtcUnlock, h => (within_effRtcUnlock ..).kept_next h
  | .pwrOkRise, h => (within_effPwrOkRise ..).kept_next h
  | .thermalTrip _ _, h => (within_effThermal ..).kept_next h
  | .pmbusAlert _ _, h => (within_effPmbusAlert ..).kept_next h
  | .trainingPatternsReceived _ _, h => (within_effTrainingPatterns ..).kept_next h
  | .ethLinkUp _, h => (within_effEthUp ..).kept_next h
  | .dataLinkLayerUp _, h => (within_effDllUp ..).kept_next h
  | .hostCompletion _, h => (within_effHostCompletion ..).kept_next h
  | .hostSnoop _, h => (within_effHostSnoop ..).kept_next h
  | .busOff, h => (within_effBusOff ..).kept_next h
  | .busOffRecovery, h => (within_effBusOffRecovery ..).kept_next h
  | .vbatSupplyApplied, h => (within_effVbatApplied ..).kept_next h
  | .vbatSupplyLoss, h => (within_effVbatLoss ..).kept_next h

/-! ## A tick -/

theorem within_clocked (s : State) : Within [.now, .scrub, .tile, .erq, .queue, .tags] s (clocked s) := by
  unfold clocked
  refine .of [.now, .scrub, .tile, .erq, .queue, .tags] ⟨trivial, fun four => ?_, fun f => ⟨?_, ?_⟩, trivial, fun f => ?_, fun f => ?_, trivial⟩ (by rfl)
  · dsimp only
    split
    · exact (List.length_map ..).trans four
    · exact four
  · dsimp only
    exact tabWf_tmap _ _ _ f.tile
  · intro e he
    obtain ⟨x, hx, rfl⟩ := List.mem_map.1 (List.mem_filter.1 he).1
    have formed := f.tiles x hx
    dsimp only
    split
    · exact formed
    · exact formed
  · dsimp only
    exact tabWf_tmap _ _ _ f.queue
  · dsimp only
    exact tabWf_tmap _ _ _ f.tags

theorem within_tick (s : State) : Within (.now :: writeParts) s (tick s) := by
  have clock : Within (.now :: writeParts) s (clocked s) := (within_clocked s).sub (by rfl)
  have kh (u : State) : Within (.now :: writeParts) u (tickKeyholder u) := (within_tickKeyholder u).sub (by rfl)
  have keyed (u : State) : Within (.now :: writeParts) u (keyedServed u) := (within_keyedServed u).sub (by rfl)
  have upd (u : State) : Within (.now :: writeParts) u (tickUpdate u) := (within_tickUpdate u).sub (by rfl)
  have power (u : State) : Within (.now :: writeParts) u (powerOn u) := (within_powerOn u).sub (by rfl)
  have later (u : State) : Within (.now :: writeParts) u (serveLater u) := (within_serveLater u).sub (by rfl)
  rw [tick_eq]
  exact clock.trans <| (kh _).trans <| (keyed _).trans <| (upd _).trans <| (power _).trans (later _)

/-! ## A step -/

/-- What a step keeps: a step that goes on runs the command at the front on the rest of the queue, or is a tick. -/
theorem kept_step {s t : State} (h : step s = .next t) : Kept (s.withPending s.pending.tail) t := by
  unfold step at h
  split at h
  · next empty =>
    have none_left : s.withPending s.pending.tail = s.withPending s.pending := by rw [empty, List.tail_nil]
    rw [none_left]
    exact (within_tick s).kept_next h
  · next c rest queue =>
    rw [queue]
    exact kept_exec c h

/-- Settles O5: every part that a step reaches keeps its form. -/
theorem stepKeepsTables : Obligations.StepKeepsTables := fun _ _ tables units stepped =>
  ⟨(kept_step stepped).tables tables, (kept_step stepped).units units⟩

/-- Settles O6: no part that a step reaches holds the identity, and those of the fuses only rise. -/
theorem fusesNeverClear : Obligations.FusesNeverClear := fun _ _ stepped =>
  ⟨(kept_step stepped).revoked, (kept_step stepped).minSvn, (kept_step stepped).id⟩

/-- Settles O7: no part that a command reaches holds the queue. -/
theorem commandsLeaveTheQueue : Obligations.CommandsLeaveTheQueue :=
  ⟨fun i _ _ ran => (kept_exec i ran).pending, fun s t c rest queue stepped => by
    have kept := (kept_step stepped).pending
    rwa [queue] at kept⟩

end Sys2Proof.Machine
end

section
/-!
PROOF. From the parts an operation may change to what it leaves as it was.
-/
namespace Sys2Proof.Machine
open Host

namespace Within

variable {l m : List Part} {s t u : State}

/-- The state after is the state before with the parts `l` taken from the state after. -/
theorem eq_graft (w : Within l s t) : t = graft l s t := by
  have back := graft_graft l t s t
  rw [w.same, graft_self] at back
  exact back.symm

/-- The parts of a command that goes on. -/
theorem ran (w : Within l s u) (h : (Outcome.next u : Outcome State Fault Refusal) = .next t) : Within l s t :=
  Outcome.next.inj h ▸ w

end Within

/-- The parts of a command that writes one register, where its requester reaches it. -/
theorem within_regWriteIf {l : List Part} {act : State → State} {w : RegWr} {n : Nat} {c : Prop} [Decidable c] {s t : State}
    (h : ∀ s, Within l s (act s)) (ran : (if c then .next s else regWrite w n act s) = .next t) : Within ([.free] ++ l) s t := by
  split at ran
  · exact Outcome.next.inj ran ▸ .refl _ _
  · exact within_regWrite h ran

/-! ## Check-value channels, the clock, the flash, seals and keys -/

theorem rtcFrame : Claims.RtcFrame := by
  rintro s t (h | h | ⟨n, h⟩ | h | h)
  · exact ((within_effCapture s).ran h).eq_graft ▸ rfl
  · exact ((within_effSet s).ran h).eq_graft ▸ rfl
  · exact ((within_effShift s n).ran h).eq_graft ▸ rfl
  · exact ((within_effRtcTick s).ran h).eq_graft ▸ rfl
  · exact ((within_effRtcUnlock s).ran h).eq_graft ▸ rfl

theorem flashFrame : Claims.FlashFrame := by
  rintro s t (⟨b, x, h⟩ | ⟨b, x, h⟩ | ⟨b, x, h⟩ | ⟨b, x, h⟩ | ⟨b, x, h⟩ | ⟨g, h⟩)
  · exact ((within_effProgram ..).ran h).eq_graft ▸ rfl
  · exact ((within_effErase4K ..).ran h).eq_graft ▸ rfl
  · exact ((within_effErase64K ..).ran h).eq_graft ▸ rfl
  · exact ((within_effFlashRead ..).ran h).eq_graft ▸ rfl
  · exact ((within_effBlankCheck ..).ran h).eq_graft ▸ rfl
  · exact ((within_effFlashDone ..).ran h).eq_graft ▸ rfl

theorem sealFrame : Claims.SealFrame := by
  intro s t slot rsv n
  refine ⟨?_, fun h => ?_⟩
  · rintro (h | h)
    · exact ((within_effOpen ..).ran h).eq_graft ▸ rfl
    · exact ((within_effSealDiscard ..).ran h).eq_graft ▸ rfl
  · have w := (within_effSealRow ..).ran h
    exact ⟨w.eq_graft ▸ rfl, w.read (·.sealer.stage)⟩

end Sys2Proof.Machine
end

section
/-!
PROOF. What the commands of a check-value channel leave of the other channels.
-/
namespace Sys2Proof.Machine
open Host

theorem lget_lset_of_ne {β : Type} (d v : β) (l : List β) {i j : Nat} (h : j ≠ i) : lget d (lset l i v) j = lget d l j := by
  induction l generalizing i j with
  | nil => rfl
  | cons x r ih =>
    cases i <;> cases j
    case zero.zero => exact absurd rfl h
    case succ.succ i j => exact ih (by omega)
    all_goals rfl

variable {s t : State} {c j : Nat}

theorem cvuOf_setCvu_of_ne (x : Cvu) (h : j ≠ c) : cvuOf (setCvu s c x) j = cvuOf s j := lget_lset_of_ne _ _ _ h

theorem cvuOf_onCvu_of_ne {act : Cvu → State → State} (h : ∀ x s, cvuOf (act x s) j = cvuOf s j) :
    cvuOf (onCvu c act s) j = cvuOf s j := by
  unfold onCvu
  split
  · exact h _ _
  · rfl

theorem cvuOf_cvuPass (b : Bytes) : cvuOf (cvuPass c b s) j = cvuOf s j := by
  unfold cvuOf
  rw [cvuPass_cvu]

theorem cvuOf_cvuFeed_of_ne (b : Bytes) (x : Cvu) (h : j ≠ c) : cvuOf (cvuFeed c b x s) j = cvuOf s j :=
  (cvuOf_cvuPass _).trans (cvuOf_setCvu_of_ne _ h)

theorem cvuOf_cvuData_of_ne (n v : Nat) (h : j ≠ c) : cvuOf (cvuData c n v s) j = cvuOf s j :=
  cvuOf_onCvu_of_ne fun x s => by
    split
    · exact cvuOf_setCvu_of_ne _ h
    · exact cvuOf_cvuFeed_of_ne _ _ h

theorem cvuOf_effCvuFold_of_ne (v : BitVec 64) (h : j ≠ c) : cvuOf (effCvuFold c v s) j = cvuOf s j :=
  cvuOf_onCvu_of_ne fun x s => by
    dsimp only
    split
    · exact cvuOf_setCvu_of_ne _ h
    · split
      · exact cvuOf_setCvu_of_ne _ h
      · exact cvuOf_setCvu_of_ne _ h

theorem cvuOf_effCvuFinish_of_ne (h : j ≠ c) : cvuOf (effCvuFinish c s) j = cvuOf s j :=
  cvuOf_onCvu_of_ne fun x s => by
    dsimp only
    split
    · rfl
    · split <;> exact (cvuOf_cvuPass _).trans (cvuOf_setCvu_of_ne _ h)

theorem cvuOf_effCvuPreset_of_ne (w : RegWr) (h : j ≠ c) : cvuOf (effCvuPreset c w s) j = cvuOf s j :=
  cvuOf_onCvu_of_ne fun x s => by
    dsimp only
    split <;> exact cvuOf_setCvu_of_ne _ h

theorem cvuOf_effCvuAlvRx_of_ne (a : BitVec 8) (h : j ≠ c) : cvuOf (effCvuAlvRx c a s) j = cvuOf s j :=
  cvuOf_onCvu_of_ne fun x s => by
    dsimp only
    split
    · rfl
    · split
      · exact cvuOf_setCvu_of_ne _ h
      · split
        · exact cvuOf_setCvu_of_ne _ h
        · split <;> exact cvuOf_setCvu_of_ne _ h

/-- A write of one register, done whole, dropped or as a draw has it, keeps what its effect and a draw keep. -/
theorem regWriteIf_keeps {β : Type} (f : State → β) {act : State → State} {w : RegWr} {n : Nat} {b : Prop} [Decidable b]
    (h : ∀ s, f (act s) = f s) (draw : ∀ s, f (drawn s) = f s)
    (ran : (if b then .next s else regWrite w n act s) = .next t) : f t = f s := by
  split at ran
  · rw [Outcome.next.inj ran]
  · obtain rfl := Outcome.next.inj ran
    dsimp only [mayBe]
    split
    · split
      · rw [h, draw]
      · rw [draw]
    · exact h s

theorem cvuFrame : Claims.CvuFrame := by
  rintro s t c i (rfl | rfl | ⟨v, rfl⟩ | ⟨v, rfl⟩ | ⟨v, rfl⟩ | ⟨v, rfl⟩ | ⟨w, rfl⟩ | rfl | ⟨a, rfl⟩) h
  · exact ⟨((within_effCvuStart ..).ran h).eq_graft ▸ rfl, fun j ne => Outcome.next.inj h ▸
      cvuOf_onCvu_of_ne fun _ _ => cvuOf_setCvu_of_ne _ ne⟩
  · exact ⟨((within_effCvuFinish ..).ran h).eq_graft ▸ rfl, fun j ne => Outcome.next.inj h ▸ cvuOf_effCvuFinish_of_ne ne⟩
  · exact ⟨((within_effCvuFold ..).ran h).eq_graft ▸ rfl, fun j ne => Outcome.next.inj h ▸ cvuOf_effCvuFold_of_ne v ne⟩
  · exact ⟨((within_effCvuData8 ..).ran h).eq_graft ▸ rfl, fun j ne => Outcome.next.inj h ▸ cvuOf_cvuData_of_ne _ _ ne⟩
  · exact ⟨((within_effCvuData16 ..).ran h).eq_graft ▸ rfl, fun j ne => Outcome.next.inj h ▸ cvuOf_cvuData_of_ne _ _ ne⟩
  · exact ⟨((within_effCvuData32 ..).ran h).eq_graft ▸ rfl, fun j ne => Outcome.next.inj h ▸ cvuOf_cvuData_of_ne _ _ ne⟩
  · exact ⟨(within_regWriteIf (fun s => within_effCvuPreset s c w) h).eq_graft ▸ rfl, fun j ne =>
      regWriteIf_keeps (cvuOf · j) (fun _ => cvuOf_effCvuPreset_of_ne w ne) (fun _ => rfl) h⟩
  · exact ⟨((within_effCvuAlvTx ..).ran h).eq_graft ▸ rfl, fun j ne => Outcome.next.inj h ▸
      cvuOf_onCvu_of_ne fun _ _ => cvuOf_setCvu_of_ne _ ne⟩
  · exact ⟨((within_effCvuAlvRx ..).ran h).eq_graft ▸ rfl, fun j ne => Outcome.next.inj h ▸ cvuOf_effCvuAlvRx_of_ne a ne⟩

end Sys2Proof.Machine
end

section
/-!
PROOF. What the Keyholder's commands leave as it was (11 R287, R288, R307).
-/
namespace Sys2Proof.Machine
open Host

variable {s t : State}

/-- A mailbox command keeps what its act on this state keeps. -/
theorem secCmd_keeps {β : Type} (f : State → β) {act : State → State} (h : f (act s) = f s) : f (secCmd act s) = f s := by
  unfold secCmd
  split
  · rfl
  · exact h

/-- A key command keeps what the end of a mailbox command, the list of those in progress and its own completion keep. -/
theorem keyCmd_keeps {β : Type} (f : State → β) {bad : State → Option Nat} {c : State → KhCmd} {dur : Nat}
    (ended : ∀ code, f (secEnd code s) = f s) (queued : f (khQueue (c s) dur { s with kh.busy := true }) = f s)
    (finished : f (khFinish (c s) s) = f s) : f (keyCmd bad c dur s) = f s := by
  refine secCmd_keeps f ?_
  split
  · exact ended _
  · split
    · exact ended _
    · split
      · exact ended _
      · unfold secStart
        split
        · exact finished
        · exact queued

theorem jobKeyOf_effJkInstall_of_ne {slot k : Nat} (snum dur : Nat) (h : k ≠ slot) :
    jobKeyOf (effJkInstall slot snum dur s) k = jobKeyOf s k :=
  keyCmd_keeps (jobKeyOf · k) (fun _ => rfl) rfl (tget_tput_of_ne _ _ (by simp) _ _ _ h)

theorem jobKeyOf_effJkErase_of_ne {slot k : Nat} (dur : Nat) (wf : tabWf {} s.kh.jobKey = true) (h : k ≠ slot) :
    jobKeyOf (effJkErase slot dur s) k = jobKeyOf s k :=
  keyCmd_keeps (jobKeyOf · k) (fun _ => rfl) rfl ((tget_tput _ _ _ _ _ wf).trans (if_neg h))

/-- Through the mailbox nothing is shifted out (11 R288). -/
theorem within_dbgCmd_mailbox {l : List Part} {act : State → Nat × Bytes × State} (h : ∀ s, Within l s (act s).2.2) (s : State) :
    Within ([.khCtl] ++ l) s (dbgCmd false act s) := by
  unfold dbgCmd
  rw [if_neg Bool.false_ne_true]
  refine within_secCmd (fun s => (h s).right.trans (Within.left ?_)) s
  dsimp only
  split
  · exact (within_secEnd ..).sub (by rfl)
  · exact .sub (.after (within_secEnd ..) (.upd [.khCtl] (by rfl))) (by rfl)

theorem within_effDbgChallenge_mailbox (s : State) : Within ([.khCtl] ++ [.free, .nonce]) s (effDbgChallenge false s) := by
  unfold effDbgChallenge
  refine within_dbgCmd_mailbox (fun s => ?_) s
  split
  · exact .refl _ _
  · exact .sub (.after (.upd [.nonce] (by rfl)) (within_drawKey ..)) (by rfl)

/-- An instruction that does not touch the pins only takes its place (11 R307). -/
theorem within_jtagSelect_of_ne {op : BitVec 8} (h3 : op ≠ 0x03) (h4 : op ≠ 0x04) (h5 : op ≠ 0x05) :
    Within [.jtag] s (jtagSelect op s) := by
  unfold jtagSelect
  rw [if_neg (not_or.2 ⟨h3, not_or.2 ⟨h4, h5⟩⟩)]
  exact .upd [.jtag] (by rfl)

theorem jtagOp_eq (s : State) (op : BitVec 8) : jtagOp s op = op ∨ jtagOp s op = 0xFF := by
  unfold jtagOp
  split
  · exact .inl rfl
  · split
    · exact .inl rfl
    · split
      · exact .inl rfl
      · exact .inr rfl

theorem within_effJtagOp_of_ne {op : BitVec 8} (pins : s.kh.extest = false) (h3 : op ≠ 0x03) (h4 : op ≠ 0x04)
    (h5 : op ≠ 0x05) : Within [.jtag] s (effJtagOp op s) := by
  have apart : ¬s.kh.extest = true := by rw [pins]; exact Bool.false_ne_true
  have acts : jtagOp s op ≠ 0x03 ∧ jtagOp s op ≠ 0x04 ∧ jtagOp s op ≠ 0x05 := by
    rcases jtagOp_eq s op with e | e <;> rw [e]
    · exact ⟨h3, h4, h5⟩
    · decide
  obtain ⟨a3, a4, a5⟩ := acts
  unfold effJtagOp
  rw [if_neg apart]
  split
  · exact .refl _ _
  · split
    · exact .refl _ _
    · exact within_jtagSelect_of_ne a3 a4 a5

theorem keyFrame : Claims.KeyFrame := by
  intro s t slot snum dur op wf
  have formed := (formed_iff s).2 wf
  refine ⟨fun _ h => ?_, fun _ h => ?_, fun h => ?_, fun h => ?_, fun pins h3 h4 h5 h => ?_⟩
  · rcases h with h | h
    · have w := (within_effJkInstall ..).ran h
      exact ⟨w.eq_graft ▸ rfl, w.read (·.kh.ctxKey), w.read (·.kh.memKey), w.read (·.kh.chassis), w.read (·.kh.dbg),
        fun k ne => Outcome.next.inj h ▸ jobKeyOf_effJkInstall_of_ne snum dur ne⟩
    · have w := (within_effJkErase ..).ran h
      exact ⟨w.eq_graft ▸ rfl, w.read (·.kh.ctxKey), w.read (·.kh.memKey), w.read (·.kh.chassis), w.read (·.kh.dbg),
        fun k ne => Outcome.next.inj h ▸ jobKeyOf_effJkErase_of_ne dur formed.jobKey ne⟩
  · have w := (within_effChassisSet ..).ran h
    exact ⟨w.eq_graft ▸ rfl, w.read (·.kh.ctxKey), w.read (·.kh.jobKey)⟩
  · exact ((within_effDbgChallenge_mailbox s).ran h).eq_graft ▸ rfl
  · exact ((within_effEntropyFail ..).ran h).eq_graft ▸ rfl
  · exact ((within_effJtagOp_of_ne pins h3 h4 h5).ran h).eq_graft ▸ rfl

/-- Settles O52: each command changes its own unit's parts alone, and what it does to them is done to the unit it names. -/
theorem smallUnitFrames : Obligations.SmallUnitFrames := ⟨cvuFrame, rtcFrame, flashFrame, sealFrame, keyFrame⟩

end Sys2Proof.Machine
end

section
/-!
PROOF. What jobs, the error queue, the host interface and Bivouac leave as it was.
-/
namespace Sys2Proof.Machine
open Host

theorem jobFrame : Claims.JobFrame := by
  rintro s t q hr (h | h | h | h | h | h | h)
  · have w := (within_effNop ..).ran h
    exact ⟨w.eq_graft ▸ rfl, w.read (·.obj.ctx), w.read (·.obj.mo)⟩
  · have w := (within_effRun ..).ran h
    exact ⟨w.eq_graft ▸ rfl, w.read (·.obj.ctx), w.read (·.obj.mo)⟩
  · have w := (within_effSignal ..).ran h
    exact ⟨w.eq_graft ▸ rfl, w.read (·.obj.ctx), w.read (·.obj.mo)⟩
  · have w := (within_effQuadrantAcquire ..).ran h
    exact ⟨w.eq_graft ▸ rfl, w.read (·.obj.ctx), w.read (·.obj.mo)⟩
  · have w := (within_effScrubDone ..).ran h
    exact ⟨w.eq_graft ▸ rfl, w.read (·.obj.ctx), w.read (·.obj.mo)⟩
  · have w := (within_effJobStart ..).ran h
    exact ⟨w.eq_graft ▸ rfl, w.read (·.obj.ctx), w.read (·.obj.mo)⟩
  · have w := (within_effJobComplete ..).ran h
    exact ⟨w.eq_graft ▸ rfl, w.read (·.obj.ctx), w.read (·.obj.mo)⟩

/-- Outside step 4 of an Abseil nothing waits for the acceptance of a record. -/
theorem recordEnd_of_ne {s : State} (h : s.rcv.step ≠ 4) : recordEnd s = s := by
  simp [recordEnd, h]

theorem errorQueueFrame : Claims.ErrorQueueFrame := by
  rintro s t i w (⟨step, h⟩ | h | h | h)
  · have accepted := within_effErrorAccept s i
    have step' : (effErrorAccept i s).rcv.step ≠ 4 := (accepted.read (·.rcv.step)).trans_ne step
    obtain rfl := Outcome.next.inj h
    rw [recordEnd_of_ne step']
    exact accepted.eq_graft ▸ rfl
  · exact (within_regWriteIf (fun s => within_effErqBase s w) h).eq_graft ▸ rfl
  · exact (within_regWriteIf (fun s => within_effErqHead s w) h).eq_graft ▸ rfl
  · exact (within_regWriteIf (fun s => within_effErqEnable s w) h).eq_graft ▸ rfl

theorem hostFrame : Claims.HostFrame := by
  intro s t n a r w d p hr who
  refine ⟨?_, fun h => ?_, fun h => ?_⟩
  · rintro (h | h | h | h | h | h | h | h | h | h)
    · exact ((within_effBar2Read ..).ran h).eq_graft ▸ rfl
    · exact ((within_effHbGo ..).ran h).eq_graft ▸ rfl
    · exact ((within_effBiasDone ..).ran h).eq_graft ▸ rfl
    · exact ((within_effHostCompletion ..).ran h).eq_graft ▸ rfl
    · exact ((within_effHostSnoop ..).ran h).eq_graft ▸ rfl
    · exact (within_regWriteIf (fun s => within_effDepositArm s n w) h).eq_graft ▸ rfl
    · exact (within_regWriteIf (fun s => within_effDepositDisarm s n w) h).eq_graft ▸ rfl
    · exact ((within_effDepositDrained ..).ran h).eq_graft ▸ rfl
    · exact ((within_effDepositFlag ..).ran h).eq_graft ▸ rfl
    · exact ((within_effFlagApply ..).ran h).eq_graft ▸ rfl
  · exact ((within_effDepositWrite ..).ran h).eq_graft ▸ rfl
  · exact ((within_effHostRefused ..).ran h).eq_graft ▸ rfl

theorem bivouacFrame : Claims.BivouacFrame := by
  rintro s t r c dur damaged (h | h | h | h)
  · exact ((within_effDeclare ..).ran h).eq_graft ▸ rfl
  · exact ((within_effRelease ..).ran h).eq_graft ▸ rfl
  · exact ((within_effDiscard ..).ran h).eq_graft ▸ rfl
  · exact ((within_effClaim ..).ran h).eq_graft ▸ rfl

/-- Settles O23: the parts that each command reaches are among those put back. -/
theorem hostPathFrames : Obligations.HostPathFrames := ⟨jobFrame, errorQueueFrame, hostFrame, bivouacFrame⟩

end Sys2Proof.Machine
end

section
/-!
PROOF. What the power, pin and background commands, the pair's and those of recovery leave as it was.
-/
namespace Sys2Proof.Machine
open Host

/-! ## Power, pins and background work -/

/-- Without a command in progress nothing is aborted (11 R301). -/
theorem abortHeld_of_nil {s : State} (h : s.kh.run = []) : abortHeld s = s := by
  unfold abortHeld
  rw [h]

theorem within_effResume_of_nil (s : State) (h : s.kh.run = []) :
    Within [.out, .quad, .tile, .mesh, .port, .pwrDll, .pwrCfg, .pwr, .erqIn, .rtDirty, .fab, .ctxKey, .jobKey, .memKey,
      .gcmKey, .ret, .nonce, .kh, .qp, .ethPort, .dict] s (effResume s) := by
  unfold effResume
  split
  · exact .refl _ _
  · rw [abortHeld_of_nil h]
    exact .sub (.ite (.refl [] _) (within_gatingGo ..)) (by rfl)

theorem scrubOf_setScrub_of_ne {s : State} {k j : Nat} (x : Scrub) (h : j ≠ k) : scrubOf (setScrub s k x) j = scrubOf s j :=
  lget_lset_of_ne _ _ _ h

theorem scrubOf_raise (s : State) (e : ErrRec) (j : Nat) : scrubOf (raise e s) j = scrubOf s j :=
  (within_raise s e).read (scrubOf · j)

theorem scrubOf_scrubOne_of_ne {k j : Nat} (res : Nat) (s : State) (h : j ≠ k) : scrubOf (scrubOne k res s) j = scrubOf s j := by
  unfold scrubOne
  dsimp only
  split
  · rw [scrubOf_raise, scrubOf_setScrub_of_ne _ h]
  · split
    · rw [scrubOf_raise, scrubOf_setScrub_of_ne _ h]
    · exact scrubOf_setScrub_of_ne _ h

theorem scrubOf_effScrubLine_of_ne {k j : Nat} (res : Nat) (s : State) (h : j ≠ k) :
    scrubOf (effScrubLine k res s) j = scrubOf s j := by
  unfold effScrubLine
  split
  · exact scrubOf_scrubOne_of_ne _ _ h
  · rfl

/-- What each step of a fold keeps, the fold keeps. -/
theorem foldl_keeps {α β : Type} (f : State → β) {g : State → α → State} (h : ∀ s x, f (g s x) = f s) (l : List α) :
    ∀ s, f (l.foldl g s) = f s := by
  induction l with
  | nil => exact fun _ => rfl
  | cons x l ih => exact fun s => (ih _).trans (h s x)

theorem scrubOf_effScrubSlot_of_ne {k j : Nat} (bad : List (Nat × Nat)) (s : State) (h : j ≠ k) :
    scrubOf (effScrubSlot k bad s) j = scrubOf s j := by
  unfold effScrubSlot
  dsimp only
  split
  · exact (foldl_keeps (scrubOf · j) (fun s i => scrubOf_scrubOne_of_ne _ s h) _ _).trans (scrubOf_setScrub_of_ne _ h)
  · rfl

theorem powerFrame : Claims.PowerFrame := by
  intro s t host w v k n bad x link q
  refine ⟨?_, fun h => ?_, fun h => ?_, ?_, fun h => ?_⟩
  · rintro (h | h | h | h | h | ⟨idle, h⟩)
    · have w := within_regWriteIf (fun s => within_effDomWrite s w host) h
      exact ⟨w.eq_graft ▸ rfl, w.read (·.kh.chassis), w.read (·.kh.dbg)⟩
    · have w := (within_effPstateReq ..).ran h
      exact ⟨w.eq_graft ▸ rfl, w.read (·.kh.chassis), w.read (·.kh.dbg)⟩
    · have w := (within_effP1Enter ..).ran h
      exact ⟨w.eq_graft ▸ rfl, w.read (·.kh.chassis), w.read (·.kh.dbg)⟩
    · have w := (within_effPciPower ..).ran h
      exact ⟨w.eq_graft ▸ rfl, w.read (·.kh.chassis), w.read (·.kh.dbg)⟩
    · have w := (within_effPerstRise ..).ran h
      exact ⟨w.eq_graft ▸ rfl, w.read (·.kh.chassis), w.read (·.kh.dbg)⟩
    · have w := (within_effResume_of_nil s idle).ran h
      exact ⟨w.eq_graft ▸ rfl, w.read (·.kh.chassis), w.read (·.kh.dbg)⟩
  · exact ((within_effDllUp ..).ran h).eq_graft ▸ rfl
  · exact ((within_effConfig ..).ran h).eq_graft ▸ rfl
  · rintro (h | h)
    · exact ⟨((within_effScrubLine ..).ran h).eq_graft ▸ rfl, fun j ne => Outcome.next.inj h ▸
        scrubOf_effScrubLine_of_ne _ _ ne⟩
    · exact ⟨((within_effScrubSlot ..).ran h).eq_graft ▸ rfl, fun j ne => Outcome.next.inj h ▸
        scrubOf_effScrubSlot_of_ne _ _ ne⟩
  · exact ((within_effTelemetry ..).ran h).eq_graft ▸ rfl

/-! ## The pair -/

theorem within_effUnbindTimeout_of_ne (s : State) (h : s.pair.st ≠ .binding) :
    Within [.out, .msix, .pair, .dict] s (effUnbindTimeout s) := by
  unfold effUnbindTimeout
  dsimp only
  split
  · rw [if_neg h]
    exact .sub (.ite (.after (within_answerWait ..) (.upd [.pair] (by rfl))) (.refl [] _)) (by rfl)
  · exact .refl _ _

/-- The parts that a command of the pair can reach. -/
abbrev pairParts : List Part :=
  [.free, .out, .quad, .tile, .mesh, .hbm, .port, .erqIn, .msix, .hif, .ctx, .queue, .ev, .txns, .tags, .quar, .txn, .rtDirty,
   .fab, .pairSt, .leaving, .before, .pair] ++
  [.jobKey, .ret, .kh, .seals, .sealRows, .sealer, .rcv, .qp, .ethPort, .stat, .val, .dict, .bank0, .bank1]

theorem Within.pair_leaves {l : List Part} {s t : State} (w : Within l s t) (h : Sub l pairParts) :
    t.now = s.now ∧ t.id = s.id ∧ t.pwr = s.pwr ∧ t.scrub = s.scrub ∧ t.tele = s.tele ∧ t.cvu = s.cvu ∧ t.rtc = s.rtc ∧
      t.biv = s.biv ∧ t.kh.chassis = s.kh.chassis ∧ t.kh.dbg = s.kh.dbg :=
  have v := w.sub h
  ⟨v.read (·.now), v.read (·.id), v.read (·.pwr), v.read (·.scrub), v.read (·.tele), v.read (·.cvu), v.read (·.rtc),
    v.read (·.biv), v.read (·.kh.chassis), v.read (·.kh.dbg)⟩

theorem pairFrame : Claims.PairFrame := by
  intro s t peer dur
  refine ⟨?_, ?_, fun h => ?_, fun apart h => ?_, ?_⟩
  · rintro (h | h)
    · exact ((within_effHeartbeatSend ..).ran h).eq_graft ▸ rfl
    · exact ((within_effCkGo ..).ran h).eq_graft ▸ rfl
  · rintro (h | h | h)
    · have w := (within_effMirWrite ..).ran h
      exact ⟨w.eq_graft ▸ rfl, w.read (·.pair.st)⟩
    · have w := (within_effMirRegion ..).ran h
      exact ⟨w.eq_graft ▸ rfl, w.read (·.pair.st)⟩
    · have w := (within_effMirCkpt ..).ran h
      exact ⟨w.eq_graft ▸ rfl, w.read (·.pair.st)⟩
  · exact ((within_effPairSyncDone ..).ran h).eq_graft ▸ rfl
  · exact ((within_effUnbindTimeout_of_ne s apart).ran h).eq_graft ▸ rfl
  · rintro (h | h | h | h | h | h)
    · exact ((within_effPairBind ..).ran h).pair_leaves (by rfl)
    · exact ((within_effMirHeartbeat ..).ran h).pair_leaves (by rfl)
    · exact ((within_effMirAck ..).ran h).pair_leaves (by rfl)
    · exact ((within_effMirUnbind ..).ran h).pair_leaves (by rfl)
    · exact ((within_effHeartbeatMiss ..).ran h).pair_leaves (by rfl)
    · exact ((within_effUnbindTimeout ..).ran h).pair_leaves (by rfl)

/-! ## Recovery -/

theorem within_effTileWatchdog_of_zero (s : State) (t : Nat) (h : s.rcv.step = 0) : Within [.rcv] s (effTileWatchdog t s) := by
  unfold effTileWatchdog
  dsimp only
  rw [if_pos h]
  exact .sub (.ite (.refl [] _) (within_abseilStart ..)) (by rfl)

/-- The parts that a command of the Abseil can reach. -/
abbrev abseilParts : List Part :=
  [.free, .out, .quad, .tile, .mesh, .hbm, .port, .pwrDll, .pwrCfg, .pwr, .erqIn, .msix, .hif, .ctx, .queue, .ev, .txns, .tags,
   .quar, .txn, .rtDirty, .fab, .pair] ++
  [.ctxKey, .jobKey, .memKey, .gcmKey, .ret, .nonce, .kh, .seals, .sealRows, .sealer, .rcv, .qp, .ethPort, .stat, .dict]

theorem Within.recovery_leaves {l : List Part} {s t : State} (w : Within l s t) (h : Sub l abseilParts) :
    t.rtc = s.rtc ∧ t.flash = s.flash ∧ t.cvu = s.cvu ∧ t.id = s.id ∧ t.now = s.now ∧ t.kh.chassis = s.kh.chassis ∧
      t.kh.dbg = s.kh.dbg ∧ t.scrub = s.scrub ∧ t.tele = s.tele :=
  have v := w.sub h
  ⟨v.read (·.rtc), v.read (·.flash), v.read (·.cvu), v.read (·.id), v.read (·.now), v.read (·.kh.chassis), v.read (·.kh.dbg),
    v.read (·.scrub), v.read (·.tele)⟩

theorem recoveryFrame : Claims.RecoveryFrame := by
  intro s t n hr v
  refine ⟨fun h => ?_, fun h => ?_, fun h => ?_, fun idle h => ?_, ?_⟩
  · exact ((within_effMcKick ..).ran h).eq_graft ▸ rfl
  · exact ((within_effExportGo ..).ran h).eq_graft ▸ rfl
  · exact ((within_effLinkTimeout ..).ran h).eq_graft ▸ rfl
  · exact ((within_effTileWatchdog_of_zero s n idle).ran h).eq_graft ▸ rfl
  · rintro (h | h | h | h | h | h | h | h)
    · exact ((within_effTileWatchdog ..).ran h).recovery_leaves (by rfl)
    · exact ((within_effDrainStop ..).ran h).recovery_leaves (by rfl)
    · exact ((within_effSampleDone ..).ran h).recovery_leaves (by rfl)
    · exact ((within_effResetDone ..).ran h).recovery_leaves (by rfl)
    · exact ((within_effReplayEnd ..).ran h).recovery_leaves (by rfl)
    · exact ((within_effReplayLimit ..).ran h).recovery_leaves (by rfl)
    · exact ((within_effAbseilAbandon ..).ran h).recovery_leaves (by rfl)
    · exact ((within_effJobWatchdog ..).ran h).recovery_leaves (by rfl)

/-- Settles O45: the parts that each command reaches are among those put back, and what is read again lies in none of them. -/
theorem powerPairRecoveryFrames : Obligations.PowerPairRecoveryFrames := ⟨powerFrame, pairFrame, recoveryFrame⟩

end Sys2Proof.Machine
end

section
/-!
PROOF. What the commands of the field bus, the writes of one object, the resets and the supplies leave as it was.
-/
namespace Sys2Proof.Machine
open Host

variable {s t : State}

/-! ## Writes of one object that is not persisted -/

theorem index_of_catRow {index : Nat} {r : CatRow} (h : catRow index = some r) : r.index = index := by
  simpa using List.find?_some h

/-- A write of an object that is not persisted reaches what its own effect reaches, where nothing follows the response. -/
theorem within_dictSet_other {l : List Part} {index : Nat} {v : Bytes}
    (plain : (catRow index).all (fun r => decide (r.acc ≠ .rwp)) = true)
    (alone : index ≠ 0x2420 ∧ index ≠ 0x1021 ∧ index ≠ 0x5001) (h : Within l s (writeOther index v s).2) :
    Within l s (dictSet index v s) := by
  obtain ⟨role, node, reset⟩ := alone
  unfold dictSet
  split
  · exact .refl _ _
  · split
    · exact .refl _ _
    · next r row =>
      rw [row, Option.all_some, decide_eq_true_eq] at plain
      have at_index := index_of_catRow row
      dsimp only
      split
      · exact .refl _ _
      · simp only [dictApply, afterWrite, at_index, role, node, reset, plain, if_false]
        split <;> exact h

/-! ## Requests of the field bus -/

/-- A request frame is not this node's, or it reaches the arbiter. -/
theorem onRequest_eq (op target : Nat) (frame : Bytes) (s : State) :
    onRequest op target frame s = s ∨
      (byteAt frame 0 = op ∧ target = nodeId s ∧ onRequest op target frame s = request false frame (frameIn s)) := by
  unfold onRequest onFrame
  split
  · exact .inl rfl
  · next ours =>
    split
    · next heard =>
      simp only [Bool.or_eq_true, decide_eq_true_eq, not_or, not_not] at ours
      simp only [Bool.and_eq_true, decide_eq_true_eq] at heard
      exact .inr ⟨ours.2, heard.2, rfl⟩
    · exact .inl rfl

theorem onRequest_of_ne {op target : Nat} (frame : Bytes) (h : target ≠ nodeId s) : onRequest op target frame s = s :=
  (onRequest_eq op target frame s).resolve_right fun ⟨_, at_node, _⟩ => h at_node

theorem onFrame_of_ne {target : Nat} (act : State → State) (h : target ≠ nodeId s) : onFrame target act s = s := by
  simp [onFrame, h]

/-- A request that reaches the arbiter waits, or is served. -/
theorem request_eq (mbx : Bool) (b : Bytes) (s : State) :
    request mbx b s = { s with dict.later := s.dict.later ++ [.request mbx b] } ∨ request mbx b s = serve mbx b s := by
  unfold request arbiter
  split
  · exact .inl rfl
  · exact .inr rfl

/-- What the count of a frame, the list of waiting requests and the service of this frame keep, a request frame keeps. -/
theorem onRequest_keeps {P : State → State → Prop} {op target : Nat} {frame : Bytes} (refl : ∀ s, P s s)
    (trans : ∀ s t u, P s t → P t u → P s u) (heard : ∀ s, P s (frameIn s))
    (waits : ∀ s x, P s { s with dict.later := s.dict.later ++ [x] }) (served : byteAt frame 0 = op → ∀ s, P s (serve false frame s)) :
    P s (onRequest op target frame s) := by
  rcases onRequest_eq op target frame s with e | ⟨is_op, _, e⟩ <;> rw [e]
  · exact refl s
  · refine trans _ _ _ (heard s) ?_
    rcases request_eq false frame (frameIn s) with e | e <;> rw [e]
    · exact waits _ _
    · exact served is_op _

theorem within_onRequest_of {l : List Part} {op target : Nat} {frame : Bytes} (h : byteAt frame 0 = op → ∀ s, Within l s (serve false frame s))
    (dict : Sub [.dict] l) : Within l s (onRequest op target frame s) :=
  onRequest_keeps (P := Within l) (Within.refl l) (fun _ _ _ => Within.trans) (fun s => (within_frameIn s).sub dict)
    (fun _ _ => (Within.upd [.dict] (by rfl)).sub dict) h

theorem onRequest_keeps_eq {β : Type} (f : State → β) {op target : Nat} {frame : Bytes} (dict : ∀ (s : State) (d : Dict), f { s with dict := d } = f s)
    (served : byteAt frame 0 = op → ∀ s, f (serve false frame s) = f s) : f (onRequest op target frame s) = f s :=
  onRequest_keeps (P := fun s t => f t = f s) (fun _ => rfl) (fun _ _ _ a b => b.trans a) (fun s => dict s _) (fun s _ => dict s _) served

/-- On the field bus no message of the function is sent. -/
theorem within_respond_bus {w : DictWait} (s : State) (status detail : Nat) (h : w.mbx = false) :
    Within [.out, .dict] s (respond w status detail [] s) := by
  unfold respond
  rw [h]
  exact within_canRespond_nil ..

theorem within_serve_read {b : Bytes} (op : byteAt b 0 = 1) (s : State) :
    Within [.free, .out, .cvu, .challenge, .dict, .capC] s (serve false b s) := by
  unfold serve
  extract_lets op' priv len w r
  have read : op' = 1 := op
  have bus : w.mbx = false := rfl
  have fetched : Within [.free, .challenge, .capC] s r.2.2.2 := within_dictRead ..
  split
  · exact .sub (.after (within_respond_bus _ _ _ bus) (.ite (within_useChallenge ..) (.refl [] _))) (by rfl)
  · clear_value op' r w
    subst read
    change Within _ s (respond w r.1 r.2.1 r.2.2.1 r.2.2.2)
    refine .sub (.after (?_ : Within [.out, .cvu, .dict] _ _) fetched) (by rfl)
    unfold respond
    rw [bus]
    exact within_canRespond ..

theorem within_serve_open {b : Bytes} (op : byteAt b 0 = 3) (s : State) :
    Within [.out, .cvu, .challenge, .dict] s (serve false b s) := by
  unfold serve
  extract_lets op' priv len w r
  have opens : op' = 3 := op
  have bus : w.mbx = false := rfl
  split
  · exact .sub (.after (within_respond_bus _ _ _ bus) (.ite (within_useChallenge ..) (.refl [] _))) (by rfl)
  · clear_value op' r w
    subst opens
    change Within _ s (serveOpen w priv len s)
    unfold serveOpen
    exact .sub (.ite (.after (within_respond_bus _ _ _ bus) (within_useChallenge ..)) (.ite (.after (within_respond_bus _ _ _ bus)
      (within_useChallenge ..)) (.after (within_respond_bus _ _ _ bus) (.after (within_streamOpen ..) (.upd [.dict] (by rfl)))))) (by rfl)

theorem within_serve_abort {b : Bytes} (op : byteAt b 0 = 4) (s : State) :
    Within [.out, .challenge, .dict] s (serve false b s) := by
  unfold serve
  extract_lets op' priv len w r
  have aborts : op' = 4 := op
  have bus : w.mbx = false := rfl
  split
  · exact .sub (.after (within_respond_bus _ _ _ bus) (.ite (within_useChallenge ..) (.refl [] _))) (by rfl)
  · clear_value op' r w
    subst aborts
    change Within _ s (serveAbort w s)
    unfold serveAbort
    split
    · exact .sub (.ite (.after (within_respond_bus _ _ _ bus) (within_abandon ..)) (within_respond_bus _ _ _ bus)) (by rfl)
    · exact .sub (within_respond_bus _ _ _ bus) (by rfl)

/-! ## The channels at the streams -/

theorem cvuOf_segUp (j client : Nat) : ∀ (fuel k : Nat) (b : Bytes) (s : State), cvuOf (segUp client fuel k b s) j = cvuOf s j :=
  fun fuel k b s => (within_segUp client fuel k b s).read (cvuOf · j)

/-- A value that is read streams through channel 2 alone (15 R393). -/
theorem cvuOf_canRespond_of_ne {j : Nat} (w : DictWait) (status detail : Nat) (value : Bytes) (s : State) (h : j ≠ 2) :
    cvuOf (canRespond w status detail value s) j = cvuOf s j := by
  have sent (fc : Nat) (d : Bytes) (s : State) : cvuOf (canSend fc d s) j = cvuOf s j := (within_canSend s fc d).read (cvuOf · j)
  unfold canRespond
  dsimp only
  split
  · exact sent ..
  · split
    · exact sent ..
    · rw [cvuOf_segUp]
      exact (cvuOf_setCvu_of_ne _ h).trans (sent ..)

theorem cvuOf_serve_read_of_ne {j : Nat} {b : Bytes} (op : byteAt b 0 = 1) (h : j ≠ 2) (s : State) :
    cvuOf (serve false b s) j = cvuOf s j := by
  unfold serve
  extract_lets op' priv len w r
  have read : op' = 1 := op
  have bus : w.mbx = false := rfl
  have fetched : Within [.free, .challenge, .capC] s r.2.2.2 := within_dictRead ..
  split
  · exact (Within.after (within_respond_bus _ _ _ bus) (.ite (within_useChallenge ..) (.refl [] _))).read (cvuOf · j)
  · clear_value op' r w
    subst read
    change cvuOf (respond w r.1 r.2.1 r.2.2.1 r.2.2.2) j = _
    refine Eq.trans ?_ (fetched.read (cvuOf · j))
    unfold respond
    rw [bus]
    exact cvuOf_canRespond_of_ne _ _ _ _ _ h

theorem cvuOf_serve_open_of_ne {j : Nat} {b : Bytes} (op : byteAt b 0 = 3) (h : j ≠ 3) (s : State) :
    cvuOf (serve false b s) j = cvuOf s j := by
  have answered {w : DictWait} (status detail : Nat) (s : State) (bus : w.mbx = false) :
      cvuOf (respond w status detail [] s) j = cvuOf s j := (within_respond_bus s status detail bus).read (cvuOf · j)
  have used (p : Nat) (s : State) : cvuOf (useChallenge p s) j = cvuOf s j := (within_useChallenge s p).read (cvuOf · j)
  unfold serve
  extract_lets op' priv len w r
  have opens : op' = 3 := op
  have bus : w.mbx = false := rfl
  split
  · rw [answered _ _ _ bus]
    split
    · exact used ..
    · rfl
  · clear_value op' r w
    subst opens
    change cvuOf (serveOpen w priv len s) j = _
    unfold serveOpen
    dsimp only
    split
    · rw [answered _ _ _ bus, used]
    · split
      · rw [answered _ _ _ bus, used]
      · rw [answered _ _ _ bus]
        exact cvuOf_setCvu_of_ne _ h

end Sys2Proof.Machine
end
section
namespace Sys2Proof.Machine
open Host

variable {s t : State}

/-! ## The node and its objects -/

theorem bankOf_setBank_of_ne {b c : Bool} (x : Tab Byte) (s : State) (h : c ≠ b) : bankOf (setBank b x s) c = bankOf s c := by
  cases b <;> cases c
  case false.false => exact absurd rfl h
  case true.true => exact absurd rfl h
  all_goals rfl

theorem bankOf_flashPut_of_ne {b c : Bool} (a : Nat) (d : Bytes) (s : State) (h : c ≠ b) : bankOf (flashPut b a d s) c = bankOf s c :=
  bankOf_setBank_of_ne _ _ h

theorem bankOf_putMarker_of_ne {b c : Bool} (kind iseq : Nat) (s : State) (h : c ≠ b) :
    bankOf (putMarker b kind iseq s) c = bankOf s c := by
  unfold putMarker
  dsimp only
  split
  · rfl
  · exact bankOf_flashPut_of_ne _ _ _ h

theorem bankOf_updStep (code : Nat) (s : State) (b : Bool) : bankOf (updStep code s).2 b = bankOf s b := rfl

theorem bankOf_badImage (s : State) (b : Bool) : bankOf (badImage s) b = bankOf s b := (within_badImage s).read (bankOf · b)

/-- The end of a verification marks the other bank alone (16 R412, R413). -/
theorem bankOf_updVerified (s : State) : bankOf (updVerified s) s.pwr.bank = bankOf s s.pwr.bank := by
  have other : s.pwr.bank ≠ otherBank s := by simp [otherBank]
  unfold updVerified
  extract_lets b w u
  have ended : bankOf u s.pwr.bank = bankOf s s.pwr.bank := rfl
  clear_value u
  split
  · rw [bankOf_updStep, bankOf_putMarker_of_ne 1 _ u other, ended]
  · rw [bankOf_badImage, bankOf_updStep, ended]

theorem bankOf_updFinish (s : State) : bankOf (updFinish s).2 s.pwr.bank = bankOf s s.pwr.bank := by
  unfold updFinish
  dsimp only
  split
  · exact bankOf_updVerified _
  · rfl

/-- A write of one object keeps what its own effect keeps. -/
theorem dictSet_other_keeps {β : Type} (f : State → β) {index : Nat} {v : Bytes}
    (plain : (catRow index).all (fun r => decide (r.acc ≠ .rwp)) = true)
    (alone : index ≠ 0x2420 ∧ index ≠ 0x1021 ∧ index ≠ 0x5001) (h : f (writeOther index v s).2 = f s) :
    f (dictSet index v s) = f s := by
  obtain ⟨role, node, reset⟩ := alone
  unfold dictSet
  split
  · rfl
  · split
    · rfl
    · next r row =>
      rw [row, Option.all_some, decide_eq_true_eq] at plain
      have at_index := index_of_catRow row
      dsimp only
      split
      · rfl
      · simp only [dictApply, afterWrite, at_index, role, node, reset, plain, if_false]
        split <;> exact h

theorem writeOther_update {n : Nat} (h : n < 256) : writeOther 0x7020 (leBytes 1 n) s = updControl n s := by
  have value : ofLe (leBytes 1 n) = n := by rw [ofLe_leBytes]; exact Nat.mod_eq_of_lt h
  change updControl (ofLe (leBytes 1 n)) s = _
  rw [value]

/-- Update Control refuses a command while BEGIN or FINISH executes (16 R413); each is within what it does otherwise. -/
theorem updControl_keeps {β : Type} (f : State → β) {n : Nat} {act : State → Nat × State}
    (free : s.flash.upd = none → updControl n s = act s) (h : f (act s).2 = f s) : f (updControl n s).2 = f s := by
  cases busy : s.flash.upd
  · rw [free busy]
    exact h
  · unfold updControl
    rw [busy]
    rfl

theorem bankOf_updControl {n : Nat} (h : n = 1 ∨ n = 2 ∨ n = 3) : bankOf (updControl n s).2 s.pwr.bank = bankOf s s.pwr.bank := by
  rcases h with rfl | rfl | rfl
  · exact updControl_keeps (act := updBegin) (bankOf · s.pwr.bank) (fun idle => by simp [updControl, idle]) ((within_updBegin s).read (bankOf · s.pwr.bank))
  · exact updControl_keeps (act := updFinish) (bankOf · s.pwr.bank) (fun idle => by simp [updControl, idle]) (bankOf_updFinish s)
  · exact updControl_keeps (act := updAbort) (bankOf · s.pwr.bank) (fun idle => by simp [updControl, idle]) ((within_updAbort s).read (bankOf · s.pwr.bank))

/-- A command of Update Control reaches the flash, and leaves the bank that runs (16 R412). -/
theorem updateCommand_frame {n : Nat} (h : n = 1 ∨ n = 2 ∨ n = 3)
    (ran : (Outcome.next (dictSet 0x7020 (leBytes 1 n) s) : Outcome State Fault Refusal) = .next t) :
    { t with flash := s.flash, free := s.free, dict := s.dict, out := s.out } = s ∧
      bankOf t s.pwr.bank = bankOf s s.pwr.bank := by
  have small : n < 256 := by omega
  have w : Within [.free, .out, .dict, .bank0, .bank1, .flash] s t := (within_dictSet_other (by decide) (by decide)
    (by rw [writeOther_update small]; exact within_updControl s n)).ran ran
  refine ⟨w.eq_graft ▸ rfl, Outcome.next.inj ran ▸ dictSet_other_keeps (bankOf · s.pwr.bank) (by decide) (by decide) ?_⟩
  rw [writeOther_update small]
  exact bankOf_updControl h

theorem managementFrame : Claims.ManagementFrame := by
  intro s t x n f
  refine ⟨?_, fun other => ?_, fun h => ?_, ?_, fun h => ?_, fun h => ?_, fun v h => ?_, ?_, fun b h => ?_, fun m h => ?_⟩
  · rintro (h | h | h | h | h | h)
    · have w := (within_effIdentify ..).ran h
      exact ⟨w.eq_graft ▸ rfl, w.read (·.dict.val)⟩
    · have w := (within_effStolegHb ..).ran h
      exact ⟨w.eq_graft ▸ rfl, w.read (·.dict.val)⟩
    · have w := (within_effHbReceive ..).ran h
      exact ⟨w.eq_graft ▸ rfl, w.read (·.dict.val)⟩
    · have w := (within_effBusOff ..).ran h
      exact ⟨w.eq_graft ▸ rfl, w.read (·.dict.val)⟩
    · have w := (within_effBusOffRecovery ..).ran h
      exact ⟨w.eq_graft ▸ rfl, w.read (·.dict.val)⟩
    · have w := (within_effSegTimeout ..).ran h
      exact ⟨w.eq_graft ▸ rfl, w.read (·.dict.val)⟩
  · have frame (op : Nat) : onRequest op x f s = s := onRequest_of_ne f other
    rintro (h | h | h | h | h)
    · exact (Outcome.next.inj h).symm.trans (frame 1)
    · exact (Outcome.next.inj h).symm.trans (frame 2)
    · exact (Outcome.next.inj h).symm.trans (frame 3)
    · refine (Outcome.next.inj h).symm.trans ?_
      unfold effSegDown
      split
      · rfl
      · exact onFrame_of_ne _ other
    · exact (Outcome.next.inj h).symm.trans (frame 4)
  · have w : Within _ s t := (within_onRequest_of within_serve_read (by rfl)).ran h
    exact ⟨w.eq_graft ▸ rfl, w.read (·.dict.val), fun c ne => Outcome.next.inj h ▸
      onRequest_keeps_eq (cvuOf · c) (fun _ _ => rfl) fun op => cvuOf_serve_read_of_ne op ne⟩
  · rintro (h | h)
    · have w : Within _ s t := (within_onRequest_of within_serve_open (by rfl)).ran h
      exact ⟨w.eq_graft ▸ rfl, w.read (·.dict.val), fun c ne => Outcome.next.inj h ▸
        onRequest_keeps_eq (cvuOf · c) (fun _ _ => rfl) fun op => cvuOf_serve_open_of_ne op ne⟩
    · have w : Within _ s t := (within_onRequest_of within_serve_abort (by rfl)).ran h
      exact ⟨w.eq_graft ▸ rfl, w.read (·.dict.val), fun c _ => w.read (cvuOf · c)⟩
  · exact ((within_effCurrentTime ..).ran h).eq_graft ▸ rfl
  · exact ((within_effWriteChallenge ..).ran h).eq_graft ▸ rfl
  · have w := (within_dictSet_other (by decide) (by decide) (within_revokeKey _ s)).ran h
    exact w.eq_graft ▸ rfl
  · rintro (h | h | h)
    · exact updateCommand_frame (.inr (.inl rfl)) h
    · exact updateCommand_frame (.inl rfl) h
    · exact updateCommand_frame (.inr (.inr rfl)) h
  · have w := (within_dictSet_other (by decide) (by decide) (within_setTime s b)).ran h
    exact w.eq_graft ▸ rfl
  · have w := (within_dictSet_other (by decide) (by decide) (within_rtcShiftNow s _)).ran h
    exact w.eq_graft ▸ rfl

end Sys2Proof.Machine
end
section
namespace Sys2Proof.Machine
open Host

/-! ## Resets and supplies -/

/-- The parts that the loss and the return of a supply can reach: no fuse, no flash bank, not the identity. -/
abbrev supplyParts : List Part := coldParts ++ [.out, .vb, .capC, .shift, .rtc]

theorem within_effPowerFail_supply (s : State) : Within supplyParts s (effPowerFail s) := by
  unfold effPowerFail
  split
  · exact .refl _ _
  · extract_lets a b w c
    have emitted : Within [.out] s a := .sub (.after (within_emit ..) (.ite (within_emit ..) (.refl [] _))) (by rfl)
    have reset : Within supplyParts s b := .sub (.after (within_rtcPowerFail _) (.after (within_coldReset ..) emitted)) (by rfl)
    clear_value b
    have off : Within supplyParts s c := .sub (.after (.upd [.pwrRst, .pwr] (by rfl)) reset) (by rfl)
    clear_value c
    split
    · exact off
    · exact .trans off (.sub (within_vbatFresh ..) (by rfl))

theorem within_effPwrOkRise_supply (s : State) : Within supplyParts s (effPwrOkRise s) := by
  unfold effPwrOkRise
  dsimp only
  exact .sub (.ite (within_powerOn ..) (.after (within_stbyDrive ..) (.upd [.pwr, .rtc] (by rfl)))) (by rfl)

/-- What neither a reset nor a supply reaches. -/
theorem Within.supply_leaves {l : List Part} {s t : State} (w : Within l s t) (h : Sub l supplyParts) :
    t.id = s.id ∧ t.flash.bank0 = s.flash.bank0 ∧ t.flash.bank1 = s.flash.bank1 ∧ t.flash.revoked = s.flash.revoked ∧
      t.flash.minSvn = s.flash.minSvn :=
  have v := w.sub h
  ⟨v.read (·.id), v.read (·.flash.bank0), v.read (·.flash.bank1), v.read (·.flash.revoked), v.read (·.flash.minSvn)⟩

/-- What a reset leaves besides: the clock and the VBAT domain. -/
theorem Within.reset_leaves {l : List Part} {s t : State} (w : Within l s t) (h : Sub l resetParts) :
    t.rtc = s.rtc ∧ t.vb = s.vb ∧ t.id = s.id ∧ t.flash.bank0 = s.flash.bank0 ∧ t.flash.bank1 = s.flash.bank1 ∧
      t.flash.revoked = s.flash.revoked ∧ t.flash.minSvn = s.flash.minSvn :=
  have v := w.sub h
  ⟨v.read (·.rtc), v.read (·.vb), v.supply_leaves (by rfl)⟩

theorem resetFrame : Claims.ResetFrame := by
  intro s t c n x
  refine ⟨?_, ?_, ?_, fun more errs h => ?_⟩
  · rintro (h | h | h | h | h)
    · exact ((within_effHostLoss ..).ran h).reset_leaves (by rfl)
    · exact ((within_effSealDone ..).ran h).reset_leaves (by rfl)
    · exact ((within_effCoreReset ..).ran h).reset_leaves (by rfl)
    · exact ((within_effColdReset ..).ran h).reset_leaves (by rfl)
    · exact ((within_effQuadReset ..).ran h).reset_leaves (by rfl)
  · rintro (h | h | h | h | h)
    · exact ((within_effPowerFail_supply ..).ran h).supply_leaves (by rfl)
    · exact ((within_effPwrOkRise_supply ..).ran h).supply_leaves (by rfl)
    · exact ((within_effThermal ..).ran h).supply_leaves (by rfl)
    · exact ((within_effVbatApplied ..).ran h).supply_leaves (by rfl)
    · exact ((within_effVbatLoss ..).ran h).supply_leaves (by rfl)
  · rintro (h | h)
    · exact ((within_effVbatApplied ..).ran h).eq_graft ▸ rfl
    · exact ((within_effVbatLoss ..).ran h).eq_graft ▸ rfl
  · exact ((within_effPmbusAlert ..).ran h).eq_graft ▸ rfl

/-- Settles O49: a request reaches the dictionary's own parts and what its object reaches; a reset or a supply none of the fuses. -/
theorem managementAndResetFrames : Obligations.ManagementAndResetFrames := ⟨managementFrame, resetFrame⟩

end Sys2Proof.Machine
end

section
/-!
PROOF. The object commands: the command interface, and what each command leaves (05 R107 to R131).
-/
namespace Sys2Proof.Machine
open Host

/-- What the parts `l` do not hold reads the same after. -/
theorem Within.keeps {l : List Part} {s t : State} (w : Within l s t) {β : Type} (f : State → β)
    (other : ∀ u, f (graft l u s) = f u) : f t = f s :=
  (other t).symm.trans (w.read f)

/-! ## The command interface -/

/-- The vector a command asked for. -/
def irqVec (x : ObjCmd) : Option (BitVec 11) := if x.irq then some x.vector else none

section
variable {op lim : Nat} {x : ObjCmd} {bad : Bytes → Bool} {ctx : Bytes → Option Nat} {act : Bytes → State → ObjEnd} {s : State}

/-- How the end that a command's effect gave is recorded (05 R106, R107). -/
def objEnd (op : Nat) (x : ObjCmd) (owner : Option Nat) (s : State) : ObjEnd → State
  | .fail code addr => objFail code (ObjCmd.raw op x) addr owner (irqVec x) s
  | .done r t => objDone 0 r (irqVec x) t
  | .runs t => { t with obj.busy := true, obj.irqVec := irqVec x, obj.cmd := BitVec.ofNat 64 (ObjCmd.raw op x) }

/-- A command whose form is right, with MEM on, ends as its own effect has it. -/
theorem objCmd_of_ready (ready : objReady s x lim) (form : bad (objStage s) = false) :
    objCmd op lim x bad ctx act s = objEnd op x (ctx (objStage s)) s (act (objStage s) s) := by
  obtain ⟨host, idle, lo, hi, id, mem⟩ := ready
  unfold objStage at *
  simp only [objCmd, host, idle, lo, hi, Nat.not_le.2 id, mem, form]
  cases act (leBytes 64 s.obj.stage.toNat) s <;> rfl

theorem objCmd_of_done {r : Bytes} {t : State} (ready : objReady s x lim) (form : bad (objStage s) = false)
    (ended : act (objStage s) s = .done r t) : objCmd op lim x bad ctx act s = objDone 0 r (irqVec x) t := by
  rw [objCmd_of_ready ready form, ended, objEnd]

theorem objCmd_of_runs {t : State} (ready : objReady s x lim) (form : bad (objStage s) = false)
    (runs : act (objStage s) s = .runs t) :
    objCmd op lim x bad ctx act s =
      { t with obj.busy := true, obj.irqVec := (irqVec x), obj.cmd := BitVec.ofNat 64 (ObjCmd.raw op x) } := by
  rw [objCmd_of_ready ready form, runs, objEnd]

end

section
variable (s : State) (code : Nat) (r : Bytes) (v : Option (BitVec 11))

/-- The object unit after a command has ended. -/
@[simp] theorem objDone_obj : (objDone code r v s).obj = { s.obj with
    busy := false, done := true, code := BitVec.ofNat 16 code, irqVec := none, destroying := none,
    result := BitVec.ofNat 512 (ofLe (putB (leBytes 64 s.obj.result.toNat) 0 r)) } := by
  obtain ⟨m, o, h, -⟩ := msixIf_eq _ v
  exact congrArg State.obj h

@[simp] theorem objDone_kh : (objDone code r v s).kh = s.kh := (within_objDone s code r v).read (·.kh)
@[simp] theorem objDone_hbm : (objDone code r v s).hbm = s.hbm := (within_objDone s code r v).read (·.hbm)
@[simp] theorem objDone_dep : (objDone code r v s).hif.dep = s.hif.dep := (within_objDone s code r v).read (·.hif.dep)
@[simp] theorem objDone_owned : (objDone code r v s).hif.owned = s.hif.owned := (within_objDone s code r v).read (·.hif.owned)

@[simp] theorem ctxOf_objDone (k : Nat) : ctxOf (objDone code r v s) k = ctxOf s k := by simp [ctxOf]
@[simp] theorem queueOf_objDone (k : Nat) : queueOf (objDone code r v s) k = queueOf s k := by simp [queueOf]
@[simp] theorem moOf_objDone (k : Nat) : moOf (objDone code r v s) k = moOf s k := by simp [moOf]
@[simp] theorem evOf_objDone (k : Nat) : evOf (objDone code r v s) k = evOf s k := by simp [evOf]

@[simp] theorem objOk_objDone : objOk (objDone 0 r v s) := by simp [objOk]

end

/-! ## Events -/

section
variable (s : State) (n : Nat)

theorem evOf_setEv_of_live (x : Event) (live : x.live = true) : evOf (setEv s n x) n = x :=
  tget_tput_self _ _ (by rintro rfl; cases live) _ _

@[simp] theorem evOf_markWaits (c m k : Nat) (p : Slot → Bool) (st : Nat) : evOf (markWaits c m p st s) k = evOf s k := rfl

/-- An armed event that meets its threshold is disarmed; NREC apart, nothing else of it changes (05 R131). -/
theorem evOf_evNotify (live : (evOf s n).live = true) :
    (evOf (evNotify n s) n).live = true ∧ (evOf (evNotify n s) n).ctx = (evOf s n).ctx ∧
      (evOf (evNotify n s) n).cnt = (evOf s n).cnt ∧ (evOf (evNotify n s) n).thresh = (evOf s n).thresh ∧
      (evOf (evNotify n s) n).armed = ((evOf s n).armed && !decide ((evOf s n).thresh ≤ (evOf s n).cnt)) := by
  unfold evNotify
  dsimp only
  by_cases due : (evOf s n).armed = true ∧ (evOf s n).thresh ≤ (evOf s n).cnt
  · rw [if_pos (by simp [live, due])]
    have sent : ∀ v t, evOf (msixIf v t) n = evOf t n := fun v t => (within_msixIf t v).read (evOf · n)
    have written : ∀ a b o u t, evOf (hostWrite a b o u t) n = evOf t n := fun a b o u t =>
      (within_hostWrite t a b o u).read (evOf · n)
    split
    · rw [sent, evOf_setEv_of_live _ _ _ (by exact live)]
      simp [live, due]
    · rw [written, evOf_setEv_of_live _ _ _ (by exact live)]
      simp [live, due]
  · rw [if_neg (by simpa [live] using due)]
    refine ⟨live, rfl, rfl, rfl, ?_⟩
    cases armed : (evOf s n).armed <;> simp_all

/-- A counter that changes: the event stays live with the value given. -/
theorem evOf_evChange (v : BitVec 64) (live : (evOf s n).live = true) :
    (evOf (evChange n v s) n).live = true ∧ (evOf (evChange n v s) n).cnt = v := by
  have set : evOf (markWaits (evOf s n).ctx n (fun y => decide (leAt y.desc 24 8 ≤ v.toNat)) 0
      (setEv s n { evOf s n with cnt := v })) n = { evOf s n with cnt := v } := evOf_setEv_of_live _ _ _ (by exact live)
  obtain ⟨l, -, c, -⟩ := evOf_evNotify _ n (by rw [set]; exact live)
  exact ⟨l, c.trans (by rw [set])⟩

/-- An addition saturates (05 R129). -/
theorem evOf_evAdd (inc : Nat) (mk : ErrRec) (live : (evOf s n).live = true) :
    (evOf (evAdd n inc mk s) n).live = true ∧
      (evOf (evAdd n inc mk s) n).cnt.toNat = min ((evOf s n).cnt.toNat + inc) (2 ^ 64 - 1) := by
  unfold evAdd
  dsimp only
  split
  case isTrue saturates =>
    have raised : ∀ e t, evOf (raise e t) n = evOf t n := fun e t => (within_raise t e).read (evOf · n)
    rw [raised]
    obtain ⟨l, c⟩ := evOf_evChange s n (BitVec.ofNat 64 (2 ^ 64 - 1)) live
    exact ⟨l, by rw [c, BitVec.toNat_ofNat]; omega⟩
  case isFalse fits =>
    obtain ⟨l, c⟩ := evOf_evChange s n (BitVec.ofNat 64 ((evOf s n).cnt.toNat + inc)) live
    exact ⟨l, by rw [c, BitVec.toNat_ofNat]; omega⟩

end

/-- A command on a live event of a context that is not retiring. -/
theorem onEvent_of_live {op : Nat} {x : ObjCmd} {act : Nat → Bytes → State → State} {s : State} (ready : objReady s x 16384)
    (live : (evOf s x.id.toNat).live = true) (owner : (ctxOf s (evOf s x.id.toNat).ctx).st ≠ .retiring) :
    onEvent op x act s = objDone 0 [] (irqVec x) (act x.id.toNat (objStage s) s) := by
  have accepted : ((evOf s x.id.toNat).live && notRetiring s (evOf s x.id.toNat).ctx) = true := by simp [live, notRetiring, owner]
  rw [onEvent, objCmd_of_ready ready rfl]
  simp only [accepted, if_true, objEnd]

@[simp] theorem leAt_eight_mod (b : Bytes) (o : Nat) : leAt b o 8 % 18446744073709551616 = leAt b o 8 :=
  Nat.mod_eq_of_lt (leAt_lt b o 8)

/-- Settles O16: what each event command leaves of its event. -/
theorem eventCommandsAct : Obligations.EventCommandsAct := by
  refine ⟨fun s x ready form free owner => ?_, fun s x ready live owner => ⟨?_, ?_, ?_, ?_⟩⟩
  · refine ⟨_, rfl, ?_⟩
    rw [effEvCreate, objCmd_of_ready ready form]
    dsimp only
    rw [if_neg (by simp [free, owner]), objEnd]
    refine ⟨objOk_objDone .., ?_⟩
    rw [evOf_objDone]
    have set := evOf_setEv_of_live s x.id.toNat
      { live := true, ctx := bitsAt (objStage s) 0 0 7, vec := BitVec.ofNat 11 (leAt (objStage s) 2 2),
        vecEn := decide (bitsAt (objStage s) 2 15 1 = 1), cnt := BitVec.ofNat 64 (leAt (objStage s) 8 8),
        thresh := BitVec.ofNat 64 (leAt (objStage s) 16 8), recAddr := BitVec.ofNat 64 (leAt (objStage s) 24 8),
        armed := true } rfl
    obtain ⟨l, o, c, th, ar⟩ := evOf_evNotify _ x.id.toNat (by rw [set])
    rw [set] at o c th ar
    refine ⟨l, o, c, th, ar.trans ?_⟩
    simp [BitVec.le_def, ← decide_not]
  · exact ⟨_, rfl, by simp [effEvDestroy, onEvent_of_live ready live owner], by
      simp [effEvDestroy, onEvent_of_live ready live owner, freeEv]; rfl⟩
  · refine ⟨_, rfl, ?_⟩
    simpa [effEvAdd, onEvent_of_live ready live owner] using evOf_evAdd _ _ _ _ live
  · refine ⟨_, rfl, ?_⟩
    simp [effEvSet, onEvent_of_live ready live owner, evOf_evChange _ _ _ live]
  · refine ⟨_, rfl, ?_⟩
    rw [effEvArm, onEvent_of_live ready live owner]
    refine ⟨objOk_objDone .., ?_⟩
    rw [evOf_objDone]
    have set := evOf_setEv_of_live s x.id.toNat
      { evOf s x.id.toNat with thresh := BitVec.ofNat 64 (leAt (objStage s) 16 8), armed := true } live
    obtain ⟨-, -, c, th, ar⟩ := evOf_evNotify _ x.id.toNat (by rw [set]; exact live)
    rw [set] at c th ar
    refine ⟨c, ?_, ar.trans ?_⟩
    · rw [th]; simp
    · simp [BitVec.le_def, ← decide_not]

end Sys2Proof.Machine
end

section
/-!
PROOF. Contexts, queues and memory objects: what each command leaves where it is accepted (05 R108 to R122, R460).
-/
namespace Sys2Proof.Machine
open Host

/-- What no step of a walk over a list changes, the walk does not change. -/
theorem each_keeps {α : Type} (f : State → α) {g : Nat → State → State} (h : ∀ i s, f (g i s) = f s) (l : List Nat) (s : State) :
    f (each l g s) = f s := foldl_keeps f (fun s i => h i s) l s

/-! ## Contexts -/

section
variable (s : State) (c : Nat)

theorem ctxOf_setCtx_of_st (x : Ctx) (h : x.st ≠ .free) : ctxOf (setCtx s c x) c = x :=
  tget_tput_self _ _ (by rintro rfl; exact h rfl) _ _

/-- A job key slot is bound to a context. -/
def bindKey (c k : Nat) (s : State) : State := { s with kh.jobKey := tput {} s.kh.jobKey k { jobKeyOf s k with bound := some c } }

/-- Binding job key slots reaches the table of job keys alone. -/
theorem each_bindKey (l : List Nat) (t : State) :
    each l (fun k s => { s with kh.jobKey := tput {} s.kh.jobKey k { jobKeyOf s k with bound := some c } }) t =
      { t with kh.jobKey := (each l (bindKey c) t).kh.jobKey } := by
  induction l generalizing t with
  | nil => rfl
  | cons k l ih => exact ih _

/-- The new context, its key and the random value drawn for it (05 R109, 11 R290). -/
theorem ctxMake_spec (d : Bytes) :
    (ctxOf (ctxMake c d s) c).st = .live ∧ (ctxOf (ctxMake c d s) c).ptBase = leAt d 8 6 ∧
      (ctxOf (ctxMake c d s) c).ptPages = leAt d 16 4 ∧
      (ctxOf (ctxMake c d s) c).preview = decide (bitsAt d 0 0 1 = 1) ∧
      tget none (ctxMake c d s).kh.ctxKey c = some (Config.random s.free) := by
  unfold ctxMake
  dsimp only
  rw [each_bindKey]
  have key : tget none (setCtxKey c (some (drawKey s).1) (drawKey s).2).kh.ctxKey c = some (Config.random s.free) :=
    tget_tput_self _ _ (by simp [drawKey]) _ _
  refine ⟨congrArg Ctx.st (ctxOf_setCtx_of_st _ c _ ?_), congrArg Ctx.ptBase (ctxOf_setCtx_of_st _ c _ ?_),
    congrArg Ctx.ptPages (ctxOf_setCtx_of_st _ c _ ?_), congrArg Ctx.preview (ctxOf_setCtx_of_st _ c _ ?_), key⟩ <;> simp

theorem ctxOf_abortSteps (cause : Nat) {st : CtxSt} (h : st ≠ .free) :
    (ctxOf (abortSteps c cause st s) c).st = st := by
  have rest : ctxOf (abortSteps c cause st s) c = ctxOf (setCtx s c { ctxOf s c with st := st }) c :=
    (within_abortSteps_rest s c cause st).keeps (ctxOf · c) fun _ => rfl
  rw [rest, ctxOf_setCtx_of_st _ _ _ h]

/-- A Context Abort leaves a live context ABORTED (05 R112). -/
theorem ctxOf_ctxAbort (cause : Nat) (live : (ctxOf s c).st = .live) : (ctxOf (ctxAbort c cause s) c).st = .aborted := by
  rw [ctxAbort, if_pos live, show ∀ e t, ctxOf (raise e t) c = ctxOf t c from fun e t => (within_raise t e).read (ctxOf · c),
    ctxOf_abortSteps _ _ _ (by simp)]

/-- CTX_DESTROY leaves its context RETIRING (05 R113). -/
theorem ctxOf_ctxRetire : (ctxOf (ctxRetire c s) c).st = .retiring := by
  have rest : ctxOf (ctxRetire c s) c = ctxOf (retiring c s) c := (within_ctxRetire_rest s c).keeps (ctxOf · c) fun _ => rfl
  rw [rest, retiring]
  split
  · exact ctxOf_abortSteps _ _ _ (by simp)
  · rw [ctxOf_setCtx_of_st _ _ _ (by simp)]

end

@[simp] theorem tileOwner_setTile (s : State) (t k : Nat) (x : Tile) : tileOwner (setTile s t x) k = tileOwner s k := rfl

/-- Settles O13: what the context commands do to a context they accept. -/
theorem contextCommandsAct : Obligations.ContextCommandsAct := by
  refine ⟨fun s x dur ready form free unbound service keys pool serves => ?_, fun s x ready st => ?_,
    fun s c retiring empty => ?_, fun s x ready live => ?_, fun s x ready aborted keyed => ?_,
    fun s t since failed runs ends => ?_⟩
  · have level : s.kh.dbg ≠ 2 := by
      unfold keyServes at serves
      simp at serves
      exact serves.2
    refine ⟨_, rfl, ?_⟩
    rw [effCtxCreate, objCmd_of_ready ready form]
    simp only [level, free, unbound, service, keys, pool, serves, if_false, Bool.false_eq_true, not_true, ne_eq, Bool.not_true]
    refine ⟨fun now idle => ?_, fun later => ?_⟩
    · simp only [now, idle, List.isEmpty_nil, decide_true, Bool.and_self, if_true, objEnd, ctxOf_objDone, objDone_kh]
      exact ⟨objOk_objDone .., ctxMake_spec ..⟩
    · rw [if_neg (by simpa [← not_and_or] using later)]
      exact ⟨rfl, rfl, rfl⟩
  · refine ⟨_, rfl, ?_⟩
    rw [effCtxDestroy, objCmd_of_ready ready rfl]
    have left := ctxOf_ctxRetire s x.id.toNat
    simp only [st, if_true, objEnd]
    generalize ctxRetire x.id.toNat s = u at left ⊢
    exact ⟨trivial, trivial, left⟩
  · refine ⟨_, rfl, ?_⟩
    rw [effContextFree, if_pos (by simp [retiring, empty])]
    extract_lets bound u
    have ctxKey : u.kh.ctxKey = tput none s.kh.ctxKey c none :=
      each_keeps (·.kh.ctxKey) (g := zeroJobKey) (fun _ _ => rfl) bound (zeroCtxKey c s)
    have memKey : u.kh.memKey = tput none s.kh.memKey c none :=
      each_keeps (·.kh.memKey) (g := zeroJobKey) (fun _ _ => rfl) bound (zeroCtxKey c s)
    have ctx : u.obj.ctx = tput {} s.obj.ctx c {} :=
      congrArg (tput ({} : Ctx) · c {}) (each_keeps (·.obj.ctx) (g := zeroJobKey) (fun _ _ => rfl) bound (zeroCtxKey c s))
    have ending : u.obj.destroying = s.obj.destroying :=
      each_keeps (·.obj.destroying) (g := zeroJobKey) (fun _ _ => rfl) bound (zeroCtxKey c s)
    split
    case isTrue _ => simp [ctx, ctxKey, memKey]
    case isFalse other => exact ⟨ctx, ctxKey, memKey, fun h => absurd (ending.trans h) other⟩
  · refine ⟨_, rfl, ?_⟩
    rw [effCtxAbort, objCmd_of_ready ready rfl]
    simp only [isLive, live, decide_true, if_true, objEnd, ctxOf_objDone]
    exact ⟨objOk_objDone .., ctxOf_ctxAbort _ _ _ live⟩
  · refine ⟨_, rfl, ?_⟩
    rw [effCtxRestart, objCmd_of_ready ready rfl]
    simp only [aborted, keyed, ne_eq, not_true, if_false, Bool.false_eq_true, objEnd, objDone_obj, objDone_kh]
    exact ⟨objOk_objDone .., rfl, rfl⟩
  · refine ⟨_, rfl, ?_⟩
    rw [effDecodeFailureEnd]
    simp only [failed, runs]
    rw [if_pos (by simpa using ends)]
    refine ⟨fun c owner live => ?_, fun owner => ?_⟩
    · rw [tileOwner_setTile, owner]
      exact ctxOf_ctxAbort _ _ _ live
    · rw [tileOwner_setTile, owner]
      exact congrArg Tile.part (tget_tput_self _ _ (by intro h; cases congrArg Tile.part h) _ _)

end Sys2Proof.Machine
end

section
/-!
PROOF. Queues, doorbells and memory objects: what each command leaves where it is accepted (05 R115 to R122, R460).
-/
namespace Sys2Proof.Machine
open Host

/-! ## Queues -/

theorem queueOf_setQueue_of_st (s : State) (q : Nat) (x : Queue) (h : x.st ≠ .free) : queueOf (setQueue s q x) q = x :=
  tget_tput_self _ _ (by rintro rfl; exact h rfl) _ _

/-- A queue has one cookie more than it can have used: the one drawn, or one above it, is new (05 R121). -/
theorem freshCookie_not_mem (used : List (Nat × BitVec 32)) (q : Nat) (draw : BitVec 32) (few : used.length < 2 ^ 32) :
    (q, freshCookie used q draw) ∉ used := by
  unfold freshCookie
  cases found : ((List.range (used.length + 1)).map (fun k => draw + BitVec.ofNat 32 k)).find? (fun c => !used.contains (q, c)) with
  | some c => simpa using List.find?_some found
  | none =>
    exfalso
    have all : ∀ k < used.length + 1, (q, draw + BitVec.ofNat 32 k) ∈ used := by simpa using found
    have inj : Set.InjOn (fun k => (q, draw + BitVec.ofNat 32 k)) {k | k ∈ List.range (used.length + 1)} := by
      intro i hi j hj same
      have hi' : i < used.length + 1 := by simpa using hi
      have hj' : j < used.length + 1 := by simpa using hj
      have same := congrArg BitVec.toNat ((BitVec.add_right_inj _).1 (Prod.mk.inj same).2)
      simp only [BitVec.toNat_ofNat] at same
      rwa [Nat.mod_eq_of_lt (by omega), Nat.mod_eq_of_lt (by omega)] at same
    have nodup : ((List.range (used.length + 1)).map (fun k => (q, draw + BitVec.ofNat 32 k))).Nodup :=
      List.Nodup.map_on (fun i hi j hj => inj hi hj) List.nodup_range
    have short := (nodup.subperm (l₂ := used) (by simpa [List.subset_def] using all)).length_le
    simp at short

theorem putB_length (b : Bytes) (o : Nat) (v : Bytes) (h : o ≤ b.length) : (putB b o v).length = b.length := by
  simp [putB]
  omega

/-- RESULT holds the bytes a command answers, from byte 0 (05 R106). -/
theorem leBytes_result (r : Nat) (v : Bytes) :
    leBytes 64 (BitVec.ofNat 512 (ofLe (putB (leBytes 64 r) 0 v))).toNat = putB (leBytes 64 r) 0 v := by
  have len : (putB (leBytes 64 r) 0 v).length = 64 := by rw [putB_length] <;> simp
  have below := ofLe_lt (putB (leBytes 64 r) 0 v)
  rw [len] at below
  rw [BitVec.toNat_ofNat, Nat.mod_eq_of_lt below]
  simpa [len] using leBytes_ofLe (putB (leBytes 64 r) 0 v)

theorem leAt_putB_zero (b : Bytes) (n x : Nat) (room : n ≤ b.length) (fits : x < 2 ^ (8 * n)) :
    leAt (putB b 0 (leBytes n x)) 0 n = x := by
  have h : putB b 0 (leBytes n x) = leBytes n x ++ b.drop n := by
    simp [putB, List.take_of_length_le, room]
  rw [h, leAt_leBytes_append _ fits]

section
variable {op : Nat} {x : ObjCmd} {st : QSt} {act : Nat → State → ObjEnd} {s : State}

/-- A command on a queue in its state, of a context that is not retiring. -/
theorem onQueue_of_done {t : State} {r : Bytes} (ready : objReady s x 1024) (state : (queueOf s x.id.toNat).st = st)
    (owner : (ctxOf s (queueOf s x.id.toNat).ctx).st ≠ .retiring) (done : act x.id.toNat s = .done r t) :
    onQueue op x st act s = objDone 0 r (irqVec x) t := by
  rw [onQueue, objCmd_of_ready ready rfl]
  simp only [state, notRetiring, owner, done, ne_eq, not_false_eq_true, decide_true, Bool.and_self, if_true, objEnd]

end

theorem ne_retiring_of_isLive {s : State} {c : Nat} (live : isLive s c = true) : (ctxOf s c).st ≠ .retiring := by
  simp [isLive] at live
  simp [live]

/-- A running queue that is asked to stop stops at once, or when its job has gone (05 R108). -/
theorem queueOf_settle_stopping (s : State) (q : Nat) (running : (queueOf s q).st = .running) :
    ((queueOf s q).job = none →
      (queueOf (queueSettle q (setQueue s q { queueOf s q with stopping := true })) q).st = .stopped) ∧
    ((queueOf s q).job ≠ none →
      queueOf (queueSettle q (setQueue s q { queueOf s q with stopping := true })) q = { queueOf s q with stopping := true }) := by
  have set := queueOf_setQueue_of_st s q { queueOf s q with stopping := true } (by simp [running])
  constructor
  · intro idle
    rw [queueSettle, set]
    simp only [idle, running, Option.isSome_none, Bool.false_eq_true, if_false, if_true, reduceCtorEq]
    rw [queueOf_setQueue_of_st _ _ _ (by simp)]
  · intro busy
    rw [queueSettle, set]
    simp only [Option.isSome_iff_ne_none.2 busy, if_true]
    exact set

/-- Settles O14: what the queue commands and doorbells do to a queue that accepts them. -/
theorem queueCommandsAct : Obligations.QueueCommandsAct := by
  refine ⟨fun s x ready form free owner => ?_, fun s x ready stopped owner => ?_, fun s x ready running owner => ?_,
    fun s x ready stopped owner => ?_, fun s q data host accepted ahead => ?_, fun s q data host accepted ahead => ?_⟩
  · refine ⟨_, rfl, ?_⟩
    rw [effQCreate, objCmd_of_ready ready form]
    simp only [free, owner, ne_eq, not_true, decide_false, Bool.not_true, Bool.or_self, Bool.false_eq_true, if_false, objEnd,
      queueOf_objDone, objDone_obj]
    generalize ck : freshCookie s.obj.cookies x.id.toNat (Config.cookie s.free) = c
    rw [queueOf_setQueue_of_st _ _ _ (by simp)]
    refine ⟨objOk_objDone .., rfl, rfl, rfl, rfl, rfl, rfl, rfl, ?_, rfl, fun few => ?_⟩
    · rw [leBytes_result, leAt_putB_zero _ _ _ (by simp) c.isLt]
    · exact ck ▸ freshCookie_not_mem _ _ _ few
  · refine ⟨_, rfl, ?_⟩
    rw [effQDestroy, onQueue_of_done ready stopped owner rfl]
    refine ⟨objOk_objDone .., ?_⟩
    rw [objDone_obj]
    refine congrArg (tput ({} : Queue) · x.id.toNat {}) ?_
    split
    · exact ((within_replaySettled ..).keeps (·.obj.q) fun _ => rfl).trans ((within_freeQuads ..).keeps (·.obj.q) fun _ => rfl)
    · rfl
  · refine ⟨_, rfl, ?_⟩
    rw [effQStop, onQueue_of_done ready running owner rfl]
    obtain ⟨idle, busy⟩ := queueOf_settle_stopping s x.id.toNat running
    refine ⟨objOk_objDone .., ?_⟩
    rw [queueOf_objDone]
    exact ⟨idle, fun h => by rw [busy h]; exact ⟨running, rfl⟩⟩
  · refine ⟨_, rfl, ?_⟩
    rw [effQStart, onQueue_of_done ready stopped (ne_retiring_of_isLive owner) (by rw [if_pos owner])]
    exact ⟨objOk_objDone .., by rw [objDone_obj]; rfl⟩
  · refine congrArg Outcome.next ?_
    simp [effSubmissionDoorbell, doorbell, host, accepted, Nat.not_lt.2 ahead]
  · refine congrArg Outcome.next ?_
    simp [effCompletionDoorbell, doorbell, host, accepted, Nat.not_lt.2 ahead]

/-! ## Memory objects -/

theorem moOf_setMo_of_st (s : State) (n : Nat) (x : MemObj) (h : x.st ≠ .free) : moOf (setMo s n x) n = x :=
  tget_tput_self _ _ (by rintro rfl; exact h rfl) _ _

/-- The table of objects and the HBM after an object has left its slot (05 R118). -/
theorem freeMo_spec (n : Nat) (s : State) : (freeMo n s).obj.mo = tput {} s.obj.mo n {} ∧ (freeMo n s).hbm = s.hbm :=
  ⟨congrArg (tput ({} : MemObj) · n {}) ((within_depClearAll ..).keeps (·.obj.mo) fun _ => rfl),
    (within_freeMo ..).keeps (·.hbm) fun _ => rfl⟩

/-- Settles O15: what the memory-object commands do to an object that accepts them. -/
theorem memoryObjectCommandsAct : Obligations.MemoryObjectCommandsAct := by
  refine ⟨fun s x ready form free owner biv va pa room => ?_, fun s x ready live owner => ?_,
    fun s x hr ready live cls owner => ?_, fun s x hr ready live cls owner => ?_⟩
  · refine ⟨_, rfl, ?_⟩
    have placed : (!(moOfDesc (objStage s)).host &&
        paBusy s (moOfDesc (objStage s)).pa ((moOfDesc (objStage s)).pa + (moOfDesc (objStage s)).size)) = false := by
      cases h : (moOfDesc (objStage s)).host <;> simp [h, pa]
    rw [effMemCreate, objCmd_of_ready ready form]
    simp only [free, owner, biv, va, placed, Nat.not_lt.2 room, ne_eq, not_true, decide_false, Bool.not_true, Bool.or_self,
      Bool.false_eq_true, if_false, objEnd, moOf_objDone, objDone_owned, objDone_dep, objDone_hbm]
    generalize made : { moOfDesc (objStage s) with
      pt := ptNeed s (moOfDesc (objStage s)).va (moOfDesc (objStage s)).size } = m
    have reads : moOf (setMo (drawn s) x.id.toNat m) x.id.toNat = m := moOf_setMo_of_st _ _ _ (by rw [← made]; simp [moOfDesc])
    refine ⟨objOk_objDone .., ?_, ?_, fun plain => ?_, ?_⟩
    · split
      · exact (within_regSync ..).keeps (·.hif.owned) fun _ => rfl
      · rfl
    · split
      · exact (within_regSync ..).keeps (·.hif.dep) fun _ => rfl
      · rfl
    · rw [plain]; rfl
    · split
      · exact ((within_regSync ..).keeps (moOf · x.id.toNat) fun _ => rfl).trans reads
      · exact reads
  · refine ⟨_, rfl, ?_⟩
    rw [effMemDestroy, objCmd_of_ready ready rfl]
    simp only [live, notRetiring, owner, ne_eq, not_false_eq_true, decide_true, decide_false, Bool.not_true, Bool.or_self,
      Bool.false_eq_true, if_false, objEnd, objDone_obj, objDone_hbm]
    refine ⟨objOk_objDone .., ?_, fun plain => by rw [plain]; exact (freeMo_spec _ s).2⟩
    split
    · exact ((within_regSync ..).keeps (·.obj.mo) fun _ => rfl).trans (freeMo_spec _ s).1
    · exact (freeMo_spec _ s).1
  · refine ⟨_, rfl, ?_⟩
    rw [effMemFreeze, objCmd_of_ready ready rfl]
    simp only [live, cls, notRetiring, owner, ne_eq, not_true, not_false_eq_true, decide_true, decide_false, Bool.not_true,
      Bool.or_self, Bool.false_eq_true, if_false, objEnd, moOf_objDone, objDone_hbm, objDone_obj]
    rw [moOf_setMo_of_st _ _ _ (by simp)]
    exact ⟨objOk_objDone .., rfl, rfl, rfl, rfl⟩
  · refine ⟨_, rfl, ?_⟩
    rw [effMemVerify, objCmd_of_ready ready rfl]
    simp only [live, cls, notRetiring, owner, ne_eq, not_true, not_false_eq_true, decide_true, decide_false, Bool.not_true,
      Bool.or_self, Bool.false_eq_true, if_false, objEnd, objDone_hbm, objDone_obj]
    exact ⟨objOk_objDone .., rfl, rfl, rfl⟩

end Sys2Proof.Machine
end

section
/-!
PROOF. A failed object command changes no object; its form is checked first (05 R107). What the object commands leave as it was.
-/
namespace Sys2Proof.Machine
open Host

/-- A state that one object command, under an operation code of its own, leaves of `s`. -/
def CommandEnd (x : ObjCmd) (s t : State) : Prop :=
  ∃ op lim bad ctx act, op < 2 ^ 8 ∧ t = objCmd op lim x bad ctx act s

theorem CommandEnd.intro {op lim : Nat} {x : ObjCmd} {bad : Bytes → Bool} {ctx : Bytes → Option Nat}
    {act : Bytes → State → ObjEnd} {s : State} (small : op < 2 ^ 8) : CommandEnd x s (objCmd op lim x bad ctx act s) :=
  ⟨op, lim, bad, ctx, act, small, rfl⟩

/-- Every object command goes through the command interface. -/
theorem exec_objectCommand {x : ObjCmd} {i : Instr} (h : Claims.objectCommand x i) (s : State) :
    ∃ t, exec i s = .next t ∧ CommandEnd x s t := by
  rcases h with ⟨d, rfl⟩ | rfl | rfl | rfl | rfl | rfl | rfl | rfl | rfl | rfl | ⟨hr, rfl⟩ | ⟨hr, rfl⟩ | rfl | rfl | rfl | rfl | rfl
  · exact ⟨_, rfl, by unfold effCtxCreate; exact .intro (by decide)⟩
  · exact ⟨_, rfl, by unfold effCtxDestroy; exact .intro (by decide)⟩
  · exact ⟨_, rfl, by unfold effCtxAbort; exact .intro (by decide)⟩
  · exact ⟨_, rfl, by unfold effCtxRestart; exact .intro (by decide)⟩
  · exact ⟨_, rfl, by unfold effQCreate; exact .intro (by decide)⟩
  · exact ⟨_, rfl, by unfold effQDestroy onQueue; exact .intro (by decide)⟩
  · exact ⟨_, rfl, by unfold effQStop onQueue; exact .intro (by decide)⟩
  · exact ⟨_, rfl, by unfold effQStart onQueue; exact .intro (by decide)⟩
  · exact ⟨_, rfl, by unfold effMemCreate; exact .intro (by decide)⟩
  · exact ⟨_, rfl, by unfold effMemDestroy; exact .intro (by decide)⟩
  · exact ⟨_, rfl, by unfold effMemFreeze; exact .intro (by decide)⟩
  · exact ⟨_, rfl, by unfold effMemVerify; exact .intro (by decide)⟩
  · exact ⟨_, rfl, by unfold effEvCreate; exact .intro (by decide)⟩
  · exact ⟨_, rfl, by unfold effEvDestroy onEvent; exact .intro (by decide)⟩
  · exact ⟨_, rfl, by unfold effEvAdd onEvent; exact .intro (by decide)⟩
  · exact ⟨_, rfl, by unfold effEvSet onEvent; exact .intro (by decide)⟩
  · exact ⟨_, rfl, by unfold effEvArm onEvent; exact .intro (by decide)⟩

section
variable {op lim : Nat} {x : ObjCmd} {bad : Bytes → Bool} {ctx : Bytes → Option Nat} {act : Bytes → State → ObjEnd} {s : State}

/-- A command that has ended with a code was refused where it stood, or was given to no one (05 R106, R107). -/
theorem within_objCmd_failed (idle : (objCmd op lim x bad ctx act s).obj.busy = false)
    (code : (objCmd op lim x bad ctx act s).obj.code ≠ 0) :
    Within [.out, .erqIn, .msix, .obj, .dict] s (objCmd op lim x bad ctx act s) := by
  unfold objCmd at idle code ⊢
  dsimp only at idle code ⊢
  split
  · exact .refl _ _
  split
  case isTrue busy => rw [if_neg ‹_›, if_pos busy] at idle; cases busy.symm.trans idle
  split
  · exact within_objFail ..
  split
  · exact within_objFail ..
  split
  · exact within_objFail ..
  rename_i h1 h2 h3 h4 h5
  simp only [h1, h2, h3, h4, h5] at idle code
  cases ended : act (leBytes 64 s.obj.stage.toNat) s with
  | fail c a => exact within_objFail ..
  | done r t => rw [ended] at code; simp at code
  | runs t => rw [ended] at idle; cases idle

/-- A command of a wrong form fails with one record that names its ID. -/
theorem objCmd_of_reserved (host : hostReady s = true) (idle : s.obj.busy = false) (rsv : x.rsvLo ≠ 0 ∨ x.rsvHi ≠ 0) :
    objCmd op lim x bad ctx act s = objFail errCmdInvalid (ObjCmd.raw op x) 0 none (irqVec x) s := by
  have bits : (decide (x.rsvLo ≠ 0) || decide (x.rsvHi ≠ 0) || decide (lim ≤ x.id.toNat)) = true := by
    rcases rsv with h | h <;> simp only [decide_eq_true h, Bool.true_or, Bool.or_true]
  simp only [objCmd, host, idle, bits, Bool.not_true, Bool.false_eq_true, if_false, if_true]
  rfl

theorem raw_id (small : op < 2 ^ 8) : bitsN (ObjCmd.raw op x) 16 16 = x.id.toNat := by
  have lo := x.rsvLo.isLt
  have id := x.id.isLt
  rw [bitsN_eq, ObjCmd.raw]
  omega

end

/-- The records that wait after a command has failed. -/
theorem incoming_objFail (code raw addr : Nat) (ctx : Option Nat) (v : Option (BitVec 11)) (s : State)
    (host : domOn s dHOST = true) :
    (objFail code raw addr ctx v s).erq.incoming = s.erq.incoming ++
      [{ code := code, src := 2, ctx := ctx, unit := bitsN raw 16 16, addr := addr, detail := raw }] := by
  have ended := (within_objDone (raise { code := code, src := 2, ctx := ctx, unit := bitsN raw 16 16, addr := addr, detail := raw } s)
    code [] v).keeps (·.erq.incoming) fun _ => rfl
  obtain ⟨_, _, _, _, _, raised⟩ := raise_eq s { code := code, src := 2, ctx := ctx, unit := bitsN raw 16 16, addr := addr, detail := raw }
  rw [objFail, ended, raised, host]
  rfl

theorem domOn_of_hostReady {s : State} (h : hostReady s = true) : domOn s dHOST = true := by
  simp [hostReady] at h
  exact h.1.1

theorem failedObjectCommandChangesNoObject : Claims.FailedObjectCommandChangesNoObject := by
  intro s t x i command ran idle code
  obtain ⟨u, run, op, lim, bad, ctx, act, -, rfl⟩ := exec_objectCommand command s
  cases Outcome.next.inj (run.symm.trans ran)
  have w := within_objCmd_failed idle code
  generalize objCmd op lim x bad ctx act s = t at w
  rw [w.eq_graft]
  exact ⟨rfl, rfl, rfl, rfl, rfl, rfl, rfl, rfl, rfl, rfl⟩

theorem objectCommandFormChecked : Claims.ObjectCommandFormChecked := by
  intro s x i command host idle rsv
  obtain ⟨u, run, op, lim, bad, ctx, act, small, rfl⟩ := exec_objectCommand command s
  refine ⟨_, run, ?_⟩
  rw [objCmd_of_reserved host idle rsv]
  refine ⟨?_, ?_, ?_, _, incoming_objFail _ _ _ _ _ _ (domOn_of_hostReady host), rfl, rfl, raw_id small⟩ <;>
    simp [objFail, errCmdInvalid]

/-- Settles O17: a failed command changes no object, and a Reserved field fails it. -/
theorem objectCommandChecks : Obligations.ObjectCommandChecks :=
  ⟨failedObjectCommandChangesNoObject, objectCommandFormChecked⟩

end Sys2Proof.Machine
end

section
/-!
PROOF. What the object commands leave as it was (05 R107 to R122, R128 to R131).
-/
namespace Sys2Proof.Machine
open Host

/-! ## What a command's own effect keeps, the command keeps -/

/-- An effect that is not refused keeps what `f` reads. -/
def ObjEnd.Keeps {α : Type} (f : State → α) (s : State) : ObjEnd → Prop
  | .fail _ _ => True
  | .done _ t => f t = f s
  | .runs t => f t = f s

section
variable {α : Type} {f : State → α} {op lim : Nat} {x : ObjCmd} {s : State}

theorem objCmd_keeps {bad : Bytes → Bool} {ctx : Bytes → Option Nat} {act : Bytes → State → ObjEnd}
    (cmd : ∀ u t, Within cmdParts u t → f t = f u) (eff : ∀ d, (act d s).Keeps f s) :
    f (objCmd op lim x bad ctx act s) = f s := by
  unfold objCmd
  dsimp only
  split
  · rfl
  split
  · exact cmd s _ (.sub (.upd [.obj] (by rfl)) (by rfl))
  split
  · exact cmd _ _ (.sub (within_objFail ..) (by rfl))
  split
  · exact cmd _ _ (.sub (within_objFail ..) (by rfl))
  split
  · exact cmd _ _ (.sub (within_objFail ..) (by rfl))
  have eff := eff (leBytes 64 s.obj.stage.toNat)
  split
  · exact cmd _ _ (.sub (within_objFail ..) (by rfl))
  case h_2 r t ended => rw [ended] at eff; exact (cmd _ _ (.sub (within_objDone ..) (by rfl))).trans eff
  case h_3 t ended => rw [ended] at eff; exact (cmd t _ (.sub (.upd [.obj] (by rfl)) (by rfl))).trans eff

theorem onQueue_keeps {st : QSt} {act : Nat → State → ObjEnd} (cmd : ∀ u t, Within cmdParts u t → f t = f u)
    (eff : (act x.id.toNat s).Keeps f s) : f (onQueue op x st act s) = f s := by
  unfold onQueue
  refine objCmd_keeps cmd fun d => ?_
  split
  · exact eff
  · trivial

theorem onEvent_keeps {act : Nat → Bytes → State → State} (cmd : ∀ u t, Within cmdParts u t → f t = f u)
    (eff : ∀ d, f (act x.id.toNat d s) = f s) : f (onEvent op x act s) = f s := by
  unfold onEvent
  refine objCmd_keeps cmd fun d => ?_
  split
  · exact eff d
  · trivial

end

/-- What holds of the state a command gives holds of the state it goes on to. -/
theorem of_ran {u t : State} (h : (Outcome.next u : Outcome State Fault Refusal) = .next t) (P : State → Prop) (p : P u) : P t :=
  Outcome.next.inj h ▸ p

/-! ## The other objects of a table -/

section
variable {s : State} {n k : Nat}

theorem queueOf_setQueue_of_ne (x : Queue) (wf : tabWf {} s.obj.q = true) (h : k ≠ n) : queueOf (setQueue s n x) k = queueOf s k := by
  rw [queueOf_setQueue s n k x wf, if_neg h]

theorem moOf_setMo_of_ne (x : MemObj) (wf : tabWf {} s.obj.mo = true) (h : k ≠ n) : moOf (setMo s n x) k = moOf s k := by
  rw [moOf_setMo s n k x wf, if_neg h]

theorem evOf_setEv_of_ne (x : Event) (wf : tabWf {} s.obj.ev = true) (h : k ≠ n) : evOf (setEv s n x) k = evOf s k := by
  rw [evOf_setEv s n k x wf, if_neg h]

theorem ctxOf_setCtx_of_ne (x : Ctx) (wf : tabWf {} s.obj.ctx = true) (h : k ≠ n) : ctxOf (setCtx s n x) k = ctxOf s k := by
  rw [ctxOf_setCtx s n k x wf, if_neg h]

theorem queueOf_queueSettle_of_ne (wf : tabWf {} s.obj.q = true) (h : k ≠ n) : queueOf (queueSettle n s) k = queueOf s k := by
  unfold queueSettle
  dsimp only
  split
  · rfl
  split
  · split
    · exact queueOf_setQueue_of_ne _ wf h
    · rfl
  split
  · exact queueOf_setQueue_of_ne _ wf h
  · rfl

theorem moOf_freeMo_of_ne (wf : tabWf {} s.obj.mo = true) (h : k ≠ n) : moOf (freeMo n s) k = moOf s k := by
  have spec := (freeMo_spec n s).1
  rw [moOf, spec, tget_tput _ _ _ _ _ wf, if_neg h, moOf]

theorem evOf_evNotify_of_ne (wf : tabWf {} s.obj.ev = true) (h : k ≠ n) : evOf (evNotify n s) k = evOf s k := by
  unfold evNotify
  dsimp only
  split
  · split
    · exact ((within_msixIf ..).keeps (evOf · k) fun _ => rfl).trans (evOf_setEv_of_ne _ wf h)
    · exact ((within_hostWrite ..).keeps (evOf · k) fun _ => rfl).trans (evOf_setEv_of_ne _ wf h)
  · rfl

theorem evOf_evChange_of_ne (v : BitVec 64) (wf : tabWf {} s.obj.ev = true) (h : k ≠ n) : evOf (evChange n v s) k = evOf s k := by
  rw [evChange, evOf_evNotify_of_ne (by exact tabWf_tput _ _ _ _ wf) h, evOf_markWaits, evOf_setEv_of_ne _ wf h]

theorem evOf_evAdd_of_ne (inc : Nat) (mk : ErrRec) (wf : tabWf {} s.obj.ev = true) (h : k ≠ n) :
    evOf (evAdd n inc mk s) k = evOf s k := by
  unfold evAdd
  dsimp only
  split
  · exact ((within_raise ..).keeps (evOf · k) fun _ => rfl).trans (evOf_evChange_of_ne _ wf h)
  · exact evOf_evChange_of_ne _ wf h

theorem evOf_freeEv_of_ne (wf : tabWf {} s.obj.ev = true) (h : k ≠ n) : evOf (freeEv n s) k = evOf s k := by
  rw [freeEv, evOf_setEv_of_ne _ (by exact wf) h, evOf_markWaits]

theorem ctxOf_ctxMake_of_ne (d : Bytes) (wf : tabWf {} s.obj.ctx = true) (h : k ≠ n) : ctxOf (ctxMake n d s) k = ctxOf s k := by
  unfold ctxMake
  dsimp only
  rw [each_bindKey]
  exact ctxOf_setCtx_of_ne _ (by exact wf) h

end

/-! ## Quadrants of a queue that goes -/

theorem lget_lset_self {β : Type} (d v : β) (l : List β) (i : Nat) :
    lget d (lset l i v) i = if i < l.length then v else lget d l i := by
  induction l generalizing i with
  | nil => rfl
  | cons x r ih => cases i <;> simp [lset, lget, ih]

section
variable {s : State} {q k : Nat}

/-- Freeing the quadrants of a queue's job keeps every owner, and the quadrants of other jobs whole. -/
theorem quadOf_freeQuads : (quadOf (freeQuads q s) k).owner = (quadOf s k).owner ∧
    ((quadOf s k).holder ≠ some q → quadOf (freeQuads q s) k = quadOf s k) := by
  have one : ∀ (i : Nat) (s : State), quadOf (bump 0x3013 (i + 1) (s.now - (quadOf s i).since)
      (setQuad s i { quadOf s i with holder := none })) k =
        if k = i ∧ i < s.quad.length then { quadOf s i with holder := none } else quadOf s k := by
    intro i s
    rw [quadOf, bump_quad]
    by_cases here : k = i
    · subst here
      exact (lget_lset_self ..).trans (by simp [quadOf])
    · exact (lget_lset_of_ne _ _ _ here).trans (by simp [here, quadOf])
  have walk : ∀ (l : List Nat) (s : State), (quadOf (each l (fun i s => bump 0x3013 (i + 1) (s.now - (quadOf s i).since)
      (setQuad s i { quadOf s i with holder := none })) s) k).owner = (quadOf s k).owner ∧
      (k ∉ l → quadOf (each l (fun i s => bump 0x3013 (i + 1) (s.now - (quadOf s i).since)
      (setQuad s i { quadOf s i with holder := none })) s) k = quadOf s k) := by
    intro l
    induction l with
    | nil => exact fun s => ⟨rfl, fun _ => rfl⟩
    | cons i l ih =>
      intro s
      obtain ⟨owner, same⟩ := ih (bump 0x3013 (i + 1) (s.now - (quadOf s i).since) (setQuad s i { quadOf s i with holder := none }))
      rw [one] at owner same
      refine ⟨owner.trans ?_, fun out => (same (List.not_mem_of_not_mem_cons out)).trans ?_⟩
      · split
        · simp_all
        · rfl
      · rw [if_neg fun h => (List.ne_of_not_mem_cons out) h.1]
  obtain ⟨owner, same⟩ := walk (heldQuads s q) s
  exact ⟨owner, fun other => same (by simp [heldQuads, other])⟩

/-- A queue with no job destroyed reaches no quadrant and no recovery. -/
theorem effQDestroy_quad (x : ObjCmd) (s : State) :
    ((queueOf s x.id.toNat).job = none → (effQDestroy x s).quad = s.quad ∧ (effQDestroy x s).rcv = s.rcv) ∧
    ∀ k, (quadOf (effQDestroy x s) k).owner = (quadOf s k).owner ∧
      ((quadOf s k).holder ≠ some x.id.toNat → quadOf (effQDestroy x s) k = quadOf s k) := by
  have settled : ∀ j u k, quadOf (replaySettled x.id.toNat j u) k = quadOf u k := fun j u k =>
    (within_replaySettled ..).keeps (quadOf · k) fun _ => rfl
  refine ⟨fun idle => ⟨?_, ?_⟩, fun k => ⟨?_, fun other => ?_⟩⟩
  · refine onQueue_keeps (f := (·.quad)) (fun u t w => w.keeps (·.quad) fun _ => rfl) ?_
    dsimp only [ObjEnd.Keeps]
    rw [idle]
    rfl
  · refine onQueue_keeps (f := (·.rcv)) (fun u t w => w.keeps (·.rcv) fun _ => rfl) ?_
    dsimp only [ObjEnd.Keeps]
    rw [idle]
    rfl
  · refine onQueue_keeps (f := fun t => (quadOf t k).owner) (fun u t w => w.keeps (fun t => (quadOf t k).owner) fun _ => rfl) ?_
    dsimp only [ObjEnd.Keeps]
    split
    · exact (congrArg Quad.owner (settled _ _ k)).trans quadOf_freeQuads.1
    · rfl
  · refine onQueue_keeps (f := (quadOf · k)) (fun u t w => w.keeps (quadOf · k) fun _ => rfl) ?_
    dsimp only [ObjEnd.Keeps]
    split
    · exact (settled _ _ k).trans (quadOf_freeQuads.2 other)
    · rfl

end

/-! ## The obligation -/

section
variable {s : State} {x : ObjCmd} {k : Nat}

theorem queueOf_queueCommand_of_ne (wf : tabWf {} s.obj.q = true) (h : k ≠ x.id.toNat) :
    queueOf (effQCreate x s) k = queueOf s k ∧ queueOf (effQStop x s) k = queueOf s k ∧
      queueOf (effQStart x s) k = queueOf s k ∧ queueOf (effQDestroy x s) k = queueOf s k := by
  refine ⟨?_, ?_, ?_, ?_⟩
  · unfold effQCreate
    refine objCmd_keeps (f := (queueOf · k)) (fun u t w => w.keeps (queueOf · k) fun _ => rfl) fun d => ?_
    dsimp only
    split
    · trivial
    · exact queueOf_setQueue_of_ne _ (by exact wf) h
  · refine onQueue_keeps (f := (queueOf · k)) (fun u t w => w.keeps (queueOf · k) fun _ => rfl) ?_
    exact (queueOf_queueSettle_of_ne (by exact tabWf_tput _ _ _ _ wf) h).trans (queueOf_setQueue_of_ne _ wf h)
  · refine onQueue_keeps (f := (queueOf · k)) (fun u t w => w.keeps (queueOf · k) fun _ => rfl) ?_
    dsimp only
    split
    · exact queueOf_setQueue_of_ne _ wf h
    · trivial
  · refine onQueue_keeps (f := (queueOf · k)) (fun u t w => w.keeps (queueOf · k) fun _ => rfl) ?_
    dsimp only [ObjEnd.Keeps]
    split
    case h_1 j _ =>
      have same : (replaySettled x.id.toNat j (freeQuads x.id.toNat s)).obj.q = s.obj.q :=
        ((within_replaySettled ..).keeps (·.obj.q) fun _ => rfl).trans ((within_freeQuads ..).keeps (·.obj.q) fun _ => rfl)
      rw [queueOf_setQueue_of_ne _ (by rw [same]; exact wf) h, queueOf, same, queueOf]
    case h_2 => exact queueOf_setQueue_of_ne _ wf h

theorem moOf_memCommand_of_ne (hr : List Host.Cell) (wf : tabWf {} s.obj.mo = true) (h : k ≠ x.id.toNat) :
    moOf (effMemCreate x s) k = moOf s k ∧ moOf (effMemDestroy x s) k = moOf s k ∧
      moOf (effMemFreeze x hr s) k = moOf s k ∧ moOf (effMemVerify x hr s) k = moOf s k := by
  have synced : ∀ r u, moOf (regSync r u) k = moOf u k := fun r u => (within_regSync ..).keeps (moOf · k) fun _ => rfl
  refine ⟨?_, ?_, ?_, ?_⟩
  · unfold effMemCreate
    refine objCmd_keeps (f := (moOf · k)) (fun u t w => w.keeps (moOf · k) fun _ => rfl) fun d => ?_
    dsimp only
    split
    · trivial
    split
    · trivial
    split
    · trivial
    split
    · trivial
    split
    · trivial
    · dsimp only [ObjEnd.Keeps]
      split
      · exact (synced _ _).trans (moOf_setMo_of_ne _ (by exact wf) h)
      · exact moOf_setMo_of_ne _ (by exact wf) h
  · unfold effMemDestroy
    refine objCmd_keeps (f := (moOf · k)) (fun u t w => w.keeps (moOf · k) fun _ => rfl) fun d => ?_
    dsimp only
    split
    · trivial
    · dsimp only [ObjEnd.Keeps]
      split
      · exact (synced _ _).trans (moOf_freeMo_of_ne wf h)
      · exact moOf_freeMo_of_ne wf h
  · unfold effMemFreeze
    refine objCmd_keeps (f := (moOf · k)) (fun u t w => w.keeps (moOf · k) fun _ => rfl) fun d => ?_
    dsimp only
    split
    · trivial
    · exact moOf_setMo_of_ne _ (by exact wf) h
  · unfold effMemVerify
    refine objCmd_keeps (f := (moOf · k)) (fun u t w => w.keeps (moOf · k) fun _ => rfl) fun d => ?_
    dsimp only
    split
    · trivial
    · rfl

theorem evOf_evCommand_of_ne (wf : tabWf {} s.obj.ev = true) (h : k ≠ x.id.toNat) :
    evOf (effEvCreate x s) k = evOf s k ∧ evOf (effEvDestroy x s) k = evOf s k ∧ evOf (effEvAdd x s) k = evOf s k ∧
      evOf (effEvSet x s) k = evOf s k ∧ evOf (effEvArm x s) k = evOf s k := by
  have cmd : ∀ u t, Within cmdParts u t → evOf t k = evOf u k := fun u t w => w.keeps (evOf · k) fun _ => rfl
  refine ⟨?_, ?_, ?_, ?_, ?_⟩
  · unfold effEvCreate
    refine objCmd_keeps (f := (evOf · k)) cmd fun d => ?_
    dsimp only
    split
    · trivial
    · exact (evOf_evNotify_of_ne (by exact tabWf_tput _ _ _ _ wf) h).trans (evOf_setEv_of_ne _ wf h)
  · exact onEvent_keeps (f := (evOf · k)) cmd fun d => evOf_freeEv_of_ne wf h
  · exact onEvent_keeps (f := (evOf · k)) cmd fun d => evOf_evAdd_of_ne _ _ wf h
  · exact onEvent_keeps (f := (evOf · k)) cmd fun d => evOf_evChange_of_ne _ wf h
  · exact onEvent_keeps (f := (evOf · k)) cmd fun d =>
      (evOf_evNotify_of_ne (by exact tabWf_tput _ _ _ _ wf) h).trans (evOf_setEv_of_ne _ wf h)

theorem ctxOf_effCtxCreate_of_ne (dur : Nat) (wf : tabWf {} s.obj.ctx = true) (h : k ≠ x.id.toNat) :
    ctxOf (effCtxCreate x dur s) k = ctxOf s k := by
  unfold effCtxCreate
  refine objCmd_keeps (f := (ctxOf · k)) (fun u t w => w.keeps (ctxOf · k) fun _ => rfl) fun d => ?_
  iterate 7
    split
    · trivial
  split
  · exact ctxOf_ctxMake_of_ne _ wf h
  · rfl

end

/-- What the commands that end or abort a context leave as it was. -/
theorem Within.context_leaves {l : List Part} {s t : State} (w : Within l s t)
    (h : Sub l [.free, .out, .quad, .tile, .mesh, .hbm, .port, .erqIn, .msix, .dep, .owned, .hif, .ctx, .queue, .mo, .ev, .obj,
      .txns, .tags, .quar, .txn, .pair, .seals, .sealRows, .sealer, .rcv, .qp, .ethPort, .stat, .dict, .ctxKey, .jobKey,
      .memKey, .gcmKey, .ret]) :
    t.now = s.now ∧ t.id = s.id ∧ t.pwr = s.pwr ∧ t.rtc = s.rtc ∧ t.cvu = s.cvu ∧ t.vb = s.vb ∧ t.flash = s.flash ∧
      t.fab = s.fab ∧ t.scrub = s.scrub ∧ t.tele = s.tele ∧ t.kh.chassis = s.kh.chassis ∧ t.kh.dbg = s.kh.dbg := by
  have w := w.sub h
  exact ⟨w.read (·.now), w.read (·.id), w.read (·.pwr), w.read (·.rtc), w.read (·.cvu), w.read (·.vb), w.read (·.flash),
    w.read (·.fab), w.read (·.scrub), w.read (·.tele), w.read (·.kh.chassis), w.read (·.kh.dbg)⟩

/-- Settles O18: what the object commands leave as it was. -/
theorem objectFrame : Obligations.ObjectFrame := by
  intro s t x dur q d hr wf
  obtain ⟨-, -, -, ctxs, queues, objects, events, -⟩ := (tables_wf_iff s).1 wf
  refine ⟨?_, ?_, ?_, ?_, ?_, ?_, ?_, ?_⟩
  · rintro (h | h | h)
    · have w := (within_effQCreate ..).ran h
      exact ⟨w.eq_graft ▸ rfl, w.read (·.obj.ctx), w.read (·.obj.mo), w.read (·.obj.ev),
        of_ran h (fun t => ∀ k, k ≠ x.id.toNat → queueOf t k = queueOf s k) fun k ne => (queueOf_queueCommand_of_ne queues ne).1⟩
    · have w := (within_effQStop ..).ran h
      exact ⟨w.eq_graft ▸ rfl, w.read (·.obj.ctx), w.read (·.obj.mo), w.read (·.obj.ev),
        of_ran h (fun t => ∀ k, k ≠ x.id.toNat → queueOf t k = queueOf s k) fun k ne => (queueOf_queueCommand_of_ne queues ne).2.1⟩
    · have w := (within_effQStart ..).ran h
      exact ⟨w.eq_graft ▸ rfl, w.read (·.obj.ctx), w.read (·.obj.mo), w.read (·.obj.ev),
        of_ran h (fun t => ∀ k, k ≠ x.id.toNat → queueOf t k = queueOf s k) fun k ne => (queueOf_queueCommand_of_ne queues ne).2.2.1⟩
  · intro h
    have w := (within_effQDestroy ..).ran h
    obtain ⟨idle, other⟩ := effQDestroy_quad x s
    exact ⟨w.eq_graft ▸ rfl, w.read (·.obj.ctx), w.read (·.obj.mo), w.read (·.obj.ev),
      of_ran h (fun t => ∀ k, k ≠ x.id.toNat → queueOf t k = queueOf s k) fun k ne => (queueOf_queueCommand_of_ne queues ne).2.2.2, of_ran h (fun t => (queueOf s x.id.toNat).job = none → t.quad = s.quad ∧ t.rcv = s.rcv) idle,
      of_ran h (fun t => ∀ k, (quadOf t k).owner = (quadOf s k).owner ∧ ((quadOf s k).holder ≠ some x.id.toNat → quadOf t k = quadOf s k)) other⟩
  · have other : ∀ {k : Nat} {log : Nat} {act : Nat → State → State}, (∀ v, queueOf (act v s) k = queueOf s k) →
        queueOf (doorbell q d log act s) k = queueOf s k := by
      intro k log act same
      unfold doorbell
      dsimp only
      split
      · rfl
      split
      · exact same _
      · exact (within_raise ..).keeps (queueOf · k) fun _ => rfl
    rintro (h | h)
    · have w := (within_effSubmissionDoorbell ..).ran h
      refine ⟨w.eq_graft ▸ rfl, of_ran h (fun t => ∀ k, k ≠ q → queueOf t k = queueOf s k) fun k ne => other fun v => ?_⟩
      dsimp only
      split
      · exact queueOf_setQueue_of_ne _ (by exact queues) ne
      · exact queueOf_setQueue_of_ne _ queues ne
    · have w := (within_effCompletionDoorbell ..).ran h
      refine ⟨w.eq_graft ▸ rfl, of_ran h (fun t => ∀ k, k ≠ q → queueOf t k = queueOf s k) fun k ne => other fun v => ?_⟩
      dsimp only
      split
      · exact queueOf_setQueue_of_ne _ (by exact queues) ne
      · exact queueOf_setQueue_of_ne _ queues ne
  · rintro (h | h | h | h)
    · have w := (within_effMemCreate ..).ran h
      exact ⟨w.eq_graft ▸ rfl, w.read (·.obj.ctx), w.read (·.obj.q), w.read (·.obj.ev),
        of_ran h (fun t => ∀ k, k ≠ x.id.toNat → moOf t k = moOf s k) fun k ne => (moOf_memCommand_of_ne hr objects ne).1⟩
    · have w := (within_effMemDestroy ..).ran h
      exact ⟨w.eq_graft ▸ rfl, w.read (·.obj.ctx), w.read (·.obj.q), w.read (·.obj.ev),
        of_ran h (fun t => ∀ k, k ≠ x.id.toNat → moOf t k = moOf s k) fun k ne => (moOf_memCommand_of_ne hr objects ne).2.1⟩
    · have w := (within_effMemFreeze ..).ran h
      exact ⟨w.eq_graft ▸ rfl, w.read (·.obj.ctx), w.read (·.obj.q), w.read (·.obj.ev),
        of_ran h (fun t => ∀ k, k ≠ x.id.toNat → moOf t k = moOf s k) fun k ne => (moOf_memCommand_of_ne hr objects ne).2.2.1⟩
    · have w := (within_effMemVerify ..).ran h
      exact ⟨w.eq_graft ▸ rfl, w.read (·.obj.ctx), w.read (·.obj.q), w.read (·.obj.ev),
        of_ran h (fun t => ∀ k, k ≠ x.id.toNat → moOf t k = moOf s k) fun k ne => (moOf_memCommand_of_ne hr objects ne).2.2.2⟩
  · rintro (h | h | h | h | h)
    · have w := (within_effEvCreate ..).ran h
      exact ⟨w.eq_graft ▸ rfl, w.read (·.obj.ctx), w.read (·.obj.q), w.read (·.obj.mo),
        of_ran h (fun t => ∀ k, k ≠ x.id.toNat → evOf t k = evOf s k) fun k ne => (evOf_evCommand_of_ne events ne).1⟩
    · have w := (within_effEvDestroy ..).ran h
      exact ⟨w.eq_graft ▸ rfl, w.read (·.obj.ctx), w.read (·.obj.q), w.read (·.obj.mo),
        of_ran h (fun t => ∀ k, k ≠ x.id.toNat → evOf t k = evOf s k) fun k ne => (evOf_evCommand_of_ne events ne).2.1⟩
    · have w := (within_effEvAdd ..).ran h
      exact ⟨w.eq_graft ▸ rfl, w.read (·.obj.ctx), w.read (·.obj.q), w.read (·.obj.mo),
        of_ran h (fun t => ∀ k, k ≠ x.id.toNat → evOf t k = evOf s k) fun k ne => (evOf_evCommand_of_ne events ne).2.2.1⟩
    · have w := (within_effEvSet ..).ran h
      exact ⟨w.eq_graft ▸ rfl, w.read (·.obj.ctx), w.read (·.obj.q), w.read (·.obj.mo),
        of_ran h (fun t => ∀ k, k ≠ x.id.toNat → evOf t k = evOf s k) fun k ne => (evOf_evCommand_of_ne events ne).2.2.2.1⟩
    · have w := (within_effEvArm ..).ran h
      exact ⟨w.eq_graft ▸ rfl, w.read (·.obj.ctx), w.read (·.obj.q), w.read (·.obj.mo),
        of_ran h (fun t => ∀ k, k ≠ x.id.toNat → evOf t k = evOf s k) fun k ne => (evOf_evCommand_of_ne events ne).2.2.2.2⟩
  · intro h
    have w := (within_effCtxRestart ..).ran h
    exact ⟨w.eq_graft ▸ rfl, w.read (·.obj.q), w.read (·.obj.mo), w.read (·.obj.ev)⟩
  · intro h
    have w := (within_effCtxCreate ..).ran h
    exact ⟨w.eq_graft ▸ rfl, w.read (·.obj.q), w.read (·.obj.mo), w.read (·.obj.ev),
      of_ran h (fun t => ∀ k, k ≠ x.id.toNat → ctxOf t k = ctxOf s k) fun k ne => ctxOf_effCtxCreate_of_ne dur ctxs ne⟩
  · rintro (h | h | h | h)
    · exact ((within_effCtxDestroy ..).ran h).context_leaves (by rfl)
    · exact ((within_effCtxAbort ..).ran h).context_leaves (by rfl)
    · exact ((within_effContextFree ..).ran h).context_leaves (by rfl)
    · exact ((within_effDecodeFailureEnd ..).ran h).context_leaves (by rfl)

end Sys2Proof.Machine
end

section
/-!
PROOF. Power domains and power states (13 R331 to R337).
-/
namespace Sys2Proof.Machine
open Host

/-! ## The domains that are on after a switch -/

section
variable (s : State)

theorem domOn_setDom {d e : Nat} (he : e < 10) (b : Bool) :
    domOn (setDom d b s) e = if e = d then b else domOn s e := by
  cases b
  · change (s.pwr.on &&& ~~~(BitVec.ofNat 10 (2 ^ d))).getLsbD e = if e = d then false else s.pwr.on.getLsbD e
    rw [BitVec.getLsbD_and, BitVec.getLsbD_not, BitVec.getLsbD_ofNat, Nat.testBit_two_pow]
    by_cases h : e = d
    · simp [h]
    · rw [if_neg h, decide_eq_false (Ne.symm h)]
      simp [he]
  · change (s.pwr.on ||| BitVec.ofNat 10 (2 ^ d)).getLsbD e = if e = d then true else s.pwr.on.getLsbD e
    rw [BitVec.getLsbD_or, BitVec.getLsbD_ofNat, Nat.testBit_two_pow]
    by_cases h : e = d
    · subst h; simp [he]
    · rw [if_neg h, decide_eq_false (Ne.symm h)]
      simp

/-- Switching a domain off clears its bit, and no other. -/
theorem domOn_domainOff {d e : Nat} (he : e < 10) : domOn (domainOff d s) e = (domOn s e && decide (e ≠ d)) := by
  have off : ∀ u : State, u.pwr.on = s.pwr.on → domOn (setDom d false u) e = (domOn s e && decide (e ≠ d)) := fun u same => by
    rw [domOn_setDom u he, domOn, same, ← domOn]
    by_cases h : e = d <;> simp [h]
  unfold domainOff
  split
  case isTrue already =>
    by_cases h : e = d
    · subst h; simpa using already
    · simp [h]
  split
  · exact off _ rfl
  split
  · exact off _ rfl
  split
  · exact off _ rfl
  split
  · exact off _ (each_keeps (·.pwr.on) (fun p s => (within_portOff s p).keeps (·.pwr.on) fun _ => rfl) _ _)
  split
  · exact off _ ((within_netOff s).keeps (·.pwr.on) fun _ => rfl)
  · exact off _ ((within_scrubQuad ..).keeps (·.pwr.on) fun _ => rfl)

/-- Switching a domain on sets its bit and clears none. -/
theorem domOn_domainOn {d e : Nat} (he : e < 10) (h : e = d ∨ domOn s e = true) : domOn (domainOn d s) e = true := by
  have on : ∀ u : State, u.pwr.on = (setDom d true s).pwr.on → domOn u e = true := fun u same => by
    rw [domOn, same, ← domOn, domOn_setDom s he]
    rcases h with h | h <;> simp [h]
  unfold domainOn
  split
  case isTrue already => rcases h with rfl | h <;> assumption
  split
  · exact on _ ((within_secOn _).keeps (·.pwr.on) fun _ => rfl)
  split
  · dsimp only
    have loaded : ∀ u : State, domOn (reloadTables u) e = domOn u e := fun u => (within_reloadTables u).keeps (domOn · e) fun _ => rfl
    rw [loaded, domOn_setDom _ he]
    split
    · rfl
    case isFalse other =>
      have kept := h.resolve_left other
      split
      · exact kept
      · have woken : ∀ u : State, domOn (secOn u) e = domOn u e := fun u => (within_secOn u).keeps (domOn · e) fun _ => rfl
        rw [woken, domOn_setDom s he]
        simp [kept]
  split
  · exact on _ (each_keeps (·.pwr.on) (fun p s => (within_portOn s p).keeps (·.pwr.on) fun _ => rfl) _ _)
  · exact on _ rfl

theorem domOn_each_domainOff {e : Nat} (he : e < 10) (l : List Nat) :
    domOn (each l domainOff s) e = (domOn s e && decide (e ∉ l)) := by
  induction l generalizing s with
  | nil => simp [each]
  | cons d l ih =>
    rw [show each (d :: l) domainOff s = each l domainOff (domainOff d s) from rfl, ih, domOn_domainOff s he]
    simp [Bool.and_assoc, Bool.decide_and]

theorem domOn_each_domainOn {e : Nat} (he : e < 10) (l : List Nat) (h : e ∈ l ∨ domOn s e = true) :
    domOn (each l domainOn s) e = true := by
  induction l generalizing s with
  | nil => simpa [each] using h
  | cons d l ih =>
    refine ih (domainOn d s) ?_
    rcases h with h | h
    · rcases List.mem_cons.1 h with rfl | h
      · exact .inr (domOn_domainOn s he (.inl rfl))
      · exact .inl h
    · exact .inr (domOn_domainOn s he (.inr h))

/-- A switch leaves on the set that it was to reach (13 R331). -/
theorem domainsTo_on (v : Nat) : (domainsTo v s).pwr.on = BitVec.ofNat 10 v := by
  refine BitVec.eq_of_getLsbD_eq fun e he => ?_
  have order : e ∈ onOrder := by interval_cases e <;> decide
  rw [BitVec.getLsbD_ofNat, decide_eq_true he, Bool.true_and]
  refine (domOn_each_domainOff _ he _).trans ?_
  cases inside : v.testBit e
  · simp [order, inDoms, inside]
  · rw [domOn_each_domainOn s he _ (.inl (by simp [order, inDoms, inside]))]
    simp [inDoms, inside]

theorem domainsTo_hbm (v : Nat) : (domainsTo v s).hbm = s.hbm := (within_domainsTo s v).keeps (·.hbm) fun _ => rfl

theorem domOn_domainsTo {v e : Nat} (he : e < 10) (h : v.testBit e = true) : domOn (domainsTo v s) e = true := by
  rw [domOn, domainsTo_on, ← BitVec.getLsbD, BitVec.getLsbD_ofNat]
  simp [he, h]

end

/-! ## Power states -/

/-- What a switch of domains leaves of the power controller: all but the set that is on and the host link. -/
def pwrKept (s : State) : Pwr := { s.pwr with on := 0, dllUp := false, cxl := false, relaxed := false }

section
variable (s : State)

theorem pwrKept_domainOff (d : Nat) : pwrKept (domainOff d s) = pwrKept s := by
  have ports : ∀ l, (each l portOff s).pwr = s.pwr := fun l =>
    each_keeps (·.pwr) (fun p s => (within_portOff s p).keeps (·.pwr) fun _ => rfl) l s
  have net : (netOff s).pwr = s.pwr := (within_netOff s).keeps (·.pwr) fun _ => rfl
  have scrub : (scrubQuad (d - 5) none s).pwr = s.pwr := (within_scrubQuad ..).keeps (·.pwr) fun _ => rfl
  unfold domainOff
  split
  · rfl
  split
  · rfl
  split
  · rfl
  split
  · rfl
  split
  · unfold pwrKept setDom
    rw [ports]
  split
  · unfold pwrKept setDom
    rw [net]
  · unfold pwrKept setDom
    rw [scrub]

theorem pwrKept_domainOn (d : Nat) : pwrKept (domainOn d s) = pwrKept s := by
  have woken : ∀ u : State, (secOn u).pwr = u.pwr := fun u => (within_secOn u).keeps (·.pwr) fun _ => rfl
  have loaded : ∀ u : State, (reloadTables u).pwr = u.pwr := fun u => (within_reloadTables u).keeps (·.pwr) fun _ => rfl
  have ports : ∀ l (u : State), (each l portOn u).pwr = u.pwr := fun l u =>
    each_keeps (·.pwr) (fun p s => (within_portOn s p).keeps (·.pwr) fun _ => rfl) l u
  unfold domainOn
  split
  · rfl
  split
  · rw [pwrKept, woken]; rfl
  split
  · dsimp only
    rw [pwrKept, loaded]
    split
    · rfl
    · unfold setDom
      rw [woken]
      rfl
  split
  · rw [pwrKept, ports]; rfl
  · rfl

theorem pwrKept_domainsTo (v : Nat) : pwrKept (domainsTo v s) = pwrKept s :=
  (each_keeps pwrKept (fun d s => pwrKept_domainOff s d) _ _).trans (each_keeps pwrKept (fun d s => pwrKept_domainOn s d) _ _)

/-- What entering a state leaves (13 R335). -/
theorem stateEnter_spec (p : PState) :
    (stateEnter p s).pwr.cur = p ∧ (stateEnter p s).pwr.on = BitVec.ofNat 10 (stateDoms p s) ∧
      (stateEnter p s).pwr.record = (if s.pwr.cur = .p0 then s.pwr.on else s.pwr.record) ∧
      (stateEnter p s).pwr.moving = false ∧ (stateEnter p s).pwr.goal = none ∧ (stateEnter p s).pwr.defer = none ∧
      (stateEnter p s).pwr.d3 = s.pwr.d3 ∧ (stateEnter p s).hbm = s.hbm := by
  have host : ∀ u, u = (if s.pwr.cur = .p3 then domainOn dHOST s else s) → pwrKept u = pwrKept s ∧ u.hbm = s.hbm := by
    rintro u rfl
    split
    · exact ⟨pwrKept_domainOn s dHOST, (within_domainOn ..).keeps (·.hbm) fun _ => rfl⟩
    · exact ⟨rfl, rfl⟩
  obtain ⟨kept, hbm⟩ := host _ rfl
  refine ⟨rfl, domainsTo_on _ _, rfl, rfl, rfl, rfl, ?_, (domainsTo_hbm _ _).trans hbm⟩
  have same := congrArg Pwr.d3 ((pwrKept_domainsTo _ (stateDoms p s)).trans kept)
  exact same

end

/-- A move whose switch-offs are accepted, and that no Secure Hold defers, is made. -/
theorem stateGo_of_accepted {s : State} {p : PState} (accepted : stateRefused p s = false)
    (free : isGating (stateDoms p s) s = false ∨ holding s = false) : stateGo p s = stateEnter p s := by
  rw [stateGo, if_neg (by simp [accepted]), if_neg (by rcases free with h | h <;> simp [h])]

/-- A request for another state, from a controller that is idle in a state that may move there. -/
theorem pstateReq_of_idle {s : State} {n : Nat} {p : PState} (named : pstateOf n = p) (idle : Claims.pwrIdle s) (small : n ≤ 3) (other : p ≠ s.pwr.cur)
    (listed : moveListed s.pwr.cur p = true) (stage : s.pwr.stage = 5) (loss : s.hif.loss = .idle) :
    (pstateReq n s).2 =
      if s.pwr.cur = .p0 then
        if lowBlocked p s then stateFail errObjState s
        else if isGating (stateDoms p s) s && holding s then
          deferReq (.state p) (stateDoms p s)
            { s with pwr.moving := true, pwr.goal := some p, pwr.pcode := 0, pwr.reqAt := s.now }
        else { s with pwr.moving := true, pwr.goal := some p, pwr.pcode := 0, pwr.reqAt := s.now }
      else stateGo p { s with pwr.reqAt := s.now } := by
  subst named
  obtain ⟨runs, busy, moving⟩ := idle
  unfold pstateReq
  rw [if_neg (by simp [runs, busy, moving]), if_neg (Nat.not_lt.2 small)]
  dsimp only
  rw [if_neg other, if_neg (by simp [listed, stage, loss])]
  by_cases high : s.pwr.cur = .p0
  · rw [if_pos high, if_pos high]
    by_cases blocked : lowBlocked (pstateOf n) s = true
    · rw [if_pos blocked, if_pos blocked]
    · rw [if_neg blocked, if_neg blocked]
      rfl
  · rw [if_neg high, if_neg high]

theorem isGating_of_on {s t : State} (v : Nat) (on : t.pwr.on = s.pwr.on) : isGating v t = isGating v s := by
  simp only [isGating, domOn, on]

/-- HOST, MEM and SEC stay on where the set that is to be reached holds them. -/
theorem isGating_or_base (s : State) (v : Nat) : isGating (v ||| 0x211) s = false := by
  have base : ∀ d ∈ [dSEC, dMEM, dHOST], Nat.testBit 0x211 d = true := by decide
  simp only [isGating, List.any_eq_false, inDoms, Nat.testBit_or]
  intro d hd
  simp [base d hd]

theorem stage_of_barOn {s : State} (h : barOn s = true) : s.pwr.stage = 5 := by
  simp [barOn] at h
  exact h.2

/-- A host-loss sequence starts with the host's pins shown and HOST, MEM and SEC on (06 R162, 13 R336). -/
theorem startLoss_spec (core : Nat) (s : State) :
    (startLoss 1 core (lossPins 1 s)).hif.loss = .draining ∧ (startLoss 1 core (lossPins 1 s)).hif.lossCause = 1 ∧
      (startLoss 1 core (lossPins 1 s)).pwr.perstN = false ∧ domOn (startLoss 1 core (lossPins 1 s)) dHOST = true ∧
      domOn (startLoss 1 core (lossPins 1 s)) dMEM = true ∧ domOn (startLoss 1 core (lossPins 1 s)) dSEC = true := by
  unfold startLoss
  extract_lets u hif rcv v
  have w := within_qpsError v (fun _ => true) .hostLoss
  have pwr : (qpsError (fun _ => true) .hostLoss v).pwr = u.pwr := w.keeps (·.pwr) fun _ => rfl
  have on : ∀ d < 10, Nat.testBit 0x211 d = true → domOn (qpsError (fun _ => true) .hostLoss v) d = true := fun d hd base => by
    rw [domOn, pwr, ← domOn]
    exact domOn_domainsTo _ hd (by rw [Nat.testBit_or, base, Bool.or_true])
  have kept := congrArg Pwr.perstN (pwrKept_domainsTo (lossPins 1 s) ((lossPins 1 s).pwr.on.toNat ||| 0x211))
  refine ⟨w.keeps (·.hif.loss) fun _ => rfl, w.keeps (·.hif.lossCause) fun _ => rfl, ?_, on _ (by decide) (by decide),
    on _ (by decide) (by decide), on _ (by decide) (by decide)⟩
  rw [pwr]
  exact kept.trans (by simp [pwrKept, lossPins])

theorem moveListed_p0 (a : PState) : moveListed a .p0 = true := by cases a <;> rfl
theorem moveListed_from_p0 (b : PState) : moveListed .p0 b = true := by cases b <;> rfl

/-- Settles O40: requests for a power state, the entry into it, and the return. -/
theorem powerStatesMove : Obligations.PowerStatesMove := by
  have back : ∀ s : State, Claims.pwrIdle s → s.pwr.cur ≠ .p0 → s.pwr.stage = 5 → s.hif.loss = .idle →
      isGating s.pwr.record.toNat s = false ∨ holding s = false →
      (pstateReq 0 s).2.pwr.cur = .p0 ∧ (pstateReq 0 s).2.pwr.on = s.pwr.record ∧ (pstateReq 0 s).2.pwr.moving = false ∧
        (pstateReq 0 s).2.pwr.d3 = s.pwr.d3 := by
    intro s idle low stage loss free
    have refused : ∀ u : State, stateRefused .p0 u = false := fun u => by simp [stateRefused]
    rw [pstateReq_of_idle (n := 0) (p := .p0) rfl idle (by decide) (Ne.symm low) (moveListed_p0 _) stage loss, if_neg low,
      stateGo_of_accepted (refused _) (.imp_left (fun h => (isGating_of_on (t := { s with pwr.reqAt := s.now }) _ rfl).trans h) free)]
    obtain ⟨cur, on, -, moving, -, -, d3, -⟩ := stateEnter_spec { s with pwr.reqAt := s.now } .p0
    exact ⟨cur, on.trans (BitVec.ofNat_toNat ..|>.trans (BitVec.setWidth_eq _)), moving, d3⟩
  have reached : ∀ (s : State) (host : Bool) (n : Nat), (host = true → barOn s = true) → effPstateReq n host s = (pstateReq n s).2 :=
    fun s host n reach => by
      rw [effPstateReq, if_neg]
      cases host <;> simp_all
  refine ⟨fun s host v p idle reach eq small => ?_, fun s p goal moving cur defer quads accepted free => ?_,
    fun s on idle loss => ⟨fun d3 high blocked => ?_, fun d3 low free => ?_⟩, fun s runs cur perst loss => ?_, fun s low high => ?_⟩
  · subst eq
    refine ⟨fun same => congrArg Outcome.next ?_, fun low high stage loss clear => ⟨fun free => congrArg Outcome.next ?_,
      fun gate hold => congrArg Outcome.next ?_⟩, fun high low stage loss free => ⟨_, rfl, ?_⟩⟩
    · obtain ⟨runs, busy, moving⟩ := idle
      rw [reached s host _ reach, pstateReq, if_neg (by simp [runs, busy, moving]), if_neg (Nat.not_lt.2 small)]
      dsimp only
      rw [if_pos same]
    · rw [reached s host _ reach, pstateReq_of_idle rfl idle small (high ▸ low) (high ▸ moveListed_from_p0 _) stage loss, if_pos high,
        if_neg (by simp [clear]), if_neg (by rcases free with h | h <;> simp [h])]
    · rw [reached s host _ reach, pstateReq_of_idle rfl idle small (high ▸ low) (high ▸ moveListed_from_p0 _) stage loss, if_pos high,
        if_neg (by simp [clear]), if_pos (by simp [gate, hold])]
      rfl
    · rw [reached s host _ reach]
      have zero : v.toNat = 0 := by
        have := small
        interval_cases n : v.toNat
        · rfl
        all_goals cases high
      rw [zero]
      obtain ⟨cur, on, moving, -⟩ := back s idle low stage loss free
      exact ⟨cur, on, moving⟩
  · refine ⟨_, rfl, ?_⟩
    have none_holds : s.quad.all (fun q => q.holder.isNone) = true := by
      simpa [List.all_eq_true] using quads
    rw [effP1Enter, goal]
    dsimp only
    rw [if_pos (by simp [moving, cur, defer, none_holds]), stateGo_of_accepted accepted free]
    obtain ⟨c, o, r, m, g, -, -, b⟩ := stateEnter_spec s p
    exact ⟨c, by rw [r, if_pos cur], m, g, o, b⟩
  · refine congrArg Outcome.next ?_
    have idle' : Claims.pwrIdle { s with pwr.d3 := true } := idle
    rw [effPciPower, if_neg (by simp [on, d3])]
    dsimp only
    rw [if_pos (by simp [high]), pstateReq_of_idle (p := .p1) rfl idle' (by decide) (by simp [high])
      (high ▸ moveListed_from_p0 _) (stage_of_barOn on) loss, if_pos high,
      if_neg (by rw [show lowBlocked .p1 { s with pwr.d3 := true } = lowBlocked .p1 s from rfl, blocked]; simp),
      if_neg (by rw [show stateDoms .p1 { s with pwr.d3 := true } = s.pwr.on.toNat ||| 0x211 from rfl, isGating_or_base]; simp)]
  · refine ⟨_, rfl, ?_⟩
    have idle' : Claims.pwrIdle { s with pwr.d3 := false } := idle
    rw [effPciPower, if_neg (by simp [on, d3])]
    dsimp only
    rw [if_neg (by simp), if_pos (by simp [low])]
    obtain ⟨cur, set, -, d3'⟩ := back { s with pwr.d3 := false } idle' (by simp [low]) (stage_of_barOn on) loss
      (free.imp_left ((isGating_of_on _ rfl).trans ·))
    exact ⟨d3', cur, set⟩
  · refine ⟨_, rfl, ?_⟩
    rw [effPerstP3, if_pos (by simp [runs, cur, perst, loss])]
    exact startLoss_spec 1 s
  · refine congrArg Outcome.next ?_
    rw [effPerstRise, if_neg (by simp [low])]
    dsimp only
    rw [if_neg (by simp [high])]

end Sys2Proof.Machine
end

section
/-!
PROOF. Domain requests (13 R331, R332, R337): the register of what a command register holds need not be in canonical form.
-/
namespace Sys2Proof.Machine
open Host

/-- A powered device whose table of write-only fields lists PCR_DOMREQ twice, the second time with a Reserved bit set. -/
def twiceHeld : State :=
  { State.reset with pwr.main := true, held := [(0x900008, 5), (0x900008, 0x04000000)] }

/-- Clearing the whole register drops the first of its two entries, so the request that starts is the second one's. -/
theorem exec_pcrDomreq_twiceHeld :
    exec (.pcrDomreq false ⟨0, [0, 0, 0, 0]⟩) twiceHeld =
      .next (domEnd errCmdInvalid { twiceHeld with held := [(0x900008, 0x04000000)] }) := by
  rfl

/-- Refutes O39: the table of write-only fields is not assumed to be in canonical form. With PCR_DOMREQ listed twice in it, a write
of 0 starts the request that the second entry spells, whose Reserved bit ends it with ERR_CMD_INVALID. -/
theorem not_domainRequestsAct : ¬ Obligations.DomainRequestsAct := by
  intro h
  obtain ⟨-, starts⟩ := h.1 twiceHeld false ⟨0, [0, 0, 0, 0]⟩ 0 _ ⟨rfl, rfl, rfl⟩ (by decide) (by decide) (by decide) rfl
  obtain ⟨-, valid⟩ := starts (by decide)
  obtain ⟨accepted, -⟩ := valid (by decide) (by decide)
  obtain ⟨t, ran, -, -, -, code, -⟩ := accepted (by decide) (by decide) (by decide)
  rw [exec_pcrDomreq_twiceHeld] at ran
  cases ran
  exact absurd code (by decide)

end Sys2Proof.Machine
end

section
/-!
PROOF. What a port and the others hold after it has left the states that carry frames (08 R204, R205).
-/
namespace Sys2Proof.Machine
open Host

/-! ## Ports that go down -/

theorem lget_map {β : Type} (d : β) (f : β → β) (h : f d = d) (l : List β) (i : Nat) : lget d (l.map f) i = f (lget d l i) := by
  induction l generalizing i with
  | nil => exact h.symm
  | cons x r ih => cases i <;> simp [lget, ih]

theorem portOf_setPort_of_ne {s : State} {p q : Nat} (x : Port) (h : q ≠ p) : portOf (setPort s p x) q = portOf s q :=
  lget_lset_of_ne _ _ _ h

/-- What the other ports lose with a port: its transit segments and their frames. -/
def noTransit (p : Nat) (x : Port) : Port :=
  { x with
    outQ := x.outQ.filter (fun e => decide (e.1 ≠ p)), outA := x.outA.filter (fun e => decide (e.1 ≠ p)),
    txQ := x.txQ.filter (fun f => decide (f.src ≠ p)), txA := x.txA.filter (fun f => decide (f.src ≠ p)) }

theorem portOf_dropTransit (p q : Nat) (s : State) : portOf (dropTransit p s) q = noTransit p (portOf s q) := by
  unfold portOf
  exact lget_map {} (noTransit p) rfl s.port q

/-- A port but for the LSAs that wait to be sent on it. -/
def noLsas (x : Port) : Port := { x with lsaQ := [] }

theorem noLsas_queueLsa (uid : Nat) (arrival : Option Nat) (s : State) (q : Nat) :
    noLsas (portOf (queueLsa uid arrival s) q) = noLsas (portOf s q) := by
  refine each_keeps (fun s => noLsas (portOf s q)) (fun p s => ?_) _ s
  dsimp only
  split
  · by_cases h : q = p
    · subst h
      rw [portOf, setPort, lget_lset_self]
      split <;> rfl
    · rw [portOf_setPort_of_ne _ h]
  · rfl

theorem noLsas_lsaSync (s : State) (q : Nat) : noLsas (portOf (lsaSync s) q) = noLsas (portOf s q) := by
  have changed : ∀ u : State, portOf (dbPrune (dbChanged u)) q = portOf u q := fun u =>
    ((within_dbPrune ..).keeps (portOf · q) fun _ => rfl).trans ((within_dbChanged ..).keeps (portOf · q) fun _ => rfl)
  unfold lsaSync
  dsimp only
  split
  · rfl
  · rw [changed, noLsas_queueLsa]
    rfl

/-- A port's UP as it is set; the other ports keep theirs. -/
theorem noLsas_setUp (p q : Nat) (up : Bool) (s : State) (here : p < s.port.length) :
    noLsas (portOf (setUp p up s) q) = noLsas (if q = p then { portOf s p with up := up } else portOf s q) := by
  unfold setUp
  split
  case isTrue same =>
    by_cases h : q = p
    · subst h; subst same; rw [if_pos rfl]
    · rw [if_neg h]
  case isFalse => rw [noLsas_lsaSync, portOf_setPort s p q _ here]

/-- What a port holds that has left the states that carry frames (08 R205, R211). -/
def portLeft (p : Nat) (st : PortSt) (now : Nat) (x : Port) : Port :=
  { noTransit p { portCleared x with st := st, since := now, fresh := true, lastDone := none } with up := false }

theorem noLsas_portEnter (p q : Nat) (st : PortSt) (s : State) (here : p < s.port.length) :
    noLsas (portOf (portEnter p st s) q) = noLsas (if q = p then portLeft p st s.now (portOf s p) else noTransit p (portOf s q)) := by
  have len : p < (dropTransit p (setPort s p { portCleared (portOf s p) with
      st := st, since := s.now, fresh := true, lastDone := none })).port.length := by
    simpa [dropTransit, setPort] using here
  rw [portEnter, noLsas_setUp p q false _ len, portOf_dropTransit, portOf_dropTransit, portOf_setPort s p q _ here,
    portOf_setPort s p p _ here, if_pos rfl]
  by_cases h : q = p
  · rw [if_pos h, if_pos h]; rfl
  · rw [if_neg h, if_neg h, if_neg h]

/-- What going down leaves of every port but the LSAs that wait (08 R204, R205). -/
theorem noLsas_portDown (p q : Nat) (s : State) (here : p < s.port.length) :
    noLsas (portOf (portDown p s) q) = noLsas (if q = p then portLeft p .down s.now (portOf s p) else noTransit p (portOf s q)) := by
  have w : Within _ (portEnter p .down s) (portDown p s) :=
    .after (.upd [.rtDirty] (by rfl)) (.after (within_endPortTags ..) (within_raise _ _))
  rw [← noLsas_portEnter p q .down s here]
  exact w.keeps (fun s => noLsas (portOf s q)) fun _ => rfl

theorem length_setUp (p : Nat) (up : Bool) (s : State) : (setUp p up s).port.length = s.port.length := by
  have queued : ∀ (uid : Nat) (a : Option Nat) (u : State), (queueLsa uid a u).port.length = u.port.length := fun uid a u =>
    each_keeps (·.port.length) (fun p s => by
      dsimp only
      split
      · exact lset_length ..
      · rfl) _ u
  have synced : ∀ u : State, (lsaSync u).port.length = u.port.length := fun u => by
    have changed : ∀ v : State, (dbPrune (dbChanged v)).port = v.port := fun v =>
      ((within_dbPrune ..).keeps (·.port) fun _ => rfl).trans ((within_dbChanged ..).keeps (·.port) fun _ => rfl)
    unfold lsaSync
    dsimp only
    split
    · rfl
    · rw [changed, queued]
  unfold setUp
  split
  · rfl
  · rw [synced]
    exact lset_length ..

theorem length_portDown (p : Nat) (s : State) : (portDown p s).port.length = s.port.length := by
  have w : Within _ (portEnter p .down s) (portDown p s) :=
    .after (.upd [.rtDirty] (by rfl)) (.after (within_endPortTags ..) (within_raise _ _))
  refine (w.keeps (·.port.length) fun _ => rfl).trans ?_
  rw [portEnter, length_setUp]
  simp [dropTransit, setPort]

theorem portDown_st (p q : Nat) (s : State) (here : p < s.port.length) :
    (portOf (portDown p s) q).st = if q = p then .down else (portOf s q).st := by
  refine (congrArg Port.st (noLsas_portDown p q s here)).trans ?_
  by_cases h : q = p
  · rw [if_pos h, if_pos h]; rfl
  · rw [if_neg h, if_neg h]; rfl

/-- Each of a list of ports goes down, and the states of the others stay. -/
theorem each_portDown_st (l : List Nat) (s : State) (here : ∀ p ∈ l, p < s.port.length) (q : Nat) :
    (portOf (each l portDown s) q).st = if q ∈ l then .down else (portOf s q).st := by
  induction l generalizing s with
  | nil => rfl
  | cons p l ih =>
    rw [show each (p :: l) portDown s = each l portDown (portDown p s) from rfl,
      ih _ fun k hk => length_portDown p s ▸ here k (List.mem_cons_of_mem _ hk), portDown_st p q s (here p (List.mem_cons_self ..))]
    by_cases h : q = p <;> by_cases h' : q ∈ l <;> simp [h, h']

end Sys2Proof.Machine
end

section
/-!
PROOF. The PCI Express side, reference clocks, patrol scrub and telemetry (06 R138 to R149, 13 R340, R347 to R351).
-/
namespace Sys2Proof.Machine
open Host

/-! ## Configuration requests -/

/-- MSI-X messages that leave come after what has left before. -/
theorem msixRelease_out (s : State) : ∃ l, (msixRelease s).out = s.out ++ l := by
  have walk : ∀ (p : List Nat) (u : State), ∃ l,
      (p.foldl (fun s v => if msixMasked s v then s else emit (.msix v) (msixPend v false s)) u).out = u.out ++ l := by
    intro p
    induction p with
    | nil => exact fun u => ⟨[], by simp⟩
    | cons v p ih =>
      intro u
      obtain ⟨l, h⟩ := ih (if msixMasked u v then u else emit (.msix v) (msixPend v false u))
      rw [List.foldl_cons, h]
      split
      · exact ⟨l, rfl⟩
      · exact ⟨.msix v :: l, by simp [msixPend, msixStore]⟩
  unfold msixRelease
  split
  · exact ⟨[], by simp⟩
  · exact walk _ s

/-- After 100 ms a configuration request is answered: as not yet ready, or, from host ready on, in full (13 R348). -/
theorem effConfig_of_late {s : State} {a : Nat} (q : CfgReq) (on : domOn s dHOST = true) (perst : s.pwr.perstN = true)
    (at_a : s.pwr.perstAt = some a) (late : a + 100000000 ≤ s.now) :
    effConfig q s = if s.pwr.stage = 5 then configServe q (drawn s) else emit .cfgRetry (drawn s) := by
  have settled : ¬ s.now < a + 100 * msNs := by simp only [msNs]; omega
  simp [effConfig, on, perst, at_a, settled]

/-! ## Reference clocks -/

theorem units_of_wf {s : State} (h : Units.wf s = true) :
    s.port.length = 8 ∧ s.scrub.length = 4 ∧ s.eth.port.length = 2 ∧ s.quad.length = 4 ∧ s.cvu.length = 4 := by
  unfold Units.wf at h
  simp at h
  tauto

/-- A link's reference clock that stops takes its ports down (13 R340). -/
theorem effRefclk_links {s : State} {p : Nat} (wf : Units.wf s = true) (small : p < 8)
    (on : domOn s (if p < 4 then dLNKA else dLNKB) = true) (active : (portOf s p).st = .active) :
    (portOf (effRefclk (if p < 4 then 1 else 2) s) p).st = .down ∧
      (effRefclk (if p < 4 then 1 else 2) s).pwr.clkLost = s.pwr.clkLost ||| (if p < 4 then 2 else 4) := by
  obtain ⟨ports, -⟩ := units_of_wf wf
  have down : ∀ (d : Nat) (u : State), u.port = s.port → (∀ k ∈ domPorts d, k < 8) → p ∈ domPorts d →
      (portOf (each ((domPorts d).filter (fun p => decide ((portOf u p).st ≠ .disabled) && decide ((portOf u p).st ≠ .down)))
        portDown u) p).st = .down := fun d u same all mem => by
    have act : (portOf u p).st = .active := by rw [portOf, same]; exact active
    rw [each_portDown_st _ _ (fun k hk => by rw [same, ports]; exact all k (List.mem_filter.1 hk).1),
      if_pos (List.mem_filter.2 ⟨mem, by simp [act]⟩)]
  have clock : ∀ (l : List Nat) (u : State), (each l portDown u).pwr = u.pwr := fun l u =>
    each_keeps (·.pwr) (fun p s => (within_portDown s p).keeps (·.pwr) fun _ => rfl) l u
  have lost : ∀ k, domOn { s with pwr.clkLost := s.pwr.clkLost ||| k } = domOn s := fun k => rfl
  by_cases low : p < 4
  · simp only [low, if_true] at on ⊢
    simp only [effRefclk, lost, on, if_true]
    exact ⟨down dLNKA _ rfl (by decide) (by interval_cases p <;> decide), by rw [clock]; rfl⟩
  · simp only [low, if_false] at on ⊢
    simp only [effRefclk, lost, on, if_true]
    exact ⟨down dLNKB _ rfl (by decide) (by interval_cases p <;> decide), by rw [clock]; rfl⟩

theorem ethOf_setEth (s : State) (p q : Nat) (x : EthPort) (here : p < s.eth.port.length) :
    ethOf (setEth s p x) q = if q = p then x else ethOf s q := lget_lset _ _ _ _ _ here

/-- An Ethernet link that goes down is down, and the other stays as it was (07 R169). -/
theorem ethOf_effEthDown (s : State) (p q : Nat) (here : p < s.eth.port.length) :
    ethOf (effEthDown p s) q = if q = p then { ethOf s p with up := false } else ethOf s q := by
  unfold effEthDown
  dsimp only
  split
  case isTrue up =>
    exact ((within_raise ..).keeps (ethOf · q) fun _ => rfl).trans (ethOf_setEth s p q _ here)
  case isFalse down =>
    by_cases h : q = p
    · subst h
      rw [if_pos rfl]
      have same : (ethOf s q).up = false := by simpa using down
      rw [← same]
    · rw [if_neg h]

/-! ## Patrol scrub -/

/-- The scrub of a line of a stack that is not its last. -/
theorem scrubOne_of_lt {s : State} {k : Nat} (res : Nat) (more : (scrubOf s k).line + 1 < 402653184) :
    scrubOne k res s =
      if res = 1 then
        raise { code := errHbmCorrected, src := 3, addr := k * 0x600000000 + 64 * (scrubOf s k).line }
          (setScrub s k { scrubOf s k with
            line := (scrubOf s k).line + 1, corr := BitVec.ofNat 64 (min ((scrubOf s k).corr.toNat + 1) (2 ^ 64 - 1)) })
      else if res = 2 then
        raise { code := errHbmUncorrectable, src := 3, addr := k * 0x600000000 + 64 * (scrubOf s k).line }
          (setScrub s k { scrubOf s k with
            line := (scrubOf s k).line + 1, uncorr := BitVec.ofNat 64 (min ((scrubOf s k).uncorr.toNat + 1) (2 ^ 64 - 1)) })
      else setScrub s k { scrubOf s k with line := (scrubOf s k).line + 1 } := by
  have lines : stackLines = 402653184 := by decide
  unfold scrubOne
  simp only [lines, more, if_true]
  rfl

theorem scrubOf_setScrub {s : State} {k : Nat} (x : Scrub) (here : k < s.scrub.length) : scrubOf (setScrub s k x) k = x := by
  rw [scrubOf, setScrub, lget_lset _ _ _ _ _ here, if_pos rfl]

/-- Scrubbing a line leaves the forced slots and the time of the last one. -/
theorem scrubOne_keeps {s : State} {k : Nat} (res : Nat) (here : k < s.scrub.length) :
    (scrubOf (scrubOne k res s) k).slotAt = (scrubOf s k).slotAt ∧ (scrubOf (scrubOne k res s) k).forced = (scrubOf s k).forced ∧
      (scrubOne k res s).scrub.length = s.scrub.length := by
  have raised : ∀ e u, (raise e u).scrub = u.scrub := fun e u => (within_raise u e).keeps (·.scrub) fun _ => rfl
  have line : ∀ x : Scrub, x.slotAt = (scrubOf s k).slotAt → x.forced = (scrubOf s k).forced →
      (scrubOf (setScrub s k x) k).slotAt = (scrubOf s k).slotAt ∧ (scrubOf (setScrub s k x) k).forced = (scrubOf s k).forced ∧
        (setScrub s k x).scrub.length = s.scrub.length := fun x slot forced => by
    rw [scrubOf_setScrub x here]
    exact ⟨slot, forced, lset_length ..⟩
  unfold scrubOne
  extract_lets x addr x'
  have slot : x'.slotAt = (scrubOf s k).slotAt := by dsimp only [x']; split <;> rfl
  have forced : x'.forced = (scrubOf s k).forced := by dsimp only [x']; split <;> rfl
  split
  · rw [scrubOf, raised]; exact line _ slot forced
  split
  · rw [scrubOf, raised]; exact line _ slot forced
  · exact line _ slot forced

theorem each_scrubOne_keeps (k : Nat) (bad : List (Nat × Nat)) (l : List Nat) (s : State) (here : k < s.scrub.length) :
    (scrubOf (each l (fun i s => scrubOne k (tget 0 bad i) s) s) k).slotAt = (scrubOf s k).slotAt ∧
      (scrubOf (each l (fun i s => scrubOne k (tget 0 bad i) s) s) k).forced = (scrubOf s k).forced := by
  induction l generalizing s with
  | nil => exact ⟨rfl, rfl⟩
  | cons i l ih =>
    obtain ⟨slot, forced, len⟩ := scrubOne_keeps (tget 0 bad i) here
    obtain ⟨slot', forced'⟩ := ih (scrubOne k (tget 0 bad i) s) (len ▸ here)
    exact ⟨slot'.trans slot, forced'.trans forced⟩

/-! ## Telemetry -/

theorem bump_stat (index sub n : Nat) (s : State) (key : Nat) (wf : tabWf 0 s.dict.stat = true) :
    tget 0 (bump index sub n s).dict.stat key =
      if key = index * 256 + sub then satAdd 64 (tget 0 s.dict.stat key) n else tget 0 s.dict.stat key := by
  rw [bump, tget_tput _ _ _ _ _ wf]
  split
  · simp_all
  · rfl

theorem tabWf_bump (index sub n : Nat) {s : State} (wf : tabWf 0 s.dict.stat = true) :
    tabWf 0 (bump index sub n s).dict.stat = true := tabWf_tput _ _ _ _ wf

/-- A row of counters, one for each value of a list: each rises by its value, and the counters of other rows and places stay. -/
theorem zipIdx_bump_stat (base sub : Nat) (l : List (BitVec 32)) (j : Nat) {s : State} (wf : tabWf 0 s.dict.stat = true)
    {i sub' : Nat} (small : sub < 256) (small' : sub' < 256) :
    tget 0 ((l.zipIdx j).foldl (fun s e => bump (base + e.2) sub e.1.toNat s) s).dict.stat ((base + i) * 256 + sub') =
      if sub' = sub ∧ j ≤ i ∧ i < j + l.length then
        satAdd 64 (tget 0 s.dict.stat ((base + i) * 256 + sub')) (lget 0 l (i - j)).toNat
      else tget 0 s.dict.stat ((base + i) * 256 + sub') := by
  induction l generalizing j s with
  | nil => rw [if_neg (by simp)]; rfl
  | cons v l ih =>
    rw [List.zipIdx_cons, List.foldl_cons, ih (j + 1) (tabWf_bump _ _ _ wf), bump_stat _ _ _ _ _ wf]
    by_cases here : sub' = sub ∧ i = j
    · obtain ⟨rfl, rfl⟩ := here
      rw [if_neg (by omega), if_pos rfl, if_pos (by simp)]
      simp [lget]
    · rw [if_neg (show ¬ (base + i) * 256 + sub' = (base + j) * 256 + sub by omega)]
      by_cases later : sub' = sub ∧ j + 1 ≤ i ∧ i < j + 1 + l.length
      · rw [if_pos later, if_pos ⟨later.1, by omega, by simp; omega⟩, show i - j = i - (j + 1) + 1 by omega]
        rfl
      · rw [if_neg later, if_neg]
        simp only [List.length_cons]
        omega

/-- A port's RC counters cleared. -/
def countersTaken (x : Port) : Port :=
  { x with fecCorr := 0, fecUncorr := 0, crcErr := 0, protoErr := 0, replays := 0, retrains := 0, recalForced := 0, ovfDisc := 0 }

/-- The dictionary's count of CRC errors of a port (15 R401). -/
def crcCount (p : Nat) (s : State) : Nat := tget 0 s.dict.stat (0x2012 * 256 + (p + 1))

/-- What taking the counters of one port leaves of a port and of its count of CRC errors. -/
theorem takePort_spec {s : State} {k p : Nat} (wf : tabWf 0 s.dict.stat = true) (ports : s.port.length = 8) (hk : k < 8)
    (hp : p < 8) (on : linkOn s p = true) :
    portOf (takePort k s) p = (if p = k then countersTaken (portOf s p) else portOf s p) ∧
      crcCount p (takePort k s) =
        if p = k then satAdd 64 (crcCount p s) (portOf s p).crcErr.toNat else crcCount p s := by
  have port : ∀ (l : List (BitVec 32 × Nat)) (u : State), (l.foldl (fun s e => bump (0x2010 + e.2) (k + 1) e.1.toNat s) u).port = u.port :=
    fun l => by
      induction l with
      | nil => exact fun _ => rfl
      | cons e l ih => exact fun u => ih _
  unfold takePort
  split
  case isTrue off =>
    have ne : p ≠ k := by rintro rfl; simp [on] at off
    rw [if_neg ne, if_neg ne]
    exact ⟨rfl, rfl⟩
  case isFalse =>
    constructor
    · rw [portOf, port, ← portOf, portOf_setPort s k p _ (by omega)]
      split
      case isTrue h => subst h; rfl
      case isFalse => rfl
    · refine (zipIdx_bump_stat 0x2010 (k + 1) _ 0 (i := 2) (sub' := p + 1) (s := setPort s k _) (by exact wf) (by omega) (by omega)).trans ?_
      by_cases h : p = k
      · subst h
        rw [if_pos (by simp), if_pos rfl]
        rfl
      · rw [if_neg (by omega), if_neg h]
        rfl

theorem each_takePort_spec {s : State} {p : Nat} (l : List Nat) (f : Formed s) (ports : s.port.length = 8)
    (small : ∀ k ∈ l, k < 8) (once : l.Nodup) (hp : p < 8) (on : linkOn s p = true) :
    portOf (each l takePort s) p = (if p ∈ l then countersTaken (portOf s p) else portOf s p) ∧
      crcCount p (each l takePort s) =
        if p ∈ l then satAdd 64 (crcCount p s) (portOf s p).crcErr.toNat else crcCount p s := by
  induction l generalizing s with
  | nil => exact ⟨rfl, rfl⟩
  | cons k l ih =>
    have w := within_takePort s k
    obtain ⟨port, count⟩ := takePort_spec (k := k) f.stat ports (small k (List.mem_cons_self ..)) hp on
    obtain ⟨port', count'⟩ := ih (s := takePort k s) (w.formed f) (w.port_length ports)
      (fun j hj => small j (List.mem_cons_of_mem _ hj)) (List.nodup_cons.1 once).2 ((w.keeps (linkOn · p) fun _ => rfl).trans on)
    rw [show each (k :: l) takePort s = each l takePort (takePort k s) from rfl, port', count', port, count]
    by_cases h : p = k
    · subst h
      simp [(List.nodup_cons.1 once).1]
    · simp [h]

/-- Taking the counters of an Ethernet port reaches no link port and no count of CRC errors. -/
theorem crcCount_takeEth {s : State} {k p : Nat} (wf : tabWf 0 s.dict.stat = true) (hk : k < 2) (hp : p < 8) :
    crcCount p (takeEth k s) = crcCount p s := by
  unfold takeEth
  split
  · rfl
  · unfold crcCount
    rw [bump_stat _ _ _ _ _ (tabWf_bump _ _ _ (by exact wf)), if_neg (by omega), bump_stat _ _ _ _ _ (by exact wf), if_neg (by omega)]
    rfl

/-- TELEMETRY_SAMPLE where it is due (13 R351, 15 R401). -/
theorem effTelemetry_spec {s : State} (x : TeleSample) (tables : Tables.wf s = true) (units : Units.wf s = true)
    (awake : mcAwake s = true) (stage : 2 ≤ s.pwr.stage) (due : s.tele.since + param s 0x9010 10 * 1000000 ≤ s.now) :
    (effTelemetry x s).tele.power = x.power ∧ (effTelemetry x s).tele.since = s.now ∧
      (effTelemetry x s).tele.energy.toNat = min (s.tele.energy.toNat + x.energy) (2 ^ 64 - 1) ∧
      (effTelemetry x s).fab.transitDrop = 0 ∧ ∀ p, p < 8 → linkOn s p = true →
        portOf (effTelemetry x s) p = countersTaken (portOf s p) ∧
          crcCount p (effTelemetry x s) = satAdd 64 (crcCount p s) (portOf s p).crcErr.toNat := by
  have ready : ¬ ((!mcAwake s || decide (s.pwr.stage < 2) || decide (s.now < s.tele.since + param s 0x9010 10 * msNs)) = true) := by
    simp [awake, Nat.not_lt.2 stage, msNs, Nat.not_lt.2 due]
  unfold effTelemetry
  rw [if_neg (by simpa using ready)]
  extract_lets t n u v fab
  have f : Formed u := (formed_iff u).2 tables
  have ports : u.port.length = 8 := (units_of_wf units).1
  have wp : Within [.port, .stat] u (each (List.range 8) takePort u) := .each (fun p s => within_takePort s p) _ _
  have we : Within [.ethPort, .stat] (each (List.range 8) takePort u) v := .each (fun p s => within_takeEth s p) _ _
  have tele : v.tele = u.tele := (we.keeps (·.tele) fun _ => rfl).trans (wp.keeps (·.tele) fun _ => rfl)
  refine ⟨congrArg Tele.power tele, congrArg Tele.since tele, (congrArg (·.energy.toNat) tele).trans ?_, rfl, fun p hp on => ?_⟩
  · change (BitVec.ofNat 64 (min (s.tele.energy.toNat + x.energy) (2 ^ 64 - 1))).toNat = _
    rw [BitVec.toNat_ofNat]
    omega
  · obtain ⟨port, count⟩ := each_takePort_spec (List.range 8) f ports (by simp) List.nodup_range hp (by exact on)
    rw [if_pos (List.mem_range.2 hp)] at port count
    have f1 := wp.formed f
    have eth : crcCount p v = crcCount p (each (List.range 8) takePort u) := by
      have w0 := within_takeEth (each (List.range 8) takePort u) 0
      exact (crcCount_takeEth (w0.formed f1).stat (by decide) hp).trans (crcCount_takeEth f1.stat (by decide) hp)
    refine ⟨(we.keeps (portOf · p) fun _ => rfl).trans port, ?_⟩
    rw [crcCount, bump_stat _ _ _ _ _ (by exact (we.formed f1).stat), if_neg (by omega)]
    exact eth.trans count

/-- Settles O41: the PCI Express side, reference clocks, scrub and telemetry. -/
theorem backgroundWorkActs : Obligations.BackgroundWorkActs := by
  refine ⟨fun s link on perst => ?_, fun s a q on perst at_a late => ⟨fun early => ?_, fun stage => ?_⟩,
    fun s p units hp on active => ⟨_, rfl, effRefclk_links units hp on active⟩, fun s units on => ⟨_, rfl, ?_⟩,
    fun s k x units hk on stage eq more => ?_, fun s k bad units hk on stage behind slot => ⟨_, rfl, ?_⟩,
    fun s x tables units awake stage due => ⟨_, rfl, ?_⟩⟩
  · refine congrArg Outcome.next ?_
    rw [effDllUp, if_pos (by simp [on, perst])]
    rfl
  · refine congrArg Outcome.next ?_
    rw [effConfig_of_late q on perst at_a late, if_neg early]
    rfl
  · have ran : exec (.configRequest q) s = .next (configServe q (drawn s)) :=
      congrArg Outcome.next ((effConfig_of_late q on perst at_a late).trans (if_pos stage))
    refine ⟨?_, ?_, ?_, ?_, ?_, ?_, ?_⟩
    · rintro b rfl; exact ran
    · rintro b rfl; exact ran
    · rintro k v rfl; exact ran
    · rintro en mask rfl
      obtain ⟨l, out⟩ := msixRelease_out (emit .cfgDone { drawn s with hif.msixEn := en, hif.msixMask := mask })
      have w := within_msixRelease (emit .cfgDone { drawn s with hif.msixEn := en, hif.msixMask := mask })
      exact ⟨_, l, ran, w.keeps (·.hif.msixEn) fun _ => rfl, w.keeps (·.hif.msixMask) fun _ => rfl, out.trans (by simp)⟩
    · rintro rfl; exact ran
    · rintro i rfl; exact ran
    · rintro rfl; exact ran
  · obtain ⟨-, -, eths, -⟩ := units_of_wf units
    have ran : effRefclk 3 s = effEthDown 1 (effEthDown 0 { s with pwr.clkLost := s.pwr.clkLost ||| 8 }) := if_pos (by exact on)
    rw [ran]
    generalize first : ({ s with pwr.clkLost := s.pwr.clkLost ||| 8 } : State) = u
    have eths : u.eth.port.length = 2 := first ▸ eths
    have ports : u.port = s.port := first ▸ rfl
    have w0 := within_effEthDown u 0
    have w1 := within_effEthDown (effEthDown 0 u) 1
    have len : (effEthDown 0 u).eth.port.length = 2 := w0.ethPort_length eths
    refine ⟨?_, ?_, (w1.keeps (·.port) fun _ => rfl).trans ((w0.keeps (·.port) fun _ => rfl).trans ports)⟩
    · rw [ethOf_effEthDown _ 1 0 (by omega), if_neg (by decide), ethOf_effEthDown _ 0 0 (by omega), if_pos rfl]
    · rw [ethOf_effEthDown _ 1 1 (by omega), if_pos rfl]
  · subst eq
    have runs : scrubs s k = true := by simp [scrubs, hk, on, stage]
    have ran : ∀ res, effScrubLine k res s = scrubOne k res s := fun res => if_pos runs
    have raised : ∀ e u, (raise e u).scrub = u.scrub := fun e u => (within_raise u e).keeps (·.scrub) fun _ => rfl
    have recorded : ∀ e (u : State), u.erq = s.erq → u.pwr = s.pwr → domOn s dHOST = true →
        (raise e u).erq.incoming = s.erq.incoming ++ [e] := fun e u erq pwr host => by
      obtain ⟨_, _, _, _, _, h⟩ := raise_eq u e
      rw [h, domOn, pwr, ← domOn, host, erq]
      rfl
    refine ⟨congrArg Outcome.next ?_, ⟨_, rfl, ?_⟩, ⟨_, rfl, ?_⟩⟩
    · rw [ran, scrubOne_of_lt 0 more]
      rfl
    · rw [ran, scrubOne_of_lt 1 more, if_pos rfl]
      exact ⟨raised _ _, fun host => recorded _ _ rfl rfl host⟩
    · rw [ran, scrubOne_of_lt 2 more, if_neg (by decide), if_pos rfl]
      exact ⟨raised _ _, fun host => recorded _ _ rfl rfl host⟩
  · have here : k < s.scrub.length := by rw [(units_of_wf units).2.1]; exact hk
    have runs : scrubs s k = true := by simp [scrubs, hk, on, stage]
    have again : (decide ((scrubOf s k).slotAt = 0) || decide ((scrubOf s k).slotAt - 1 + msNs ≤ s.now)) = true := by
      rw [Bool.or_eq_true, decide_eq_true_eq, decide_eq_true_eq]
      exact slot
    change (scrubOf (effScrubSlot k bad s) k).slotAt = _ ∧ (scrubOf (effScrubSlot k bad s) k).forced.toNat = _
    unfold effScrubSlot
    dsimp only
    rw [if_pos (by simp only [runs, behind, again, Bool.and_self])]
    obtain ⟨at_now, forced⟩ := each_scrubOne_keeps k bad (List.range (100000 * ((scrubOf s k).forced.toNat + 1) / 64 - 100000 * (scrubOf s k).forced.toNat / 64))
      (setScrub s k { scrubOf s k with forced := BitVec.ofNat 64 (satAdd 64 (scrubOf s k).forced.toNat 1), slotAt := s.now + 1 })
      (by simpa [setScrub] using here)
    rw [scrubOf_setScrub _ here] at at_now forced
    refine ⟨at_now, (congrArg BitVec.toNat forced).trans ?_⟩
    rw [BitVec.toNat_ofNat, satAdd]
    omega
  · obtain ⟨power, since, energy, drop, port⟩ := effTelemetry_spec x tables units awake stage due
    refine ⟨power, since, energy, drop, fun p hp link => ?_⟩
    obtain ⟨port, count⟩ := port p hp link
    exact ⟨by rw [port]; rfl, by rw [port]; rfl, count⟩

end Sys2Proof.Machine
end

section
/-!
PROOF. Seal commands and sealed rows (12 R323 to R325); the commands of a check-value channel (12 R314 to R322).
-/
namespace Sys2Proof.Machine
open Host

/-! ## Seals -/

/-- What a seal command's own effect decides, with the form right and MEM on. -/
theorem sealCmd_of_ready {op slot rsv : Nat} {bad : Bytes → Bool} {act : State → Nat × State} {s : State}
    (ready : Claims.sealReady s rsv) (form : bad (leBytes 64 s.sealer.stage.toNat) = false) :
    sealCmd op slot rsv bad act s =
      if (act s).1 = 0 then sealEnd 0 0 slot (act s).2 else sealEnd (act s).1 (sealRaw op slot rsv) slot s := by
  obtain ⟨host, idle, zero, mem⟩ := ready
  simp [sealCmd, host, idle, zero, mem, form]

/-- An await that has come about leaves the sealed rows their numbers, and no slot of the Seal Engine changed. -/
theorem slotGot_sealer (a : Await) (s : State) :
    (slotGot a s).sealer.slots = s.sealer.slots ∧ ∀ y ∈ (slotGot a s).sealer.rows, ∃ r ∈ s.sealer.rows, y.n = r.n := by
  refine ⟨(within_slotGot s a).keeps (·.sealer.slots) fun _ => rfl, ?_⟩
  have tiles : ∀ (l : Tab Tile) (u : State), (l.foldl (fun s e => e.2.win.foldl (fun s w =>
      if w.2.waits.contains a then
        slotTry e.1 w.1 (setSlot s e.1 w.1 { slotOf s e.1 w.1 with waits := (slotOf s e.1 w.1).waits.erase a })
      else s) s) u).sealer = u.sealer := fun l u =>
    foldl_keeps (·.sealer) (fun s e => foldl_keeps (·.sealer) (fun s w => by
      split
      · exact (within_slotTry ..).keeps (·.sealer) fun _ => rfl
      · rfl) _ s) l u
  unfold slotGot
  dsimp only
  rw [tiles]
  intro y hy
  obtain ⟨r, hr, rfl⟩ := List.mem_map.1 hy
  exact ⟨r, hr, rfl⟩

/-- Settles O38: what the seal commands and a landed row do. -/
theorem sealCommandsAct : Obligations.SealCommandsAct := by
  refine ⟨fun s slot rsv d eq ready form closed live range => congrArg Outcome.next ?_,
    fun s slot rsv ready opened => congrArg Outcome.next ?_, fun s slot rsv ready closed => ⟨_, rfl, ?_⟩,
    fun s n r x found eq => ⟨_, rfl, ?_⟩⟩
  · subst eq
    rw [effOpen, sealCmd_of_ready ready (by simp [form])]
    simp only [closed, live, range, Bool.not_true, Bool.or_self, Bool.false_eq_true, if_false, if_true]
    rfl
  · rw [effSealDiscard, sealCmd_of_ready ready rfl]
    simp only [opened, if_true]
    rfl
  · obtain ⟨host, idle, zero, mem⟩ := ready
    rw [effSealDiscard, sealCmd_of_ready ⟨host, idle, zero, mem⟩ rfl]
    simp only [closed, Bool.false_eq_true, if_false, show errObjState ≠ 0 by decide]
    rw [sealEnd]
    dsimp only
    rw [if_neg (by decide)]
    obtain ⟨_, _, _, _, _, raised⟩ := raise_eq { s with
        sealer.busy := false, sealer.done := true, sealer.code := BitVec.ofNat 16 errObjState }
      { code := errObjState, src := 2, unit := slot, detail := sealRaw 2 slot rsv }
    have on : domOn s dHOST = true := domOn_of_hostReady host
    refine ⟨(congrArg State.sealer raised).trans ?_, (congrArg (·.erq.incoming) raised).trans ?_⟩
    · rw [← idle]; rfl
    · have here : domOn { s with sealer.busy := false, sealer.done := true, sealer.code := BitVec.ofNat 16 errObjState } dHOST = true := on
      rw [here, zero]
      rfl
  · subst eq
    rw [effSealRow, found]
    dsimp only
    split
    case isTrue open_ =>
      simp only [Bool.and_eq_true, decide_eq_true_eq] at open_
      obtain ⟨slots, rows⟩ := slotGot_sealer (.row n) { s with
        sealer.rows := s.sealer.rows.filter (fun y => decide (y.n ≠ n)),
        sealer.slots := tput {} s.sealer.slots r.slot (sealAdd r (tget {} s.sealer.slots r.slot)) }
      refine ⟨fun _ _ => slots, fun other => ?_, fun y hy => ?_⟩
      · rcases other with h | h
        · exact absurd (open_.1.symm.trans h) (by decide)
        · exact absurd open_.2 h
      · obtain ⟨r', hr', same⟩ := rows y hy
        simpa [same] using (List.mem_filter.1 hr').2
    case isFalse shut =>
      simp only [Bool.and_eq_true, decide_eq_true_eq] at shut
      obtain ⟨slots, rows⟩ := slotGot_sealer (.row n) { s with sealer.rows := s.sealer.rows.filter (fun y => decide (y.n ≠ n)) }
      refine ⟨fun h h' => absurd ⟨h, h'⟩ shut, fun _ => slots, fun y hy => ?_⟩
      obtain ⟨r', hr', same⟩ := rows y hy
      simpa [same] using (List.mem_filter.1 hr').2

/-! ## Check-value channels -/

section
variable {s : State} {c : Nat}

theorem feed_of_mode {x : Cvu} (b : Bytes) (mode : x.mode ≠ 3) :
    (x.feed b).1.seen = true ∧ (x.feed b).1.run = BitVec.ofNat 64 (crcFeed x.params x.run.toNat b) := by
  unfold Cvu.feed
  dsimp only
  split
  · exact ⟨rfl, rfl⟩
  case h_2 three => exact absurd (BitVec.eq_of_toNat_eq three) mode
  · exact ⟨rfl, rfl⟩

theorem cvuOf_cvuData (n v : Nat) (awake : mcAwake s = true) (channel : c < 4) (present : c < s.cvu.length)
    (opened : (cvuOf s c).opened = true) (attach : (cvuOf s c).attach = false) :
    cvuOf (cvuData c n v s) c = ((cvuOf s c).feed (leBytes n v)).1 := by
  rw [cvuData, onCvu_of_awake awake channel, if_neg (by simp [opened, attach]), cvuFeed, cvuOf_cvuPass,
    cvuOf_setCvu _ _ _ _ present, if_pos rfl]

end

/-- The low bytes of a number are those of its longer coding. -/
theorem take_leBytes (m n v : Nat) (h : n ≤ m) : (leBytes m v).take n = leBytes n v := by
  rw [leBytes_eq_map_range, leBytes_eq_map_range, ← List.map_take, List.take_range, Nat.min_eq_left h]

theorem foldBytes_of_le {s : State} {x : Cvu} (v : BitVec 64) (fits : x.foldLen.toNat ≤ 8) :
    foldBytes s x v = leBytes x.foldLen.toNat v.toNat := by
  rw [foldBytes, List.take_append_of_le_length (by simpa using fits), take_leBytes _ _ _ fits]

/-- A preset loaded is the channel's parameters. -/
theorem params_load {n : Nat} {p : CrcParams} (x : Cvu) (h : crcPreset n = some p) : (x.load n).params = p := by
  unfold Cvu.load
  rw [h]
  unfold crcPreset at h
  split_ifs at h <;> cases h <;> rfl

theorem exists_crcPreset {n : Nat} (h : 1 ≤ n) (h' : n ≤ 4) : ∃ p, crcPreset n = some p := by
  interval_cases n <;> exact ⟨_, rfl⟩

/-- A COMPARE computation that ends (12 R319): MATCH says whether the result is what was expected. -/
theorem finish_of_compare {x : Cvu} (mode : x.mode = 1) :
    (x.finish.1.matched = true ↔ crcResult x.params x.run.toNat = x.expect.toNat % 2 ^ x.width.toNat) ∧
      (x.finish.1.matched = false → x.finish.1.mismatch = true) ∧ x.finish.2 = [] := by
  have ended : x.finish = (({ x with result := BitVec.ofNat 64 x.now, done := true, opened := false } : Cvu).check
      (decide (x.now = x.expect.toNat % 2 ^ x.width.toNat)), []) := by
    unfold Cvu.finish
    dsimp only
    rw [mode]
    rfl
  rw [ended]
  by_cases same : x.now = x.expect.toNat % 2 ^ x.width.toNat
  · rw [decide_eq_true same]
    exact ⟨⟨fun _ => same, fun _ => rfl⟩, fun h => (by cases h), rfl⟩
  · rw [decide_eq_false same]
    exact ⟨⟨fun h => (by cases h), fun h => absurd h same⟩, fun _ => rfl, rfl⟩

theorem leBytes_one (v : BitVec 8) : leBytes 1 v.toNat = [v] := by
  simp [leBytes]

/-- CVU_CFG written whole with a preset: the preset's parameters, and the fields as written (12 R315). -/
theorem params_config (x : Cvu) {v : Nat} {p : CrcParams} (preset : crcPreset (bitsN v 11 3) = some p) :
    (x.config v true true).params = p ∧ (x.config v true true).preset = BitVec.ofNat 3 (bitsN v 11 3) ∧
      (x.config v true true).mode = BitVec.ofNat 2 (bitsN v 9 2) := by
  have number : (BitVec.ofNat 3 (v / 2 ^ 11)).toNat = bitsN v 11 3 := by rw [bitsN_eq, BitVec.toNat_ofNat]
  have keeps : ∀ (y : Cvu) n, (y.load n).preset = y.preset ∧ (y.load n).mode = y.mode := fun y n => by
    unfold Cvu.load
    split <;> exact ⟨rfl, rfl⟩
  unfold Cvu.config
  dsimp only
  rw [if_pos rfl, number]
  refine ⟨params_load _ preset, (keeps _ _).1.trans ?_, (keeps _ _).2.trans ?_⟩
  · exact BitVec.eq_of_toNat_eq (by simp [bitsN_eq])
  · exact BitVec.eq_of_toNat_eq (by simp [bitsN_eq])

/-- A value of CVU_CFG inside its ranges that COMPUTEs or COMPAREs is taken (12 R316). -/
theorem cvuCfgBad_of_small (c : Nat) (x' : Cvu) {v : Nat} (small : v < 2 ^ 21) (lo : 8 ≤ bitsN v 0 7) (hi : bitsN v 0 7 ≤ 64)
    (preset : bitsN v 11 3 ≤ 4) (alv : bitsN v 18 2 ≠ 3) (mode : bitsN v 9 2 ≤ 1) : cvuCfgBad c v x' = false := by
  have attach : v.testBit 21 = false := Nat.testBit_lt_two_pow small
  simp [cvuCfgBad, attach, alv, Nat.not_lt.2 lo, Nat.not_lt.2 hi, Nat.not_lt.2 preset, show bitsN v 9 2 ≠ 2 by omega,
    show bitsN v 9 2 ≠ 3 by omega, show ¬ 2 ≤ bitsN v 9 2 by omega]

/-- Settles O37: what a channel's commands do while the MC runs. -/
theorem cvuCommandsAct : Obligations.CvuCommandsAct := by
  intro s c awake channel present
  have on : ∀ act : Cvu → State → State, onCvu c act s = act (cvuOf s c) s := fun act => onCvu_of_awake awake channel
  have set : ∀ x, cvuOf (setCvu s c x) c = x := fun x => by rw [cvuOf_setCvu _ _ _ _ present, if_pos rfl]
  refine ⟨⟨_, rfl, ?_⟩, fun opened attach mode => ⟨fun v => ⟨_, rfl, ?_⟩, fun v => ⟨_, rfl, ?_⟩, fun v => ⟨_, rfl, ?_⟩⟩,
    fun opened seen some_ few v => ⟨_, rfl, ?_⟩, fun late v => ⟨_, rfl, ?_⟩, fun opened mode => ⟨_, rfl, ?_⟩,
    fun shut v small lo hi plo phi alv mode => ?_, ⟨_, rfl, ?_⟩, fun alv started a l last => ⟨_, rfl, ?_⟩⟩
  · rw [effCvuStart, on, set]
    exact ⟨rfl, rfl, rfl, rfl, rfl⟩
  · rw [effCvuData8, cvuOf_cvuData _ _ awake channel present opened attach, leBytes_one]
    exact feed_of_mode _ mode
  · rw [effCvuData16, cvuOf_cvuData _ _ awake channel present opened attach]
    exact feed_of_mode _ mode
  · rw [effCvuData32, cvuOf_cvuData _ _ awake channel present opened attach]
    exact feed_of_mode _ mode
  · have nonzero : (cvuOf s c).foldLen ≠ 0 := by rintro h; rw [h] at some_; exact absurd some_ (by decide)
    rw [effCvuFold, on]
    simp only [opened, seen, nonzero, decide_false, Bool.not_true, Bool.or_self, Bool.false_eq_true, if_false]
    rw [foldBytes_of_le v few]
    have drawn_ : ∀ u, cvuOf (drawn u) c = cvuOf u c := fun _ => rfl
    rw [drawn_, set]
    exact ⟨rfl, rfl⟩
  · rw [effCvuFold, on]
    by_cases opened : (cvuOf s c).opened = true
    · rw [if_neg (by simp [opened]), if_pos (by rcases late with h | h <;> simp [h]), set]
      exact ⟨rfl, rfl, fun h => absurd (h.symm.trans opened) (by decide)⟩
    · have zero : (cvuOf s c).foldLen = 0 := late.resolve_right fun h => opened h.1
      rw [if_pos (by simpa using opened), set]
      exact ⟨by simp [zero], rfl, fun _ => rfl⟩
  · obtain ⟨result, done, ended⟩ := Cvu.finish_spec (cvuOf s c)
    obtain ⟨matched, mismatch, nothing⟩ := finish_of_compare mode
    rw [cvuOf_effCvuFinish awake channel present opened]
    refine ⟨ended, done, result, matched, fun miss => ⟨mismatch miss, fun irq => ?_⟩⟩
    rw [effCvuFinish, on]
    simp only [opened, Bool.not_true, Bool.false_eq_true, if_false, nothing]
    rw [if_pos (by simp [irq, Cvu.failed, mode, miss])]
    rfl
  · obtain ⟨p, preset⟩ := exists_crcPreset plo phi
    obtain ⟨params, number, mode'⟩ := params_config (cvuOf s c) preset
    refine ⟨_, (if_neg (by simp [awake])).trans (congrArg Outcome.next (if_neg (by simp [rwStraddles]))), ?_⟩
    have whole : rwMerge ⟨0, leBytes 4 v⟩ 4 (cvuOf s c).cfg = v := rwMerge_whole _ (by omega)
    have touched : rwTouches ⟨0, leBytes 4 v⟩ 1 = true ∧ rwTouches ⟨0, leBytes 4 v⟩ 2 = true := by simp [rwTouches]
    rw [effCvuPreset, on]
    dsimp only
    rw [whole, touched.1, touched.2, if_neg (by simp [shut, cvuCfgBad_of_small c _ small lo hi phi alv mode]), set]
    exact ⟨preset.trans (congrArg some params.symm), number, mode'⟩
  · have size : 1 ≤ (cvuOf s c).alvMod ∧ (cvuOf s c).alvMod ≤ 256 := by unfold Cvu.alvMod; split_ifs <;> decide
    rw [effCvuAlvTx, on]
    refine ⟨by simp [leBytes], ?_⟩
    have sent : ∀ o u, cvuOf (emit o u) c = cvuOf u c := fun _ _ => rfl
    rw [sent, set]
    have below := Nat.mod_lt (((cvuOf s c).alvTx.toNat % (cvuOf s c).alvMod + 1)) size.1
    rw [BitVec.toNat_ofNat, Nat.mod_eq_of_lt (by omega), Nat.mod_add_mod]
  · have modulus : (cvuOf s c).alvMod = 256 := by simp [Cvu.alvMod, alv]
    have step : (a.toNat + 256 - l.toNat) % 256 = 1 ↔ a - l = 1 := by
      rw [← BitVec.toNat_inj, BitVec.toNat_sub]
      have := a.isLt
      have := l.isLt
      have one : (1 : BitVec 8).toNat = 1 := rfl
      rw [one]
      omega
    rw [effCvuAlvRx, on, if_neg (by simp [alv])]
    simp only [modulus, started, last, if_true, Nat.mod_eq_of_lt a.isLt, Nat.mod_eq_of_lt l.isLt, BitVec.toNat_inj, step]
    by_cases same : a = l
    · subst same
      rw [if_pos rfl, set]
      simp
    · rw [if_neg same, if_neg same]
      by_cases next : a - l = 1
      · rw [if_pos next, set]
        simp [next]
      · rw [if_neg next, set, if_neg next, if_neg next]
        exact ⟨rfl, rfl⟩

end Sys2Proof.Machine
end

section
/-!
PROOF. The debug levels: challenge, grant and lowering (11 R288, R305, R306).
-/
namespace Sys2Proof.Machine
open Host Claims

/-! ## Tables read and rewritten -/

/-- An entry that reads other than the default is in the table. -/
theorem mem_of_tget {α : Type} {d : α} {l : Tab α} {k : Nat} (h : tget d l k ≠ d) : (k, tget d l k) ∈ l := by
  induction l with
  | nil => exact absurd rfl h
  | cons e r ih =>
    obtain ⟨k', v⟩ := e
    rw [tget_cons] at h ⊢
    by_cases same : k = k'
    · simp [same]
    · by_cases below : k < k'
      · exact absurd (by simp [same, below]) h
      · simp only [if_neg same, if_neg below] at h ⊢
        exact List.mem_cons_of_mem _ (ih h)

theorem tget_of_mem_from {α : Type} [DecidableEq α] {d : α} {l : Tab α} {k : Nat} {v : α} :
    ∀ {lo}, tabWfFrom d lo l = true → (k, v) ∈ l → tget d l k = v ∧ ∀ x, lo = some x → x < k := by
  induction l with
  | nil => exact fun _ m => absurd m (List.not_mem_nil)
  | cons e r ih =>
    obtain ⟨k', v'⟩ := e
    intro lo wf m
    rw [tabWfFrom_cons] at wf
    obtain ⟨low, -, rest⟩ := wf
    rw [tget_cons]
    rcases List.mem_cons.mp m with same | later
    · cases same
      exact ⟨by simp, low⟩
    · obtain ⟨reads, above⟩ := ih rest later
      have above := above _ rfl
      refine ⟨?_, fun x hx => (low x hx).trans above⟩
      rw [if_neg (by omega), if_neg (by omega), reads]

/-- A canonical table reads each of its entries. -/
theorem tget_of_mem {α : Type} [DecidableEq α] {d : α} {l : Tab α} {k : Nat} {v : α} (wf : tabWf d l = true) (m : (k, v) ∈ l) :
    tget d l k = v := (tget_of_mem_from wf m).1

theorem mem_tkeys_of_tget {α : Type} {d : α} {l : Tab α} {k : Nat} {p : Nat → α → Bool} (h : tget d l k ≠ d)
    (hp : p k (tget d l k) = true) : k ∈ tkeys p l :=
  List.mem_map.mpr ⟨_, List.mem_filter.mpr ⟨mem_of_tget h, hp⟩, rfl⟩

/-- What an entry reads after every entry was changed is the default or the change of what it read. -/
theorem tget_tmap {α : Type} [DecidableEq α] {d : α} {l : Tab α} (f : Nat → α → α) (k : Nat) (wf : tabWf d l = true) :
    tget d (tmap d f l) k = d ∨ tget d (tmap d f l) k = f k (tget d l k) := by
  by_cases h : tget d (tmap d f l) k = d
  · exact .inl h
  · right
    generalize hv : tget d (tmap d f l) k = v at h ⊢
    obtain ⟨⟨k', w⟩, here, same⟩ := List.mem_map.mp (List.mem_filter.mp (hv ▸ mem_of_tget (by rwa [hv]))).1
    obtain ⟨rfl, rfl⟩ := Prod.mk.inj same
    rw [tget_of_mem wf here]

/-! ## Eviction (11 R306) -/

section
variable (s : State) (cause : Nat)

theorem ctxOf_ctxAbort_st_of_ne {c k : Nat} (h : k ≠ c) : ctxOf (ctxAbort c cause s) k = ctxOf s k := by
  unfold ctxAbort
  split
  · rw [show ∀ e t, ctxOf (raise e t) k = ctxOf t k from fun e t => (within_raise t e).read (ctxOf · k),
      (within_abortSteps_rest s c cause .aborted).keeps (ctxOf · k) fun _ => rfl]
    exact tget_tput_of_ne _ _ (by intro e; cases congrArg Ctx.st e) _ _ _ h
  · rfl

/-- A Context Abort of each of a list leaves none of them LIVE, and brings none to life. -/
theorem each_ctxAbort_dead (l : List Nat) (s : State) {c : Nat} (h : c ∈ l ∨ (ctxOf s c).st ≠ .live) :
    (ctxOf (each l (fun c s => ctxAbort c cause s) s) c).st ≠ .live := by
  induction l generalizing s with
  | nil => exact h.resolve_left (List.not_mem_nil)
  | cons k l ih =>
    refine ih (ctxAbort k cause s) ?_
    by_cases same : c = k
    · subst same
      right
      by_cases live : (ctxOf s c).st = .live
      · rw [ctxOf_ctxAbort _ _ _ live]
        decide
      · rwa [ctxAbort, if_neg live]
    · rw [ctxOf_ctxAbort_st_of_ne s cause same]
      exact h.imp_left fun m => (List.mem_cons.mp m).resolve_left same

/-- Eviction empties the engine tables and the slots and takes the pair secret (R306 step 3). -/
theorem evictAll_keys : (evictAll cause s).kh.ctxKey = [] ∧ (evictAll cause s).kh.memKey = [] ∧
    (evictAll cause s).kh.gcmKey = [] ∧ (evictAll cause s).kh.pairSecret = none ∧ (evictAll cause s).vb.zeroCause = cause :=
  ⟨rfl, rfl, rfl, rfl, rfl⟩

/-- A refused or finished command leaves the Keyholder's level, nonce and commands in progress as eviction set them (R306). -/
theorem evictAll_mailbox : (evictAll cause s).kh.run = [] ∧ (evictAll cause s).kh.nonce = s.kh.nonce := by
  let failed := s.kh.run.foldl (fun s r => khFail errSecureUnavailable r.1 s) { s with kh.run := [] }
  have refused : (failed.kh.run, failed.kh.nonce) = ([], s.kh.nonce) :=
    foldl_keeps (fun u => (u.kh.run, u.kh.nonce)) (fun u r => (within_khFail ..).keeps (fun u => (u.kh.run, u.kh.nonce)) fun _ => rfl) _ _
  have aborted (l : List Nat) : ((each l (fun c s => ctxAbort c errDebugEvict s) failed).kh.run,
      (each l (fun c s => ctxAbort c errDebugEvict s) failed).kh.nonce) = (failed.kh.run, failed.kh.nonce) :=
    each_keeps (fun u => (u.kh.run, u.kh.nonce)) (fun c u => (within_ctxAbort ..).keeps (fun u => (u.kh.run, u.kh.nonce)) fun _ => rfl) _ _
  exact Prod.mk.injEq .. ▸ (aborted _).trans refused

/-- No context is LIVE after eviction (R306 step 2). -/
theorem ctxOf_evictAll (wf : Formed s) (c : Nat) : (ctxOf (evictAll cause s) c).st ≠ .live := by
  let failed := s.kh.run.foldl (fun s r => khFail errSecureUnavailable r.1 s) { s with kh.run := [] }
  let live := tkeys (fun _ (x : Ctx) => decide (x.st = .live)) failed.obj.ctx
  let aborted := each live (fun c s => ctxAbort c errDebugEvict s) failed
  have formed : Formed aborted :=
    Within.formed (.after (.each (fun c s => within_ctxAbort ..) _ _) (.after
      (.foldl (fun s x => within_khFail ..) _ _) (.upd [.kh] (by rfl)))) wf
  have dead : (ctxOf aborted c).st ≠ .live := by
    refine each_ctxAbort_dead errDebugEvict live failed ?_
    by_cases h : (ctxOf failed c).st = .live
    · exact .inl (mem_tkeys_of_tget (fun e => by rw [ctxOf, e] at h; cases h) (decide_eq_true h))
    · exact .inr h
  rcases tget_tmap (fun _ (x : Ctx) => if x.st = .free then x else { x with keyLost := true }) c formed.ctx with e | e
  · exact fun h => by rw [show ctxOf (evictAll cause s) c = {} from e] at h; cases h
  · rw [show ctxOf (evictAll cause s) c = _ from e]
    split <;> exact dead

end

/-! ## The commands -/

theorem secCmd_of_ready {s : State} (ready : secReady s) (act : State → State) : secCmd act s = act s := by
  obtain ⟨runs, on, idle⟩ := ready
  simp [secCmd, runs, on, idle]

/-- A debug command through the mailbox where it is taken: what it does, its result where it has one, and its end. -/
theorem dbgCmd_of_ready {s : State} (ready : secReady s) (act : State → Nat × Bytes × State) :
    dbgCmd false act s = secEnd (act s).1 (if (act s).2.1.isEmpty then (act s).2.2
      else { (act s).2.2 with kh.result := BitVec.ofNat 512 (ofLe (act s).2.1) }) := by
  rw [dbgCmd, if_neg Bool.false_ne_true, secCmd_of_ready ready]

theorem secOk_secEnd (s : State) (code : Nat) : secOk (secEnd code s) (BitVec.ofNat 16 code) := ⟨rfl, rfl, rfl, rfl, rfl⟩

theorem dbgChallenge_of_ready {s : State} (ready : secReady s) (rng : s.kh.rngOk = true) :
    effDbgChallenge false s = secEnd 0 { s with
      free := s.free + 1, kh.nonce := some (Config.random s.free),
      kh.result := BitVec.ofNat 512 (ofLe (leBytes 8 s.id.uid.toNat ++ keyBytes (Config.random s.free))) } := by
  rw [effDbgChallenge, dbgCmd_of_ready ready]
  simp [rng, drawKey, drawn, leBytes]

/-- The outcome of a grant in SEC_GRANT where a challenge stands (R305). -/
theorem dbgGrant_of_ready {s : State} (ready : secReady s) {n : BitVec 256} (nonce : s.kh.nonce = some n) {g : Bytes}
    (hg : g = putB (List.replicate 256 0) 0 s.kh.grant) :
    effDbgGrant none s =
      if byteAt g 4 = 2 && s.pair.st ≠ .unbound then secEnd errObjState { s with kh.nonce := none }
      else if !grantOk s g n then secEnd errDictAccess { s with kh.nonce := none }
      else if byteAt g 4 = 2 then secEnd 0 { evictAll 3 { s with kh.nonce := none } with kh.dbg := 2 }
      else secEnd 0 { s with kh.nonce := none, kh.dbg := 1 } := by
  rw [effDbgGrant, Option.isSome_none, dbgCmd_of_ready ready]
  simp only [nonce, ← hg]
  rw [show ∀ g, grantOk { s with kh.nonce := none } g n = grantOk s g n from fun _ => rfl]
  split
  · rfl
  · split
    · rfl
    · split <;> rfl

/-- Settles O36: a challenge, a grant and a lowering each by the mailbox's rule, an L2 grant by what eviction leaves. -/
theorem debugCommandsAct : Obligations.DebugCommandsAct := by
  unfold Obligations.DebugCommandsAct
  refine ⟨fun s ready rng => ⟨_, congrArg Outcome.next (dbgChallenge_of_ready ready rng), secOk_secEnd .., rfl, rfl, rfl⟩,
    fun s n g ready nonce hg => ?_, fun s ready => ⟨fun level => ?_, fun level => ?_⟩⟩
  · have run := dbgGrant_of_ready ready nonce hg
    refine ⟨fun bad free => ?_, fun good one => ?_, fun wf good two unbound => ?_⟩
    · have unpaired : (byteAt g 4 = 2 && s.pair.st ≠ .unbound) = false := by
        rcases free with h | h <;> simp [h]
      rw [unpaired, bad] at run
      exact ⟨_, congrArg Outcome.next run, secOk_secEnd .., rfl, rfl⟩
    · rw [one, good] at run
      exact ⟨_, congrArg Outcome.next run, secOk_secEnd .., rfl, rfl, rfl⟩
    · rw [two, good, unbound] at run
      have formed : Formed { s with kh.nonce := none } := (Within.upd [.nonce] (by rfl)).formed ((formed_iff s).2 wf)
      have left := evictAll_mailbox { s with kh.nonce := none } 3
      obtain ⟨ctxKey, memKey, gcmKey, secret, cause⟩ := evictAll_keys { s with kh.nonce := none } 3
      have dead := ctxOf_evictAll _ 3 formed
      generalize evictAll 3 { s with kh.nonce := none } = u at run left ctxKey memKey gcmKey secret cause dead
      exact ⟨_, congrArg Outcome.next run, secOk_secEnd .., left.2, rfl, ctxKey, memKey, gcmKey, secret, left.1, cause, dead⟩
  · refine ⟨_, congrArg Outcome.next (?_ : effDbgLower false s = secEnd 0 { s with kh.dbg := 0 }), secOk_secEnd .., rfl, rfl⟩
    rw [effDbgLower, level, dbgCmd_of_ready ready]
    simp [level]
  · obtain ⟨runs, on, idle⟩ := ready
    exact congrArg Outcome.next (by simp [effDbgLower, level, runs, on, idle])

end Sys2Proof.Machine
end

section
/-!
PROOF. The flash controller: what starts, what is refused, how a command ends (16 R404 to R408, R412, R413).
-/
namespace Sys2Proof.Machine
open Host Claims

/-! ## Starts and refusals -/

section
variable {s : State} {bank : Bool} {src op : Nat}

theorem flashBad_of_page {a len : Nat} (h : op = 1 ∨ op = 4 ∨ op = 5) (some : 1 ≤ len) (most : len ≤ 256) (page : a % 256 + len ≤ 256)
    (inside : a < 2 ^ 26) : flashBad op a len = false := by
  rcases h with rfl | rfl | rfl <;> simp [flashBad] <;> omega

theorem flashBad_of_aligned {a len : Nat} (h : op = 2 ∧ a % 4096 = 0 ∨ op = 3 ∧ a % 65536 = 0) (inside : a < 2 ^ 26) :
    flashBad op a len = false := by
  obtain ⟨rfl, al⟩ | ⟨rfl, al⟩ := h <;> simp [flashBad] <;> omega

/-- A command starts where its operands are right and no store to its own bank is asked for (R404, R406). -/
theorem flashStart_of_good (awake : mcAwake s = true) (idle : s.flash.busy = false) (driven : s.flash.hiZ = false)
    (good : flashBad op s.flash.addr.toNat s.flash.len.toNat = false) (apart : 3 < op ∨ src ≠ 2 + (if bank then 1 else 0)) :
    flashStart op bank src s = flashStarted s op bank := by
  have taken : (op ≤ 3 && decide (src = 2 + b2n bank)) = false := by
    rcases apart with h | h
    · simp [show ¬op ≤ 3 by omega]
    · simp [show src ≠ 2 + b2n bank from h]
  simp only [flashStart, awake, idle, driven, good, taken]
  rfl

/-- A store to the bank it was fetched from is refused (R406). -/
theorem flashStart_of_own (awake : mcAwake s = true) (idle : s.flash.busy = false) (driven : s.flash.hiZ = false)
    (good : flashBad op s.flash.addr.toNat s.flash.len.toNat = false) (store : op ≤ 3) :
    flashStart op bank (2 + (if bank then 1 else 0)) s = flashEnd errFlashBankXip (flashRefused errFlashBankXip s) := by
  have own : (op ≤ 3 && decide (2 + (if bank then 1 else 0) = 2 + b2n bank)) = true := by simp [store, b2n]
  simp only [flashStart, awake, idle, driven, good, own]
  rfl

/-- A write of FL_CMD does nothing while a command runs or nothing is driven (R404, R411). -/
theorem flashStart_of_held (h : s.flash.hiZ = true ∨ s.flash.busy = true) : flashStart op bank src s = s := by
  rcases h with h | h <;> simp [flashStart, h]

/-- A refusal changes no byte and counts itself (R408). -/
theorem flashRefused_flash (code : Nat) (s : State) :
    (flashRefused code s).flash = { s.flash with refused := BitVec.ofNat 32 (satAdd 32 s.flash.refused.toNat 1) } :=
  (within_raise ..).keeps (·.flash) fun _ => rfl

end

theorem flashCommandsStart : FlashCommandsStart := by
  refine ⟨fun s bank src awake idle driven some most page => ?_, fun s bank src awake idle driven apart => ?_,
    fun s bank src held => ?_⟩
  · have good {op} (h : op = 1 ∨ op = 4 ∨ op = 5) : flashBad op s.flash.addr.toNat s.flash.len.toNat = false :=
      flashBad_of_page h some most page s.flash.addr.isLt
    exact ⟨fun apart => congrArg Outcome.next (flashStart_of_good awake idle driven (good (by simp)) (.inr apart)),
      congrArg Outcome.next (flashStart_of_good awake idle driven (good (by simp)) (.inl (by omega))),
      congrArg Outcome.next (flashStart_of_good awake idle driven (good (by simp)) (.inl (by omega)))⟩
  · exact ⟨fun al => congrArg Outcome.next
        (flashStart_of_good awake idle driven (flashBad_of_aligned (.inl ⟨rfl, al⟩) s.flash.addr.isLt) (.inr apart)),
      fun al => congrArg Outcome.next
        (flashStart_of_good awake idle driven (flashBad_of_aligned (.inr ⟨rfl, al⟩) s.flash.addr.isLt) (.inr apart))⟩
  · have still (op : Nat) : flashStart op bank src s = s := flashStart_of_held held
    exact ⟨congrArg Outcome.next (still 1), congrArg Outcome.next (still 4), congrArg Outcome.next (still 5),
      congrArg Outcome.next (still 2), congrArg Outcome.next (still 3)⟩

theorem flashRefusesOwnBank : FlashRefusesOwnBank := by
  intro s bank awake idle driven al some most c hc
  have page : s.flash.addr.toNat % 4096 = 0 ∧ s.flash.addr.toNat % 256 + s.flash.len.toNat ≤ 256 := by omega
  have inside := s.flash.addr.isLt
  have run : exec c s = .next (flashEnd errFlashBankXip (flashRefused errFlashBankXip s)) := by
    rcases hc with rfl | rfl | rfl
    · exact congrArg Outcome.next
        (flashStart_of_own awake idle driven (flashBad_of_page (by simp) some most page.2 inside) (by omega))
    · exact congrArg Outcome.next
        (flashStart_of_own awake idle driven (flashBad_of_aligned (.inl ⟨rfl, page.1⟩) inside) (by omega))
    · exact congrArg Outcome.next
        (flashStart_of_own awake idle driven (flashBad_of_aligned (.inr ⟨rfl, al⟩) inside) (by omega))
  refine ⟨_, run, ?_⟩
  have left := flashRefused_flash errFlashBankXip s
  generalize flashRefused errFlashBankXip s = u at left ⊢
  refine ⟨?_, ?_, rfl, rfl, rfl, rfl, ?_⟩ <;> simp [flashEnd, left, satAdd]

/-! ## The end of a command -/

theorem bankOf_setBank (s : State) (b : Bool) (x : Tab Byte) : bankOf (setBank b x s) b = x := by cases b <;> rfl

theorem setBank_upd (s : State) (b : Bool) (x : Tab Byte) : (setBank b x s).flash.upd = s.flash.upd := by cases b <;> rfl

theorem bankOf_flashAim (s : State) (b c : Bool) (a : Nat) : bankOf (flashAim b a s) c = bankOf s c := by cases b <;> rfl

theorem flashAim_upd (s : State) (b : Bool) (a : Nat) : (flashAim b a s).flash.upd = s.flash.upd ∧
    (flashAim b a s).flash.busy = s.flash.busy ∧ (flashAim b a s).flash.run = s.flash.run := by cases b <;> exact ⟨rfl, rfl, rfl⟩

/-- No erase of an update is due, so none starts. -/
theorem updErase_of_quiet {s : State} (quiet : ∀ n, s.flash.upd ≠ some (.erasing n)) : updErase s = s := by
  unfold updErase
  split
  · exact absurd ‹_› (quiet 0)
  · exact absurd ‹_› (quiet _)
  · rfl

section
variable {s t : State} {r : FlashRun} {good : Bool} {code : Nat}

/-- The state in which a command of FL_CMD leaves the device: its end, and the reads held for its bank answered (R404, R407). -/
theorem flashDone_of_command (run : s.flash.run = some r) (own : r.upd = false) (quiet : ∀ n, s.flash.upd ≠ some (.erasing n))
    (finish : flashFinish r good s = flashEnd code t) (upd : t.flash.upd = s.flash.upd) :
    exec (.flashCommandDone good) s = .next (xipServe r.bank (flashEnd code t)) := by
  refine congrArg Outcome.next ?_
  simp only [effFlashDone, run, own, finish]
  exact updErase_of_quiet fun n h => quiet n (upd ▸ h)

/-- An erase of an update ends and the next is due (R412). -/
theorem flashDone_of_update {n : Nat} (run : s.flash.run = some r) (own : r.upd = true) (op : r.op = 3)
    (erasing : s.flash.upd = some (.erasing n)) :
    exec (.flashCommandDone true) s = .next (updErase { xipServe r.bank (flashEnd 0 (flashErase r.bank r.addr 65536 s)) with
      flash.upd := some (.erasing (n - 1)) }) := by
  refine congrArg Outcome.next ?_
  have due : (xipServe r.bank (flashEnd 0 (flashErase r.bank r.addr 65536 s))).flash.upd = some (.erasing n) :=
    (setBank_upd ..).trans erasing
  have finish : flashFinish r true s = flashEnd 0 (flashErase r.bank r.addr 65536 s) := by simp [flashFinish, op]
  simp only [effFlashDone, run, own, finish, updErased, due, if_true]

theorem flashFinish_program (op : r.op = 1) (blank : blankB (flashRead s r.bank r.addr r.data.length) = true) :
    flashFinish r true s = flashEnd 0 (flashPut r.bank r.addr r.data s) := by
  simp [flashFinish, op, flashProgram, blank]

theorem flashFinish_notBlank (op : r.op = 1) (blank : blankB (flashRead s r.bank r.addr r.data.length) = false) :
    flashFinish r good s = flashEnd errFlashNotBlank (flashRefused errFlashNotBlank s) := by
  simp [flashFinish, op, flashProgram, blank]

theorem flashFinish_erase (op : r.op = 2 ∨ r.op = 3) :
    flashFinish r good s = flashEnd 0 (flashErase r.bank r.addr (if r.op = 2 then 4096 else 65536) s) := by
  rcases op with op | op <;> simp [flashFinish, op]

theorem flashFinish_read (op : r.op = 4) : flashFinish r good s =
    flashEnd 0 { s with flash.buf := putB s.flash.buf 0 (flashRead s r.bank r.addr r.len) } := by
  simp [flashFinish, op]

theorem flashFinish_blankCheck (op : r.op = 5) : flashFinish r good s =
    flashEnd 0 { s with flash.blank := blankB (flashRead s r.bank r.addr r.len) } := by
  simp [flashFinish, op]

end

theorem flashCommandEnds : FlashCommandEnds := by
  refine ⟨fun s r n run own op erasing => ?_, fun s r run own quiet => ?_⟩
  · have done := flashDone_of_update run own op erasing
    have erased : bankOf (xipServe r.bank (flashEnd 0 (flashErase r.bank r.addr 65536 s))) r.bank =
      memClear (bankOf s r.bank) r.addr 65536 := bankOf_setBank ..
    have other : otherBank (xipServe r.bank (flashEnd 0 (flashErase r.bank r.addr 65536 s))) = otherBank s := by
      cases r.bank <;> rfl
    have idle : (xipServe r.bank (flashEnd 0 (flashErase r.bank r.addr 65536 s))).flash.busy = false := rfl
    generalize xipServe r.bank (flashEnd 0 (flashErase r.bank r.addr 65536 s)) = u at done erased other idle
    refine ⟨fun last => ?_, fun more => ?_⟩
    · subst last
      exact ⟨_, done, rfl, rfl, rfl, rfl, idle, erased⟩
    · obtain ⟨m, rfl⟩ : ∃ m, n = m + 2 := ⟨n - 2, by omega⟩
      have next : updErase { u with flash.upd := some (.erasing (m + 1)) } =
          flashGo { upd := true, op := 3, bank := otherBank s, addr := updBlock (m + 1), len := 0, data := [] }
            { u with flash.upd := some (.erasing (m + 1)) } := by
        simp only [updErase, idle, ← other]
        rfl
      obtain ⟨upd, busy, runs⟩ := flashAim_upd { u with
        flash.upd := some (.erasing (m + 1)), flash.busy := true, flash.run := some { upd := true, op := 3, bank := otherBank s, addr := updBlock (m + 1), len := 0, data := [] } }
          (otherBank s) (updBlock (m + 1))
      exact ⟨_, done.trans (congrArg Outcome.next next), upd, busy, runs, (bankOf_flashAim ..).trans erased⟩
  · have kept {b x} : (setBank b x s).flash.upd = s.flash.upd := setBank_upd ..
    refine ⟨fun op blank => ?_, fun op blank good => ?_, fun op good => ?_, fun op good => ?_, fun op good => ?_⟩
    · exact ⟨_, flashDone_of_command run own quiet (flashFinish_program op blank) kept, bankOf_setBank ..,
        bankOf_setBank_of_ne _ _ (by simp), rfl, rfl, rfl⟩
    · have left := flashRefused_flash errFlashNotBlank s
      have done := flashDone_of_command run own quiet (flashFinish_notBlank op blank (good := good)) (by rw [left])
      have bank0 := congrArg Flash.bank0 left
      have bank1 := congrArg Flash.bank1 left
      exact ⟨_, done, bank0, bank1, rfl, rfl, rfl⟩
    · exact ⟨_, flashDone_of_command run own quiet (flashFinish_erase op) kept, bankOf_setBank ..,
        bankOf_setBank_of_ne _ _ (by simp), rfl, rfl, rfl⟩
    · exact ⟨_, flashDone_of_command run own quiet (flashFinish_read op) rfl, rfl, rfl, rfl, rfl, rfl, rfl⟩
    · exact ⟨_, flashDone_of_command run own quiet (flashFinish_blankCheck op) rfl, rfl, rfl, rfl, rfl, rfl, rfl⟩

/-- Settles O50: starts, refusals and ends of the flash commands. -/
theorem flashCommandsAct : Obligations.FlashCommandsAct := ⟨flashCommandsStart, flashRefusesOwnBank, flashCommandEnds⟩

end Sys2Proof.Machine
end

section
/-!
PROOF. The clock's commands, and the supplies (17 R425, R429 to R436, 18 R443 to R457).
-/
namespace Sys2Proof.Machine
open Host Claims

/-! ## The clock's commands -/

section
variable {s : State} (awake : mcAwake s = true) (unlocked : s.rtc.locked = false) (idle : s.rtc.cmd = none)
include awake unlocked idle

theorem rtcCmd_capture : rtcCmd 1 0 s = { s with rtc := { s.rtc with cmd := some (1, 0) } } := by
  simp [rtcCmd, awake, unlocked, idle]

theorem rtcCmd_set (valid : timeOk (leBytes 10 s.rtc.setV.toNat) = true) :
    rtcCmd 2 0 s = { s with rtc := { s.rtc with cmd := some (2, 0) } } := by
  simp [rtcCmd, awake, unlocked, idle, valid]

/-- The values of N that R433 bars are 0 and −32,768. -/
theorem rtcCmd_shift {n : BitVec 16} (none_pending : s.rtc.shift = none) (nonzero : n ≠ 0) (not_min : n ≠ 0x8000) :
    rtcCmd 3 n.toInt s = { s with rtc := { s.rtc with cmd := some (3, n.toInt) } } := by
  have zero : n.toInt ≠ 0 := fun h => nonzero (BitVec.eq_of_toInt_eq h)
  have min : n.toInt ≠ -32768 := fun h => not_min (BitVec.eq_of_toInt_eq h)
  simp [rtcCmd, awake, unlocked, idle, none_pending, zero, min]

end

/-! ## A tick -/

section
variable (r : Rtc)

theorem tickStart_prescale : (tickStart r).prescale = r.prescale + 1 := by dsimp only [tickStart]; split <;> rfl

theorem tickStart_setV : (tickStart r).setV = r.setV := by dsimp only [tickStart]; split <;> rfl

/-- An advance moves the counters, WDAY and the pending shift alone. -/
theorem rtcAdvance_eq (n : Nat) : rtcAdvance n r =
    { r with t := (rtcAdvance n r).t, wday := (rtcAdvance n r).wday, shift := (rtcAdvance n r).shift } := by
  unfold rtcAdvance
  dsimp only
  split
  · rfl
  · split
    · rfl
    · split <;> rfl

/-- Within a second an advance of 1 moves SUB alone (R425). -/
theorem rtcAdvance_one {r : Rtc} (inside : r.t.sub.toNat < 32767) : rtcAdvance 1 r = { r with t := { r.t with sub := r.t.sub + 1 } } := by
  have sub : BitVec.ofNat 15 (r.t.sub.toNat + 1) = r.t.sub + 1 := by bv_omega
  simp only [rtcAdvance, if_pos (show r.t.sub.toNat + 1 ≤ 32767 by omega), sub]

theorem rtcCommand_prescale : (rtcCommand r).prescale = r.prescale := by
  unfold rtcCommand
  split
  · rfl
  · dsimp only; split_ifs <;> rfl

theorem rtcCommand_cmd : (rtcCommand r).cmd = none := by
  unfold rtcCommand
  split
  · assumption
  · dsimp only; split_ifs <;> rfl

/-- A power-fail capture (R436). -/
def failCaptured (r : Rtc) : Rtc :=
  if r.failCap then { r with capH := r.t, capCause := 2, hwcap := true, failCap := false } else r

theorem rtcTick_eq : rtcTick r = { failCaptured (rtcCommand (tickAdvanced r)) with
    alm0 := almTick (failCaptured (rtcCommand (tickAdvanced r))).t (failCaptured (rtcCommand (tickAdvanced r))).alm0,
    alm1 := almTick (failCaptured (rtcCommand (tickAdvanced r))).t (failCaptured (rtcCommand (tickAdvanced r))).alm1 } := rfl

/-- A power-fail capture and the alarms leave the counters, the commands and the prescaler as they are. -/
theorem failCaptured_keeps : ((failCaptured r).t, (failCaptured r).cmd, (failCaptured r).prescale, (failCaptured r).capC,
    (failCaptured r).shift) = (r.t, r.cmd, r.prescale, r.capC, r.shift) := by
  unfold failCaptured
  split <;> rfl

theorem rtcTick_fields : (rtcTick r).cmd = none ∧ (rtcTick r).prescale = r.prescale + 1 ∧
    (rtcTick r).capC = (rtcCommand (tickAdvanced r)).capC ∧ (rtcTick r).shift = (rtcCommand (tickAdvanced r)).shift := by
  have kept := failCaptured_keeps (rtcCommand (tickAdvanced r))
  simp only [Prod.mk.injEq] at kept
  obtain ⟨-, cmd, prescale, capC, shift⟩ := kept
  have counted : (tickAdvanced r).prescale = r.prescale + 1 := by
    rw [tickAdvanced, rtcAdvance_eq]
    exact tickStart_prescale r
  exact ⟨cmd.trans (rtcCommand_cmd _), prescale.trans ((rtcCommand_prescale _).trans counted), capC, shift⟩

theorem tickAdvanced_cmd : (tickAdvanced r).cmd = r.cmd := by simp [tickAdvanced]

theorem tickAdvanced_setV : (tickAdvanced r).setV = r.setV := by
  rw [tickAdvanced, rtcAdvance_eq]
  exact tickStart_setV r

variable {r}

/-- CAPTURE takes the counters (R431). -/
theorem rtcTick_capture {n : Int} (cmd : r.cmd = some (1, n)) : (rtcTick r).capC = (rtcTick r).t := by
  rw [(rtcTick_fields r).2.2.1, rtcTick_t]
  simp [rtcCommand, tickAdvanced_cmd, cmd]

/-- SET loads the counters and drops a pending shift (R432). -/
theorem rtcTick_set {n : Int} (cmd : r.cmd = some (2, n)) :
    (rtcTick r).t = calOf (leBytes 10 r.setV.toNat) ∧ (rtcTick r).shift = none := by
  obtain ⟨-, -, -, shift⟩ := rtcTick_fields r
  rw [shift, rtcTick_t]
  simp [rtcCommand, tickAdvanced_cmd, cmd, tickAdvanced_setV]

/-- With nothing else to do a tick advances SUB by 1 (R425). -/
theorem rtcTick_within_second (cmd : r.cmd = none) (window : r.prescale ≠ 0) (untrimmed : r.trimNow = 0)
    (inside : r.t.sub.toNat < 32767) : (rtcTick r).t = { r.t with sub := r.t.sub + 1 } ∧ (rtcTick r).wday = r.wday := by
  have one : trimStep (tickStart r).trimNow r.prescale.toNat = 1 := by
    simp [tickStart_trimNow window, untrimmed, trimStep, trimPulses]
  have advanced := rtcAdvance_one (r := tickStart r) (by simpa using inside)
  rw [rtcTick_t_of_not_set (by simp [cmd]), rtcTick_wday, tickAdvanced, one, advanced]
  simp

end

theorem rtcCommandsAct : RtcCommandsAct := by
  refine ⟨fun s awake unlocked idle => congrArg Outcome.next (rtcCmd_capture awake unlocked idle),
    fun s awake unlocked idle valid => congrArg Outcome.next (rtcCmd_set awake unlocked idle valid),
    fun s n awake unlocked idle none_pending nonzero not_min =>
      congrArg Outcome.next (rtcCmd_shift awake unlocked idle none_pending nonzero not_min),
    fun s runs => ?_, fun s locked main due => congrArg Outcome.next ?_⟩
  · obtain ⟨t, step, ticked⟩ := exec_rtcTick runs
    obtain ⟨cmd, prescale, -, -⟩ := rtcTick_fields s.rtc
    rw [← ticked] at cmd prescale
    refine ⟨t, step, prescale, cmd, fun n h => ?_, fun n h => ?_, fun no_cmd window untrimmed inside => ?_⟩
    · rw [ticked]
      exact rtcTick_capture h
    · rw [ticked]
      exact rtcTick_set h
    · rw [ticked]
      exact rtcTick_within_second no_cmd window untrimmed inside
  · simp [effRtcUnlock, locked, main, show s.pwr.okAt + 2 * msNs ≤ s.now from due]

/-! ## Supplies -/

section
variable {s : State}

/-- What a failure of main power leaves before VBAT is asked for (18 R446, 17 R436). -/
def powerFailed (s : State) : State :=
  let s' := rtcPowerFail (coldReset 0 (emit (.canStby true) (if s.pwr.trip then emit (.thermtrip false) s else s)))
  { s' with
    pwr.main := false, pwr.pwrOk := false, pwr.perstN := false, pwr.rstCold := s.pwr.rstCold, pwr.rstCore := s.pwr.rstCore }

theorem effPowerFail_of_main (main : s.pwr.main = true) :
    effPowerFail s = if (powerFailed s).rtc.vbat then powerFailed s else vbatFresh (powerFailed s) := by
  unfold effPowerFail
  rw [if_neg (by simp [main])]
  rfl

/-- The loss of what VBAT held loses nothing else (18 R452). -/
theorem vbatFresh_keeps (s : State) : ((vbatFresh s).pwr.main, (vbatFresh s).pwr.pwrOk, (vbatFresh s).hbm, (vbatFresh s).kh,
    (vbatFresh s).flash) = (s.pwr.main, s.pwr.pwrOk, s.hbm, s.kh, s.flash) := rfl

theorem vbatFresh_out (s : State) : ∃ l, (vbatFresh s).out = s.out ++ l := ⟨_, rfl⟩

/-- Main power fails: all but VBAT is lost, and CAN goes to standby (18 R446). -/
theorem powerFail_spec (main : s.pwr.main = true) : (effPowerFail s).pwr.main = false ∧ (effPowerFail s).pwr.pwrOk = false ∧
    (effPowerFail s).hbm = [] ∧ (effPowerFail s).kh = {} ∧ (effPowerFail s).flash.bank0 = s.flash.bank0 ∧
    (effPowerFail s).flash.bank1 = s.flash.bank1 ∧ Out.canStby true ∈ (effPowerFail s).out ∧
    (s.rtc.vbat = true →
      (effPowerFail s).rtc = { s.rtc with locked := true, failCap := true, onVbat := true, cmd := none } ∧
      (effPowerFail s).vb = s.vb) := by
  have banks : (powerFailed s).flash.bank0 = s.flash.bank0 ∧ (powerFailed s).flash.bank1 = s.flash.bank1 := by
    unfold powerFailed
    cases s.pwr.trip <;> exact ⟨rfl, rfl⟩
  have sent : Out.canStby true ∈ (powerFailed s).out := List.mem_append_right _ (List.mem_singleton.mpr rfl)
  have clock : (powerFailed s).rtc = { s.rtc with locked := true, failCap := true, onVbat := true, cmd := none } := by
    unfold powerFailed
    cases s.pwr.trip <;> rfl
  have vb : (powerFailed s).vb = s.vb := by
    unfold powerFailed
    cases s.pwr.trip <;> rfl
  have lost : (powerFailed s).pwr.main = false ∧ (powerFailed s).pwr.pwrOk = false ∧ (powerFailed s).hbm = [] ∧
    (powerFailed s).kh = {} := ⟨rfl, rfl, rfl, rfl⟩
  rw [effPowerFail_of_main main]
  generalize powerFailed s = u at *
  obtain ⟨off, notOk, hbm, kh⟩ := lost
  by_cases vbat : u.rtc.vbat = true
  · rw [if_pos vbat]
    exact ⟨off, notOk, hbm, kh, banks.1, banks.2, sent, fun _ => ⟨clock, vb⟩⟩
  · rw [if_neg vbat]
    obtain ⟨l, out⟩ := vbatFresh_out u
    exact ⟨off, notOk, hbm, kh, banks.1, banks.2, out ▸ List.mem_append_left _ sent,
      fun h => absurd (by rw [clock]; exact h) vbat⟩

theorem effPwrOkRise_of_off (off : s.pwr.main = false) : effPwrOkRise s = { s with
    pwr.main := true, pwr.pwrOk := true, pwr.okAt := s.now, pwr.held := true, rtc.onVbat := false,
    out := s.out ++ [.canStby (decide (param s 0x1028 1 = 0))] } := by
  unfold effPwrOkRise
  rw [if_neg (by simp [off])]
  rfl

theorem effPwrOkRise_of_held (main : s.pwr.main = true) (untripped : s.pwr.trip = false) (held : s.pwr.held = true)
    (due : s.pwr.okAt + 2000000 ≤ s.now) : effPwrOkRise s = coldReset 1 { s with pwr.held := false } := by
  unfold effPwrOkRise powerOn
  rw [if_pos main, if_pos (by simp [untripped, held, show s.pwr.okAt + 2 * msNs ≤ s.now from due])]

/-- A trip captures the time, takes the chassis key and the retention store and records its sensor (18 R457, 17 R435). -/
theorem effThermal_spec {n x : Nat} (runs : mcRuns s = true) (low : 1 ≤ n) (high : n ≤ 20)
    (hot : (if n ≤ 16 then 1100 else 1050) ≤ x) :
    (effThermal n x s).pwr.trip = true ∧ (effThermal n x s).vb.tripSensor = some (n, x) ∧
      (effThermal n x s).vb.tripTime = calBytes s.rtc.t ∧ (effThermal n x s).rtc.capH = s.rtc.t ∧
      (effThermal n x s).rtc.capCause = 1 ∧ (effThermal n x s).kh.chassis = none ∧ (effThermal n x s).kh.ret = none := by
  have on : s.pwr.main = true ∧ s.pwr.trip = false := by
    simp only [mcRuns, Bool.and_eq_true, Bool.not_eq_true'] at runs
    exact ⟨runs.1.1, runs.2⟩
  have taken : ¬(!s.pwr.main || s.pwr.trip || n = 0 || 20 < n || x < tripValue n) = true := by
    have reached : ¬x < tripValue n := Nat.not_lt.mpr hot
    simp [on, reached]
    omega
  unfold effThermal
  rw [if_neg taken]
  have kept := each_keeps (fun u => (u.rtc, u.kh.chassis))
    (fun d u => (within_domainOff u d).keeps (fun u => (u.rtc, u.kh.chassis)) fun _ => rfl) onOrder.reverse
    (faultCapture { zeroAll s with kh.chassis := none })
  obtain ⟨clock, chassis⟩ := Prod.mk.inj kept
  dsimp only
  generalize each onOrder.reverse domainOff (faultCapture { zeroAll s with kh.chassis := none }) = u at clock chassis
  have time := congrArg (fun r : Rtc => calBytes r.t) clock
  have capH := congrArg Rtc.capH clock
  have cause := congrArg Rtc.capCause clock
  exact ⟨rfl, rfl, time, capH, cause, chassis, rfl⟩

end

theorem supplyEventsAct : SupplyEventsAct := by
  refine ⟨fun s main => ⟨_, rfl, powerFail_spec main⟩, fun s off => congrArg Outcome.next (effPwrOkRise_of_off off),
    fun s main untripped held due =>
      ⟨_, congrArg Outcome.next (effPwrOkRise_of_held main untripped held due), rfl, rfl, rfl, rfl, rfl, rfl, rfl, rfl⟩,
    fun s n x runs low high hot => ⟨_, rfl, effThermal_spec runs low high hot⟩,
    fun s more errs served => congrArg Outcome.next (if_pos served),
    fun s absent main => congrArg Outcome.next ?_, fun s main => congrArg Outcome.next (if_pos main)⟩
  unfold effVbatApplied
  rw [if_neg (by simp [absent])]
  exact if_pos main

/-- Settles O51: the clock's commands and ticks, and the supplies' events. -/
theorem supplyAndRtcCommandsAct : Obligations.SupplyAndRtcCommandsAct := ⟨rtcCommandsAct, supplyEventsAct⟩

end Sys2Proof.Machine
end

section
/-!
PROOF. The network commands where they are accepted (07 R172 to R175).
-/
namespace Sys2Proof.Machine
open Host Claims

section
variable {s : State} {x : NetCmd} {op lim : Nat} {bad : Bytes → Bool} {ctx : Bytes → Option Nat}
  {act : Bytes → State → Except Nat (Nat × State)}

/-- A network command that is taken and accepted ends with CODE 0 and its result (R172). -/
theorem netCmd_of_ok (ready : netReady s x lim) (formed : bad (netStage s) = false) {r : Nat × State}
    (ok : act (netStage s) s = .ok r) : netCmd op lim x bad ctx act s = netDone 0 r.1 r.2 := by
  obtain ⟨host, net, mem, rsv, id⟩ := ready
  rw [netStage] at formed ok
  simp [netCmd, host, net, mem, rsv, Nat.not_le.mpr id, formed, ok]

theorem netDone_zero (r : Nat) (s : State) :
    netDone 0 r s = { s with eth.done := true, eth.code := 0, eth.result := BitVec.ofNat 32 r } := rfl

/-- A queue pair in RTS that fails keeps what it is but its state and what it has under way (R174). -/
theorem qpOf_qpError {q : Nat} (cause : QpCause) (addr : Nat) (rts : (qpOf s q).st = .rts) :
    qpOf (qpError q cause addr s) q = { qpOf s q with st := .error, inb := .none, outs := [] } := by
  rw [qpError, if_pos rts]
  refine ((within_raise ..).keeps (qpOf · q) fun _ => rfl).trans (tget_tput_self _ _ ?_ _ _)
  intro h
  cases congrArg Qp.st h

end

section
variable {s : State} {x : NetCmd}

theorem effQpCreate_of_ready (ready : netReady s x 4096) (formed : qpBad (netStage s) = false)
    (free : (qpOf s x.id.toNat).st = .free) (live : isLive s (qpMake (netStage s) s).ctx = true)
    (refs : qpRefsOk s (qpMake (netStage s) s) = true) :
    effQpCreate x s = netDone 0 0 (setQp s x.id.toNat (qpMake (netStage s) s)) := by
  unfold effQpCreate
  refine netCmd_of_ok (r := (0, setQp s x.id.toNat (qpMake (netStage s) s))) ready formed ?_
  simp [free, live, refs]

theorem effQpRecover_of_ready (ready : netReady s x 4096) (formed : qpBad (netStage s) = false)
    (failed : (qpOf s x.id.toNat).st = .error) (live : isLive s (qpMake (netStage s) s).ctx = true)
    (refs : qpRefsOk s (qpMake (netStage s) s) = true) :
    effQpRecover x s = netDone 0 0 (setQp s x.id.toNat (qpMake (netStage s) s)) := by
  unfold effQpRecover
  refine netCmd_of_ok (r := (0, setQp s x.id.toNat (qpMake (netStage s) s))) ready formed ?_
  simp [failed, live, refs]

theorem effQpDestroy_of_ready (ready : netReady s x 4096) (made : (qpOf s x.id.toNat).st ≠ .free) :
    effQpDestroy x s = netDone 0 0 (dropHeld x.id.toNat (setQp s x.id.toNat {})) := by
  unfold effQpDestroy
  refine netCmd_of_ok (r := (0, dropHeld x.id.toNat (setQp s x.id.toNat {}))) ready rfl ?_
  simp [made]

theorem effQpFail_of_ready (ready : netReady s x 4096) (rts : (qpOf s x.id.toNat).st = .rts) :
    effQpFail x s = netDone 0 0 (qpError x.id.toNat .command 0 s) := by
  unfold effQpFail
  refine netCmd_of_ok (r := (0, qpError x.id.toNat .command 0 s)) ready rfl ?_
  simp [rts]

/-- MR_REG draws the key's TAG (R175). -/
theorem effMrReg_of_ready (ready : netReady s x 65536) (live : (moOf s x.id.toNat).st = .live)
    (device : (moOf s x.id.toNat).host = false) (netw : (moOf s x.id.toNat).netw = true)
    (write : (moOf s x.id.toNat).write = true) (owned : notRetiring s (moOf s x.id.toNat).ctx = true) :
    effMrReg x s = netDone 0 ((Config.rkeyTag s.free).toNat * 2 ^ 16 + x.id.toNat)
      (setMo (drawn s) x.id.toNat { moOf s x.id.toNat with rkey := some (Config.rkeyTag s.free) }) := by
  unfold effMrReg
  refine netCmd_of_ok (r := ((Config.rkeyTag s.free).toNat * 2 ^ 16 + x.id.toNat,
    setMo (drawn s) x.id.toNat { moOf s x.id.toNat with rkey := some (Config.rkeyTag s.free) })) ready rfl ?_
  simp [live, device, netw, write, owned]

theorem effMrDereg_of_ready (ready : netReady s x 65536) (registered : (moOf s x.id.toNat).rkey.isSome = true)
    (owned : notRetiring s (moOf s x.id.toNat).ctx = true) :
    effMrDereg x s = netDone 0 0 (setMo s x.id.toNat { moOf s x.id.toNat with rkey := none }) := by
  unfold effMrDereg
  refine netCmd_of_ok (r := (0, setMo s x.id.toNat { moOf s x.id.toNat with rkey := none })) ready rfl ?_
  simp [registered, owned]

end

/-- Settles O24: each accepted network command by what it sets. -/
theorem networkCommandsAct : Obligations.NetworkCommandsAct := by
  unfold Obligations.NetworkCommandsAct
  refine ⟨?_, ?_, ?_, ?_, ?_, ?_⟩
  · rintro s x _ ready rfl formed free live refs
    exact congrArg Outcome.next (effQpCreate_of_ready ready formed free live refs)
  · intro s x ready made
    exact congrArg Outcome.next (effQpDestroy_of_ready ready made)
  · intro s x ready rts
    exact ⟨_, congrArg Outcome.next (effQpFail_of_ready ready rts), rfl, rfl, qpOf_qpError _ _ rts⟩
  · rintro s x _ ready rfl formed failed live refs
    exact congrArg Outcome.next (effQpRecover_of_ready ready formed failed live refs)
  · rintro s x _ ready rfl live device netw write owned
    exact congrArg Outcome.next (effMrReg_of_ready ready live device netw write owned)
  · rintro s x _ ready rfl registered owned
    exact congrArg Outcome.next (effMrDereg_of_ready ready registered owned)

end Sys2Proof.Machine
end

section
/-!
PROOF. The states of a Nalfa port: retraining, training, and going down (08 R202 to R207).
-/
namespace Sys2Proof.Machine
open Host Claims

/-! ## A port written -/

theorem lset_lset {β : Type} (l : List β) (i : Nat) (v w : β) : lset (lset l i v) i w = lset l i w := by
  induction l generalizing i with
  | nil => rfl
  | cons x r ih => cases i <;> simp [lset, ih]

section
variable {s : State} {p : Nat}

theorem setPort_setPort (x y : Port) : setPort (setPort s p x) p y = setPort s p y := by simp [setPort, lset_lset]

theorem portOf_setPort_self (here : p < s.port.length) (x : Port) : portOf (setPort s p x) p = x :=
  (portOf_setPort s p p x here).trans (if_pos rfl)

theorem length_setPort (q : Nat) (x : Port) : (setPort s q x).port.length = s.port.length := lset_length ..

theorem here_of_on (wf : Units.wf s = true) (on : linkOn s p = true) : p < s.port.length := by
  obtain ⟨ports, -⟩ := units_of_wf wf
  simp only [linkOn, Bool.and_eq_true, decide_eq_true_eq] at on
  omega

theorem linkRuns_iff : linkRuns s p = true ↔ linkOn s p = true ∧ linkClock s p = true := by simp [linkRuns]

end

/-! ## Records that are made -/

/-- The records that wait for the arbiter are those before and perhaps more. -/
def Records (s t : State) : Prop := ∃ l, t.erq.incoming = s.erq.incoming ++ l

section
variable {s t u : State}

theorem Records.of_eq (h : t.erq.incoming = s.erq.incoming) : Records s t := ⟨[], by simp [h]⟩

theorem Records.trans (a : Records s t) (b : Records t u) : Records s u := by
  obtain ⟨l, a⟩ := a
  obtain ⟨m, b⟩ := b
  exact ⟨l ++ m, by rw [b, a, List.append_assoc]⟩

theorem Records.foldl {α : Type} {f : State → α → State} (h : ∀ s x, Records s (f s x)) (l : List α) (s : State) :
    Records s (l.foldl f s) := by
  induction l generalizing s with
  | nil => exact .of_eq rfl
  | cons x l ih => exact (h s x).trans (ih _)

theorem incoming_raise (e : ErrRec) (s : State) :
    (raise e s).erq.incoming = s.erq.incoming ++ (if domOn s dHOST then [e] else []) := by
  obtain ⟨_, _, _, _, _, raised⟩ := raise_eq s e
  rw [raised]

theorem records_raise (e : ErrRec) (s : State) : Records s (raise e s) := ⟨_, incoming_raise e s⟩

theorem records_slotFail (a n : Nat) (e : ErrRec) (quiet : Bool) (s : State) : Records s (slotFail a n e quiet s) := by
  have set : Records s (if (slotOf s a n).status = 0 then setSlot s a n { slotOf s a n with status := e.code } else s) := by
    split <;> exact .of_eq rfl
  unfold slotFail
  dsimp only
  split
  · exact set
  · exact set.trans (records_raise ..)

theorem records_slotTry (a n : Nat) (s : State) : Records s (slotTry a n s) := by
  have failed : Records s (exaFailed a n s) := by
    unfold exaFailed
    split
    · exact .of_eq rfl
    · exact records_slotFail ..
  unfold slotTry
  split
  · exact failed.trans (.of_eq ((within_complete ..).keeps (·.erq.incoming) fun _ => rfl))
  · exact .of_eq rfl

theorem records_slotGot (w : Await) (s : State) : Records s (slotGot w s) := by
  unfold slotGot
  refine .trans (.of_eq rfl) (.foldl (fun u e => .foldl (fun u x => ?_) _ _) _ _)
  split
  · exact .trans (.of_eq rfl) (records_slotTry ..)
  · exact .of_eq rfl

theorem records_txnNotify (id : Nat) (x : Txn) (status : Nat) (quiet : Bool) (s : State) :
    Records s (txnNotify id x status quiet s) := by
  unfold txnNotify
  split
  · split
    · exact .of_eq rfl
    · refine .trans ?_ (records_slotTry ..)
      refine .trans (.of_eq rfl) (?_ : Records (setSlot s _ _ _) _)
      split
      · exact .of_eq rfl
      · split
        · exact .of_eq rfl
        · exact records_slotFail ..
  · refine .of_eq ?_
    unfold ntxEnd
    split <;> rfl
  · exact records_slotGot ..

theorem records_endTxn (id status : Nat) (quiet : Bool) (s : State) : Records s (endTxn id status quiet s) := by
  unfold endTxn
  split
  · exact .of_eq rfl
  · exact .trans (.of_eq rfl) (records_txnNotify ..)

theorem records_endPortTags (p : Nat) (s : State) : Records s (endPortTags p s) := by
  unfold endPortTags
  exact .trans (.foldl (fun u c => records_raise ..) _ _) (.foldl (fun u i => records_endTxn ..) _ _)

end

/-! ## Retrains (R203, R204) -/

section
variable {s : State} {p : Nat}

/-- The port an attempt of a retrain leaves (R204). -/
theorem portOf_beginAttempt (here : p < s.port.length) : portOf (beginAttempt p s) p =
    { noInit (portOf s p) with st := .retrain, since := s.now, retrains := inc32b (portOf s p).retrains, replayLeft := [] } :=
  ((within_raise ..).keeps (portOf · p) fun _ => rfl).trans (portOf_setPort_self here _)

/-- An attempt writes one record (R204). -/
theorem incoming_beginAttempt (host : domOn s dHOST = true) :
    (beginAttempt p s).erq.incoming = s.erq.incoming ++ [{ code := 0x0603, src := 5, unit := p }] := by
  rw [beginAttempt, incoming_raise, if_pos (by exact host)]
  rfl

theorem portOf_portDown (here : p < s.port.length) : (portOf (portDown p s) p).st = .down ∧
    (portOf (portDown p s) p).unack = [] ∧ (portOf (portDown p s) p).rxQ = [] := by
  have left := noLsas_portDown p p s here
  rw [if_pos rfl] at left
  exact ⟨congrArg Port.st left, congrArg Port.unack left, congrArg Port.rxQ left⟩

/-- A port that goes down records that first (R204). -/
theorem incoming_portDown (host : domOn s dHOST = true) :
    ∃ l, (portDown p s).erq.incoming = s.erq.incoming ++ { code := 0x0601, src := 5, unit := p } :: l := by
  have entered : (portEnter p .down s).erq.incoming = s.erq.incoming :=
    (within_portEnter ..).keeps (·.erq.incoming) fun _ => rfl
  have on : domOn (portEnter p .down s) dHOST = true := ((within_portEnter ..).keeps (domOn · dHOST) fun _ => rfl).trans host
  obtain ⟨l, more⟩ := records_endPortTags p (raise { code := errLinkDown, src := 5, unit := p } (portEnter p .down s))
  refine ⟨l, more.trans ?_⟩
  rw [incoming_raise, if_pos on, entered, List.append_assoc]
  rfl

theorem recentFails_append (now : Nat) (l : List Nat) : recentFails now (l ++ [now]) = recentFails now l ++ [now] := by
  simp [recentFails, List.filter_append]

/-- The third failure within 1 s takes the port down, and any other starts the next attempt (R203, R204). -/
theorem retrainFailed_eq : retrainFailed p s =
    if 2 ≤ (recentFails s.now (portOf s p).fails).length
    then portDown p (setPort s p { portOf s p with fails := recentFails s.now (portOf s p).fails ++ [s.now], lastDone := none })
    else beginAttempt p (setPort s p { portOf s p with
      fails := recentFails s.now (portOf s p).fails ++ [s.now], lastDone := none }) := by
  unfold retrainFailed
  dsimp only
  rw [recentFails_append]
  by_cases many : 2 ≤ (recentFails s.now (portOf s p).fails).length
  · rw [if_pos many]
    exact if_pos (by simpa using many)
  · rw [if_neg many]
    exact if_neg (by simpa using many)

theorem retrainFailed_st (here : p < s.port.length) : (portOf (retrainFailed p s) p).st =
    if 2 ≤ (recentFails s.now (portOf s p).fails).length then .down else .retrain := by
  rw [retrainFailed_eq]
  have here' (x : Port) : p < (setPort s p x).port.length := by rwa [length_setPort]
  split
  · exact (portOf_portDown (here' _)).1
  · rw [portOf_beginAttempt (here' _)]

/-- A cause for a retrain where none was completed lately starts an attempt (R203). -/
theorem retrainTrigger_of_none (live : (portOf s p).st = .active ∨ (portOf s p).st = .replay) (settled : (portOf s p).lastDone = none) :
    retrainTrigger p s = beginAttempt p s := by
  simp [retrainTrigger, live, settled]

/-- Within 10 ms of a completed retrain a cause makes that one fail (R204). -/
theorem retrainTrigger_of_recent {d : Nat} (live : (portOf s p).st = .active ∨ (portOf s p).st = .replay)
    (done : (portOf s p).lastDone = some d) (soon : s.now ≤ d + 10000000) : retrainTrigger p s = retrainFailed p s := by
  simp [retrainTrigger, live, done, show s.now ≤ d + 10 * msNs from soon]

theorem retrainTrigger_of_other (idle : ¬((portOf s p).st = .active ∨ (portOf s p).st = .replay)) : retrainTrigger p s = s :=
  if_neg idle

/-- What a cause for a retrain leaves of a live port (R203, R204). -/
theorem retrainTrigger_spec (here : p < s.port.length) (live : (portOf s p).st = .active ∨ (portOf s p).st = .replay) :
    ((portOf s p).lastDone = none → (portOf (retrainTrigger p s) p).st = .retrain ∧
      (portOf (retrainTrigger p s) p).retrains = inc32b (portOf s p).retrains ∧
      (domOn s dHOST = true →
        (retrainTrigger p s).erq.incoming = s.erq.incoming ++ [{ code := 0x0603, src := 5, unit := p }])) ∧
    (∀ d, (portOf s p).lastDone = some d → s.now ≤ d + 10000000 → 2 ≤ (recentFails s.now (portOf s p).fails).length →
      (portOf (retrainTrigger p s) p).st = .down ∧ (portOf (retrainTrigger p s) p).unack = [] ∧
      (portOf (retrainTrigger p s) p).rxQ = []) := by
  refine ⟨fun settled => ?_, fun d done soon many => ?_⟩
  · rw [retrainTrigger_of_none live settled, portOf_beginAttempt here]
    exact ⟨rfl, rfl, incoming_beginAttempt⟩
  · rw [retrainTrigger_of_recent live done soon, retrainFailed_eq, if_pos many]
    exact portOf_portDown (by rwa [length_setPort])

theorem lostSignal_of_live (live : (portOf s p).st = .active ∨ (portOf s p).st = .replay) (handshake : Bool) :
    lostSignal p handshake s = retrainTrigger p s := by
  rcases live with h | h <;> simp [lostSignal, h]

end

/-! ## The control register (R203) -/

section
variable {s : State} {p : Nat} {w : RegWr}

theorem regWrite_of_fits {n : Nat} (fits : rwStraddles w n = false) (act : State → State) : regWrite w n act s = .next (act s) := by
  simp [regWrite, fits]

theorem length_setEnable (en : Bool) : (setEnable p en s).port.length = s.port.length := by
  unfold setEnable startTraining
  dsimp only
  split
  · split
    · rw [length_setPort, length_setPort]
    · exact length_setPort ..
  · split
    · exact length_setPort ..
    · refine Eq.trans (b := (portEnter p .disabled (setPort s p { portOf s p with en := en })).port.length) rfl ?_
      rw [portEnter, length_setUp]
      simp [dropTransit, setPort]

/-- EN where the port is not DISABLED changes nothing else; a DISABLED one starts to train (R203). -/
theorem portOf_setEnable_true (here : p < s.port.length) : portOf (setEnable p true s) p =
    if (portOf s p).st = .disabled then { noInit (portOf s p) with en := true, st := .training, since := s.now }
    else { portOf s p with en := true } := by
  have set (x : Port) : portOf (setPort s p x) p = x := portOf_setPort_self here x
  unfold setEnable startTraining
  simp only [set, if_true]
  split
  · rw [setPort_setPort, set]
    rfl
  · exact set _

/-- EN cleared leaves the port DISABLED (R203). -/
theorem portOf_setEnable_false (here : p < s.port.length) :
    (portOf (setEnable p false s) p).st = .disabled ∧ (portOf (setEnable p false s) p).en = false := by
  have set (x : Port) : portOf (setPort s p x) p = x := portOf_setPort_self here x
  have here' (x : Port) : p < (setPort s p x).port.length := by rwa [length_setPort]
  unfold setEnable
  simp only [set, Bool.false_eq_true, if_false]
  split
  case isTrue off => exact ⟨(congrArg Port.st (set _)).trans off, congrArg Port.en (set _)⟩
  case isFalse on =>
    have left := noLsas_portEnter p p .disabled _ (here' { portOf s p with en := false })
    rw [if_pos rfl, set] at left
    exact ⟨congrArg Port.st left, congrArg Port.en left⟩

/-- NLK_CTRL's fields as a write leaves them, EN apart. -/
def nlkFields (w : RegWr) (x : Port) : Port :=
  { x with
    auto := (rwMerge w 4 (nlkCtrl x)).testBit 3, replayMax := BitVec.ofNat 4 (rwMerge w 4 (nlkCtrl x) / 16),
    replayTo := BitVec.ofNat 12 (rwMerge w 4 (nlkCtrl x) / 256) }

/-- The port once a write of NLK_CTRL has set its fields and EN. -/
def nlkSet (p : Nat) (w : RegWr) (s : State) : State :=
  setEnable p ((rwMerge w 4 (nlkCtrl (portOf s p))).testBit 0) (setPort s p (nlkFields w (portOf s p)))

/-- TRAIN, then RETRAIN, in the state EN leaves. -/
theorem nlkWrite_eq (on : linkOn s p = true) : nlkWrite p w s =
    (let t := if (rwOnes w 4).testBit 1 && (portOf (nlkSet p w s) p).en && decide ((portOf (nlkSet p w s) p).st = .down)
      then startTraining p (nlkSet p w s) else nlkSet p w s
    if (rwOnes w 4).testBit 2 then retrainTrigger p t else t) := by
  rw [nlkWrite, if_neg (by simp [on])]
  rfl

theorem nlkSet_now : (nlkSet p w s).now = s.now := ((within_setEnable ..).keeps (·.now) fun _ => rfl).trans rfl

theorem length_nlkSet : (nlkSet p w s).port.length = s.port.length := by rw [nlkSet, length_setEnable, length_setPort]

theorem portOf_nlkSet_true (here : p < s.port.length) (en : (rwMerge w 4 (nlkCtrl (portOf s p))).testBit 0 = true) :
    portOf (nlkSet p w s) p =
      if (portOf s p).st = .disabled then { noInit (nlkFields w (portOf s p)) with en := true, st := .training, since := s.now }
      else { nlkFields w (portOf s p) with en := true } := by
  rw [nlkSet, en, portOf_setEnable_true (by rwa [length_setPort]), portOf_setPort_self here]
  rfl

theorem portOf_startTraining (here : p < s.port.length) :
    portOf (startTraining p s) p = { noInit (portOf s p) with st := .training, since := s.now } := portOf_setPort_self here _

variable (host : barOn s = true) (on : linkOn s p = true) (fits : rwStraddles w 4 = false)
include host on fits

/-- A write of NLK_CTRL with RETRAIN 1. -/
theorem exec_nlkRetrain (ones : (rwOnes w 4).testBit 2 = true) : exec (.nlkRetrain p w) s = .next (nlkWrite p w s) := by
  refine Eq.trans (b := if !barOn s || !linkOn s p then .next s else regWrite w 4 (effNlkRetrain p w) s) rfl ?_
  rw [if_neg (by simp [host, on]), regWrite_of_fits fits, effNlkRetrain, if_pos ones]

/-- A write of NLK_CTRL with TRAIN 1. -/
theorem exec_nlkTrain (ones : (rwOnes w 4).testBit 1 = true) : exec (.nlkTrain p w) s = .next (nlkWrite p w s) := by
  refine Eq.trans (b := if !barOn s || !linkOn s p then .next s else regWrite w 4 (effNlkTrain p w) s) rfl ?_
  rw [if_neg (by simp [host, on]), regWrite_of_fits fits, effNlkTrain, if_pos ones]

theorem exec_nlkEnable : exec (.nlkEnable p w) s = .next (nlkWrite p w s) := by
  refine Eq.trans (b := if !barOn s || !linkOn s p then .next s else regWrite w 4 (effNlkEnable p w) s) rfl ?_
  rw [if_neg (by simp [host, on]), regWrite_of_fits fits, effNlkEnable]

end

/-- What the three commands of NLK_CTRL leave of a port's state (R203). -/
theorem nlkWrite_spec {s : State} {p : Nat} {w : RegWr} (here : p < s.port.length) (on : linkOn s p = true) :
    ((portOf s p).st = .active → (portOf s p).lastDone = none → (rwMerge w 4 (nlkCtrl (portOf s p))).testBit 0 = true →
      (rwOnes w 4).testBit 2 = true → (portOf (nlkWrite p w s) p).st = .retrain) ∧
    ((portOf s p).st = .down → (rwMerge w 4 (nlkCtrl (portOf s p))).testBit 0 = true → (rwOnes w 4).testBit 1 = true →
      (portOf (nlkWrite p w s) p).st = .training ∧ (portOf (nlkWrite p w s) p).since = s.now) ∧
    ((rwOnes w 4).testBit 1 = false → (rwOnes w 4).testBit 2 = false → nlkWrite p w s = nlkSet p w s) := by
  have here' : p < (nlkSet p w s).port.length := by rwa [length_nlkSet]
  rw [nlkWrite_eq on]
  refine ⟨fun live settled en retrain => ?_, fun down en train => ?_, fun train retrain => ?_⟩
  · have set : portOf (nlkSet p w s) p = { nlkFields w (portOf s p) with en := true } := by
      rw [portOf_nlkSet_true here en, if_neg (by simp [live])]
    have active : (portOf (nlkSet p w s) p).st = .active := by rw [set]; exact live
    have fresh : (portOf (nlkSet p w s) p).lastDone = none := by rw [set]; exact settled
    simp only [active, retrain, reduceCtorEq, decide_false, Bool.and_false, Bool.false_eq_true, if_false, if_true]
    rw [retrainTrigger_of_none (.inl active) fresh, portOf_beginAttempt here']
  · have set : portOf (nlkSet p w s) p = { nlkFields w (portOf s p) with en := true } := by
      rw [portOf_nlkSet_true here en, if_neg (by simp [down])]
    have isDown : (portOf (nlkSet p w s) p).st = .down := by rw [set]; exact down
    have isOn : (portOf (nlkSet p w s) p).en = true := by rw [set]
    have training := portOf_startTraining here'
    have kept : retrainTrigger p (startTraining p (nlkSet p w s)) = startTraining p (nlkSet p w s) :=
      retrainTrigger_of_other (by simp [training])
    simp only [isDown, isOn, train, decide_true, Bool.and_self, if_true, kept, ite_self]
    rw [training]
    exact ⟨rfl, nlkSet_now⟩
  · simp [train, retrain]

/-! ## Training (R207 to R210) -/

section
variable {s : State} {p : Nat}

/-- A port that becomes UP again changes in that and in the LSAs it sends. -/
theorem portOf_upAgain (here : p < s.port.length) : portOf (upAgain p s) p =
    { portOf s p with up := (portOf (upAgain p s) p).up, lsaQ := (portOf (upAgain p s) p).lsaQ } := by
  by_cases heard : heardLately s (portOf s p) = true
  · have up : upAgain p s = setUp p true s := if_pos heard
    rw [up]
    have left := noLsas_setUp p p true s here
    rw [if_pos rfl] at left
    exact congrArg (fun x : Port => { x with up := (portOf (setUp p true s) p).up, lsaQ := (portOf (setUp p true s) p).lsaQ }) left
  · have same : upAgain p s = s := if_neg heard
    rw [same]

/-- The port as a training attempt that has ended leaves it, its UP apart (R207 to R210). -/
def trainedPort (s : State) (p : Nat) (tr : Trained) (partner next : Nat) (fresh : Bool) : Port :=
  let x := { noInit (portOf s p) with reversed := tr.reversed, pol := tr.pol, trained := tr, partnerPort := partner }
  let x := if x.fresh || fresh then freshPort s p x.fresh x else { x with unack := belowNext next x.unack }
  { x with
    st := if decide (x.st = .retrain) && !x.unack.isEmpty then .replay else .active,
    replayLeft := x.unack, cover := x.unack.length, replayRun := 0, ackAt := s.now, fresh := false,
    lastDone := if decide (x.st = .retrain) then some s.now else none }

section
variable (runs : linkRuns s p = true)
include runs

theorem effTrainingComplete_of_done {tr : Trained} {partner next : Nat} {fresh : Bool}
    (st : (portOf s p).st = .training ∨ (portOf s p).st = .retrain) (done : initDone (portOf s p) = some (partner, fresh, next)) :
    effTrainingComplete p (some tr) s = upAgain p (setPort s p (trainedPort s p tr partner next fresh)) := by
  unfold effTrainingComplete
  dsimp only
  rw [if_neg (by rcases st with h | h <;> simp [runs, h])]
  simp only [done]
  rfl

omit runs in
theorem effTrainingComplete_of_waiting {tr : Trained} (waits : initDone (portOf s p) = none) :
    effTrainingComplete p (some tr) s = s := by
  unfold effTrainingComplete
  simp [waits]

theorem effTrainingComplete_of_failed (st : (portOf s p).st = .training ∨ (portOf s p).st = .retrain) :
    effTrainingComplete p none s = if (portOf s p).st = .retrain then retrainFailed p s else s := by
  unfold effTrainingComplete
  dsimp only
  rw [if_neg (by rcases st with h | h <;> simp [runs, h])]

end

theorem trainedPort_of_training (tr : Trained) (partner next : Nat) (fresh : Bool) (st : (portOf s p).st = .training)
    (mine : (portOf s p).fresh = true) : trainedPort s p tr partner next fresh =
      { noInit (portOf s p) with
        reversed := tr.reversed, pol := tr.pol, trained := tr, partnerPort := partner, e := 0, accepted := false, errSt := false,
        nakDue := false, txSeq := 0, unack := [], st := .active, replayLeft := [], cover := 0, replayRun := 0, ackAt := s.now,
        fresh := false, lastDone := none } := by
  have fr : (noInit (portOf s p)).fresh = true := mine
  have tn : (noInit (portOf s p)).st = .training := st
  simp [trainedPort, fr, freshPort, tn]

theorem trainedPort_of_retrain (tr : Trained) (partner next : Nat) (st : (portOf s p).st = .retrain)
    (mine : (portOf s p).fresh = false) : trainedPort s p tr partner next false =
      { noInit (portOf s p) with
        reversed := tr.reversed, pol := tr.pol, trained := tr, partnerPort := partner,
        unack := belowNext next (portOf s p).unack,
        st := if belowNext next (portOf s p).unack = [] then .active else .replay,
        replayLeft := belowNext next (portOf s p).unack, cover := (belowNext next (portOf s p).unack).length, replayRun := 0,
        ackAt := s.now, fresh := false, lastDone := some s.now } := by
  have fr : (noInit (portOf s p)).fresh = false := mine
  have tn : (noInit (portOf s p)).st = .retrain := st
  have un : (noInit (portOf s p)).unack = (portOf s p).unack := rfl
  cases h : belowNext next (portOf s p).unack <;> simp [trainedPort, fr, tn, un, h]

theorem trainedOf_of_good {lanes : Nat} {pol precode : BitVec 4} {coef : List (List (BitVec 8))} {skew : List Nat}
    (lane : lanes < 2) (close : ∀ n ∈ skew, n ≤ 32) : trainedOf lanes pol coef precode skew =
      some { reversed := decide (lanes = 1), pol := pol, coef := coef, precode := precode, skew := skew } := by
  have far : skew.any (fun n => decide (skewMax < n)) = false := by
    simp only [List.any_eq_false, decide_eq_true_eq, Nat.not_lt]
    exact close
  rw [trainedOf, if_neg (by simp [far, lane])]

theorem trainedOf_of_bad {lanes : Nat} {pol precode : BitVec 4} {coef : List (List (BitVec 8))} {skew : List Nat}
    (bad : 2 ≤ lanes ∨ ∃ n ∈ skew, 32 < n) : trainedOf lanes pol coef precode skew = none := by
  refine if_pos ?_
  rcases bad with many | ⟨n, here, far⟩
  · simp [many]
  · simp only [Bool.or_eq_true, List.any_eq_true]
    exact .inr ⟨n, here, decide_eq_true far⟩

end

theorem exec_trainingComplete (s : State) (p lanes : Nat) (pol precode : BitVec 4) (coef : List (List (BitVec 8))) (skew : List Nat) :
    exec (.trainingComplete p lanes pol coef precode skew) s =
      .next (effTrainingComplete p (trainedOf lanes pol coef precode skew) s) := rfl

/-- Settles O28: the causes of a retrain, NLK_CTRL, the end of training, and the time limits. -/
theorem linkStatesMove : Obligations.LinkStatesMove := by
  unfold Obligations.LinkStatesMove
  rintro s p _ wf rfl on
  have here := here_of_on wf on
  refine ⟨fun i hs cause live => ?_, fun w host fits => ?_, fun lanes pol precode coef skew clock => ?_,
    fun clock training late => ?_, fun clock retrain late => ?_, fun clock down auto en late => ?_⟩
  · have kept := retrainTrigger_spec here live
    rcases cause with rfl | rfl
    · have run : exec (.lossOfSignal p hs) s = .next (retrainTrigger p s) :=
        congrArg Outcome.next ((if_pos on).trans (lostSignal_of_live live hs))
      exact ⟨fun settled => ⟨_, run, kept.1 settled⟩, fun d done soon many => ⟨_, run, kept.2 d done soon many⟩⟩
    · let u : State := { s with pwr.clkLost := s.pwr.clkLost &&& ~~~(BitVec.ofNat 4 (if p < 4 then 2 else 4)) }
      have run : exec (.trainingPatternsReceived p hs) s = .next (retrainTrigger p u) :=
        congrArg Outcome.next ((if_pos on).trans (lostSignal_of_live (s := u) live hs))
      have kept := retrainTrigger_spec (s := u) here live
      exact ⟨fun settled => ⟨_, run, kept.1 settled⟩, fun d done soon many => ⟨_, run, kept.2 d done soon many⟩⟩
  · obtain ⟨retrained, trained, plain⟩ := nlkWrite_spec (w := w) here on
    refine ⟨fun live settled _ en ones => ⟨_, exec_nlkRetrain host on fits ones, retrained live settled en ones⟩,
      fun down en ones => ⟨_, exec_nlkTrain host on fits ones, trained down en ones⟩, fun train retrain => ?_⟩
    have run := exec_nlkEnable host on fits
    rw [plain train retrain] at run
    refine ⟨fun off en => ⟨_, run, ?_⟩, fun en => ⟨_, run, ?_⟩⟩
    · rw [portOf_nlkSet_true here en, if_pos off]
      exact ⟨rfl, rfl⟩
    · rw [nlkSet, en]
      exact portOf_setEnable_false (by rwa [length_setPort])
  · have runs : linkRuns s p = true := linkRuns_iff.mpr ⟨on, clock⟩
    rw [exec_trainingComplete]
    refine ⟨fun lane close sent partner next fresh init => ?_, fun waits lane close => ?_, fun bad => ?_⟩
    · have done : initDone (portOf s p) = some (partner, fresh, next) := by simp [initDone, sent, init]
      have here' (x : Port) : p < (setPort s p x).port.length := by rwa [length_setPort]
      rw [trainedOf_of_good lane close]
      refine ⟨fun st mine => ⟨_, rfl, ?_⟩, fun st mine theirs => ⟨_, rfl, ?_⟩⟩
      · rw [effTrainingComplete_of_done runs (.inl st) done]
        refine (portOf_upAgain (here' _)).trans ?_
        rw [portOf_setPort_self here, trainedPort_of_training _ _ _ _ st mine]
      · subst theirs
        rw [effTrainingComplete_of_done runs (.inr st) done]
        refine (portOf_upAgain (here' _)).trans ?_
        rw [portOf_setPort_self here, trainedPort_of_retrain _ _ _ st mine]
    · have undone : initDone (portOf s p) = none := by
        rcases waits with h | h <;> simp [initDone, h]
      rw [trainedOf_of_good lane close, effTrainingComplete_of_waiting undone]
    · rw [trainedOf_of_bad bad]
      refine ⟨fun st => congrArg Outcome.next ?_, fun st => ⟨_, rfl, ?_⟩⟩
      · rw [effTrainingComplete_of_failed runs (.inl st), if_neg (by simp [st])]
      · rw [effTrainingComplete_of_failed runs (.inr st), if_pos st, retrainFailed_st here]
  · have runs : linkRuns s p = true := linkRuns_iff.mpr ⟨on, clock⟩
    refine ⟨portDown p s, congrArg Outcome.next ?_, (portOf_portDown here).1, incoming_portDown⟩
    simp [effTrainingTimeout, runs, training, show (portOf s p).since + 500 * msNs ≤ s.now from late]
  · have runs : linkRuns s p = true := linkRuns_iff.mpr ⟨on, clock⟩
    refine ⟨retrainFailed p s, congrArg Outcome.next ?_, retrainFailed_st here⟩
    simp [effRetrainTimeout, runs, retrain, show (portOf s p).since + 10 * msNs ≤ s.now from late]
  · have runs : linkRuns s p = true := linkRuns_iff.mpr ⟨on, clock⟩
    refine congrArg Outcome.next ?_
    simp [effAutoTrain, runs, down, auto, en, show (portOf s p).since + 1000 * msNs ≤ s.now from late, startTraining]

end Sys2Proof.Machine
end

section
/-!
PROOF. What a port sends and receives: flow control, recalibration, frames, blocks (08 R189 to R201, R214 to R220).
-/
namespace Sys2Proof.Machine
open Host Claims

/-! ## NLK_FLOW (R218) -/

theorem flowWriteChecked : FlowWriteChecked := by
  rintro s p w _ _ _ rfl host on rfl rfl
  have run : exec (.nlkFlowWrite p w) s = regWrite w 4 (effNlkFlow p w) s :=
    Eq.trans (b := if !barOn s || !linkOn s p then .next s else regWrite w 4 (effNlkFlow p w) s) rfl
      (if_neg (by simp [host, on]))
  have act : effNlkFlow p w s = _ := if_neg (by simp [on])
  refine ⟨fun fits low sum => ?_, fun fits bad => ?_, fun beyond => ?_⟩
  · rw [run, regWrite_of_fits fits, act]
    exact congrArg Outcome.next (if_neg (by simp; omega))
  · rw [run, regWrite_of_fits fits, act]
    exact congrArg Outcome.next (if_pos (by simpa using bad))
  · refine ⟨decide (Config.openVal s.free % 2 = 1), ?_⟩
    rw [run, regWrite, if_pos beyond, mayBe]
    simp

/-! ## A frame leaves (R189, R197) -/

section
variable {s : State} {p : Nat}

theorem portOf_emit (o : Out) (q : Nat) : portOf (emit o s) q = portOf s q := rfl

/-- The block word leaves before the first frame of a block. -/
theorem blockStart_spec (here : p < s.port.length) (recal : Bool) :
    portOf (blockStart p recal s) p = { portOf s p with txBlock := (portOf (blockStart p recal s) p).txBlock } ∧
    (blockStart p recal s).out = s.out ++
      (if (portOf s p).txSlot = 0 then [.blockWord p ((portOf s p).txBcnt + 4096 * b2n recal)] else []) ∧
    (blockStart p recal s).port.length = s.port.length := by
  unfold blockStart
  dsimp only
  split
  · rw [portOf_emit, portOf_setPort_self here]
    exact ⟨rfl, rfl, length_setPort ..⟩
  · exact ⟨rfl, (List.append_nil _).symm, rfl⟩

/-- The fifth frame ends a block. -/
theorem blockEnd_spec (here : p < s.port.length) :
    portOf (blockEnd p s) p = { portOf s p with
      txSlot := if (portOf s p).txSlot = 4 then 0 else (portOf s p).txSlot + 1,
      txBcnt := (portOf (blockEnd p s) p).txBcnt, txBlock := (portOf (blockEnd p s) p).txBlock } ∧
    (∃ l, (blockEnd p s).out = s.out ++ (if (portOf s p).txSlot = 4 then [.lanes p l] else [])) ∧
    (blockEnd p s).port.length = s.port.length := by
  unfold blockEnd
  dsimp only
  split
  · rw [portOf_emit, portOf_setPort_self here]
    exact ⟨rfl, ⟨_, rfl⟩, length_setPort ..⟩
  · rw [portOf_setPort_self here]
    exact ⟨rfl, ⟨[], (List.append_nil _).symm⟩, length_setPort ..⟩

/-- The bytes of a frame that leaves: the port's ACK and NAK, and the XOFF bits it has just evaluated (R197, R199). -/
def frameSent (x y : Port) (ty : Nat) (vcA : Bool) (seq : Nat) (payload : Bytes) : Bytes :=
  LFrame.bytes {
    ty := ty, vcA := vcA, ackv := x.accepted, nak := x.nakDue, seq := seq,
    ack := if x.accepted then (x.e + 4095) % 4096 else 0, xoffQ := y.txoffQ, xoffA := y.txoffA, payload := payload }

/-- A port after a frame has left it, and what left with the frame. -/
theorem sendFrame_spec (here : p < s.port.length) (ty : Nat) (vcA : Bool) (seq : Nat) (payload : Bytes) (recal : Bool) {y : Port}
    (left : y = portOf (sendFrame p ty vcA seq payload recal s) p) :
    y = { portOf s p with
      txoffQ := y.txoffQ, txoffA := y.txoffA, nakDue := false, nakAt := y.nakAt,
      txSlot := if (portOf s p).txSlot = 4 then 0 else (portOf s p).txSlot + 1, txBcnt := y.txBcnt, txBlock := y.txBlock } ∧
    (∃ l, (sendFrame p ty vcA seq payload recal s).out = s.out ++
      (if (portOf s p).txSlot = 0 then [.blockWord p ((portOf s p).txBcnt + 4096 * b2n recal)] else []) ++
      [.frame p (frameSent (portOf s p) y ty vcA seq payload)] ++ (if (portOf s p).txSlot = 4 then [.lanes p l] else [])) ∧
    (sendFrame p ty vcA seq payload recal s).port.length = s.port.length := by
  subst left
  unfold sendFrame
  extract_lets started x f
  have here1 : p < (xoffEval p s).port.length := by rwa [xoffEval, length_setPort]
  obtain ⟨port2, out2, len2⟩ := blockStart_spec here1 recal
  have port1 : portOf (xoffEval p s) p = { portOf s p with
      txoffQ := xoffNext s p false (portOf s p).txoffQ, txoffA := xoffNext s p true (portOf s p).txoffA } := portOf_setPort_self here _
  have here2 : p < started.port.length := by rwa [len2]
  have len1 : (xoffEval p s).port.length = s.port.length := length_setPort ..
  generalize hu : emit (.frame p f.bytes) _ = u
  have port3 : portOf u p = { x with
      nakDue := false, nakAt := if x.nakDue then started.now else x.nakAt, txBlock := x.txBlock ++ f.bytes } := by
    rw [← hu]
    exact portOf_setPort_self here2 _
  have here3 : p < u.port.length := by
    rw [← hu]
    exact (length_setPort ..).symm ▸ here2
  obtain ⟨port4, ⟨l, out4⟩, len4⟩ := blockEnd_spec here3
  have hx : x = { portOf s p with txoffQ := x.txoffQ, txoffA := x.txoffA, txBlock := x.txBlock } := by
    rw [port1] at port2
    have offQ := congrArg Port.txoffQ port2
    have offA := congrArg Port.txoffA port2
    rw [show x.txoffQ = _ from offQ, show x.txoffA = _ from offA]
    exact port2
  have hu3 : portOf u p = { portOf s p with
      txoffQ := x.txoffQ, txoffA := x.txoffA, nakDue := false, nakAt := (portOf u p).nakAt, txBlock := (portOf u p).txBlock } := by
    rw [port3]
    exact congrArg (fun y : Port => { y with nakDue := false, nakAt := if x.nakDue then started.now else x.nakAt, txBlock := x.txBlock ++ f.bytes }) hx
  have slot : (portOf u p).txSlot = (portOf s p).txSlot := (congrArg Port.txSlot hu3 :)
  have offQ : (portOf (blockEnd p u) p).txoffQ = x.txoffQ := (congrArg Port.txoffQ port4 :).trans (congrArg Port.txoffQ hu3 :)
  have offA : (portOf (blockEnd p u) p).txoffA = x.txoffA := (congrArg Port.txoffA port4 :).trans (congrArg Port.txoffA hu3 :)
  have at4 : (portOf (blockEnd p u) p).nakAt = (portOf u p).nakAt := (congrArg Port.nakAt port4 :)
  have out3 : u.out = started.out ++ [.frame p f.bytes] := by rw [← hu]; rfl
  have sent : f.bytes = frameSent (portOf s p) (portOf (blockEnd p u) p) ty vcA seq payload := by
    rw [frameSent, offQ, offA, ← congrArg Port.accepted hx, ← congrArg Port.nakDue hx, ← congrArg Port.e hx]
  refine ⟨?_, ⟨l, ?_⟩, ?_⟩
  · rw [offQ, offA, at4, ← slot]
    exact port4.trans (congrArg (fun y : Port => { y with
      txSlot := if (portOf u p).txSlot = 4 then 0 else (portOf u p).txSlot + 1,
      txBcnt := (portOf (blockEnd p u) p).txBcnt, txBlock := (portOf (blockEnd p u) p).txBlock }) hu3)
  · rw [out4, slot, out3, sent, out2, port1]
    rfl
  · rw [len4, ← hu]
    exact (length_setPort ..).trans (len2.trans len1)

end

/-! ## Recalibration (R219, R220) -/

section
variable {s t u : State} {p : Nat}

/-- What frame slots leave of a port's recalibration and of its place in the block. -/
def Prepared (p : Nat) (s t : State) : Prop :=
  (portOf t p).txSlot = (portOf s p).txSlot ∧ (portOf t p).recalForced = (portOf s p).recalForced ∧ t.port.length = s.port.length

theorem Prepared.trans (a : Prepared p s t) (b : Prepared p t u) : Prepared p s u :=
  ⟨b.1.trans a.1, b.2.1.trans a.2.1, b.2.2.trans a.2.2⟩

theorem Prepared.setPort (here : p < s.port.length) {x : Port} (slot : x.txSlot = (portOf s p).txSlot)
    (forced : x.recalForced = (portOf s p).recalForced) : Prepared p s (setPort s p x) := by
  rw [Prepared, portOf_setPort_self here, length_setPort]
  exact ⟨slot, forced, rfl⟩

theorem prepared_refill (here : p < s.port.length) (vcA : Bool) : Prepared p s (refill p vcA s) := by
  unfold refill
  dsimp only
  split
  · split
    · exact ⟨rfl, rfl, rfl⟩
    · exact .setPort here rfl rfl
  · split
    · exact ⟨rfl, rfl, rfl⟩
    · exact .setPort here rfl rfl

/-- A frame slot puts one frame out, whatever it takes the frame from (R214). -/
theorem slotFrame_sends (here : p < s.port.length) (recal : Bool) :
    ∃ u ty vcA seq payload, slotFrame p recal s = sendFrame p ty vcA seq payload recal u ∧ Prepared p s u := by
  have data (v : State) (pre : Prepared p s v) (f : DFrame) (x : Port) (slot : x.txSlot = (portOf v p).txSlot)
      (forced : x.recalForced = (portOf v p).recalForced) :
      ∃ u ty vcA seq payload, sendData p f recal (setPort v p x) = sendFrame p ty vcA seq payload recal u ∧ Prepared p s u := by
    have here' : p < v.port.length := pre.2.2 ▸ here
    have here2 : p < (setPort v p x).port.length := by rwa [length_setPort]
    exact ⟨_, _, _, _, _, rfl, (pre.trans (.setPort here' slot forced)).trans (.setPort here2 rfl rfl)⟩
  have filled (c : Bool) (vcA : Bool) (v : State) (pre : Prepared p s v) : Prepared p s (if c then refill p vcA v else v) := by
    split
    · exact pre.trans (prepared_refill (pre.2.2 ▸ here) vcA)
    · exact pre
  have ready : Prepared p s s := ⟨rfl, rfl, rfl⟩
  unfold slotFrame
  dsimp only
  split
  · exact ⟨_, _, _, _, _, rfl, .setPort here rfl rfl⟩
  · split
    · exact ⟨_, _, _, _, _, rfl, .setPort here rfl rfl⟩
    · split
      · exact data _ (filled _ _ _ (filled _ _ _ ready)) _ _ rfl rfl
      · split
        · exact data _ (filled _ _ _ (filled _ _ _ ready)) _ _ rfl rfl
        · exact ⟨_, _, _, _, _, rfl, filled _ _ _ (filled _ _ _ ready)⟩

theorem slotFrame_spec (here : p < s.port.length) (recal : Bool) :
    (portOf (slotFrame p recal s) p).txSlot = (if (portOf s p).txSlot = 4 then 0 else (portOf s p).txSlot + 1) ∧
    (portOf (slotFrame p recal s) p).recalForced = (portOf s p).recalForced ∧
    (slotFrame p recal s).port.length = s.port.length := by
  obtain ⟨u, ty, vcA, seq, payload, sends, slot, forced, len⟩ := slotFrame_sends here recal
  obtain ⟨left, -, len'⟩ := sendFrame_spec (s := u) (len ▸ here) ty vcA seq payload recal rfl
  rw [sends, ← slot, ← forced, ← len]
  exact ⟨(congrArg Port.txSlot left :), (congrArg Port.recalForced left :), len'⟩

/-- Frame slots move a port on in its block of five (R189). -/
theorem fillBlock_spec (recal : Bool) (n : Nat) (s : State) (here : p < s.port.length) (slot : (portOf s p).txSlot < 5) :
    (portOf (fillBlock p recal n s) p).txSlot = ((portOf s p).txSlot + n) % 5 ∧
    (portOf (fillBlock p recal n s) p).recalForced = (portOf s p).recalForced ∧
    (fillBlock p recal n s).port.length = s.port.length := by
  induction n generalizing s with
  | zero => exact ⟨(Nat.mod_eq_of_lt slot).symm, rfl, rfl⟩
  | succ n ih =>
    obtain ⟨next, forced, len⟩ := slotFrame_spec here recal
    have inside : (portOf (slotFrame p recal s) p).txSlot < 5 := by rw [next]; split <;> omega
    obtain ⟨last, forced', len'⟩ := ih (slotFrame p recal s) (len ▸ here) inside
    refine ⟨?_, forced'.trans forced, len'.trans len⟩
    rw [fillBlock, last, next]
    split <;> omega

end

theorem recalibrationActs : RecalibrationActs := by
  rintro s p _ wf rfl runs
  have here := here_of_on wf (linkRuns_iff.mp runs).1
  refine ⟨fun active untaken closed due slot => ?_, fun a opened late => congrArg Outcome.next ?_,
    fun late => congrArg Outcome.next ?_⟩
  · have taken : ¬(!linkRuns s p || (portOf s p).st ≠ .active || (portOf s p).recalTaken || (portOf s p).recalWin.isSome ||
        !((portOf s p).recalForce || portIdle (portOf s p))) = true := by
      rcases due with h | h <;> simp [runs, active, untaken, closed, h]
    obtain ⟨slot1, forced1, len1⟩ := fillBlock_spec false ((5 - (portOf s p).txSlot) % 5) s here slot
    obtain ⟨slot2, forced2, len2⟩ := fillBlock_spec true 5 (fillBlock p false ((5 - (portOf s p).txSlot) % 5) s)
      (len1 ▸ here) (by omega)
    have now : (fillBlock p true 5 (fillBlock p false ((5 - (portOf s p).txSlot) % 5) s)).now = s.now :=
      ((within_fillBlock ..).keeps (·.now) fun _ => rfl).trans ((within_fillBlock ..).keeps (·.now) fun _ => rfl)
    refine ⟨_, congrArg Outcome.next (if_neg taken), List.getLast?_concat .., ?_⟩
    generalize fillBlock p true 5 (fillBlock p false ((5 - (portOf s p).txSlot) % 5) s) = u at slot2 forced2 len2 now
    rw [portOf_emit, portOf_setPort_self (by omega), now]
    refine ⟨rfl, rfl, rfl, ?_, ?_⟩
    · exact slot2.trans (by omega)
    · rw [forced2, forced1]
  · simp [effRecalEnd, opened, runs, late]
  · unfold effRecalPeriod
    rw [if_neg (by simp [runs, show (portOf s p).recalAt + 100 * msNs ≤ s.now from late])]

/-- Settles O29: a write of NLK_FLOW by its check, a recalibration by its window and its period. -/
theorem flowAndRecalibrationAct : Obligations.FlowAndRecalibrationAct := ⟨flowWriteChecked, recalibrationActs⟩

end Sys2Proof.Machine
end

section
/-!
PROOF. FEC blocks and link frames at a port's receiver, frame slots at its transmitter (08 R189 to R201, R207, R214).
-/
namespace Sys2Proof.Machine
open Host Claims

/-! ## A block is received (R189 to R191) -/

section
variable {s : State} {p : Nat}

/-- The port once a block is taken in. -/
def blockTaken (x : Port) (blk : Bytes) (corr : Nat) (u0 u1 : Bool) : Port :=
  { x with
    bcnt := some (bitsAt blk 0 0 12),
    badBlk := if (match x.bcnt with
      | some b => decide (bitsAt blk 0 0 12 ≠ (b + 1) % 4096)
      | none => false) then x.badBlk + 1 else 0,
    badCw := if u1 then (if u0 then x.badCw + 1 else 0) + 1 else 0,
    fecCorr := BitVec.ofNat 32 (satAdd 32 x.fecCorr.toNat corr),
    fecUncorr := BitVec.ofNat 32 (satAdd 32 x.fecUncorr.toNat (b2n u0 + b2n u1)),
    inFrames := x.inFrames ++ (List.range 5).map (fun i =>
      (sliceB blk (5 + 256 * i) 256, (u0 && decide (i ≤ 2)) || (u1 && decide (2 ≤ i)))) }

/-- A live port takes a block in; the third bad block or the fourth bad codeword in a row is a cause for a retrain (R191, R203). -/
theorem effFecBlock_eq (runs : linkRuns s p = true) (live : (portOf s p).st = .active) {lanes : List (List (BitVec 10))} {skew : Nat}
    {blk : Bytes} {corr : Nat} {u0 u1 : Bool} (received : blockReceived lanes (decide (skew ≤ 32)) = (blk, corr, u0, u1)) :
    effFecBlock p lanes skew s =
      if 3 ≤ (blockTaken (portOf s p) blk corr u0 u1).badBlk || 4 ≤ (if u0 then (portOf s p).badCw + 1 else 0) ||
        4 ≤ (blockTaken (portOf s p) blk corr u0 u1).badCw
      then lostSignal p true (setPort s p (blockTaken (portOf s p) blk corr u0 u1))
      else setPort s p (blockTaken (portOf s p) blk corr u0 u1) := by
  unfold effFecBlock
  dsimp only
  rw [if_neg (by simp [runs, live]), show skewMax = 32 from rfl, received]
  rfl

/-! ## A frame is received (R199 to R201, R207) -/

theorem map_lset_of_same {β γ : Type} (f : β → γ) (d : β) (l : List β) (i : Nat) (v : β) (same : f v = f (lget d l i)) :
    (lset l i v).map f = l.map f := by
  induction l generalizing i with
  | nil => rfl
  | cons x r ih =>
    cases i with
    | zero => simp [lset, show f v = f x from same]
    | succ i => simp [lset, ih i same]

/-- A change of a port that leaves its buffers leaves every occupancy. -/
theorem occupancy_setPort (here : p < s.port.length) {x : Port} (rxA : x.rxA = (portOf s p).rxA) (rxQ : x.rxQ = (portOf s p).rxQ)
    (outA : x.outA = (portOf s p).outA) (outQ : x.outQ = (portOf s p).outQ) (txA : x.txA = (portOf s p).txA)
    (txQ : x.txQ = (portOf s p).txQ) (vcA : Bool) : occupancy (setPort s p x) p vcA = occupancy s p vcA := by
  unfold occupancy
  rw [portOf_setPort_self here, setPort_port, map_lset_of_same _ {} s.port p x (by simp only [outA, outQ, txA, txQ]; rfl)]
  simp only [rxA, rxQ]

/-- The frame a live port checks next, when it is not marked. -/
theorem effFrameReceive_of_live (runs : linkRuns s p = true) (here : p < s.port.length)
    (live : (portOf s p).st = .active) {b : Bytes} {rest : List (Bytes × Bool)} (next : (portOf s p).inFrames = (b, false) :: rest) :
    effFrameReceive p s =
      if frameCrcOk b = false then
        rxError p (setPort s p { portOf s p with inFrames := rest, crcErr := inc32b (portOf s p).crcErr })
      else if !frameProtoOk b || (decide ((parseFrame b).ty = 4) && !cairnOk (parseFrame b).payload) then
        setPort s p { portOf s p with inFrames := rest, protoErr := inc32b (portOf s p).protoErr }
      else rxGood p (parseFrame b) (setPort s p { portOf s p with inFrames := rest }) := by
  have set (x : Port) : portOf (setPort s p x) p = x := portOf_setPort_self here x
  unfold effFrameReceive
  simp only [next, runs, live, set, setPort_setPort, Bool.not_true, Bool.false_eq_true, if_false, reduceCtorEq, or_self,
    decide_true, Bool.true_or, Bool.not_eq_true']

/-- The training handshake counts a good INIT and nothing else (R207, R209). -/
theorem effFrameReceive_of_init (runs : linkRuns s p = true) (here : p < s.port.length)
    (trains : (portOf s p).st = .training ∨ (portOf s p).st = .retrain) {b : Bytes} {rest : List (Bytes × Bool)}
    (next : (portOf s p).inFrames = (b, false) :: rest) (crc : frameCrcOk b = true) (proto : frameProtoOk b = true)
    (ty : (parseFrame b).ty = 3) :
    effFrameReceive p s = setPort s p { portOf s p with
      inFrames := rest, initRx := some (bitsAt (sliceB b 8 16) 1 0 3, decide (bitsAt (sliceB b 8 16) 2 0 1 = 1),
        bitsAt (sliceB b 8 16) 4 0 12) } := by
  have set (x : Port) : portOf (setPort s p x) p = x := portOf_setPort_self here x
  have long : byteAt b 5 = 16 := by
    have ty' : bitsAt b 0 0 4 = 3 := ty
    simp only [frameProtoOk, ty', Bool.and_eq_true, decide_eq_true_eq] at proto
    exact proto.2
  have payload : (parseFrame b).payload = sliceB b 8 16 := by rw [parseFrame, long]; rfl
  unfold effFrameReceive
  dsimp only
  simp only [next, runs, trains, crc, proto, ty, set, setPort_setPort, rxInit, payload, Bool.not_true, Bool.not_false,
    Bool.false_eq_true, if_false, if_true, decide_true, Bool.and_self]

/-- A frame without a NAK leaves what its ACK and its content give (R199). -/
theorem rxGood_of_plain (f : LFrame) (ack : f.ackv = false) (nak : f.nak = false) : rxGood p f s =
    (let t := setPort s p { portOf s p with rxoffQ := f.xoffQ, rxoffA := f.xoffA }
    if f.ty = 1 then rxData p f t
    else if f.ty = 4 then setPort t p { portOf t p with cairnIn := (portOf t p).cairnIn ++ [f.payload] }
    else t) := by
  simp [rxGood, ack, nak]

/-- A DATA frame in sequence is accepted where its buffer has room (R199, R213). -/
theorem rxData_of_next (f : LFrame) (seq : f.seq = (portOf s p).e) (room : occupancy s p f.vcA < 3072) : rxData p f s =
    setPort s p { portOf s p with
      e := ((portOf s p).e + 1) % 4096, accepted := true, errSt := false,
      rxQ := if f.vcA then (portOf s p).rxQ else
        (portOf s p).rxQ ++ [{ seq := f.seq, vcA := f.vcA, first := false, data := f.payload }],
      rxA := if f.vcA then
        (portOf s p).rxA ++ [{ seq := f.seq, vcA := f.vcA, first := false, data := f.payload }] else (portOf s p).rxA } := by
  unfold rxData
  dsimp only
  rw [if_pos seq, if_neg (show ¬rxFrames ≤ _ from Nat.not_le.mpr room)]

theorem rxError_of_first (first : (portOf s p).errSt = false) :
    rxError p s = setPort s p { portOf s p with errSt := true, nakDue := true } := by
  simp [rxError, first]

/-- An ACK clears the frames up to the one it names (R198). -/
theorem ackFrames_of_found {a i : Nat} (live : (portOf s p).st = .active)
    (found : (portOf s p).unack.findIdx? (fun g => decide (g.seq = a)) = some i) : ackFrames p a s =
    setPort s p { portOf s p with
      unack := (portOf s p).unack.drop (i + 1), cover := (portOf s p).cover - (i + 1), replayRun := 0, ackAt := s.now,
      replayLeft := (portOf s p).replayLeft.filter
        (fun f => ((portOf s p).unack.drop (i + 1)).any (fun g => decide (g.seq = f.seq))) } := by
  unfold ackFrames
  simp only [found, live]
  rfl

/-- A replay that REPLAY_MAX allows sends every unacknowledged frame again (R201, R202). -/
theorem startReplay_of_allowed (allowed : (portOf s p).replayRun < replayMaxOf (portOf s p)) : startReplay p s =
    setPort s p { portOf s p with
      st := .replay, replayLeft := (portOf s p).unack, cover := (portOf s p).unack.length,
      replayRun := (portOf s p).replayRun + 1, replays := inc32b (portOf s p).replays, ackAt := s.now } :=
  if_neg (Nat.not_le.mpr allowed)

end

theorem linkReceiverActs : LinkReceiverActs := by
  rintro s p _ wf rfl runs
  have here := here_of_on wf (linkRuns_iff.mp runs).1
  have set (x : Port) : portOf (setPort s p x) p = x := portOf_setPort_self here x
  have here' (x : Port) : p < (setPort s p x).port.length := by rwa [length_setPort]
  refine ⟨fun l0 l1 l2 l3 skew corr blk u0 u1 live received => ?_, fun b rest f live next hf => ?_,
    fun b rest trains next crc proto ty => congrArg Outcome.next (effFrameReceive_of_init runs here trains next crc proto ty)⟩
  · have run : exec (.fecBlockReceive p l0 l1 l2 l3 skew) s = .next (effFecBlock p [l0, l1, l2, l3] skew s) := rfl
    rw [run, effFecBlock_eq runs live received]
    refine ⟨fun good1 few inStep => ?_, fun bad0 bad1 fresh few => ?_, fun b counted skipped third settled => ?_⟩
    · subst good1
      have step : (match (portOf s p).bcnt with
          | some b => decide (bitsAt blk 0 0 12 ≠ (b + 1) % 4096)
          | none => false) = false := by
        rcases inStep with h | h
        · rw [h]
        · obtain ⟨b, hb, same⟩ := Option.map_eq_some_iff.mp h
          simp [hb, same]
      have calm : ¬4 ≤ (if u0 = true then (portOf s p).badCw + 1 else 0) := by
        split
        · have := few ‹_›; omega
        · omega
      have taken : blockTaken (portOf s p) blk corr u0 false = { portOf s p with
          bcnt := some (bitsAt blk 0 0 12), badBlk := 0, badCw := 0,
          fecCorr := BitVec.ofNat 32 (min ((portOf s p).fecCorr.toNat + corr) (2 ^ 32 - 1)),
          fecUncorr := BitVec.ofNat 32 (min ((portOf s p).fecUncorr.toNat + b2n u0) (2 ^ 32 - 1)),
          inFrames := (portOf s p).inFrames ++
            (List.range 5).map (fun i => (sliceB blk (5 + 256 * i) 256, u0 && decide (i ≤ 2))) } := by
        rw [blockTaken, step]
        simp [satAdd, b2n]
      rw [taken, if_neg (by simpa using calm)]
    · subst bad0 bad1
      have taken : blockTaken (portOf s p) blk corr true true = { blockTaken (portOf s p) blk corr true true with
          badBlk := 0, badCw := (portOf s p).badCw + 2 } := by simp [blockTaken, fresh]
      have badBlk := congrArg Port.badBlk taken
      have badCw := congrArg Port.badCw taken
      rw [if_neg (by simp [badBlk, badCw]; omega)]
      refine ⟨_, rfl, ?_, ?_⟩
      · rw [set]; exact badCw
      · rw [set]
        have marked : ∀ i : Nat, ((true && decide (i ≤ 2)) || (true && decide (2 ≤ i))) = true := fun i => by
          simp only [Bool.true_and, Bool.or_eq_true, decide_eq_true_eq]; omega
        simp only [blockTaken, marked]
    · have badBlk : (blockTaken (portOf s p) blk corr u0 u1).badBlk = 3 := by
        simp [blockTaken, counted, Ne.symm skipped, third]
      rw [if_pos (by simp [badBlk])]
      have live' : (portOf (setPort s p (blockTaken (portOf s p) blk corr u0 u1)) p).st = .active := by rw [set]; exact live
      have settled' : (portOf (setPort s p (blockTaken (portOf s p) blk corr u0 u1)) p).lastDone = none := by rw [set]; exact settled
      refine ⟨_, rfl, ?_⟩
      rw [lostSignal_of_live (.inl live') true]
      obtain ⟨st, retrains, -⟩ := (retrainTrigger_spec (here' _) (.inl live')).1 settled'
      refine ⟨st, ?_⟩
      rw [retrains, set]
      rfl
  · subst hf
    have run : exec (.linkFrameReceive p) s = .next (effFrameReceive p s) := rfl
    rw [run, effFrameReceive_of_live runs here live next]
    have good : frameCrcOk b = true → frameProtoOk b = true →
        ((parseFrame b).ty = 4 → cairnOk (parseFrame b).payload = true) →
        (if frameCrcOk b = false then
          rxError p (setPort s p { portOf s p with inFrames := rest, crcErr := inc32b (portOf s p).crcErr })
        else if !frameProtoOk b || (decide ((parseFrame b).ty = 4) && !cairnOk (parseFrame b).payload) then
          setPort s p { portOf s p with inFrames := rest, protoErr := inc32b (portOf s p).protoErr }
        else rxGood p (parseFrame b) (setPort s p { portOf s p with inFrames := rest })) =
          rxGood p (parseFrame b) (setPort s p { portOf s p with inFrames := rest }) := fun crc proto cairn => by
      rw [if_neg (by simp [crc]), if_neg (by simpa [proto] using cairn)]
    refine ⟨fun crc first => ?_, fun crc proto ty ack nak seq room => ?_, fun crc proto ty cairn => ?_,
      fun crc proto ty cairn ack nak => ?_, fun i crc proto ty ack nak found => ?_, fun crc proto ty ack nak some allowed => ?_⟩
    · rw [if_pos crc, rxError_of_first (by rw [set]; exact first), set, setPort_setPort]
    · rw [good crc proto (by simp [ty]), rxGood_of_plain _ ack nak]
      simp only [ty, set, setPort_setPort, if_true]
      rw [rxData_of_next _ (by rw [set]; exact seq) (lt_of_eq_of_lt (occupancy_setPort here (by rfl) (by rfl) (by rfl) (by rfl) (by rfl) (by rfl) _) room), set,
        setPort_setPort]
    · rw [if_neg (by simp [crc]), if_pos (by simp [ty, cairn])]
    · rw [good crc proto fun _ => cairn, rxGood_of_plain _ ack nak]
      simp [ty, set, setPort_setPort]
    · rw [good crc proto (by simp [ty])]
      refine ⟨_, rfl, ?_⟩
      simp only [rxGood, ack, nak, ty, set, setPort_setPort, if_true, Bool.false_and, Bool.false_eq_true, if_false, Nat.reduceEqDiff]
      rw [ackFrames_of_found (by rw [set]; exact live) (by rw [set]; exact found), setPort_setPort, set, set]
      exact ⟨rfl, rfl, rfl, live⟩
    · rw [good crc proto (by simp [ty])]
      refine ⟨_, rfl, ?_⟩
      have waits : (portOf s p).unack.isEmpty = false := by simp [some]
      simp only [rxGood, ack, nak, ty, set, setPort_setPort, Bool.false_eq_true, if_false, Nat.reduceEqDiff, waits, Bool.not_false,
        Bool.and_self, if_true]
      rw [startReplay_of_allowed (by rw [set]; exact allowed), setPort_setPort, set, set]
      exact ⟨rfl, rfl, rfl, rfl⟩

/-! ## A frame slot (R201, R207, R214) -/

section
variable {s : State} {p : Nat}

theorem effFrameTransmit_of_live (runs : linkRuns s p = true) (closed : (portOf s p).recalWin = none)
    (live : (portOf s p).st = .active ∨ (portOf s p).st = .replay) : effFrameTransmit p s = slotFrame p false s := by
  unfold effFrameTransmit
  dsimp only
  rw [if_neg (by simp [runs, closed]), if_pos live]

theorem effFrameTransmit_of_training (runs : linkRuns s p = true) (closed : (portOf s p).recalWin = none)
    (trains : (portOf s p).st = .training ∨ (portOf s p).st = .retrain) : effFrameTransmit p s = initSlot p s := by
  unfold effFrameTransmit
  dsimp only
  rw [if_neg (by simp [runs, closed]), if_neg (by rcases trains with h | h <;> simp [h]), if_pos trains]

/-- A frame to replay goes first (R201). -/
theorem slotFrame_of_replay {f : DFrame} {r : List DFrame} (next : (portOf s p).replayLeft = f :: r) :
    slotFrame p false s = sendFrame p 1 f.vcA f.seq f.data false (setPort s p { portOf s p with replayLeft := r }) := by
  simp only [slotFrame, next]

theorem cairnDue_of_nil (none_waits : (portOf s p).cairnOut = []) : cairnDue s (portOf s p) = none := by
  simp [cairnDue, none_waits]

/-- A VC with a frame waiting is not filled from its segments (10 R271). -/
theorem refill_true_of_waiting {f : DFrame} {r : List DFrame} (waits : (portOf s p).txA = f :: r) : refill p true s = s := by
  simp [refill, waits]

theorem refill_false_of_waiting {f : DFrame} {r : List DFrame} (waits : (portOf s p).txQ = f :: r) : refill p false s = s := by
  simp [refill, waits]

/-- The filling of VC-Q leaves what VC-A and the replay buffer hold. -/
theorem refill_false_keeps (here : p < s.port.length) :
    (portOf (refill p false s) p).txA = (portOf s p).txA ∧ (portOf (refill p false s) p).unack = (portOf s p).unack ∧
    (portOf (refill p false s) p).txSeq = (portOf s p).txSeq ∧ (portOf (refill p false s) p).rxoffA = (portOf s p).rxoffA ∧
    (refill p false s).port.length = s.port.length := by
  unfold refill
  dsimp only
  simp only [Bool.false_eq_true, if_false]
  split
  · exact ⟨rfl, rfl, rfl, rfl, rfl⟩
  · rw [portOf_setPort_self here, length_setPort]
    exact ⟨rfl, rfl, rfl, rfl, rfl⟩

section
variable (idle : (portOf s p).replayLeft = []) (noCairn : (portOf s p).cairnOut = []) (room : (portOf s p).unack.length < 2048)
include idle noCairn room

/-- VC-A goes before VC-Q (R214). -/
theorem slotFrame_of_vcA (here : p < s.port.length) {f : DFrame} {r : List DFrame} (go : (portOf s p).rxoffA = false)
    (next : (portOf s p).txA = f :: r) :
    ∃ u, slotFrame p false s = sendData p f false (setPort u p { portOf u p with txA := r }) ∧ p < u.port.length ∧
      (portOf u p).unack = (portOf s p).unack ∧ (portOf u p).txSeq = (portOf s p).txSeq := by
  refine ⟨if !(portOf s p).rxoffQ then refill p false s else s, ?_, ?_⟩
  · have waits : (portOf (if !(portOf s p).rxoffQ then refill p false s else s) p).txA = f :: r := by
      split
      · rw [(refill_false_keeps here).1, next]
      · exact next
    have goes : (portOf (if !(portOf s p).rxoffQ then refill p false s else s) p).rxoffA = false := by
      split
      · rw [(refill_false_keeps here).2.2.2.1, go]
      · exact go
    simp only [slotFrame, idle, cairnDue_of_nil noCairn, decide_eq_true room, go, Bool.not_false, Bool.and_self, if_true,
      refill_true_of_waiting next, Bool.true_and, waits, goes]
  · split
    · obtain ⟨-, unack, seq, -, len⟩ := refill_false_keeps here
      exact ⟨by omega, unack, seq⟩
    · exact ⟨here, rfl, rfl⟩

theorem slotFrame_of_vcQ {f : DFrame} {r : List DFrame} (stopped : (portOf s p).rxoffA = true) (go : (portOf s p).rxoffQ = false)
    (next : (portOf s p).txQ = f :: r) :
    slotFrame p false s = sendData p f false (setPort s p { portOf s p with txQ := r }) := by
  simp only [slotFrame, idle, cairnDue_of_nil noCairn, decide_eq_true room, go, stopped, Bool.not_false, Bool.not_true,
    Bool.and_false, Bool.and_self, if_true, Bool.false_eq_true, if_false, refill_false_of_waiting next, next]

end

theorem initSlot_of_due (due : initDue s (portOf s p) = true) : initSlot p s =
    sendFrame p 3 false 0 (initPayload p (portOf s p)) false (setPort s p { portOf s p with
      initAt := some s.now,
      initsLeft := if (portOf s p).initRx.isSome then (portOf s p).initsLeft - 1 else (portOf s p).initsLeft }) :=
  if_pos due

/-- What leaves with a frame of the port `x`, where preparing the frame left what the frame carries. -/
theorem frameLeaves_of_sendFrame {u t : State} {x y : Port} (here : p < u.port.length) {ty seq : Nat} {vcA : Bool} {payload : Bytes}
    (sends : t = sendFrame p ty vcA seq payload false u) (left : y = portOf t p) (out : u.out = s.out)
    (slot : (portOf u p).txSlot = x.txSlot) (bcnt : (portOf u p).txBcnt = x.txBcnt) (ack : (portOf u p).accepted = x.accepted)
    (nak : (portOf u p).nakDue = x.nakDue) (e : (portOf u p).e = x.e) :
    frameLeaves s t p x (frameSent x y ty vcA seq payload) := by
  subst left sends
  obtain ⟨-, ⟨l, sent⟩, -⟩ := sendFrame_spec here ty vcA seq payload false rfl
  refine ⟨l, ?_⟩
  rw [sent, out, slot, bcnt, frameSent, frameSent, ack, nak, e]
  rfl

/-- A new DATA frame leaves with the next SEQ and joins the replay buffer (R198). -/
theorem sendData_spec (here : p < s.port.length) (f : DFrame) {y : Port} (left : y = portOf (sendData p f false s) p) :
    y.unack = (portOf s p).unack ++ [{ f with seq := (portOf s p).txSeq, src := 8 }] ∧
    y.txSeq = ((portOf s p).txSeq + 1) % 4096 ∧ y.txA = (portOf s p).txA ∧ y.txQ = (portOf s p).txQ ∧
    frameLeaves s (sendData p f false s) p (portOf s p) (frameSent (portOf s p) y 1 f.vcA (portOf s p).txSeq f.data) := by
  unfold sendData at left
  extract_lets x g u at left
  have port : portOf u p = _ := portOf_setPort_self here _
  have here' : p < u.port.length := (length_setPort ..).symm ▸ here
  obtain ⟨sent, -, -⟩ := sendFrame_spec here' 1 f.vcA g.seq f.data false left
  rw [port] at sent
  refine ⟨(congrArg Port.unack sent :), (congrArg Port.txSeq sent :), (congrArg Port.txA sent :), (congrArg Port.txQ sent :), ?_⟩
  refine frameLeaves_of_sendFrame here' rfl left rfl ?_ ?_ ?_ ?_ ?_ <;> rw [port]

end

/-- The oldest unacknowledged frame's timeout starts a replay, a NAK being due again or not (R199, R201). -/
theorem effReplayTimeout_of_due {s : State} {p : Nat} (runs : linkRuns s p = true) (here : p < s.port.length)
    (live : (portOf s p).st = .active) (some : (portOf s p).unack ≠ [])
    (late : (portOf s p).ackAt + replayToNs (portOf s p) ≤ s.now) :
    ∃ u, effReplayTimeout p s = startReplay p u ∧ p < u.port.length ∧ (portOf u p).unack = (portOf s p).unack ∧
      (portOf u p).replayRun = (portOf s p).replayRun ∧ (portOf u p).replays = (portOf s p).replays ∧
      replayMaxOf (portOf u p) = replayMaxOf (portOf s p) := by
  have nonempty : (portOf s p).unack.isEmpty = false := by simp [some]
  unfold effReplayTimeout
  dsimp only
  rw [if_neg (by simp [runs, live]), if_pos (by
    simp only [nonempty, Bool.not_false, Bool.true_and, decide_eq_true_eq]
    split <;> exact late)]
  refine ⟨_, rfl, ?_⟩
  split
  · rw [portOf_setPort_self here, length_setPort]
    exact ⟨here, rfl, rfl, rfl, rfl⟩
  · exact ⟨here, rfl, rfl, rfl, rfl⟩

theorem linkTransmitterActs : LinkTransmitterActs := by
  rintro s p _ wf rfl runs
  have here := here_of_on wf (linkRuns_iff.mp runs).1
  have set (x : Port) : portOf (setPort s p x) p = x := portOf_setPort_self here x
  have here' (x : Port) : p < (setPort s p x).port.length := by rwa [length_setPort]
  have run : exec (.linkFrameTransmit p) s = .next (effFrameTransmit p s) := rfl
  rw [run]
  refine ⟨fun f r closed replay next => ?_, fun f r closed live idle noCairn room go next => ?_,
    fun f r closed live idle noCairn room stopped go next => ?_, fun closed trains due => ?_,
    fun live some late allowed => ?_⟩
  · rw [effFrameTransmit_of_live runs closed (.inr replay), slotFrame_of_replay next]
    refine ⟨_, rfl, ?_⟩
    obtain ⟨sent, -, -⟩ := sendFrame_spec (here' { portOf s p with replayLeft := r }) 1 f.vcA f.seq f.data false rfl
    rw [set] at sent
    refine ⟨(congrArg Port.replayLeft sent :), (congrArg Port.unack sent :), ?_⟩
    refine frameLeaves_of_sendFrame (here' { portOf s p with replayLeft := r }) rfl rfl rfl ?_ ?_ ?_ ?_ ?_ <;> rw [set]
  · rw [effFrameTransmit_of_live runs closed (.inl live)]
    obtain ⟨u, sends, hereU, unack, seq⟩ := slotFrame_of_vcA idle noCairn room here go next
    rw [sends]
    refine ⟨_, rfl, ?_⟩
    obtain ⟨unack', seq', txA, -, -⟩ := sendData_spec (s := setPort u p { portOf u p with txA := r })
      (by rwa [length_setPort]) f rfl
    rw [portOf_setPort_self hereU] at unack' seq' txA
    rw [unack', seq', txA, unack, seq]
    exact ⟨rfl, rfl, rfl⟩
  · rw [effFrameTransmit_of_live runs closed (.inl live), slotFrame_of_vcQ idle noCairn room stopped go next]
    refine ⟨_, rfl, ?_⟩
    obtain ⟨unack, seq, -, txQ, leaves⟩ := sendData_spec (here' { portOf s p with txQ := r }) f rfl
    rw [set] at unack seq txQ leaves
    exact ⟨txQ, unack, seq, leaves⟩
  · rw [effFrameTransmit_of_training runs closed trains, initSlot_of_due due]
    refine ⟨_, rfl, ?_⟩
    generalize hx : ({ portOf s p with
      initAt := some s.now,
      initsLeft := if (portOf s p).initRx.isSome then (portOf s p).initsLeft - 1 else (portOf s p).initsLeft } : Port) = x
    obtain ⟨sent, -, -⟩ := sendFrame_spec (here' x) 3 false 0 (initPayload p (portOf s p)) false rfl
    rw [set] at sent
    refine ⟨((congrArg Port.initAt sent :)).trans (hx ▸ rfl), ((congrArg Port.initsLeft sent :)).trans (hx ▸ rfl), ?_⟩
    refine frameLeaves_of_sendFrame (here' x) rfl rfl rfl ?_ ?_ ?_ ?_ ?_ <;> rw [set, ← hx]
  · obtain ⟨u, times, hereU, unack, runU, replays, most⟩ := effReplayTimeout_of_due runs here live some late
    refine ⟨_, congrArg Outcome.next times, ?_⟩
    rw [startReplay_of_allowed (by rw [runU, most]; exact allowed), portOf_setPort_self hereU, unack, replays]
    exact ⟨rfl, rfl, rfl⟩

/-- Settles O27: the receiver by blocks and frames, the transmitter by its frame slots and its timeout. -/
theorem linkTransfersAct : Obligations.LinkTransfersAct := ⟨linkReceiverActs, linkTransmitterActs⟩

end Sys2Proof.Machine
end

section
/-!
PROOF. Host loss, resets and boot (06 R162, 13 R343 to R349).
-/
namespace Sys2Proof.Machine
open Host Claims

/-! ## A Device-Core reset (13 R343, R344) -/

section
variable (s : State)

theorem cookies_khFail (code : Nat) (c : KhCmd) : (khFail code c s).obj.cookies = s.obj.cookies := by
  have raised (e : ErrRec) : (raise e s).obj.cookies = s.obj.cookies := (within_raise ..).keeps (·.obj.cookies) fun _ => rfl
  unfold khFail
  split
  · rw [objFail, objDone_obj]
    exact raised _
  any_goals rfl
  all_goals exact (within_respond ..).keeps (·.obj.cookies) fun _ => rfl

theorem cookies_abortHeld : (abortHeld s).obj.cookies = s.obj.cookies := by
  have wrote (c : KhCmd) (u : State) : (khWrote c u).obj.cookies = u.obj.cookies :=
    (within_khWrote ..).keeps (·.obj.cookies) fun _ => rfl
  unfold abortHeld
  split
  · rfl
  · exact (foldl_keeps (·.obj.cookies) (fun u (r : KhCmd × Nat) => cookies_khFail u _ r.1) _ _).trans ((cookies_khFail ..).trans (wrote ..))

/-- What the steps after a Device-Core reset's clearing leave as it is. -/
def resetView (t : State) : LossPh × Obj × Tab Tile × List Flit × Kh × Nat × BitVec 64 × Rtc × Flash :=
  (t.hif.loss, t.obj, t.tile, t.mesh, t.kh, t.pwr.stage, t.erq.time, t.rtc, t.flash)

/-- What a Device-Core reset has cleared, its causes and records apart. -/
theorem coreClear_spec : (coreClear s).hif.loss = .idle ∧ (coreClear s).obj = { cookies := s.obj.cookies } ∧
    (coreClear s).tile = [] ∧ (coreClear s).mesh = [] ∧ (coreClear s).kh.ctxKey = [] ∧ (coreClear s).kh.memKey = [] ∧
    (coreClear s).pwr.stage = 2 ∧ (coreClear s).erq.time = 0 ∧ (coreClear s).rtc = s.rtc ∧
    (coreClear s).flash.bank0 = s.flash.bank0 ∧ (coreClear s).flash.bank1 = s.flash.bank1 := by
  have ports (v : State) : resetView (pairReset (each (List.range 8) portCoreReset v)) = resetView v :=
    Within.keeps (.after (within_pairReset ..) (.each (fun p s => within_portCoreReset ..) _ _)) resetView fun _ => rfl
  unfold coreClear
  extract_lets b secret dict held pwr hif biv obj kh sealer rcv dict' v
  have kept := ports v
  simp only [resetView, Prod.mk.injEq] at kept
  obtain ⟨loss, obj', tile, mesh, kh', stage, time, rtc, flash⟩ := kept
  have abort : Within _ s held := .after (within_abortHeld _) (.upd [.dict] (by rfl))
  have cookies : held.obj.cookies = s.obj.cookies := cookies_abortHeld _
  rw [loss, obj', tile, mesh, kh', stage, time, rtc, flash, ← cookies]
  exact ⟨rfl, rfl, rfl, rfl, rfl, rfl, rfl, rfl, abort.keeps (·.rtc) fun _ => rfl, abort.keeps (·.flash.bank0) fun _ => rfl,
    abort.keeps (·.flash.bank1) fun _ => rfl⟩

/-- A Device-Core reset where no debugger holds the device at L2. -/
theorem coreReset_spec (core : Nat) (low : s.kh.dbg ≠ 2) : (coreReset core s).hif.loss = .idle ∧
    (coreReset core s).obj = { cookies := s.obj.cookies } ∧ (coreReset core s).tile = [] ∧ (coreReset core s).mesh = [] ∧
    (coreReset core s).kh.ctxKey = [] ∧ (coreReset core s).kh.memKey = [] ∧ (coreReset core s).pwr.stage = 2 ∧
    (coreReset core s).pwr.rstCore = BitVec.ofNat 4 core ∧ (coreReset core s).erq.time = 0 ∧ (coreReset core s).rtc = s.rtc ∧
    (coreReset core s).flash.bank0 = s.flash.bank0 ∧ (coreReset core s).flash.bank1 = s.flash.bank1 := by
  obtain ⟨loss, obj, tile, mesh, ctxKey, memKey, stage, time, rtc, bank0, bank1⟩ := coreClear_spec s
  have same : coreReset core s =
      lossRecords s.hif.lossCause (escalate core { coreClear s with pwr.rstCore := BitVec.ofNat 4 core }) := if_neg low
  generalize coreClear s = u at same loss obj tile mesh ctxKey memKey stage time rtc bank0 bank1
  have w : Within _ { u with pwr.rstCore := BitVec.ofNat 4 core } (coreReset core s) :=
    same ▸ Within.after (within_lossRecords ..) (within_escalate ..)
  have kept : resetView (coreReset core s) = resetView u := w.keeps resetView fun _ => rfl
  have cause : (coreReset core s).pwr.rstCore = BitVec.ofNat 4 core := w.keeps (·.pwr.rstCore) fun _ => rfl
  simp only [resetView, Prod.mk.injEq] at kept
  obtain ⟨loss', obj', tile', mesh', kh', stage', time', rtc', flash'⟩ := kept
  rw [loss', obj', tile', mesh', kh', stage', time', rtc', flash', cause]
  exact ⟨loss, obj, tile, mesh, ctxKey, memKey, stage, rfl, time, rtc, bank0, bank1⟩

/-- What sealing the regions leaves as it is. -/
def sealView (t : State) : BitVec 2 × List (Nat × BitVec 32) := (t.kh.dbg, t.obj.cookies)

/-- The end of a host-loss sequence: the keys are zeroized, and the reset follows (06 R162). -/
theorem sealAndReset_spec (low : s.kh.dbg ≠ 2) : (sealAndReset s).hif.loss = .idle ∧
    (sealAndReset s).obj = { cookies := s.obj.cookies } ∧ (sealAndReset s).tile = [] ∧ (sealAndReset s).mesh = [] ∧
    (sealAndReset s).kh.ctxKey = [] ∧ (sealAndReset s).kh.memKey = [] ∧ (sealAndReset s).pwr.stage = 2 ∧
    (sealAndReset s).pwr.rstCore = BitVec.ofNat 4 s.hif.lossCore ∧ (sealAndReset s).erq.time = 0 ∧
    (sealAndReset s).rtc = s.rtc ∧ (sealAndReset s).flash.bank0 = s.flash.bank0 ∧
    (sealAndReset s).flash.bank1 = s.flash.bank1 := by
  have sealed (regs : List Nat) (cleared : List Nat) : Within _ s (zeroKeys (each cleared clearRec (each regs sealFinish s))) :=
    .after (within_zeroKeys _) (.after (.each (fun r s => within_clearRec ..) _ _) (.each (fun r s => within_sealFinish ..) _ _))
  unfold sealAndReset
  dsimp only
  generalize (List.range 16).filter _ = cleared
  generalize lossRegions s = regs
  have w := sealed regs cleared
  have core : (each cleared clearRec (each regs sealFinish s)).hif.lossCore = s.hif.lossCore :=
    (w.keeps (·.hif.lossCore) fun _ => rfl)
  rw [core]
  generalize zeroKeys (each cleared clearRec (each regs sealFinish s)) = u at w
  have dbg : u.kh.dbg = s.kh.dbg := w.keeps (·.kh.dbg) fun _ => rfl
  have cookies : u.obj.cookies = s.obj.cookies := w.keeps (·.obj.cookies) fun _ => rfl
  have rtc : u.rtc = s.rtc := w.keeps (·.rtc) fun _ => rfl
  have bank0 : u.flash.bank0 = s.flash.bank0 := w.keeps (·.flash.bank0) fun _ => rfl
  have bank1 : u.flash.bank1 = s.flash.bank1 := w.keeps (·.flash.bank1) fun _ => rfl
  rw [← cookies, ← rtc, ← bank0, ← bank1]
  exact coreReset_spec u s.hif.lossCore (dbg ▸ low)

/-- What the start of a host-loss sequence leaves (06 R162). -/
theorem startLoss_loss (cause core : Nat) : (startLoss cause core s).hif.loss = .draining ∧
    (startLoss cause core s).hif.lossAt = s.now ∧ (startLoss cause core s).hif.lossCause = cause ∧
    (startLoss cause core s).hif.lossCore = core ∧ (startLoss cause core s).hif.reqs = [] ∧ (startLoss cause core s).rcv.step = 0 := by
  have view (u : State) : ((qpsError (fun _ => true) .hostLoss u).hif, (qpsError (fun _ => true) .hostLoss u).rcv.step) =
      (u.hif, u.rcv.step) := (within_qpsError ..).keeps (fun u => (u.hif, u.rcv.step)) fun _ => rfl
  have now : (domainsTo (s.pwr.on.toNat ||| 0x211) s).now = s.now := (within_domainsTo ..).keeps (·.now) fun _ => rfl
  have kept : ((startLoss cause core s).hif, (startLoss cause core s).rcv.step) = _ := view _
  obtain ⟨hif, step⟩ := Prod.mk.inj kept
  rw [hif, step]
  exact ⟨rfl, now, rfl, rfl, rfl, rfl⟩

end

/-! ## Tiles that stop, tiles that are scrubbed -/

section
variable (s : State)

/-- A tile that has stopped (05 R112). -/
def stopped (x : Tile) : Tile := { x with part := .stopped, win := [] }

/-- Each of a list of tiles that has a part stops, and the others stay. -/
theorem tileOf_each_stopTile (l : List Nat) (x : Nat) : tileOf (each l stopTile s) x =
    if x ∈ l ∧ (tileOf s x).part ≠ .idle then stopped (tileOf s x) else tileOf s x := by
  induction l generalizing s with
  | nil => simp [each]
  | cons t l ih =>
    rw [show each (t :: l) stopTile s = each l stopTile (stopTile t s) from rfl, ih]
    by_cases idle : (tileOf s t).part = .idle
    · rw [stopTile, if_pos idle]
      by_cases same : x = t
      · subst same; simp [idle]
      · simp [same]
    · have ne : stopped (tileOf s t) ≠ {} := fun h => by cases congrArg Tile.part h
      rw [stopTile, if_neg idle]
      by_cases same : x = t
      · subst same
        rw [show tileOf (setTile s x { tileOf s x with part := .stopped, win := [] }) x = stopped (tileOf s x) from
          tget_tput_self _ _ ne _ _]
        simp [idle, stopped]
      · rw [show tileOf (setTile s t { tileOf s t with part := .stopped, win := [] }) x = tileOf s x from
          tget_tput_of_ne _ _ ne _ _ _ same]
        simp [same]

/-- The end of the drain: every tile that has a part stops, and every seal slot closes (06 R162). -/
theorem drainNow_spec : (drainNow s).hif.loss = .sealing ∧ (drainNow s).sealer.slots = [] ∧ (drainNow s).sealer.rows = [] ∧
    (drainNow s).hif.lossCore = s.hif.lossCore ∧ ∀ x, (tileOf s x).part ≠ .idle → (tileOf (drainNow s) x).part = .stopped ∧ (tileOf (drainNow s) x).win = [] := by
  unfold drainNow
  extract_lets regs cuts u sealer v w
  have prepared : Within _ v w := .each (fun r s => .after (within_sealPrepare ..) (within_regSync ..)) _ _
  have tiles : tileOf w = tileOf u := prepared.keeps tileOf fun _ => rfl
  refine ⟨rfl, prepared.keeps (·.sealer.slots) fun _ => rfl, prepared.keeps (·.sealer.rows) fun _ => rfl,
    (prepared.keeps (·.hif.lossCore) fun _ => rfl).trans
      (each_keeps (·.hif.lossCore) (fun t u => (within_stopTile u t).keeps (·.hif.lossCore) fun _ => rfl) _ _), fun x part => ?_⟩
  have listed : x ∈ s.tile.map (·.1) := List.mem_map.mpr ⟨_, mem_of_tget fun h => part (by rw [tileOf, h]), rfl⟩
  have left : tileOf { w with hif.loss := .sealing } x = stopped (tileOf s x) :=
    (congrFun tiles x).trans ((tileOf_each_stopTile s _ x).trans (if_pos ⟨listed, part⟩))
  rw [left]
  exact ⟨rfl, rfl⟩

/-- The reset of a tile and of its scratchpad (13 R343). -/
def scrubTile (t : Nat) (s : State) : State := setTile (tileReset t s) t { tileOf (tileReset t s) t with mem := [] }

theorem tileOf_scrubTile (wf : tabWf {} s.tile = true) (t x : Nat) : tileOf (scrubTile t s) x = if x = t then {} else tileOf s x := by
  have wf' : tabWf {} (tileReset t s).tile = true := tabWf_tput _ _ _ _ wf
  have reset : tileOf (tileReset t s) t = { mem := (tileOf s t).mem } := (tileOf_setTile s t t _ wf).trans (if_pos rfl)
  rw [scrubTile, tileOf_setTile _ t x _ wf', reset]
  by_cases same : x = t
  · simp [same]
  · rw [if_neg same, if_neg same]
    exact (tileOf_setTile s t x _ wf).trans (if_neg same)

theorem tileOf_each_scrubTile (l : List Nat) (x : Nat) (wf : tabWf {} s.tile = true) :
    tileOf (each l scrubTile s) x = if x ∈ l then {} else tileOf s x := by
  induction l generalizing s with
  | nil => rfl
  | cons t l ih =>
    have wf' : tabWf {} (scrubTile t s).tile = true := tabWf_tput _ _ _ _ (tabWf_tput _ _ _ _ wf)
    rw [show each (t :: l) scrubTile s = each l scrubTile (scrubTile t s) from rfl, ih _ wf', tileOf_scrubTile s wf]
    by_cases same : x = t <;> simp [same]

theorem mem_tilesOf (q x : Nat) : x ∈ tilesOf q ↔ quadOfTile x = q := by
  simp only [tilesOf, List.mem_map, List.mem_range, quadOfTile]
  constructor
  · rintro ⟨i, small, rfl⟩; omega
  · rintro rfl; exact ⟨x % 24, by omega, by omega⟩

theorem quad_each_scrubTile (l : List Nat) : (each l scrubTile s).quad = s.quad :=
  each_keeps (·.quad) (fun t u => by rw [scrubTile, setTile_quad, tileReset, setTile_quad]) _ _

/-- The scrub of a quadrant as the scrub of its tiles, the end of its flits, and its owner. -/
theorem scrubQuad_eq (q : Nat) (owner : Option Nat) {u : State} (h : u = each (tilesOf q) scrubTile s) :
    scrubQuad q owner s = setQuad { u with
      mesh := u.mesh.filter (fun f => !(decide (quadOfTile f.src = q) || decide (quadOfTile f.dst = q))) } q
      { quadOf u q with owner := owner } := by
  subst h
  unfold scrubQuad
  generalize tilesOf q = l
  rfl

/-- The scrub of a quadrant (11 R297, 13 R343). -/
theorem scrubQuad_spec {q : Nat} (owner : Option Nat) (wf : tabWf {} s.tile = true) (here : q < s.quad.length) :
    (quadOf (scrubQuad q owner s) q).owner = owner ∧ (∀ x, quadOfTile x = q → tileOf (scrubQuad q owner s) x = {}) ∧
    (∀ x, quadOfTile x ≠ q → tileOf (scrubQuad q owner s) x = tileOf s x) ∧
    ∀ f ∈ (scrubQuad q owner s).mesh, quadOfTile f.src ≠ q ∧ quadOfTile f.dst ≠ q := by
  have quads : (each (tilesOf q) scrubTile s).quad = s.quad := quad_each_scrubTile s _
  have scrubbed : ∀ u, u = each (tilesOf q) scrubTile s → scrubQuad q owner s = _ := fun u => scrubQuad_eq s q owner
  have tiles (x : Nat) : tileOf (each (tilesOf q) scrubTile s) x = if x ∈ tilesOf q then {} else tileOf s x :=
    tileOf_each_scrubTile s (tilesOf q) x wf
  generalize each (tilesOf q) scrubTile s = u at quads scrubbed tiles
  rw [scrubbed u rfl]
  refine ⟨?_, fun x hx => ?_, fun x hx => ?_, fun f hf => ?_⟩
  · rw [quadOf_setQuad _ q q _ (by exact quads ▸ here), if_pos rfl]
  · exact (tiles x).trans (if_pos ((mem_tilesOf q x).mpr hx))
  · exact (tiles x).trans (if_neg fun h => hx ((mem_tilesOf q x).mp h))
  · have kept := (List.mem_filter.mp hf).2
    simpa using kept

end

theorem resetCommandsAct : ResetCommandsAct := by
  refine ⟨fun s cause runs host ready idle => ?_, fun s wf draining due => ?_, fun s sealing low => ?_,
    fun s cause runs => ?_, fun s core runs ready idle low => ?_, fun s q wf units runs here on => ?_⟩
  · have taken : effHostLoss cause s = startLoss cause 1 (lossPins cause s) :=
      if_neg (by simp [show mcRuns (lossPins cause s) = true from runs, show domOn (lossPins cause s) dHOST = true from host,
        show (lossPins cause s).pwr.stage = 5 from ready, show (lossPins cause s).hif.loss = .idle from idle])
    obtain ⟨loss, at', cause', core, reqs, -⟩ := startLoss_loss (lossPins cause s) cause 1
    exact ⟨_, congrArg Outcome.next taken, loss, at', cause', core, reqs⟩
  · have taken : effDrainEnd s = drainNow s := if_neg (by simp [draining]; exact due)
    obtain ⟨loss, slots, rows, -, tiles⟩ := drainNow_spec s
    exact ⟨_, congrArg Outcome.next taken, loss, slots, rows, tiles⟩
  · have taken : effSealDone s = sealAndReset s := if_pos sealing
    obtain ⟨loss, obj, tile, mesh, ctxKey, memKey, stage, core, time, rtc, -⟩ := sealAndReset_spec s low
    exact ⟨_, congrArg Outcome.next taken, loss, obj, tile, mesh, ctxKey, memKey, stage, core, time, rtc⟩
  · have taken : effColdReset cause s = coldReset cause s := if_pos runs
    exact ⟨_, congrArg Outcome.next taken, rfl, rfl, rfl, rfl, rfl, rfl, rfl, rfl, rfl, rfl, rfl, rfl, rfl, rfl, rfl, rfl, rfl⟩
  · have started : requestCoreReset core s = startLoss 0 core s := if_neg (by simp [idle])
    obtain ⟨loss, -, -, core', -, -⟩ := startLoss_loss s 0 core
    have begun : Within _ s (startLoss 0 core s) := within_startLoss ..
    have drained : Within _ (startLoss 0 core s) (drainNow (startLoss 0 core s)) := within_drainNow _
    have taken : effCoreReset core s = sealAndReset (drainNow (startLoss 0 core s)) := by
      rw [effCoreReset, if_neg (by simp [runs, ready]), started, finishLoss, if_pos loss]
    obtain ⟨-, -, -, kept, -⟩ := drainNow_spec (startLoss 0 core s)
    have w := drained.after begun
    generalize drainNow (startLoss 0 core s) = u at taken kept w
    have dbg : u.kh.dbg = s.kh.dbg := w.keeps (·.kh.dbg) fun _ => rfl
    have cookies : u.obj.cookies = s.obj.cookies := w.keeps (·.obj.cookies) fun _ => rfl
    have rtc : u.rtc = s.rtc := w.keeps (·.rtc) fun _ => rfl
    have bank0 : u.flash.bank0 = s.flash.bank0 := w.keeps (·.flash.bank0) fun _ => rfl
    have bank1 : u.flash.bank1 = s.flash.bank1 := w.keeps (·.flash.bank1) fun _ => rfl
    obtain ⟨loss', obj, tile, -, ctxKey, -, stage, rst, time, rtc', bank0', bank1'⟩ := sealAndReset_spec u (dbg ▸ low)
    refine ⟨_, congrArg Outcome.next taken, loss', cookies ▸ obj, tile, ctxKey, stage, ?_, time, rtc'.trans rtc, bank0'.trans bank0,
      bank1'.trans bank1⟩
    rw [rst, kept, core']
  · have taken : effQuadReset q s = scrubQuad q none s := if_pos (by simp [runs, here, on])
    obtain ⟨-, -, -, quads, -⟩ := units_of_wf units
    exact ⟨_, congrArg Outcome.next taken, scrubQuad_spec s none ((formed_iff s).2 wf).tile (by omega)⟩

/-! ## Boot (13 R347, R349) -/

section
variable (s : State)

/-- Where the selection of an image ends: an image runs, or the boot ROM is parked (R410, R411). -/
def imageChosen (t : State) : Prop :=
  (t.pwr.stage = 1 ∧ t.pwr.parked = false) ∨ (t.pwr.stage = 0 ∧ t.pwr.parked = true ∧ t.flash.hiZ = true)

theorem imageChosen_selectFrom (l : List Bool) : ∀ (first : Bool) (s : State), s.pwr.stage = 0 → imageChosen (selectFrom l first s) := by
  induction l with
  | nil => exact fun _ _ stage => .inr ⟨stage, rfl, rfl⟩
  | cons b l ih =>
    intro first s stage
    have bad (u : State) : (badImage u).pwr.stage = u.pwr.stage := (within_badImage u).keeps (·.pwr.stage) fun _ => rfl
    have mark (k n : Nat) : (putMarker b k n s).pwr.stage = s.pwr.stage := (within_putMarker ..).keeps (·.pwr.stage) fun _ => rfl
    have boot (c : Nat) (u : State) : (bootCode c u).pwr.stage = u.pwr.stage := rfl
    unfold selectFrom
    dsimp only
    split
    · split
      · exact .inl ⟨rfl, rfl⟩
      · exact ih _ _ ((bad _).trans ((boot _ _).trans stage))
    · split
      · exact ih _ _ ((boot _ _).trans ((mark 4 _).trans stage))
      · split
        · exact .inl ⟨rfl, rfl⟩
        · exact ih _ _ ((bad _).trans ((boot _ _).trans ((mark 4 _).trans stage)))

theorem aonUp_stage : (aonUp s).pwr.stage = 2 := by
  have joined (u : State) : (busJoin u).pwr.stage = u.pwr.stage := (within_busJoin u).keeps (·.pwr.stage) fun _ => rfl
  unfold aonUp
  extract_lets
  split
  · rw [joined]
    rfl
  · rfl

/-- The power controller but for what a switch of domains may change, through several switches. -/
theorem pwrKept_each_domainOn (l : List Nat) : pwrKept (each l domainOn s) = pwrKept s :=
  each_keeps pwrKept (fun d s => pwrKept_domainOn s d) _ _

theorem boot_of_pwrKept {s t : State} (h : pwrKept t = pwrKept s) : t.pwr.stage = s.pwr.stage ∧ t.pwr.romRuns = s.pwr.romRuns ∧
    t.pwr.parked = s.pwr.parked ∧ t.pwr.strapNode = s.pwr.strapNode ∧ t.pwr.strapTest = s.pwr.strapTest := by
  have stage := congrArg Pwr.stage h
  have rom := congrArg Pwr.romRuns h
  have parked := congrArg Pwr.parked h
  have node := congrArg Pwr.strapNode h
  have test := congrArg Pwr.strapTest h
  exact ⟨stage, rom, parked, node, test⟩

theorem hbm_each_domainOn (l : List Nat) : (each l domainOn s).hbm = s.hbm :=
  each_keeps (·.hbm) (fun d s => (within_domainOn s d).keeps (·.hbm) fun _ => rfl) _ _

/-- The Nalfa ports come on at step 5 of a cold boot (13 R347). -/
theorem linksOn_spec : (each [dLNKA, dLNKB] domainOn { s with pwr.stage := 4 }).pwr.stage = 4 ∧
    domOn (each [dLNKA, dLNKB] domainOn { s with pwr.stage := 4 }) dLNKA = true ∧
    domOn (each [dLNKA, dLNKB] domainOn { s with pwr.stage := 4 }) dLNKB = true ∧
    (each [dLNKA, dLNKB] domainOn { s with pwr.stage := 4 }).hbm = s.hbm := by
  obtain ⟨stage, -⟩ := boot_of_pwrKept (pwrKept_each_domainOn { s with pwr.stage := 4 } [dLNKA, dLNKB])
  have hbm := hbm_each_domainOn { s with pwr.stage := 4 } [dLNKA, dLNKB]
  exact ⟨stage, domOn_each_domainOn _ (by decide) _ (.inl (by decide)), domOn_each_domainOn _ (by decide) _ (.inl (by decide)), hbm⟩

theorem hostUp_spec : (hostUp s).pwr.stage = 5 ∧ (hostUp s).pwr.warm = false ∧ (hostUp s).hbm = s.hbm := by
  unfold hostUp
  extract_lets pwr u v pwr'
  have up : pwrKept u = pwrKept { s with pwr.stage := 5, pwr.warm := false } := pwrKept_each_domainOn _ _
  have hbm : u.hbm = s.hbm := hbm_each_domainOn _ _
  have sent : (pwrKept v, v.hbm) = (pwrKept u, u.hbm) := by
    have mirrored : (pwrKept (mirrorAll u), (mirrorAll u).hbm) = (pwrKept u, u.hbm) :=
      (within_mirrorAll u).keeps (fun u => (pwrKept u, u.hbm)) fun _ => rfl
    rw [show v = if u.pair.st = .syncing && !u.pair.role then mirrorAll u else u from rfl]
    split
    · exact mirrored
    · rfl
  obtain ⟨kept, hbm'⟩ := Prod.mk.inj sent
  have stage := congrArg Pwr.stage (kept.trans up)
  have warm := congrArg Pwr.warm (kept.trans up)
  split
  · have low := pwrKept_domainsTo { v with pwr.record := 0x21D, pwr.cur := .p2 } 0x00D
    have stage' := congrArg Pwr.stage low
    have warm' := congrArg Pwr.warm low
    exact ⟨stage'.trans stage, warm'.trans warm, (domainsTo_hbm _ _).trans (hbm'.trans hbm)⟩
  · exact ⟨stage, warm, hbm'.trans hbm⟩

/-- The straps are sampled and the boot ROM runs (13 R347 step 1). -/
def romStarted : State :=
  { flashProbe { s with pwr.mcAt := s.now } with
    pwr.strapNode := s.pwr.nodeStrap, pwr.strapTest := s.pwr.testN, pwr.romRuns := true, pwr.parked := !s.pwr.testN }

/-- Step `k` of a boot. -/
def bootStep (k : Nat) : State :=
  match k with
  | 0 => if s.pwr.romRuns then imageSelect { s with pwr.mcAt := s.now } else domainOn dHOST (romStarted s)
  | 1 => aonUp s
  | 2 =>
    let s := each [dSEC, dMEM] domainOn s
    if s.pwr.warm then { s with pwr.stage := 3 } else { s with hbm := [], scrub := [{}, {}, {}, {}], pwr.stage := 3 }
  | 3 => if s.pwr.warm then hostUp s else each [dLNKA, dLNKB] domainOn { s with pwr.stage := 4 }
  | 4 => hostUp s
  | _ => s

theorem effBootStage_of_running (runs : mcRuns s = true) (free : s.pwr.parked = false) :
    effBootStage s = bootStep s s.pwr.stage := by
  unfold effBootStage
  rw [if_neg (by simp [runs, free])]
  rfl

end

theorem bootStagesAdvance : BootStagesAdvance := by
  intro s runs free
  have step : exec .bootStageComplete s = .next (effBootStage s) := rfl
  rw [step, effBootStage_of_running s runs free]
  refine ⟨fun stage rom => ?_, fun stage rom => ?_, fun stage => ?_, fun stage => ?_, fun stage warm => ?_, fun late => ?_⟩
  · have start : bootStep s 0 = domainOn dHOST (romStarted s) := if_neg (by simp [rom])
    obtain ⟨stage', rom', parked, node, test⟩ := boot_of_pwrKept (pwrKept_domainOn (romStarted s) dHOST)
    refine ⟨_, congrArg Outcome.next (stage ▸ start), ?_⟩
    rw [stage', rom', parked, node, test]
    exact ⟨stage, rfl, rfl, rfl, rfl, domOn_domainOn _ (by decide) (.inl rfl)⟩
  · have select : bootStep s 0 = imageSelect { s with pwr.mcAt := s.now } := if_pos rom
    exact ⟨_, congrArg Outcome.next (stage ▸ select), imageChosen_selectFrom _ _ { s with pwr.mcAt := s.now } stage⟩
  · have up : bootStep s 1 = aonUp s := rfl
    exact ⟨_, congrArg Outcome.next (stage ▸ up), aonUp_stage s⟩
  · have next : bootStep s 2 = if (each [dSEC, dMEM] domainOn s).pwr.warm then { each [dSEC, dMEM] domainOn s with pwr.stage := 3 }
        else { each [dSEC, dMEM] domainOn s with hbm := [], scrub := [{}, {}, {}, {}], pwr.stage := 3 } := rfl
    have warm : (each [dSEC, dMEM] domainOn s).pwr.warm = s.pwr.warm := by
      have kept := congrArg Pwr.warm (pwrKept_each_domainOn s [dSEC, dMEM])
      exact kept
    have sec : domOn (each [dSEC, dMEM] domainOn s) dSEC = true := domOn_each_domainOn _ (by decide) _ (.inl (by decide))
    have mem : domOn (each [dSEC, dMEM] domainOn s) dMEM = true := domOn_each_domainOn _ (by decide) _ (.inl (by decide))
    have hbm := hbm_each_domainOn s [dSEC, dMEM]
    rw [stage]
    generalize each [dSEC, dMEM] domainOn s = u at next warm sec mem hbm
    rw [next, warm]
    by_cases h : s.pwr.warm = true
    · rw [if_pos h]
      exact ⟨_, rfl, rfl, sec, mem, fun cold => absurd (h.symm.trans cold) (by decide), fun _ => hbm⟩
    · rw [if_neg h]
      exact ⟨_, rfl, rfl, sec, mem, fun _ => rfl, fun warm => absurd warm h⟩
  · have on : bootStep s 3 = each [dLNKA, dLNKB] domainOn { s with pwr.stage := 4 } := if_neg (by simp [warm])
    exact ⟨_, congrArg Outcome.next (stage ▸ on), linksOn_spec s⟩
  · rcases late with stage | ⟨stage, warm⟩
    · have up : bootStep s 4 = hostUp s := rfl
      exact ⟨_, congrArg Outcome.next (stage ▸ up), hostUp_spec s⟩
    · have up : bootStep s 3 = hostUp s := if_pos warm
      exact ⟨_, congrArg Outcome.next (stage ▸ up), hostUp_spec s⟩

/-- Settles O42: the host-loss sequence, the resets, and the stages of a boot. -/
theorem resetsAndBootAct : Obligations.ResetsAndBootAct := ⟨resetCommandsAct, bootStagesAdvance⟩

end Sys2Proof.Machine
end

section
/-!
PROOF. What the window's shared steps may change of a tile (03 R65 to R67): its window, its groups, its earliest failure, its
progress timer, and its part, which they can only end.
-/
namespace Sys2Proof.Machine
open Host Claims

/-- A tile after steps of its window. -/
def SlotStep (a b : Tile) : Prop :=
  b = { a with win := b.win, groups := b.groups, fail := b.fail, prog := b.prog, part := b.part } ∧
    (b.part = a.part ∨ b.part = .ended)

theorem SlotStep.refl (a : Tile) : SlotStep a a := ⟨rfl, .inl rfl⟩

theorem SlotStep.trans {a b c : Tile} (h : SlotStep a b) (k : SlotStep b c) : SlotStep a c := by
  obtain ⟨same, part⟩ := h
  obtain ⟨same', part'⟩ := k
  refine ⟨by rw [same', same], ?_⟩
  rcases part' with keeps | ends
  · rw [keeps]; exact part
  · exact .inr ends

/-- Every tile has made steps of its window alone. -/
structure SlotMoves (s t : State) : Prop where
  formed : Formed s → Formed t
  step : Formed s → ∀ k, SlotStep (tileOf s k) (tileOf t k)

section
variable {s t u : State}

theorem SlotMoves.of_tile (w : Formed s → Formed t) (h : t.tile = s.tile) : SlotMoves s t :=
  ⟨w, fun _ k => by rw [tileOf, tileOf, h]; exact .refl _⟩

theorem SlotMoves.refl (s : State) : SlotMoves s s := .of_tile id rfl

theorem SlotMoves.trans (a : SlotMoves s t) (b : SlotMoves t u) : SlotMoves s u :=
  ⟨fun f => b.formed (a.formed f), fun f k => (a.step f k).trans (b.step (a.formed f) k)⟩

theorem SlotMoves.foldl {α : Type} {f : State → α → State} (h : ∀ s x, SlotMoves s (f s x)) (l : List α) (s : State) :
    SlotMoves s (l.foldl f s) := by
  induction l generalizing s with
  | nil => exact .refl s
  | cons x l ih => exact (h s x).trans (ih _)

end

section
variable (s : State) (a n : Nat)

theorem slotMoves_setTile (x : Tile) (form : Formed s → x.wf = true) (step : SlotStep (tileOf s a) x) :
    SlotMoves s (setTile s a x) := ⟨(within_setTile s a x form).formed, fun f k => by
  rw [tileOf_setTile s a k x f.tile]
  split
  · next same => exact same ▸ step
  · exact .refl _⟩

theorem slotMoves_setSlot (x : Slot) : SlotMoves s (setSlot s a n x) :=
  slotMoves_setTile s a _ (fun f => tile_wf (tabWf_tput _ _ _ _ (f.win a)) (f.mem a) (f.exa a)) ⟨rfl, .inl rfl⟩

theorem slotMoves_retire : SlotMoves s (retire a n s) := by
  refine slotMoves_setTile s a _ (fun f => tile_wf (tabWf_tput _ _ _ _ (f.win a)) (f.mem a) (f.exa a)) ⟨rfl, ?_⟩
  dsimp only
  split
  · exact .inr rfl
  · exact .inl rfl

theorem slotMoves_freeGroup (x : Slot) : SlotMoves s (freeGroup a x s) := by
  unfold freeGroup
  split
  · exact slotMoves_setTile s a _ (fun f => f.tileOf a) ⟨rfl, .inl rfl⟩
  · exact .refl s

theorem slotMoves_complete : SlotMoves s (complete a n s) := by
  unfold complete
  extract_lets x u tl v sigs
  have group : SlotMoves s u := slotMoves_freeGroup s a x
  have failed : SlotMoves u v := by
    unfold v
    split
    · exact .refl u
    · exact slotMoves_setTile u a _ (fun f => f.tileOf a) ⟨rfl, .inl rfl⟩
  refine group.trans (failed.trans ?_)
  split
  · exact slotMoves_retire v a n
  · exact slotMoves_setSlot v a n _

theorem slotMoves_raise (e : ErrRec) : SlotMoves s (raise e s) :=
  .of_tile (within_raise s e).formed ((within_raise s e).keeps (·.tile) fun _ => rfl)

theorem slotMoves_slotFail (e : ErrRec) (quiet : Bool) : SlotMoves s (slotFail a n e quiet s) := by
  have set : SlotMoves s (if (slotOf s a n).status = 0 then setSlot s a n { slotOf s a n with status := e.code } else s) := by
    split
    · exact slotMoves_setSlot ..
    · exact .refl s
  unfold slotFail
  dsimp only
  split
  · exact set
  · exact set.trans (slotMoves_raise ..)

theorem slotMoves_slotTry : SlotMoves s (slotTry a n s) := by
  have failed : SlotMoves s (exaFailed a n s) := by
    unfold exaFailed
    split
    · exact .refl s
    · exact slotMoves_slotFail ..
  unfold slotTry
  split
  · exact failed.trans (slotMoves_complete ..)
  · exact .refl s

theorem slotMoves_slotGot (w : Await) : SlotMoves s (slotGot w s) := by
  unfold slotGot
  extract_lets eng u obj v
  have rows : SlotMoves s u := .of_tile (Within.upd [.sealRows] (by rfl)).formed rfl
  have jobs : SlotMoves u v := .of_tile (within_jobsGot u w).formed rfl
  clear_value v
  refine rows.trans (jobs.trans (.foldl (fun s e => .foldl (fun s x => ?_) _ _) _ _))
  split
  · exact (slotMoves_setSlot ..).trans (slotMoves_slotTry ..)
  · exact .refl s

theorem slotMoves_txnNotify (id : Nat) (x : Txn) (status : Nat) (quiet : Bool) : SlotMoves s (txnNotify id x status quiet s) := by
  unfold txnNotify
  split
  · next t _ order _ =>
    split
    · exact .refl s
    · next m _ =>
      extract_lets y u z v
      have struck : SlotMoves s u := slotMoves_setSlot s t m _
      have noted : SlotMoves u v := by
        unfold v
        split
        · exact slotMoves_setSlot ..
        · split
          · exact .refl u
          · exact slotMoves_slotFail ..
      exact struck.trans (noted.trans (slotMoves_slotTry v t m))
  · exact .of_tile (Within.after (within_ntxEnd _) (.upd [.txn] (by rfl))).formed ((within_ntxEnd _).keeps (·.tile) fun _ => rfl)
  · exact slotMoves_slotGot ..

theorem slotMoves_endTxn (id status : Nat) (quiet : Bool) : SlotMoves s (endTxn id status quiet s) := by
  unfold endTxn
  split
  · exact .refl s
  · next x _ =>
    have out : Within [.tags, .quar, .txns] s { quarantine (tagsOf s id) s with txn.txns := tput none (quarantine (tagsOf s id) s).txn.txns id none } :=
      .after (.of [.txns] ⟨fun f => tabWf_tput _ _ _ _ f.txns, trivial⟩ (by rfl)) (within_quarantine ..)
    exact .trans (.of_tile out.formed rfl) (slotMoves_txnNotify ..)

theorem slotMoves_endTxns (p : Txn → Bool) (status : Nat) : SlotMoves s (endTxns p status s) :=
  .foldl (fun (u : State) (e : Nat × Option Txn) => slotMoves_endTxn u e.1 status true) _ _

end

end Sys2Proof.Machine
end

section
/-!
PROOF. The watchdogs and the steps of an Abseil (14 R354, R355, R363 to R366).
-/
namespace Sys2Proof.Machine
open Host Claims

/-! ## What the end of a job leaves of an Abseil -/

section
variable (s : State)

/-- What the completion of a job leaves as it was: an Abseil, but for its suspects and the replay that runs, and the owners of the
quadrants. -/
def jobView (t : State) : Rcv × (Nat → Option Nat) :=
  ({ t.rcv with rctx := none, suspects := [] }, fun k => (quadOf t k).owner)

theorem jobView_replaySettled (q : Nat) (j : Job) : jobView (replaySettled q j s) = jobView s := by
  unfold replaySettled
  split <;> rfl

theorem jobView_freeQuads (q : Nat) : jobView (freeQuads q s) = jobView s :=
  Prod.ext ((within_freeQuads s q).keeps (fun t => (jobView t).1) fun _ => rfl) (funext fun _ => quadOf_freeQuads.1)

theorem jobView_jobTry (q : Nat) : jobView (jobTry q s) = jobView s := by
  unfold jobTry
  split
  · next j _ =>
    split
    · unfold finishJob
      extract_lets qu size vec line s1 s2 s3
      have settled (u : State) : jobView (queueSettle q u) = jobView u := (within_queueSettle u q).keeps jobView fun _ => rfl
      have written : jobView s3 = jobView s :=
        (Within.after (within_bump ..) (.after (within_bump ..) (.after (within_bump ..) (.after (within_setQueue ..)
          (.after (within_hostWrite ..) (within_drawn _)))))).keeps jobView fun _ => rfl
      rw [jobView_replaySettled, settled, jobView_freeQuads, written]
    · rfl
  · rfl

theorem jobView_jobTry_endJob (q status : Nat) (given : Bool) : jobView (jobTry q (endJob q status given s)) = jobView s :=
  (jobView_jobTry _ q).trans ((within_endJob ..).keeps jobView fun _ => rfl)

theorem jobView_effJobComplete (q : Nat) : jobView (effJobComplete q s) = jobView s := by
  unfold effJobComplete
  dsimp only
  split
  · rfl
  · split
    · exact (jobView_jobTry_endJob ..).trans ((within_setQueue ..).keeps jobView fun _ => rfl)
    · exact jobView_jobTry s q

theorem jobView_jobInvalid (q : Nat) : jobView (jobInvalid q s) = jobView s :=
  (jobView_jobTry_endJob ..).trans ((within_raise ..).keeps jobView fun _ => rfl)

theorem jobView_runChecks (q : Nat) (hr : List Host.Cell) : jobView (runChecks q hr s) = jobView s := by
  unfold runChecks
  dsimp only
  split
  · rfl
  · split
    · exact jobView_jobInvalid s q
    · split
      · exact (jobView_jobTry_endJob ..).trans ((within_raise ..).keeps jobView fun _ => rfl)
      · split
        · exact (Within.after (within_setQueue ..) (within_drawn _)).keeps jobView fun _ => rfl
        · exact jobView_jobInvalid s q

/-- A Context Abort leaves the Abseil as it was, but for its suspects and its replay. -/
theorem jobView_ctxAbort (c cause : Nat) : (jobView (ctxAbort c cause s)).1 = (jobView s).1 := by
  unfold ctxAbort
  split
  · refine ((within_raise ..).keeps (fun t => (jobView t).1) fun _ => rfl).trans ?_
    unfold abortSteps
    extract_lets qs own ctx s1 s2 s3 s4 s5 s6 s7 s8
    have tries : (jobView (each qs jobTry s8)).1 = (jobView s8).1 :=
      each_keeps (fun t => (jobView t).1) (fun q t => congrArg Prod.fst (jobView_jobTry t q)) _ _
    have h1 : Within [.ctx] s s1 := within_setCtx ..
    have h2 : Within [.queue] s1 s2 := .each (fun q s => .sub (.ite (within_setQueue ..) (.refl [] _)) (by rfl)) _ _
    have h3 : Within [.queue] s2 s3 := .each (fun q s => by
      dsimp only
      split
      · exact .sub (.ite (within_setQueue ..) (.refl [] _)) (by rfl)
      · exact .refl _ _) _ _
    have h4 : Within [.tile] s3 s4 := .each (fun k s => .each (fun t s => within_stopTile s t) _ _) _ _
    have h5 := within_endTxns s4 (fun x => decide (x.ctx = c)) errCtxAborted
    have h6 : Within [.seals, .out, .erqIn, .qp, .ethPort, .dict] s5 s6 := .after (within_qpsError ..) (within_closeSeals ..)
    have h7 : Within [.quad, .tile, .mesh] s6 s7 := .each (fun k s => within_scrubQuad s k none) _ _
    have h8 : Within [.out, .tile, .hbm, .port, .hif, .erqIn, .msix, .queue, .ev, .pair, .seals, .sealer, .dict] s7 s8 :=
      .each (fun q s => by
        split
        · exact .sub (.ite (.refl [] _) (within_endJob ..)) (by rfl)
        · exact .refl _ _) _ _
    rw [tries]
    exact (Within.after h8 (.after h7 (.after h6 (.after h5 (.after h4 (.after h3 (.after h2 h1))))))).keeps
      (fun t => (jobView t).1) fun _ => rfl
  · rfl

end

/-! ## What starts an Abseil (14 R354, R355, R363) -/

/-- The mask of a set of quadrants has their bits. -/
theorem testBit_mask (p : Nat → Bool) {k : Nat} (small : k < 4) :
    (0 ||| BitVec.ofNat 4 (((List.range 4).filter p).map (fun i => 2 ^ i)).sum).toNat.testBit k = p k := by
  have range : List.range 4 = [0, 1, 2, 3] := rfl
  rw [range]
  interval_cases k <;> cases h0 : p 0 <;> cases h1 : p 1 <;> cases h2 : p 2 <;> cases h3 : p 3 <;> simp [h0, h1, h2, h3] <;> decide

section
variable (s : State)

/-- A queue that joins adds its quadrants to the scope, and perhaps a suspect. -/
theorem joinScope_eq (q : Nat) : ∃ l, joinScope q s = { s with
    rcv.scope := s.rcv.scope ||| BitVec.ofNat 4 ((heldQuads s q).map (fun k => 2 ^ k)).sum, rcv.suspects := l } := by
  unfold joinScope
  dsimp only
  split
  · exact ⟨s.rcv.suspects, rfl⟩
  · split
    · exact ⟨s.rcv.suspects, rfl⟩
    · exact ⟨_, rfl⟩

/-- The Abseil of one tile whose watchdog expired. -/
theorem abseilStart_one (t : Nat) : ∃ l, abseilStart [t] s = { abseilBegin errTileWatchdog t s with
    rcv.expired := [t], rcv.scope := 0 ||| BitVec.ofNat 4 ((heldQuads s (tileOf s t).queue).map (fun k => 2 ^ k)).sum,
    rcv.suspects := l } := by
  obtain ⟨l, joined⟩ := joinScope_eq { abseilBegin errTileWatchdog t s with rcv.expired := [t] } (tileOf s t).queue
  exact ⟨l, joined⟩

theorem effTileWatchdog_of_idle {t : Nat} (expired : progExpired s t = true) (idle : s.hif.loss = .idle) (rest : s.rcv.step = 0) :
    effTileWatchdog t s = abseilStart [t] s := by
  unfold effTileWatchdog
  simp [expired, idle, rest]

/-- The watchdog of a job that runs has expired (14 R355). -/
theorem effJobWatchdog_of_expired {q : Nat} {j : Job} (job : (queueOf s q).job = some j) (runs : j.ph = .running)
    (set : jobLimit s q j ≠ 0) (late : jobLimit s q j ≤ j.ran) (idle : s.hif.loss = .idle) (fresh : s.rcv.step ≠ 6) :
    effJobWatchdog q s = if s.rcv.step = 0 then
        joinScope q { drawn (abseilBegin errJobWatchdog (Config.openVal s.free % 96) s) with rcv.jobTrig := some q }
      else if s.rcv.suspects.any (fun x => decide (x.queue = q)) then s
      else ctxAbort (queueOf s q).ctx errJobWatchdog s := by
  have quiet : replaying s q = false := by simp [replaying, job, fresh]
  unfold effJobWatchdog
  simp [job, runs, set, idle, quiet, Nat.not_lt.mpr late]

end

/-! ## The drain (14 R364) -/

section
variable (s : State)

theorem jobView_suspects (l : List Suspect) : jobView (l.foldl (fun s x => suspectHalt x s) s) = jobView s :=
  (Within.foldl (fun u x => within_suspectHalt u x) l s).keeps jobView fun _ => rfl

/-- The end of the drain (14 R364 step 2): the tiles of the scope have stopped. -/
theorem effDrainStop_spec (wf : Formed s) (step : s.rcv.step = 2) (due : s.rcv.since + 1000000 ≤ s.now) :
    (effDrainStop s).rcv.step = 3 ∧ (effDrainStop s).rcv.scope = s.rcv.scope ∧
      ∀ x ∈ scopeTiles s, (tileOf (effDrainStop s) x).part ≠ .running := by
  unfold effDrainStop
  rw [if_neg (by have h : ¬ s.now < s.rcv.since + msNs := Nat.not_lt.mpr due; simp [step, h])]
  extract_lets s1 rcv s2 s3 s4 s5 s6 n
  have jobs : jobView s1 = jobView s := each_keeps jobView (fun q t => jobView_effJobComplete t q) _ _
  have form1 : Formed s1 := (Within.each (fun q t => within_effJobComplete t q) _ s).formed wf
  have form2 : Formed s3 := (Within.after (within_drawn _) (.after (within_drawn _) (.upd [.rcv] (by rfl)))).formed form1
  have stored : Within [.hbm] s3 s4 := .each (fun t u => within_hbmWrite ..) _ _
  have halted : Within [.queue] s4 s5 := .foldl (fun u x => within_suspectHalt u x) _ _
  have stops : Within [.tile] s5 s6 := .each (fun t u => within_stopTile u t) _ _
  have all : Within _ s3 s6 := .after stops (.after halted stored)
  have scope3 : s3.rcv.scope = s.rcv.scope := congrArg (fun v => v.1.scope) jobs
  have scope5 : scopeTiles s5 = scopeTiles s := by
    have h : s5.rcv.scope = s.rcv.scope := ((Within.after halted stored).keeps (·.rcv.scope) fun _ => rfl).trans scope3
    rw [scopeTiles, scopeTiles, h]
  have ended : Within _ s6 (endTxns (scopeTxn s6) errAbseilReset s6) := within_endTxns ..
  refine ⟨rfl, ?_, fun x hx => ?_⟩
  · exact (ended.keeps (·.rcv.scope) fun _ => rfl).trans ((all.keeps (·.rcv.scope) fun _ => rfl).trans scope3)
  · have moved := (slotMoves_endTxns s6 (scopeTxn s6) errAbseilReset).step (all.formed form2) x
    obtain ⟨_, part⟩ := moved
    have left : (tileOf s6 x).part ≠ .running := by
      rw [show tileOf s6 x = _ from tileOf_each_stopTile s5 _ x, scope5]
      by_cases idle : (tileOf s5 x).part = .idle
      · simp [idle]
      · simp [hx, idle, stopped]
    show (tileOf (endTxns (scopeTxn s6) errAbseilReset s6) x).part ≠ .running
    rcases part with keeps | ends
    · rw [keeps]; exact left
    · rw [ends]; simp

end

/-! ## The records of step 4 (14 R364) -/

section
variable (s : State)

theorem recordEnd_of_waiting (h : ∃ e ∈ s.erq.incoming, e.code = errTileWatchdog) : recordEnd s = s := by
  obtain ⟨e, mem, code⟩ := h
  have waits : recordsAccepted s = false := by
    rw [recordsAccepted, List.all_eq_false]
    exact ⟨e, mem, by simp [code]⟩
  simp [recordEnd, waits]

theorem recordEnd_of_accepted (step : s.rcv.step = 4) (h : ∀ e ∈ s.erq.incoming, e.code ≠ errTileWatchdog) :
    recordEnd s = match jobTrigCtx s with
      | some c => abseilEnd (ctxAbort c errJobWatchdog s)
      | none => { s with rcv.step := 5, rcv.stepAt := s.now } := by
  have all : recordsAccepted s = true := by simpa [recordsAccepted] using h
  simp only [recordEnd, step, all]
  rfl

/-- Raising records while HOST is on puts them behind those that wait, in order. -/
theorem incoming_raiseAll (l : List ErrRec) (on : domOn s dHOST = true) :
    (l.foldl (fun s e => raise e s) s).erq.incoming = s.erq.incoming ++ l := by
  induction l generalizing s with
  | nil => simp
  | cons e l ih =>
    have still : domOn (raise e s) dHOST = true := (congrArg (fun p : Pwr => p.on.getLsbD dHOST) ((within_raise s e).keeps (·.pwr) fun _ => rfl)).trans on
    rw [List.foldl_cons, ih _ still, incoming_raise, if_pos on, List.append_assoc, List.singleton_append]

/-- The samples and the header are written, and the records of step 4 raised (14 R364 steps 3 and 4). -/
def sampled : State :=
  let s := { s with rcv.suspects := sortBy suspectLe s.rcv.suspects }
  let s := writeHeader (each (scopeTiles s) writeSample s)
  { s.rcv.recs.foldl (fun s e => raise e s) s with rcv.step := 4 }

theorem effSampleDone_of_step (step : s.rcv.step = 3) : effSampleDone s = recordEnd (sampled s) := by
  rw [effSampleDone, if_neg (by simp [step])]
  rfl

theorem sampled_spec (on : domOn s dHOST = true) : (sampled s).erq.incoming = s.erq.incoming ++ s.rcv.recs ∧
    (sampled s).tile = s.tile ∧ (sampled s).obj = s.obj ∧ (sampled s).rcv.jobTrig = s.rcv.jobTrig ∧ (sampled s).now = s.now ∧
    (sampled s).rcv.step = 4 := by
  unfold sampled
  extract_lets rcv u v w
  have written : Within [.hbm] u v := .sub (.after (within_writeHeader _) (.each (fun t u => within_writeSample u t) _ _)) (by rfl)
  have raised : Within [.out, .erqIn, .dict] v (v.rcv.recs.foldl (fun s e => raise e s) v) := .foldl (fun u e => within_raise u e) _ _
  have still : domOn v dHOST = true :=
    (congrArg (fun p : Pwr => p.on.getLsbD dHOST) (written.keeps (·.pwr) fun _ => rfl)).trans on
  have all := Within.after raised written
  refine ⟨?_, all.keeps (·.tile) fun _ => rfl, all.keeps (·.obj) fun _ => rfl, all.keeps (·.rcv.jobTrig) fun _ => rfl,
    all.keeps (·.now) fun _ => rfl, rfl⟩
  have recs : v.rcv.recs = s.rcv.recs := written.keeps (·.rcv.recs) fun _ => rfl
  have before : v.erq.incoming = s.erq.incoming := written.keeps (·.erq.incoming) fun _ => rfl
  exact (incoming_raiseAll v _ still).trans (by rw [recs, before])

/-- ERROR_RECORD_ACCEPT where the arbiter can take the record (05 R133). -/
def accepted (i : Nat) : State :=
  erqStore (lget { code := 0 } s.erq.incoming i) s.erq.seq s.erq.time
    (markFirst (lget { code := 0 } s.erq.incoming i) s.erq.seq (bump 0x3015 0 1 { s with
      erq.incoming := ldel s.erq.incoming i, erq.seq := s.erq.seq + 1, erq.lastAcc := some s.erq.time }))

theorem effErrorAccept_of_on {i : Nat} (on : domOn s dHOST = true) (here : i < s.erq.incoming.length)
    (free : s.erq.lastAcc ≠ some s.erq.time) : effErrorAccept i s = accepted s i := by
  unfold effErrorAccept
  rw [if_neg (by simp [on, here, free])]
  rfl

theorem within_accepted (i : Nat) : Within [.queue, .stat, .out, .erq, .hif]
    { s with erq.incoming := ldel s.erq.incoming i, erq.seq := s.erq.seq + 1, erq.lastAcc := some s.erq.time } (accepted s i) :=
  .sub (.after (within_erqStore ..) (.after (within_markFirst ..) (within_bump ..))) (by rfl)

theorem incoming_accepted (i : Nat) : (accepted s i).erq.incoming = ldel s.erq.incoming i :=
  (within_accepted s i).keeps (·.erq.incoming) fun _ => rfl

theorem rcv_accepted (i : Nat) : (accepted s i).rcv = s.rcv := (within_accepted s i).keeps (·.rcv) fun _ => rfl

/-- An Abseil with no expiry waiting ends whole. -/
theorem abseilEnd_of_alone (h : s.rcv.queued = []) : (abseilEnd s).rcv.step = 0 ∧ (abseilEnd s).rcv.scope = 0 := by
  rw [abseilEnd, h]
  exact ⟨rfl, rfl⟩

/-- The record of step 4 that is accepted last ends it, by the abort of a job watchdog's context (14 R355). -/
theorem recordEnd_of_jobTrig {c : Nat} (step : s.rcv.step = 4) (h : ∀ e ∈ s.erq.incoming, e.code ≠ errTileWatchdog)
    (trig : jobTrigCtx s = some c) (alone : s.rcv.queued = []) (live : (ctxOf s c).st = .live) :
    (recordEnd s).rcv.step = 0 ∧ (recordEnd s).rcv.scope = 0 ∧ (ctxOf (recordEnd s) c).st = .aborted := by
  rw [recordEnd_of_accepted s step h, trig]
  have rest : (ctxAbort c errJobWatchdog s).rcv.queued = [] :=
    (congrArg Rcv.queued (jobView_ctxAbort s c errJobWatchdog)).trans alone
  obtain ⟨done, scope⟩ := abseilEnd_of_alone _ rest
  refine ⟨done, scope, ?_⟩
  have ctx : ctxOf (abseilEnd (ctxAbort c errJobWatchdog s)) c = ctxOf (ctxAbort c errJobWatchdog s) c :=
    (within_abseilEnd _).keeps (ctxOf · c) fun _ => rfl
  exact (congrArg Ctx.st ctx).trans (ctxOf_ctxAbort s c errJobWatchdog live)

end

/-! ## The reset of the scope (14 R364) -/

section
variable (s : State)

theorem each_cons (f : Nat → State → State) (i : Nat) (l : List Nat) : each (i :: l) f s = each l f (f i s) := rfl

theorem owner_scrubQuad {k j : Nat} (here : k < s.quad.length) :
    (quadOf (scrubQuad k none s) j).owner = if j = k then none else (quadOf s j).owner := by
  have quads := quad_each_scrubTile s (tilesOf k)
  have scrubbed := fun u => scrubQuad_eq (u := u) s k none
  generalize each (tilesOf k) scrubTile s = u at quads scrubbed
  rw [scrubbed u rfl, quadOf_setQuad _ k j _ (by exact lt_of_lt_of_eq here (congrArg List.length quads.symm))]
  split
  · rfl
  · exact congrArg (fun l => (lget {} l j).owner) quads

/-- Quadrants that are scrubbed have no owner. -/
theorem owner_each_scrubQuad (l : List Nat) {k : Nat} (four : s.quad.length = 4) (small : ∀ i ∈ l, i < 4)
    (h : k ∈ l ∨ (quadOf s k).owner = none) : (quadOf (each l (fun k s => scrubQuad k none s) s) k).owner = none := by
  induction l generalizing s with
  | nil => exact h.resolve_left List.not_mem_nil
  | cons i l ih =>
    rw [show ∀ f, each (i :: l) f s = each l f (f i s) from fun _ => rfl]
    refine ih (scrubQuad i none s) ((within_scrubQuad s i none).quad_length four) (fun j hj => small j (by simp [hj])) ?_
    rw [owner_scrubQuad s (four ▸ small i (by simp))]
    by_cases eq : k = i
    · simp [eq]
    · simpa [eq] using h

theorem recordEnd_of_step (h : s.rcv.step ≠ 4) : recordEnd s = s := by simp [recordEnd, h]

/-- Step 5 ends (14 R364): the quadrants of the scope have no owner. -/
theorem resetScope_spec (wf : Units.wf s = true) (step : s.rcv.step = 5)
    (due : s.rcv.stepAt + 21000 * (scopeQuads s).length ≤ s.now) :
    (resetScope s).rcv.step = 6 ∧ ∀ k, k < 4 → s.rcv.scope.toNat.testBit k = true → (quadOf (resetScope s) k).owner = none := by
  unfold resetScope
  rw [if_neg (by simp [step, Nat.not_lt.mpr due])]
  extract_lets u
  have freed : Within [.quad, .stat] s u := .each (fun q t => within_freeQuads t q) _ _
  have scope : scopeQuads u = scopeQuads s := by
    rw [scopeQuads, scopeQuads, freed.keeps (·.rcv.scope) fun _ => rfl]
  have four : u.quad.length = 4 := freed.quad_length (units_of_wf wf).2.2.2.1
  refine ⟨rfl, fun k small bit => ?_⟩
  have mem : k ∈ scopeQuads u := by rw [scope]; simp [scopeQuads, small, bit]
  exact owner_each_scrubQuad u (scopeQuads u) four (fun i hi => List.mem_range.mp (List.mem_filter.mp hi).1) (.inl mem)

/-- The next replay leaves the owners of the quadrants, and the step. -/
theorem replayNext_runChecks (hr : List Host.Cell) (k : Nat) :
    (replayNext (fun q s => runChecks q hr s) s).rcv.step = (resetScope s).rcv.step ∧
      (quadOf (replayNext (fun q s => runChecks q hr s) s) k).owner = (quadOf (resetScope s) k).owner := by
  unfold replayNext
  generalize resetScope s = u
  dsimp only
  split
  · split
    · next q v taken =>
      have view := jobView_runChecks v q hr
      have step : (runChecks q hr v).rcv.step = v.rcv.step := congrArg (fun w => w.1.step) view
      have owner : (quadOf (runChecks q hr v) k).owner = (quadOf v k).owner := congrArg (fun w => w.2 k) view
      obtain ⟨⟨x, j⟩, _, same⟩ := Option.map_eq_some_iff.mp taken
      obtain ⟨rfl, rfl⟩ := Prod.mk.inj same
      exact ⟨step, owner⟩
    · exact ⟨rfl, rfl⟩
  · exact ⟨rfl, rfl⟩

end

/-- Settles O43: each step of an Abseil by the equation of its command; the completion of a job reaches none of an Abseil's
registers but its suspects and its replay (`jobView_jobTry`), and the end of a transaction can only end a tile's part
(`slotMoves_endTxns`). -/
theorem abseilActs : Obligations.AbseilActs := by
  unfold Obligations.AbseilActs
  refine ⟨fun s t expired idle rest => ?_, fun s q j job runs set late idle => ⟨fun rest => ?_, fun busy fresh apart live => ?_⟩,
    fun s wf step due => ?_, fun s step on => ⟨fun waits => ?_, fun none trig => ?_⟩, fun s i step on here free => ⟨fun waits => ?_,
    fun none => ⟨fun trig => ?_, fun c trig alone live => ?_⟩⟩, fun s hr wf step => ⟨fun early => ?_, fun due => ?_⟩,
    fun s low high due idle => ?_⟩
  · obtain ⟨l, started⟩ := abseilStart_one s t
    refine ⟨_, congrArg Outcome.next ((effTileWatchdog_of_idle s expired idle rest).trans started), rfl, rfl, rfl, rfl, rfl, rfl,
      fun k small => ?_⟩
    have bit := testBit_mask (fun k => decide ((quadOf s k).holder = some (tileOf s t).queue)) small
    exact (Bool.eq_iff_iff.mp bit).trans (by simp [heldQuads, small])
  · obtain ⟨l, joined⟩ := joinScope_eq { drawn (abseilBegin errJobWatchdog (Config.openVal s.free % 96) s) with
      rcv.jobTrig := some q } q
    have started := (effJobWatchdog_of_expired s job runs set late idle (by simp [rest])).trans ((if_pos rest).trans joined)
    exact ⟨_, congrArg Outcome.next started, rfl, rfl, rfl, rfl⟩
  · have apart' : s.rcv.suspects.any (fun x => decide (x.queue = q)) = false := by simpa using apart
    have aborts := (effJobWatchdog_of_expired s job runs set late idle fresh).trans (by rw [if_neg busy, apart', if_neg (by simp)])
    exact ⟨_, congrArg Outcome.next aborts, ctxOf_ctxAbort s _ _ live⟩
  · exact ⟨_, rfl, effDrainStop_spec s ((formed_iff s).mpr wf) step due⟩
  · obtain ⟨incoming, tile, obj, _, _, four⟩ := sampled_spec s on
    have done := (effSampleDone_of_step s step).trans (recordEnd_of_waiting _ (incoming ▸ waits))
    exact ⟨_, congrArg Outcome.next done, four, tile, obj, incoming⟩
  · obtain ⟨incoming, tile, obj, jobTrig, now, four⟩ := sampled_spec s on
    have alone : jobTrigCtx (sampled s) = .none := by rw [jobTrigCtx, jobTrig, trig]; rfl
    have done := (effSampleDone_of_step s step).trans (recordEnd_of_accepted _ four (incoming ▸ none))
    rw [alone] at done
    exact ⟨_, congrArg Outcome.next done, rfl, now, tile, obj⟩
  · have taken := congrArg recordEnd (effErrorAccept_of_on s on here free)
    rw [recordEnd_of_waiting (accepted s i) (by rw [incoming_accepted]; exact waits)] at taken
    exact ⟨_, congrArg Outcome.next taken, rcv_accepted s i, incoming_accepted s i⟩
  · have taken := congrArg recordEnd (effErrorAccept_of_on s on here free)
    have alone : jobTrigCtx (accepted s i) = .none := by rw [jobTrigCtx, rcv_accepted, trig]; rfl
    rw [recordEnd_of_accepted (accepted s i) (by rw [rcv_accepted]; exact step) (by rw [incoming_accepted]; exact none), alone] at taken
    refine ⟨_, congrArg Outcome.next taken, ?_, incoming_accepted s i⟩
    have now : (accepted s i).now = s.now := (within_accepted s i).keeps (·.now) fun _ => rfl
    show { (accepted s i).rcv with step := 5, stepAt := (accepted s i).now } = _
    rw [rcv_accepted, now]
  · have taken := congrArg recordEnd (effErrorAccept_of_on s on here free)
    have trig' : jobTrigCtx (accepted s i) = some c := by rw [jobTrigCtx, rcv_accepted]; exact trig
    have ctx : ctxOf (accepted s i) c = ctxOf s c := (within_accepted s i).keeps (ctxOf · c) fun _ => rfl
    exact ⟨_, congrArg Outcome.next taken, recordEnd_of_jobTrig _ (by rw [rcv_accepted]; exact step)
      (by rw [incoming_accepted]; exact none) trig' (by rw [rcv_accepted]; exact alone) (by rw [ctx]; exact live)⟩
  · have waits : effResetDone hr s = s := by
      rw [effResetDone, recordEnd_of_step s (by simp [step]), replayNext]
      have same : resetScope s = s := by rw [resetScope, if_pos (by simp [early])]
      rw [same]
      simp [step]
    exact congrArg Outcome.next waits
  · obtain ⟨six, owners⟩ := resetScope_spec s wf step due
    have same : effResetDone hr s = replayNext (fun q s => runChecks q hr s) s := by
      rw [effResetDone, recordEnd_of_step s (by simp [step])]
    have next := replayNext_runChecks s hr
    exact ⟨_, congrArg Outcome.next same, (next 0).1.trans six, fun k small bit => (next k).2.trans (owners k small bit)⟩
  · have abandons : effAbseilAbandon s = startLoss 0 3 s := by
      unfold effAbseilAbandon requestCoreReset
      simp [low, high, idle, msNs, due]
    obtain ⟨loss, at', _, core, _, step⟩ := startLoss_loss s 0 3
    exact ⟨_, congrArg Outcome.next abandons, loss, at', core, step⟩

end Sys2Proof.Machine
end

section
/-!
PROOF. Solo Replay, transaction timeouts, the MC watchdog and the crash area (14 R357, R366, R369 to R371, R376).
-/
namespace Sys2Proof.Machine
open Host Claims

/-! ## The outcome of a Solo Replay (14 R366, R371) -/

section
variable (s : State)

/-- The jobs of the other suspects end (14 R371). -/
def cutSuspects (l : List Suspect) (u : State) : State :=
  l.foldl (fun s x => if (suspectJob s x).isSome then jobTry x.queue (cutJob x.queue errAbseilReset s) else s) u

/-- The end of the suspects' jobs leaves the Abseil but for its suspects, and the contexts. -/
theorem cutSuspects_keeps (l : List Suspect) :
    (jobView (cutSuspects l s)).1 = (jobView s).1 ∧ (cutSuspects l s).obj.ctx = s.obj.ctx := by
  refine Prod.mk.inj (foldl_keeps (fun t => ((jobView t).1, t.obj.ctx)) (fun u x => ?_) l s)
  split
  · have view : jobView (jobTry x.queue (cutJob x.queue errAbseilReset u)) = jobView u :=
      (jobView_jobTry _ _).trans ((within_cutJob ..).keeps jobView fun _ => rfl)
    have ctx : (jobTry x.queue (cutJob x.queue errAbseilReset u)).obj.ctx = u.obj.ctx :=
      (Within.after (within_jobTry ..) (within_cutJob ..)).keeps (·.obj.ctx) fun _ => rfl
    rw [view, ctx]
  · rfl

/-- The suspects as the header shows them, with the outcome decided. -/
def judged (conv : Option Nat) : List Suspect :=
  s.rcv.suspects.map (fun (x : Suspect) =>
    if some x.ctx = conv then { x with outcome := 2 } else if x.settled then x
    else if replayable s x then x else { x with outcome := 3 })

/-- The header in the crash area with the suspects `l`. -/
def headed (l : List Suspect) : State := writeHeader { s with rcv.suspects := l }

theorem headed_keeps {α : Type} (f : State → α) (h : ∀ u l m, f { u with rcv.suspects := l, hbm := m } = f u) (l : List Suspect) :
    f (headed s l) = f s := h s l _

/-- What the verdict does: the convicted context is aborted, or the Abseil is counted as one without a conviction. -/
def verdict (conv : Option Nat) (u : State) : State :=
  match conv with
  | some c => ctxAbort c errConvicted { u with rcv.convictions := u.rcv.convictions + 1, rcv.noConv := [] }
  | none => { u with rcv.noConv := u.now :: recentNoConv u }

/-- The end of the Abseil, or the reset that three unconvicted ones ask for (14 R366). -/
def concluded (u : State) : State :=
  if 3 ≤ u.rcv.noConv.length then requestCoreReset 3 { u with rcv.noConv := [] } else abseilEnd u

theorem conclude_eq (conv : Option Nat) :
    conclude conv s = concluded (cutSuspects (judged s conv) (verdict conv (headed s (judged s conv)))) := by
  cases conv <;> rfl

/-- The counters of an Abseil's outcome, and the contexts. -/
def outcomeView (t : State) : List Nat × BitVec 32 × List Nat × Tab Ctx := (t.rcv.queued, t.rcv.convictions, t.rcv.noConv, t.obj.ctx)

theorem outcomeView_cutSuspects (l : List Suspect) : outcomeView (cutSuspects l s) = outcomeView s := by
  obtain ⟨view, ctx⟩ := cutSuspects_keeps s l
  have rcv := congrArg (fun r : Rcv => (r.queued, r.convictions, r.noConv)) view
  simp only [Prod.mk.injEq] at rcv
  obtain ⟨queued, convictions, noConv⟩ := rcv
  exact Prod.ext queued (Prod.ext convictions (Prod.ext noConv ctx))

theorem concluded_spec (alone : s.rcv.queued = []) (few : s.rcv.noConv.length < 3) :
    (concluded s).rcv.step = 0 ∧ (concluded s).rcv.convictions = s.rcv.convictions ∧
      (concluded s).rcv.noConv = s.rcv.noConv ∧ (concluded s).obj.ctx = s.obj.ctx := by
  rw [concluded, if_neg (by omega), abseilEnd, alone]
  exact ⟨rfl, rfl, rfl, rfl⟩

/-- The outcome as the verdict leaves it. -/
theorem conclude_spec {conv : Option Nat} {n : BitVec 32} {l : List Nat} {ctx : Tab Ctx} (few : l.length < 3)
    (h : outcomeView (verdict conv (headed s (judged s conv))) = ([], n, l, ctx)) :
    (conclude conv s).rcv.step = 0 ∧ (conclude conv s).rcv.convictions = n ∧ (conclude conv s).rcv.noConv = l ∧
      (conclude conv s).obj.ctx = ctx := by
  rw [conclude_eq]
  have view := (outcomeView_cutSuspects _ (judged s conv)).trans h
  generalize cutSuspects _ _ = u at view
  simp only [outcomeView, Prod.mk.injEq] at view
  obtain ⟨queued, convictions, noConv, ctx'⟩ := view
  obtain ⟨step, convictions', noConv', ctx''⟩ := concluded_spec u queued (by rw [noConv]; exact few)
  exact ⟨step, convictions'.trans convictions, noConv'.trans noConv, ctx''.trans ctx'⟩

/-- A conviction (14 R370, R371). -/
theorem conclude_some {c : Nat} (alone : s.rcv.queued = []) (live : (ctxOf s c).st = .live) :
    (conclude (some c) s).rcv.step = 0 ∧ (conclude (some c) s).rcv.convictions = s.rcv.convictions + 1 ∧
      (conclude (some c) s).rcv.noConv = [] ∧ (ctxOf (conclude (some c) s) c).st = .aborted := by
  have same : (headed s (judged s (some c))).rcv.queued = s.rcv.queued ∧
      (headed s (judged s (some c))).rcv.convictions = s.rcv.convictions ∧
      ctxOf (headed s (judged s (some c))) c = ctxOf s c :=
    ⟨headed_keeps s (·.rcv.queued) (fun _ _ _ => rfl) _, headed_keeps s (·.rcv.convictions) (fun _ _ _ => rfl) _,
      headed_keeps s (ctxOf · c) (fun _ _ _ => rfl) _⟩
  obtain ⟨queued, convictions, ctx⟩ := same
  have counted : ∀ u, outcomeView (verdict (some c) u) = (u.rcv.queued, u.rcv.convictions + 1, [], (verdict (some c) u).obj.ctx) := by
    intro u
    have rcv := congrArg (fun r : Rcv => (r.queued, r.convictions, r.noConv))
      (jobView_ctxAbort { u with rcv.convictions := u.rcv.convictions + 1, rcv.noConv := [] } c errConvicted)
    simp only [Prod.mk.injEq] at rcv
    obtain ⟨queued, convictions, noConv⟩ := rcv
    exact Prod.ext queued (Prod.ext convictions (Prod.ext noConv rfl))
  obtain ⟨step, conv, noConv, ctx'⟩ := conclude_spec s (conv := some c) (l := []) (by simp)
    ((counted _).trans (by rw [queued, convictions, alone]))
  have aborted : ∀ u, (ctxOf u c).st = .live → (ctxOf (verdict (some c) u) c).st = .aborted := fun u =>
    ctxOf_ctxAbort { u with rcv.convictions := u.rcv.convictions + 1, rcv.noConv := [] } c errConvicted
  have same : ctxOf (conclude (some c) s) c = ctxOf (verdict (some c) (headed s (judged s (some c)))) c := by rw [ctxOf, ctx', ctxOf]
  exact ⟨step, conv, noConv, (congrArg Ctx.st same).trans (aborted _ ((congrArg Ctx.st ctx).trans live))⟩

/-- An outcome without a conviction (14 R366, R371). -/
theorem conclude_none (few : (recentNoConv s).length < 2) (alone : s.rcv.queued = []) :
    (conclude none s).rcv.step = 0 ∧ (conclude none s).rcv.convictions = s.rcv.convictions ∧
      (conclude none s).rcv.noConv = s.now :: recentNoConv s ∧ (conclude none s).obj.ctx = s.obj.ctx := by
  have same : (headed s (judged s none)).rcv.queued = s.rcv.queued ∧
      (headed s (judged s none)).rcv.convictions = s.rcv.convictions ∧ (headed s (judged s none)).now = s.now ∧
      recentNoConv (headed s (judged s none)) = recentNoConv s ∧ (headed s (judged s none)).obj.ctx = s.obj.ctx :=
    ⟨headed_keeps s (·.rcv.queued) (fun _ _ _ => rfl) _, headed_keeps s (·.rcv.convictions) (fun _ _ _ => rfl) _,
      headed_keeps s (·.now) (fun _ _ _ => rfl) _, headed_keeps s recentNoConv (fun _ _ _ => rfl) _,
      headed_keeps s (·.obj.ctx) (fun _ _ _ => rfl) _⟩
  obtain ⟨queued, convictions, now, recent, ctx⟩ := same
  refine conclude_spec s (conv := none) (by simp; omega) ?_
  have counted : ∀ u, outcomeView (verdict none u) = (u.rcv.queued, u.rcv.convictions, u.now :: recentNoConv u, u.obj.ctx) :=
    fun _ => rfl
  rw [counted, queued, alone, convictions, now, recent, ctx]

end

theorem soloReplayActs : SoloReplayActs := by
  refine ⟨fun s six idle last alone => ⟨fun c one live => ?_, fun several few => ?_⟩, fun s q x six due running found alone live => ?_⟩
  · have ends : effReplayEnd s = conclude (some c) s := by
      unfold effReplayEnd
      rw [if_neg (by simp [six, idle, last]), one]
    exact ⟨_, congrArg Outcome.next ends, conclude_some s alone live⟩
  · have ends : effReplayEnd s = conclude none s := by
      unfold effReplayEnd
      rw [if_neg (by simp [six, idle, last])]
      split
      · next c one => simp [one] at several
      · rfl
    exact ⟨_, congrArg Outcome.next ends, conclude_none s few alone⟩
  · have ends : effReplayLimit s = conclude (some x.ctx) s := by
      unfold effReplayLimit
      have late : s.rcv.replayAt + param s 0x5015 1000 * msNs ≤ s.now := due
      rw [if_pos (by simp [six, late]), running]
      dsimp only
      rw [replayHang, found]
    obtain ⟨step, convictions, _, ctx⟩ := conclude_some s alone live
    exact ⟨_, congrArg Outcome.next ends, step, convictions, ctx⟩

/-! ## The end of a transaction whose tag ran out (14 R357) -/

section
variable (s : State)

theorem tget_quarantine (l : List Nat) (n : Nat) (q : Tab Nat) {k : Nat} (h : k ∈ l ∨ tget 0 q k = n + 1) :
    tget 0 (l.foldl (fun q t => tput 0 q t (n + 1)) q) k = n + 1 := by
  induction l generalizing q with
  | nil => exact h.resolve_left List.not_mem_nil
  | cons i l ih =>
    refine ih _ ?_
    by_cases same : k = i
    · subst same
      exact .inr (tget_tput_self _ _ (by simp) _ _)
    · rw [tget_tput_of_ne _ _ (by simp) _ _ _ same]
      simpa [same] using h

theorem tget_dropped (l : List Nat) (t : Tab (Option Tag)) {k : Nat} (h : k ∈ l) :
    tget none (t.filter (fun e => !l.contains e.1)) k = none := by
  by_contra held
  have mem := mem_of_tget held
  have kept := (List.mem_filter.mp mem).2
  simp [h] at kept

/-- A transaction that ends leaves the engine, and its tags are held out of use for 100 ms (14 R357, R359). -/
theorem endTxn_spec {id : Nat} {x : Txn} (status : Nat) (quiet : Bool) (open' : txnOf s id = some x) (wf : tabWf none s.txn.txns = true) :
    txnOf (endTxn id status quiet s) id = none ∧ (endTxn id status quiet s).hbm = s.hbm ∧
      ∀ k ∈ tagsOf s id, tget none (endTxn id status quiet s).txn.tags k = none ∧
        tget 0 (endTxn id status quiet s).txn.quar k = s.now + 1 := by
  unfold endTxn
  rw [open']
  dsimp only
  have rest : ∀ u, txnOf (txnNotify id x status quiet u) id = txnOf u id ∧ (txnNotify id x status quiet u).hbm = u.hbm ∧
      (txnNotify id x status quiet u).txn.tags = u.txn.tags ∧ (txnNotify id x status quiet u).txn.quar = u.txn.quar := fun u =>
    ⟨(within_txnNotify ..).keeps (txnOf · id) fun _ => rfl, (within_txnNotify ..).keeps (·.hbm) fun _ => rfl,
      (within_txnNotify ..).keeps (·.txn.tags) fun _ => rfl, (within_txnNotify ..).keeps (·.txn.quar) fun _ => rfl⟩
  obtain ⟨txn, hbm, tags, quar⟩ := rest { quarantine (tagsOf s id) s with txn.txns := tput none s.txn.txns id none }
  refine ⟨txn.trans ?_, hbm, fun k mem => ⟨?_, ?_⟩⟩
  · exact (tget_tput _ _ _ _ _ wf).trans (if_pos rfl)
  · exact (congrArg (tget none · k) tags).trans (tget_dropped (tagsOf s id) s.txn.tags mem)
  · exact (congrArg (tget 0 · k) quar).trans (tget_quarantine (tagsOf s id) s.now s.txn.quar (.inl mem))

/-- The aggregation of timeouts reaches its own list alone. -/
theorem timeoutAgg_eq (c n jobId dtag : Nat) : ∃ l, (timeoutAgg c n jobId dtag s).2 = { s with txn.agg := l } := by
  unfold timeoutAgg
  dsimp only
  split
  · exact ⟨_, rfl⟩
  · split
    · exact ⟨_, rfl⟩
    · split <;> exact ⟨_, rfl⟩

/-- LINK_TRANSACTION_TIMEOUT ends the transaction of the tag, in a state that differs in what is counted and recorded. -/
theorem effLinkTimeout_of_late {tag : Nat} {g : Tag} {x : Txn} (held : tget none s.txn.tags tag = some g)
    (open' : txnOf s g.txn = some x) (late : param s 0x5011 2000 * 1000 ≤ g.run) :
    ∃ u, effLinkTimeout tag s = endTxn g.txn errLinkTimeout true u ∧ Within [.out, .erqIn, .txn, .dict] s u := by
  unfold effLinkTimeout
  rw [held]
  dsimp only
  rw [open']
  dsimp only
  rw [if_neg (Nat.not_lt.mpr late)]
  obtain ⟨l, counted⟩ := timeoutAgg_eq s x.ctx (tagsOf s g.txn).length x.jobId x.dtag
  have agg : Within [.txn] s (timeoutAgg x.ctx (tagsOf s g.txn).length x.jobId x.dtag s).2 := counted ▸ .upd [.txn] (by rfl)
  refine ⟨_, rfl, ?_⟩
  split
  · exact agg.sub (by rfl)
  · exact .sub (.after (within_raise ..) agg) (by rfl)

end

/-! ## The crash area written (14 R369) -/

section
variable (s : State)

theorem length_memRead (d : Byte) (m : Tab Byte) (a n : Nat) : (memRead d m a n).length = n := by
  induction n generalizing a with
  | zero => rfl
  | succ n ih => simp [memRead, ih]

theorem length_hbmRead (pa n : Nat) : (hbmRead s pa n).length = n := length_memRead ..

theorem length_plainRead (k : BitVec 256) (pa n : Nat) : (plainRead s k pa n).length = n := by
  unfold plainRead
  split
  · next zero => simp [zero]
  · exact sliceB_length ..

theorem length_exportPart (c t : Nat) (sample : Bool) : (exportPart s c t sample).length = if sample then 0x10000 else 256 := by
  unfold exportPart
  dsimp only
  split
  · exact List.length_replicate
  · cases sample
    · exact length_hbmRead ..
    · rw [if_neg (by simp), if_pos rfl]
      split
      · exact length_plainRead ..
      · simp

theorem length_flatMap_range (f : Nat → Bytes) (n k : Nat) (h : ∀ i, (f i).length = k) : ((List.range n).flatMap f).length = n * k := by
  simp [List.length_flatMap, h]

/-- The image is 2,048 pages long. -/
theorem length_exportImage (c : Nat) : (exportImage s c).length = 4096 * 2048 := by
  simp only [exportImage, List.length_append, length_hbmRead,
    length_flatMap_range _ 96 256 fun t => length_exportPart s c t false,
    length_flatMap_range _ 96 0x10000 fun t => length_exportPart s c t true]

theorem hostWrite_of_idle (addr : Nat) (data : Bytes) (owned : Bool) (use : HostUse) (idle : s.hif.loss = .idle) :
    (hostWrite addr data owned use s).hif.nextReq = s.hif.nextReq + 1 ∧ (hostWrite addr data owned use s).hif.loss = .idle := by
  rw [hostWrite, if_neg (by simp [idle])]
  exact ⟨rfl, idle⟩

/-- Whole pages are written by one request each. -/
theorem hostPieces_pages (use : HostUse) (num : Nat) (m : MemObj) (fuel off n : Nat) (b : Bytes) (idle : s.hif.loss = .idle)
    (aligned : off % 4096 = 0) (long : b.length = 4096 * n) (enough : n ≤ fuel) :
    (hostPieces use num m fuel off b s).hif.nextReq = s.hif.nextReq + n := by
  induction fuel generalizing s off n b with
  | zero =>
    obtain rfl : n = 0 := by omega
    rfl
  | succ fuel ih =>
    unfold hostPieces
    cases n with
    | zero =>
      rw [if_pos (by simpa using long)]
      rfl
    | succ n =>
      have ne : b.isEmpty = false := by
        cases b with
        | nil => simp at long
        | cons x b => rfl
      rw [if_neg (by simp [ne])]
      dsimp only
      obtain ⟨next, idle'⟩ := hostWrite_of_idle s (m.pa + off) (b.take (4096 - off % 4096)) (isOwned s num (off / 4096)) use idle
      rw [ih _ _ n _ idle' (by omega) (by rw [List.length_drop]; omega) (by omega), next]
      omega

/-- EXPORT_GO starts (14 R369). -/
def exporting : State := drawn { s with rcv.exBusy := true, rcv.exCode := 0 }

theorem effExportGo_of_good (ready : hostReady s = true) (free : s.rcv.exBusy = false) (on : domOn s dMEM = true)
    (live : (ctxOf s s.rcv.exCtx.toNat).st = .live ∨ (ctxOf s s.rcv.exCtx.toNat).st = .aborted)
    (own : (moOf s s.rcv.exObj.toNat).ctx = s.rcv.exCtx.toNat) (host : (moOf s s.rcv.exObj.toNat).host = true)
    (writable : moWritable (moOf s s.rcv.exObj.toNat) = true) (large : 0x800000 ≤ (moOf s s.rcv.exObj.toNat).size) :
    effExportGo s = hostPieces .image s.rcv.exObj.toNat (moOf s s.rcv.exObj.toNat) 2049 0
      (exportImage s s.rcv.exCtx.toNat) (exporting s) := by
  have used : (moOf s s.rcv.exObj.toNat).st ≠ .free := by
    intro gone
    simp [moWritable, gone] at writable
  unfold effExportGo
  rw [if_neg (by simp [ready, free])]
  dsimp only
  rw [if_neg (by rcases live with h | h <;> simp [on, h]), if_neg (by simp [used, own, host, writable]; omega)]
  rfl

end

theorem timeoutsAndExportAct : TimeoutsAndExportAct := by
  refine ⟨fun s tag g x wf held open' late => ?_, fun s kicks => ?_, fun s runs free past due => ?_, fun s awake => ?_,
    fun s c m ready free hc hm => ⟨fun on live own host writable large => ?_, fun live aborted => ?_⟩⟩
  · obtain ⟨u, ends, counted⟩ := effLinkTimeout_of_late s held open' late
    have txns : u.txn.txns = s.txn.txns := counted.keeps (·.txn.txns) fun _ => rfl
    have tags : tagsOf u g.txn = tagsOf s g.txn := counted.keeps (tagsOf · g.txn) fun _ => rfl
    obtain ⟨gone, hbm, out⟩ := endTxn_spec u errLinkTimeout true (id := g.txn) (x := x) (by rw [txnOf, txns]; exact open')
      (txns ▸ ((formed_iff s).mpr wf).txns)
    have now : u.now = s.now := counted.keeps (·.now) fun _ => rfl
    rw [tags, now] at out
    exact ⟨_, congrArg Outcome.next ends, gone, out, hbm.trans (counted.keeps (·.hbm) fun _ => rfl)⟩
  · have quiet : romKicks s = true := by
      rcases kicks with parked | ⟨stage, rom⟩
      · simp [romKicks, parked]
      · simp [romKicks, stage, rom]
    have same : effMcWatchdog s = s := by simp [effMcWatchdog, quiet]
    exact congrArg Outcome.next same
  · have silent : romKicks s = false := by
      rcases past with stage | rom
      · simp [romKicks, free, stage]
      · simp [romKicks, free, rom]
    have late : ¬ s.now < s.pwr.mcAt + s.pwr.mcPeriod.toNat * msNs := Nat.not_lt.mpr due
    have resets : effMcWatchdog s =
        coldReset 6 (faultCapture { s with vb.mcResets := BitVec.ofNat 32 (satAdd 32 s.vb.mcResets.toNat 1) }) := by
      simp [effMcWatchdog, runs, silent, late]
    refine ⟨_, congrArg Outcome.next resets, rfl, rfl, rfl, rfl, ?_⟩
    show (BitVec.ofNat 32 (satAdd 32 s.vb.mcResets.toNat 1)).toNat = _
    rw [BitVec.toNat_ofNat, satAdd, Nat.mod_eq_of_lt (by omega)]
  · have kicked : effMcKick 0xC1A5 s = { s with pwr.mcAt := s.now } := by simp [effMcKick, awake]
    exact congrArg Outcome.next kicked
  · subst hc hm
    have starts := effExportGo_of_good s ready free on live own host writable large
    have idle : s.hif.loss = .idle := by
      simp only [hostReady, Bool.and_eq_true, decide_eq_true_eq] at ready
      exact ready.2
    have pages := hostPieces_pages (exporting s) .image s.rcv.exObj.toNat (moOf s s.rcv.exObj.toNat) 2049 0 2048
      (exportImage s s.rcv.exCtx.toNat) idle rfl (length_exportImage s _) (by omega)
    have rest := within_hostPieces .image s.rcv.exObj.toNat (moOf s s.rcv.exObj.toNat) 2049 0
      (exportImage s s.rcv.exCtx.toNat) (exporting s)
    generalize exportImage s s.rcv.exCtx.toNat = image at starts pages rest
    exact ⟨_, congrArg Outcome.next starts, rest.keeps (·.rcv.exBusy) fun _ => rfl, rest.keeps (·.rcv.exCode) fun _ => rfl, pages,
      rest.keeps (·.hbm) fun _ => rfl⟩
  · subst hc hm
    have refused : effExportGo s = exportEnd errObjState s := by
      unfold effExportGo
      rw [if_neg (by simp [ready, free])]
      dsimp only
      rw [if_pos (by simp [live, aborted])]
    exact congrArg Outcome.next refused

/-- Settles O44: Solo Replay by the equation of its outcome (`conclude_eq`), a timeout by `endTxn_spec`, and EXPORT_GO by the
length of its image. -/
theorem soloReplayAndTimeoutsAct : Obligations.SoloReplayAndTimeoutsAct := ⟨soloReplayActs, timeoutsAndExportAct⟩

end Sys2Proof.Machine
end

section
/-!
PROOF. Submission entries and the steps of a job (05 R123 to R127).
-/
namespace Sys2Proof.Machine
open Host Claims

/-! ## The end and the completion of a job (05 R125 to R127) -/

section
variable {s : State} {q : Nat} {j : Job}

theorem queueOf_setQueue_of_job (x : Queue) (h : x.job ≠ none) : queueOf (setQueue s q x) q = x :=
  tget_tput_self _ _ (by rintro rfl; exact h rfl) _ _

/-- A job that ends stays in its queue, ENDED and with a status. -/
theorem queueOf_endJob (status : Nat) (given : Bool) (job : (queueOf s q).job = some j) :
    ∃ st owes, queueOf (endJob q status given s) q =
      { queueOf s q with job := some { j with ph := .ended, status := some st, owes := owes } } ∧ (given = true → st = status) := by
  unfold endJob
  dsimp only
  rw [job]
  refine ⟨_, _, queueOf_setQueue_of_job _ (by simp), fun g => by rw [if_pos g]⟩

/-- The queue of a job whose completion entry is written (R127). -/
def freedQueue (s : State) (q : Nat) : Queue :=
  { queueOf s q with
    job := none
    cqIdx := ((queueOf s q).cqIdx + 1) % 2 ^ (queueOf s q).cqLog
    cqPhase := if (queueOf s q).cqIdx + 1 = 2 ^ (queueOf s q).cqLog then !(queueOf s q).cqPhase else (queueOf s q).cqPhase
    landing := if s.hif.loss = .idle then (queueOf s q).landing + 1 else (queueOf s q).landing }

theorem queueSettle_queues {t : State} (h : t.obj.q = s.obj.q) : (queueSettle q t).obj.q = (queueSettle q s).obj.q := by
  unfold queueSettle
  dsimp only
  rw [queueOf, h, ← queueOf]
  split
  · exact h
  · split
    · split
      · exact congrArg (tput ({} : Queue) · q {}) h
      · exact h
    · split
      · exact congrArg (tput ({} : Queue) · q _) h
      · exact h

theorem queues_finishJob : (finishJob q j s).obj.q = (queueSettle q (setQueue s q (freedQueue s q))).obj.q := by
  unfold finishJob
  extract_lets qu size vec line s1 s2 s3
  have settled : ∀ u, (replaySettled q j u).obj.q = u.obj.q := fun u => (within_replaySettled ..).keeps (·.obj.q) fun _ => rfl
  have written : s1.obj.q = s.obj.q := (Within.after (within_hostWrite ..) (within_drawn _)).keeps (·.obj.q) fun _ => rfl
  have noted : s3.obj.q = s2.obj.q :=
    (Within.after (within_bump ..) (.after (within_bump ..) (within_bump ..))).keeps (·.obj.q) fun _ => rfl
  have freed : (freeQuads q s3).obj.q = s3.obj.q := (within_freeQuads ..).keeps (·.obj.q) fun _ => rfl
  refine (settled _).trans (queueSettle_queues (freed.trans (noted.trans ?_)))
  exact congrArg (tput ({} : Queue) · q _) written

/-- A running queue whose job has gone has none, and its head stays. -/
theorem queueOf_finishJob_of_running (running : (queueOf s q).st = .running) :
    (queueOf (finishJob q j s) q).job = none ∧ (queueOf (finishJob q j s) q).head = (queueOf s q).head := by
  have set := queueOf_setQueue_of_st s q (freedQueue s q) (by simp [freedQueue, running])
  rw [queueOf, queues_finishJob, ← queueOf, queueSettle]
  simp only [set]
  rw [if_neg (by simp [freedQueue]), if_neg (by simp [freedQueue, running])]
  split
  · rw [queueOf_setQueue_of_st _ _ _ (by simp)]
    exact ⟨rfl, rfl⟩
  · rw [set]
    exact ⟨rfl, rfl⟩

/-- A queue in canonical form whose job has gone has none. -/
theorem job_finishJob_of_wf (wf : tabWf {} s.obj.q = true) : (queueOf (finishJob q j s) q).job = none := by
  have set : queueOf (setQueue s q (freedQueue s q)) q = freedQueue s q := (queueOf_setQueue s q q _ wf).trans (if_pos rfl)
  have wf' : tabWf {} (setQueue s q (freedQueue s q)).obj.q = true := tabWf_tput _ _ _ _ wf
  rw [queueOf, queues_finishJob, ← queueOf, queueSettle]
  simp only [set]
  rw [if_neg (by simp [freedQueue])]
  split
  · split
    · rw [queueOf_setQueue _ _ _ _ wf', if_pos rfl]
    · rw [set]; rfl
  · split
    · rw [queueOf_setQueue _ _ _ _ wf', if_pos rfl]; rfl
    · rw [set]; rfl

/-- A job still in its queue once its completion was tried is the one that was there. -/
theorem job_jobTry (h : (queueOf s q).st = .running ∨ tabWf {} s.obj.q = true) {i : Job}
    (left : (queueOf (jobTry q s) q).job = some i) : (queueOf s q).job = some i := by
  unfold jobTry at left
  split at left
  · next j job =>
    split at left
    · have gone : (queueOf (finishJob q j s) q).job = none := h.elim (fun r => (queueOf_finishJob_of_running r).1) job_finishJob_of_wf
      rw [gone] at left
      cases left
    · exact left
  · exact left

theorem head_jobTry (running : (queueOf s q).st = .running) : (queueOf (jobTry q s) q).head = (queueOf s q).head := by
  unfold jobTry
  split
  · split
    · exact (queueOf_finishJob_of_running running).2
    · rfl
  · rfl

/-- A job that ends in a running queue, and is completed where nothing is left to wait for: its queue afterwards. -/
theorem endJob_jobTry_of_running {status : Nat} {given : Bool} (running : (queueOf s q).st = .running)
    (job : (queueOf s q).job = some j) :
    (queueOf (jobTry q (endJob q status given s)) q).head = (queueOf s q).head ∧
      ∀ i, (queueOf (jobTry q (endJob q status given s)) q).job = some i → i.ph = .ended ∧ i.entry = j.entry ∧
        (given = true → i.status = some status) := by
  obtain ⟨st, owes, ended, kept⟩ := queueOf_endJob status given job
  have running' : (queueOf (endJob q status given s) q).st = .running := by rw [ended]; exact running
  refine ⟨(head_jobTry running').trans (by rw [ended]), fun i left => ?_⟩
  have same := job_jobTry (.inl running') left
  rw [ended] at same
  obtain rfl := Option.some.inj same
  exact ⟨rfl, rfl, fun g => congrArg some (kept g)⟩

end

/-! ## Reading an entry (05 R123, R125) -/

section
variable {s : State} {q : Nat}

theorem canRead_spec (can : canRead s q = true) : (queueOf s q).st = .running ∧ s.hif.loss = .idle := by
  simp only [canRead, readsEntries, hostReady, Bool.and_eq_true, decide_eq_true_eq] at can
  obtain ⟨⟨⟨⟨⟨⟨⟨⟨⟨-, idle⟩, -⟩, -⟩, running⟩, -⟩, -⟩, -⟩, -⟩, -⟩ := can
  exact ⟨running, idle⟩

/-- The job of an entry as it is read. -/
def entryJob (s : State) (b : Bytes) : Job := { entry := b, accSeq := s.obj.jobSeq, ph := .waiting }

theorem queueOf_takeEntry (b : Bytes) : queueOf (takeEntry q b s) q =
    { queueOf s q with head := ((queueOf s q).head + 1) % 2 ^ (queueOf s q).sqLog, job := some (entryJob s b) } :=
  queueOf_setQueue_of_job (s := drawn s) _ (by simp)

theorem onEntry_of_good {hr : List Host.Cell} {want : Nat → Bool} (act : State → State) (can : canRead s q = true)
    (wanted : want (byteAt (entryAt s hr q) 0) = true) (form : onlyFields entryFields (entryAt s hr q) = true) :
    onEntry q hr want act s = act (takeEntry q (entryAt s hr q) s) := by
  simp [onEntry, can, wanted, form]

/-- A job with no event to signal and no seal slot to close ends with the status given. -/
theorem endJob_of_quiet {j : Job} (status : Nat) (job : (queueOf s q).job = some j) (silent : j.sigv = false)
    (sealed : s.sealer.slots = []) : endJob q status false s = setQueue s q { queueOf s q with
      job := some { j with ph := .ended, status := some (joinStatus status 0), owes := j.owes ++ [] } } := by
  have closed : sealsAtEnd q (queueOf s q).ctx j.id s = (0, [], s) := by
    unfold sealsAtEnd
    split
    · rfl
    · rw [sealed]; rfl
  unfold endJob
  dsimp only
  rw [job]
  simp only [silent, Bool.false_and, Bool.false_eq_true, if_false, closed]
  rfl

/-- A SIGNAL job that ends signals no event a second time. -/
theorem events_endJob_of_signal {j : Job} (status : Nat) (job : (queueOf s q).job = some j) (op : j.opcode = 2) :
    (endJob q status false s).obj.ev = s.obj.ev := by
  unfold endJob
  dsimp only
  rw [job]
  simp only [op, ne_eq, not_true, decide_false, Bool.and_false, Bool.false_eq_true, if_false]
  exact (Within.after (within_setQueue ..) (within_sealsAtEnd ..)).keeps (·.obj.ev) fun _ => rfl

/-- The completion entry of a job, as it leaves (05 R127). -/
theorem out_finishJob (j : Job) (idle : s.hif.loss = .idle) : (finishJob q j s).out =
    s.out ++ [.hostWrite s.hif.nextReq ((queueOf s q).cqBase + 64 * (queueOf s q).cqIdx) (completionBytes s (queueOf s q) j)
      (writeReqs s ((queueOf s q).cqBase + 64 * (queueOf s q).cqIdx) (completionBytes s (queueOf s q) j).length false) false] := by
  unfold finishJob
  extract_lets qu size vec line s1 s2 s3
  have settled : (replaySettled q j (queueSettle q (freeQuads q s3))).out = s3.out :=
    (Within.after (within_replaySettled ..) (.after (within_queueSettle ..) (within_freeQuads ..))).keeps (·.out) fun _ => rfl
  have noted : s3.out = s2.out := (Within.after (within_bump ..) (.after (within_bump ..) (within_bump ..))).keeps (·.out) fun _ => rfl
  have written : s1.out = (drawn s).out ++ [.hostWrite (drawn s).hif.nextReq (qu.cqBase + 64 * qu.cqIdx) line
      (writeReqs (drawn s) (qu.cqBase + 64 * qu.cqIdx) line.length false) (false && (drawn s).pwr.relaxed)] := by
    unfold s1 hostWrite
    rw [if_neg (by simp [idle])]
    rfl
  exact settled.trans (noted.trans written)

theorem leAt_completionBytes (x : Queue) (j : Job) (status : j.status = some 0) :
    leAt (completionBytes s x j) 0 2 = 0 ∧ leAt (completionBytes s x j) 4 4 = j.id := by
  unfold completionBytes
  extract_lets st ft ftv tile dtag
  have zero : st = 0 := by simp [st, status]
  rw [zero]
  simp only [List.append_assoc]
  refine ⟨leAt_leBytes_append _ (by simp), ?_⟩
  rw [leAt_append_right _ _ _ (by simp), leAt_append_right _ _ _ (by simp), leAt_append_right _ _ _ (by simp)]
  simp only [leBytes_length]
  exact leAt_leBytes_append _ (leAt_lt ..)

theorem jobTry_of_ready {j : Job} (job : (queueOf s q).job = some j) (ready : jobReady s q j = true) :
    jobTry q s = finishJob q j s := by
  simp [jobTry, job, ready]

/-- NOP where nothing is left to wait for (05 R123, R127). -/
theorem nop_completes {b : Bytes} (can : canRead s q = true) (silent : bitsAt b 1 4 1 = 0) (sealed : s.sealer.slots = [])
    (quiet : s.erq.incoming = []) (landed : s.erq.lines = []) (free : heldQuads s q = []) (still : (queueOf s q).landing = 0) :
    (queueOf (jobTry q (endJob q 0 false (takeEntry q b s))) q).job = none ∧ ∃ line, leAt line 0 2 = 0 ∧ leAt line 4 4 = leAt b 4 4 ∧
      (jobTry q (endJob q 0 false (takeEntry q b s))).out =
        s.out ++ [.hostWrite s.hif.nextReq ((queueOf s q).cqBase + 64 * (queueOf s q).cqIdx) line
          (writeReqs s ((queueOf s q).cqBase + 64 * (queueOf s q).cqIdx) line.length false) false] := by
  obtain ⟨running, idle⟩ := canRead_spec can
  have taken := queueOf_takeEntry (s := s) (q := q) b
  have job : (queueOf (takeEntry q b s) q).job = some (entryJob s b) := congrArg Queue.job taken
  rw [endJob_of_quiet 0 job (by simp [Job.sigv, entryJob, silent]) sealed]
  have set := queueOf_setQueue_of_job (s := takeEntry q b s) (q := q) { queueOf (takeEntry q b s) q with
    job := some { entryJob s b with ph := .ended, status := some (joinStatus 0 0), owes := (entryJob s b).owes ++ [] } } (by simp)
  generalize ended : setQueue (takeEntry q b s) q _ = u at set ⊢
  have same : heldQuads u q = heldQuads s q ∧ u.erq = s.erq ∧ u.out = s.out ∧ u.hif = s.hif ∧ u.pwr = s.pwr := by
    subst ended
    exact ⟨rfl, rfl, rfl, rfl, rfl⟩
  obtain ⟨held, erq, out, hif, pwr⟩ := same
  rw [taken] at set
  have ready : jobReady u q { entryJob s b with ph := .ended, status := some (joinStatus 0 0), owes := (entryJob s b).owes ++ [] } = true := by
    simp [jobReady, recordsDue, set, held, free, erq, quiet, landed, still, entryJob]
  rw [jobTry_of_ready (by rw [set]) ready]
  obtain ⟨status, id⟩ := leAt_completionBytes (s := u) (queueOf u q)
    { entryJob s b with ph := .ended, status := some (joinStatus 0 0), owes := (entryJob s b).owes ++ [] } rfl
  have leaves := out_finishJob (s := u) (q := q) { entryJob s b with
    ph := .ended, status := some (joinStatus 0 0), owes := (entryJob s b).owes ++ [] } (by rw [hif]; exact idle)
  have reqs (a n : Nat) : writeReqs u a n false = writeReqs s a n false := by
    unfold writeReqs usesCache
    rw [pwr]
  generalize completionBytes u (queueOf u q) _ = line at status id leaves
  refine ⟨(queueOf_finishJob_of_running (by rw [set]; exact running)).1, line, status, id, ?_⟩
  rw [leaves, reqs, out, hif, set]

end

/-! ## Acquisition and start (05 R125) -/

section
variable (s : State)

/-- The checks of RUN, where they hold: the job waits for its quadrants (05 R125 step 2). -/
theorem runChecks_of_good {s : State} {q n va : Nat} {hr : List Host.Cell} {b : Bytes} {j : Job} (job : (queueOf s q).job = some j)
    (quads : j.qmask ≠ 0) (hn : n = bitsAt j.entry 2 0 7) (low : 1 ≤ n) (high : n ≤ 96) (hva : va = leAt j.entry 8 6)
    (aligned : va % 32 = 0) (read : vaRead s hr (queueOf s q).ctx va (32 * n) = (b, none)) (good : jltOk j.qmask n b = true) :
    runChecks q hr s = setQueue (drawn s) q { queueOf s q with
      job := some { j with jlt := jltList n b, ph := .waiting, waited := 0 } } := by
  unfold runChecks
  dsimp only
  rw [job]
  dsimp only
  rw [← hn, ← hva, if_neg (by simp [quads, aligned]; omega), read]
  exact if_pos good

/-- A quadrant is held for the job of a queue. -/
def holdQuad (q c k : Nat) (s : State) : State :=
  setQuad s k { quadOf s k with
    holder := some q, since := s.now, owner := if (quadOf s k).owner.isNone then some c else (quadOf s k).owner }

theorem holder_each_holdQuad (q c : Nat) (l : List Nat) {k : Nat} (four : s.quad.length = 4) (small : ∀ i ∈ l, i < 4)
    (h : k ∈ l ∨ (quadOf s k).holder = some q) : (quadOf (each l (holdQuad q c) s) k).holder = some q := by
  induction l generalizing s with
  | nil => exact h.resolve_left List.not_mem_nil
  | cons i l ih =>
    refine ih (holdQuad q c i s) (by rw [holdQuad, setQuad, lset_length, four]) (fun j hj => small j (by simp [hj])) ?_
    rw [holdQuad, quadOf_setQuad _ _ _ _ (four ▸ small i (by simp))]
    by_cases same : k = i
    · simp [same]
    · simpa [same] using h

/-- The quadrants to be scrubbed for a job of context `c` (05 R125 step 4). -/
def toScrub (c : Nat) (j : Job) : List Nat :=
  j.quads.filter (fun k => match (quadOf s k).owner with
    | some d => decide (d ≠ c)
    | none => false)

theorem effQuadrantAcquire_of_next {q : Nat} {j : Job} (next : nextJob s = some q) (job : (queueOf s q).job = some j)
    (on : ∀ k ∈ j.quads, domOn s (dCQ k) = true) :
    effQuadrantAcquire s = setQueue (each j.quads (holdQuad q (queueOf s q).ctx) s) q
      { queueOf s q with job := some { j with ph := .scrubbing (toScrub s (queueOf s q).ctx j) } } := by
  have all : j.quads.any (fun k => !domOn s (dCQ k)) = false := by
    rw [List.any_eq_false]
    intro k hk
    simp [on k hk]
  unfold effQuadrantAcquire
  rw [next]
  dsimp only
  rw [job]
  dsimp only
  rw [all]
  rfl

/-- A tile after it started its part for queue `q`. -/
def Started (q : Nat) (x : Tile) : Prop := x.part = .running ∧ x.queue = q ∧ x.win = []

theorem started_startTile (q t : Nat) (e : Jlt) (h : t = e.tile ∨ Started q (tileOf s t)) : Started q (tileOf (startTile q e s) t) := by
  have ne : ∀ x : Tile, x.part = .running → x ≠ {} := by
    rintro x part rfl
    cases part
  unfold startTile
  dsimp only
  by_cases same : t = e.tile
  · rw [same, tileOf, setTile, tget_tput_self _ _ (ne _ rfl)]
    exact ⟨rfl, rfl, rfl⟩
  · rw [tileOf, setTile, tget_tput_of_ne _ _ (ne _ rfl) _ _ _ same]
    exact h.resolve_left same

/-- Every listed tile has started (05 R125 step 6). -/
theorem started_all (q : Nat) (l : List Jlt) {t : Nat} (h : t ∈ l.map (·.tile) ∨ Started q (tileOf s t)) :
    Started q (tileOf (l.foldl (fun s e => startTile q e s) s) t) := by
  induction l generalizing s with
  | nil => exact h.resolve_left List.not_mem_nil
  | cons e l ih =>
    refine ih (startTile q e s) ?_
    by_cases listed : t ∈ l.map (·.tile)
    · exact .inl listed
    · refine .inr (started_startTile s q t e ?_)
      rcases h with mem | started
      · rw [List.map_cons, List.mem_cons] at mem
        exact .inl (mem.resolve_right listed)
      · exact .inr started

/-- JOB_START once the scrubs are done and the images can be read (05 R125 steps 5 and 6). -/
theorem effJobStart_of_ok {q : Nat} {j : Job} {hr : List Host.Cell} {l : List (Jlt × Bytes × Bytes)}
    (job : (queueOf s q).job = some j) (scrubbed : j.ph = .scrubbing []) (read : allImages s hr (queueOf s q).ctx j.jlt = .ok l) :
    ∃ u, Within [.free, .tile] s u ∧ effJobStart q hr s = setQueue (j.jlt.foldl (fun s e => startTile q e s) u) q
      { queueOf s q with job := some { j with
          ph := .running, ran := 0, tStart := some (j.jlt.foldl (fun s e => startTile q e s) u).erq.time.toNat } } := by
  refine ⟨l.foldl (fun s i => spWrite i.1.tile i.1.bodyOff i.2.2 (spWrite i.1.tile 0x3FF000 i.2.1 s)) (drawn s), ?_, ?_⟩
  · exact .sub (.after (.foldl (fun u i => .after (within_spWrite ..) (within_spWrite ..)) _ _) (within_drawn s)) (by rfl)
  · unfold effJobStart
    dsimp only
    rw [job]
    dsimp only
    rw [if_pos scrubbed, read]

end

/-- Settles O19: each command by its equation where its checks hold; a job that ends stays in its queue or leaves it with its
completion entry (`endJob_jobTry_of_running`, `job_jobTry`). -/
theorem jobCommandsAct : Obligations.JobCommandsAct := by
  unfold Obligations.JobCommandsAct
  refine ⟨fun s q hr can op form => ?_, fun s q hr can op form own => ?_,
    fun s q n va hr b can op form quads hn low high hva aligned read good => ?_, fun s q j wf next job on => ?_,
    fun s q k rest j wf units small job phase => ?_, fun s q hr j l job phase read => ?_, fun s q j wf job runs ended => ?_⟩
  · have runs : effNop q hr s = jobTry q (endJob q 0 false (takeEntry q (entryAt s hr q) s)) :=
      onEntry_of_good _ can (by simp [op]) form
    have taken := queueOf_takeEntry (s := s) (q := q) (entryAt s hr q)
    obtain ⟨head, left⟩ := endJob_jobTry_of_running (s := takeEntry q (entryAt s hr q) s) (q := q) (status := 0) (given := false)
      (by rw [taken]; exact (canRead_spec can).1) (congrArg Queue.job taken)
    refine ⟨_, congrArg Outcome.next runs, head.trans (by rw [taken]), fun i hi => ?_,
      fun silent sealed quiet landed free still => nop_completes can silent sealed quiet landed free still⟩
    obtain ⟨done, same, _⟩ := left i hi
    exact ⟨done, same⟩
  · have taken := queueOf_takeEntry (s := s) (q := q) (entryAt s hr q)
    generalize hb : entryAt s hr q = b at op form own taken ⊢
    have own' : evOwned (takeEntry q b s) (queueOf s q).ctx (entryJob s b).sigev = true := own
    let u := evAdd (entryJob s b).sigev (entryJob s b).siginc
      { code := 0, src := 1, unit := q, jobId := (entryJob s b).id, job := some q } (takeEntry q b s)
    have signals : jobSignal q (queueOf s q).ctx (entryJob s b) (takeEntry q b s) = (0, u) := by
      rw [jobSignal, if_pos own']
    have runs : effSignal q hr s = jobTry q (endJob q 0 false u) := by
      refine (onEntry_of_good _ can (by simp [hb, op]) (by rw [hb]; exact form)).trans ?_
      rw [hb]
      dsimp only
      rw [taken]
      dsimp only
      rw [signals]
    have queue : queueOf u q = queueOf (takeEntry q b s) q := (within_evAdd ..).keeps (queueOf · q) fun _ => rfl
    have live : (evOf s (entryJob s b).sigev).live = true := by
      simp only [evOwned, Bool.and_eq_true] at own'
      exact own'.1
    obtain ⟨_, count⟩ := evOf_evAdd (takeEntry q b s) (entryJob s b).sigev (entryJob s b).siginc
      { code := 0, src := 1, unit := q, jobId := (entryJob s b).id, job := some q } live
    obtain ⟨head, left⟩ := endJob_jobTry_of_running (s := u) (q := q) (j := entryJob s b) (status := 0) (given := false)
      (by rw [queue, taken]; exact (canRead_spec can).1) (by rw [queue, taken])
    have ended : (endJob q 0 false u).obj.ev = u.obj.ev := events_endJob_of_signal (j := entryJob s b) 0 (by rw [queue, taken]) op
    have tried : (jobTry q (endJob q 0 false u)).obj.ev = (endJob q 0 false u).obj.ev := (within_jobTry ..).keeps (·.obj.ev) fun _ => rfl
    have same : evOf (jobTry q (endJob q 0 false u)) (entryJob s b).sigev = evOf u (entryJob s b).sigev := by
      rw [evOf, tried, ended, evOf]
    refine ⟨_, congrArg Outcome.next runs, head.trans (by rw [queue, taken]), fun i hi => (left i hi).1, ?_⟩
    exact (congrArg (fun e : Event => e.cnt.toNat) same).trans count
  · have taken := queueOf_takeEntry (s := s) (q := q) (entryAt s hr q)
    have runs : effRun q hr s = runChecks q hr (takeEntry q (entryAt s hr q) s) := by
      refine (onEntry_of_good _ can (by simp [op]) form).trans ?_
      rw [taken]
      exact if_pos op
    have reads := runChecks_of_good (s := takeEntry q (entryAt s hr q) s) (q := q) (hr := hr) (j := entryJob s (entryAt s hr q))
      (congrArg Queue.job taken) quads hn low high hva aligned (by rw [taken]; exact read) good
    refine ⟨_, congrArg Outcome.next (runs.trans reads), ?_⟩
    have set := queueOf_setQueue_of_job (s := drawn (takeEntry q (entryAt s hr q) s)) (q := q) { queueOf (takeEntry q (entryAt s hr q) s) q with
      job := some { entryJob s (entryAt s hr q) with jlt := jltList n b, ph := .waiting, waited := 0 } } (by simp)
    rw [set, taken]
    exact ⟨rfl, _, rfl, rfl, rfl, rfl⟩
  · have acquires := effQuadrantAcquire_of_next s next job on
    refine ⟨_, congrArg Outcome.next acquires, fun k hk => ?_, _, congrArg Queue.job (queueOf_setQueue_of_job _ (by simp)), rfl⟩
    exact holder_each_holdQuad s q _ j.quads (units_of_wf wf).2.2.2.1 (fun i hi => List.mem_range.mp (List.mem_filter.mp hi).1)
      (.inl hk)
  · let u := setQueue s q { queueOf s q with job := some { j with ph := .scrubbing rest } }
    have scrubs : effScrubDone q s = bump 0x3014 0 1 (scrubQuad k (some (queueOf s q).ctx) u) := by
      unfold effScrubDone
      dsimp only
      rw [job]
      dsimp only
      rw [phase]
    obtain ⟨owner, tiles, _, mesh⟩ := scrubQuad_spec u (q := k) (some (queueOf s q).ctx) ((formed_iff s).mpr wf).tile
      (lt_of_lt_of_eq small (units_of_wf units).2.2.2.1.symm)
    have held : queueOf (scrubQuad k (some (queueOf s q).ctx) u) q = { queueOf s q with job := some { j with ph := .scrubbing rest } } :=
      ((within_scrubQuad ..).keeps (queueOf · q) fun _ => rfl).trans (queueOf_setQueue_of_job _ (by simp))
    have counted := within_bump (scrubQuad k (some (queueOf s q).ctx) u) 0x3014 0 1
    generalize scrubQuad k (some (queueOf s q).ctx) u = v at scrubs owner tiles mesh held counted
    have bumped : (quadOf (bump 0x3014 0 1 v), tileOf (bump 0x3014 0 1 v), (bump 0x3014 0 1 v).mesh, queueOf (bump 0x3014 0 1 v)) =
        (quadOf v, tileOf v, v.mesh, queueOf v) := counted.keeps (fun t => (quadOf t, tileOf t, t.mesh, queueOf t)) fun _ => rfl
    simp only [Prod.mk.injEq] at bumped
    obtain ⟨quad, tile, flits, queue⟩ := bumped
    refine ⟨_, congrArg Outcome.next scrubs, ?_⟩
    rw [quad, tile, flits, queue, held]
    exact ⟨owner, tiles, mesh, _, rfl, rfl⟩
  · obtain ⟨u, copied, starts⟩ := effJobStart_of_ok s job phase read
    have time : (j.jlt.foldl (fun s e => startTile q e s) u).erq.time = s.erq.time :=
      (foldl_keeps (g := fun s e => startTile q e s) (·.erq.time) (fun t e => rfl) j.jlt u).trans (copied.keeps (·.erq.time) fun _ => rfl)
    have all : ∀ e ∈ j.jlt, Started q (tileOf (j.jlt.foldl (fun s e => startTile q e s) u) e.tile) := fun e he =>
      started_all u q j.jlt (.inl (List.mem_map.mpr ⟨e, he, rfl⟩))
    generalize j.jlt.foldl (fun s e => startTile q e s) u = v at starts time all
    exact ⟨_, congrArg Outcome.next starts, all, _, congrArg Queue.job (queueOf_setQueue_of_job _ (by simp)), rfl, by rw [time], rfl⟩
  · have parts : partsEnded s j = true := by
      rw [partsEnded, List.all_eq_true]
      exact fun e he => decide_eq_true (ended e he)
    let u := setQueue s q { queueOf s q with job := some (gatherJob s j) }
    have completes : effJobComplete q s = jobTry q (endJob q (tileStatus (gatherJob s j)) false u) := by
      unfold effJobComplete
      dsimp only
      rw [job]
      simp only [runs, parts, decide_true, Bool.and_self, if_true]
      rfl
    have held : queueOf u q = { queueOf s q with job := some (gatherJob s j) } := queueOf_setQueue_of_job _ (by simp)
    have form : tabWf {} (endJob q (tileStatus (gatherJob s j)) false u).obj.q = true :=
      ((Within.after (within_endJob ..) (within_setQueue ..)).formed ((formed_iff s).mpr wf)).queue
    refine ⟨_, congrArg Outcome.next completes, fun i left => ?_⟩
    obtain ⟨st, owes, queue, _⟩ := queueOf_endJob (s := u) (q := q) (tileStatus (gatherJob s j)) false (congrArg Queue.job held)
    have same := job_jobTry (.inr form) left
    rw [queue] at same
    obtain rfl := Option.some.inj same
    exact ⟨rfl, rfl⟩

end Sys2Proof.Machine
end

section
/-!
PROOF. The error queue (05 R133 to R135, 06 R164).
-/
namespace Sys2Proof.Machine
open Host Claims

/-! ## Acceptance of a record (05 R133, R134) -/

section
variable (s : State)

/-- What the store of a record leaves of the queue's registers. -/
def erqKept (t : State) : BitVec 64 × Option (BitVec 64) := (t.erq.seq, t.erq.lastAcc)

theorem erqKept_erqPut (e : ErrRec) (seq time : Nat) : erqKept (erqPut e seq time s) = erqKept s :=
  (within_hostWrite ..).keeps erqKept fun _ => rfl

theorem erqKept_erqStore (e : ErrRec) (seq time : BitVec 64) : erqKept (erqStore e seq time s) = erqKept s := by
  have overflow : erqKept (erqOverflow s) = erqKept s := by
    unfold erqOverflow
    split
    · rfl
    · exact erqKept_erqPut ..
  unfold erqStore
  split
  · rfl
  · dsimp only
    split
    · exact overflow
    · exact (erqKept_erqPut ..).trans overflow

/-- The record taken, before it is stored. -/
def takenOut (i : Nat) : State :=
  markFirst (lget { code := 0 } s.erq.incoming i) s.erq.seq (bump 0x3015 0 1 { s with
    erq.incoming := ldel s.erq.incoming i, erq.seq := s.erq.seq + 1, erq.lastAcc := some s.erq.time })

theorem within_takenOut (i : Nat) : Within [.queue, .stat]
    { s with erq.incoming := ldel s.erq.incoming i, erq.seq := s.erq.seq + 1, erq.lastAcc := some s.erq.time } (takenOut s i) :=
  .sub (.after (within_markFirst ..) (within_bump ..)) (by rfl)

theorem accepted_eq (i : Nat) : accepted s i = erqStore (lget { code := 0 } s.erq.incoming i) s.erq.seq s.erq.time (takenOut s i) := rfl

theorem erqKept_accepted (i : Nat) : erqKept (accepted s i) = (s.erq.seq + 1, some s.erq.time) := by
  rw [accepted_eq, erqKept_erqStore]
  exact (within_takenOut s i).keeps erqKept fun _ => rfl

/-- The registers that the store of a record reads. -/
def erqRegs (t : State) : Bool × Bool × BitVec 12 × BitVec 12 × BitVec 52 × List ErqLine × Nat × BitVec 32 :=
  (t.erq.en, t.erq.phase, t.erq.head, t.erq.tail, t.erq.base, t.erq.lines, t.erq.dropN, t.erq.drops)

/-- A record that finds the queue off or full is dropped and counted (05 R134). -/
theorem accepted_of_full (i : Nat) (h : s.erq.en = false ∨ erqFull s = true) : (accepted s i).erq.lines = s.erq.lines ∧
    (accepted s i).out = s.out ∧ (accepted s i).erq.drops = BitVec.ofNat 32 (min (s.erq.drops.toNat + 1) (2 ^ 32 - 1)) := by
  have regs : erqRegs (takenOut s i) = erqRegs s := (within_takenOut s i).keeps erqRegs fun _ => rfl
  have out : (takenOut s i).out = s.out := (within_takenOut s i).keeps (·.out) fun _ => rfl
  rw [accepted_eq]
  generalize takenOut s i = u at regs out
  simp only [erqRegs, Prod.mk.injEq] at regs
  obtain ⟨en, phase, head, tail, base, lines, dropN, drops⟩ := regs
  have full : (!u.erq.en || erqFull u) = true := by
    have same : erqFull u = erqFull s := by rw [erqFull, erqFull, erqNext, erqNext, tail, lines, head]
    rcases h with off | full
    · simp [en, off]
    · simp [same, full]
  rw [erqStore, if_pos full, ← out, ← lines, ← drops]
  exact ⟨(within_bump ..).keeps (·.erq.lines) fun _ => rfl, (within_bump ..).keeps (·.out) fun _ => rfl,
    (within_bump ..).keeps (·.erq.drops) fun _ => rfl⟩

theorem length_errLine (e : ErrRec) (phase : Bool) (seq time : Nat) : (errLine e phase seq time).length = 64 := by
  simp [errLine]

/-- A record that finds room is written as one line (05 R134). -/
theorem accepted_of_room (i : Nat) (en : s.erq.en = true) (room : erqFull s = false) (none : s.erq.dropN = 0)
    (idle : s.hif.loss = .idle) : (accepted s i).erq.drops = s.erq.drops ∧
      (accepted s i).out = s.out ++ [.hostWrite s.hif.nextReq (s.erq.base.toNat * 4096 + 64 * (erqNext s % 4096))
        (errLine (lget { code := 0 } s.erq.incoming i) (if 4096 ≤ erqNext s then !s.erq.phase else s.erq.phase)
          s.erq.seq.toNat s.erq.time.toNat)
        (writeReqs s (s.erq.base.toNat * 4096 + 64 * (erqNext s % 4096)) 64 false) false] := by
  have regs : erqRegs (takenOut s i) = erqRegs s := (within_takenOut s i).keeps erqRegs fun _ => rfl
  have out : (takenOut s i).out = s.out := (within_takenOut s i).keeps (·.out) fun _ => rfl
  have hif : (takenOut s i).hif = s.hif := (within_takenOut s i).keeps (·.hif) fun _ => rfl
  have pwr : (takenOut s i).pwr = s.pwr := (within_takenOut s i).keeps (·.pwr) fun _ => rfl
  rw [accepted_eq]
  generalize takenOut s i = u at regs out hif pwr
  simp only [erqRegs, Prod.mk.injEq] at regs
  obtain ⟨en', phase, head, tail, base, lines, dropN, drops⟩ := regs
  have next : erqNext u = erqNext s := by rw [erqNext, erqNext, tail, lines]
  have same : erqFull u = false := by rw [erqFull, next, head]; exact room
  have stays : erqOverflow u = u := by rw [erqOverflow, dropN, if_pos none]
  have reqs (a : Nat) : writeReqs u a 64 false = writeReqs s a 64 false := by
    unfold writeReqs usesCache
    rw [pwr]
  rw [erqStore, if_neg (by simp [en', en, same]), stays]
  dsimp only
  rw [if_neg (by simp [same]), erqPut]
  dsimp only
  refine ⟨?_, ?_⟩
  · exact ((within_hostWrite ..).keeps (·.erq.drops) fun _ => rfl).trans drops
  · show (hostWrite _ _ _ _ u).out = _
    rw [hostWrite, if_neg (by simp [hif, idle]), length_errLine, reqs, next, hif, base, phase, ← out]
    rfl

end

/-! ## The registers (05 R135, 06 R164) -/

section
variable (s : State)

/-- Records written while HOST is on wait in order. -/
theorem foldl_record (l : List ErrRec) (on : domOn s dHOST = true) :
    l.foldl (fun s e => record e s) s = { s with erq.incoming := s.erq.incoming ++ l } := by
  induction l generalizing s with
  | nil => simp
  | cons e l ih =>
    rw [List.foldl_cons, record_eq, if_pos on, ih _ (by exact on)]
    simp

theorem mayBe_eq (act : State → State) : ∃ d : Bool, mayBe act s = if d then act (drawn s) else drawn s := by
  unfold mayBe
  exact ⟨decide (Config.openVal s.free % 2 = 1), by simp⟩

theorem barOn_host (bar : barOn s = true) : domOn s dHOST = true := by
  simp only [barOn, Bool.and_eq_true] at bar
  exact bar.1

end

theorem errorQueueActs : ErrorQueueActs := by
  refine ⟨fun s i on here free step => ?_, fun s w bar fits => ⟨fun en => ?_, fun en => ?_⟩,
    fun s w h bar fits hh => ⟨fun inside => ?_, fun outside => ?_⟩, fun s w bar => ⟨fun str => ?_, fun str => ?_⟩,
    fun s w v bar fits hv => ?_⟩
  · have takes : recordEnd (effErrorAccept i s) = accepted s i := by
      rw [effErrorAccept_of_on s on here free, recordEnd_of_step _ (by rw [rcv_accepted]; exact step)]
    obtain ⟨seq, lastAcc⟩ := Prod.mk.inj (erqKept_accepted s i)
    exact ⟨_, congrArg Outcome.next takes, incoming_accepted s i, seq, lastAcc, accepted_of_full s i,
      accepted_of_room s i⟩
  · have writes : effErqBase w s = { s with erq.cfgErr := true } := by simp [effErqBase, bar, en]
    simp only [exec, execErqBaseWrite, bar, regWrite, fits, Bool.not_true, Bool.false_eq_true, if_false, writes]
  · simp [exec, execErqBaseWrite, bar, regWrite, fits, effErqBase, en]
  · simp only [exec, execErqHeadWrite, bar, regWrite, fits, Bool.not_true, Bool.false_eq_true, if_false, effErqHead, ← hh, inside,
      if_true]
  · simp only [exec, execErqHeadWrite, bar, regWrite, fits, Bool.not_true, Bool.false_eq_true, if_false, effErqHead, ← hh,
      Nat.not_le.mpr outside]
  · obtain ⟨d, may⟩ := mayBe_eq s (effErqBase w)
    refine ⟨d, ?_⟩
    simp only [exec, execErqBaseWrite, bar, regWrite, str, Bool.not_true, Bool.false_eq_true, if_false, if_true, may]
  · refine ⟨decide (Config.openVal s.free % 2 = 1), ?_, ?_⟩
    · simp [exec, execErqHeadWrite, bar, regWrite, str, mayBe]
    · simp [exec, execErqEnable, bar, regWrite, str, mayBe]
  · have value : rwMerge w 4 (erqCtrl s - 4 * b2n s.erq.cfgErr) = v := by
      rw [hv, erqCtrl]
      congr 1
      omega
    let u : State := { s with
      erq.en := v.testBit 0, erq.irqEn := v.testBit 1, erq.vector := BitVec.ofNat 11 (v / 2 ^ 16),
      erq.cfgErr := s.erq.cfgErr && !(rwOnes w 4).testBit 2 }
    have writes : effErqEnable w s = if v.testBit 0 = true then
        { u with erq.incoming := s.erq.incoming ++ dueRecords s, pwr.due := [] } else u := by
      unfold effErqEnable
      simp only [bar, value, Bool.not_true, Bool.false_eq_true, if_false]
      split
      · exact foldl_record { u with pwr.due := [] } (dueRecords u) (barOn_host s bar)
      · rfl
    have done : exec (.erqEnable w) s = .next (effErqEnable w s) := by
      simp only [exec, execErqEnable, bar, regWrite, fits, Bool.not_true, Bool.false_eq_true, if_false]
    refine ⟨_, done.trans (congrArg Outcome.next writes), ?_⟩
    split
    · next on => exact ⟨rfl, rfl, rfl, fun _ => ⟨rfl, rfl⟩, fun off => absurd on (by simp [off])⟩
    · next off => exact ⟨rfl, rfl, rfl, fun on => absurd on off, fun _ => ⟨rfl, rfl⟩⟩

/-! ## Writes on host memory (06 R143) -/

section
variable (s : State)

/-- The requests of a write of the device on host memory. -/
theorem writeReqs_spec (a n : Nat) (owned : Bool) : (owned = true → writeReqs s a n owned = [.memWr true]) ∧
    (owned = false → s.pwr.cxl = false ∨ s.pwr.rate = some .gt16 → writeReqs s a n owned = [.memWr false]) ∧
    (owned = false → s.pwr.cxl = true → s.pwr.rate = some .gt64 ∨ s.pwr.rate = some .gt32 →
      (a % 64 = 0 → n = 64 → writeReqs s a n owned = [.itoMWr]) ∧
      (0 < n → n < 64 → a % 64 + n ≤ 64 → writeReqs s a n owned = [.woWrInv])) := by
  refine ⟨fun own => by simp [writeReqs, own], fun open' slow => ?_, fun open' cxl fast => ?_⟩
  · have plain : usesCache s = false := by rcases slow with h | h <;> simp [usesCache, h]
    simp [writeReqs, open', plain]
  · have cached : usesCache s = true := by rcases fast with h | h <;> simp [usesCache, cxl, h]
    have one (lines : (a + n + 63) / 64 - a / 64 = 1) : writeReqs s a n owned =
        [if a ≤ 64 * (a / 64) ∧ 64 * (a / 64) + 64 ≤ a + n then .itoMWr else .woWrInv] := by
      simp [writeReqs, open', cached, lines]
    refine ⟨fun aligned whole => ?_, fun some short inside => ?_⟩
    · rw [one (by omega), if_pos ⟨by omega, by omega⟩]
    · rw [one (by omega), if_neg (by omega)]

/-- A write of the device on host memory, as it leaves (06 R143, R149). -/
theorem out_hostWrite (a : Nat) (b : Bytes) (owned : Bool) (use : HostUse) (idle : s.hif.loss = .idle) :
    (hostWrite a b owned use s).out =
      s.out ++ [.hostWrite s.hif.nextReq a b (writeReqs s a b.length owned) (owned && s.pwr.relaxed)] := by
  rw [hostWrite, if_neg (by simp [idle])]
  rfl

end

/-! ## Page bias (06 R145) -/

section
variable (s : State)

theorem biasWaits_iff (m : MemObj) (first count : Nat) : biasWaits s m first count = true ↔
    ∃ r ∈ s.hif.reqs, r.addr < m.pa + 4096 * (first + count) ∧ m.pa + 4096 * first < r.addr + r.data.length := by
  simp [biasWaits, rangesMeet]

theorem effBiasDone_of_held {n first count : Nat} {bias : Bool} (run : s.hif.hbRun = some (n, first, count, bias))
    (used : (moOf s n).st ≠ .free) (host : (moOf s n).host = true) (size : 4096 * (first + count) ≤ (moOf s n).size) :
    effBiasDone s = if biasWaits s (moOf s n) first count then s else hbEnd 0 { s with
      hif.owned := (List.range count).foldl (fun t i => tput false t (n * 2 ^ 36 + first + i) bias) s.hif.owned } := by
  have here : (decide ((moOf s n).st = .free) || !(moOf s n).host || decide ((moOf s n).size < 4096 * (first + count))) = false := by
    simp [used, host]
    omega
  unfold effBiasDone
  rw [run]
  dsimp only
  rw [here]
  rfl

end

/-! ## Landings (06 R146, R150) -/

section
variable (s : State)

theorem msixSent_msixIf (v : Option (BitVec 11)) {u : State} (same : msixOn u = msixOn s ∧ u.hif = s.hif ∧ u.out = s.out) :
    msixSent s v (msixIf v u) := by
  obtain ⟨on, hif, out⟩ := same
  have masked (x : Nat) : msixMasked u x = msixMasked s x := by rw [msixMasked, msixMasked.byteAt', msixRead, hif]; rfl
  refine ⟨fun gone => ?_, fun x some => ⟨fun off => ?_, fun on' open' => ?_, fun on' shut => ?_⟩⟩
  · rw [gone, msixIf, out, hif]
    exact ⟨rfl, rfl⟩
  · rw [some, msixIf, msix, if_pos (by simp [on, off]), out, hif]
    exact ⟨rfl, rfl⟩
  · rw [some, msixIf, msix, if_neg (by simp [on, on']), if_neg (by simp [masked, open']), ← out, ← hif]
    exact ⟨rfl, rfl⟩
  · rw [some, msixIf, msix, if_neg (by simp [on, on']), if_pos (by simp [masked, shut])]
    refine ⟨out, ?_⟩
    simp only [msixPend, msixStore, msixRead, hif]

/-- A landing reaches neither the requests outstanding nor HBM. -/
theorem landed_keeps {id : Nat} {r : HostReq} (found : s.hif.reqs.find? (fun r => decide (r.id = id)) = some r) :
    (effHostCompletion id s).hif.reqs = s.hif.reqs.filter (fun r => decide (r.id ≠ id)) ∧ (effHostCompletion id s).hbm = s.hbm := by
  have view (u : State) (w : Within [.out, .tile, .msix, .queue, .erq, .erqIn, .sealRows, .rcv, .dict] (dropReq id s) u) :
      u.hif.reqs = s.hif.reqs.filter (fun r => decide (r.id ≠ id)) ∧ u.hbm = s.hbm :=
    ⟨w.keeps (·.hif.reqs) fun _ => rfl, w.keeps (·.hbm) fun _ => rfl⟩
  unfold effHostCompletion
  rw [found]
  dsimp only
  split
  · exact view _ (.sub (.after (within_msixIf ..) (within_completionLanded ..)) (by rfl))
  · exact view _ (.sub (within_erqLanded ..) (by rfl))
  · exact view _ (.sub (within_msixIf ..) (by rfl))
  · exact view _ (.sub (within_slotGot ..) (by rfl))
  · exact view _ (.sub (within_slotGot ..) (by rfl))
  · exact view _ (.sub (within_exportTry ..) (by rfl))

theorem queueOf_completionLanded {q : Nat} (busy : (queueOf s q).job ≠ none) (used : (queueOf s q).st ≠ .free) :
    queueOf (completionLanded q s) q = { queueOf s q with landing := (queueOf s q).landing - 1 } := by
  have set := queueOf_setQueue_of_st s q { queueOf s q with landing := (queueOf s q).landing - 1 } used
  rw [completionLanded, if_neg used, queueSettle, set]
  simp only [Option.isSome_iff_ne_none.mpr busy, if_true]
  exact set

/-- The line at TAIL lands, and no line after it has (05 R134). -/
theorem erqLanded_of_front {id : Nat} {l : ErqLine} {ls : List ErqLine} (lines : s.erq.lines = l :: ls) (first : l.id = id)
    (rest : ∀ x ∈ ls, x.landed = false ∧ x.id ≠ id) :
    (erqLanded id s).erq.tail = s.erq.tail + 1 ∧ (erqLanded id s).erq.lines = ls := by
  have same : ls.map (fun x => if x.id = id then { x with landed := true } else x) = ls := by
    conv_rhs => rw [← List.map_id ls]
    exact List.map_congr_left fun x hx => if_neg (rest x hx).2
  have stops (u : State) : (erqAdvance ls u).erq.tail = u.erq.tail ∧ (erqAdvance ls u).erq.lines = ls := by
    cases ls with
    | nil => exact ⟨rfl, rfl⟩
    | cons x r =>
      rw [erqAdvance, if_neg (by simp [(rest x (by simp)).1])]
      exact ⟨rfl, rfl⟩
  unfold erqLanded
  rw [lines, List.map_cons, if_pos first, same, erqAdvance]
  dsimp only
  rw [if_pos rfl]
  obtain ⟨tail, left⟩ := stops (if s.erq.irqEn then msix s.erq.vector { s with
      erq.tail := s.erq.tail + 1, erq.phase := if s.erq.tail = 0xFFF then !s.erq.phase else s.erq.phase,
      erq.lines := { l with landed := true } :: ls }
    else { s with
      erq.tail := s.erq.tail + 1, erq.phase := if s.erq.tail = 0xFFF then !s.erq.phase else s.erq.phase,
      erq.lines := { l with landed := true } :: ls })
  refine ⟨tail.trans ?_, left⟩
  split
  · exact (within_msix ..).keeps (·.erq.tail) fun _ => rfl
  · rfl

end

/-! ## Refusals (06 R147) -/

section
variable (s : State)

/-- A refused write that no sealed row waits for strikes no row off. -/
theorem rowsRefused_of_none {id : Nat} (h : ∀ x ∈ s.sealer.rows, Await.host id ∉ x.waits) : rowsRefused id s = s := by
  have none : s.sealer.rows.filter (fun (r : SealRow) => r.waits.contains (.host id)) = [] := by
    rw [List.filter_eq_nil_iff]
    simpa using h
  have all : s.sealer.rows.filter (fun (r : SealRow) => !r.waits.contains (.host id)) = s.sealer.rows := by
    rw [List.filter_eq_self]
    simpa using h
  rw [rowsRefused, none, all]
  rfl

/-- A job that a refusal ends (06 R147). -/
theorem jobRefused_of_running {q : Nat} {j : Job} (addr : Nat) (running : (queueOf s q).st = .running) (job : (queueOf s q).job = some j) :
    (queueOf (jobRefused q addr s) q).head = (queueOf s q).head ∧
      ∀ i, (queueOf (jobRefused q addr s) q).job = some i → i.ph = .ended ∧ i.status = some errHostAccess := by
  unfold jobRefused
  extract_lets x
  generalize hr : raise _ s = u
  have same : queueOf u q = queueOf s q := hr ▸ (within_raise ..).keeps (queueOf · q) fun _ => rfl
  obtain ⟨head, left⟩ := endJob_jobTry_of_running (s := u) (q := q) (status := errHostAccess) (given := true)
    (by rw [same]; exact running) (by rw [same]; exact job)
  refine ⟨head.trans (by rw [same]), fun i hi => ?_⟩
  obtain ⟨ended, _, status⟩ := left i hi
  exact ⟨ended, status rfl⟩

/-- The record of a queue pair that enters ERROR by a fault (07 R174). -/
theorem incoming_qpError {q : Nat} (rts : (qpOf s q).st = .rts) (on : domOn s dHOST = true) :
    ∃ f, (qpError q .fault 0 s).erq.incoming = s.erq.incoming ++ [f] ∧ f.code = errRoceQp := by
  rw [qpError, if_pos rts]
  have raised : ∀ e u, domOn u dHOST = true → (raise e u).erq.incoming = u.erq.incoming ++ [e] := fun e u h => by
    rw [incoming_raise, if_pos h]
  exact ⟨_, raised _ _ on, rfl⟩

end

theorem hostCouplingActs : HostCouplingActs := by
  refine ⟨fun s bar => ?_, fun s addr on => ?_, fun s a b owned u idle => ?_, fun s ready free on used own host size => ?_,
    fun s n first count bias m run hm used host size => ⟨fun meets => ?_, fun apart => ?_⟩, fun s id r found => ?_,
    fun s id addr hr r v found use on clear => ?_, fun s q addr hr can => ?_, fun s q addr hr on rts busy => ?_,
    fun s freeze x addr hr m ready hm live host cls keeps => ?_⟩
  · have answers : effBar2Read s = emit .unsupported s := by simp [effBar2Read, bar]
    exact congrArg Outcome.next answers
  · have answers : effHostSnoop addr s = emit (.rspIHitI addr) s := by simp [effHostSnoop, on]
    exact congrArg Outcome.next answers
  · obtain ⟨own, plain, cached⟩ := writeReqs_spec s a b.length owned
    refine ⟨_, _, out_hostWrite s a b owned u idle, fun h => ⟨own h, ?_⟩, fun h => ?_, plain, cached⟩
    · rw [h, Bool.true_and]
    · rw [h, Bool.false_and]
  · have starts : effHbGo s = { s with hif.hbBusy := true, hif.hbRun := some (s.hif.hbObj.toNat, s.hif.hbFirst.toNat,
        s.hif.hbCount.toNat + 1, s.hif.hbBias) } := by
      unfold effHbGo
      rw [if_neg (by simp [ready, free])]
      dsimp only
      rw [if_neg (by simp [on]), if_neg (by simp [used, own, host]; omega)]
    exact congrArg Outcome.next starts
  · subst hm
    have waits := (effBiasDone_of_held s run used host size).trans (if_pos ((biasWaits_iff ..).mpr meets))
    exact congrArg Outcome.next waits
  · subst hm
    have clear : ¬ biasWaits s (moOf s n) first count = true := by
      rw [biasWaits_iff]
      rintro ⟨r, mem, low, high⟩
      have := apart r mem
      omega
    have ends := (effBiasDone_of_held s run used host size).trans (if_neg clear)
    exact congrArg Outcome.next ends
  · obtain ⟨reqs, hbm⟩ := landed_keeps s found
    refine ⟨_, rfl, reqs, hbm, fun q v use => ⟨?_, fun busy made => ?_⟩, fun v use => ?_, fun use l ls lines first rest => ?_⟩
    · have lands : effHostCompletion id s = msixIf v (completionLanded q (dropReq id s)) := by
        rw [effHostCompletion, found]
        simp only [use]
      rw [lands]
      have kept := (within_completionLanded (dropReq id s) q)
      have sent := msixSent_msixIf (dropReq id s) v (u := completionLanded q (dropReq id s))
        ⟨kept.keeps msixOn fun _ => rfl, kept.keeps (·.hif) fun _ => rfl, kept.keeps (·.out) fun _ => rfl⟩
      exact sent
    · have lands : effHostCompletion id s = msixIf v (completionLanded q (dropReq id s)) := by
        rw [effHostCompletion, found]
        simp only [use]
      rw [lands, (within_msixIf ..).keeps (queueOf · q) fun _ => rfl, queueOf_completionLanded (dropReq id s) busy made]
      rfl
    · have lands : effHostCompletion id s = msixIf v (dropReq id s) := by
        rw [effHostCompletion, found]
        simp only [use]
      rw [lands]
      exact msixSent_msixIf (dropReq id s) v ⟨rfl, rfl, rfl⟩
    · have lands : effHostCompletion id s = erqLanded id (dropReq id s) := by
        rw [effHostCompletion, found]
        simp only [use]
      rw [lands]
      exact erqLanded_of_front (dropReq id s) lines first rest
  · have same : r.id = id := by simpa using List.find?_some found
    subst same
    have fails : effHostRefused (.write r.id) addr hr s = raise (accessRec addr) (dropReq r.id s) := by
      have rows := rowsRefused_of_none (dropReq r.id s) clear
      rw [effHostRefused, found]
      dsimp only
      rw [writeRefused, rows, use]
    refine ⟨_, congrArg Outcome.next fails, (within_raise ..).keeps (·.hif.reqs) fun _ => rfl, ?_⟩
    rw [incoming_raise, if_pos (by exact on)]
    rfl
  · have taken := queueOf_takeEntry (s := s) (q := q) (List.replicate 64 0)
    have ends : effHostRefused (.entry q) addr hr s = jobRefused q addr (takeEntry q (List.replicate 64 0) s) := by
      rw [effHostRefused, if_pos can]
    obtain ⟨head, left⟩ := jobRefused_of_running (takeEntry q (List.replicate 64 0) s) addr
      (by rw [taken]; exact (canRead_spec can).1) (congrArg Queue.job taken)
    exact ⟨_, congrArg Outcome.next ends, head.trans (by rw [taken]), left⟩
  · generalize he : ({ accessRec addr with ctx := qpCtx s q, unit := (qpOf s q).portNo } : ErrRec) = e
    have fails : effHostRefused (.roce q) addr hr s = qpError q .fault 0 (raise e s) := by
      rw [effHostRefused, if_pos (by simp [busy]), he]
    have same : qpOf (raise e s) q = qpOf s q := (within_raise ..).keeps (qpOf · q) fun _ => rfl
    have still : domOn (raise e s) dHOST = true := ((within_raise ..).keeps (domOn · dHOST) fun _ => rfl).trans on
    obtain ⟨f, incoming, code⟩ := incoming_qpError (raise e s) (q := q) (by rw [same]; exact rts) still
    refine ⟨_, e, f, congrArg Outcome.next fails, by rw [qpOf_qpError _ _ (by rw [same]; exact rts)], ?_, ?_, ?_, code⟩
    · rw [incoming, incoming_raise, if_pos on, List.append_assoc, List.singleton_append]
    · subst he; rfl
    · subst he; rfl
  · subst hm
    obtain ⟨hostUp, idle, _⟩ := id ready
    have fails : effHostRefused (.digest freeze x) addr hr s = objFail errHostAccess (ObjCmd.raw (if freeze then 0x22 else 0x23) x) addr
        (moCtx s x.id.toNat) (irqVec x) s := by
      rw [effHostRefused, digestRefused]
      dsimp only
      rw [if_neg (by simp [hostUp, idle, host]), objCmd_of_ready ready rfl]
      cases freeze <;> simp [live, cls, keeps, objEnd]
    have kept := (within_objFail s errHostAccess (ObjCmd.raw (if freeze then 0x22 else 0x23) x) addr (moCtx s x.id.toNat) (irqVec x))
    exact ⟨_, congrArg Outcome.next fails, by simp [objFail], by simp [objFail], by simp [objFail, errHostAccess],
      kept.keeps (moOf · _) fun _ => rfl, kept.keeps (·.kh) fun _ => rfl⟩

/-- Settles O20: each command of the error queue and of the host interface by its equation where its checks hold. -/
theorem errorQueueAndHostCouplingAct : Obligations.ErrorQueueAndHostCouplingAct := ⟨errorQueueActs, hostCouplingActs⟩

end Sys2Proof.Machine
end

section
/-!
PROOF. The Deposit Window (06 R151 to R157).
-/
namespace Sys2Proof.Machine
open Host Claims

/-! ## Entries -/

/-- What a changed table reads: the change of what was read, where the default does not change. -/
theorem tget_tmap_of_default {α : Type} [DecidableEq α] {d : α} {f : Nat → α → α} (fixed : ∀ k, f k d = d) (l : Tab α) (k : Nat) :
    ∀ lo, tabWfFrom d lo l = true → tget d (tmap d f l) k = f k (tget d l k) := by
  induction l with
  | nil => exact fun _ _ => (fixed k).symm
  | cons e r ih =>
    obtain ⟨j, v⟩ := e
    intro lo wf
    obtain ⟨-, -, rest⟩ := (tabWfFrom_cons ..).mp wf
    have later := ih (some j) rest
    have low (h : k ≤ j) : tget d (tmap d f r) k = d := tget_of_wfFrom d _ j k h (tabWfFrom_tmap d f r _ rest)
    by_cases gone : f j v = d
    · have skip : tmap d f ((j, v) :: r) = tmap d f r := by simp [tmap, gone]
      rw [skip, tget_cons]
      split
      · next same => rw [low (Nat.le_of_eq same), same, gone]
      · split
        · next less => rw [low less.le, fixed]
        · exact later
    · have keep : tmap d f ((j, v) :: r) = (j, f j v) :: tmap d f r := by simp [tmap, gone]
      rw [keep, tget_cons, tget_cons]
      split
      · next same => rw [same]
      · split
        · exact (fixed k).symm
        · exact later

section
variable {s : State} {e : Nat}

theorem depOf_setDep_of_st (x : DepEnt) (h : x.st ≠ .idle) : depOf (setDep s e x) e = x :=
  tget_tput_self _ _ (by rintro rfl; exact h rfl) _ _

theorem depOf_setDep (wf : tabWf {} s.hif.dep = true) (x : DepEnt) (j : Nat) : depOf (setDep s e x) j = if j = e then x else depOf s j :=
  tget_tput _ _ _ _ _ wf

theorem effDepositArm_of_good {w : RegWr} (bar : barOn s = true) (off : (depOf s e).v = false)
    (on : (rwMerge w 32 (depValue (depOf s e))).testBit 0 = true)
    (good : armOk s (depSet (depOf s e) (rwMerge w 32 (depValue (depOf s e)))) = true) :
    effDepositArm e w s = setDep s e { depSet (depOf s e) (rwMerge w 32 (depValue (depOf s e))) with
      v := true, st := .opened, dseen := false } := by
  unfold effDepositArm
  dsimp only
  rw [if_neg (by simp [bar, off, on]), if_pos good]

theorem effDepositDisarm_of_armed {w : RegWr} (bar : barOn s = true) (armed : (depOf s e).v = true)
    (clear : (rwMerge w 32 (depValue (depOf s e))).testBit 0 = false) :
    effDepositDisarm e w s = setDep s e { depOf s e with v := false, st := .draining } := by
  rw [effDepositDisarm, if_pos (by simp [bar, armed, clear]), depClear]
  exact if_pos armed

/-! ## Writes (06 R154) -/

theorem hbm_mirrorChunks (fuel a n : Nat) (s : State) : (mirrorChunks fuel a n s).2.hbm = s.hbm :=
  (within_mirrorChunks fuel a n s).keeps (·.hbm) fun _ => rfl

/-- A write of an object's bytes stores them, whatever it mirrors. -/
theorem hbm_objWrite (m : MemObj) (off : Nat) (b : Bytes) (s : State) : (objWrite m off b s).2.hbm = (objWriteRaw m off b s).hbm := by
  unfold objWrite
  dsimp only
  split
  · exact hbm_mirrorChunks ..
  · rfl

theorem plainWrite_hif (k : BitVec 256) (pa : Nat) (b : Bytes) (f : Hif) (s : State) :
    (plainWrite k pa b { s with hif := f }).hbm = (plainWrite k pa b s).hbm := by
  have lines : ∀ n line b (u v : State), u.hbm = v.hbm → (encLines k n line b u).hbm = (encLines k n line b v).hbm := by
    intro n
    induction n with
    | zero => exact fun _ _ _ _ h => h
    | succ n ih => exact fun line b u v h => ih _ _ _ _ (by rw [hbmWrite, hbmWrite, h])
  have old : ∀ n first, decLines { s with hif := f } k first n = decLines s k first n := by
    intro n
    induction n with
    | zero => exact fun _ => rfl
    | succ n ih => exact fun first => by rw [decLines, decLines, ih]; rfl
  unfold plainWrite
  split
  · rfl
  · simp only [old]
    exact lines _ _ _ _ _ rfl

theorem objWriteRaw_hif (m : MemObj) (off : Nat) (b : Bytes) (f : Hif) (s : State) :
    (objWriteRaw m off b { s with hif := f }).hbm = (objWriteRaw m off b s).hbm := by
  unfold objWriteRaw
  split
  · exact plainWrite_hif ..
  · rfl

/-- A Deposit write that every check accepts (06 R154). -/
theorem effDepositWrite_of_good {off req : Nat} {data : Bytes} {x : DepEnt} {m : MemObj} (ready : hostReady s = true)
    (on : domOn s dMEM = true) (hx : x = depOf s (off / 0x4000000)) (hm : m = moOf s x.memobj.toNat) (armed : depOpen x req = true)
    (inside : off % 0x4000000 + data.length ≤ x.len) (key : m.cls ≠ 0 ∨ (ctxOf s m.ctx).keyLost = false)
    (writable : moWritable m = true) :
    ∃ l, effDepositWrite off data req false s =
      { (objWrite m (x.objOff.toNat + off % 0x4000000) data
          (setDep s (off / 0x4000000) { x with st := .opened, dseen := true })).2 with hif := l } ∧
      l.dep = (objWrite m (x.objOff.toNat + off % 0x4000000) data
          (setDep s (off / 0x4000000) { x with st := .opened, dseen := true })).2.hif.dep := by
  have lost : (decide (m.cls = 0) && (ctxOf s m.ctx).keyLost) = false := by
    rcases key with h | h
    · rw [decide_eq_false h, Bool.false_and]
    · rw [h, Bool.and_false]
  have size : ¬ x.len < off % 0x4000000 + data.length := Nat.not_lt.mpr inside
  unfold effDepositWrite
  rw [if_neg (by simp [ready])]
  dsimp only
  rw [← hx, ← hm, if_neg (by simp only [on, armed, lost, size]; decide), if_neg (by simp [writable])]
  split
  · exact ⟨_, rfl, rfl⟩
  · exact ⟨_, rfl, rfl⟩

/-! ## Flags (06 R155, R156) -/

/-- The entries that a flag of entry `x` marks. -/
def flagMark (x y : DepEnt) : DepEnt :=
  if y.v && decide (y.ctx = x.ctx) && decide (y.memobj = x.memobj) then { y with st := .flagged, dseen := false } else y

/-- An event that rises leaves the flags that wait. -/
theorem flags_evAdd (n inc : Nat) (e : ErrRec) (s : State) : (evAdd n inc e s).hif.flags = s.hif.flags := by
  have write (a : Nat) (b : Bytes) (o : Bool) (use : HostUse) (u : State) : (hostWrite a b o use u).hif.flags = u.hif.flags := by
    unfold hostWrite
    split <;> rfl
  have notify (u : State) : (evNotify n u).hif.flags = u.hif.flags := by
    unfold evNotify
    dsimp only
    split
    · split
      · exact (within_msixIf ..).keeps (·.hif.flags) fun _ => rfl
      · exact write ..
    · rfl
  have change (v : BitVec 64) : (evChange n v s).hif.flags = s.hif.flags :=
    (notify _).trans ((within_markWaits ..).keeps (·.hif.flags) fun _ => rfl)
  unfold evAdd
  dsimp only
  split
  · exact ((within_raise ..).keeps (·.hif.flags) fun _ => rfl).trans (change _)
  · exact change _

/-- A flag applied, before its event rises. -/
def flagged (s : State) (i : Nat) (f : DepFlag) : State :=
  { s with
    hif.flags := ldel s.hif.flags i
    hif.dep := tmap {} (fun _ y => flagMark (depOf s f.entry) y)
      (tput {} s.hif.dep f.entry { depOf s f.entry with lastFlag := f.value }) }

theorem effFlagApply_of_ready {i : Nat} {f : DepFlag} (here : s.hif.flags[i]? = some f) (clear : ∀ w ∈ s.hif.depWait, w.id ∉ f.waits)
    (first : ∀ g ∈ s.hif.flags.take i, g.entry ≠ f.entry) :
    effFlagApply i s = if (depOf s f.entry).evV && evOwned s (depOf s f.entry).ctx.toNat (depOf s f.entry).event.toNat then
        evAdd (depOf s f.entry).event.toNat 1 { code := 0, src := 4, unit := f.entry } (flagged s i f)
      else flagged s i f := by
  have free : (s.hif.depWait.any (fun w => f.waits.contains w.id) ||
      (s.hif.flags.take i).any (fun g => decide (g.entry = f.entry))) = false := by
    rw [Bool.or_eq_false_iff, List.any_eq_false, List.any_eq_false]
    exact ⟨fun w hw => by simpa using clear w hw, fun g hg => by simpa using first g hg⟩
  unfold effFlagApply
  rw [here]
  dsimp only
  rw [free]
  rfl

theorem depOf_flagged (wf : tabWf {} s.hif.dep = true) (i : Nat) (f : DepFlag) (j : Nat) : depOf (flagged s i f) j =
    flagMark (depOf s f.entry) (if j = f.entry then { depOf s f.entry with lastFlag := f.value } else depOf s j) := by
  have fixed : ∀ _ : Nat, flagMark (depOf s f.entry) {} = {} := fun _ => rfl
  exact (tget_tmap_of_default fixed _ j none (tabWf_tput _ _ _ _ wf)).trans
    (congrArg (flagMark (depOf s f.entry)) (tget_tput _ _ _ _ _ wf))

/-! ## Refusals (06 R154, R155) -/

/-- A refusal counts, or makes a record: the entry's state, the objects, the flags and HBM stay. -/
theorem depRefuse_spec (wf : tabWf {} s.hif.dep = true) (addr : Nat) : (depRefuse e addr s).hbm = s.hbm ∧
    (depRefuse e addr s).obj = s.obj ∧ (depRefuse e addr s).hif.flags = s.hif.flags ∧
    (depOf (depRefuse e addr s) e).st = (depOf s e).st := by
  have counted (n : Nat) : (depOf (setDep s e { depOf s e with refused := n }) e).st = (depOf s e).st := by
    rw [depOf_setDep wf, if_pos rfl]
  unfold depRefuse
  dsimp only
  split
  · exact ⟨rfl, rfl, rfl, counted _⟩
  · exact ⟨(within_raise ..).keeps (·.hbm) fun _ => rfl, (within_raise ..).keeps (·.obj) fun _ => rfl,
      (within_raise ..).keeps (·.hif.flags) fun _ => rfl,
      ((within_raise ..).keeps (fun t => (depOf t e).st) fun _ => rfl).trans (counted _)⟩

end

theorem depositActs : DepositActs := by
  refine ⟨fun s e w bar fits off on good => ?_, fun s e w bar fits armed clear => ?_, fun s e draining none => ?_,
    fun s off req data x m ready on hx hm armed inside key writable => ?_, fun s off req data ready eight aligned armed => ?_,
    fun s i f x wf here hx clear first => ?_⟩
  · have writes : exec (.depositArm e w) s = .next (effDepositArm e w s) := by
      simp only [exec, execDepositArm, bar, regWrite, fits, Bool.not_true, Bool.false_eq_true, if_false]
    exact ⟨_, writes.trans (congrArg Outcome.next (effDepositArm_of_good bar off on good)), depOf_setDep_of_st _ (by simp), rfl⟩
  · have writes : exec (.depositDisarm e w) s = .next (effDepositDisarm e w s) := by
      simp only [exec, execDepositDisarm, bar, regWrite, fits, Bool.not_true, Bool.false_eq_true, if_false]
    exact ⟨_, writes.trans (congrArg Outcome.next (effDepositDisarm_of_armed bar armed clear)), depOf_setDep_of_st _ (by simp)⟩
  · have drained : effDepositDrained e s = setDep s e { depOf s e with st := .idle } := by
      unfold effDepositDrained
      dsimp only
      rw [if_pos (by simpa [draining] using none)]
    exact congrArg Outcome.next drained
  · obtain ⟨l, writes, dep⟩ := effDepositWrite_of_good ready on hx hm armed inside key writable
    have kept := within_objWrite (setDep s (off / 0x4000000) { x with st := .opened, dseen := true }) m
      (x.objOff.toNat + off % 0x4000000) data
    refine ⟨_, congrArg Outcome.next writes, ?_, ?_, kept.keeps (·.erq) fun _ => rfl⟩
    · exact (hbm_objWrite ..).trans ((objWriteRaw_hif m _ data _ s).trans (hbm_objWrite ..).symm)
    · have entry : (objWrite m (x.objOff.toNat + off % 0x4000000) data
          (setDep s (off / 0x4000000) { x with st := .opened, dseen := true })).2.hif.dep = _ := kept.keeps (·.hif.dep) fun _ => rfl
      rw [depOf, dep, entry]
      exact depOf_setDep_of_st (s := s) { x with st := .opened, dseen := true } (by simp)
  · have accepts : effDepositFlag off data req s = { s with hif.flags := s.hif.flags ++ [{
        entry := off / 8, value := BitVec.ofNat 64 (ofLe data),
        waits := (s.hif.depWait.filter (fun w => decide (w.reqId = req))).map (·.id) }] } := by
      unfold effDepositFlag
      rw [if_neg (by simp [ready])]
      dsimp only
      rw [if_neg (by simp [eight, aligned, armed])]
    exact congrArg Outcome.next accepts
  · subst hx
    have applies := effFlagApply_of_ready here clear first
    have marks := depOf_flagged ((formed_iff s).mpr wf).dep i f
    have rest (u : State) (h : u = flagged s i f ∨ ∃ n e, u = evAdd n 1 e (flagged s i f)) :
        u.hif.flags = ldel s.hif.flags i ∧ depOf u = depOf (flagged s i f) := by
      rcases h with rfl | ⟨n, e, rfl⟩
      · exact ⟨rfl, rfl⟩
      · exact ⟨flags_evAdd .., (within_evAdd ..).keeps depOf fun _ => rfl⟩
    refine ⟨_, congrArg Outcome.next applies, ?_⟩
    obtain ⟨flags, dep⟩ := rest (if (depOf s f.entry).evV && evOwned s (depOf s f.entry).ctx.toNat (depOf s f.entry).event.toNat then
        evAdd (depOf s f.entry).event.toNat 1 { code := 0, src := 4, unit := f.entry } (flagged s i f)
      else flagged s i f) (by split; exacts [.inr ⟨_, _, rfl⟩, .inl rfl])
    refine ⟨flags, ?_, fun j armed ctx obj => ?_, fun j other apart => ?_, fun counts own => ?_⟩
    · rw [dep, marks, if_pos rfl, flagMark]
      split <;> rfl
    · rw [dep, marks, flagMark, if_pos (by split <;> simp_all)]
      exact ⟨rfl, rfl⟩
    · rw [dep, marks, if_neg other, flagMark, if_neg (by simpa [and_assoc] using apart)]
    · rw [if_pos (by simp [counts, own])]
      have live : (evOf (flagged s i f) (depOf s f.entry).event.toNat).live = true := by
        simp only [evOwned, Bool.and_eq_true] at own
        exact own.1
      exact (evOf_evAdd _ _ 1 _ live).2

theorem depositRefused : DepositRefused := by
  refine fun s off req data poisoned wf ready => ⟨fun shut => ?_, fun shut => ?_⟩
  · have refuses : effDepositWrite off data req poisoned s = depRefuse (off / 0x4000000) off s := by
      unfold effDepositWrite
      rw [if_neg (by simp [ready])]
      dsimp only
      rw [if_pos (by simp [shut])]
    obtain ⟨hbm, _, _, st⟩ := depRefuse_spec (s := s) (e := off / 0x4000000) ((formed_iff s).mpr wf).dep off
    exact ⟨_, congrArg Outcome.next refuses, hbm, st⟩
  · have refuses : effDepositFlag off data req s = depRefuse (off / 8) (0x320000 + off) s := by
      unfold effDepositFlag
      rw [if_neg (by simp [ready])]
      dsimp only
      rw [if_pos (by simp [shut])]
    obtain ⟨_, obj, flags, st⟩ := depRefuse_spec (s := s) (e := off / 8) ((formed_iff s).mpr wf).dep (0x320000 + off)
    exact ⟨_, congrArg Outcome.next refuses, flags, obj, st⟩

/-- Settles O21: each command by its equation where the entry accepts it, and a refusal by what it leaves. -/
theorem depositWindowActs : Obligations.DepositWindowActs := ⟨depositActs, depositRefused⟩

end Sys2Proof.Machine
end

section
/-!
PROOF. DECLARE, RELEASE, DISCARD and CLAIM (06 R158, R166 to R168).
-/
namespace Sys2Proof.Machine
open Host Claims

section
variable {s : State} {r c : Nat}

theorem bivCmd_of_ready (act : State → State) (ready : hostReady s = true) (free : s.biv.busy = false) (on : domOn s dMEM = true) :
    bivCmd act s = act s := by
  simp [bivCmd, ready, free, on]

theorem bivOk_bivEnd : bivOk (bivEnd 0 s) := ⟨rfl, rfl, rfl, rfl⟩

/-- A record goes to the partner: HBM, the keys, the objects and the records that wait stay. -/
theorem regionMsg_keeps : (regionMsg r s).hbm = s.hbm ∧ (regionMsg r s).kh = s.kh ∧ (regionMsg r s).obj = s.obj ∧
    (regionMsg r s).erq = s.erq ∧ (regionMsg r s).pwr = s.pwr :=
  ⟨(within_regionMsg ..).keeps (·.hbm) fun _ => rfl, (within_regionMsg ..).keeps (·.kh) fun _ => rfl,
    (within_regionMsg ..).keeps (·.obj) fun _ => rfl, (within_regionMsg ..).keeps (·.erq) fun _ => rfl,
    (within_regionMsg ..).keeps (·.pwr) fun _ => rfl⟩

theorem mirrorWrap_keeps (k : BitVec 256) : (mirrorWrap r k s).hbm = s.hbm ∧ (mirrorWrap r k s).kh = s.kh ∧
    (mirrorWrap r k s).obj = s.obj ∧ (mirrorWrap r k s).erq = s.erq ∧ (mirrorWrap r k s).pwr = s.pwr := by
  unfold mirrorWrap
  split <;> exact ⟨rfl, rfl, rfl, rfl, rfl⟩

/-! ## DECLARE, RELEASE, DISCARD (06 R158, R168) -/

theorem dbg_of_keyServes {rng : Bool} (serves : keyServes s rng = true) : s.kh.dbg ≠ 2 := by
  simp only [keyServes, Bool.and_eq_true, decide_eq_true_eq] at serves
  exact serves.2

theorem effDeclare_of_good {dur : Nat} (ready : hostReady s = true) (free : s.biv.busy = false) (on : domOn s dMEM = true)
    (region : regState s r = 0) (live : isLive s c = true) (serves : keyServes s true = true) :
    effDeclare r c dur s = if dur = 0 && s.kh.run.isEmpty then declared r c s
      else khQueue (.declare r c) dur { s with biv.busy := true } := by
  rw [effDeclare, bivCmd_of_ready _ ready free on]
  dsimp only
  rw [if_neg (dbg_of_keyServes serves), if_neg (by simp [region, live]), if_neg (by simp [serves])]

theorem hbm_putRec (b : Bytes) : (putRec r b s).hbm = memWrite 0 s.hbm (recBase r) b := rfl

theorem bivEnd_keeps (code : Nat) : (bivEnd code s).hbm = s.hbm ∧ (bivEnd code s).kh = s.kh ∧ (bivEnd code s).obj = s.obj ∧
    (bivEnd code s).erq = s.erq := ⟨rfl, rfl, rfl, rfl⟩

theorem hbm_declared : (declared r c s).hbm = memWrite 0 s.hbm (recBase r) (declRecord s r c) := by
  rw [declared, (bivEnd_keeps 0).1, regionMsg_keeps.1, (mirrorWrap_keeps _).1, hbm_putRec]

/-- A region is cleared, and the partner told (06 R159, R168). -/
theorem regionCleared_spec : bivOk (bivEnd 0 (regionMsg r (clearRec r s))) ∧
    (bivEnd 0 (regionMsg r (clearRec r s))).hbm = memWrite 0 s.hbm (recBase r) (List.replicate 2048 0) ∧
    (bivEnd 0 (regionMsg r (clearRec r s))).kh = s.kh ∧ (bivEnd 0 (regionMsg r (clearRec r s))).obj = s.obj := by
  obtain ⟨hbm, kh, obj, _, _⟩ := regionMsg_keeps (s := clearRec r s) (r := r)
  obtain ⟨hbm', kh', obj', _⟩ := bivEnd_keeps (s := regionMsg r (clearRec r s)) 0
  refine ⟨bivOk_bivEnd, hbm'.trans (hbm.trans ?_), kh'.trans (kh.trans ?_), obj'.trans (obj.trans ?_)⟩
  · rw [clearRec, hbm_putRec]
  · exact (within_clearRec ..).keeps (·.kh) fun _ => rfl
  · exact (within_clearRec ..).keeps (·.obj) fun _ => rfl

/-! ## CLAIM (06 R166, R167) -/

theorem effClaim_of_good {dur : Nat} {damaged : Bool} (ready : hostReady s = true) (free : s.biv.busy = false)
    (on : domOn s dMEM = true) (serves : keyServes s false = true) (good : claimCheck s r c = 0) :
    effClaim r c damaged dur s = if dur = 0 && s.kh.run.isEmpty then claimRun r c damaged s
      else khQueue (.claim r c damaged) dur { s with biv.busy := true } := by
  rw [effClaim, bivCmd_of_ready _ ready free on]
  dsimp only
  rw [if_neg (by simp [serves]), if_neg (by simp [good])]

theorem within_mirrored (l : List Nat) (t : State) : Within [.pair] t { t with pair.mirrored := l } := .upd [.pair] (by rfl)

/-- A claim whose checks have passed: the keys, the context and the status record (06 R167). -/
theorem claimed_spec (k : BitVec 256) (ok : Bool) (host : domOn s dHOST = true) :
    bivOk (claimed r c k ok s) ∧ tget none (claimed r c k ok s).kh.ctxKey c = some k ∧
      tget none (claimed r c k ok s).kh.memKey c = some k ∧ (ctxOf (claimed r c k ok s) c).claimed = true ∧
      (ctxOf (claimed r c k ok s) c).origin = leAt (recOf s r) 48 8 ∧
      (claimed r c k ok s).erq.incoming =
        s.erq.incoming ++ [{ code := 0, src := 4, ctx := some c, unit := r, detail := b2n ok }] := by
  unfold claimed
  extract_lets b l u x v b1 b2 b3 b4 b5 w p z
  clear_value b5
  have objects : Within [.mo] s u := .foldl (fun t o => within_setMo ..) _ _
  clear_value u
  have written : Within [.hbm, .free] v w := .sub (.after (within_putRec ..) (within_drawn _)) (by rfl)
  have sent : Within [.hbm, .free, .pair, .port] v z :=
    .sub (.after (within_regionMsg ..) (.after (within_mirrorWrap ..) (.after (within_mirrored ..) written))) (by rfl)
  clear_value z
  have ctxKey : v.kh.ctxKey = tput none u.kh.ctxKey c (some k) := rfl
  have memKey : v.kh.memKey = tput none u.kh.memKey c (some k) := rfl
  have bound : v.erq = u.erq ∧ v.pwr = u.pwr := ⟨rfl, rfl⟩
  have erq : z.erq = s.erq := (sent.keeps (·.erq) fun _ => rfl).trans (bound.1.trans (objects.keeps (·.erq) fun _ => rfl))
  have pwr : z.pwr = s.pwr := (sent.keeps (·.pwr) fun _ => rfl).trans (bound.2.trans (objects.keeps (·.pwr) fun _ => rfl))
  have on : domOn z dHOST = true := (congrArg (fun p : Pwr => p.on.getLsbD dHOST) pwr).trans host
  have kh : z.kh = v.kh := sent.keeps (·.kh) fun _ => rfl
  have set : ctxOf z c = { x with origin := leAt b 48 8, claimed := true } :=
    (sent.keeps (ctxOf · c) fun _ => rfl).trans (tget_tput_self _ _ (fun h => by cases congrArg Ctx.claimed h) _ _)
  have raised (e : ErrRec) : ctxOf (raise e z) c = ctxOf z c ∧ (raise e z).kh = z.kh :=
    ⟨(within_raise ..).keeps (ctxOf · c) fun _ => rfl, (within_raise ..).keeps (·.kh) fun _ => rfl⟩
  obtain ⟨ctx, keys⟩ := raised { code := 0, src := 4, ctx := some c, unit := r, detail := b2n ok }
  have incoming := incoming_raise { code := 0, src := 4, ctx := some c, unit := r, detail := b2n ok } z
  rw [if_pos on, erq] at incoming
  generalize raise { code := 0, src := 4, ctx := some c, unit := r, detail := b2n ok } z = y at ctx keys incoming ⊢
  refine ⟨bivOk_bivEnd, ?_, ?_, ?_, ?_, incoming⟩
  · show tget none y.kh.ctxKey c = some k
    rw [keys, kh, ctxKey, tget_tput_self _ _ (by simp)]
  · show tget none y.kh.memKey c = some k
    rw [keys, kh, memKey, tget_tput_self _ _ (by simp)]
  · exact congrArg Ctx.claimed (ctx.trans set)
  · show (ctxOf y c).origin = leAt b 48 8
    rw [ctx, set]

theorem claimFail_spec (n : Nat) : (claimFail r c n s).biv.busy = false ∧ (claimFail r c n s).biv.code = 0x0505 ∧
    (claimFail r c n s).obj = s.obj ∧ (claimFail r c n s).kh = s.kh ∧ (claimFail r c n s).hbm = s.hbm :=
  ⟨rfl, rfl, (within_raise ..).keeps (·.obj) fun _ => rfl, (within_raise ..).keeps (·.kh) fun _ => rfl,
    (within_raise ..).keeps (·.hbm) fun _ => rfl⟩

end

/-- Settles O22: each command by its equation where its checks hold. -/
theorem bivouacCommandsAct : Obligations.BivouacCommandsAct := by
  unfold Obligations.BivouacCommandsAct
  refine ⟨fun s r c dur ready free on region live serves => ?_, fun s r ready free on region none => ?_,
    fun s r ready free on region => ?_, fun s r c dur damaged k ready free on serves good =>
      ⟨fun quick alone key same => ?_, fun quick alone key differs whole => ?_, fun slow => ?_⟩,
    fun s r c damaged ready free on serves good alone key few => ?_⟩
  · refine ⟨_, congrArg Outcome.next (effDeclare_of_good ready free on region live serves), fun quick alone => ?_, fun slow => ?_⟩
    · rw [if_pos (by simp [quick, alone])]
      exact ⟨bivOk_bivEnd, hbm_declared⟩
    · rw [if_neg (by rcases slow with h | h <;> simp [h])]
      exact ⟨rfl, rfl, rfl⟩
  · have clears : effRelease r s = bivEnd 0 (regionMsg r (clearRec r s)) := by
      rw [effRelease, bivCmd_of_ready _ ready free on]
      exact if_pos (by simp [region, none])
    obtain ⟨ok, hbm, _, _⟩ := regionCleared_spec (s := s) (r := r)
    exact ⟨_, congrArg Outcome.next clears, ok, hbm⟩
  · have clears : effDiscard r s = bivEnd 0 (regionMsg r (clearRec r s)) := by
      rw [effDiscard, bivCmd_of_ready _ ready free on]
      exact if_pos region
    exact ⟨_, congrArg Outcome.next clears, regionCleared_spec⟩
  · have runs := (effClaim_of_good (dur := dur) (damaged := damaged) ready free on serves good).trans (if_pos (by simp [quick, alone]))
    have claims : claimRun r c damaged s = claimed r c k (decide (sealOf s (recOf s r) = leAt (recOf s r) 32 8)) s := by
      unfold claimRun
      rw [key]
      exact if_pos (by simpa using same)
    obtain ⟨ok, ctxKey, memKey, mark, origin, incoming⟩ := claimed_spec (s := s) (r := r) (c := c) k
      (decide (sealOf s (recOf s r) = leAt (recOf s r) 32 8)) (domOn_of_hostReady ready)
    refine ⟨_, congrArg Outcome.next (runs.trans claims), ok, ctxKey, memKey, mark, origin, incoming.trans ?_⟩
    simp [b2n]
  · have runs := (effClaim_of_good (dur := dur) (damaged := damaged) ready free on serves good).trans (if_pos (by simp [quick, alone]))
    have fails : claimRun r c damaged s = claimFail r c 6 s := by
      unfold claimRun
      rw [key]
      exact if_neg (by simp [differs, whole])
    obtain ⟨busy, code, obj, kh, hbm⟩ := claimFail_spec (s := s) (r := r) (c := c) 6
    exact ⟨_, congrArg Outcome.next (runs.trans fails), busy, code, obj, kh, hbm⟩
  · have waits := (effClaim_of_good (dur := dur) (damaged := damaged) ready free on serves good).trans
      (if_neg (by rcases slow with h | h <;> simp [h]))
    exact ⟨_, congrArg Outcome.next waits, rfl, rfl, rfl, rfl⟩
  · have runs := (effClaim_of_good (dur := 0) (damaged := damaged) ready free on serves good).trans (if_pos (by simp [alone]))
    have fails : claimRun r c damaged s = claimFail r c 5 (putRec r (putB (recOf s r) 13 (leBytes 1 (byteAt (recOf s r) 13 + 1))) s) := by
      unfold claimRun
      rw [key]
      dsimp only
      rw [if_neg (by omega)]
    obtain ⟨busy, code, obj, kh, hbm⟩ := claimFail_spec (s := putRec r (putB (recOf s r) 13 (leBytes 1 (byteAt (recOf s r) 13 + 1))) s)
      (r := r) (c := c) 5
    rw [hbm_putRec] at hbm
    exact ⟨_, congrArg Outcome.next (runs.trans fails), busy, code, obj.trans ((within_putRec ..).keeps (·.obj) fun _ => rfl),
      kh.trans ((within_putRec ..).keeps (·.kh) fun _ => rfl), hbm⟩

end Sys2Proof.Machine
end

section
/-!
PROOF. Ethernet frames, pauses and links; RoCE packets taken from a port's buffer; outbound WRITEs (07 R169 to R174, R182 to R185).
-/
namespace Sys2Proof.Machine
open Host Claims

/-! ## Frames and pauses (07 R170, R171) -/

section
variable {s : State} {p : Nat}

/-- The judgement of a port's buffer may send a pause or a release, and note it. -/
theorem pfcCheck_spec (here : p < s.eth.port.length) : ∃ l b, ethOf (pfcCheck p s) p = { ethOf s p with pausing := b } ∧
    (pfcCheck p s).out = s.out ++ l ∧
    (l = [] ∨ l = [.pfc p (ethOf s p).pfcPrio.toNat true] ∨ l = [.pfc p (ethOf s p).pfcPrio.toNat false]) ∧
    ((ethOf s p).pfcEn = false → l = []) := by
  unfold pfcCheck
  dsimp only
  have set (b : Bool) : ethOf (setEth s p { ethOf s p with pausing := b }) p = { ethOf s p with pausing := b } := by
    rw [ethOf_setEth _ _ _ _ here, if_pos rfl]
  split
  · exact ⟨[], (ethOf s p).pausing, rfl, by simp, .inl rfl, fun _ => rfl⟩
  · next on =>
    have off : (ethOf s p).pfcEn ≠ false := fun h => on (by simp [h])
    split
    · exact ⟨_, true, set true, rfl, .inr (.inl rfl), fun h => absurd h off⟩
    · split
      · exact ⟨_, false, set false, rfl, .inr (.inr rfl), fun h => absurd h off⟩
      · exact ⟨[], (ethOf s p).pausing, rfl, by simp, .inl rfl, fun _ => rfl⟩

theorem length_setEth (x : EthPort) : (setEth s p x).eth.port.length = s.eth.port.length := lset_length ..

/-- A frame that is held (07 R170). -/
theorem ethKeep_spec (f : EthFrame) (here : p < s.eth.port.length) : (ethOf (ethKeep p f s) p).inq = (ethOf s p).inq ++ [f] ∧
    (ethOf (ethKeep p f s) p).fill = (ethOf s p).fill + f.len ∧ (ethOf (ethKeep p f s) p).rxDrop = (ethOf s p).rxDrop := by
  unfold ethKeep
  dsimp only
  obtain ⟨_, b, port, _, _, _⟩ := pfcCheck_spec (s := setEth s p { ethOf s p with
    inq := (ethOf s p).inq ++ [f], fill := (ethOf s p).fill + f.len }) (p := p) (by rw [length_setEth]; exact here)
  rw [port, ethOf_setEth _ _ _ _ here, if_pos rfl]
  exact ⟨rfl, rfl, rfl⟩

/-- The frame at the head of a buffer leaves it. -/
theorem ethTake_spec {f : EthFrame} {r : List EthFrame} (head : (ethOf s p).inq = f :: r) (here : p < s.eth.port.length) :
    ∃ l b, ethOf (ethTake p s) p = { ethOf s p with inq := r, fill := (ethOf s p).fill - f.len, pausing := b } ∧
      (ethTake p s).out = s.out ++ l ∧
      (l = [] ∨ l = [.pfc p (ethOf s p).pfcPrio.toNat true] ∨ l = [.pfc p (ethOf s p).pfcPrio.toNat false]) ∧
      ((ethOf s p).pfcEn = false → l = []) := by
  unfold ethTake
  dsimp only
  rw [head]
  dsimp only
  obtain ⟨l, b, port, out, kind, quiet⟩ := pfcCheck_spec (s := setEth s p { ethOf s p with
    inq := r, fill := (ethOf s p).fill - f.len }) (p := p) (by rw [length_setEth]; exact here)
  rw [ethOf_setEth _ _ _ _ here, if_pos rfl] at port kind quiet
  exact ⟨l, b, port, out, kind, quiet⟩

/-- Nothing is skipped where the frame at the head is valid. -/
theorem ethSkip_of_valid {f : EthFrame} {r : List EthFrame} (head : (ethOf s p).inq = f :: r) (valid : frameValid s p f = true) :
    ethSkip p s = s := by
  rw [ethSkip, head, List.takeWhile_cons, if_neg (by simp [valid])]
  rfl

theorem ethResume_spec (here : p < s.eth.port.length) : ethOf (ethResume p s) p = { ethOf s p with paused := false, heldTx := [] } ∧
    (ethResume p s).out = s.out ++ (ethOf s p).heldTx.map (fun k => Out.roce p k) :=
  ⟨(ethOf_setEth s p p _ here).trans (if_pos rfl), rfl⟩

end

theorem ethernetFramesAct : EthernetFramesAct := by
  intro s p wf small
  have here : p < s.eth.port.length := (units_of_wf wf).2.2.1 ▸ small
  refine ⟨fun f on up => ⟨fun large => ?_, fun fits room => ⟨fun k kind bad => ?_, fun k kind good gone => ?_, fun kept => ?_⟩⟩,
    fun f r prio pause head kind en same => ?_, fun up => ?_, fun on => ?_⟩
  · have drops : effEthFrame p f s = ethDrop p s := by simp [effEthFrame, on, up, large]
    exact congrArg Outcome.next drops
  · have counts : effEthFrame p f s = setEth s p { ethOf s p with rxIcrc := inc32 (ethOf s p).rxIcrc } := by
      simp [effEthFrame, on, up, Nat.not_lt.mpr fits, Nat.not_lt.mpr room, kind, bad]
    exact congrArg Outcome.next counts
  · have drops : effEthFrame p f s = ethDrop p s := by
      simp only [effEthFrame, on, up, Nat.not_lt.mpr fits, Nat.not_lt.mpr room, kind, good]
      simp only [Bool.not_true, Bool.or_self, Bool.false_eq_true, if_false, or_self]
      split
      · rfl
      · next q found => rw [if_neg (gone q found)]
    exact congrArg Outcome.next drops
  · have keeps : effEthFrame p f s = ethKeep p f s := by
      rcases kept with ⟨prio, pause, kind⟩ | ⟨k, q, kind, good, found, rts⟩
      · simp [effEthFrame, on, up, Nat.not_lt.mpr fits, Nat.not_lt.mpr room, kind]
      · simp [effEthFrame, on, up, Nat.not_lt.mpr fits, Nat.not_lt.mpr room, kind, good, found, rts]
    exact ⟨_, congrArg Outcome.next keeps, ethKeep_spec f here⟩
  · have valid : frameValid s p f = true := by simp [frameValid, kind]
    obtain ⟨l, b, port, out, sent, _⟩ := ethTake_spec head here
    obtain ⟨len, kind'⟩ := f
    subst kind
    have pauses : effPfcPause p s = if pause then setEth (ethTake p s) p { ethOf (ethTake p s) p with paused := true }
        else ethResume p (ethTake p s) := by
      unfold effPfcPause
      dsimp only
      rw [ethSkip_of_valid head valid, head]
      dsimp only
      rw [port, if_neg (by simp [en, same])]
    have here' : p < (ethTake p s).eth.port.length := by
      rw [(within_ethTake s p).ethPort_length (units_of_wf wf).2.2.1]
      exact small
    refine ⟨_, congrArg Outcome.next pauses, ?_⟩
    cases pause with
    | true =>
      rw [if_pos rfl, ethOf_setEth _ _ _ _ here', if_pos rfl, port]
      exact ⟨rfl, rfl, fun _ => rfl, fun h => absurd h (by simp)⟩
    | false =>
      obtain ⟨port', out'⟩ := ethResume_spec here'
      rw [if_neg (by simp), port', port]
      refine ⟨rfl, rfl, fun h => absurd h (by simp), fun _ => ⟨rfl, l, ?_, same ▸ sent⟩⟩
      rw [out', out, port]
  · have down : effEthDown p s = raise { code := errEthLinkDown, src := 8, unit := p } (setEth s p { ethOf s p with up := false }) := by
      unfold effEthDown
      exact if_pos up
    refine ⟨_, congrArg Outcome.next down, (within_raise ..).keeps (·.eth) fun _ => rfl, fun host => ?_⟩
    rw [incoming_raise, if_pos (by exact host)]
    rfl
  · have rises : effEthUp p s = { setEth s p { ethOf s p with up := true } with pwr.clkLost := s.pwr.clkLost &&& 0x7 } := by
      rw [effEthUp, if_pos on]
    exact congrArg Outcome.next rises

/-! ## Packets taken for their queue pair (07 R170, R185) -/

section
variable {s : State} {p q : Nat} {k : RocePkt} {want : RoceOp → Bool}

/-- A packet taken for its queue pair, after a CNP where it is marked CE. -/
def tookPkt (p q : Nat) (k : RocePkt) (s : State) : State := if k.ce then sendCnp q (ethTake p s) else ethTake p s

theorem pktAt_spec (pkt : pktAt s p q k want) : ∃ len r, (ethOf s p).inq = { len := len, kind := .roce k } :: r ∧
    want k.op = true ∧ qpnOf s p k.dqpn.toNat = some q ∧ (qpOf s q).st = .rts := by
  obtain ⟨head, rts⟩ := pkt
  unfold headPkt at head
  split at head
  · next len k' r inq =>
    split at head
    · next wanted =>
      obtain ⟨q', found, same⟩ := Option.map_eq_some_iff.mp head
      obtain ⟨rfl, rfl⟩ := Prod.mk.inj same
      exact ⟨_, r, inq, wanted, found, rts⟩
    · cases head
  · cases head

theorem portNo_of_qpnOf {n : Nat} (found : qpnOf s p n = some q) : (qpOf s q).portNo = p := by
  unfold qpnOf at found
  split at found
  · next h =>
    obtain rfl := Option.some.inj found
    exact h.2.2.2
  · cases found

theorem lget_of_length_le {α : Type} (d : α) : ∀ (l : List α) (i : Nat), l.length ≤ i → lget d l i = d
  | [], _, _ => rfl
  | _ :: l, 0, h => by cases h
  | _ :: l, i + 1, h => lget_of_length_le d l i (Nat.le_of_succ_le_succ h)

theorem port_of_inq {f : EthFrame} {r : List EthFrame} (head : (ethOf s p).inq = f :: r) : p < s.eth.port.length := by
  by_contra out
  have none : ethOf s p = {} := lget_of_length_le _ _ _ (by omega)
  rw [none] at head
  cases head

theorem takePkt_of_pktAt (pkt : pktAt s p q k want) : takePkt p want s = (some (q, k), tookPkt p q k s) := by
  obtain ⟨len, r, head, wanted, found, rts⟩ := pktAt_spec pkt
  have valid : frameValid s p { len := len, kind := .roce k } = true := by simp [frameValid, found, rts]
  unfold takePkt
  dsimp only
  rw [ethSkip_of_valid head valid, pkt.1]
  rfl

theorem qpOf_ethSend (t : RoceTx) : qpOf (ethSend q t s) = qpOf s := (within_ethSend ..).keeps qpOf fun _ => rfl

theorem qpOf_setQp_of_rts (x : Qp) (rts : x.st = .rts) : qpOf (setQp s q x) q = x :=
  tget_tput_self _ _ (fun h => by rw [h] at rts; cases rts) _ _

/-- Taking a packet changes of its queue pair the time of the last CNP alone. -/
theorem qpOf_tookPkt (rts : (qpOf s q).st = .rts) : ∃ n, qpOf (tookPkt p q k s) q = { qpOf s q with cnpAt := n } := by
  have same : qpOf (ethTake p s) = qpOf s := (within_ethTake ..).keeps qpOf fun _ => rfl
  unfold tookPkt
  split
  · unfold sendCnp
    dsimp only
    rw [same]
    split
    · refine ⟨s.now + 1, ?_⟩
      rw [qpReply, qpOf_ethSend, qpOf_setQp_of_rts _ (by exact rts), (within_ethTake ..).keeps (·.now) fun _ => rfl]
    · exact ⟨_, by rw [same]⟩
  · exact ⟨_, by rw [same]⟩

theorem tookPkt_keeps : (tookPkt p q k s).hbm = s.hbm ∧ (tookPkt p q k s).now = s.now ∧ (tookPkt p q k s).obj = s.obj := by
  have w : Within [.out, .ethPort, .qp] s (tookPkt p q k s) := by
    unfold tookPkt
    exact .sub (.ite (.after (within_sendCnp ..) (within_ethTake ..)) (within_ethTake ..)) (by rfl)
  exact ⟨w.keeps (·.hbm) fun _ => rfl, w.keeps (·.now) fun _ => rfl, w.keeps (·.obj) fun _ => rfl⟩

end

/-! ## Sending (07 R171, R183) -/

section
variable {s : State} {q : Nat}

/-- A packet as queue pair `x` sends it. -/
def asSent (s : State) (q : Nat) (x : Qp) (k : RoceTx) : RoceTx := { k with qp := q, hdr := qpHdr s x, dqpn := x.dqpn }

theorem ethSend_of_open (k : RoceTx) (up : (ethOf s (qpOf s q).portNo).up = true)
    (free : (ethOf s (qpOf s q).portNo).paused = false ∨ (qpOf s q).vlan = false) :
    ethSend q k s = emit (.roce (qpOf s q).portNo (asSent s q (qpOf s q) k)) s := by
  rw [ethSend]
  rw [if_neg (by simp [up]), if_neg (by simpa using fun p => free.resolve_left (by simp [p]))]
  rfl

theorem sendTx_of_open (l : List RoceTx) (up : (ethOf s (qpOf s q).portNo).up = true)
    (free : (ethOf s (qpOf s q).portNo).paused = false ∨ (qpOf s q).vlan = false) :
    sendTx q l s = emitAll (l.map fun k => .roce (qpOf s q).portNo (asSent s q (qpOf s q) k)) s := by
  induction l generalizing s with
  | nil => simp [sendTx, emitAll]
  | cons k l ih =>
    have rest := ih (s := emit (.roce (qpOf s q).portNo (asSent s q (qpOf s q) k)) s) up free
    rw [sendTx] at rest
    rw [sendTx, List.foldl_cons, ethSend_of_open k up free, rest]
    simp only [emitAll, emit, List.map_cons, List.append_assoc, List.singleton_append]
    rfl

theorem qpOf_sendTx (l : List RoceTx) : qpOf (sendTx q l s) = qpOf s := foldl_keeps qpOf (fun _ _ => qpOf_ethSend _) l s

/-- A record that sends no EMERGENCY sends nothing. -/
theorem out_raise_of_quiet {e : ErrRec} (quiet : isEmergency e = false) (s : State) : (raise e s).out = s.out := by
  rw [raise, emergency, if_neg (by simp [quiet]), record]
  split <;> rfl

/-! ## Failures (07 R174) -/

theorem out_qpError (cause : QpCause) (addr : Nat) : (qpError q cause addr s).out = s.out := by
  unfold qpError
  dsimp only
  split
  · exact out_raise_of_quiet (by simp only [isEmergency]; split <;> rfl) _
  · rfl

/-- A fault's own record, before that of the queue pair. -/
def faultRaised (q : Nat) (va : Option Nat) (s : State) : State :=
  match va with
  | some a => raise { code := errPageFault, src := 8, ctx := some (qpOf s q).ctx, unit := (qpOf s q).portNo, addr := a } s
  | none => s

theorem faultRaised_keeps (va : Option Nat) : qpOf (faultRaised q va s) = qpOf s ∧ (faultRaised q va s).out = s.out := by
  cases va with
  | some a => exact ⟨(within_raise ..).keeps qpOf fun _ => rfl, out_raise_of_quiet rfl _⟩
  | none => exact ⟨rfl, rfl⟩

theorem qpOf_qpFault (va : Option Nat) (rts : (qpOf s q).st = .rts) :
    qpOf (qpFault q va s) q = { qpOf s q with st := .error, inb := .none, outs := [] } := by
  have same := congrFun (faultRaised_keeps (s := s) (q := q) va).1 q
  have failed := qpOf_qpError .fault 0 (same.symm ▸ rts)
  rw [same] at failed
  exact failed

theorem out_qpFault (va : Option Nat) : (qpFault q va s).out = s.out :=
  (out_qpError (s := faultRaised q va s) .fault 0).trans (faultRaised_keeps va).2

/-- Sending the open requests again keeps the counts of a queue pair and the time of its last answer. -/
theorem resend_keeps (hr : List Host.Cell) : (qpOf (resend q hr s) q).rnr = (qpOf s q).rnr ∧
    (qpOf (resend q hr s) q).ackAt = (qpOf s q).ackAt ∧ (qpOf (resend q hr s) q).retries = (qpOf s q).retries := by
  have same : ((qpOf (resend q hr s) q).rnr, (qpOf (resend q hr s) q).ackAt, (qpOf (resend q hr s) q).retries) =
      ((qpOf s q).rnr, (qpOf s q).ackAt, (qpOf s q).retries) := by
    refine foldl_keeps (fun s => ((qpOf s q).rnr, (qpOf s q).ackAt, (qpOf s q).retries)) (fun s o => ?_) _ (drawn s)
    split
    · rfl
    · next rts =>
      split
      · rw [qpOf_qpFault _ (Decidable.not_not.mp rts)]
      · rw [qpOf_sendTx]
  simpa only [Prod.mk.injEq] using same

end

/-! ## Acknowledgements (07 R183) -/

section
variable {s : State} {q n : Nat}

theorem evOwned_evAdd {c : Nat} (inc : Nat) (mk : ErrRec) (own : evOwned s c n = true) : evOwned (evAdd n inc mk s) c n = true := by
  obtain ⟨live, ctx⟩ := Bool.and_eq_true_iff.mp own
  have change (v : BitVec 64) : (evOf (evChange n v s) n).ctx = c := by
    have set : evOf (markWaits (evOf s n).ctx n (fun y => decide (leAt y.desc 24 8 ≤ v.toNat)) 0
        (setEv s n { evOf s n with cnt := v })) n = { evOf s n with cnt := v } := evOf_setEv_of_live _ _ _ (by exact live)
    obtain ⟨-, same, -⟩ := evOf_evNotify _ n (by rw [set]; exact live)
    exact same.trans (by rw [set]; exact of_decide_eq_true ctx)
  rw [evOwned, (evOf_evAdd _ _ inc mk live).1, Bool.true_and, decide_eq_true_eq, evAdd]
  split
  · rw [(within_raise ..).keeps (evOf · n) fun _ => rfl]
    exact change _
  · exact change _

/-- A queue pair whose oldest open request is complete. -/
def oneDone (x : Qp) (r : List QpOut) : Qp := { x with completed := x.completed + 1, outs := r }

theorem ackOuts_of_covered {psn : Nat} {o : QpOut} (covered : (psn + 2 ^ 24 - o.psnLast) % 2 ^ 24 < 2 ^ 23) (r : List QpOut) :
    ackOuts q psn (o :: r) s = ackOuts q psn r (if evOwned s (qpOf s q).ctx (qpOf s q).cmpEvent then
      evAdd (qpOf s q).cmpEvent 1 { code := 0, src := 8, unit := (qpOf s q).portNo } (setQp s q (oneDone (qpOf s q) r))
    else setQp s q (oneDone (qpOf s q) r)) := by
  rw [ackOuts, if_pos covered]
  rfl

/-- An acknowledgement completes the requests whose last packet its PSN covers, and counts each (R183). -/
theorem ackOuts_spec (psn : Nat) {cov : QpOut → Bool} (covers : cov = fun o => decide ((psn + 2 ^ 24 - o.psnLast) % 2 ^ 24 < 2 ^ 23))
    (l : List QpOut) : ∀ s x, x = qpOf s q → x.st = .rts →
    qpOf (ackOuts q psn l s) q = { x with outs := l.dropWhile cov, completed := x.completed + (l.takeWhile cov).length } ∧
      (evOwned s x.ctx x.cmpEvent = true → (evOf (ackOuts q psn l s) x.cmpEvent).cnt.toNat =
        min ((evOf s x.cmpEvent).cnt.toNat + (l.takeWhile cov).length) (2 ^ 64 - 1)) := by
  induction l with
  | nil =>
    intro s x is rts
    subst is
    refine ⟨qpOf_setQp_of_rts _ (by exact rts), fun _ => ?_⟩
    have bound := (evOf s (qpOf s q).cmpEvent).cnt.isLt
    simp only [List.takeWhile_nil, List.length_nil, Nat.add_zero]
    exact (Nat.min_eq_left (by omega)).symm
  | cons o r ih =>
    intro s x is rts
    subst is
    by_cases covered : (psn + 2 ^ 24 - o.psnLast) % 2 ^ 24 < 2 ^ 23
    · have done : cov o = true := by rw [covers]; exact decide_eq_true covered
      rw [ackOuts_of_covered covered, List.dropWhile_cons, List.takeWhile_cons, if_pos done, if_pos done, List.length_cons]
      have place : qpOf (setQp s q (oneDone (qpOf s q) r)) q = oneDone (qpOf s q) r := qpOf_setQp_of_rts _ rts
      have whole (m : Nat) : ({ oneDone (qpOf s q) r with
          outs := r.dropWhile cov, completed := (oneDone (qpOf s q) r).completed + m } : Qp) =
          { qpOf s q with outs := r.dropWhile cov, completed := (qpOf s q).completed + (m + 1) } := by
        rw [Nat.add_comm m 1, ← Nat.add_assoc]
        rfl
      split
      · next own =>
        have counted : qpOf (evAdd (qpOf s q).cmpEvent 1 { code := 0, src := 8, unit := (qpOf s q).portNo } (setQp s q (oneDone (qpOf s q) r))) q =
            oneDone (qpOf s q) r :=
          ((within_evAdd ..).keeps (qpOf · q) fun _ => rfl).trans place
        obtain ⟨rest, count⟩ := ih _ _ counted.symm rts
        refine ⟨rest.trans (whole _), fun _ => ?_⟩
        refine (count (evOwned_evAdd _ _ own)).trans ?_
        change min ((evOf (evAdd (qpOf s q).cmpEvent 1 _ (setQp s q _)) (qpOf s q).cmpEvent).cnt.toNat + _) _ = _
        rw [(evOf_evAdd (setQp s q _) _ 1 _ (Bool.and_eq_true_iff.mp own).1).2]
        change min (min ((evOf s (qpOf s q).cmpEvent).cnt.toNat + 1) _ + _) _ = _
        omega
      · next own =>
        obtain ⟨rest, -⟩ := ih _ _ place.symm rts
        exact ⟨rest.trans (whole _), fun h => absurd h own⟩
    · have open' : cov o = false := by rw [covers]; exact decide_eq_false covered
      rw [ackOuts, if_neg covered, List.dropWhile_cons, List.takeWhile_cons, if_neg (by simp [open']), if_neg (by simp [open'])]
      refine ⟨qpOf_setQp_of_rts _ (by exact rts), fun _ => ?_⟩
      have bound := (evOf s (qpOf s q).cmpEvent).cnt.isLt
      exact (Nat.min_eq_left (by simpa using by omega)).symm

end
/-! ## The commands -/

/-- A queue pair that has posted its next request as `n` packets (R183). -/
def posted (s : State) (x : Qp) (n : Nat) : Qp :=
  { x with
    sent := x.sent + 1, spsn := (x.spsn + n) % 2 ^ 24, ackAt := if x.outs.isEmpty then s.now else x.ackAt,
    outs := x.outs ++
      [{ idx := x.sent, psnFirst := x.spsn, psnLast := (x.spsn + n + 2 ^ 24 - 1) % 2 ^ 24 }] }

theorem effRocePost_of_ok {s : State} {q : Nat} {hr : List Host.Cell} {l : List RoceTx} (can : canPost s q = true)
    (up : (ethOf s (qpOf s q).portNo).up = true) (ok : requestTx s hr (qpOf s q) (qpOf s q).sent (qpOf s q).spsn = .ok l) :
    effRocePost q hr s = { s with
      free := s.free + 1, out := s.out ++ l.map (fun k => Out.roce (qpOf s q).portNo (asSent s q (qpOf s q) k)),
      eth.qp := tput {} s.eth.qp q (posted s (qpOf s q) l.length) } := by
  have form := can
  simp only [canPost, Bool.and_eq_true, decide_eq_true_eq, Bool.not_eq_true', Bool.and_eq_false_iff] at form
  obtain ⟨⟨⟨-, rts⟩, -⟩, free⟩ := form
  rw [effRocePost, if_neg (by simp [can]), ok]
  change sendTx q l (setQp (drawn s) q (posted s (qpOf s q) l.length)) = _
  have place : qpOf (setQp (drawn s) q (posted s (qpOf s q) l.length)) q = posted s (qpOf s q) l.length :=
    qpOf_setQp_of_rts _ rts
  rw [sendTx_of_open l (by rw [place]; exact up) (by rw [place]; exact free), place]
  rfl

theorem canPost_of_up {s : State} {q : Nat} (net : domOn s dNET = true) (mem : domOn s dMEM = true) (rts : (qpOf s q).st = .rts)
    (due : (qpOf s q).sent < (evOf s (qpOf s q).sqEvent).cnt.toNat)
    (free : (ethOf s (qpOf s q).portNo).paused = false ∨ (qpOf s q).vlan = false) : canPost s q = true := by
  rw [canPost]
  rcases free with free | free <;> simp [net, mem, rts, due, free]

/-- The headers of a queue pair rest on its descriptor and its port's own addresses and priority. -/
theorem qpHdr_congr {s u : State} {x y : Qp} (desc : y.desc = x.desc)
    (port : ∃ i n b, ethOf u x.portNo = { ethOf s x.portNo with inq := i, fill := n, pausing := b }) : qpHdr u y = qpHdr s x := by
  obtain ⟨i, n, b, port⟩ := port
  have number : y.portNo = x.portNo := by rw [Qp.portNo, Qp.portNo, desc]
  have tagged : y.vlan = x.vlan := by rw [Qp.vlan, Qp.vlan, desc]
  simp only [qpHdr, number, tagged, port, desc]

/-- The CNP that a packet marked CE asks for (R185). -/
theorem tookPkt_of_ce {s : State} {p q : Nat} {k : RocePkt} {want : RoceOp → Bool} (pkt : pktAt s p q k want) (ce : k.ce = true)
    (quiet : (ethOf s p).pfcEn = false) (up : (ethOf s p).up = true) (open' : (ethOf s p).paused = false) :
    ((qpOf s q).cnpAt = 0 ∨ (qpOf s q).cnpAt - 1 + 50000 ≤ s.now →
      (qpOf (tookPkt p q k s) q).cnpAt = s.now + 1 ∧ (tookPkt p q k s).out = s.out ++
        [.roce p { qp := q, hdr := qpHdr s (qpOf s q), dqpn := (qpOf s q).dqpn, op := .cnp, psn := 0, syndrome := 0 }]) ∧
    ((qpOf s q).cnpAt ≠ 0 → s.now < (qpOf s q).cnpAt - 1 + 50000 →
      (qpOf (tookPkt p q k s) q).cnpAt = (qpOf s q).cnpAt ∧ (tookPkt p q k s).out = s.out) := by
  obtain ⟨len, r, head, -, found, rts⟩ := pktAt_spec pkt
  obtain ⟨l, b, port, out, -, none⟩ := ethTake_spec head (port_of_inq head)
  obtain rfl := none quiet
  rw [List.append_nil] at out
  have same : qpOf (ethTake p s) q = qpOf s q := (within_ethTake ..).keeps (qpOf · q) fun _ => rfl
  have now : (ethTake p s).now = s.now := (within_ethTake ..).keeps (·.now) fun _ => rfl
  have number := portNo_of_qpnOf found
  rw [tookPkt, if_pos ce, sendCnp, same, now]
  refine ⟨fun due => ?_, fun set early => ?_⟩
  · rw [if_pos (by simpa using due)]
    have place : qpOf (setQp (ethTake p s) q { qpOf s q with cnpAt := s.now + 1 }) q = { qpOf s q with cnpAt := s.now + 1 } :=
      qpOf_setQp_of_rts _ (by exact rts)
    have at' : (qpOf (setQp (ethTake p s) q { qpOf s q with cnpAt := s.now + 1 }) q).portNo = p := by rw [place]; exact number
    have port' : ethOf (setQp (ethTake p s) q { qpOf s q with cnpAt := s.now + 1 }) p = _ := port
    refine ⟨by rw [qpReply, qpOf_ethSend, place], ?_⟩
    rw [qpReply, ethSend_of_open _ (by rw [at', port']; exact up) (.inl (by rw [at', port']; exact open')), at', place]
    refine (congrArg (· ++ _) out).trans (congrArg (fun h => s.out ++ [Out.roce p h]) ?_)
    have header : qpHdr (setQp (ethTake p s) q { qpOf s q with cnpAt := s.now + 1 }) { qpOf s q with cnpAt := s.now + 1 } =
        qpHdr s (qpOf s q) :=
        qpHdr_congr rfl ⟨r, _, b, by rw [number]; exact port⟩
    rw [asSent, header]
    rfl
  · rw [if_neg (by simpa [set] using early)]
    exact ⟨by rw [same], out⟩

theorem outboundWritesAct : OutboundWritesAct := by
  refine ⟨fun s q hr x l is net mem rts due up free ok => ?_, fun s q hr x va is can bad => ?_,
    fun s p q k x pkt is ce quiet up open' => ?_, fun s p q k x cov pkt is covers => ?_, fun s p q k hr x pkt is => ?_,
    fun s q hr x is net rts some late => ?_, fun s p q k pkt => ?_, fun s q net rts late => ?_⟩
  · subst is
    exact congrArg Outcome.next (effRocePost_of_ok (canPost_of_up net mem rts due free) up ok)
  · subst is
    have rts : (qpOf s q).st = .rts := by
      simp only [canPost, Bool.and_eq_true, decide_eq_true_eq] at can
      exact can.1.1.2
    have fails : effRocePost q hr s = qpFault q va (drawn s) := by
      rw [effRocePost, if_neg (by simp [can]), bad]
    exact ⟨_, congrArg Outcome.next fails, qpOf_qpFault va rts, out_qpFault va⟩
  · subst is
    obtain ⟨len, r, head, -, found, rts⟩ := pktAt_spec pkt
    rw [portNo_of_qpnOf found] at up open' ⊢
    obtain ⟨due, early⟩ := tookPkt_of_ce pkt ce quiet up open'
    obtain ⟨n, place⟩ := qpOf_tookPkt (p := p) (k := k) rts
    have takes : effRoceCnp p s = setQp (tookPkt p q k s) q { qpOf (tookPkt p q k s) q with
        rate := max 1000000000 ((qpOf (tookPkt p q k s) q).rate / 2), rateAt := (tookPkt p q k s).now } := by
      rw [effRoceCnp, takePkt_of_pktAt pkt]
    have after : (qpOf (effRoceCnp p s) q).cnpAt = (qpOf (tookPkt p q k s) q).cnpAt := by
      rw [takes, qpOf_setQp_of_rts _ (by rw [place]; exact rts)]
    have sent : (effRoceCnp p s).out = (tookPkt p q k s).out := by rw [takes]; rfl
    exact ⟨fun h => ⟨_, rfl, after.trans (due h).1, sent.trans (due h).2⟩,
      fun h h' => ⟨_, rfl, after.trans (early h h').1, sent.trans (early h h').2⟩⟩
  · subst is
    obtain ⟨-, -, -, -, -, rts⟩ := pktAt_spec pkt
    obtain ⟨n, place⟩ := qpOf_tookPkt (p := p) (k := k) rts
    have takes : effRoceAck p s = ackOuts q k.psn.toNat (qpOf (tookPkt p q k s) q).outs
        (setQp (tookPkt p q k s) q { qpOf (tookPkt p q k s) q with retries := 0, rnr := 0, ackAt := (tookPkt p q k s).now }) := by
      rw [effRoceAck, takePkt_of_pktAt pkt]
    obtain ⟨-, now, obj⟩ := tookPkt_keeps (s := s) (p := p) (q := q) (k := k)
    rw [place, now] at takes
    have start := qpOf_setQp_of_rts (s := tookPkt p q k s) (q := q)
      { qpOf s q with cnpAt := n, retries := 0, rnr := 0, ackAt := s.now } rts
    obtain ⟨pair, count⟩ := ackOuts_spec k.psn.toNat covers (qpOf s q).outs _ _ start.symm rts
    refine ⟨_, rfl, ?_, fun own => ?_⟩
    · rw [takes, pair]
    · rw [takes]
      have event (e : Nat) : evOf (tookPkt p q k s) e = evOf s e := by rw [evOf, evOf, obj]
      refine (count ?_).trans ?_
      · change evOwned (tookPkt p q k s) (qpOf s q).ctx (qpOf s q).cmpEvent = true
        rw [evOwned, event]
        exact own
      · change min ((evOf (tookPkt p q k s) (qpOf s q).cmpEvent).cnt.toNat + _) _ = _
        rw [event]
  · subst is
    obtain ⟨-, -, -, -, -, rts⟩ := pktAt_spec pkt
    obtain ⟨n, place⟩ := qpOf_tookPkt (p := p) (k := k) rts
    have rts' : (qpOf (tookPkt p q k s) q).st = .rts := by rw [place]; exact rts
    obtain ⟨-, now, -⟩ := tookPkt_keeps (s := s) (p := p) (q := q) (k := k)
    have fails (cause : QpCause) : qpOf (qpError q cause 0 (tookPkt p q k s)) q = { qpOf s q with
        st := .error, inb := .none, outs := [], cnpAt := (qpOf (qpError q cause 0 (tookPkt p q k s)) q).cnpAt } := by
      rw [qpOf_qpError _ _ rts', place]
    have takes : effRoceNak p hr s =
        if k.syndrome.toNat / 32 ≠ 1 then qpError q .nak 0 (tookPkt p q k s)
        else if (qpOf (tookPkt p q k s) q).rnrMax = 7 ∨ (qpOf (tookPkt p q k s) q).rnr < (qpOf (tookPkt p q k s) q).rnrMax then
          resend q hr (setQp (tookPkt p q k s) q { qpOf (tookPkt p q k s) q with
            rnr := (qpOf (tookPkt p q k s) q).rnr + 1, ackAt := (tookPkt p q k s).now })
        else qpError q .rnr 0 (tookPkt p q k s) := by
      rw [effRoceNak, takePkt_of_pktAt pkt]
    refine ⟨fun rnr more => ?_, fun rnr lim spent => ?_, fun other => ?_⟩
    · rw [if_neg (by simp [rnr]), if_pos (by rw [place]; exact more)] at takes
      obtain ⟨count, at', -⟩ := resend_keeps (s := setQp (tookPkt p q k s) q { qpOf (tookPkt p q k s) q with
        rnr := (qpOf (tookPkt p q k s) q).rnr + 1, ackAt := (tookPkt p q k s).now }) (q := q) hr
      rw [qpOf_setQp_of_rts _ (by exact rts')] at count at'
      refine ⟨_, congrArg Outcome.next takes, count.trans (by rw [place]), at'.trans now⟩
    · rw [if_neg (by simp [rnr]), if_neg (by rw [place]; exact fun h => h.elim lim (Nat.not_lt.mpr spent))] at takes
      exact ⟨_, congrArg Outcome.next takes, fails .rnr⟩
    · rw [if_pos other] at takes
      exact ⟨_, congrArg Outcome.next takes, fails .nak⟩
  · subst is
    have due : effRoceTimeout q hr s = if (qpOf s q).retries < (qpOf s q).retryMax then
        resend q hr (setQp s q { qpOf s q with retries := (qpOf s q).retries + 1, ackAt := s.now }) else qpError q .retry 0 s := by
      rw [effRoceTimeout, if_neg (by simp [net, rts, some, Nat.not_lt.mpr late])]
    refine ⟨fun more => ?_, fun spent => ?_⟩
    · rw [if_pos more] at due
      obtain ⟨-, -, count⟩ := resend_keeps (s := setQp s q { qpOf s q with
        retries := (qpOf s q).retries + 1, ackAt := s.now }) (q := q) hr
      rw [qpOf_setQp_of_rts _ (by exact rts)] at count
      exact ⟨_, congrArg Outcome.next due, count⟩
    · rw [if_neg (Nat.not_lt.mpr spent)] at due
      exact ⟨_, congrArg Outcome.next due, qpOf_qpError _ _ rts⟩
  · obtain ⟨-, -, -, -, -, rts⟩ := pktAt_spec pkt
    obtain ⟨n, place⟩ := qpOf_tookPkt (p := p) (k := k) rts
    obtain ⟨-, now, -⟩ := tookPkt_keeps (s := s) (p := p) (q := q) (k := k)
    have takes : effRoceCnp p s = setQp (tookPkt p q k s) q { qpOf (tookPkt p q k s) q with
        rate := max 1000000000 ((qpOf (tookPkt p q k s) q).rate / 2), rateAt := (tookPkt p q k s).now } := by
      rw [effRoceCnp, takePkt_of_pktAt pkt]
    refine ⟨_, congrArg Outcome.next takes, ?_⟩
    rw [qpOf_setQp_of_rts _ (by rw [place]; exact rts), place, now]
  · have rises : effRoceRate q s = setQp s q { qpOf s q with
        rate := min 200000000000 ((qpOf s q).rate + 5000000000), rateAt := s.now } := by
      rw [effRoceRate, if_pos (by simp [net, rts, late])]
    exact congrArg Outcome.next rises

/-- Settles O25: an outbound request is followed through `ethSend`, and a packet taken changes of its queue pair the time of the last
CNP alone. -/
theorem portFramesAndOutboundActs : Obligations.PortFramesAndOutboundActs := ⟨ethernetFramesAct, outboundWritesAct⟩

end Sys2Proof.Machine
end

section
/-!
PROOF. Inbound RoCE requests (07 R176 to R180).
-/
namespace Sys2Proof.Machine
open Host Claims

section
variable {s : State} {p q : Nat} {k : RocePkt}

/-- What an inbound request does once it is taken from the buffer. -/
def inbound (q : Nat) (k : RocePkt) (s : State) : State :=
  let x := qpOf s q
  let psn := k.psn.toNat
  let ahead := (psn + 2 ^ 24 - x.epsn) % 2 ^ 24
  if k.op = .other then qpNak q psn synInvalid .request 0 s
  else if 2 ^ 23 ≤ ahead then dupPkt q k s
  else if ahead ≠ 0 then qpReply q .nak x.epsn synSeq s
  else
    match pktLanding s x k with
    | .error .rnr => qpReply q .nak psn synRnr s
    | .error .invalid => qpNak q psn synInvalid .request 0 s
    | .error (.access va) => qpNak q psn synAccess .access va s
    | .error (.fault va) => qpFault q (some va) s
    | .ok w =>
      match netWrite x.ctx w.writes [] s with
      | none => qpFault q (some w.at') s
      | some r =>
        qpLanded q psn w.ev false r.1 (setQp r.2 q { x with
          epsn := (psn + 1) % 2 ^ 24, inb := w.inb, msgs := w.msgs, hist := (psn, w.at', w.rkey) :: x.hist })

theorem effRoceInbound_of_pktAt
    (pkt : pktAt s p q k (fun o => decide (o ≠ .ack) && decide (o ≠ .nak) && decide (o ≠ .cnp))) :
    effRoceInbound p s = inbound q k (tookPkt p q k s) := by
  rw [effRoceInbound, takePkt_of_pktAt pkt]
  rfl

/-- A packet at the expected PSN goes to its landing (R177). -/
theorem inbound_of_next (here : k.psn.toNat = (qpOf s q).epsn) (small : (qpOf s q).epsn < 2 ^ 24) (form : k.op ≠ .other) :
    inbound q k s = match pktLanding s (qpOf s q) k with
    | .error .rnr => qpReply q .nak k.psn.toNat synRnr s
    | .error .invalid => qpNak q k.psn.toNat synInvalid .request 0 s
    | .error (.access va) => qpNak q k.psn.toNat synAccess .access va s
    | .error (.fault va) => qpFault q (some va) s
    | .ok w =>
      match netWrite (qpOf s q).ctx w.writes [] s with
      | none => qpFault q (some w.at') s
      | some r =>
        qpLanded q k.psn.toNat w.ev false r.1 (setQp r.2 q { qpOf s q with
          epsn := (k.psn.toNat + 1) % 2 ^ 24, inb := w.inb, msgs := w.msgs,
          hist := (k.psn.toNat, w.at', w.rkey) :: (qpOf s q).hist }) := by
  have none : (k.psn.toNat + 2 ^ 24 - (qpOf s q).epsn) % 2 ^ 24 = 0 := by omega
  rw [inbound]
  dsimp only
  rw [if_neg form, none, if_neg (by decide), if_neg (by decide)]

theorem qpOf_qpLanded (psn : Nat) (ev dup : Bool) (waits : List Nat) (rts : (qpOf s q).st = .rts) :
    qpOf (qpLanded q psn ev dup waits s) q = { qpOf s q with
      lands := (qpOf s q).lands ++ [{ id := (qpOf s q).nextLand, psn := psn, ev := ev, dup := dup, waits := waits }],
      nextLand := (qpOf s q).nextLand + 1 } := qpOf_setQp_of_rts _ (by exact rts)

/-- A NAK that ends a queue pair stores nothing. -/
theorem qpNak_spec (psn syn : Nat) (cause : QpCause) (addr : Nat) (rts : (qpOf s q).st = .rts) :
    (qpNak q psn syn cause addr s).hbm = s.hbm ∧ (qpOf (qpNak q psn syn cause addr s) q).st = .error :=
  ⟨(within_qpNak ..).keeps (·.hbm) fun _ => rfl, by rw [qpNak, qpReply, qpOf_ethSend, qpOf_qpError _ _ rts]⟩

theorem qpReply_spec (op : RoceOp) (psn syn : Nat) :
    (qpReply q op psn syn s).hbm = s.hbm ∧ qpOf (qpReply q op psn syn s) = qpOf s :=
  ⟨(within_qpReply ..).keeps (·.hbm) fun _ => rfl, qpOf_ethSend _⟩

end

/-- A duplicate of a packet that may land again does so (R180). -/
theorem dupPkt_of_hist {s : State} {q va : Nat} {k : RocePkt} {rkey : Option Nat} {r : List Nat × State}
    (found : (qpOf s q).hist.find? (fun h => decide (h.1 = k.psn.toNat)) = some (k.psn.toNat, va, rkey))
    (ok : if dupPkt.sendOp k.op then ringFits s (qpOf s q) = true
      else rkey.any (fun w => rkeyOk s (qpOf s q).ctx w va k.payload.length) = true)
    (writes : netWrite (qpOf s q).ctx [(va, k.payload)] [] s = some r) :
    dupPkt q k s = qpLanded q k.psn.toNat false true r.1 r.2 := by
  rw [dupPkt, found]
  dsimp only
  split at ok
  · next send => rw [if_neg (by simp [send]), if_neg (by simp [send, ok]), writes]
  · next write => rw [if_neg (by simp [ok]), if_neg (by simp [write]), writes]

/-- The state in which a landed packet's message is counted: its landing is gone, and its ACK is sent in RTS (R180). -/
def ackedLanding (q : Nat) (l : QpLand) (r : List QpLand) (s : State) : State :=
  let u := setQp s q { qpOf s q with lands := r }
  if (qpOf s q).st = .rts then qpReply q .ack l.psn synAck u else u

theorem effRoceLanded_of_landed {s : State} {q : Nat} {l : QpLand} {r : List QpLand} (head : (qpOf s q).lands = l :: r)
    (landed : l.waits = []) : effRoceLanded q s =
      if l.ev && !l.dup && evOwned (ackedLanding q l r s) (qpOf s q).ctx (qpOf s q).rxEvent then
        evAdd (qpOf s q).rxEvent 1 { code := 0, src := 8, unit := (qpOf s q).portNo } (ackedLanding q l r s)
      else ackedLanding q l r s := by
  rw [effRoceLanded]
  dsimp only
  rw [head]
  dsimp only
  rw [if_pos (by rw [landed]; rfl)]
  rfl

theorem ackedLanding_spec {s : State} {q : Nat} {l : QpLand} {r : List QpLand} (wf : Tables.wf s = true) :
    qpOf (ackedLanding q l r s) q = { qpOf s q with lands := r } ∧ (ackedLanding q l r s).obj = s.obj := by
  have place : qpOf (setQp s q { qpOf s q with lands := r }) q = { qpOf s q with lands := r } :=
    (qpOf_setQp _ _ _ _ ((formed_iff s).mpr wf).qp).trans (if_pos rfl)
  unfold ackedLanding
  dsimp only
  split
  · exact ⟨(congrFun (qpReply_spec ..).2 q).trans place, (within_qpReply ..).keeps (·.obj) fun _ => rfl⟩
  · exact ⟨place, rfl⟩

/-- Settles O26: each request is followed from the state that its taking leaves, by `inbound`. -/
theorem inboundPacketsAct : Obligations.InboundPacketsAct := by
  refine ⟨fun s s' p q k pkt is => ?_, fun s q l r wf head landed => ?_⟩
  · obtain ⟨-, -, -, -, -, rts⟩ := pktAt_spec pkt
    obtain ⟨n, place⟩ := qpOf_tookPkt (p := p) (k := k) rts
    obtain ⟨hbm, -, -⟩ := tookPkt_keeps (s := s) (p := p) (q := q) (k := k)
    have does := effRoceInbound_of_pktAt pkt
    change s' = tookPkt p q k s at is
    rw [← is] at place hbm does
    clear is
    have rts' : (qpOf s' q).st = .rts := by rw [place]; exact rts
    have epsn : (qpOf s' q).epsn = (qpOf s q).epsn := by rw [place]
    have ctx : (qpOf s' q).ctx = (qpOf s q).ctx := by rw [place]; rfl
    refine ⟨fun w r here small form lands writes => ?_, fun here small form lands => ?_, fun va here small form lands => ?_,
      fun form => ?_, fun va rkey r form behind found ok writes => ?_, fun form ahead near => ?_⟩
    · rw [inbound_of_next (here.trans epsn.symm) (epsn ▸ small) form, lands] at does
      dsimp only at does
      rw [ctx, writes] at does
      dsimp only at does
      refine ⟨_, congrArg Outcome.next does, rfl, ?_⟩
      rw [qpOf_qpLanded _ _ _ _ (by rw [qpOf_setQp_of_rts _ (by exact rts')]; exact rts'), qpOf_setQp_of_rts _ (by exact rts')]
      rw [place, here]
      exact ⟨rts, rfl, rfl, rfl, rfl, rfl⟩
    · rw [inbound_of_next (here.trans epsn.symm) (epsn ▸ small) form, lands] at does
      obtain ⟨mem, pairs⟩ := qpReply_spec (s := s') (q := q) .nak k.psn.toNat synRnr
      exact ⟨_, congrArg Outcome.next does, mem.trans hbm, congrFun pairs q⟩
    · rw [inbound_of_next (here.trans epsn.symm) (epsn ▸ small) form, lands] at does
      obtain ⟨mem, st⟩ := qpNak_spec k.psn.toNat synAccess .access va rts'
      exact ⟨_, congrArg Outcome.next does, mem.trans hbm, st⟩
    · rw [inbound] at does
      rw [if_pos form] at does
      obtain ⟨mem, st⟩ := qpNak_spec k.psn.toNat synInvalid .request 0 rts'
      exact ⟨_, congrArg Outcome.next does, mem.trans hbm, st⟩
    · have hist : (qpOf s' q).hist = (qpOf s q).hist := by rw [place]
      rw [← hist] at found
      rw [← ctx] at ok writes
      have again : inbound q k s' = qpLanded q k.psn.toNat false true r.1 r.2 := by
        rw [inbound, if_neg form, if_pos (by rw [epsn]; exact behind), dupPkt_of_hist found ok writes]
      have same : qpOf r.2 q = qpOf s' q := (within_netWrite writes).keeps (qpOf · q) fun _ => rfl
      refine ⟨_, congrArg Outcome.next (does.trans again), rfl, ?_⟩
      rw [qpOf_qpLanded _ _ _ _ (by rw [same]; exact rts'), same, place]
      exact ⟨rts, rfl, rfl⟩
    · rw [inbound] at does
      rw [if_neg form, if_neg (by rw [epsn]; exact Nat.not_le.mpr near), if_pos (by rw [epsn]; exact ahead)] at does
      obtain ⟨mem, pairs⟩ := qpReply_spec (s := s') (q := q) .nak (qpOf s' q).epsn synSeq
      exact ⟨_, congrArg Outcome.next does, mem.trans hbm, congrFun pairs q⟩
  · obtain ⟨place, obj⟩ := ackedLanding_spec (q := q) (l := l) (r := r) wf
    have own : ∀ c e, evOwned (ackedLanding q l r s) c e = evOwned s c e := fun c e => by rw [evOwned, evOwned, evOf, evOf, obj]
    have does := effRoceLanded_of_landed head landed
    by_cases counts : (l.ev && !l.dup && evOwned (ackedLanding q l r s) (qpOf s q).ctx (qpOf s q).rxEvent) = true
    · rw [if_pos counts] at does
      simp only [Bool.and_eq_true, Bool.not_eq_true'] at counts
      obtain ⟨⟨ev, dup⟩, owned⟩ := counts
      refine ⟨_, congrArg Outcome.next does, ((within_evAdd ..).keeps (qpOf · q) fun _ => rfl).trans place, fun _ _ _ => ?_,
        fun none => by simp [ev, dup] at none⟩
      rw [(evOf_evAdd _ _ 1 _ (Bool.and_eq_true_iff.mp owned).1).2, evOf, obj]
      rfl
    · rw [if_neg counts] at does
      refine ⟨_, congrArg Outcome.next does, place, fun ev dup owned => ?_, fun _ => obj⟩
      exact absurd (by simp [ev, dup, own, owned]) counts

end Sys2Proof.Machine
end

section
/-!
PROOF. A request that adds into a quadrant while the CORE clock is stopped (13 R334).
-/
namespace Sys2Proof.Machine
open Host Claims

/-- A segment of an EXA-RED for tile 23, group 0xABCD, of one lane of zeros, sealed under key 77 in slot 9 (09 R226, R250). -/
def reduceSegment : Bytes := leBytes 64
  0x1f415c2313be832059bbfca64b66d12b215bd153a2fc085d0000000000000000000000000100abcd000000000007ff9700080040000000001709050500004164

/-- The segment at the head of the loopback of a device with MEM on, whose context 5 owns quadrant 0, in P1: the CORE clock is
stopped. -/
def reducedInP1 : State := { State.reset with
  pwr := { State.reset.pwr with on := 0x3FF, cur := .p1 }
  quad := [{ owner := some 5 }, {}, {}, {}]
  obj := { State.reset.obj with ctx := [(5, { st := .live, preview := true })] }
  kh := { State.reset.kh with jobKey := [(9, { key := some 77, bound := some 5 })], gcmKey := [(9, some 77)] }
  txn := { State.reset.txn with loopQ := [reduceSegment] } }

/-- The state with the request taken. -/
def reducedInP1Taken : State := { reducedInP1 with txn.loopQ := [] }

theorem reqTaken_reducedInP1 : reqTaken reducedInP1 8 (reduceSegment) (leBytes 64 0) reducedInP1Taken := by
  refine ⟨rfl, .inl rfl, by decide +kernel, by decide +kernel, ?_⟩
  have ok : (match reqCheck reducedInP1 (reduceSegment) with
    | .ok x => decide (x = leBytes 64 0)
    | _ => false) = true := by decide +kernel
  split at ok
  · next x h => rw [h, of_decide_eq_true ok]
  · cases ok

/-- Refutes O30: with the CORE clock stopped an EXA-RED is answered and adds nothing, so its group is not opened; the statement gives
the group and the lanes in every power state. -/
theorem not_requestsAct : ¬ Obligations.RequestsAct := by
  unfold Obligations.RequestsAct
  intro h
  obtain ⟨-, -, -, -, -, reduces, -, -⟩ := h _ _ _ _ _ reqTaken_reducedInP1
  obtain ⟨t, does, -, groups, -⟩ := reduces (by decide +kernel) (by decide +kernel) (by decide +kernel) (by decide +kernel)
    (by decide +kernel) (by decide +kernel) (by decide +kernel)
    [{ group := 0xABCD }] (by decide +kernel)
  have is : effExaRed 8 reducedInP1 = t := Outcome.next.inj does
  subst is
  exact absurd groups (by decide +kernel)

end Sys2Proof.Machine
end

section
/-!
PROOF. A transaction listed twice (09 R225): the statement on an unreachable destination asks no canonical table.
-/
namespace Sys2Proof.Machine
open Host Claims

/-- An NTX transaction to device 1, which no route leads to. -/
def strandedTxn : Txn :=
  { ctx := 5, src := .ntx, dev := 1, loop := false,
    unsent := [{ idx := 0, hdr := { ttype := 2, dlen := 4, kslot := 9, dstDev := 1 }, data := leBytes 4 7, land := 0 }] }

/-- Its table lists the transaction twice: it is not in canonical form. -/
def strandedTwice : State := { State.reset with
  pwr := { State.reset.pwr with on := 0x3FF }
  txn := { State.reset.txn with txns := [(7, some strandedTxn), (7, some strandedTxn)] } }

theorem segmentSend_strandedTwice : (txnOf (effSegmentSend 7 strandedTwice) 7).isSome = true := by decide +kernel

/-- Refutes O31: where the table of transactions lists one twice, SEGMENT_SEND to a device out of reach ends the first of the two and
the transaction is still there; the statement asks no canonical table. -/
theorem not_segmentsAndNtxAct : ¬ Obligations.SegmentsAndNtxAct := by
  rintro ⟨⟨-, -, -, unreachable, -⟩, -⟩
  obtain ⟨-, ends⟩ := unreachable strandedTwice 7 strandedTxn _ [] (by decide +kernel) rfl rfl (by decide) (by decide +kernel) rfl
  obtain ⟨t, does, gone, -⟩ := ends (by decide +kernel) (by decide +kernel) (by decide +kernel) rfl
  have is : effSegmentSend 7 strandedTwice = t := Outcome.next.inj does
  subst is
  have left := segmentSend_strandedTwice
  rw [gone] at left
  cases left

end Sys2Proof.Machine
end

section
/-!
PROOF. The fabric's commands (10 R255 to R272).
-/
namespace Sys2Proof.Machine
open Host Claims

/-! ## What the database's operations leave -/

/-- The device's own place in the fabric: what the database's operations leave. -/
def standing (s : State) : BitVec 8 × BitVec 64 × BitVec 32 := (s.fab.addr, s.fab.epoch, s.fab.adigest)

section
variable (s : State)

theorem standing_queueLsa (uid : Nat) (arrival : Option Nat) : standing (queueLsa uid arrival s) = standing s :=
  (within_queueLsa ..).keeps standing fun _ => rfl

theorem standing_dbPrune : standing (dbPrune s) = standing s := by
  unfold dbPrune
  dsimp only
  split <;> split <;> rfl

theorem standing_dbChanged : standing (dbChanged s) = standing s := rfl

theorem standing_lsaSync : standing (lsaSync s) = standing s := by
  unfold lsaSync
  dsimp only
  split
  · rfl
  · exact (standing_dbPrune _).trans ((standing_dbChanged _).trans (standing_queueLsa _ _ _))

theorem standing_ownSupersede (l : Lsa) : standing (ownSupersede l s) = standing s := by
  unfold ownSupersede
  dsimp only
  split
  · rfl
  · exact standing_queueLsa _ _ _

theorem standing_lsaAccept (p : Nat) (l : Lsa) : standing (lsaAccept p l s) = standing s := by
  unfold lsaAccept
  split
  · rfl
  · split
    · exact standing_ownSupersede s l
    · extract_lets fresh db
      split
      · rfl
      · exact (standing_dbChanged _).trans (standing_queueLsa _ _ _)

theorem noLsas_ownSupersede (q : Nat) (l : Lsa) : noLsas (portOf (ownSupersede l s) q) = noLsas (portOf s q) := by
  unfold ownSupersede
  dsimp only
  split
  · rfl
  · exact noLsas_queueLsa _ _ _ q

theorem noLsas_lsaAccept (p q : Nat) (l : Lsa) : noLsas (portOf (lsaAccept p l s) q) = noLsas (portOf s q) := by
  unfold lsaAccept
  split
  · rfl
  · split
    · exact noLsas_ownSupersede s q l
    · extract_lets fresh db
      split
      · rfl
      · exact (within_dbChanged ..).keeps (fun s => noLsas (portOf s q)) (fun _ => rfl) |>.trans (noLsas_queueLsa _ _ _ q)

theorem epoch_lsaSync : (lsaSync s).fab.epoch = s.fab.epoch := (Prod.mk.inj (Prod.mk.inj (standing_lsaSync s)).2).1

theorem adigest_lsaSync : (lsaSync s).fab.adigest = s.fab.adigest := (Prod.mk.inj (Prod.mk.inj (standing_lsaSync s)).2).2

theorem addr_setAddr (a : Nat) : (setAddr a s).fab.addr = BitVec.ofNat 8 a ∧ (setAddr a s).fab.epoch = s.fab.epoch ∧
    (setAddr a s).fab.adigest = s.fab.adigest := by
  have same := standing_lsaSync { s with fab.addr := BitVec.ofNat 8 a }
  obtain ⟨addr, epoch, digest⟩ : _ ∧ _ ∧ _ := by simpa only [standing, Prod.mk.injEq] using same
  exact ⟨addr, epoch, digest⟩

theorem adoptEpoch_spec {e : Nat} (h : e < 2 ^ 64) : (adoptEpoch e s).fab.epoch.toNat = max s.fab.epoch.toNat e ∧
    (adoptEpoch e s).fab.addr = s.fab.addr ∧ (adoptEpoch e s).fab.adigest = s.fab.adigest := by
  unfold adoptEpoch
  split
  · next up =>
    have fab : (raise { code := errEpochChanged, src := 7, detail := e } { s with fab.epoch := BitVec.ofNat 64 e }).fab =
        { s.fab with epoch := BitVec.ofNat 64 e } := (within_raise ..).keeps (·.fab) fun _ => rfl
    rw [fab]
    refine ⟨?_, rfl, rfl⟩
    rw [Nat.max_eq_right up.le]
    exact Nat.mod_eq_of_lt h
  · next up => exact ⟨(Nat.max_eq_left (Nat.not_lt.mp up)).symm, rfl, rfl⟩

end

/-! ## Transit (R271, R272) -/

section
variable {s s' : State} {p : Nat} {vcA : Bool} {b : Bytes}

theorem linkRuns_lt (on : linkRuns s p = true) : p < 8 := by
  simp only [linkRuns, linkOn, Bool.and_eq_true, decide_eq_true_eq] at on
  exact on.1.1

/-- A segment for another device goes to the output of its route, or is dropped. -/
theorem effTransit_of_other (on : linkRuns s p = true) (took : takeHead p vcA s = .got b s') (addr : (parseHdr b).dstDev ≠ 255)
    (other : (parseHdr b).dstDev ≠ s.fab.addr.toNat) : effTransit p vcA s =
      match routePort s (upperPort s p) (parseHdr b).dstDev (parseHdr b).srcCtx (parseHdr b).order with
      | none => transitDrop (parseHdr b).dstDev s'
      | some q => queueSeg q vcA p b s' := by
  rw [effTransit, if_neg (by simp [on]), took]
  dsimp only
  rw [if_neg (by simp [other]), if_neg addr] <;> rfl

theorem transitDrop_spec (dev : Nat) (s : State) : (transitDrop dev s).port = s.port ∧
    (transitDrop dev s).fab.transitDrop = inc32b s.fab.transitDrop := by
  unfold transitDrop
  dsimp only
  have kept : ∀ r, aggregate 3 0 1 { s with fab.transitDrop := inc32b s.fab.transitDrop } = r →
      r.2.port = s.port ∧ r.2.fab.transitDrop = inc32b s.fab.transitDrop := fun r h => by
    subst h
    exact ⟨(within_aggregate ..).keeps (·.port) fun _ => rfl, (within_aggregate ..).keeps (·.fab.transitDrop) fun _ => rfl⟩
  split
  · next k u h =>
    obtain ⟨port, count⟩ := kept _ h
    exact ⟨((within_raise ..).keeps (·.port) fun _ => rfl).trans port,
      ((within_raise ..).keeps (·.fab.transitDrop) fun _ => rfl).trans count⟩
  · next u h => exact kept _ h

theorem fab_takeHead (took : takeHead p vcA s = .got b s') : s'.fab = s.fab := by
  unfold takeHead at took
  dsimp only at took
  split at took
  · split at took <;> split at took
    · cases took
    · cases took; rfl
    · cases took
    · cases took; rfl
  · split at took
    · cases took
    · split at took
      · cases took
      · cases took
      · cases took; rfl

end

/-! ## Cairn (R255 to R259) -/

section
variable {s : State} {p : Nat}

@[simp] theorem length_lsaBytes (l : Lsa) : l.bytes.length = 88 := by
  simp [Lsa.bytes, List.length_flatMap]

@[simp] theorem length_cairnHead (n : Nat) : (cairnHead s p n).length = 40 := by simp [cairnHead]

theorem cairnHead_spec (n : Nat) (r : Bytes) (few : n ≤ 2) (port : p < 8) :
    byteAt (cairnHead s p n ++ r) 4 = n ∧ byteAt (cairnHead s p n ++ r) 0 = 1 ∧ byteAt (cairnHead s p n ++ r) 1 % 8 = p ∧
      byteAt (cairnHead s p n ++ r) 2 = s.fab.addr.toNat ∧ leAt (cairnHead s p n ++ r) 8 8 = s.id.uid.toNat ∧
      leAt (cairnHead s p n ++ r) 16 8 = s.fab.epoch.toNat := by
  have flag (b : Bool) : b2n b ≤ 1 := b2n_le_one b
  have f0 := flag (mirrorShown s p)
  have f1 := flag (autoMode s)
  have f2 := flag s.rcv.oos
  have addr := s.fab.addr.isLt
  have uid := s.id.uid.isLt
  have epoch := s.fab.epoch.isLt
  simp only [cairnHead, List.append_assoc, byteAt]
  refine ⟨?_, ?_, ?_, ?_, ?_, ?_⟩
  · iterate 4 rw [leAt_append_right _ _ 1 (by simp)]
    simpa using leAt_leBytes_append _ (by omega)
  · exact leAt_leBytes_append _ (by omega)
  · rw [leAt_append_right _ _ 1 (by simp)]
    simp only [leBytes_length, Nat.sub_self]
    rw [leAt_leBytes_append _ (by omega)]
    omega
  · iterate 2 rw [leAt_append_right _ _ 1 (by simp)]
    simpa using leAt_leBytes_append _ (by omega)
  · iterate 6 rw [leAt_append_right _ _ 8 (by simp)]
    simpa using leAt_leBytes_append _ (by omega)
  · iterate 7 rw [leAt_append_right _ _ 8 (by simp)]
    simpa using leAt_leBytes_append _ (by omega)

/-- The frame a periodic CAIRN_SEND leaves waiting carries at most two LSAs (R261). -/
theorem effCairnSend_of_due (on : linkRuns s p = true) (usable : portUsable (portOf s p) = true) (idle : (portOf s p).cairnOut = [])
    (due : (portOf s p).cairnAt = 0 ∨ (portOf s p).cairnAt - 1 + 10000000 ≤ s.now) : ∃ (l : List Lsa) (q : List Nat) (r : Nat), l.length ≤ 2 ∧
      effCairnSend p s = setPort s p { portOf s p with
        cairnOut := [cairnHead s p l.length ++ l.flatMap Lsa.bytes], cairnAt := s.now + 1, lsaQ := q, lsaRot := r } := by
  have periodic : (decide ((portOf s p).cairnAt = 0) || decide ((portOf s p).cairnAt - 1 + 10 * msNs ≤ s.now)) = true := by
    rw [Bool.or_eq_true, decide_eq_true_eq, decide_eq_true_eq]
    exact due
  unfold effCairnSend
  extract_lets x periodic' held queued first rot all
  rw [if_neg (by simp [on, usable, x, idle, periodic', periodic])]
  have is : periodic' = true := periodic
  refine ⟨all, _, _, ?_, by rw [if_pos is]⟩
  have one : first.length ≤ 2 := List.length_take_le _ _
  have two : (rot.filterMap held).length ≤ 2 - first.length := by
    refine (List.length_filterMap_le _ _).trans ?_
    simp only [rot, is, if_true]
    exact List.length_take_le _ _
  simp only [all, List.length_append]
  omega

/-- What a Cairn frame received leaves of its port (R259). -/
def heardCairn (now : Nat) (b : Bytes) (rest : List Bytes) (x : Port) : Port :=
  { x with
    cairnIn := rest, nbrUid := BitVec.ofNat 64 (leAt b 8 8), nbrPort := BitVec.ofNat 3 (byteAt b 1),
    nbrMirror := decide (bitsAt b 1 3 1 = 1), nbrAddr := BitVec.ofNat 8 (byteAt b 2), heardAt := some now, up := portUsable x }

theorem effCairnReceive_spec {b : Bytes} {rest : List Bytes} (on : linkRuns s p = true) (head : (portOf s p).cairnIn = b :: rest)
    (here : p < s.port.length) :
    noLsas (portOf (effCairnReceive p s) p) = noLsas (heardCairn s.now b rest (portOf s p)) ∧
      (effCairnReceive p s).fab.epoch.toNat = max s.fab.epoch.toNat (leAt b 16 8) := by
  have is : effCairnReceive p s = dbPrune ((List.range (bitsAt b 4 0 2)).foldl
      (fun s k => lsaAccept p (parseLsa (sliceB b (40 + 88 * k) 88)) s)
      (adoptEpoch (leAt b 16 8) (lsaSync (setPort s p (heardCairn s.now b rest (portOf s p)))))) := by
    rw [effCairnReceive, head]
    dsimp only
    rw [if_neg (by simp [on])]
    rfl
  rw [is]
  constructor
  · rw [(within_dbPrune ..).keeps (fun s => noLsas (portOf s p)) fun _ => rfl,
      foldl_keeps (fun s => noLsas (portOf s p)) (fun s k => noLsas_lsaAccept s p p _),
      (within_adoptEpoch ..).keeps (fun s => noLsas (portOf s p)) fun _ => rfl, noLsas_lsaSync, portOf_setPort _ _ _ _ here,
      if_pos rfl]
  · have epoch : ∀ u v, standing u = standing v → u.fab.epoch = v.fab.epoch := fun u v h => (Prod.mk.inj (Prod.mk.inj h).2).1
    rw [epoch _ _ ((standing_dbPrune _).trans (foldl_keeps standing (fun s k => standing_lsaAccept s p _) _ _)),
      (adoptEpoch_spec _ (leAt_lt b 16 8)).1, epoch _ _ (standing_lsaSync _)]
    rfl

end

/-! ## Routing tables (R267, R269) -/

/-- A table filled from a function over a range. -/
theorem tget_fill (d : BitVec 32) (f : Nat → BitVec 32) (n : Nat) : tabWf d ((List.range n).foldl (fun t i => tput d t i (f i)) []) = true ∧
    ∀ j < n, tget d ((List.range n).foldl (fun t i => tput d t i (f i)) []) j = f j := by
  induction n with
  | zero => exact ⟨rfl, fun j h => by cases h⟩
  | succ n ih =>
    obtain ⟨wf, get⟩ := ih
    rw [List.range_succ, List.foldl_append]
    refine ⟨tabWf_tput _ _ _ _ wf, fun j h => ?_⟩
    rw [List.foldl_cons, List.foldl_nil, tget_tput _ _ _ _ _ wf]
    split
    · next e => rw [e]
    · next e => exact get j (by omega)

/-- The entry that a computation of the routing table gives an address. -/
def dueRoute (s : State) (d : Nat) : BitVec 32 :=
  if s.fab.rtSource then tget 0x00FF0FFF s.fab.loaded d ||| 0x01000000
  else BitVec.ofNat 32 (computeRoute { s with pair.leaving := none } d)

/-- The table that a computation gives. -/
def dueTable (s : State) : Tab (BitVec 32) := (List.range 255).foldl (fun t d => tput 0x00FF0FFF t d (dueRoute s d)) []

theorem tget_dueTable (s : State) {d : Nat} (small : d < 255) : tget 0x00FF0FFF (dueTable s) d = dueRoute s d :=
  (tget_fill 0x00FF0FFF (dueRoute s) 255).2 d small

/-! ## Addresses (R264) -/

/-- The device takes the address that the assignment gives it. -/
def takeAssigned (s : State) : State :=
  match (assignment (lsas s)).find? (fun e => decide (e.1 = s.id.uid)) with
  | some e => setAddr e.2 s
  | none => s

theorem takeAssigned_keeps (s : State) :
    (takeAssigned s).fab.epoch = s.fab.epoch ∧ (takeAssigned s).fab.adigest = s.fab.adigest := by
  unfold takeAssigned
  split
  · exact (addr_setAddr s _).2
  · exact ⟨rfl, rfl⟩

theorem effAddressAssign_of_auto {s : State} {lead : Lsa} (awake : mcAwake s = true) (auto : autoMode s = true)
    (first : (lsas s).find? (fun a => a.auto) = some lead) : effAddressAssign s =
      if lead.uid = s.id.uid then
        if s.fab.dbAt + 200 * msNs ≤ s.now && s.fab.adigest.toNat ≠ dbDigest s then
          takeAssigned (adoptEpoch (s.fab.epoch.toNat + 1)
            (lsaSync { s with fab.adigest := BitVec.ofNat 32 (dbDigest s) }))
        else s
      else
        let u := if s.fab.adigest = 0 then s else lsaSync { s with fab.adigest := 0 }
        if lead.adigest.toNat = dbDigest s then takeAssigned u else u := by
  rw [effAddressAssign, if_neg (by simp [awake]), if_neg (by simp [auto])]
  dsimp only
  rw [first]
  rfl

/-! ## Conflicts (R265) -/

/-- The rivals whose conflict is due. -/
def dueRivals (s : State) : List Lsa :=
  (rivals s s.fab.addr.toNat).filter (fun l =>
    decide (tget 0 s.fab.dup (dupKey s.fab.addr.toNat l) ≠ 0) &&
    decide (tget 0 s.fab.dup (dupKey s.fab.addr.toNat l) - 1 + 100000000 ≤ s.now))

/-- The due conflicts are settled, each with its record. -/
def conflictsSettled (s : State) : State :=
  (dueRivals s).foldl (fun u l => raise { code := errAddressConflict, src := 7, detail := l.uid.toNat }
    { u with fab.dup := tput 0 u.fab.dup (dupKey s.fab.addr.toNat l) settled }) s

theorem conflictsSettled_keeps (s : State) : (conflictsSettled s).fab.addr = s.fab.addr ∧
    pairBound (conflictsSettled s) = pairBound s ∧ (conflictsSettled s).id = s.id := by
  have same : ∀ (u : State) (l : Lsa), ((raise { code := errAddressConflict, src := 7, detail := l.uid.toNat }
      { u with fab.dup := tput 0 u.fab.dup (dupKey s.fab.addr.toNat l) settled }).fab.addr,
      pairBound (raise { code := errAddressConflict, src := 7, detail := l.uid.toNat }
      { u with fab.dup := tput 0 u.fab.dup (dupKey s.fab.addr.toNat l) settled }),
      (raise { code := errAddressConflict, src := 7, detail := l.uid.toNat }
      { u with fab.dup := tput 0 u.fab.dup (dupKey s.fab.addr.toNat l) settled }).id) = (u.fab.addr, pairBound u, u.id) := fun u l =>
    (within_raise ..).keeps (fun u => (u.fab.addr, pairBound u, u.id)) fun _ => rfl
  have kept := foldl_keeps (fun u => (u.fab.addr, pairBound u, u.id)) same (dueRivals s) s
  exact ⟨(Prod.mk.inj kept).1, (Prod.mk.inj (Prod.mk.inj kept).2).1, (Prod.mk.inj (Prod.mk.inj kept).2).2⟩

/-- The records of a list of conflicts. -/
theorem incoming_conflicts (a : Nat) (l : List Lsa) : ∀ s, domOn s dHOST = true →
    (l.foldl (fun s l => raise { code := errAddressConflict, src := 7, detail := l.uid.toNat }
      { s with fab.dup := tput 0 s.fab.dup (dupKey a l) settled }) s).erq.incoming =
      s.erq.incoming ++ l.map fun l => { code := errAddressConflict, src := 7, detail := l.uid.toNat } := by
  induction l with
  | nil => exact fun s _ => (List.append_nil _).symm
  | cons x l ih =>
    intro s on
    rw [List.foldl_cons, ih _ (by rw [(within_raise ..).keeps (domOn · dHOST) fun _ => rfl]; exact on), incoming_raise,
      if_pos (by exact on), List.append_assoc]
    rfl

theorem effAddressConflict_of_alone (s : State) (alone : pairBound s = false) :
    (domOn s dHOST = true → (effAddressConflict s).erq.incoming =
      s.erq.incoming ++ (dueRivals s).map fun l => { code := 0x0702, src := 7, detail := l.uid.toNat }) ∧
    (effAddressConflict s).fab.addr =
      if (dueRivals s).any (fun l => decide (l.uid.toNat < s.id.uid.toNat)) then 255 else s.fab.addr := by
  obtain ⟨addr, bound, uid⟩ := conflictsSettled_keeps s
  have does : effAddressConflict s =
      if ((dueRivals s).filter (fun l => decide (l.uid.toNat < (conflictsSettled s).id.uid.toNat))).isEmpty then conflictsSettled s
      else setAddr 255 (conflictsSettled s) := by
    rw [effAddressConflict]
    change (if _ then conflictsSettled s else if pairBound (conflictsSettled s) && _ then standDown _ else setAddr 255 _) = _
    rw [if_neg (c := (pairBound (conflictsSettled s) && _) = true) (by simp [bound, alone])]
    rfl
  have records (on : domOn s dHOST = true) := incoming_conflicts s.fab.addr.toNat (dueRivals s) s on
  rw [does, uid]
  by_cases above : (dueRivals s).any (fun l => decide (l.uid.toNat < s.id.uid.toNat)) = true
  · rw [if_neg (by simpa [List.isEmpty_iff, List.filter_eq_nil_iff] using above), if_pos above]
    exact ⟨fun on => ((within_setAddr ..).keeps (·.erq.incoming) fun _ => rfl).trans (records on), (addr_setAddr _ 255).1⟩
  · rw [if_pos (by simpa [List.isEmpty_iff, List.filter_eq_nil_iff] using above), if_neg above]
    exact ⟨records, addr⟩

/-- Settles O33: the database's operations leave the device's standing and, of a port, all but the LSAs it has to send. -/
theorem fabricCommandsAct : Obligations.FabricCommandsAct := by
  refine ⟨fun s s' p vcA b h on took is addr other => ?_, fun s p x wf is on usable idle due => ?_,
    fun s p x b rest wf is on head => ?_, fun s p a wf small heard late => ?_, fun s awake dirty => ?_,
    fun s lead awake auto first => ?_, fun s due is alone => ?_⟩
  · subst is
    have does := effTransit_of_other on took addr other
    refine ⟨fun q route => ?_, fun route => ?_⟩
    · rw [route] at does
      exact congrArg Outcome.next does
    · rw [route] at does
      obtain ⟨port, count⟩ := transitDrop_spec (parseHdr b).dstDev s'
      refine ⟨_, congrArg Outcome.next does, port, ?_⟩
      rw [count, fab_takeHead took]
      have bound := s.fab.transitDrop.isLt
      simp only [inc32b, satAdd, BitVec.toNat_ofNat]
      omega
  · subst is
    have here : p < s.port.length := (units_of_wf wf).1 ▸ linkRuns_lt on
    obtain ⟨l, q, r, few, does⟩ := effCairnSend_of_due on usable idle due
    refine ⟨_, _, congrArg Outcome.next does, by rw [portOf_setPort _ _ _ _ here, if_pos rfl],
      by rw [portOf_setPort _ _ _ _ here, if_pos rfl], ?_⟩
    obtain ⟨count, version, port, addr, uid, epoch⟩ := cairnHead_spec (s := s) l.length (l.flatMap Lsa.bytes) few (linkRuns_lt on)
    refine ⟨?_, count.symm ▸ few, version, port, addr, uid, epoch⟩
    rw [count, List.length_append, length_cairnHead, List.length_flatMap]
    simp [Nat.mul_comm]
  · subst is
    have here : p < s.port.length := (units_of_wf wf).1 ▸ linkRuns_lt on
    obtain ⟨port, epoch⟩ := effCairnReceive_spec on head here
    have field {β : Type} (f : Port → β) (h : ∀ x, f (noLsas x) = f x) :
        f (portOf (effCairnReceive p s) p) = f (heardCairn s.now b rest (portOf s p)) := by
      rw [← h, port, h]
    refine ⟨_, rfl, field (·.cairnIn) fun _ => rfl, ?_, ?_, ?_, field (·.heardAt) fun _ => rfl, field (·.up) fun _ => rfl, epoch⟩
    · rw [show (portOf (effCairnReceive p s) p).nbrUid = _ from field (·.nbrUid) fun _ => rfl]
      exact Nat.mod_eq_of_lt (leAt_lt b 8 8)
    · rw [show (portOf (effCairnReceive p s) p).nbrPort = _ from field (·.nbrPort) fun _ => rfl]
      rfl
    · rw [show (portOf (effCairnReceive p s) p).nbrAddr = _ from field (·.nbrAddr) fun _ => rfl]
      exact Nat.mod_eq_of_lt (leAt_lt b 2 1)
  · have here : p < s.port.length := (units_of_wf wf).1 ▸ small
    have does : effCairnTimeout p s = setUp p false s := by
      rw [effCairnTimeout, heard]
      exact if_pos late
    refine ⟨_, congrArg Outcome.next does, ?_⟩
    have same := noLsas_setUp p p false s here
    rw [if_pos rfl] at same
    exact congrArg Port.up same
  · have does : effRouteRecompute s = { s with
        pair.leaving := none, fab.rtDirty := false
        fab.route := dueTable s } := by
      rw [effRouteRecompute, if_neg (by simp [awake, dirty])]
      rfl
    have table : (effRouteRecompute s).fab.route = dueTable s := by rw [does]
    refine ⟨_, rfl, by rw [does], by rw [does], fun d small => ?_⟩
    rw [table, tget_dueTable s small, dueRoute]
  · have does := effAddressAssign_of_auto awake auto first
    refine ⟨fun mine old fresh room => ?_, fun e theirs none same found => ?_⟩
    · rw [if_pos mine, if_pos (by rw [Bool.and_eq_true, decide_eq_true_eq, decide_eq_true_eq]; exact ⟨old, fresh⟩)] at does
      refine ⟨_, congrArg Outcome.next does, ?_, ?_⟩
      · rw [(takeAssigned_keeps _).2, (adoptEpoch_spec _ (by omega)).2.2, adigest_lsaSync]
      · refine BitVec.eq_of_toNat_eq ?_
        rw [(takeAssigned_keeps _).1, (adoptEpoch_spec _ (by omega)).1, epoch_lsaSync, BitVec.toNat_add]
        change max s.fab.epoch.toNat _ = (s.fab.epoch.toNat + 1) % 2 ^ 64
        omega
    · rw [if_neg theirs, if_pos none, if_pos same, takeAssigned, found] at does
      obtain ⟨addr, epoch, -⟩ := addr_setAddr s e.2
      exact ⟨_, congrArg Outcome.next does, addr, epoch⟩
  · obtain ⟨record, addr⟩ := effAddressConflict_of_alone s alone
    subst is
    exact ⟨_, rfl, addr, record⟩

end Sys2Proof.Machine
end

section
/-!
PROOF. Mirror messages and checkpoints of a Roped Pair (10 R275 to R279).
-/
namespace Sys2Proof.Machine
open Host Claims

/-! ## Messages sent and taken (10 R275) -/

section
variable {s s' : State} {vcA : Bool} {m mseq arg : Nat} {body : Bytes}

/-- A message sent: the Mirror Port's frames apart, what it leaves of the state. -/
theorem mirSend_sent (mtype arg : Nat) (body : Bytes) (use : MirUse) (ref : Option Nat) (bad : Nat) (s : State) :
    mirSend mtype arg body use ref bad s = { s with
      port := (queueFrames (mirPort s) (framesOf (decide (mtype = 1) || decide (mtype = 5))
        (mirBytes mtype s.pair.aliveTx.toNat s.pair.mseqTx arg body)) s).port
      pair.aliveTx := s.pair.aliveTx + 1, pair.mseqTx := (s.pair.mseqTx + 1) % 2 ^ 32
      pair.out := keptOut s s.pair.out ++
        [{ mseq := s.pair.mseqTx, mtype := mtype, arg := arg, body := body, use := use, bad := bad,
           ref := ref.getD s.pair.mseqTx, sent := s.now }] } := rfl

theorem sendAck_eq (mseq : Nat) (bad : Bool) (s : State) : ∃ l p, sendAck mseq bad s = { s with
    port := p, pair.aliveTx := s.pair.aliveTx + 1, pair.mseqTx := (s.pair.mseqTx + 1) % 2 ^ 32, pair.out := keptOut s s.pair.out ++ [l] } ∧
    l.use = .once := ⟨_, _, mirSend_sent .., rfl⟩

/-- The state that a good message taken can leave: its frames and ALIVE apart, nothing changes. -/
def Mir.TakenFrom (s : State) : Mir → Prop
  | .good _ _ _ _ t => ∃ p a, t = { s with port := p, pair.aliveRx := a }
  | _ => True

theorem takenFrom_takeMir (vcA : Bool) (s : State) : (takeMir vcA s).TakenFrom s := by
  unfold takeMir
  extract_lets p x l put
  have taken (r : List DFrame) : ∃ q, put r = { s with port := q } := ⟨_, rfl⟩
  clear_value put
  split
  · exact trivial
  · exact trivial
  · next b r _ =>
    dsimp only
    obtain ⟨q, taken⟩ := taken r
    rw [taken]
    split
    · exact trivial
    · split
      · exact trivial
      · cases s.pair.aliveRx <;> dsimp only <;> split
        exacts [trivial, ⟨_, _, rfl⟩, trivial, ⟨_, _, rfl⟩]

theorem takeMir_good (took : takeMir vcA s = .good m mseq arg body s') : ∃ p a, s' = { s with port := p, pair.aliveRx := a } := by
  have taken := takenFrom_takeMir vcA s
  rw [took] at taken
  exact taken

theorem mirReceive_of_good {act : Nat → Nat → Bytes → State → State} (bound : pairBound s = true)
    (runs : linkRuns s (mirPort s) = true) (vc : (decide (m = 1) || decide (m = 5)) = vcA)
    (took : takeMir vcA s = .good m mseq arg body s') : mirReceive m act s = act mseq arg body s' := by
  rw [mirReceive, if_neg (by simp [bound, runs]), vc, took]
  exact if_pos rfl

end

/-! ## Frames of VC-A -/

theorem framesOf_vcA (vcA : Bool) (b : Bytes) : ∀ f ∈ framesOf vcA b, f.vcA = vcA := by
  intro f inside
  unfold framesOf at inside
  split at inside
  · cases inside
  · rcases List.mem_cons.mp inside with rfl | rest
    · rfl
    · obtain ⟨_, -, rfl⟩ := List.mem_map.mp rest
      rfl

theorem queueFrames_vcA (p : Nat) (b : Bytes) (s : State) : queueFrames p (framesOf true b) s =
    setPort s p { portOf s p with txA := (portOf s p).txA ++ framesOf true b } := by
  have all := framesOf_vcA true b
  rw [queueFrames]
  rw [List.filter_eq_self.mpr all, List.filter_eq_nil_iff.mpr (fun f h => by simp [all f h]), List.append_nil]

/-! ## What ends with an acknowledgement (10 R276 to R279) -/

theorem releaseMirror_pair (s : State) : (releaseMirror s).pair = { s.pair with out := s.pair.out.filter (fun m => decide (m.use ≠ .data)) } :=
  foldl_keeps (·.pair) (fun _ _ => (within_mirLanded ..).keeps (·.pair) fun _ => rfl) _ _

/-- What of the pair's state a checkpoint's failure and the release of its messages leave. -/
def bond (s : State) : PairSt × Bool × Nat × Bool × Nat × List Nat × BitVec 8 :=
  (s.pair.st, s.pair.role, s.pair.hbRx, s.pair.hbSeen, s.pair.peerSt, s.pair.mirrored, s.pair.formerAddr)

section
variable (s : State)

theorem bond_releaseMirror : bond (releaseMirror s) = bond s := by rw [bond, releaseMirror_pair]; rfl

theorem bond_ckFail : bond (ckFail s) = bond s := by
  unfold ckFail
  split <;> rfl

theorem bond_mirSend (mtype arg : Nat) (body : Bytes) (use : MirUse) (ref : Option Nat) (bad : Nat) :
    bond (mirSend mtype arg body use ref bad s) = bond s := by rw [mirSend_sent]; rfl

theorem bond_mirrorChunks (fuel : Nat) : ∀ (pa n : Nat) (s : State), bond (mirrorChunks fuel pa n s).2 = bond s := by
  induction fuel with
  | zero => exact fun _ _ _ => rfl
  | succ fuel ih =>
    intro pa n s
    unfold mirrorChunks
    split
    · rfl
    · exact (ih _ _ _).trans (bond_mirSend _ _ _ _ _ _ _)

theorem bond_regionMsg (r : Nat) : bond (regionMsg r s) = bond s := by
  unfold regionMsg
  split
  · exact bond_mirSend _ _ _ _ _ _ _
  · rfl

theorem bond_mirrorAll : bond (mirrorAll s) = bond s := by
  refine each_keeps bond (fun r s => ?_) _ s
  dsimp only
  split
  · rfl
  · exact (bond_regionMsg _ _).trans (foldl_keeps bond (fun s o => bond_mirrorChunks _ _ _ s) _ s)

theorem pair_pairState (st : PairSt) : (pairState st s).pair = { s.pair with st := st } :=
  (within_lsaSync ..).keeps (·.pair) fun _ => rfl

end


/-! ## States of the pair (10 R273, R279 to R284) -/

section
variable (s : State)

/-- SYNCING begins as of now (R273, R283). -/
theorem enterSyncing_spec : (enterSyncing s).pair.st = .syncing ∧ (enterSyncing s).pair.hbRx = s.now ∧
    (enterSyncing s).pair.hbSeen = s.pair.hbSeen := by
  have now : (releaseMirror s).now = s.now := (within_releaseMirror ..).keeps (·.now) fun _ => rfl
  have start : bond (pairState .syncing { ckFail (releaseMirror s) with
      pair.out := [], pair.mseqTx := 0, pair.hbRx := (releaseMirror s).now, pair.peerSt := 0 }) =
      (.syncing, s.pair.role, s.now, s.pair.hbSeen, 0, s.pair.mirrored, s.pair.formerAddr) := by
    have before : bond (ckFail (releaseMirror s)) = bond s := (bond_ckFail _).trans (bond_releaseMirror _)
    simp only [bond, Prod.mk.injEq] at before
    obtain ⟨-, role, -, seen, -, mirrored, former⟩ := before
    rw [bond, pair_pairState]
    simp only [role, seen, mirrored, former, now]
  have anew : bond (syncAnew (releaseMirror s)) = (.syncing, s.pair.role, s.now, s.pair.hbSeen, 0, s.pair.mirrored, s.pair.formerAddr) := by
    unfold syncAnew
    dsimp only
    split
    · exact (bond_mirSend ..).trans start
    · exact start
  have done : bond (enterSyncing s) = bond (syncAnew (releaseMirror s)) := by
    unfold enterSyncing
    dsimp only
    split
    · rfl
    · exact bond_mirrorAll _
  rw [anew] at done
  simp only [bond, Prod.mk.injEq] at done
  exact ⟨done.1, done.2.2.1, done.2.2.2.1⟩

theorem enterBinding_spec : (enterBinding s).pair.st = .binding ∧ (enterBinding s).pair.out = [] := by
  unfold enterBinding
  dsimp only
  rw [pair_pairState]
  exact ⟨rfl, rfl⟩

/-- A miss ends a primary's pair (R280). -/
theorem pairMiss_of_primary (paired : s.pair.st = .paired) (primary : s.pair.role = false) :
    (pairMiss s).pair.st = .solo ∧ (pairMiss s).pair.out = [] := by
  have does : pairMiss s = raise { code := errMirrorFailed, src := 7 }
      { ckFail (releaseMirror (pairState .solo s)) with pair.out := [] } := by
    rw [pairMiss, paired]
    exact if_neg (by simp [primary])
  have alone : bond (ckFail (releaseMirror (pairState .solo s))) = bond (pairState .solo s) :=
    (bond_ckFail _).trans (bond_releaseMirror _)
  have pair : (pairMiss s).pair = { (ckFail (releaseMirror (pairState .solo s))).pair with out := [] } := by
    rw [does]
    exact (within_raise ..).keeps (·.pair) fun _ => rfl
  rw [pair]
  exact ⟨(congrArg Prod.fst alone).trans (by rw [bond, pair_pairState]), rfl⟩

/-- The pair's place in UNBOUND: no unbind is waited for, only messages sent once are kept, the pair secret is gone, and the role is the
one that the settings hold. -/
def Unpaired : Prop := s.pair.st = .unbound ∧ s.pair.unbinding = none ∧ (∀ m ∈ s.pair.out, m.use = .once) ∧ s.kh.pairSecret = none ∧
  s.pair.role = decide (pairRole s = 2)

theorem unpaired_of_stored (port : Nat) (secret : s.kh.pairSecret = none) (stored : s.pair.role = decide (pairRole s = 2)) :
    Unpaired { pairState .unbound { s with
        pair.out := s.pair.out.filter (fun m => decide (m.use = .once)), pair.unbinding := none, pair.rebind := 0,
        pair.leaving := some port, pair.wrapped := [] } with
      fab.rtDirty := true } := by
  generalize is : ({ s with
      pair.out := s.pair.out.filter (fun m => decide (m.use = .once)), pair.unbinding := none, pair.rebind := 0,
      pair.leaving := some port, pair.wrapped := [] } : State) = u
  have pair := pair_pairState u .unbound
  have kh : (pairState .unbound u).kh = u.kh := (within_pairState ..).keeps (·.kh) fun _ => rfl
  have param : pairRole (pairState .unbound u) = pairRole u := (within_pairState ..).keeps pairRole fun _ => rfl
  unfold Unpaired
  change (pairState .unbound u).pair.st = _ ∧ (pairState .unbound u).pair.unbinding = _ ∧ (∀ m ∈ (pairState .unbound u).pair.out, _) ∧
    (pairState .unbound u).kh.pairSecret = _ ∧ (pairState .unbound u).pair.role = decide (pairRole (pairState .unbound u) = 2)
  rw [pair, kh, param, ← is]
  exact ⟨rfl, rfl, fun m kept => of_decide_eq_true (List.mem_filter.mp kept).2, secret, stored⟩

/-- UNBOUND is entered with its Pair Role made durable (R284). -/
theorem enterUnbound_spec (role : Nat) : Unpaired (enterUnbound role s).2 := by
  unfold enterUnbound
  extract_lets partner u w v a
  have cleared : w.kh.pairSecret = none :=
    foldl_keeps (·.kh.pairSecret) (g := fun s r => clearRec r s) (fun s r => (within_clearRec s r).keeps (·.kh.pairSecret) fun _ => rfl)
      u.pair.mirrored u
  have secret : v.kh.pairSecret = none := by
    simp only [v]
    split
    · exact cleared
    · rfl
  exact unpaired_of_stored a.2 _ (((within_setPairRole v role).keeps (·.kh.pairSecret) fun _ => rfl).trans secret) rfl

/-- An answer leaves what UNBOUND is. -/
theorem unpaired_unbindDone : Unpaired (unbindDone s) := by
  have w := within_answerWait (enterUnbound s.pair.rebind s).2 (enterUnbound s.pair.rebind s).1
  have pair : (unbindDone s).pair = _ := w.keeps (·.pair) fun _ => rfl
  have kh : (unbindDone s).kh = _ := w.keeps (·.kh) fun _ => rfl
  have role : pairRole (unbindDone s) = _ := w.keeps pairRole fun _ => rfl
  have unpaired := enterUnbound_spec s s.pair.rebind
  rw [Unpaired, pair, kh, role]
  exact unpaired

/-- The pair's state, its former address, and the device's address and epoch. -/
def takeover (s : State) : PairSt × BitVec 8 × BitVec 8 × BitVec 64 := (s.pair.st, s.pair.formerAddr, s.fab.addr, s.fab.epoch)

theorem takeover_putRec (r : Nat) (b : Bytes) : takeover (putRec r b s) = takeover s := rfl

theorem takeover_sealFinish (r : Nat) : takeover (sealFinish r s) = takeover s := by
  have region (u : State) : takeover (regionMsg r u) = takeover u := by
    have same := bond_regionMsg u r
    have fab : (regionMsg r u).fab = u.fab := (within_regionMsg ..).keeps (·.fab) fun _ => rfl
    simp only [bond, Prod.mk.injEq] at same
    rw [takeover, fab, same.1, same.2.2.2.2.2.2]
    rfl
  unfold sealFinish
  exact (region _).trans (takeover_putRec s r _)

/-- What failover does before the copies of regions are sealed. -/
def tookOver (s : State) : State :=
  let u := pairState .takenOver { s with
    pair.formerAddr := s.fab.addr, pair.before := tkeys (fun _ (x : Ctx) => decide (x.st ≠ .free)) s.obj.ctx }
  let v := setAddr (portOf u (mirrorPort u)).nbrAddr.toNat u
  adoptEpoch (v.fab.epoch.toNat + 1) v

theorem takeover_failover : takeover (failover s) = takeover (tookOver s) := by
  refine ((within_raise ..).keeps takeover fun _ => rfl).trans (foldl_keeps takeover (fun u r => ?_) _ _)
  split
  · rfl
  · split
    · unfold clearRec
      exact takeover_putRec _ r _
    · exact (takeover_sealFinish _ r).trans ((within_sealPrepare ..).keeps takeover fun _ => rfl)

/-- A failover takes the primary's address into the next epoch (R281). -/
theorem takeover_tookOver (room : s.fab.epoch.toNat < 2 ^ 64 - 1) :
    takeover (tookOver s) = (.takenOver, s.fab.addr, (portOf s (mirrorPort s)).nbrAddr, s.fab.epoch + 1) := by
  unfold tookOver
  extract_lets src u v
  have base : takeover u = (.takenOver, s.fab.addr, s.fab.addr, s.fab.epoch) := by
    have standing := standing_lsaSync { s with pair := { s.pair with
      formerAddr := s.fab.addr, before := tkeys (fun _ (x : Ctx) => decide (x.st ≠ .free)) s.obj.ctx, st := .takenOver } }
    have pair : u.pair = _ := pair_pairState ..
    simp only [Machine.standing, Prod.mk.injEq] at standing
    rw [takeover, pair]
    exact congrArg₂ (fun a e => (PairSt.takenOver, s.fab.addr, a, e)) standing.1 standing.2.1
  have address : (portOf u (mirrorPort u)).nbrAddr = (portOf s (mirrorPort s)).nbrAddr := by
    have port : mirrorPort u = mirrorPort s := (within_pairState ..).keeps mirrorPort fun _ => rfl
    rw [port]
    exact congrArg (·.nbrAddr) (noLsas_lsaSync _ (mirrorPort s))
  obtain ⟨addr, epoch, -⟩ := addr_setAddr u (portOf u (mirrorPort u)).nbrAddr.toNat
  have pair : v.pair = u.pair := (within_setAddr ..).keeps (·.pair) fun _ => rfl
  simp only [takeover, Prod.mk.injEq] at base
  obtain ⟨st, former, -, same⟩ := base
  have epoch' : v.fab.epoch = s.fab.epoch := epoch.trans same
  obtain ⟨next, addr', -⟩ := adoptEpoch_spec v (e := v.fab.epoch.toNat + 1) (by rw [epoch']; omega)
  have pair' : (adoptEpoch (v.fab.epoch.toNat + 1) v).pair = v.pair := (within_adoptEpoch ..).keeps (·.pair) fun _ => rfl
  rw [takeover, pair', pair, st, former, addr', show v.fab.addr = _ from addr, address, BitVec.ofNat_toNat, BitVec.setWidth_eq]
  refine congrArg (fun e => (PairSt.takenOver, s.fab.addr, (portOf s (mirrorPort s)).nbrAddr, e)) (BitVec.eq_of_toNat_eq ?_)
  rw [next, epoch', BitVec.toNat_add]
  change max s.fab.epoch.toNat _ = (s.fab.epoch.toNat + 1) % 2 ^ 64
  omega

end

/-- What a heartbeat of the partner does (R279, R282, R283). -/
def heardPartner (body : Bytes) (s : State) : State :=
  let u := { s with pair.hbRx := s.now, pair.hbSeen := true, pair.peerSt := byteAt body 1 }
  if !s.pair.role && decide (byteAt body 1 = 5) && (decide (s.pair.st = .binding) || decide (s.pair.st = .syncing)) then
    raise { code := errAddressConflict, src := 7, detail := param s 0x2422 0 } (standDown u)
  else if s.pair.role && decide (s.pair.st = .syncing) && decide (byteAt body 1 = 3) then pairState .paired u
  else if s.pair.st = .paired && decide (byteAt body 1 = 2) && decide (s.pair.peerSt = 3) then enterSyncing u
  else u

theorem heardPartner_spec {s : State} {body : Bytes} (stays : s.pair.role = true ∨ byteAt body 1 ≠ 5) :
    (heardPartner body s).pair.hbRx = s.now ∧ (heardPartner body s).pair.hbSeen = true ∧
      (heardPartner body s).pair.st = if s.pair.role = true ∧ s.pair.st = .syncing ∧ byteAt body 1 = 3 then .paired
        else if s.pair.st = .paired ∧ byteAt body 1 = 2 ∧ s.pair.peerSt = 3 then .syncing else s.pair.st := by
  unfold heardPartner
  extract_lets src u
  rw [if_neg (by rcases stays with h | h <;> simp [h])]
  by_cases synced : s.pair.role = true ∧ s.pair.st = .syncing ∧ byteAt body 1 = 3
  · rw [if_pos synced, if_pos (by simpa [and_assoc] using synced), pair_pairState]
    exact ⟨rfl, rfl, rfl⟩
  · rw [if_neg synced, if_neg (by simpa [and_assoc] using synced)]
    by_cases anew : s.pair.st = .paired ∧ byteAt body 1 = 2 ∧ s.pair.peerSt = 3
    · rw [if_pos anew, if_pos (by simpa [and_assoc] using anew)]
      obtain ⟨st, at', seen⟩ := enterSyncing_spec u
      exact ⟨at', seen, st⟩
    · rw [if_neg anew, if_neg (by simpa [and_assoc] using anew)]
      exact ⟨rfl, rfl, rfl⟩

theorem pairBound_of_st {s u : State} (st : u.pair.st = s.pair.st) : pairBound u = pairBound s := by rw [pairBound, pairBound, st]

/-- An ACK ends its message, or sends it again (R275). -/
theorem effMirAck_of_found {s s' : State} {mseq arg : Nat} {body : Bytes} {m : MirMsg} (bound : pairBound s = true)
    (runs : linkRuns s (mirPort s) = true) (took : takeMir true s = .good 5 mseq arg body s')
    (found : s'.pair.out.find? (fun x => decide (x.mseq = arg % 2 ^ 32)) = some m) :
    effMirAck s =
      if arg.testBit 32 then
        if 3 ≤ m.bad then pairMiss { s' with pair.out := s'.pair.out.filter (fun x => decide (x.mseq ≠ m.mseq)) ++ [m] }
        else mirSend m.mtype m.arg m.body m.use (some m.ref) (m.bad + 1)
          { s' with pair.out := s'.pair.out.filter (fun x => decide (x.mseq ≠ m.mseq)) }
      else
        match m.use with
        | .data => mirLanded m.ref { s' with pair.out := s'.pair.out.filter (fun x => decide (x.mseq ≠ m.mseq)) }
        | .region | .once => { s' with pair.out := s'.pair.out.filter (fun x => decide (x.mseq ≠ m.mseq)) }
        | .ckpt => ckEnd 0 { s' with pair.out := s'.pair.out.filter (fun x => decide (x.mseq ≠ m.mseq)) }
        | .unbind => unbindDone { s' with pair.out := s'.pair.out.filter (fun x => decide (x.mseq ≠ m.mseq)) } := by
  refine (mirReceive_of_good bound runs (by rfl) took).trans ?_
  dsimp only
  rw [found] <;> rfl

/-- A checkpoint begins: its number is taken (R278). -/
def checkpointing (s : State) : State :=
  { s with
    pair.cseq := tput 0 s.pair.cseq s.pair.ckCtx.toNat (tget 0 s.pair.cseq s.pair.ckCtx.toNat + 1), pair.ckBusy := true }

section
variable (s : State) (c : Nat)

theorem length_ckRecord : (ckRecord s c).length = 256 := by
  have events : ((List.range 8).flatMap fun k => if s.pair.ckEvv.toNat.testBit k then
      leBytes 2 (bitsN s.pair.ckEv.toNat (16 * k) 16) ++ leBytes 6 0 ++
        leBytes 8 (evOf s (bitsN s.pair.ckEv.toNat (16 * k) 16)).cnt.toNat
      else List.replicate 16 0).length = 128 := by
    have each' : ∀ k, (if s.pair.ckEvv.toNat.testBit k then
      leBytes 2 (bitsN s.pair.ckEv.toNat (16 * k) 16) ++ leBytes 6 0 ++
        leBytes 8 (evOf s (bitsN s.pair.ckEv.toNat (16 * k) 16)).cnt.toNat
      else List.replicate 16 0).length = 16 := fun k => by split <;> simp
    simp only [List.length_flatMap, each', List.map_const', List.length_range, List.sum_replicate, smul_eq_mul]
  unfold ckRecord
  dsimp only
  simp only [List.length_append, sliceB_length, leBytes_length, List.length_replicate, events]

theorem origin_ckRecord : leAt (ckRecord s c) 64 8 = (ctxOf s c).origin % 2 ^ 64 := by
  unfold ckRecord
  dsimp only
  simp only [List.append_assoc]
  rw [leAt_append_right _ _ 8 (by simp), sliceB_length, Nat.sub_self, leAt, sliceB_eq_take_drop (by simp), List.drop_zero,
    List.take_left' (leBytes_length 8 _), ofLe_leBytes]

end

/-! ## The statements -/

theorem pairStatesMove : PairStatesMove := by
  refine ⟨fun s peer dur inService role shows => ?_, fun s syncing primary booted acked => ?_,
    fun s s' mseq arg body bound runs took => ?_, fun s late => ?_, fun s s' mseq arg body bound runs took => ?_,
    fun s a waited late binding => ?_, fun s a waited late other => ?_⟩
  · refine ⟨fun differ => ?_, fun same binding serves => ?_⟩
    · have none : effPairBind peer dur s = s := by rw [effPairBind, if_pos (by simp [differ])]
      exact congrArg Outcome.next none
    · have starts : effPairBind peer dur s = if dur = 0 && (pairHello s).2.kh.run.isEmpty then
          pairBound2 peer (pairHello s).1 (pairHello s).2 else khQueue (.pairBind peer (pairHello s).1) dur (pairHello s).2 := by
        rw [effPairBind, if_neg (by simp [inService, role, shows, same])]
        dsimp only
        rw [if_neg (show ¬s.pair.st = .unbound by simp [binding]), if_neg (by simp [binding, serves])]
      have hello := within_pairHello s
      have kh : (pairHello s).2.kh = s.kh := hello.keeps (·.kh) fun _ => rfl
      have pair : (pairHello s).2.pair = s.pair := hello.keeps (·.pair) fun _ => rfl
      have secret (d : Nat) : pairSecretOf (pairHello s).2 peer d = pairSecretOf s peer d :=
        hello.keeps (pairSecretOf · peer d) fun _ => rfl
      have now (zero : dur = 0) (idle : s.kh.run = []) :
          effPairBind peer dur s = match pairSecretOf s peer (pairHello s).1 with
            | some k => enterSyncing { (pairHello s).2 with kh.pairSecret := some k }
            | none => raise { code := errMirrorFailed, src := 7 } (pairHello s).2 := by
        rw [starts, if_pos (by simp [zero, kh, idle]), pairBound2, if_neg (by simp [pair, binding]), secret] <;> rfl
      refine ⟨fun k zero idle good => ?_, fun zero idle bad => ?_, fun takes => ?_⟩
      · have does := now zero idle
        rw [good] at does
        exact ⟨_, congrArg Outcome.next does, (enterSyncing_spec _).1, (within_enterSyncing ..).keeps (·.kh.pairSecret) fun _ => rfl⟩
      · have does := now zero idle
        rw [bad] at does
        refine ⟨_, congrArg Outcome.next does, ((within_raise ..).keeps (·.pair) fun _ => rfl).trans pair,
          ((within_raise ..).keeps (·.kh) fun _ => rfl).trans kh, fun on => ?_⟩
        have host : domOn (pairHello s).2 dHOST = domOn s dHOST := hello.keeps (domOn · dHOST) fun _ => rfl
        have queue : (pairHello s).2.erq.incoming = s.erq.incoming := hello.keeps (·.erq.incoming) fun _ => rfl
        rw [incoming_raise, host, if_pos on, queue]
        rfl
      · rw [if_neg (by rw [kh]; rcases takes with h | h <;> simp [h]), khQueue, kh] at starts
        exact congrArg Outcome.next starts
  · have none : (s.pair.out.any fun m => decide (m.use = .data) || decide (m.use = .region)) = false := by
      rw [List.any_eq_false]
      intro m inside
      obtain ⟨data, region⟩ := acked m inside
      simp [data, region]
    have does : effPairSyncDone s = pairState .paired s := by
      rw [effPairSyncDone, if_pos (by simp [syncing, primary, booted, none])]
    exact ⟨_, congrArg Outcome.next does, pair_pairState s .paired, (within_pairState ..).keeps (·.hbm) fun _ => rfl⟩
  · obtain ⟨p, a, is⟩ := takeMir_good took
    have does : effMirHeartbeat s = if !pairBound s' || decide (byteAt body 0 ≠ b2n (!s'.pair.role)) then s' else heardPartner body s' :=
      mirReceive_of_good bound runs (by rfl) took
    have bound' : pairBound s' = true := by rw [is]; exact bound
    have view : s'.pair.st = s.pair.st ∧ s'.pair.role = s.pair.role ∧ s'.pair.hbRx = s.pair.hbRx ∧ s'.pair.peerSt = s.pair.peerSt ∧
        s'.now = s.now := by rw [is]; exact ⟨rfl, rfl, rfl, rfl, rfl⟩
    obtain ⟨st, role, heard, peer, now⟩ := view
    clear is
    refine ⟨_, congrArg Outcome.next does, fun own => ?_, fun other partner => ?_, fun other primary five => ?_⟩
    · rw [if_pos (by simp [role, own])]
      exact ⟨heard, st⟩
    · rw [if_neg (by simp [bound', role, other])]
      have after := heardPartner_spec (s := s') (body := body) (.inl (role.trans partner))
      simpa only [now, role, partner, st, peer, true_and] using after
    · rw [if_neg (by simp [bound', role, other])]
      have after := heardPartner_spec (s := s') (body := body) (.inr five)
      simpa only [now, role, primary, st, peer, Bool.false_eq_true, false_and, if_false] using after
  · have does : effHeartbeatMiss s = pairMiss s := if_pos late
    refine ⟨fun paired primary => ?_, fun paired partner out => ?_, fun paired partner service room => ?_, fun st => ?_⟩
    · exact ⟨_, congrArg Outcome.next does, pairMiss_of_primary s paired primary⟩
    · have stays : pairMiss s = s := by
        rw [pairMiss, paired]
        simp only [partner, out, if_true]
      exact congrArg Outcome.next (does.trans stays)
    · have fails : pairMiss s = failover s := by
        rw [pairMiss, paired]
        simp [partner, service]
      have took := (takeover_failover s).trans (takeover_tookOver s room)
      simp only [takeover, Prod.mk.injEq] at took
      obtain ⟨st, former, addr, epoch⟩ := took
      exact ⟨_, congrArg Outcome.next (does.trans fails), st, epoch, addr, former⟩
    · have again : pairMiss s = enterBinding s := by
        rcases st with st | st <;> rw [pairMiss, st]
      exact ⟨_, congrArg Outcome.next (does.trans again), enterBinding_spec s⟩
  · obtain ⟨p, a, is⟩ := takeMir_good took
    have does : effMirUnbind s = if !pairBound (sendAck mseq false s') then sendAck mseq false s'
        else if (sendAck mseq false s').pair.unbinding.isSome then unbindDone (sendAck mseq false s')
        else (enterUnbound 0 (sendAck mseq false s')).2 :=
      mirReceive_of_good bound runs (by rfl) took
    have bound' : pairBound (sendAck mseq false s') = true := by
      obtain ⟨l, q, sent, -⟩ := sendAck_eq mseq false s'
      rw [sent, is]
      exact bound
    rw [if_neg (by simp [bound'])] at does
    have unpaired : Unpaired (effMirUnbind s) := by
      rw [does]
      split
      · exact unpaired_unbindDone _
      · exact enterUnbound_spec _ 0
    exact ⟨_, rfl, unpaired⟩
  · have does : effUnbindTimeout s = unbindDone s := by
      rw [effUnbindTimeout, waited]
      dsimp only
      rw [if_pos (by exact late), if_pos binding]
    obtain ⟨st, none, -⟩ := unpaired_unbindDone s
    exact ⟨_, congrArg Outcome.next does, st, none⟩
  · have does : effUnbindTimeout s = answerWait errMirrorFailed { s with
        pair.unbinding := none, pair.rebind := 0, pair.out := s.pair.out.filter (fun m => decide (m.use ≠ .unbind)) } := by
      rw [effUnbindTimeout, waited]
      dsimp only
      rw [if_pos (by exact late), if_neg other]
    exact ⟨_, congrArg Outcome.next does, (within_answerWait ..).keeps (·.pair) fun _ => rfl⟩

theorem mirrorMessagesAct : MirrorMessagesAct := by
  refine ⟨fun s out => ?_, fun s p wf is small bound service due => ?_, fun s s' m mseq arg body bound runs mem took copies => ?_,
    fun s s' mseq arg body m bound runs took found => ?_, fun s c is host idle primary paired live owned => ?_⟩
  · have none : effHeartbeatSend s = s := by rw [effHeartbeatSend, if_pos (by simp [out])]
    exact congrArg Outcome.next none
  · subst is
    have does : effHeartbeatSend s = mirSend 1 0 (leBytes 1 (b2n s.pair.role) ++ leBytes 1 (pairStateNo s.pair.st) ++ leBytes 6 0 ++
        leBytes 8 s.fab.epoch.toNat) .once none 0 { s with pair.hbTx := s.now } := by
      rw [effHeartbeatSend, if_neg (by simp [bound, service, Nat.not_lt.mpr (show s.pair.hbTx + msNs ≤ s.now from due)])]
    rw [mirSend_sent, show (decide ((1 : Nat) = 1) || decide ((1 : Nat) = 5)) = true from rfl, queueFrames_vcA] at does
    exact congrArg Outcome.next does
  · obtain ⟨p, a, is⟩ := takeMir_good took
    have view : holdsCopies s' = true ∧ s'.hbm = s.hbm ∧ s'.pair.mseqTx = s.pair.mseqTx ∧ s'.pair.mirrored = s.pair.mirrored := by
      rw [is]
      exact ⟨copies, rfl, rfl, rfl⟩
    obtain ⟨copies', hbm, next, mirrored⟩ := view
    clear is
    have acked (u : State) : (sendAck mseq false u).hbm = u.hbm ∧ (sendAck mseq false u).pair.mseqTx = (u.pair.mseqTx + 1) % 2 ^ 32 ∧
        (sendAck mseq false u).pair.mirrored = u.pair.mirrored := by
      obtain ⟨l, q, sent, -⟩ := sendAck_eq mseq false u
      rw [sent]
      exact ⟨rfl, rfl, rfl⟩
    refine ⟨fun kind fits => ?_, fun kind small => ?_, fun kind small => ?_⟩
    · subst kind
      have does : effMirWrite s = sendAck mseq false (hbmWrite arg body s') := by
        rw [effMirWrite, if_neg (by simp [mem])]
        refine (mirReceive_of_good bound runs (by rfl) took).trans ?_
        rw [if_pos (by simp [copies', hbmSize, fits])]
      obtain ⟨stored, count, -⟩ := acked (hbmWrite arg body s')
      refine ⟨_, congrArg Outcome.next does, stored.trans ?_, count.trans ?_⟩
      · rw [hbmWrite, hbm]
      · exact congrArg (fun n => (n + 1) % 2 ^ 32) next
    · subst kind
      have does : effMirRegion s = sendAck mseq false (putRec arg (sliceB body 0 2048) { s' with
          pair.mirrored := if byteAt body 6 = 0 then s'.pair.mirrored.filter (· ≠ arg) else s'.pair.mirrored.filter (· ≠ arg) ++ [arg] }) := by
        rw [effMirRegion, if_neg (by simp [mem])]
        refine (mirReceive_of_good bound runs (by rfl) took).trans ?_
        rw [if_pos (by simp [copies', small])]
      obtain ⟨stored, -, held⟩ := acked (putRec arg (sliceB body 0 2048) { s' with
          pair.mirrored := if byteAt body 6 = 0 then s'.pair.mirrored.filter (· ≠ arg) else s'.pair.mirrored.filter (· ≠ arg) ++ [arg] })
      refine ⟨_, congrArg Outcome.next does, stored.trans ?_, ?_⟩
      · rw [putRec, hbmWrite, hbm, recBase, Nat.mul_comm arg]
      · rw [held, putRec, hbmWrite]
        dsimp only
        split
        · next zero => simp [zero]
        · next full => simp [full]
    · subst kind
      have does : effMirCkpt s = sendAck mseq false (hbmWrite (ckBase arg) (sliceB body 0 256) s') := by
        rw [effMirCkpt, if_neg (by simp [mem])]
        refine (mirReceive_of_good bound runs (by rfl) took).trans ?_
        rw [if_pos (by simp [copies', small])]
      obtain ⟨stored, -, -⟩ := acked (hbmWrite (ckBase arg) (sliceB body 0 256) s')
      refine ⟨_, congrArg Outcome.next does, stored.trans ?_⟩
      rw [hbmWrite, hbm, ckBase, Nat.mul_comm arg]
  · obtain ⟨p, a, is⟩ := takeMir_good took
    have view : s'.pair.out = s.pair.out ∧ s'.pair.st = s.pair.st ∧ s'.pair.role = s.pair.role ∧ s'.pair.mseqTx = s.pair.mseqTx ∧
        s'.now = s.now ∧ ∀ l, keptOut s' l = keptOut s l := by
      rw [is]
      exact ⟨rfl, rfl, rfl, rfl, rfl, fun _ => rfl⟩
    obtain ⟨out, st, role, next, now, kept⟩ := view
    clear is
    rw [← out] at found
    have does := effMirAck_of_found bound runs took found
    refine ⟨fun good => ?_, fun bad few => ?_, fun bad many paired primary => ?_⟩
    · rw [if_neg (by simp [good])] at does
      refine ⟨_, congrArg Outcome.next does, fun use => ?_, fun use => ?_, fun use => ?_⟩
      · rw [← out]
        rcases use with use | use | use
        · rw [use]
          exact (within_mirLanded ..).keeps (·.pair.out) fun _ => rfl
        · rw [use]
        · rw [use]
          rfl
      · rw [use]
        exact ⟨rfl, rfl, rfl⟩
      · rw [use]
        exact (unpaired_unbindDone _).1
    · rw [if_pos bad, if_neg (by omega)] at does
      refine ⟨_, congrArg Outcome.next does, ?_, ?_⟩
      · rw [mirSend_sent]
        exact st
      · rw [mirSend_sent]
        change keptOut s' (s'.pair.out.filter _) ++ [_] = _
        rw [kept, out, next, now]
        rfl
    · rw [if_pos bad, if_pos many] at does
      exact ⟨_, congrArg Outcome.next does, (pairMiss_of_primary _ (by exact st.trans paired) (by exact role.trans primary)).1⟩
  · subst is
    have does : effCkGo s = mirSend 4 s.pair.ckCtx.toNat (ckRecord (checkpointing s) s.pair.ckCtx.toNat) .ckpt none 0 (checkpointing s) := by
      rw [effCkGo, if_neg (by simp [host, idle]), if_neg ?_]
      · rfl
      · have all : ((List.range 8).any fun k => s.pair.ckEvv.toNat.testBit k &&
            !evOwned s s.pair.ckCtx.toNat (bitsN s.pair.ckEv.toNat (16 * k) 16)) = false := by
          rw [List.any_eq_false]
          intro k inside
          cases set : s.pair.ckEvv.toNat.testBit k
          · simp
          · simp [owned k (List.mem_range.mp inside) set]
        simp [primary, paired, live, all]
    refine ⟨_, congrArg Outcome.next does, ?_, ?_, ckRecord (checkpointing s) s.pair.ckCtx.toNat, length_ckRecord _ _, ?_, ?_⟩
    · rw [mirSend_sent]
      rfl
    · rw [mirSend_sent]
      exact tget_tput_self 0 _ (by omega) _ _
    · exact origin_ckRecord _ _
    · rw [mirSend_sent]
      rfl

/-- Settles O34: a message is followed through `mirSend`, a state through what releasing the open messages leaves. -/
theorem ropedPairActs : Obligations.RopedPairActs := ⟨pairStatesMove, mirrorMessagesAct⟩

end Sys2Proof.Machine
end

section
/-!
PROOF. The Keyholder's key commands, tamper, entropy and the JTAG port (11 R286 to R288, R300 to R309).
-/
namespace Sys2Proof.Machine
open Host Claims

/-! ## Key commands (11 R287, R288, R300) -/

section
variable {s : State} {c : State → KhCmd} {bad : State → Option Nat} {dur : Nat}

theorem keyServes_iff {rng : Bool} : keyServes s rng = true ↔ khServes s rng = true ∧ s.kh.dbg ≠ 2 := by
  rw [keyServes, Bool.and_eq_true, decide_eq_true_eq]

/-- A key command whose condition holds is done at once or joins those in progress. -/
theorem keyCmd_of_ready (ready : secReady s) (serves : keyServes s false = true) (ok : bad s = none) :
    keyCmd bad c dur s = if dur = 0 && s.kh.run.isEmpty then khFinish (c s) s else khQueue (c s) dur { s with kh.busy := true } := by
  obtain ⟨serves, level⟩ := keyServes_iff.mp serves
  rw [keyCmd, secCmd_of_ready ready, if_neg level, ok]
  exact if_neg (by simp [serves])

theorem keyCmd_at_once (ready : secReady s) (serves : keyServes s false = true) (ok : bad s = none) (zero : dur = 0)
    (idle : s.kh.run = []) : keyCmd bad c dur s = khFinish (c s) s := by
  rw [keyCmd_of_ready ready serves ok, if_pos (by simp [zero, idle])]

theorem keyCmd_held (ready : secReady s) (serves : keyServes s false = true) (ok : bad s = none) (takes : dur ≠ 0 ∨ s.kh.run ≠ []) :
    keyCmd bad c dur s = { s with kh.busy := true, kh.run := s.kh.run ++ [(c s, dur)] } := by
  rw [keyCmd_of_ready ready serves ok, if_neg (by rcases takes with h | h <;> simp [h])]
  rfl

/-- At L2 a key command is refused (11 R306, R309). -/
theorem keyCmd_at_two (ready : secReady s) (level : s.kh.dbg = 2) :
    keyCmd bad c dur s = secEnd errSecureUnavailable s := by
  rw [keyCmd, secCmd_of_ready ready]
  exact if_pos level

end

/-- Declares that waited behind the aborted command are refused: the Bivouac mailbox alone sees it (11 R301). -/
theorem foldl_khFail_declares (l : List (KhCmd × Nat)) (all : ∀ c ∈ l, ∃ r x, c.1 = .declare r x) : ∀ s : State,
    (l.foldl (fun s r => khFail errSecureUnavailable r.1 s) s).kh = s.kh ∧
      (l.foldl (fun s r => khFail errSecureUnavailable r.1 s) s).pwr = s.pwr := by
  induction l with
  | nil => exact fun _ => ⟨rfl, rfl⟩
  | cons c l ih =>
    intro s
    obtain ⟨r, x, is⟩ := all c List.mem_cons_self
    obtain ⟨kh, pwr⟩ := ih (fun c inside => all c (List.mem_cons_of_mem _ inside)) (khFail errSecureUnavailable c.1 s)
    rw [List.foldl_cons, kh, pwr, is]
    exact ⟨rfl, rfl⟩

theorem keyCommandsAct : KeyCommandsAct := by
  refine ⟨fun s slot snum dur ready unbound serves => ?_, fun s slot dur ready unbound serves => ?_, fun s dur ready none serves => ?_,
    fun s slot snum dur ready level i is => ?_, fun s slot snum k ns at0 rest g run defer late declares => ?_⟩
  · have ok : (if slotBound s slot then some errKeySlot else none) = none := if_neg (by simp [unbound])
    refine ⟨fun zero idle => ?_, fun takes => ?_⟩
    · exact ⟨_, congrArg Outcome.next (keyCmd_at_once ready serves ok zero idle), secOk_secEnd _ 0, rfl⟩
    · exact congrArg Outcome.next (keyCmd_held ready serves ok takes)
  · have ok : (if slotBound s slot then some errKeySlot else none) = none := if_neg (by simp [unbound])
    refine ⟨fun zero idle => ?_, fun takes => ?_⟩
    · exact ⟨_, congrArg Outcome.next (keyCmd_at_once ready serves ok zero idle), secOk_secEnd _ 0, rfl, rfl⟩
    · exact congrArg Outcome.next (keyCmd_held ready serves ok takes)
  · have ok : (if s.kh.chassis.isSome then some errObjState else Option.none) = Option.none := if_neg (by simp [none])
    refine ⟨fun zero idle => ?_, fun takes => ?_⟩
    · exact ⟨_, congrArg Outcome.next (keyCmd_at_once ready serves ok zero idle), secOk_secEnd _ 0, rfl⟩
    · exact congrArg Outcome.next (keyCmd_held ready serves ok takes)
  · rcases is with rfl | rfl | rfl <;> exact congrArg Outcome.next (keyCmd_at_two ready level)
  · have does : effHoldLimit s = rest.foldl (fun s r => khFail errSecureUnavailable r.1 s)
        (secEnd errSecureAborted (zeroJobKey slot { s with kh.run := [] })) := by
      rw [effHoldLimit, defer]
      dsimp only
      rw [if_pos (by exact late), abortHeld, run]
      rfl
    obtain ⟨kh, pwr⟩ := foldl_khFail_declares rest declares (secEnd errSecureAborted (zeroJobKey slot { s with kh.run := [] }))
    refine ⟨_, congrArg Outcome.next does, ?_, ?_, ?_, ?_⟩
    · rw [kh]
      rfl
    · rw [secOk, kh]
      exact ⟨rfl, rfl, rfl, rfl, rfl⟩
    · rw [kh]
      rfl
    · rw [pwr]
      rfl

/-! ## The JTAG port (11 R303, R304, R307) -/

section
variable {s : State} {op : BitVec 8}

theorem jtagOp_trace (level : s.kh.dbg ≠ 0) : jtagOp s 0x11 = 0x11 := by
  rw [jtagOp, if_neg (by decide), if_pos ⟨rfl, level⟩]

/-- An instruction that the level permits is selected. -/
theorem effJtag_of_permitted (main : s.pwr.main = true) (pins : s.kh.extest = false) (op : BitVec 8) :
    effJtag { op := op } s = if jtagOp s op = s.kh.jtag then s else jtagSelect (jtagOp s op) s := by
  change effJtagOp op s = _
  rw [effJtagOp, if_neg (by simp [main]), if_neg (by simp [pins])]

/-- An instruction that does not touch the pins changes the instruction register alone. -/
theorem effJtag_of_plain (main : s.pwr.main = true) (pins : s.kh.extest = false) (x : BitVec 8) (is : jtagOp s op = x)
    (plain : ¬(x = 0x03 ∨ x = 0x04 ∨ x = 0x05)) : effJtag { op := op } s = { s with kh.jtag := x } := by
  rw [effJtag_of_permitted main pins, is]
  split
  · next same => rw [same]
  · rw [jtagSelect]
    exact if_neg plain

theorem jtag_evictAll (cause : Nat) (s : State) : (evictAll cause s).kh.jtag = s.kh.jtag := by
  unfold evictAll
  dsimp only
  exact (each_keeps (·.kh.jtag) (fun c u => (within_ctxAbort ..).keeps (·.kh.jtag) fun _ => rfl) _ _).trans
    (foldl_keeps (·.kh.jtag) (fun u r => (within_khFail ..).keeps (·.kh.jtag) fun _ => rfl) _ _)

/-- One access with the instruction that is selected already. -/
theorem effJtag_of_access (runs : mcRuns s = true) (pins : s.kh.extest = false) (a : DbgAccess) (same : jtagOp s op = s.kh.jtag)
    (allowed : dbgAllowed s a = true) : effJtag ⟨op, [a]⟩ s = dbgAccess s a := by
  have main : s.pwr.main = true := by
    simp only [mcRuns, Bool.and_eq_true] at runs
    exact runs.1.1
  have stays : effJtagOp op s = s := by
    rw [effJtagOp, if_neg (by simp [main]), if_neg (by simp [pins]), if_pos same]
  change (if mcRuns (effJtagOp op s) && dbgAllowed (effJtagOp op s) a then dbgAccess (effJtagOp op s) a else effJtagOp op s) = _
  rw [stays, if_pos (by simp [runs, allowed])]

end

section
variable {s : State}

theorem formed_jtag (wf : Tables.wf s = true) (op : BitVec 8) : Formed { s with kh.jtag := op } := by
  have w : Within [.jtag] s { s with kh.jtag := op } := .upd [.jtag] (by rfl)
  exact w.formed ((formed_iff s).mpr wf)

/-- An instruction that the level permits is selected (R307, R308). -/
theorem jtagOp_of_permitted {op : BitVec 8}
    (permitted : op = 0x01 ∨ op = 0x02 ∨ op = 0x10 ∨ (op = 0x11 ∧ s.kh.dbg ≠ 0) ∨ (op = 0x12 ∧ s.kh.dbg = 2)) : jtagOp s op = op := by
  rcases permitted with rfl | rfl | rfl | ⟨rfl, level⟩ | ⟨rfl, level⟩
  · rfl
  · rfl
  · rfl
  · exact jtagOp_trace level
  · rw [jtagOp, if_neg (by decide), if_neg (fun h => absurd h.1 (by decide)), if_pos ⟨rfl, level⟩]

/-- The state as an instruction that takes the pins leaves it (R309). -/
def pinsTaken (op : BitVec 8) (s : State) : State := { evictAll 4 { s with kh.jtag := op } with kh.extest := true }

theorem pinsTaken_spec (wf : Tables.wf s = true) (op : BitVec 8) : (pinsTaken op s).kh.jtag = op ∧
    (pinsTaken op s).kh.extest = true ∧ (pinsTaken op s).kh.ctxKey = [] ∧ (pinsTaken op s).vb.zeroCause = 4 ∧
    ∀ c, (ctxOf (pinsTaken op s) c).st ≠ .live := by
  have formed := formed_jtag wf op
  have jtag : (evictAll 4 { s with kh.jtag := op }).kh.jtag = op := jtag_evictAll 4 { s with kh.jtag := op }
  unfold pinsTaken
  generalize { s with kh.jtag := op } = u at formed jtag ⊢
  obtain ⟨keys, -, -, -, cause⟩ := evictAll_keys (s := u) (cause := 4)
  exact ⟨jtag, rfl, keys, cause, ctxOf_evictAll (s := u) 4 formed⟩

/-- EXTEST, CLAMP and HIGHZ take the pins and end every context (R309). -/
theorem effJtag_of_pins {op : BitVec 8} (main : s.pwr.main = true) (pins : s.kh.extest = false)
    (pinsOp : op = 0x03 ∨ op = 0x04 ∨ op = 0x05) (fresh : s.kh.jtag ≠ op) : effJtag { op := op } s = pinsTaken op s := by
  have is : jtagOp s op = op := by rcases pinsOp with rfl | rfl | rfl <;> rfl
  rw [effJtag_of_permitted main pins, is, if_neg (Ne.symm fresh), jtagSelect]
  exact if_pos pinsOp

/-- The accesses of debug level L2 (R304, R308). -/
theorem jtag_accesses (runs : mcRuns s = true) (pins : s.kh.extest = false) (sel : s.kh.jtag = 0x12) (level : s.kh.dbg = 2)
    (a : DbgAccess) (other : a ≠ .trace) : exec (.jtagInstruction ⟨0x12, [a]⟩) s = .next (dbgAccess s a) := by
  have same : jtagOp s 0x12 = s.kh.jtag := by simp [jtagOp, level, sel]
  exact congrArg Outcome.next (effJtag_of_access runs pins a same (by simp [dbgAllowed, other, sel, level]))

end

theorem portsOfTheKeyholderAct : PortsOfTheKeyholderAct := by
  refine ⟨fun s cause runs => ?_, fun s => rfl, fun s op main pins => ⟨fun permitted => ?_, fun trace level => ?_, ?_⟩,
    fun s u op l a does => ?_, fun s runs pins sel level => ?_, fun s runs pins sel level => ?_,
    fun s main => ⟨fun pins level => ?_, fun pins => ?_, fun pins level => ?_⟩⟩
  · have does : effTamper cause s = coldReset 3 (faultCapture { zeroAll s with kh.chassis := none, vb.zeroCause := cause }) := by
      rw [effTamper, if_neg (by simp [runs])]
    exact ⟨_, congrArg Outcome.next does, rfl, rfl, rfl, rfl, rfl⟩
  · refine congrArg Outcome.next (effJtag_of_plain main pins op (jtagOp_of_permitted permitted) ?_)
    rcases permitted with rfl | rfl | rfl | ⟨rfl, -⟩ | ⟨rfl, -⟩ <;> decide
  · have is : jtagOp s op = 0xFF := by simp [jtagOp, trace, level]
    exact congrArg Outcome.next (effJtag_of_plain main pins 0xFF is (by decide))
  · exact fun wf pinsOp fresh => ⟨_, congrArg Outcome.next (effJtag_of_pins main pins pinsOp fresh), pinsTaken_spec wf op⟩
  · have is : effJtag ⟨op, l⟩ s = u := Outcome.next.inj does
    refine congrArg Outcome.next ?_
    rw [← is, effJtag, effJtag, List.foldl_append]
    rfl
  · have allowed : dbgAllowed s .trace = true := by
      rw [dbgAllowed, if_pos rfl, sel]
      simpa using level
    exact congrArg Outcome.next (effJtag_of_access runs pins .trace ((jtagOp_trace level).trans sel.symm) allowed)
  · have does := jtag_accesses runs pins sel level
    refine ⟨fun pa n => ?_, fun pa b on => ?_, fun tl off n stopped => ?_, fun addr b mail => ?_, ?_, ?_⟩
    · rw [does _ (by simp), dbgAccess, dbgRead, length_hbmRead]
      rfl
    · rw [does _ (by simp), dbgAccess, if_pos on]
      rfl
    · have dark : tileOn s tl = false := by simp [tileOn, stopped]
      rw [does _ (by simp), dbgAccess, dbgRead, dark, spRead, length_memRead]
      rfl
    · rw [does _ (by simp), dbgAccess, if_pos mail]
    · exact does _ (by simp)
    · exact does _ (by simp)
  · have does : effTapReset s = { s with kh.jtag := 0x01, kh.halted := false } := by
      rw [effTapReset, if_neg (by simp [main]), if_neg (by simp [pins]), if_neg level]
    exact congrArg Outcome.next does
  · have does : effTapReset s = coldReset 5 s := by
      rw [effTapReset, if_neg (by simp [main]), if_pos pins]
    exact congrArg Outcome.next does
  · have does : effTapReset s = coldReset 4 s := by
      rw [effTapReset, if_neg (by simp [main]), if_neg (by simp [pins]), if_pos level]
    exact congrArg Outcome.next does

/-- Settles O35: the key commands by `keyCmd`, the JTAG port by the instruction it selects and the accesses made with it. -/
theorem keyholderActs : Obligations.KeyholderActs := ⟨keyCommandsAct, portsOfTheKeyholderAct⟩

end Sys2Proof.Machine
end

section
/-!
PROOF. The node on the field bus, and the challenge (15 R385, R387, R388, R396, R398).
-/
namespace Sys2Proof.Machine
open Host Claims

section
variable {s : State}

/-- A message of a node that is on the bus. -/
theorem canSend_of_open (on : s.dict.onBus = true) (open' : s.dict.busOff = false) (node : nodeId s ≠ 0) (fc : Nat) (b : Bytes) :
    canSend fc b s = emit (.can (fc * 128 + nodeId s) (canPad b))
      { s with dict.bus := lset s.dict.bus 0 (lget 0 s.dict.bus 0 + 1), dict.txErr := s.dict.txErr - 1 } := by
  rw [canSend, if_pos (by simp [on, open', node])]

theorem sendHb_spec (on : s.dict.onBus = true) (open' : s.dict.busOff = false) (node : nodeId s ≠ 0) :
    ∃ m, (sendHb s).out = s.out ++ [.can (1792 + nodeId s) m] ∧ (sendHb s).dict.hbAt = s.now ∧
      (sendHb s).dict.hbCount = s.dict.hbCount + 1 := by
  rw [sendHb, canSend_of_open (s := { s with dict.hbAt := s.now, dict.hbCount := s.dict.hbCount + 1 }) on open' node]
  exact ⟨_, rfl, rfl, rfl⟩

/-- A frame to the node is heard and acted on. -/
theorem onFrame_of_hears {target : Nat} (hears : busHears s target) (act : State → State) : onFrame target act s = act (heard s) := by
  obtain ⟨served, on, open', node, rfl⟩ := hears
  rw [onFrame, if_pos (by simp [served, on, open', node])]
  rfl

end

/-- Settles O47: each command by its own guard; a heartbeat goes out under function code 0xE. -/
theorem fieldBusNodeActs : Obligations.FieldBusNodeActs := by
  refine ⟨fun s target frame served on open' node names kind => ?_, fun s served on open' node period due => ?_,
    fun s node served on open' => ?_, fun s on open' long => ?_, fun s off late => ?_, fun s served sec rng => ?_⟩
  · have does : effIdentify target frame s = sendHb (heard s) := by
      rw [effIdentify, if_neg (by simp [kind])]
      refine onFrame_of_hears ⟨served, on, open', node, ?_⟩ sendHb
      rcases names with zero | same
      · rw [if_pos zero]
      · rw [same, if_neg node]
    obtain ⟨m, sent, at', count⟩ := sendHb_spec (s := heard s) on open' node
    exact ⟨_, m, congrArg Outcome.next does, sent, at', count⟩
  · have does : effStolegHb s = sendHb s := by
      rw [effStolegHb, if_pos (by simp [served, on, period, msNs, due])]
    obtain ⟨m, sent, at', -⟩ := sendHb_spec on open' node
    exact ⟨_, m, congrArg Outcome.next does, sent, at'⟩
  · have does : effHbReceive node s = { heard s with
        dict.conflict := s.dict.conflict || (decide (node = nodeId s) && decide (node ≠ 0)) } := by
      rw [effHbReceive, if_pos (by simp [served, on, open'])]
      change (if (decide (node = nodeId s) && decide (node ≠ 0)) = true then { heard s with dict.conflict := true } else heard s) = _
      cases decide (node = nodeId s) && decide (node ≠ 0)
      · rw [Bool.or_false]
        rfl
      · rw [Bool.or_true]
        rfl
    exact congrArg Outcome.next does
  · have does : effBusOff s = drawn { s with
        dict.busOff := true, dict.busOffAt := s.now, dict.txErr := 256
        dict.bus := lset (lset s.dict.bus 2 (lget 0 s.dict.bus 2 + ((263 - s.dict.txErr) / 8 + Config.openVal s.free))) 3
          (lget 0 (lset s.dict.bus 2 (lget 0 s.dict.bus 2 + ((263 - s.dict.txErr) / 8 + Config.openVal s.free))) 3 + 1) } := by
      rw [effBusOff, if_pos (by simp [on, open'])]
    refine ⟨_, congrArg Outcome.next does, rfl, rfl, rfl, ?_, ?_⟩
    · change lget 0 (lset _ 3 _) 3 = _
      rw [lget_lset_self, if_pos (by rw [lset_length]; omega), lget_lset_of_ne _ _ _ (by decide)]
    · change _ ≤ lget 0 (lset _ 3 _) 2
      rw [lget_lset_of_ne _ _ _ (by decide), lget_lset_self, if_pos (by omega)]
      omega
  · have does : effBusOffRecovery s = { s with dict.busOff := false, dict.txErr := 0, dict.rxErr := 0 } := by
      rw [effBusOffRecovery, if_pos (by simp [off, late])]
    exact congrArg Outcome.next does
  · have does : effWriteChallenge s = emit (.readData (challengeRead s).2.1) (challengeRead s).2.2 := by
      rw [effWriteChallenge, if_pos served]
      exact if_pos (by rw [challengeRead, if_neg (by simp [sec, rng])])
    rw [challengeRead, if_neg (by simp [sec, rng])] at does
    exact congrArg Outcome.next does

end Sys2Proof.Machine
end

section
/-!
PROOF. Requests to the dictionary on the field bus and through the mailbox (15 R381 to R399).
-/
namespace Sys2Proof.Machine
open Host Claims

/-! ## Requests reach the arbiter (15 R382, R387 to R389) -/

section
variable {s : State} {target op : Nat} {frame : Bytes}

theorem awake_of_hears (hears : busHears s target) : mcAwake s = true := by
  obtain ⟨served, -⟩ := hears
  rw [dictServed, Bool.and_eq_true] at served
  exact served.1

theorem arbiter_of_free (awake : mcAwake s = true) (free : noneWaits s) (x : DictLater) : arbiter x s = serveNext x s := by
  obtain ⟨wait, later⟩ := free
  rw [arbiter, if_neg (by simp [awake, wait, later])]

/-- A REQUEST to the node is served on the state with the frame counted. -/
theorem onRequest_of_hears (hears : busHears s target) (free : noneWaits s) (long : 8 ≤ frame.length) (kind : byteAt frame 0 = op) :
    onRequest op target frame s = serve false frame (heard s) := by
  rw [onRequest, if_neg (by simp [kind, Nat.not_lt.mpr long]), onFrame_of_hears hears]
  exact arbiter_of_free (s := heard s) (by exact awake_of_hears hears) (by exact free) (.request false frame)

/-- The request that a header makes. -/
def asked (mbx : Bool) (b : Bytes) : DictWait :=
  { mbx := mbx, op := byteAt b 0, client := byteAt b 1, index := leAt b 2 2, sub := byteAt b 4 }

/-- A request whose header has no Reserved bit set is served by its OP. -/
theorem serve_of_formed {mbx : Bool} {b : Bytes} (plain : bitsAt b 5 2 6 = 0) (priv : bitsAt b 5 0 2 ≠ 3)
    (known : mbx = false ∨ byteAt b 0 = 1) : serve mbx b s =
      match byteAt b 0 with
      | 1 => respond (asked mbx b) (dictRead (leAt b 2 2) (byteAt b 4) (leAt b 6 2) s).1
          (dictRead (leAt b 2 2) (byteAt b 4) (leAt b 6 2) s).2.1 (dictRead (leAt b 2 2) (byteAt b 4) (leAt b 6 2) s).2.2.1
          (dictRead (leAt b 2 2) (byteAt b 4) (leAt b 6 2) s).2.2.2
      | 2 => serveWrite (asked mbx b) (bitsAt b 5 0 2) (leAt b 6 2) b s
      | 3 => serveOpen (asked mbx b) (bitsAt b 5 0 2) (leAt b 6 2) s
      | 4 => serveAbort (asked mbx b) s
      | _ => s := by
  rw [serve, if_neg (by rcases known with h | h <;> simp [plain, priv, h])] <;> rfl

/-- A READ of an object that may be read (R381). -/
theorem dictRead_of_row {index sub : Nat} {r : CatRow} (found : catFind index sub = some (r, false)) (readable : r.acc ≠ .wo)
    (clock : index ≠ 0x4000) (challenge : index ≠ 0x6002) :
    dictRead index sub 0 s = (0, 0, objectValue s r sub, drawn s) := by
  rw [dictRead, found]
  dsimp only
  rw [if_neg (by simp [readable]), if_neg (by simp), if_neg (by simp), if_neg clock, if_neg challenge]

end

/-! ## Responses on the field bus (15 R390 to R393) -/

section
variable {s : State}

theorem canRespond_of_write {w : DictWait} (op : w.op ≠ 1) (status detail : Nat) (value : Bytes) (s : State) :
    canRespond w status detail value s = canSend 5 (responseHead w.op w.client w.index w.sub detail status) s := by
  rw [canRespond]
  exact if_pos (by simp [op])

theorem canRespond_of_short {w : DictWait} (op : w.op = 1) {value : Bytes} (short : value.length ≤ 56) (detail : Nat) (s : State) :
    canRespond w 0 detail value s = canSend 5 (responseHead w.op w.client w.index w.sub value.length 0 ++ value) s := by
  rw [canRespond]
  dsimp only
  rw [if_neg (by simp [op]), if_pos short]
  rfl

/-- The frame of a response. -/
theorem out_canSend_of_hears {target : Nat} (hears : busHears s target) (b : Bytes) {u : State} (dict : u.dict.onBus = s.dict.onBus)
    (off : u.dict.busOff = s.dict.busOff) (node : nodeId u = nodeId s) (out : u.out = s.out) :
    (canSend 5 b u).out = s.out ++ [.can (640 + nodeId s) (canPad b)] := by
  obtain ⟨-, on, open', id, -⟩ := hears
  rw [canSend_of_open (dict.trans on) (off.trans open') (by rw [node]; exact id), node]
  change u.out ++ _ = _
  rw [out]

theorem useChallenge_keeps (priv : Nat) (s : State) : (useChallenge priv s).dict.onBus = s.dict.onBus ∧
    (useChallenge priv s).dict.busOff = s.dict.busOff ∧ nodeId (useChallenge priv s) = nodeId s ∧ (useChallenge priv s).out = s.out ∧
    (useChallenge priv s).dict.xfer = s.dict.xfer ∧ (useChallenge priv s).dict.val = s.dict.val ∧
    (priv = 2 → (useChallenge priv s).dict.challenge = none) := by
  unfold useChallenge
  split
  · exact ⟨rfl, rfl, rfl, rfl, rfl, rfl, fun _ => rfl⟩
  · next other => exact ⟨rfl, rfl, rfl, rfl, rfl, rfl, fun same => absurd same other⟩

theorem canSend_dict (fc : Nat) (b : Bytes) (s : State) : (canSend fc b s).dict.xfer = s.dict.xfer ∧
    (canSend fc b s).dict.val = s.dict.val ∧ (canSend fc b s).dict.challenge = s.dict.challenge ∧ (canSend fc b s).cvu = s.cvu := by
  unfold canSend
  split <;> exact ⟨rfl, rfl, rfl, rfl⟩

end

theorem objectValue_mailbox (s : State) (r : CatRow) (sub : Nat) (irq : Bool) (vec : BitVec 11) (busy : Bool) :
    objectValue { s with dict.mbxIrq := irq, dict.mbxVec := vec, dict.mbxBusy := busy } r sub = objectValue s r sub := rfl

section
variable {s : State} {target : Nat} {frame : Bytes}

/-- A READ on the field bus is answered with the object's value (R390). -/
theorem stolegRead_answers {r : CatRow} (hears : busHears s target) (free : noneWaits s) (long : 8 ≤ frame.length)
    (op : byteAt frame 0 = 1) (plain : bitsAt frame 5 2 6 = 0) (priv : bitsAt frame 5 0 2 ≠ 3) (len : leAt frame 6 2 = 0)
    (found : catFind (leAt frame 2 2) (byteAt frame 4) = some (r, false)) (readable : r.acc ≠ .wo) (clock : leAt frame 2 2 ≠ 0x4000)
    (challenge : leAt frame 2 2 ≠ 0x6002) (short : (objectValue (heard s) r (byteAt frame 4)).length ≤ 56) :
    (effStolegRead target frame s).out = s.out ++ [.can (640 + nodeId s) (canPad (responseHead 1 (byteAt frame 1) (leAt frame 2 2)
      (byteAt frame 4) (objectValue (heard s) r (byteAt frame 4)).length 0 ++ objectValue (heard s) r (byteAt frame 4)))] := by
  rw [effStolegRead, onRequest_of_hears hears free long op, serve_of_formed plain priv (.inl rfl), op]
  rw [len, dictRead_of_row found readable clock challenge]
  have answer := canRespond_of_short (w := asked false frame) op short 0 (drawn (heard s))
  refine (congrArg State.out answer).trans ?_
  rw [show (asked false frame).op = 1 from op]
  exact out_canSend_of_hears hears _ rfl rfl rfl rfl

/-- The bytes of a request that its frame holds. -/
theorem takeBytes_of_long {o n : Nat} (long : o + n ≤ frame.length) (s : State) : takeBytes s frame o n = (frame.drop o).take n := by
  have whole : ((frame.drop o).take n).length = n := by rw [List.length_take, List.length_drop]; omega
  rw [takeBytes, whole, Nat.sub_self]
  exact List.append_nil _

/-- A WRITE on the field bus is checked and answered with the value and the trailer of its frame (R391). -/
theorem effStolegWrite_eq {len t : Nat} (hears : busHears s target) (free : noneWaits s) (op : byteAt frame 0 = 2)
    (plain : bitsAt frame 5 2 6 = 0) (priv : bitsAt frame 5 0 2 ≠ 3) (size : leAt frame 6 2 = len)
    (trailer : trailerLen s (leAt frame 2 2) (bitsAt frame 5 0 2) = t) (short : len + t ≤ 56) (whole : frame.length = 8 + len + t) :
    effStolegWrite target frame s = writeAndAnswer (busWrite frame) (nodeId s) (bitsAt frame 5 0 2) ((frame.drop 8).take len)
      (frame.drop (8 + len)) (drawn (heard s)) := by
  have same : asked false frame = busWrite frame := by rw [asked, op]; rfl
  rw [effStolegWrite, onRequest_of_hears hears free (by omega) op, serve_of_formed plain priv (.inl rfl), op]
  rw [same, size]
  have rest : (frame.drop (8 + len)).take t = frame.drop (8 + len) := List.take_of_length_le (by rw [List.length_drop]; omega)
  have tl : trailerLen (heard s) (busWrite frame).index (bitsAt frame 5 0 2) = t := trailer
  change serveWrite (busWrite frame) (bitsAt frame 5 0 2) len frame (heard s) = _
  rw [serveWrite, tl, takeBytes_of_long (by omega), takeBytes_of_long (by omega), rest]
  exact if_neg (by simp [Nat.not_lt.mpr short])

theorem writeAndAnswer_cases (w : DictWait) (node priv : Nat) (v tr : Bytes) (s : State) :
    (∀ st d, writeOpen w.index w.sub priv v.length s = (st, d) → st ≠ 0 →
      writeAndAnswer w node priv v tr s = respond w st d [] (useChallenge priv s)) ∧
    ((writeOpen w.index w.sub priv v.length s).1 = 0 →
      (∀ st d, authGate w.index priv s = .refused st d → writeAndAnswer w node priv v tr s = respond w st d [] (useChallenge priv s)) ∧
      (authGate w.index priv s = .free →
        writeAndAnswer w node priv v tr s = writeEnd w v (writeValue w.index w.sub v (useChallenge priv s))) ∧
      (authGate w.index priv s = .verify → writeAndAnswer w node priv v tr s =
        if Config.macTime s.free = 0 && s.kh.run.isEmpty then keyedEnd (keyedWrite w node priv v tr s) (drawn (useChallenge priv s))
        else khQueue (.write (keyedWrite w node priv v tr s)) (Config.macTime s.free)
          (drawn { useChallenge priv s with dict.wait := some w }))) := by
  refine ⟨fun st d opened bad => ?_, fun good => ⟨fun st d gate => ?_, fun gate => ?_, fun gate => ?_⟩⟩
  · rw [writeAndAnswer, opened]
    exact if_pos bad
  all_goals
    unfold writeAndAnswer
    dsimp only
    rw [if_neg (fun bad => bad good), gate]

theorem respond_bus (frame : Bytes) (status detail : Nat) (s : State) : respond (busWrite frame) status detail [] s =
    canSend 5 (responseHead 2 (byteAt frame 1) (leAt frame 2 2) (byteAt frame 4) detail status) s :=
  canRespond_of_write (w := busWrite frame) (fun same => absurd same (by decide : (2 : Nat) ≠ 1)) status detail [] s

end

section
variable {k : KeyedWrite} {s : State}

/-- The Keyholder's verdict on a MAC and its counter (R383, R384). -/
theorem macCheck_spec {key : BitVec 256} (key' : s.kh.chassis = some key) {mac : Bytes}
    (is : mac = (hmac256 (keyBytes key) (macBytes k.node k.w.op k.w.index k.w.sub k.value.length (leAt k.trailer 0 4) k.chal
      k.value)).take 8) :
    (mac ≠ sliceB k.trailer 4 8 → macCheck k s = (errHmac, 9, macFailed s)) ∧
    (mac = sliceB k.trailer 4 8 → leAt k.trailer 0 4 ≤ s.vb.auth.toNat → macCheck k s = (errHmac, 10, s)) ∧
    (mac = sliceB k.trailer 4 8 → s.vb.auth.toNat < leAt k.trailer 0 4 →
      macCheck k s = (0, 0, { s with vb.auth := BitVec.ofNat 32 (leAt k.trailer 0 4) })) := by
  unfold macCheck
  rw [key']
  dsimp only
  rw [← is]
  refine ⟨fun bad => if_pos bad, fun good old => ?_, fun good new => ?_⟩
  · rw [if_neg (fun bad => bad good), if_pos old]
  · rw [if_neg (fun bad => bad good), if_neg (Nat.not_le.mpr new)]

/-! ## Segmented writes (15 R392 to R395) -/

end
section
variable {s : State} {target : Nat} {frame : Bytes}

/-- What the channel of the receive stream never touches. -/
theorem streamFeed_keeps (b : Bytes) (s : State) : (streamFeed b s).dict = s.dict ∧ (streamFeed b s).out = s.out :=
  ⟨(within_streamFeed s b).keeps State.dict fun _ => rfl, (within_streamFeed s b).keeps State.out fun _ => rfl⟩

theorem nodeId_streamFeed (b : Bytes) (s : State) : nodeId (streamFeed b s) = nodeId s :=
  (within_streamFeed s b).keeps nodeId fun _ => rfl

theorem streamCheck_keeps (s : State) : (streamCheck s).2.dict = s.dict ∧ (streamCheck s).2.out = s.out :=
  ⟨(within_streamCheck s).keeps State.dict fun _ => rfl, (within_streamCheck s).keeps State.out fun _ => rfl⟩

theorem nodeId_streamCheck (s : State) : nodeId (streamCheck s).2 = nodeId s := (within_streamCheck s).keeps nodeId fun _ => rfl

/-- The channel of the receive stream where a stream is opened on it. -/
theorem cvuOf_streamOpen (index sub : Nat) (s : State) (units : 4 ≤ s.cvu.length) :
    (cvuOf (streamOpen 3 3 index sub s) 3).opened = true ∧ (cvuOf (streamOpen 3 3 index sub s) 3).mode = 3 ∧
    (cvuOf (streamOpen 3 3 index sub s) 3).attach = true := by
  have is : cvuOf (streamOpen 3 3 index sub s) 3 = (cvuOf s 3).stream 3 index sub := by
    rw [cvuOf, streamOpen, setCvu]
    change lget _ (lset s.cvu 3 _) 3 = _
    rw [lget_lset_self, if_pos (by omega)]
  rw [is]
  exact ⟨rfl, rfl, rfl⟩

theorem closeXfer_keeps (x : SegXfer) (s : State) : (closeXfer x s).dict.onBus = s.dict.onBus ∧
    (closeXfer x s).dict.busOff = s.dict.busOff ∧ nodeId (closeXfer x s) = nodeId s ∧ (closeXfer x s).out = s.out ∧
    (closeXfer x s).dict.xfer = none ∧ (closeXfer x s).dict.val = s.dict.val ∧
    (x.priv = 2 → (closeXfer x s).dict.challenge = none) :=
  useChallenge_keeps x.priv { s with dict.xfer := none }

/-- The final response of a segmented write (R392). -/
theorem segEnd_eq (x : SegXfer) (status detail : Nat) (s : State) :
    segEnd x status detail s = canSend 5 (responseHead 3 x.client x.index x.sub detail status) (closeXfer x s) :=
  canRespond_of_write (w := { mbx := false, op := 3, client := x.client, index := x.index, sub := x.sub })
    (fun same => absurd same (by decide : (3 : Nat) ≠ 1)) status detail [] (closeXfer x s)

theorem segEnd_spec (x : SegXfer) (status detail : Nat) (s : State) :
    (segEnd x status detail s).dict.xfer = none ∧ (segEnd x status detail s).dict.val = s.dict.val := by
  obtain ⟨-, -, -, -, xfer, val, -⟩ := closeXfer_keeps x s
  obtain ⟨xfer', val', -⟩ := canSend_dict 5 (responseHead 3 x.client x.index x.sub detail status) (closeXfer x s)
  rw [segEnd_eq, xfer', val']
  exact ⟨xfer, val⟩

theorem out_segEnd (x : SegXfer) (status detail : Nat) (hears : busHears s target) {u : State} (on : u.dict.onBus = s.dict.onBus)
    (off : u.dict.busOff = s.dict.busOff) (node : nodeId u = nodeId s) (out : u.out = s.out) :
    (segEnd x status detail u).out = s.out ++ [.can (640 + nodeId s) (canPad (responseHead 3 x.client x.index x.sub detail status))] := by
  obtain ⟨on', off', node', out', -⟩ := closeXfer_keeps x u
  rw [segEnd_eq]
  exact out_canSend_of_hears hears _ (on'.trans on) (off'.trans off) (node'.trans node) (out'.trans out)

/-- The segmented write that a WRITE_SEG opens. -/
def openedXfer (frame : Bytes) (s : State) : SegXfer :=
  { index := leAt frame 2 2, sub := byteAt frame 4, client := byteAt frame 1, priv := bitsAt frame 5 0 2, len := leAt frame 6 2,
    since := s.now }

/-- WRITE_SEG opens the write and the stream's channel, and answers (R392). -/
theorem effWriteSeg_eq (hears : busHears s target) (free : noneWaits s) (long : 8 ≤ frame.length) (op : byteAt frame 0 = 3)
    (plain : bitsAt frame 5 2 6 = 0) (priv : bitsAt frame 5 0 2 ≠ 3) (none' : s.dict.xfer = none)
    (opened : writeOpen (leAt frame 2 2) (byteAt frame 4) (bitsAt frame 5 0 2) (leAt frame 6 2) s = (0, 0)) :
    effWriteSeg target frame s = canSend 5 (responseHead 3 (byteAt frame 1) (leAt frame 2 2) (byteAt frame 4) 0x80 0)
      (streamOpen 3 3 (leAt frame 2 2) (byteAt frame 4) { heard s with dict.xfer := some (openedXfer frame s) }) := by
  rw [effWriteSeg, onRequest_of_hears hears free long op, serve_of_formed plain priv (.inl rfl), op]
  change serveOpen (asked false frame) _ _ (heard s) = _
  have opened' : writeOpen (asked false frame).index (asked false frame).sub (bitsAt frame 5 0 2) (leAt frame 6 2) (heard s) = (0, 0) :=
    opened
  rw [serveOpen, if_neg (by simp [heard, none']), opened']
  dsimp only
  rw [if_neg (by simp)]
  refine (canRespond_of_write (w := asked false frame) (by rw [asked]; simp [op]) 0 0x80 [] _).trans ?_
  rw [asked, op]
  rfl

/-! ### A segment of the open write (R394) -/

/-- The open write after one more segment. -/
def grown (x : SegXfer) (b : Bytes) (last : Bool) (s : State) : SegXfer :=
  { x with since := s.now, data := x.data ++ b, k := x.k + 1, full := last }

/-- A segment of the open write of its client. -/
theorem effSegDown_eq {x : SegXfer} (hears : busHears s target) (long : 2 ≤ frame.length) (xfer : s.dict.xfer = some x)
    (client : byteAt frame 1 = x.client) : effSegDown target frame s = segment frame x (heard s) := by
  rw [effSegDown, if_neg (by omega), onFrame_of_hears hears]
  dsimp only [heard]
  rw [xfer]
  exact if_neg (not_not_intro client)

/-- A segment in order joins the open write; the last one goes to the arbiter. -/
theorem segment_of_next {x : SegXfer} {b : Bytes} (last : Bool) (part : x.full = false) (alive : bitsAt frame 0 0 4 = x.k % 16)
    (is : decide (bitsAt frame 0 4 1 = 1) = last)
    (bytes : b = if last then (frame.drop 2).take (segTotal x s - x.data.length) else frame.drop 2) :
    segment frame x s = if last then arbiter .lastSegment (streamFeed b { s with dict.xfer := some (grown x b last s) })
      else streamFeed b { s with dict.xfer := some (grown x b last s) } := by
  have repeat' : (x.k ≠ 0 && decide (bitsAt frame 0 0 4 = (x.k - 1) % 16)) = false := by
    simp only [Bool.and_eq_false_iff, decide_eq_false_iff_not, alive]
    omega
  unfold segment
  dsimp only
  rw [if_neg (by simp [part]), repeat', if_neg (by simp), if_neg (not_not_intro alive), is, ← bytes]
  rfl

/-- The last segment is served at once where no request waits. -/
theorem arbiter_lastSegment {x : SegXfer} {u : State} (hears : busHears s target) (free : noneWaits s) (b : Bytes) (full : x.full = true)
    (is : u = streamFeed b { heard s with dict.xfer := some x }) : arbiter .lastSegment u = segLast x u := by
  obtain ⟨wait, later⟩ := free
  have awake : mcAwake u = true := by
    rw [is]
    exact ((within_streamFeed _ b).keeps mcAwake fun _ => rfl).trans (awake_of_hears hears)
  have dict : u.dict = { (heard s).dict with xfer := some x } := by rw [is]; exact (streamFeed_keeps b _).1
  rw [arbiter_of_free awake ⟨by rw [dict]; exact wait, by rw [dict]; exact later⟩]
  change serveLast u = _
  rw [serveLast, dict]
  exact if_pos full

end
section
variable {s : State} {target : Nat} {frame : Bytes}

theorem trailerLen_streamFeed (b : Bytes) (index priv : Nat) (s : State) :
    trailerLen (streamFeed b s) index priv = trailerLen s index priv :=
  (within_streamFeed s b).keeps (fun t => trailerLen t index priv) fun _ => rfl

/-- A stream of the wrong length, or one whose check fails, ends the write (R394). -/
theorem segLast_of_bad {x : SegXfer} (bad : x.data.length ≠ segTotal x s) : segLast x s = segEnd x errCvuMismatch 5 (streamCheck s).2 :=
  if_pos (by simp [bad])

/-- A whole stream that passes its check is written. -/
theorem segLast_of_good {x : SegXfer} (whole : x.data.length = segTotal x s) (good : (streamCheck s).1 = true) :
    segLast x s = writeAndAnswer { mbx := false, op := 3, client := x.client, index := x.index, sub := x.sub } (nodeId s) x.priv
      (x.data.take x.len) ((x.data.drop x.len).take (trailerLen s x.index x.priv)) { (streamCheck s).2 with dict.xfer := none } :=
  if_neg (by simp [whole, good])

/-- The last segment of a write reaches `segLast` with the channel fed. -/
theorem effSegDown_of_last {x : SegXfer} {b : Bytes} {u : State} (hears : busHears s target) (free : noneWaits s)
    (long : 2 ≤ frame.length) (xfer : s.dict.xfer = some x) (part : x.full = false) (client : byteAt frame 1 = x.client)
    (alive : bitsAt frame 0 0 4 = x.k % 16) (last : bitsAt frame 0 4 1 = 1)
    (bytes : b = (frame.drop 2).take (segTotal x s - x.data.length))
    (is : u = streamFeed b { heard s with dict.xfer := some (grown x b true s) }) :
    effSegDown target frame s = segLast (grown x b true s) u := by
  rw [effSegDown_eq hears long xfer client, segment_of_next (s := heard s) true part alive (by simp [last]) bytes, if_pos rfl]
  subst is
  exact arbiter_lastSegment (x := grown x b true s) hears free b rfl rfl

theorem segTotal_grown {x : SegXfer} {b : Bytes} {last : Bool} {u : State}
    (is : u = streamFeed b { heard s with dict.xfer := some (grown x b last s) }) : segTotal (grown x b last s) u = segTotal x s := by
  rw [is, segTotal, trailerLen_streamFeed]
  rfl

theorem serveAbort_of_client {w : DictWait} {x : SegXfer} (xfer : s.dict.xfer = some x) (client : x.client = w.client) :
    serveAbort w s = respond w 0 0 [] (abandon x s) := by
  rw [serveAbort, xfer]
  exact if_pos client

/-- ABORT from the client of the open write ends it (R395). -/
theorem effStolegAbort_eq {x : SegXfer} (hears : busHears s target) (free : noneWaits s) (long : 8 ≤ frame.length)
    (op : byteAt frame 0 = 4) (plain : bitsAt frame 5 2 6 = 0) (priv : bitsAt frame 5 0 2 ≠ 3) (xfer : s.dict.xfer = some x)
    (client : byteAt frame 1 = x.client) : effStolegAbort target frame s =
      canSend 5 (responseHead 4 (byteAt frame 1) (leAt frame 2 2) (byteAt frame 4) 0 0) (abandon x (heard s)) := by
  rw [effStolegAbort, onRequest_of_hears hears free long op, serve_of_formed plain priv (.inl rfl), op]
  change serveAbort (asked false frame) (heard s) = _
  rw [serveAbort_of_client (x := x) (by exact xfer) (by exact client.symm)]
  refine (canRespond_of_write (w := asked false frame) (by rw [asked]; simp [op]) 0 0 [] _).trans ?_
  rw [asked, op]

/-! ## The mailbox (15 R399) -/

/-- What the mailbox holds after the response to a READ. -/
theorem mbxRespond_read {w : DictWait} (op : w.op = 1) (busy : s.dict.mbxBusy = true) (detail : Nat) (v : Bytes) :
    (mbxRespond w 0 detail v s).dict.mbxBusy = false ∧ (mbxRespond w 0 detail v s).dict.mbxDone = true ∧
    (mbxRespond w 0 detail v s).dict.mbxCode = 0 ∧ (mbxRespond w 0 detail v s).dict.mbxRlen = BitVec.ofNat 16 v.length ∧
    (mbxRespond w 0 detail v s).dict.mbxRsp = putB s.dict.mbxRsp 0 v := by
  have read : (decide (w.op = 1) && decide ((0 : Nat) = 0)) = true := by simp [op]
  rw [mbxRespond, if_neg (by simp [busy]), read]
  dsimp only
  simp only [if_true]
  split
  · rw [(within_msix _ s.dict.mbxVec).keeps State.dict fun _ => rfl]
    exact ⟨rfl, rfl, rfl, rfl, rfl⟩
  · exact ⟨rfl, rfl, rfl, rfl, rfl⟩

/-- A READ through the mailbox is the response to the object's value. -/
theorem serve_mailbox_read {r : CatRow} {b : Bytes} (op : byteAt b 0 = 1) (plain : bitsAt b 5 2 6 = 0) (priv : bitsAt b 5 0 2 ≠ 3)
    (len : leAt b 6 2 = 0) (found : catFind (leAt b 2 2) (byteAt b 4) = some (r, false)) (readable : r.acc ≠ .wo)
    (clock : leAt b 2 2 ≠ 0x4000) (challenge : leAt b 2 2 ≠ 0x6002) :
    serve true b s = mbxRespond (asked true b) 0 0 (objectValue s r (byteAt b 4)) (drawn s) := by
  rw [serve_of_formed plain priv (.inr op), op, len, dictRead_of_row found readable clock challenge]
  rfl

end

/-- Settles O46: each request reaches its own server; the checks read what a frame's counting and the draws leave. -/
theorem dictionaryRequestsAct : Obligations.DictionaryRequestsAct := by
  refine ⟨?_, ?_, ?_, ?_, ?_, ?_, ?_, ?_⟩
  · rintro s target frame v r hears free long op plain priv len found readable clock challenge rfl short
    exact ⟨_, rfl, stolegRead_answers hears free long op plain priv len found readable clock challenge short⟩
  · rintro s u target index sub priv len frame v tr hears free op plain rfl priv rfl rfl size short whole rfl rfl rfl
    have does := effStolegWrite_eq hears free op plain priv size.symm rfl short whole
    have length : ((frame.drop 8).take len).length = len := by rw [List.length_take, List.length_drop]; omega
    obtain ⟨bad, good⟩ := writeAndAnswer_cases (busWrite frame) (nodeId s) (bitsAt frame 5 0 2) ((frame.drop 8).take len)
      (frame.drop (8 + len)) (drawn (heard s))
    rw [← does, length] at bad good
    refine ⟨fun st d opened refused => ?_, fun st d opened gate refused => ?_, fun opened gate st d x value => ⟨fun refused => ?_, ?_⟩,
      fun k opened gate is => ⟨fun slow => ?_, fun fast idle st d x check refused => ?_⟩⟩
    · exact congrArg Outcome.next ((bad st d opened refused).trans (respond_bus frame st d _))
    · exact congrArg Outcome.next (((good opened).1 st d gate).trans (respond_bus frame st d _))
    · refine congrArg Outcome.next (((good opened).2.1 gate).trans ?_)
      have value' : writeValue (busWrite frame).index (busWrite frame).sub ((frame.drop 8).take len)
        (useChallenge (bitsAt frame 5 0 2) (drawn (heard s))) = (some st, d, x) := value
      rw [value', writeEnd]
      exact (if_neg refused).trans (respond_bus frame st d x)
    · rintro rfl
      refine congrArg Outcome.next (((good opened).2.1 gate).trans ?_)
      have value' : writeValue (busWrite frame).index (busWrite frame).sub ((frame.drop 8).take len)
        (useChallenge (bitsAt frame 5 0 2) (drawn (heard s))) = (some 0, d, x) := value
      rw [value', writeEnd]
      refine (if_pos rfl).trans ?_
      exact congrArg (afterWrite _ _) (respond_bus frame 0 d x)
    · subst is
      refine congrArg Outcome.next (((good opened).2.2 gate).trans ?_)
      have busy : ¬(Config.macTime (s.free + 1) = 0 ∧ s.kh.run = []) := by tauto
      refine (if_neg fun both => busy ?_).trans ?_
      · rw [Bool.and_eq_true, decide_eq_true_eq, List.isEmpty_iff] at both
        exact both
      · unfold useChallenge
        split <;> rfl
    · subst is
      refine congrArg Outcome.next (((good opened).2.2 gate).trans ?_)
      refine (if_pos ?_).trans ?_
      · simp [drawn, heard, fast, idle]
      · have check' : macCheck (keyedWrite (busWrite frame) (nodeId s) (bitsAt frame 5 0 2) ((frame.drop 8).take len)
          (frame.drop (8 + len)) (drawn (heard s))) (drawn (useChallenge (bitsAt frame 5 0 2) (drawn (heard s)))) = (st, d, x) := check
        rw [keyedEnd, check']
        exact (if_pos refused).trans (respond_bus frame st d x)
  · intro s k key mac chassis is
    obtain ⟨bad, old, new⟩ := macCheck_spec (s := s) chassis is
    refine ⟨fun wrong => ?_, old, new⟩
    rw [bad wrong]
    exact ⟨rfl, rfl, (within_macFailed s).keeps State.vb fun _ => rfl⟩
  · intro s target frame hears free long op plain priv none' opened
    refine ⟨_, congrArg Outcome.next (effWriteSeg_eq hears free long op plain priv none' opened), ?_, fun units => ?_, ?_⟩
    · rw [(canSend_dict 5 _ _).1]
      exact congrArg Dict.xfer ((within_streamOpen _ 3 3 (leAt frame 2 2) (byteAt frame 4)).keeps State.dict fun _ => rfl)
    · rw [cvuOf, (canSend_dict 5 _ _).2.2.2]
      exact cvuOf_streamOpen _ _ _ units
    · exact out_canSend_of_hears hears _ rfl rfl rfl rfl
  · intro s target frame x hears free long xfer part client alive
    refine ⟨fun more => ?_, fun last short => ?_, ?_⟩
    · have does : effSegDown target frame s =
          streamFeed (frame.drop 2) { heard s with dict.xfer := some (grown x (frame.drop 2) false s) } := by
        rw [effSegDown_eq hears long xfer client, segment_of_next (s := heard s) false part alive (by simp [more]) rfl]
        rfl
      obtain ⟨dict, out⟩ := streamFeed_keeps (frame.drop 2) { heard s with dict.xfer := some (grown x (frame.drop 2) false s) }
      refine ⟨_, congrArg Outcome.next does, out, ?_⟩
      rw [dict]
      exact congrArg some (by rw [grown, ← part])
    · obtain ⟨b, bytes⟩ : ∃ b, b = (frame.drop 2).take (segTotal x s - x.data.length) := ⟨_, rfl⟩
      obtain ⟨u, is⟩ : ∃ u, u = streamFeed b { heard s with dict.xfer := some (grown x b true s) } := ⟨_, rfl⟩
      have does := effSegDown_of_last hears free long xfer part client alive last bytes is
      have bad : (grown x b true s).data.length ≠ segTotal (grown x b true s) u := by
        rw [segTotal_grown is, segTotal]
        change (x.data ++ b).length ≠ _
        rw [bytes, List.length_append, List.length_take]
        omega
      rw [segLast_of_bad bad] at does
      obtain ⟨dict, out⟩ := streamFeed_keeps b { heard s with dict.xfer := some (grown x b true s) }
      rw [← is] at dict out
      obtain ⟨checkDict, checkOut⟩ := streamCheck_keeps u
      obtain ⟨closed, val⟩ := segEnd_spec (grown x b true s) errCvuMismatch 5 (streamCheck u).2
      refine ⟨_, congrArg Outcome.next does, closed, ?_, out_segEnd _ _ _ hears ?_ ?_ ?_ ?_⟩
      · rw [val, checkDict, dict]; rfl
      · rw [checkDict, dict]; rfl
      · rw [checkDict, dict]; rfl
      · rw [nodeId_streamCheck, is, nodeId_streamFeed]; rfl
      · rw [checkOut, out]; rfl
    · intro b u last bytes whole is good
      have does := effSegDown_of_last hears free long xfer part client alive last bytes is
      refine congrArg Outcome.next (does.trans ?_)
      have total := segTotal_grown is
      have trailer : trailerLen u x.index x.priv = trailerLen s x.index x.priv := by rw [is, trailerLen_streamFeed]; rfl
      have node : nodeId u = nodeId s := by rw [is, nodeId_streamFeed]; rfl
      rw [segLast_of_good (x := grown x b true s) (whole.trans total.symm) good, node]
      dsimp only [grown]
      rw [trailer]
  · intro s target frame x hears free long op plain priv xfer client
    obtain ⟨on, off, node, out, closed, val, used⟩ := closeXfer_keeps x
      { heard s with dict.bus := lset (heard s).dict.bus 4 (lget 0 (heard s).dict.bus 4 + 1) }
    obtain ⟨xfer', val', challenge', -⟩ := canSend_dict 5 (responseHead 4 (byteAt frame 1) (leAt frame 2 2) (byteAt frame 4) 0 0)
      (abandon x (heard s))
    refine ⟨_, congrArg Outcome.next (effStolegAbort_eq hears free long op plain priv xfer client), xfer'.trans closed, val'.trans val,
      fun kp => challenge'.trans (used kp), out_canSend_of_hears hears _ on off node out⟩
  · intro s x xfer part served late
    have does : effSegTimeout s = segEnd x errCmdInvalid 6 (abandon x s) := by
      rw [effSegTimeout, xfer]
      exact if_pos (by simp [served, part, msNs, late])
    obtain ⟨closed, val⟩ := segEnd_spec x errCmdInvalid 6 (abandon x s)
    obtain ⟨-, -, -, -, -, val', -⟩ := closeXfer_keeps x { s with dict.bus := lset s.dict.bus 4 (lget 0 s.dict.bus 4 + 1) }
    exact ⟨_, congrArg Outcome.next does, closed, val.trans val'⟩
  · rintro s w v r ready awake free busy whole go op plain priv len found readable clock challenge rfl
    have bar : barOn s = true := by
      rw [hostReady, Bool.and_eq_true] at ready
      exact ready.1
    obtain ⟨v, is⟩ : ∃ v, v = rwMerge w 4 (mbxCtrl s) := ⟨_, rfl⟩
    have does : effMbxGo w s = serve true s.dict.mbxReq { s with
        dict.mbxIrq := v.testBit 1, dict.mbxVec := BitVec.ofNat 11 (v / 2 ^ 16), dict.mbxBusy := true } := by
      rw [effMbxGo, if_neg (by simp [bar]), ← is]
      refine (if_pos (by simp only [go, Bool.true_and]; rw [busy]; exact ready)).trans ?_
      exact arbiter_of_free (s := { s with dict.mbxIrq := v.testBit 1, dict.mbxVec := BitVec.ofNat 11 (v / 2 ^ 16), dict.mbxBusy := true })
        awake free _
    have written : exec (.mbxGo w) s = .next (effMbxGo w s) := by
      change execMbxGo w s = _
      rw [execMbxGo, if_neg (by simp [bar]), regWrite, if_neg (by simp [whole])]
    have read := serve_mailbox_read
      (s := { s with dict.mbxIrq := v.testBit 1, dict.mbxVec := BitVec.ofNat 11 (v / 2 ^ 16), dict.mbxBusy := true })
      op plain priv len found readable clock challenge
    rw [objectValue_mailbox] at read
    exact ⟨_, written.trans (congrArg Outcome.next (does.trans read)), mbxRespond_read (by exact op) rfl 0 _⟩

end Sys2Proof.Machine
end

section
/-!
PROOF. The commands that write one object of the dictionary (10 R262, R263, R269, R284, 11 R312, 13 R335, R343, 14 R374, 15 R386,
17 R431, R432), and the updates and settings (16 R412 to R414, R422).
-/
namespace Sys2Proof.Machine
open Host Claims

/-! ## An accepted write of one object (15 R381) -/

section
variable {s : State} {index : Nat} {r : CatRow} {v : Bytes}

theorem dictSet_of_row (served : dictServed s = true) (row : catRow index = some r) (fits : r.ty.fits v.length = true)
    (ok : valueOk r 0 v s = true) : dictSet index v s =
      if (dictApply r 0 v s).1 = some 0 then afterWrite index v (dictApply r 0 v s).2 else (dictApply r 0 v s).2 := by
  rw [dictSet, if_neg (by simp [served]), row]
  exact if_neg (by simp [fits, ok])

/-- Only a node ID and a reset have an effect after the response. -/
theorem dictSet_plain (served : dictServed s = true) (row : catRow index = some r) (fits : r.ty.fits v.length = true)
    (ok : valueOk r 0 v s = true) (node : index ≠ 0x1021) (reset : index ≠ 0x5001) : dictSet index v s = (dictApply r 0 v s).2 := by
  have quiet : afterWrite index v (dictApply r 0 v s).2 = (dictApply r 0 v s).2 := by rw [afterWrite, if_neg node, if_neg reset]
  rw [dictSet_of_row served row fits ok, quiet]
  exact ite_self _

/-- An object that is not persisted takes its value by its own effect. -/
theorem dictApply_other (row : r.index ≠ 0x2420) (acc : r.acc ≠ .rwp) :
    dictApply r 0 v s = (some (writeOther r.index v s).1, (writeOther r.index v s).2) := by
  rw [dictApply, if_neg row, if_neg acc]

/-- A value within its row's limits is accepted. -/
theorem valueOk_of_inRange (range : inRange r v = true) (headroom : r.index ≠ 0x2002) : valueOk r 0 v s = true := by
  simp [valueOk, range, headroom]

theorem ofLe_byte (v : BitVec 8) : ofLe (leBytes 1 v.toNat) = v.toNat := ofLe_leBytes_of_lt v.isLt

end

section
variable {s : State} {index : Nat} {r : CatRow} {v : Bytes}

/-- A persisted write of one object in the journal stores that value alone (16 R418). -/
theorem val_journalWrite (wf : Tables.wf s = true) (row : catRow index = some r) (sub : Nat)
    (done : (journalWrite index sub v s).1 = 0) (k : Nat) : tget [] (journalWrite index sub v s).2.dict.val k =
      if k = r.index * 256 + sub then (if v = r.dflt then [] else v) else tget [] s.dict.val k := by
  have form : tabWf [] s.dict.val = true := ((formed_iff s).2 wf).val
  have compacted (u : State) : (compact u).dict.val = u.dict.val := (within_compact u).keeps (·.dict.val) fun _ => rfl
  have opened (u : State) : (writeGen u).2.2.dict.val = u.dict.val := (within_writeGen u).keeps (·.dict.val) fun _ => rfl
  revert done
  unfold journalWrite
  rw [row]
  dsimp only
  split
  · exact fun done => absurd done ‹_›
  · split
    · exact fun done => absurd done ‹_›
    · intro
      have appended (u : State) (g : Nat) (x : JRec) : (appendBoth g x u).2.dict.val = u.dict.val :=
        (within_appendBoth u g x).keeps (·.dict.val) fun _ => rfl
      rw [compacted]
      change tget [] (tput [] (appendBoth _ _ _).2.dict.val _ _) k = _
      rw [appended, opened, compacted, tget_tput _ _ _ _ _ form]

/-- A numeric object has the value that the journal has taken; another keeps its own. -/
theorem param_journalWrite (wf : Tables.wf s = true) (row : catRow index = some r) {d : Nat} {n : Nat}
    (done : (journalWrite index 0 (leBytes 1 n) s).1 = 0) (small : n < 256) (dflt : r.dflt = leBytes 1 d) (fits : d < 256) :
    param (journalWrite index 0 (leBytes 1 n) s).2 index d = n := by
  have at_index := index_of_catRow row
  rw [param, val_journalWrite wf row 0 done, if_pos (by omega), dflt]
  have value (x : Nat) (small : x < 256) : ofLe (leBytes 1 x) = x := ofLe_leBytes_of_lt (n := 1) (by omega)
  by_cases same : leBytes 1 n = leBytes 1 d
  · rw [if_pos same]
    exact (value d fits).symm.trans ((congrArg ofLe same).symm.trans (value n small))
  · rw [if_neg same]
    exact value n small

theorem param_journalWrite_of_ne (wf : Tables.wf s = true) (row : catRow index = some r) {other d : Nat} (ne : other ≠ index)
    (done : (journalWrite index 0 v s).1 = 0) : param (journalWrite index 0 v s).2 other d = param s other d := by
  have at_index := index_of_catRow row
  rw [param, val_journalWrite wf row 0 done, if_neg (by omega)]
  rfl

/-- The journal changes nothing but the flash and the stored values. -/
theorem journalWrite_keeps (index sub : Nat) (v : Bytes) (s : State) : (journalWrite index sub v s).2.fab = s.fab ∧
    (journalWrite index sub v s).2.pair = s.pair ∧ (journalWrite index sub v s).2.rtc = s.rtc :=
  have w := within_journalWrite s index sub v
  ⟨w.keeps State.fab fun _ => rfl, w.keeps State.pair fun _ => rfl, w.keeps State.rtc fun _ => rfl⟩

end
section
variable {s : State}

theorem keyOf_keyBytes (k : BitVec 256) : keyOf (keyBytes k) = k := by
  rw [keyOf, keyBytes, List.take_of_length_le (by rw [leBytes_length]), ofLe_leBytes_of_lt (by exact k.isLt)]
  exact BitVec.ofNat_toNat 256 k |>.trans (by simp)

/-- Pair Role is made durable, and binds the device to it (10 R284). -/
theorem setPairRole_spec (wf : Tables.wf s = true) (v : BitVec 8) :
    (setPairRole v.toNat s).2.pair.st = s.pair.st ∧ ((journalWrite 0x2420 0 (leBytes 1 v.toNat) s).1 = 0 →
      (setPairRole v.toNat s).1 = 0 ∧ (setPairRole v.toNat s).2.pair.role = decide (v.toNat = 2) ∧
      pairRole (setPairRole v.toNat s).2 = v.toNat) := by
  obtain ⟨-, pair, -⟩ := journalWrite_keeps 0x2420 0 (leBytes 1 v.toNat) s
  refine ⟨by rw [← pair]; rfl, fun done => ?_⟩
  have role : pairRole (journalWrite 0x2420 0 (leBytes 1 v.toNat) s).2 = v.toNat :=
    param_journalWrite (r := ⟨0x2420, 0, .u8, .rwp, 1, leBytes 1 0⟩) wf rfl done v.isLt rfl (by decide)
  exact ⟨done, congrArg (fun n => decide (n = 2)) role, role⟩

/-- A Device Address is made durable and is in use (10 R263, 16 R418). -/
theorem writeRwp_address (wf : Tables.wf s = true) (manual : autoMode s = false) (v : BitVec 8) :
    (writeRwp 0x2400 0 (leBytes 1 v.toNat) s).2.fab.addr =
      if (journalWrite 0x2400 0 (leBytes 1 v.toNat) s).1 = 0 then v else s.fab.addr := by
  obtain ⟨fab, -, -⟩ := journalWrite_keeps 0x2400 0 (leBytes 1 v.toNat) s
  rw [writeRwp, if_neg (by simp), if_neg (by simp [flowBad])]
  dsimp only
  by_cases done : (journalWrite 0x2400 0 (leBytes 1 v.toNat) s).1 = 0
  · have address : param (journalWrite 0x2400 0 (leBytes 1 v.toNat) s).2 0x2400 255 = v.toNat :=
      param_journalWrite (r := ⟨0x2400, 0, .u8, .rwp, 1, leBytes 1 255⟩) wf rfl done v.isLt rfl (by decide)
    have manual' : autoMode (journalWrite 0x2400 0 (leBytes 1 v.toNat) s).2 = false := by
      rw [autoMode, param_journalWrite_of_ne (r := ⟨0x2400, 0, .u8, .rwp, 1, leBytes 1 255⟩) wf rfl (by decide) done]
      exact manual
    rw [if_pos done, if_pos done]
    generalize (journalWrite 0x2400 0 (leBytes 1 v.toNat) s).2 = u at address manual'
    have applied : applyRwp 0x2400 0 u = setAddr (param u 0x2400 255) u := if_neg (by simp [manual'])
    rw [applied, (addr_setAddr (s := u) _).1, address]
    exact BitVec.ofNat_toNat 8 v |>.trans (by simp)
  · rw [if_neg done, if_neg done, fab]

/-- The fabric epoch never falls (10 R262). -/
theorem adoptEpoch_eq (v : BitVec 64) : (adoptEpoch v.toNat s).fab.epoch = if s.fab.epoch.toNat < v.toNat then v else s.fab.epoch := by
  apply BitVec.eq_of_toNat_eq
  rw [(adoptEpoch_spec (s := s) (e := v.toNat) v.isLt).1]
  by_cases up : s.fab.epoch.toNat < v.toNat
  · rw [if_pos up, Nat.max_eq_right up.le]
  · rw [if_neg up, Nat.max_eq_left (Nat.not_lt.mp up)]

/-- The first `n` entries of a loaded routing table. -/
def loadedTable (b : Bytes) (n : Nat) : Tab (BitVec 32) :=
  (List.range n).foldl (fun t d => tput 0x00FF0FFF t d (BitVec.ofNat 32 (leAt b (4 * d) 4))) []

theorem tget_loadedTable (b : Bytes) {n d : Nat} (low : d < n) : (tget 0x00FF0FFF (loadedTable b n) d).toNat = leAt b (4 * d) 4 := by
  rw [loadedTable, (tget_fill 0x00FF0FFF (fun d => BitVec.ofNat 32 (leAt b (4 * d) 4)) n).2 d low, BitVec.toNat_ofNat]
  exact Nat.mod_eq_of_lt (leAt_lt b (4 * d) 4)

theorem loadTable_of_good {b : Bytes} (good : loadedBad s b = false) :
    loadTable b s = (0, { s with fab.loaded := loadedTable b 255, fab.rtDirty := true }) := if_neg (by simp [good])

/-- The role of a live pair waits for the partner (10 R284). -/
theorem pairRoleWrite_waits {v : Nat} (role : v ≤ 2) (change : v ≠ pairRole s) (live : s.pair.st = .syncing ∨ s.pair.st = .paired) :
    pairRoleWrite v s = (none, mirSend 6 0 [] .unbind none 0 { s with pair.unbinding := some s.now, pair.rebind := v }) := by
  unfold pairRoleWrite
  rw [if_neg (by omega), if_neg change]
  rcases live with st | st <;> rw [st]

theorem pairRoleWrite_unbound {v : Nat} (role : v ≤ 2) (change : v ≠ pairRole s) (alone : s.pair.st = .unbound) :
    pairRoleWrite v s = (some (setPairRole v s).1,
      if (setPairRole v s).1 = 0 then lsaSync (setPairRole v s).2 else (setPairRole v s).2) := by
  unfold pairRoleWrite
  rw [if_neg (by omega), if_neg change, alone]

theorem mirSend_pair (mtype arg : Nat) (body : Bytes) (use : MirUse) (ref : Option Nat) (bad : Nat) (s : State) :
    (mirSend mtype arg body use ref bad s).pair.st = s.pair.st ∧ (mirSend mtype arg body use ref bad s).pair.unbinding = s.pair.unbinding ∧
    (mirSend mtype arg body use ref bad s).pair.rebind = s.pair.rebind := by
  rw [mirSend_sent]
  exact ⟨rfl, rfl, rfl⟩

end
section
variable {s : State}

/-- A power state that the dictionary requests is that of the MC (13 R335). -/
theorem effStateRequest_eq (served : dictServed s = true) {v : BitVec 8} (known : v.toNat ≤ 3) :
    effStateRequest v s = (pstateReq v.toNat s).2 := by
  rw [effStateRequest, dictSet_plain (r := ⟨0x1100, 0, .u8, .wo, 1, []⟩) served rfl rfl
    (valueOk_of_inRange (by simp [inRange, DType.inType, catLimits, ofLe_byte, known]) (by decide)) (by decide) (by decide),
    dictApply_other (by decide) (by decide)]
  change (pstateReq (ofLe (leBytes 1 v.toNat)) s).2 = _
  rw [ofLe_byte]

theorem pcrPstateReq_of_dict {v : BitVec 8} (known : v.toNat ≤ 3) :
    exec (.pcrPstateReq false (v.truncate 3)) s = .next (pstateReq v.toNat s).2 := by
  have same : (v.truncate 3).toNat = v.toNat := by
    rw [BitVec.truncate_eq_setWidth, BitVec.toNat_setWidth]
    omega
  change Outcome.next (effPstateReq (v.truncate 3).toNat false s) = _
  rw [same]
  rfl

theorem writeOther_epoch (b : Bytes) : writeOther 0x2402 b s = (0, adoptEpoch (ofLe b) s) := rfl

theorem effEpoch_eq (served : dictServed s = true) (v : BitVec 64) : effEpoch v s = adoptEpoch v.toNat s := by
  have value : ofLe (leBytes 8 v.toNat) = v.toNat := ofLe_leBytes_of_lt (by exact v.isLt)
  rw [effEpoch, dictSet_plain (r := ⟨0x2402, 0, .u64, .rw, 1, []⟩) served rfl (by simp [DType.fits, leBytes_length])
    (valueOk_of_inRange (by simp [inRange, DType.inType, catLimits]) (by decide)) (by decide) (by decide),
    dictApply_other (by decide) (by decide)]
  dsimp only
  rw [writeOther_epoch, value]

theorem effAddress_eq (served : dictServed s = true) (v : BitVec 8) : effAddress v s = (writeRwp 0x2400 0 (leBytes 1 v.toNat) s).2 := by
  rw [effAddress, dictSet_plain (r := ⟨0x2400, 0, .u8, .rwp, 1, leBytes 1 255⟩) served rfl rfl
    (valueOk_of_inRange (by simp [inRange, DType.inType, catLimits]) (by decide)) (by decide) (by decide)]
  rfl

theorem effRoutingTable_eq (served : dictServed s = true) {b : Bytes} (whole : b.length = 1024) :
    effRoutingTable b s = (loadTable b s).2 := by
  rw [effRoutingTable, dictSet_plain (r := ⟨0x2411, 0, .blob 1024, .rw, 1, []⟩) served rfl (by simp [DType.fits, whole])
    (valueOk_of_inRange (by simp [inRange, DType.inType, catLimits]) (by decide)) (by decide) (by decide),
    dictApply_other (by decide) (by decide)]
  rfl

theorem effRoleWrite_eq (served : dictServed s = true) {v : BitVec 8} (known : v.toNat ≤ 2) :
    effRoleWrite v s = (pairRoleWrite v.toNat s).2 := by
  rw [effRoleWrite, dictSet_plain (r := ⟨0x2420, 0, .u8, .rwp, 1, leBytes 1 0⟩) served rfl rfl
    (valueOk_of_inRange (by simp [inRange, DType.inType, catLimits, ofLe_byte, known]) (by decide)) (by decide) (by decide)]
  change (pairRoleWrite (ofLe (leBytes 1 v.toNat)) s).2 = _
  rw [ofLe_byte]

theorem effResetRequest_eq (served : dictServed s = true) {v : BitVec 8} (known : v.toNat = 1 ∨ v.toNat = 2) :
    effResetRequest v s = if v.toNat = 2 then coldReset 2 s else requestCoreReset 2 s := by
  rw [effResetRequest, dictSet_of_row (r := ⟨0x5001, 0, .u8, .wo, 1, []⟩) served rfl rfl
    (valueOk_of_inRange (by simp [inRange, DType.inType, catLimits, ofLe_byte]; omega) (by decide)),
    dictApply_other (by decide) (by decide), if_pos (by rfl)]
  change (if ofLe (leBytes 1 v.toNat) = 2 then _ else _) = _
  rw [ofLe_byte]
  rfl

theorem effOosClear_eq (served : dictServed s = true) : effOosClear s = clearOos s := by
  rw [effOosClear, dictSet_plain (r := ⟨0x5022, 0, .bool, .rw, 1, []⟩) served rfl rfl
    (valueOk_of_inRange (by decide) (by decide)) (by decide) (by decide), dictApply_other (by decide) (by decide)]
  rfl

theorem effRevokeKey_eq (served : dictServed s = true) {v : BitVec 8} (known : v.toNat ≤ 3) :
    effRevokeKey v s = (revokeKey v.toNat s).2 := by
  rw [effRevokeKey, dictSet_plain (r := ⟨0x6050, 0, .u8, .wo, 2, []⟩) served rfl rfl
    (valueOk_of_inRange (by simp [inRange, DType.inType, catLimits, ofLe_byte, known]) (by decide)) (by decide) (by decide),
    dictApply_other (by decide) (by decide)]
  change (revokeKey (ofLe (leBytes 1 v.toNat)) s).2 = _
  rw [ofLe_byte]

theorem effChassisKey_eq (served : dictServed s = true) (key : BitVec 256) (ready : keyServes s false = true) :
    effChassisKey key s = installChassis key s := by
  rw [effChassisKey, dictSet_plain (r := ⟨0x6010, 0, .blob 32, .wo, 2, []⟩) served rfl (by simp [DType.fits, keyBytes, leBytes_length])
    (valueOk_of_inRange (by simp [inRange, DType.inType, catLimits]) (by decide)) (by decide) (by decide),
    dictApply_other (by decide) (by decide)]
  change (chassisWrite (keyBytes key) s).2 = _
  rw [chassisWrite, if_neg (by simp [ready]), keyOf_keyBytes]

theorem effSetTime_eq (served : dictServed s = true) {b : Bytes} (whole : b.length = 10) (valid : timeOk b = true) :
    effSetTime b s = setTime b s := by
  rw [effSetTime, dictSet_plain (r := ⟨0x4001, 0, .time, .wo, 1, []⟩) served rfl (by simp [DType.fits, whole])
    (valueOk_of_inRange (by simp [inRange, DType.inType, catLimits, valid]) (by decide)) (by decide) (by decide),
    dictApply_other (by decide) (by decide)]
  rfl

theorem sextN_toNat (n : BitVec 32) : sextN n.toNat 32 = n.toInt := by
  have small := n.isLt
  rw [sextN, BitVec.toInt]
  split <;> split <;> omega

theorem effSubShift_eq (served : dictServed s = true) {n : BitVec 32} (some' : n ≠ 0) (range : n.toInt.natAbs ≤ 32767) :
    effSubShift n s = (rtcShiftNow n.toInt s).2 := by
  have value : ofLe (leBytes 4 n.toNat) = n.toNat := ofLe_leBytes_of_lt (by exact n.isLt)
  have nonzero : n.toInt ≠ 0 := fun zero => some' (BitVec.toInt_inj.mp zero)
  rw [effSubShift, dictSet_plain (r := ⟨0x4003, 0, .i32, .wo, 1, []⟩) served rfl rfl
    (valueOk_of_inRange (by simp [inRange, DType.inType, catLimits, value, sextN_toNat, nonzero, range]) (by decide))
    (by decide) (by decide), dictApply_other (by decide) (by decide)]
  change (rtcShiftNow (sextN (ofLe (leBytes 4 n.toNat)) 32) s).2 = _
  rw [value, sextN_toNat]

/-- A set time is in the clock, and Last Set Time has it (17 R432). -/
theorem rtc_setTime {b : Bytes} (open' : s.rtc.locked = false) : (setTime b s).rtc = { s.rtc with
    setV := BitVec.ofNat 80 (ofLe b), t := calOf b, shift := none, alm0 := almTick (calOf b) s.rtc.alm0,
    alm1 := almTick (calOf b) s.rtc.alm1 } := by
  rw [setTime, if_neg (by simp [open']), persist, (journalWrite_keeps _ _ _ _).2.2, rtcSetNow, if_neg (by simp [open'])]
  rfl

end

/-- The rows that are one object of the dictionary: each reaches its own effect, which is the model's own for that object. -/
theorem dictionaryObjects_act : DictionaryObjectsAct := by
  intro s wf served
  refine ⟨fun v known => ?_, fun v p idle is known low p0 stage loss free quiet => ?_, fun v => ?_, fun v manual => ?_,
    fun b whole good => ?_, fun v known change => ⟨fun alone => ?_, fun live => ?_⟩, ?_, fun quiet => ?_, ?_,
    fun v known running left => ?_, fun k ready => ?_, fun open' => ?_, fun locked => ?_, fun b whole valid open' => ?_,
    fun n some' range open' none' => ?_⟩
  · exact (congrArg Outcome.next (effStateRequest_eq served known)).trans (pcrPstateReq_of_dict known).symm
  · refine ((congrArg Outcome.next (effStateRequest_eq served known)).trans (pcrPstateReq_of_dict known).symm).trans ?_
    have same : (v.truncate 3).toNat = v.toNat := by rw [BitVec.truncate_eq_setWidth, BitVec.toNat_setWidth]; omega
    obtain ⟨-, go, -⟩ := powerStatesMove.1 s false (v.truncate 3) p idle (by simp) (by rw [same]; exact is) (by omega)
    exact (go low p0 stage loss free).1 quiet
  · exact ⟨_, congrArg Outcome.next (effEpoch_eq served v), adoptEpoch_eq v⟩
  · exact ⟨_, congrArg Outcome.next (effAddress_eq served v), writeRwp_address wf manual v⟩
  · have entries : ∀ d < 255, (tget 0x00FF0FFF (loadedTable b 255) d).toNat = leAt b (4 * d) 4 := fun d => tget_loadedTable b
    have does := (effRoutingTable_eq served whole).trans (congrArg Prod.snd (loadTable_of_good good))
    generalize loadedTable b 255 = table at entries does
    exact ⟨_, congrArg Outcome.next does, rfl, entries⟩
  · obtain ⟨st, role⟩ := setPairRole_spec wf v
    refine ⟨_, congrArg Outcome.next ((effRoleWrite_eq served known).trans
      (congrArg Prod.snd (pairRoleWrite_unbound known change alone))), ?_, fun done => ?_⟩
    · dsimp only
      split
      · exact (congrArg Pair.st ((within_lsaSync _).keeps State.pair fun _ => rfl)).trans (st.trans alone)
      · exact st.trans alone
    · obtain ⟨code, primary, value⟩ := role done
      dsimp only
      rw [if_pos code]
      exact ⟨(congrArg Pair.role ((within_lsaSync _).keeps State.pair fun _ => rfl)).trans primary,
        ((within_lsaSync _).keeps pairRole fun _ => rfl).trans value⟩
  · exact ⟨_, congrArg Outcome.next ((effRoleWrite_eq served known).trans (congrArg Prod.snd (pairRoleWrite_waits known change live))),
      mirSend_pair _ _ _ _ _ _ _⟩
  · exact congrArg Outcome.next ((effResetRequest_eq served (.inr rfl)).trans (if_pos rfl))
  · have does : requestCoreReset 2 s = startLoss 0 2 s := if_neg (not_not_intro quiet)
    obtain ⟨loss, -, -, core, -, -⟩ := startLoss_loss (s := s) 0 2
    exact ⟨_, congrArg Outcome.next ((effResetRequest_eq served (.inl rfl)).trans ((if_neg (by decide)).trans does)), loss, core⟩
  · exact ⟨_, congrArg Outcome.next (effOosClear_eq served), (within_lsaSync _).keeps State.rcv fun _ => rfl⟩
  · have does : revokeKey v.toNat s = (0, { s with flash.revoked := s.flash.revoked ||| BitVec.ofNat 4 (2 ^ v.toNat) }) := by
      refine if_neg ?_
      have full : (s.flash.revoked ||| BitVec.ofNat 4 (2 ^ v.toNat)).toNat ≠ 15 := fun all =>
        left (BitVec.eq_of_toNat_eq (all.trans rfl))
      rw [Bool.or_eq_true, decide_eq_true_eq, decide_eq_true_eq]
      exact fun refused => refused.elim running full
    exact congrArg Outcome.next ((effRevokeKey_eq served known).trans (congrArg Prod.snd does))
  · exact ⟨_, congrArg Outcome.next (effChassisKey_eq served k ready), rfl⟩
  · refine congrArg Outcome.next ?_
    rw [effCurrentTime, if_pos served, rtcCaptureNow, if_neg (by simp [open'])]
    rfl
  · refine congrArg Outcome.next ?_
    rw [effCurrentTime, if_pos served, rtcCaptureNow, if_pos locked]
    rfl
  · exact ⟨_, congrArg Outcome.next (effSetTime_eq served whole valid), rtc_setTime open'⟩
  · have does : rtcShiftNow n.toInt s = (0, { s with rtc := { s.rtc with shift := some n.toInt } }) := by
      rw [rtcShiftNow, if_neg (by simp [open']), if_neg (by simp [none'])]
    exact congrArg Outcome.next ((effSubShift_eq served some' range).trans (congrArg Prod.snd does))

/-! ## Blank flash and whole writes (16 R403, R405) -/

theorem memWrite_append (d : Byte) (x y : Bytes) (m : Tab Byte) (a : Nat) :
    memWrite d m a (x ++ y) = memWrite d (memWrite d m a x) (a + x.length) y := by
  induction x generalizing m a with
  | nil => rfl
  | cons b x ih =>
    rw [List.cons_append, memWrite, ih, memWrite, List.length_cons, show a + 1 + x.length = a + (x.length + 1) by omega]

theorem value_of_mem {d v : Byte} {l : Tab Byte} {k : Nat} (form : tabWf d l = true) (mem : (k, v) ∈ l) : v ≠ d := by
  suffices all : ∀ lo, tabWfFrom d lo l = true → v ≠ d from all none form
  clear form
  induction l with
  | nil => exact absurd mem (by simp)
  | cons e l ih =>
    obtain ⟨k', v'⟩ := e
    intro lo form
    obtain ⟨-, value, rest⟩ := (tabWfFrom_cons d lo k' v' l).mp form
    rcases List.mem_cons.mp mem with same | later
    · rw [(Prod.mk.inj same).2]
      exact value
    · exact ih later _ rest

/-- A rising list of entries that all lie at or above `a` reads blank where it has no entry. -/
theorem blank_walkBytes (n a : Nat) (l : Tab Byte) (form : tabWf 0xFF l = true) (within' : ∀ e ∈ l, a ≤ e.1 ∧ e.1 < a + n) :
    blankB (walkBytes 0xFF n a l) = true ↔ l = [] := by
  constructor
  · intro blank
    cases l with
    | nil => rfl
    | cons e l =>
      exfalso
      obtain ⟨k, v⟩ := e
      obtain ⟨low, high⟩ := within' (k, v) (by simp)
      have value : v ≠ 0xFF := by
        rw [tabWf, tabWfFrom_cons] at form
        exact form.2.1
      clear form within'
      induction n generalizing a with
      | zero => exact absurd high (by simp at low ⊢; omega)
      | succ n ih =>
        rw [walkBytes] at blank
        split at blank
        · rw [blankB, List.all_cons, Bool.and_eq_true, decide_eq_true_eq] at blank
          exact value blank.1
        · next other =>
          rw [blankB, List.all_cons, Bool.and_eq_true] at blank
          exact ih (a + 1) blank.2 (by omega) (by omega)
  · rintro rfl
    clear form within'
    induction n generalizing a with
    | zero => rfl
    | succ n ih =>
      rw [walkBytes, blankB, List.all_cons]
      exact ih (a + 1)

section
variable {s : State} {b : Bool} {a n : Nat}

/-- A range of a bank reads blank where every byte of it is erased. -/
theorem blank_flashRead (form : tabWf 0xFF (bankOf s b) = true) :
    blankB (flashRead s b a n) = true ↔ ∀ j, a ≤ j → j < a + n → tget 0xFF (bankOf s b) j = 0xFF := by
  rw [flashRead, blank_walkBytes n a _ (tabWf_filter _ _ _ form) (fun e mem => by
      have inside := (List.mem_filter.mp mem).2
      rw [Bool.and_eq_true, decide_eq_true_eq, decide_eq_true_eq] at inside
      exact inside),
    List.filter_eq_nil_iff]
  constructor
  · intro none' j low high
    by_contra value
    exact none' _ (mem_of_tget value) (by simp [low, high])
  · rintro blank ⟨k, v⟩ mem inside
    rw [Bool.and_eq_true, decide_eq_true_eq, decide_eq_true_eq] at inside
    exact value_of_mem form mem ((tget_of_mem form mem).symm.trans (blank k inside.1 inside.2))

theorem setBank_setBank (x y : Tab Byte) (s : State) : setBank b x (setBank b y s) = setBank b x s := by cases b <;> rfl

/-- The pages of an update go one after the other into erased flash (16 R412). -/
theorem updPages_of_blank (k : Nat) (d : Bytes) (whole : d.length = 256 * k) (form : tabWf 0xFF (bankOf s b) = true)
    (blank : ∀ j, a ≤ j → j < a + d.length → tget 0xFF (bankOf s b) j = 0xFF) :
    updPages b a (chunksN 256 k d) s = (0, setBank b (memWrite 0xFF (bankOf s b) a d) s) := by
  induction k generalizing d a s with
  | zero =>
    obtain rfl : d = [] := List.eq_nil_of_length_eq_zero (by omega)
    rw [chunksN, updPages, memWrite]
    cases b <;> rfl
  | succ k ih =>
    have first : (d.take 256).length = 256 := by rw [List.length_take]; omega
    have rest : (d.drop 256).length = 256 * k := by rw [List.length_drop]; omega
    have erased : blankB (flashRead s b a (d.take 256).length) = true :=
      (blank_flashRead form).2 fun j low high => blank j low (by omega)
    rw [chunksN, updPages, flashProgram, if_pos erased]
    dsimp only
    have form' : tabWf 0xFF (bankOf (flashPut b a (d.take 256) s) b) = true := by
      rw [flashPut, bankOf_setBank]
      exact tabWf_memWrite _ _ _ _ form
    rw [ih (s := flashPut b a (d.take 256) s) (a := a + 256) (d.drop 256) rest form' ?_, flashPut, setBank_setBank, bankOf_setBank]
    · have split' : memWrite 0xFF (bankOf s b) a d = memWrite 0xFF (memWrite 0xFF (bankOf s b) a (d.take 256)) (a + 256) (d.drop 256) := by
        conv_lhs => rw [← List.take_append_drop 256 d, memWrite_append, first]
      rw [split']
    · intro j low high
      rw [flashPut, bankOf_setBank, tget_memWrite _ _ _ _ _ form, if_neg (by omega)]
      exact blank j (by omega) (by omega)

end

/-! ## Updates and settings (16 R412 to R414, R422) -/

section
variable {s : State}

/-- A write of Update Control (16 R412). -/
theorem dictSet_updControl (served : dictServed s = true) {n : Nat} (known : 1 ≤ n ∧ n ≤ 3) :
    dictSet 0x7020 (leBytes 1 n) s = (updControl n s).2 := by
  have value : ofLe (leBytes 1 n) = n := ofLe_leBytes_of_lt (n := 1) (by omega)
  rw [dictSet_plain (r := ⟨0x7020, 0, .u8, .wo, 1, []⟩) served rfl rfl
    (valueOk_of_inRange (by simp [inRange, DType.inType, catLimits, value, known]) (by decide)) (by decide) (by decide),
    dictApply_other (by decide) (by decide)]
  change (updControl (ofLe (leBytes 1 n)) s).2 = _
  rw [value]

theorem effConfirm_eq (served : dictServed s = true) : effConfirm s = (confirmImage s).2 := by
  rw [effConfirm, dictSet_plain (r := ⟨0x7010, 0, .bool, .wo, 1, []⟩) served rfl rfl
    (valueOk_of_inRange (by decide) (by decide)) (by decide) (by decide), dictApply_other (by decide) (by decide)]
  rfl

theorem effUpdateData_eq (served : dictServed s = true) {d : Bytes} (whole : d.length = 4096) : effUpdateData d s = (updData d s).2 := by
  rw [effUpdateData, dictSet_plain (r := ⟨0x7022, 0, .blob 4096, .wo, 1, []⟩) served rfl (by simp [DType.fits, whole])
    (valueOk_of_inRange (by simp [inRange, DType.inType, catLimits]) (by decide)) (by decide) (by decide),
    dictApply_other (by decide) (by decide)]
  rfl

theorem effRestore_eq (served : dictServed s = true) : effRestore s = (restoreDefaults s).2 := by
  rw [effRestore, dictSet_plain (r := ⟨0x8005, 0, .u8, .wo, 1, []⟩) served rfl rfl
    (valueOk_of_inRange (by decide) (by decide)) (by decide) (by decide), dictApply_other (by decide) (by decide)]
  rfl

/-- A confirmed image is no longer on trial (16 R414). -/
theorem confirmImage_spec (trial : s.pwr.trial = true) :
    (confirmImage s).2.pwr.trial = false ∧ (confirmImage s).2.flash.trialBoots = 0 := by
  have raised (u : State) : (raiseSvn u).pwr.trial = u.pwr.trial ∧ (raiseSvn u).flash.trialBoots = u.flash.trialBoots :=
    ⟨(within_raiseSvn u).keeps (·.pwr.trial) fun _ => rfl, (within_raiseSvn u).keeps (·.flash.trialBoots) fun _ => rfl⟩
  have committed (g : Nat) (val : CatRow → Nat → Bytes) (u : State) : (commitGen g val u).2.pwr.trial = u.pwr.trial ∧
      (commitGen g val u).2.flash.trialBoots = u.flash.trialBoots :=
    ⟨(within_commitGen u g val).keeps (·.pwr.trial) fun _ => rfl, (within_commitGen u g val).keeps (·.flash.trialBoots) fun _ => rfl⟩
  have erased (p : Nat → Bool) (u : State) : (eraseGens p u).pwr.trial = u.pwr.trial ∧
      (eraseGens p u).flash.trialBoots = u.flash.trialBoots :=
    ⟨(within_eraseGens u p).keeps (·.pwr.trial) fun _ => rfl, (within_eraseGens u p).keeps (·.flash.trialBoots) fun _ => rfl⟩
  rw [confirmImage, if_neg (by simp [trial])]
  dsimp only
  split
  · rw [(raised _).1, (raised _).2]
    exact ⟨rfl, rfl⟩
  · rw [(raised _).1, (raised _).2]
    split
    · rw [(erased ..).1, (erased ..).2, (committed ..).1, (committed ..).2]
      exact ⟨rfl, rfl⟩
    · rw [(committed ..).1, (committed ..).2]
      exact ⟨rfl, rfl⟩

theorem flashGo_spec (r : FlashRun) (s : State) :
    (flashGo r s).flash.updOpen = s.flash.updOpen ∧ (flashGo r s).flash.updStatus = s.flash.updStatus ∧
    (flashGo r s).flash.upd = s.flash.upd ∧ (flashGo r s).flash.busy = true ∧ (flashGo r s).flash.run = some r ∧
    (flashGo r s).flash.bank0 = s.flash.bank0 ∧ (flashGo r s).flash.bank1 = s.flash.bank1 := by
  unfold flashGo flashAim
  dsimp only
  split <;> exact ⟨rfl, rfl, rfl, rfl, rfl, rfl, rfl⟩

/-- The state as BEGIN makes its first erase due (16 R412). -/
def updBeginning (s : State) : State := (updStep 1 { s with flash.updOpen := false, flash.upd := some (.erasing 385) }).2

/-- BEGIN starts the erase of the status area (16 R412). -/
theorem updBegin_spec (trial : s.pwr.trial = false) (idle : s.flash.busy = false) :
    (updBegin s).2.flash.updOpen = false ∧ (updBegin s).2.flash.updStatus = 1 ∧ (updBegin s).2.flash.upd = some (.erasing 385) ∧
    (updBegin s).2.flash.busy = true ∧ (updBegin s).2.flash.run =
      some { upd := true, op := 3, bank := otherBank s, addr := 0x2000000, len := 0, data := [] } ∧
    (updBegin s).2.flash.bank0 = s.flash.bank0 ∧ (updBegin s).2.flash.bank1 = s.flash.bank1 := by
  have starts (n : Nat) (u : State) (due : u.flash.upd = some (.erasing (n + 1))) (idle : u.flash.busy = false) : updErase u =
      flashGo { upd := true, op := 3, bank := otherBank u, addr := updBlock (n + 1), len := 0, data := [] } u := by
    rw [updErase, due]
    exact if_neg (by simp [idle])
  have does : updBegin s = (0, updErase (updBeginning s)) := if_neg (by simp [trial])
  have due : (updBeginning s).flash.upd = some (.erasing (384 + 1)) := by rw [updBeginning]; rfl
  rw [does, starts 384 (updBeginning s) due (by exact idle)]
  exact flashGo_spec _ (updBeginning s)

/-- The end of a verification gives the verdict (16 R412, R413). -/
theorem updVerified_spec (s : State) : (updVerified s).flash.upd = none ∧
    (updVerified s).flash.updStatus = (if verifyImage s (otherBank s) then 0 else 0x0904) ∧
    (updVerified s).flash.updOpen = s.flash.updOpen ∧
    (verifyImage s (otherBank s) = false → (updVerified s).flash.bank0 = s.flash.bank0 ∧ (updVerified s).flash.bank1 = s.flash.bank1) := by
  have same : verifyImage { s with flash.upd := none } (otherBank s) = verifyImage s (otherBank s) := rfl
  have marked (b : Bool) (n : Nat) (u : State) : (putMarker b 1 n u).flash.upd = u.flash.upd ∧
      (putMarker b 1 n u).flash.updOpen = u.flash.updOpen :=
    ⟨(within_putMarker u b 1 n).keeps (·.flash.upd) fun _ => rfl, (within_putMarker u b 1 n).keeps (·.flash.updOpen) fun _ => rfl⟩
  unfold updVerified
  dsimp only
  rw [same]
  cases verifyImage s (otherBank s)
  · rw [if_neg (by simp)]
    have flash (u : State) : (badImage u).flash = u.flash := (within_badImage u).keeps State.flash fun _ => rfl
    rw [flash]
    exact ⟨rfl, rfl, rfl, fun _ => ⟨rfl, rfl⟩⟩
  · rw [if_pos rfl]
    have mark := marked (otherBank s) (runSeq { s with flash.upd := none } + 1) { s with flash.upd := none }
    generalize putMarker (otherBank s) 1 (runSeq { s with flash.upd := none } + 1) { s with flash.upd := none } = u at mark ⊢
    exact ⟨mark.1, rfl, mark.2, fun bad => absurd bad (by simp)⟩

end
/-- The objects' values stored one after the other. -/
def storeAll (val : CatRow → Nat → Bytes) (l : List (CatRow × Nat)) (s : State) : State :=
  l.foldl (fun s o => storeVal o.1 o.2 (val o.1 o.2) s) s

/-- An object that takes its default holds no entry. -/
theorem val_storeAll (val : CatRow → Nat → Bytes) (k : Nat) (l : List (CatRow × Nat))
    (dflt : ∀ o ∈ l, o.1.index * 256 + o.2 = k → val o.1 o.2 = o.1.dflt) (s : State) (form : tabWf [] s.dict.val = true)
    (due : tget [] s.dict.val k = [] ∨ ∃ o ∈ l, o.1.index * 256 + o.2 = k) : tget [] (storeAll val l s).dict.val k = [] := by
  induction l generalizing s with
  | nil => exact due.elim id (fun ⟨_, mem, _⟩ => absurd mem (by simp))
  | cons o l ih =>
    refine ih (fun x mem => dflt x (List.mem_cons_of_mem o mem)) (storeVal o.1 o.2 (val o.1 o.2) s) (tabWf_tput _ _ _ _ form) ?_
    have stored : tget [] (storeVal o.1 o.2 (val o.1 o.2) s).dict.val k =
        if k = o.1.index * 256 + o.2 then (if val o.1 o.2 = o.1.dflt then [] else val o.1 o.2) else tget [] s.dict.val k :=
      tget_tput _ _ _ _ _ form
    by_cases here : k = o.1.index * 256 + o.2
    · exact .inl (stored.trans (by rw [if_pos here, if_pos (dflt o (by simp) here.symm)]))
    · rcases due with none' | ⟨x, mem, is⟩
      · exact .inl (stored.trans (by rw [if_neg here, none']))
      · rcases List.mem_cons.mp mem with rfl | later
        · exact absurd is.symm here
        · exact .inr ⟨x, later, is⟩

/-- The value that Restore Defaults gives an object (16 R422). -/
def restoredVal (s : State) (r : CatRow) (k : Nat) : Bytes := if r.priv = 2 || r.acc ≠ .rwp then storedVal s r k else r.dflt

/-- The sweep timeout is one of the settings that are restored. -/
theorem sweep_is_restored : (∀ o ∈ journalObjs, o.1.index * 256 + o.2 = 0x5010 * 256 → o.1.priv ≠ 2 ∧ o.1.acc = .rwp) ∧
    ∃ o ∈ journalObjs, o.1.index * 256 + o.2 = 0x5010 * 256 := by decide +kernel

section
variable {s : State}

/-- Outside a trial the defaults are committed whole, or nothing is done (16 R422). -/
theorem restoreJournal_cases (trial : s.pwr.trial = false) :
    ((restoreJournal s).1 ≠ 0 → (restoreJournal s).2 = s) ∧
    ((restoreJournal s).1 = 0 → ∃ u, u.dict.val = s.dict.val ∧ (restoreJournal s).2 = storeAll (restoredVal s) journalObjs u) := by
  have is : restoreJournal s = if (commitGen (committedGen s + 1) (restoredVal s) s).1 = 0 then
      (0, storeAll (restoredVal s) journalObjs
        (eraseGens (fun x => decide (x < committedGen s + 1)) (commitGen (committedGen s + 1) (restoredVal s) s).2))
      else ((commitGen (committedGen s + 1) (restoredVal s) s).1, s) := if_neg (by simp [trial])
  have kept : (commitGen (committedGen s + 1) (restoredVal s) s).2.dict.val = s.dict.val :=
    (within_commitGen ..).keeps (·.dict.val) fun _ => rfl
  rw [is]
  generalize commitGen (committedGen s + 1) (restoredVal s) s = a at kept
  by_cases good : a.1 = 0
  · rw [if_pos good]
    exact ⟨fun bad => absurd rfl bad, fun _ => ⟨_, ((within_eraseGens ..).keeps (·.dict.val) fun _ => rfl).trans kept, rfl⟩⟩
  · rw [if_neg good]
    exact ⟨fun _ => rfl, fun done => absurd done good⟩

theorem param_of_val {t : State} (same : t.dict.val = s.dict.val) (index d : Nat) : param t index d = param s index d := by
  rw [param, same]
  rfl

/-- Restore Defaults gives the sweep timeout its default, where the defaults are made durable (16 R422). -/
theorem param_restoreDefaults (wf : Tables.wf s = true) (trial : s.pwr.trial = false) :
    param (restoreDefaults s).2 0x5010 50 = if (restoreJournal s).1 = 0 then 50 else param s 0x5010 50 := by
  obtain ⟨failed, done⟩ := restoreJournal_cases trial
  rw [restoreDefaults]
  by_cases good : (restoreJournal s).1 = 0
  · rw [if_pos good, if_pos good]
    obtain ⟨u, val, is⟩ := done good
    have applied (l : List (CatRow × Nat)) (x : State) : (l.foldl (fun s o => applyRwp o.1.index o.2 s) x).dict.val = x.dict.val := by
      induction l generalizing x with
      | nil => rfl
      | cons o l ih => exact (ih _).trans ((within_applyRwp x o.1.index o.2).keeps (·.dict.val) fun _ => rfl)
    rw [param_of_val (applied _ _), is, param]
    have form : tabWf [] u.dict.val = true := by rw [val]; exact ((formed_iff s).2 wf).val
    rw [val_storeAll (restoredVal s) (0x5010 * 256) journalObjs (fun o mem key => ?_) u form (.inr sweep_is_restored.2)]
    obtain ⟨priv, acc⟩ := sweep_is_restored.1 o mem key
    exact if_neg (by simp [priv, acc])
  · rw [if_neg good, if_neg good, failed good]

end

/-- The state with 4,096 bytes of an update stored (16 R412). -/
def updStored (d : Bytes) (s : State) : State :=
  let t := setBank (otherBank s) (memWrite 0xFF (bankOf s (otherBank s)) s.flash.updOff.toNat d) s
  { t with flash.updOff := BitVec.ofNat 32 (s.flash.updOff.toNat + 4096), flash.updStatus := 0 }

theorem bankOf_updOff (t : State) (off : BitVec 32) (status : BitVec 16) (b : Bool) :
    bankOf { t with flash.updOff := off, flash.updStatus := status } b = bankOf t b := rfl

theorem updStored_spec (d : Bytes) (s : State) :
    (updStored d s).flash.updStatus = 0 ∧ (updStored d s).flash.updOff = s.flash.updOff + 4096 ∧
    bankOf (updStored d s) (otherBank s) = memWrite 0xFF (bankOf s (otherBank s)) s.flash.updOff.toNat d ∧
    bankOf (updStored d s) (!otherBank s) = bankOf s (!otherBank s) := by
  have banks (b : Bool) : bankOf (updStored d s) b =
      bankOf (setBank (otherBank s) (memWrite 0xFF (bankOf s (otherBank s)) s.flash.updOff.toNat d) s) b := bankOf_updOff _ _ _ b
  rw [banks, banks, bankOf_setBank, bankOf_setBank_of_ne _ _ (by simp)]
  refine ⟨rfl, ?_, rfl, rfl⟩
  apply BitVec.eq_of_toNat_eq
  rw [BitVec.toNat_add]
  change (BitVec.ofNat 32 (s.flash.updOff.toNat + 4096)).toNat = _
  rw [BitVec.toNat_ofNat]
  rfl

/-- Update Data is programmed where its pages are erased (16 R412). -/
theorem updData_of_blank {s : State} {d : Bytes} (wf : Tables.wf s = true) (whole : d.length = 4096) (free : s.flash.upd = none)
    (open' : s.flash.updOpen = true) (page : s.flash.updOff.toNat % 4096 = 0) (low : s.flash.updOff.toNat < 0x1800000)
    (blank : blankB (flashRead s (otherBank s) s.flash.updOff.toNat 4096) = true) : updData d s = (0, updStored d s) := by
  have form : tabWf 0xFF (bankOf s (otherBank s)) = true := by
    rw [bankOf]
    split
    · exact ((formed_iff s).2 wf).bank1
    · exact ((formed_iff s).2 wf).bank0
  have pages := updPages_of_blank (s := s) (b := otherBank s) (a := s.flash.updOff.toNat) 16 d whole form (by
    rw [whole]
    exact (blank_flashRead form).1 blank)
  rw [updData, if_neg (by simp [free]), if_neg (by simp [open']), if_neg (by simp [page, low]), pages]
  rfl

/-- Updates and settings: each write of Update Control, Update Data, Confirm Image and Restore Defaults reaches its own step. -/
theorem firmwareObjects_act : FirmwareObjectsAct := by
  intro s wf served
  have awake : mcAwake s = true := by
    rw [dictServed, Bool.and_eq_true] at served
    exact served.1
  have control (n : Nat) (known : 1 ≤ n ∧ n ≤ 3) := dictSet_updControl served known
  have begins (free : s.flash.upd = none) : updControl 1 s = updBegin s := if_neg (by simp [free])
  have finishes (free : s.flash.upd = none) : updControl 2 s = updFinish s := if_neg (by simp [free])
  have aborts (free : s.flash.upd = none) : updControl 3 s = updAbort s := if_neg (by simp [free])
  refine ⟨fun trial => ?_, fun runs => ?_, fun trial free idle => ?_, fun trial free => ?_, fun free => ?_, fun free => ?_,
    fun n last verifying => ?_, fun d whole free open' page low blank => ?_, fun trial => ?_⟩
  · exact ⟨_, congrArg Outcome.next (effConfirm_eq served), confirmImage_spec trial⟩
  · have refused (n : Nat) (known : 1 ≤ n ∧ n ≤ 3) : dictSet 0x7020 (leBytes 1 n) s = s := by
      have busy : updControl n s = (errObjState, s) := if_pos (Option.isSome_iff_ne_none.mpr runs)
      rw [control n known, busy]
    exact ⟨congrArg Outcome.next (refused 1 (by decide)), congrArg Outcome.next (refused 2 (by decide)),
      congrArg Outcome.next (refused 3 (by decide))⟩
  · exact ⟨_, congrArg Outcome.next ((control 1 (by decide)).trans (congrArg Prod.snd (begins free))), updBegin_spec trial idle⟩
  · refine congrArg Outcome.next ((control 1 (by decide)).trans ((congrArg Prod.snd (begins free)).trans ?_))
    change (updBegin s).2 = _
    rw [updBegin, if_pos trial]
    rfl
  · exact ⟨_, congrArg Outcome.next ((control 3 (by decide)).trans (congrArg Prod.snd (aborts free))), rfl, rfl, rfl, rfl⟩
  · refine ⟨(updFinish s).2, congrArg Outcome.next ((control 2 (by decide)).trans (congrArg Prod.snd (finishes free))), ?_⟩
    obtain ⟨upd, status, closed, banks⟩ := updVerified_spec (drawn { s with flash.updOpen := false })
    have image : verifyImage (drawn { s with flash.updOpen := false }) (otherBank (drawn { s with flash.updOpen := false })) =
      verifyImage s (otherBank s) := rfl
    rw [image] at status banks
    rw [updFinish]
    dsimp only
    split
    · next now => exact ⟨closed, fun later => absurd now later, fun _ => ⟨upd, status⟩, banks⟩
    · next later => exact ⟨rfl, fun _ => ⟨rfl, rfl⟩, fun now => absurd now later, fun _ => ⟨rfl, rfl⟩⟩
  · have does : tickUpdate s = updVerified s := by
      rw [tickUpdate, verifying]
      dsimp only
      rw [if_neg (by simp [awake]), if_pos last]
    obtain ⟨upd, status, -⟩ := updVerified_spec s
    rw [does]
    exact ⟨upd, status⟩
  · exact ⟨_, congrArg Outcome.next ((effUpdateData_eq served whole).trans (congrArg Prod.snd
      (updData_of_blank wf whole free open' page low blank))), updStored_spec d s⟩
  · refine ⟨_, congrArg Outcome.next (effRestore_eq served), ?_, param_restoreDefaults wf trial⟩
    exact (within_restoreDefaults s).keeps (·.vb.auth) fun _ => rfl

/-- Settles O48: the writes of one object, and those of an update and of the settings. -/
theorem dictionaryAndFirmwareObjectsAct : Obligations.DictionaryAndFirmwareObjectsAct :=
  ⟨dictionaryObjects_act, firmwareObjects_act⟩

end Sys2Proof.Machine
end

section
/-!
PROOF. The sequencer and the mesh (03 R65 to R68, R83, R87 to R91, 05 R130): the statement fails.
-/
namespace Sys2Proof.Machine
open Host Claims

/-- A WAIT-EVENT on an event that the context does not own, in tile 0, in whose images lanes have failed too: its slot has two
failures to record (03 R463, 02 R43). -/
def twoFailures : State :=
  { pwr.on := 1
    tile := [(0, { part := .running, win := [(0, { st := .executing, desc := leBytes 64 8, hit := some 0x0103, exaFail := some (0x0601, 5) })] })] }

theorem twoFailures_spec : Tables.wf twoFailures = true ∧ executes twoFailures 0 0 8 = true ∧ domOn twoFailures dHOST = true ∧
    (slotOf twoFailures 0 0).hit = some 0x0103 ∧ (slotOf twoFailures 0 0).status = 0 ∧ twoFailures.erq.incoming = [] ∧
    (effWaitEvent 0 0 twoFailures).erq.incoming.length = 2 := by decide +kernel

/-- Refutes O9: a WAIT-EVENT that fails with ERR_NOT_OWNER completes at once, and its completion records the failed lanes of its
images beside it, so two records come in where the statement has one. -/
theorem not_tileSequencerActs : ¬ Obligations.TileSequencerActs := by
  rintro ⟨-, -, -, -, waits, -⟩
  obtain ⟨wf, runs, host, hit, status, none', two⟩ := twoFailures_spec
  obtain ⟨-, -, fails⟩ := waits twoFailures 0 0 wf runs
  obtain ⟨u, e, does, incoming, -⟩ := fails hit status host
  have same : effWaitEvent 0 0 twoFailures = u := Outcome.next.inj does
  rw [← same, none'] at incoming
  rw [incoming] at two
  exact absurd two (by simp)

end Sys2Proof.Machine
end

section
/-!
PROOF. SEND, RECV and REDUCE (03 R80 to R82): the statement fails.
-/
namespace Sys2Proof.Machine
open Host Claims

/-- A root REDUCE of no peers whose group is complete; the window of its tile lists the slot twice. -/
def doubleSlot : State :=
  { tile := [(0, { part := .running, groups := [{ group := 0 }],
                   win := [(0, { st := .executing, desc := leBytes 64 (7 + 2 ^ 128), redDone := some 0 }),
                           (0, { st := .executing, desc := leBytes 64 (7 + 2 ^ 128), redDone := some 0 })] })] }

theorem doubleSlot_spec : executes doubleSlot 0 0 7 = true ∧ bitsAt (slotOf doubleSlot 0 0).desc 16 0 1 = 1 ∧
    (slotOf doubleSlot 0 0).redDone.isSome = true ∧ rootGroup doubleSlot 0 0 = some { group := 0 } ∧
    byteAt (slotOf doubleSlot 0 0).desc 23 = 0 ∧ (slotOf doubleSlot 0 0).waits = [] ∧ (slotOf doubleSlot 0 0).txns = [] ∧
    (slotOf (effReduceRoot 0 0 doubleSlot) 0 0).st = .executing := by decide +kernel

/-- Refutes O11: the clause for REDUCE_ROOT_COMPLETE does not ask for canonical tables. Where the window lists the root's slot twice,
its retirement takes the first entry away, and the second shows the descriptor still in execution. -/
theorem not_tileTransfersAct : ¬ Obligations.TileTransfersAct := by
  rintro ⟨-, -, -, -, -, completes⟩
  obtain ⟨runs, root, due, group, peers, waits, txns, stays⟩ := doubleSlot_spec
  obtain ⟨u, does, -, alone, -⟩ := completes doubleSlot 0 0 { group := 0 } runs root due group (Nat.le_of_eq peers)
  have same : effReduceRoot 0 0 doubleSlot = u := Outcome.next.inj does
  exact (alone rfl waits txns).2 (same ▸ stays)

end Sys2Proof.Machine
end

section
/-!
PROOF. What the window's shared steps leave of a tile that is not idle, whatever the tables' form: its memory, its lanes, and the
other tiles (03 R65 to R67).
-/
namespace Sys2Proof.Machine
open Host Claims

/-- A step of tile `t`, where it is in work, leaves what `f` reads of it, and every other tile. -/
structure Works {β : Type} (f : Tile → β) (t : Nat) (s u : State) : Prop where
  keeps : (tileOf s t).part ≠ .idle →
    (tileOf u t).part ≠ .idle ∧ f (tileOf u t) = f (tileOf s t) ∧ ∀ j ≠ t, tileOf u j = tileOf s j

/-- What a step of the window leaves: memory and lanes. -/
def Windowed (t : Nat) (s u : State) : Prop := Works (fun x => (x.mem, x.exa)) t s u

section
variable {s u v : State} {t : Nat}

/-- A tile in work is not the default one, so its entry is found again whatever the table's form. -/
theorem tileOf_setTile_self {x : Tile} (busy : x.part ≠ .idle) : tileOf (setTile s t x) t = x :=
  tget_tput_self {} x (fun same => busy (same ▸ rfl)) s.tile t

theorem tileOf_setTile_of_ne {x : Tile} (busy : x.part ≠ .idle) {j : Nat} (ne : j ≠ t) : tileOf (setTile s t x) j = tileOf s j :=
  tget_tput_of_ne {} x (fun same => busy (same ▸ rfl)) s.tile t j ne

section
variable {β γ : Type} {f : Tile → β}

theorem Works.refl (f : Tile → β) (t : Nat) (s : State) : Works f t s s := ⟨fun busy => ⟨busy, rfl, fun _ _ => rfl⟩⟩

theorem Works.trans (a : Works f t s u) (b : Works f t u v) : Works f t s v := by
  refine ⟨fun busy => ?_⟩
  obtain ⟨busy', same, others⟩ := a.keeps busy
  obtain ⟨busy'', same', others'⟩ := b.keeps busy'
  exact ⟨busy'', same'.trans same, fun j ne => (others' j ne).trans (others j ne)⟩

/-- What is read of what is left is left. -/
theorem Works.map (a : Works f t s u) (g : β → γ) : Works (fun x => g (f x)) t s u := by
  refine ⟨fun busy => ?_⟩
  obtain ⟨busy', same, others⟩ := a.keeps busy
  exact ⟨busy', congrArg g same, others⟩

theorem Works.of_tile (same : u.tile = s.tile) : Works f t s u := by
  have at' (j : Nat) : tileOf u j = tileOf s j := by rw [tileOf, tileOf, same]
  refine ⟨fun busy => ?_⟩
  rw [at' t]
  exact ⟨busy, rfl, fun j _ => at' j⟩

theorem Works.setTile {x : Tile} (part : (tileOf s t).part ≠ .idle → x.part ≠ .idle) (same : f x = f (tileOf s t)) :
    Works f t s (setTile s t x) := by
  refine ⟨fun busy => ?_⟩
  rw [tileOf_setTile_self (part busy)]
  exact ⟨part busy, same, fun j ne => tileOf_setTile_of_ne (part busy) ne⟩

theorem Works.foldl {α : Type} {g : State → α → State} (h : ∀ s x, Works f t s (g s x)) (l : List α) (s : State) :
    Works f t s (l.foldl g s) := by
  induction l generalizing s with
  | nil => exact .refl f t s
  | cons x l ih => exact (h s x).trans (ih _)

end

end

section
variable (s : State) (t n : Nat)

theorem windowed_setSlot (x : Slot) : Windowed t s (setSlot s t n x) := .setTile id rfl

theorem windowed_begin : Windowed t s (begin t n s) := windowed_setSlot ..

theorem windowed_raise (e : ErrRec) : Windowed t s (raise e s) := .of_tile ((within_raise s e).keeps State.tile fun _ => rfl)

theorem windowed_retire : Windowed t s (retire t n s) := by
  refine .setTile (fun busy => ?_) rfl
  dsimp only
  split
  · exact fun idle => absurd idle (by decide)
  · exact busy

theorem windowed_freeGroup (x : Slot) : Windowed t s (freeGroup t x s) := by
  unfold freeGroup
  split
  · exact .setTile id rfl
  · exact .refl _ t s

theorem windowed_complete : Windowed t s (complete t n s) := by
  unfold complete
  extract_lets x u tl v sigs
  have group : Windowed t s u := windowed_freeGroup s t x
  have failed : Windowed t u v := by
    unfold v
    split
    · exact .refl _ t u
    · exact .setTile id rfl
  refine group.trans (failed.trans ?_)
  split
  · exact windowed_retire v t n
  · exact windowed_setSlot v t n _

theorem windowed_slotFail (e : ErrRec) (quiet : Bool) : Windowed t s (slotFail t n e quiet s) := by
  have set : Windowed t s (if (slotOf s t n).status = 0 then setSlot s t n { slotOf s t n with status := e.code } else s) := by
    split
    · exact windowed_setSlot ..
    · exact .refl _ t s
  unfold slotFail
  dsimp only
  split
  · exact set
  · exact set.trans (windowed_raise ..)

theorem windowed_slotErr (code : Nat) : Windowed t s (slotErr t n code s) := windowed_slotFail ..

theorem windowed_slotTry : Windowed t s (slotTry t n s) := by
  have failed : Windowed t s (exaFailed t n s) := by
    unfold exaFailed
    split
    · exact .refl _ t s
    · exact windowed_slotFail ..
  unfold slotTry
  split
  · exact failed.trans (windowed_complete ..)
  · exact .refl _ t s

/-- The end of a descriptor's execution. -/
theorem windowed_ended : Windowed t s (slotTry t n (begin t n s)) := (windowed_begin s t n).trans (windowed_slotTry ..)

theorem windowed_addLoss (sum : Nat) : Windowed t s (addLoss t n sum s) := by
  unfold addLoss
  exact (windowed_setSlot s t n _).trans (.setTile id rfl)

theorem windowed_laneFail (st : Nat × Nat) : Windowed t s (laneFail t n st s) := by
  unfold laneFail
  split
  · exact .refl _ t s
  · exact windowed_slotFail ..

end

/-! ## Memory and lanes written (03 R62, R63) -/

section
variable {s : State} {t n : Nat}

theorem busy_of_executes {k : Nat} (runs : executes s t n k = true) : (tileOf s t).part ≠ .idle := by
  simp only [executes, Bool.and_eq_true, decide_eq_true_eq] at runs
  rw [runs.2]
  decide

/-- Bytes written one after the other into the memory of a tile in work. -/
theorem tileOf_spWrites {α : Type} (off : α → Nat) (b : α → Bytes) (l : List α) (s : State) (busy : (tileOf s t).part ≠ .idle) :
    tileOf (l.foldl (fun s x => spWrite t (off x) (b x) s) s) t =
      { tileOf s t with mem := l.foldl (fun m x => memWrite 0 m (off x) (b x)) (tileOf s t).mem } ∧
    ∀ j ≠ t, tileOf (l.foldl (fun s x => spWrite t (off x) (b x) s) s) j = tileOf s j := by
  induction l generalizing s with
  | nil => exact ⟨rfl, fun _ _ => rfl⟩
  | cons x l ih =>
    have self : tileOf (spWrite t (off x) (b x) s) t = { tileOf s t with mem := memWrite 0 (tileOf s t).mem (off x) (b x) } :=
      tileOf_setTile_self (by exact busy)
    obtain ⟨here, others⟩ := ih (spWrite t (off x) (b x) s) (by rw [self]; exact busy)
    rw [self] at here
    exact ⟨here, fun j ne => (others j ne).trans (tileOf_setTile_of_ne (by exact busy) ne)⟩

end
/-! ## MATMUL (03 R72, 02 R39) -/

/-- Lanes after images have been added to them one by one (02 R39). -/
def mergedExa (archive clear : Bool) (free : Nat) (l : List (Nat × Lane)) (exa : Tab Lane) : Tab Lane :=
  l.foldl (fun e x => tput Lane.clear e x.1
    ((addLane (if clear then Lane.clear else tget Lane.clear e x.1) x.2).open archive free x.1)) exa

theorem tabWf_mergedExa (archive clear : Bool) (free : Nat) (l : List (Nat × Lane)) (exa : Tab Lane) (form : tabWf Lane.clear exa = true) :
    tabWf Lane.clear (mergedExa archive clear free l exa) = true := by
  induction l generalizing exa with
  | nil => exact form
  | cons x l ih => exact ih _ (tabWf_tput _ _ _ _ form)

/-- Each lane named once has its image added to what it held. -/
theorem tget_mergedExa {archive clear : Bool} {free : Nat} {l : List (Nat × Lane)} (once : (l.map (·.1)).Nodup) (exa : Tab Lane)
    (form : tabWf Lane.clear exa = true) :
    (∀ x ∈ l, tget Lane.clear (mergedExa archive clear free l exa) x.1 =
      (addLane (if clear then Lane.clear else tget Lane.clear exa x.1) x.2).open archive free x.1) ∧
    ∀ k, k ∉ l.map (·.1) → tget Lane.clear (mergedExa archive clear free l exa) k = tget Lane.clear exa k := by
  induction l generalizing exa with
  | nil => exact ⟨fun x mem => absurd mem (by simp), fun _ _ => rfl⟩
  | cons y l ih =>
    rw [List.map_cons, List.nodup_cons] at once
    obtain ⟨fresh, once⟩ := once
    obtain ⟨each', rest⟩ := ih once _ (tabWf_tput _ exa y.1
      ((addLane (if clear then Lane.clear else tget Lane.clear exa y.1) y.2).open archive free y.1) form)
    have at' (k : Nat) : tget Lane.clear (tput Lane.clear exa y.1
        ((addLane (if clear then Lane.clear else tget Lane.clear exa y.1) y.2).open archive free y.1)) k =
        if k = y.1 then (addLane (if clear then Lane.clear else tget Lane.clear exa y.1) y.2).open archive free y.1
        else tget Lane.clear exa k := tget_tput _ _ _ _ _ form
    refine ⟨fun x mem => ?_, fun k other => ?_⟩
    · rcases List.mem_cons.mp mem with rfl | later
      · exact (rest x.1 fresh).trans ((at' x.1).trans (if_pos rfl))
      · have ne : x.1 ≠ y.1 := fun same => fresh (same ▸ List.mem_map_of_mem later)
        refine (each' x later).trans ?_
        rw [at', if_neg ne]
    · rw [List.map_cons, List.mem_cons, not_or] at other
      exact (rest k other.2).trans ((at' k).trans (if_neg other.1))

section
variable {s : State} {t n : Nat}

theorem tileOf_mergeLanes (archive clear : Bool) (l : List (Nat × Lane)) (busy : (tileOf s t).part ≠ .idle) :
    tileOf (mergeLanes t archive clear l s) t = { tileOf s t with exa := mergedExa archive clear s.free l (tileOf s t).exa } ∧
    ∀ j ≠ t, tileOf (mergeLanes t archive clear l s) j = tileOf s j := by
  unfold mergeLanes
  change tileOf (l.foldl _ s) t = _ ∧ ∀ j ≠ t, tileOf (l.foldl _ s) j = _
  induction l generalizing s with
  | nil => exact ⟨rfl, fun _ _ => rfl⟩
  | cons x l ih =>
    obtain ⟨lane, is⟩ : ∃ a, a = (addLane (if clear then Lane.clear else laneOf s t x.1) x.2).open archive s.free x.1 := ⟨_, rfl⟩
    have self : tileOf (setLane t x.1 lane s) t = { tileOf s t with exa := tput Lane.clear (tileOf s t).exa x.1 lane } :=
      tileOf_setTile_self (by exact busy)
    obtain ⟨here, others⟩ := ih (s := setLane t x.1 lane s) (by rw [self]; exact busy)
    rw [self] at here
    rw [List.foldl_cons]
    dsimp only
    rw [← is]
    refine ⟨here.trans ?_, fun j ne => (others j ne).trans (tileOf_setTile_of_ne (by exact busy) ne)⟩
    subst is
    rfl

/-- Rows of at most 64 lanes hold each lane once. -/
theorem nodup_blockLanes {row0 m k : Nat} (narrow : k ≤ 64) : (blockLanes row0 m k).Nodup := by
  rw [blockLanes, List.nodup_flatMap]
  refine ⟨fun i _ => (List.nodup_range).map fun a b same => by simpa using same, ?_⟩
  refine List.Pairwise.imp_of_mem ?_ (List.pairwise_lt_range (n := m))
  intro a b _ _ less x inA inB
  obtain ⟨j, jlt, rfl⟩ := List.mem_map.mp inA
  obtain ⟨j', jlt', same⟩ := List.mem_map.mp inB
  rw [List.mem_range] at jlt jlt'
  have : 64 * (row0 + a) + 64 ≤ 64 * (row0 + b) := by omega
  omega

theorem keys_matmulImages (s : State) (t : Nat) (f : Matmul) : (matmulImages s t f).map (·.1) = blockLanes f.row0 f.m f.n := by
  rw [matmulImages, List.map_map, blockLanes, List.map_flatMap]
  refine List.flatMap_congr fun i _ => ?_
  rw [List.map_map]
  rfl

/-- The lanes and the memory of a tile after a MATMUL. -/
theorem matmul_leaves (runs : executes s t n 1 = true) : (tileOf (effMatmul t n s) t).mem = (tileOf s t).mem ∧
    (tileOf (effMatmul t n s) t).exa = mergedExa (archiveTile s t) (matmulOf (slotOf s t n).desc).clear s.free
      (matmulImages s t (matmulOf (slotOf s t n).desc)) (tileOf s t).exa ∧
    ∀ j ≠ t, tileOf (effMatmul t n s) j = tileOf s j := by
  have busy := busy_of_executes runs
  obtain ⟨merged, others⟩ := tileOf_mergeLanes (archiveTile s t) (matmulOf (slotOf s t n).desc).clear
    (matmulImages s t (matmulOf (slotOf s t n).desc)) busy
  rw [effMatmul, if_pos runs]
  dsimp only
  generalize mergeLanes t _ _ _ s = u at merged others ⊢
  have busy' : (tileOf u t).part ≠ .idle := by rw [merged]; exact busy
  obtain ⟨-, same, kept⟩ := (((windowed_addLoss u t n _).trans (windowed_laneFail _ t n _)).trans (windowed_ended _ t n)).keeps busy'
  obtain ⟨mem, exa⟩ := Prod.mk.inj same
  rw [merged] at mem exa
  exact ⟨mem, exa, fun j ne => (kept j ne).trans (others j ne)⟩

/-! ## EXA-READ and VEC (03 R73 to R76) -/

/-- Lanes set to zero one by one. -/
def clearedExa (l : List (Nat × Nat)) (exa : Tab Lane) : Tab Lane := l.foldl (fun e x => tput Lane.clear e x.2 Lane.clear) exa

theorem tget_clearedExa (l : List (Nat × Nat)) (exa : Tab Lane) (form : tabWf Lane.clear exa = true) (k : Nat)
    (due : tget Lane.clear exa k = Lane.clear ∨ ∃ x ∈ l, x.2 = k) : tget Lane.clear (clearedExa l exa) k = Lane.clear := by
  induction l generalizing exa with
  | nil => exact due.elim id fun ⟨_, mem, _⟩ => absurd mem (by simp)
  | cons y l ih =>
    have at' : tget Lane.clear (tput Lane.clear exa y.2 Lane.clear) k = if k = y.2 then Lane.clear else tget Lane.clear exa k :=
      tget_tput _ _ _ _ _ form
    refine ih _ (tabWf_tput _ _ _ _ form) ?_
    by_cases here : k = y.2
    · exact .inl (at'.trans (if_pos here))
    · rcases due with done | ⟨x, mem, is⟩
      · exact .inl (at'.trans ((if_neg here).trans done))
      · rcases List.mem_cons.mp mem with rfl | later
        · exact absurd is.symm here
        · exact .inr ⟨x, later, is⟩

theorem tileOf_clearLanes (l : List (Nat × Nat)) (busy : (tileOf s t).part ≠ .idle) :
    tileOf (l.foldl (fun s x => setLane t x.2 Lane.clear s) s) t = { tileOf s t with exa := clearedExa l (tileOf s t).exa } ∧
    ∀ j ≠ t, tileOf (l.foldl (fun s x => setLane t x.2 Lane.clear s) s) j = tileOf s j := by
  induction l generalizing s with
  | nil => exact ⟨rfl, fun _ _ => rfl⟩
  | cons x l ih =>
    have self : tileOf (setLane t x.2 Lane.clear s) t = { tileOf s t with exa := tput Lane.clear (tileOf s t).exa x.2 Lane.clear } :=
      tileOf_setTile_self (by exact busy)
    obtain ⟨here, others⟩ := ih (s := setLane t x.2 Lane.clear s) (by rw [self]; exact busy)
    rw [self] at here
    exact ⟨here, fun j ne => (others j ne).trans (tileOf_setTile_of_ne (by exact busy) ne)⟩

/-- The memory and the lanes of a tile after an EXA-READ. -/
theorem exaRead_leaves (runs : executes s t n 2 = true) : (tileOf (effExaRead t n s) t).mem =
      (readElems (slotOf s t n).desc).foldl (fun m x => memWrite 0 m x.1 (readBytes s t (slotOf s t n).desc x.2)) (tileOf s t).mem ∧
    (tileOf (effExaRead t n s) t).exa = (if bitsAt (slotOf s t n).desc 25 4 1 = 1 then
      clearedExa (readElems (slotOf s t n).desc) (tileOf s t).exa else (tileOf s t).exa) ∧
    ∀ j ≠ t, tileOf (effExaRead t n s) j = tileOf s j := by
  have busy := busy_of_executes runs
  obtain ⟨written, others⟩ := tileOf_spWrites (t := t) (fun x : Nat × Nat => x.1) (fun x => readBytes s t (slotOf s t n).desc x.2)
    (readElems (slotOf s t n).desc) s busy
  rw [effExaRead, if_pos runs]
  dsimp only
  generalize (List.length _) = novf
  generalize (if bitsAt (slotOf s t n).desc 25 0 3 = 4 then _ else _ : Nat × Nat) = st
  generalize (List.foldl _ s (readElems (slotOf s t n).desc)) = u at written others ⊢
  have busy1 : (tileOf u t).part ≠ .idle := by rw [written]; exact busy
  generalize counted : setTile u t _ = v
  have counts : Windowed t u v := by
    rw [← counted]
    split
    · exact .setTile id rfl
    · exact .setTile id rfl
  obtain ⟨busy2, same, kept⟩ := counts.keeps busy1
  obtain ⟨mem, exa⟩ := Prod.mk.inj same
  rw [written] at mem exa
  obtain ⟨clear, clear'⟩ := tileOf_clearLanes (t := t) (readElems (slotOf s t n).desc) busy2
  have ends (w : State) : Windowed t w (slotTry t n (begin t n (laneFail t n st w))) :=
    (windowed_laneFail w t n st).trans (windowed_ended _ t n)
  split
  · obtain ⟨-, same', kept'⟩ := (ends _).keeps (by rw [clear]; exact busy2)
    obtain ⟨mem', exa'⟩ := Prod.mk.inj same'
    rw [clear] at mem' exa'
    refine ⟨mem'.trans mem, exa'.trans ?_, fun j ne => (kept' j ne).trans ((clear' j ne).trans ((kept j ne).trans (others j ne)))⟩
    exact congrArg (clearedExa _) exa
  · obtain ⟨-, same', kept'⟩ := (ends v).keeps busy2
    obtain ⟨mem', exa'⟩ := Prod.mk.inj same'
    exact ⟨mem'.trans mem, exa'.trans exa, fun j ne => (kept' j ne).trans ((kept j ne).trans (others j ne))⟩

/-- The memory and the lanes of a tile after a VEC. -/
theorem vec_leaves (runs : executes s t n 3 = true) : (tileOf (effVec t n s) t).exa = (tileOf s t).exa ∧
    (tileOf (effVec t n s) t).mem = memWrite 0 (tileOf s t).mem (vecDst (slotOf s t n).desc) (vecBytes s t (slotOf s t n).desc) ∧
    ∀ j ≠ t, tileOf (effVec t n s) j = tileOf s j := by
  have busy := busy_of_executes runs
  have self : tileOf (spWrite t (vecDst (slotOf s t n).desc) (vecBytes s t (slotOf s t n).desc) s) t =
      { tileOf s t with mem := memWrite 0 (tileOf s t).mem (vecDst (slotOf s t n).desc) (vecBytes s t (slotOf s t n).desc) } :=
    tileOf_setTile_self (by exact busy)
  have others (j : Nat) (ne : j ≠ t) : tileOf (spWrite t (vecDst (slotOf s t n).desc) (vecBytes s t (slotOf s t n).desc) s) j =
      tileOf s j := tileOf_setTile_of_ne (by exact busy) ne
  rw [effVec, if_pos runs]
  dsimp only
  generalize spWrite t _ _ s = u at self others ⊢
  obtain ⟨-, same, kept⟩ := (windowed_ended (drawn u) t n).keeps (by change (tileOf u t).part ≠ _; rw [self]; exact busy)
  obtain ⟨mem, exa⟩ := Prod.mk.inj same
  change _ = (tileOf u t).mem at mem
  change _ = (tileOf u t).exa at exa
  rw [self] at mem exa
  exact ⟨exa, mem, fun j ne => (kept j ne).trans (others j ne)⟩

end
/-! ## What the tile commands leave (O12) -/

/-- An execution that may not run leaves the tile's neighbours too. -/
theorem others_of_runs {b : Prop} [Decidable b] {s u : State} {t : Nat} (runs : b → ∀ j ≠ t, tileOf u j = tileOf s j) :
    ∀ j ≠ t, tileOf (if b then u else s) j = tileOf s j := by
  split
  case isTrue h => exact runs h
  case isFalse => exact fun _ _ => rfl

theorem tileComputeFrame : Claims.TileComputeFrame := by
  rintro s u t n (h | h | h)
  · refine ⟨((within_effMatmul ..).ran h).eq_graft ▸ rfl, ?_⟩
    cases h
    by_cases runs : executes s t n 1 = true
    · exact (matmul_leaves runs).2.2
    · rw [effMatmul, if_neg runs]
      exact fun _ _ => rfl
  · refine ⟨((within_effExaRead ..).ran h).eq_graft ▸ rfl, ?_⟩
    cases h
    by_cases runs : executes s t n 2 = true
    · exact (exaRead_leaves runs).2.2
    · rw [effExaRead, if_neg runs]
      exact fun _ _ => rfl
  · refine ⟨((within_effVec ..).ran h).eq_graft ▸ rfl, ?_⟩
    cases h
    by_cases runs : executes s t n 3 = true
    · exact (vec_leaves runs).2.2
    · rw [effVec, if_neg runs]
      exact fun _ _ => rfl

theorem tileFrame : Claims.TileFrame := by
  rintro s u t n k hr (h | h | h | h | h | h | h | h | h | h | h | h | h)
  · exact ((within_effAdmit ..).ran h).eq_graft ▸ rfl
  · exact ((within_effIssue ..).ran h).eq_graft ▸ rfl
  · exact ((within_effMove ..).ran h).eq_graft ▸ rfl
  · exact ((within_effSend ..).ran h).eq_graft ▸ rfl
  · exact ((within_effRecv ..).ran h).eq_graft ▸ rfl
  · exact ((within_effReduce ..).ran h).eq_graft ▸ rfl
  · exact ((within_effReduceRoot ..).ran h).eq_graft ▸ rfl
  · exact ((within_effWaitEvent ..).ran h).eq_graft ▸ rfl
  · exact ((within_effSignalEvent ..).ran h).eq_graft ▸ rfl
  · exact ((within_effHalt ..).ran h).eq_graft ▸ rfl
  · exact ((within_effSignalSend ..).ran h).eq_graft ▸ rfl
  · exact ((within_effToken ..).ran h).eq_graft ▸ rfl
  · exact ((within_effCredit ..).ran h).eq_graft ▸ rfl

/-- Settles O12: each command reaches only the parts put back, and each step of an execution only its own tile. -/
theorem tileFrames : Obligations.TileFrames := ⟨tileComputeFrame, tileFrame⟩

end Sys2Proof.Machine
end

section
/-!
PROOF. The stores of context addresses: what their bytes of HBM depend on, and which bytes they leave (05 R116, R118; 11 R293).
-/
namespace Sys2Proof.Machine
open Host Claims

/-! ## What a store depends on -/

/-- The same objects, the same memory keys, the same bytes: what stores and loads of context addresses depend on. -/
structure SameStore (s u : State) : Prop where
  mo : u.obj.mo = s.obj.mo
  memKey : u.kh.memKey = s.kh.memKey
  hbm : u.hbm = s.hbm

theorem SameStore.trans {s u v : State} (a : SameStore s u) (b : SameStore u v) : SameStore s v :=
  ⟨b.mo.trans a.mo, b.memKey.trans a.memKey, b.hbm.trans a.hbm⟩

theorem SameStore.symm {s u : State} (a : SameStore s u) : SameStore u s := ⟨a.mo.symm, a.memKey.symm, a.hbm.symm⟩

section
variable {s u : State}

theorem vaPieces_congr (same : u.obj.mo = s.obj.mo) (c : Nat) (fuel : Nat) :
    ∀ va n, vaPieces u c fuel va n = vaPieces s c fuel va n := by
  have at' (va : Nat) : moAt u c va = moAt s c va := by rw [moAt, moAt, same]
  induction fuel with
  | zero => exact fun _ _ => rfl
  | succ fuel ih =>
    intro va n
    rw [vaPieces, vaPieces, at']
    simp only [ih]

theorem translate_congr (same : u.obj.mo = s.obj.mo) (c va n : Nat) : translate u c va n = translate s c va n := by
  rw [translate, translate, same, vaPieces_congr same]

theorem decLines_congr (same : u.hbm = s.hbm) (k : BitVec 256) (n : Nat) : ∀ line, decLines u k line n = decLines s k line n := by
  induction n with
  | zero => exact fun _ => rfl
  | succ n ih =>
    intro line
    rw [decLines, decLines, ih, hbmRead, hbmRead, same]

theorem objRead_congr (same : SameStore s u) (m : MemObj) (off n : Nat) : objRead u m off n = objRead s m off n := by
  rw [objRead, objRead, plainRead, plainRead, memKeyOf, memKeyOf, same.memKey, hbmRead, hbmRead, same.hbm,
    decLines_congr same.hbm]

/-- A read of context addresses depends on nothing else, but for the draw that stands for host bytes not given. -/
theorem vaRead_congr (same : SameStore s u) (free : u.free = s.free) (hr : List Host.Cell) (c va n : Nat) :
    vaRead u hr c va n = vaRead s hr c va n := by
  have piece : pieceRead u hr = pieceRead s hr := by
    funext p
    rw [pieceRead, pieceRead, objRead_congr same, hostRead, hostRead, free]
  rw [vaRead, vaRead, translate_congr same.mo, piece]

theorem SameStore.hbmWrite (same : SameStore s u) (pa : Nat) (b : Bytes) : SameStore (hbmWrite pa b s) (hbmWrite pa b u) :=
  ⟨same.mo, same.memKey, congrArg (fun m => memWrite 0 m pa b) same.hbm⟩

theorem SameStore.encLines {s u : State} (same : SameStore s u) (k : BitVec 256) (n line : Nat) (b : Bytes) :
    SameStore (encLines k n line b s) (encLines k n line b u) := by
  induction n generalizing s u line b with
  | zero => exact same
  | succ n ih =>
    rw [Machine.encLines, Machine.encLines]
    exact ih (same.hbmWrite ..) _ _

theorem SameStore.objWriteRaw (same : SameStore s u) (m : MemObj) (off : Nat) (b : Bytes) :
    SameStore (objWriteRaw m off b s) (objWriteRaw m off b u) := by
  rw [Machine.objWriteRaw, Machine.objWriteRaw, memKeyOf, memKeyOf, same.memKey]
  split
  · rw [plainWrite, plainWrite]
    split
    · exact same
    · dsimp only
      rw [decLines_congr same.hbm]
      exact same.encLines ..
  · exact same.hbmWrite ..

theorem SameStore.of_objWrite (m : MemObj) (off : Nat) (b : Bytes) (s : State) :
    SameStore (Machine.objWriteRaw m off b s) (objWrite m off b s).2 :=
  ⟨((within_objWrite s m off b).keeps (·.obj.mo) fun _ => rfl).trans ((within_objWriteRaw s m off b).keeps (·.obj.mo) fun _ => rfl).symm,
    ((within_objWrite s m off b).keeps (·.kh.memKey) fun _ => rfl).trans
      ((within_objWriteRaw s m off b).keeps (·.kh.memKey) fun _ => rfl).symm, hbm_objWrite ..⟩

theorem SameStore.objWrite (same : SameStore s u) (m : MemObj) (off : Nat) (b : Bytes) :
    SameStore (objWrite m off b s).2 (objWrite m off b u).2 :=
  (SameStore.of_objWrite m off b s).symm.trans ((same.objWriteRaw m off b).trans (SameStore.of_objWrite m off b u))

theorem SameStore.of_hostPieces (use : HostUse) (num : Nat) (m : MemObj) (fuel off : Nat) (b : Bytes) (s : State) :
    SameStore s (hostPieces use num m fuel off b s) :=
  ⟨(within_hostPieces use num m fuel off b s).keeps (·.obj.mo) fun _ => rfl,
    (within_hostPieces use num m fuel off b s).keeps (·.kh.memKey) fun _ => rfl,
    (within_hostPieces use num m fuel off b s).keeps (·.hbm) fun _ => rfl⟩

theorem SameStore.writePieces (use : HostUse) (c : Nat) (ps : List Piece) {s u : State} (same : SameStore s u) (b : Bytes) (ms ms' : List Nat) :
    SameStore (writePieces use c ps b ms s).st (writePieces use c ps b ms' u).st := by
  induction ps generalizing s u b ms ms' with
  | nil => exact same
  | cons p ps ih =>
    rw [Machine.writePieces, Machine.writePieces]
    split
    · exact same
    · split
      · exact ih ((SameStore.of_hostPieces ..).symm.trans (same.trans (SameStore.of_hostPieces ..))) _ _ _
      · exact ih (same.objWrite ..) _ _ _

theorem st_vaWrite (use : HostUse) (c va : Nat) (b : Bytes) (s : State) :
    (vaWrite use c va b s).st = (writePieces use c (translate s c va b.length).1 b [] s).st := by
  unfold vaWrite
  dsimp only
  split <;> rfl

theorem SameStore.vaWrite (same : SameStore s u) (use : HostUse) (c va : Nat) (b : Bytes) :
    SameStore (vaWrite use c va b s).st (vaWrite use c va b u).st := by
  rw [st_vaWrite, st_vaWrite, translate_congr same.mo]
  exact SameStore.writePieces use c _ same b [] []

end

/-! ## Which bytes a store leaves -/

/-- Byte `a` of HBM is as it was, and HBM has its form. -/
def Spared (a : Nat) (s u : State) : Prop := tabWf 0 s.hbm = true → tabWf 0 u.hbm = true ∧ tget 0 u.hbm a = tget 0 s.hbm a

section
variable {a : Nat} {s u v : State}

theorem Spared.of_hbm (same : u.hbm = s.hbm) : Spared a s u := fun form => by
  rw [same]
  exact ⟨form, rfl⟩

theorem Spared.refl (a : Nat) (s : State) : Spared a s s := .of_hbm rfl

theorem Spared.trans (x : Spared a s u) (y : Spared a u v) : Spared a s v := fun form =>
  ⟨(y (x form).1).1, (y (x form).1).2.trans (x form).2⟩

theorem Spared.hbmRead (x : Spared a s u) (form : Memory.wf s = true) : hbmRead u a 1 = hbmRead s a 1 := by
  simp only [Memory.wf, Bool.and_eq_true, and_assoc] at form
  exact congrArg (fun b => [b]) (x form.1).2

end

section
variable {a : Nat}

theorem length_xtsEnc_le (k : BitVec 256) (line : Nat) (b : Bytes) : (xtsEnc k line b).length ≤ 64 := by
  have blocks (n : Nat) (t : Nat) (l : List (List Nat)) (f : List Nat → List Nat) :
      (((xtsTweaks n t).zip l).flatMap (fun e => bytesOf (xorL (f (xorL e.2 (natsOf (leBytes 16 e.1)))) (natsOf (leBytes 16 e.1))))).length
        ≤ 16 * n := by
    induction n generalizing t l with
    | zero => simp [xtsTweaks]
    | succ n ih =>
      cases l with
      | nil => simp
      | cons x l =>
        have one (y : List Nat) : (bytesOf (xorL y (natsOf (leBytes 16 t)))).length ≤ 16 := by
          rw [bytesOf, List.length_map, xorL, List.length_zipWith, natsOf, List.length_map, leBytes_length]
          omega
        rw [xtsTweaks, List.zip_cons_cons, List.flatMap_cons, List.length_append]
        have := one (f (xorL x (natsOf (leBytes 16 t))))
        have := ih (xtsMul t) l
        dsimp only at *
        omega
  exact blocks 4 _ _ _

theorem spared_hbmWrite {pa : Nat} {b : Bytes} (s : State) (out : a < pa ∨ pa + b.length ≤ a) : Spared a s (hbmWrite pa b s) := fun form =>
  ⟨tabWf_memWrite 0 b s.hbm pa form, (hbm_hbmWrite s pa a b form).trans (if_neg (by omega))⟩

theorem spared_encLines (k : BitVec 256) (n line : Nat) (b : Bytes) (s : State) (out : a < 64 * line ∨ 64 * (line + n) ≤ a) :
    Spared a s (encLines k n line b s) := by
  induction n generalizing line b s with
  | zero => exact .refl a s
  | succ n ih =>
    have := length_xtsEnc_le k line (b.take 64)
    exact (spared_hbmWrite s (by omega)).trans (ih _ _ _ (by omega))

/-- A store of at most `n` bytes leaves what `n` bytes would not cover. -/
theorem spared_objWriteRaw {m : MemObj} {off n : Nat} {b : Bytes} (s : State) (fits : b.length ≤ n) (out : ¬storeCovers m off n a) :
    Spared a s (objWriteRaw m off b s) := by
  unfold objWriteRaw
  split
  case isTrue u =>
    rw [storeCovers, if_pos u] at out
    unfold plainWrite
    split
    · exact .refl a s
    · next some =>
      have : 0 < b.length := by
        rw [List.isEmpty_iff] at some
        exact List.length_pos_iff.mpr some
      refine spared_encLines _ _ _ _ s ?_
      have last : (m.pa + off + b.length - 1) / 64 ≤ (m.pa + off + n - 1) / 64 := Nat.div_le_div_right (by omega)
      have first : (m.pa + off) / 64 ≤ (m.pa + off + b.length - 1) / 64 := Nat.div_le_div_right (by omega)
      omega
  case isFalse u =>
    rw [storeCovers, if_neg u] at out
    exact spared_hbmWrite s (by omega)

theorem spared_objWrite {m : MemObj} {off n : Nat} {b : Bytes} (s : State) (fits : b.length ≤ n) (out : ¬storeCovers m off n a) :
    Spared a s (objWrite m off b s).2 :=
  (spared_objWriteRaw s fits out).trans (.of_hbm (hbm_objWrite m off b s))

theorem spared_writePieces (use : HostUse) (c : Nat) (ps : List Piece) (b : Bytes) (ms : List Nat) (s : State)
    (out : ∀ p ∈ ps, p.mo.host = false → ¬storeCovers p.mo p.off p.len a) : Spared a s (writePieces use c ps b ms s).st := by
  induction ps generalizing b ms s with
  | nil => exact .refl a s
  | cons p ps ih =>
    have later : ∀ q ∈ ps, q.mo.host = false → ¬storeCovers q.mo q.off q.len a := fun q mem => out q (List.mem_cons_of_mem p mem)
    rw [writePieces]
    split
    · exact .refl a s
    · split
      · exact (Spared.of_hbm (SameStore.of_hostPieces ..).hbm).trans (ih _ _ _ later)
      · next hbm =>
        exact (spared_objWrite s (List.length_take_le ..) (out p List.mem_cons_self (by simpa using hbm))).trans (ih _ _ _ later)

theorem spared_vaWrite {use : HostUse} {c va : Nat} {b : Bytes} (s : State) (out : ¬vaCovers s c va b.length a) :
    Spared a s (vaWrite use c va b s).st := by
  rw [st_vaWrite]
  exact spared_writePieces use c _ b [] s fun p mem hbm covers => out ⟨p, mem, hbm, covers⟩

theorem spared_landPieces (ps : List Piece) (b : Bytes) (ms : List Nat) (s : State)
    (out : ∀ p ∈ ps, ¬storeCovers p.mo p.off p.len a) : Spared a s (landPieces ps b ms s).2 := by
  induction ps generalizing b ms s with
  | nil => exact .refl a s
  | cons p ps ih =>
    exact (spared_objWrite s (List.length_take_le ..) (out p List.mem_cons_self)).trans
      (ih _ _ _ fun q mem => out q (List.mem_cons_of_mem p mem))

end
end Sys2Proof.Machine
end

section
/-!
PROOF. The engines of a tile: MATMUL, EXA-READ, VEC and MOVE (O10).
-/
namespace Sys2Proof.Machine
open Host Claims

/-! ## MOVE out of the tile (03 R77, R78) -/

/-- What the rows of a MOVE in slot `n` read is as it was in `s`. -/
structure Moving (t n : Nat) (s u : State) : Prop where
  busy : (tileOf u t).part ≠ .idle
  active : (slotOf u t n).st = .executing
  desc : (slotOf u t n).desc = (slotOf s t n).desc
  order : (slotOf u t n).order = (slotOf s t n).order
  binds : (slotOf u t n).binds = (slotOf s t n).binds
  mem : (tileOf u t).mem = (tileOf s t).mem
  owner : tileOwner u t = tileOwner s t
  mo : u.obj.mo = s.obj.mo

section
variable {s u v : State} {t n : Nat}

theorem Moving.of_same (x : Moving t n s u) (tile : v.tile = u.tile) (quad : v.quad = u.quad) (mo : v.obj.mo = u.obj.mo) : Moving t n s v := by
  have here : tileOf v t = tileOf u t := by rw [tileOf, tileOf, tile]
  have slot : slotOf v t n = slotOf u t n := by rw [slotOf, slotOf, here]
  have owner : tileOwner v t = tileOwner u t := by rw [tileOwner, tileOwner, quadOf, quadOf, quad]
  exact ⟨here ▸ x.busy, slot ▸ x.active, slot ▸ x.desc, slot ▸ x.order, slot ▸ x.binds, here ▸ x.mem, owner.trans x.owner, mo.trans x.mo⟩

theorem moving_of_executes {k : Nat} (runs : executes s t n k = true) : Moving t n s s := by
  have busy := busy_of_executes runs
  simp only [executes, Bool.and_eq_true, decide_eq_true_eq] at runs
  exact ⟨busy, runs.1.1.1, rfl, rfl, rfl, rfl, rfl, rfl⟩

theorem Moving.vaWrite (x : Moving t n s u) (use : HostUse) (c va : Nat) (b : Bytes) : Moving t n s (vaWrite use c va b u).st :=
  x.of_same ((within_vaWrite u use c va b).keeps State.tile fun _ => rfl) ((within_vaWrite u use c va b).keeps State.quad fun _ => rfl)
    ((within_vaWrite u use c va b).keeps (·.obj.mo) fun _ => rfl)

theorem Moving.slotAwait (x : Moving t n s u) (l : List Await) : Moving t n s (slotAwait t n l u) := by
  have here : tileOf (Machine.slotAwait t n l u) t = { tileOf u t with
      win := tput {} (tileOf u t).win n { slotOf u t n with waits := (slotOf u t n).waits ++ l } } :=
    tileOf_setTile_self (by exact x.busy)
  have some : ({ slotOf u t n with waits := (slotOf u t n).waits ++ l } : Slot) ≠ {} := by
    intro same
    have idle := congrArg Slot.st same
    exact absurd (x.active.symm.trans idle) (by decide)
  have slot : slotOf (Machine.slotAwait t n l u) t n = { slotOf u t n with waits := (slotOf u t n).waits ++ l } := by
    rw [slotOf, here]
    exact tget_tput_self _ _ some _ n
  refine ⟨?_, ?_, ?_, ?_, ?_, ?_, x.owner, x.mo⟩
  · rw [here]
    exact x.busy
  · rw [slot]
    exact x.active
  · rw [slot]
    exact x.desc
  · rw [slot]
    exact x.order
  · rw [slot]
    exact x.binds
  · rw [here]
    exact x.mem

/-- The bytes of a row. -/
def rowBytes (s : State) (t n r : Nat) : Bytes := spRead s t (moveLocal (slotOf s t n).desc r) (moveLen (slotOf s t n).desc)

/-- A row of a MOVE that does not fault is written whole. -/
theorem moveOut_whole (x : Moving t n s u) (r : Nat) :
    Moving t n s (moveOut t n r true u) ∧
      SameStore (vaWrite (.desc t n (slotOf s t n).order) ((tileOwner s t).getD 0) (moveRemote (slotOf s t n).desc r) (rowBytes s t n r) u).st
        (moveOut t n r true u) := by
  have bytes : spRead u t (moveLocal (slotOf s t n).desc r) (moveLen (slotOf s t n).desc) = rowBytes s t n r := by
    rw [rowBytes, spRead, spRead, x.mem]
  have wrote := (x.vaWrite (.desc t n (slotOf s t n).order) ((tileOwner s t).getD 0) (moveRemote (slotOf s t n).desc r) (rowBytes s t n r))
  unfold moveOut
  dsimp only
  rw [x.desc, x.order, x.binds, x.owner, bytes, Bool.true_or, if_pos rfl]
  generalize vaWrite (.desc t n (slotOf s t n).order) ((tileOwner s t).getD 0) (moveRemote (slotOf s t n).desc r) (rowBytes s t n r) u = w
    at wrote ⊢
  split
  · exact ⟨wrote.slotAwait _, ⟨rfl, rfl, rfl⟩⟩
  · refine ⟨?_, ⟨rfl, rfl, rfl⟩⟩
    apply Moving.slotAwait
    exact (wrote.slotAwait _).of_same rfl rfl rfl

/-- Rows written whole one after the other. -/
theorem moveOut_rows (rows : List Nat) (w : State) (x : Moving t n s u) (same : SameStore w u) :
    Moving t n s (rows.foldl (fun s r => moveOut t n r true s) u) ∧
      SameStore (rows.foldl (fun w r => (vaWrite (.desc t n (slotOf s t n).order) ((tileOwner s t).getD 0)
        (moveRemote (slotOf s t n).desc r) (rowBytes s t n r) w).st) w) (rows.foldl (fun s r => moveOut t n r true s) u) := by
  induction rows generalizing u w with
  | nil => exact ⟨x, same⟩
  | cons r rows ih =>
    obtain ⟨moving, wrote⟩ := moveOut_whole x r
    exact ih _ moving ((same.vaWrite ..).trans wrote)

/-! ## The end of a MOVE -/

theorem hbm_ended (s : State) (t n : Nat) : (slotTry t n (begin t n s)).hbm = s.hbm :=
  ((within_slotTry (begin t n s) t n).keeps (·.hbm) fun _ => rfl).trans rfl

/-- A MOVE none of whose rows faults. -/
theorem effMove_whole {c : Nat} (hr : List Host.Cell) (runs : executes s t n 4 = true) (owner : tileOwner s t = some c)
    (dir : bitsAt (slotOf s t n).desc 16 0 2 ≠ 2)
    (good : ∀ r, r < moveRows (slotOf s t n).desc → rowFault s c (moveRemote (slotOf s t n).desc r) (moveLen (slotOf s t n).desc)
      (decide (bitsAt (slotOf s t n).desc 16 0 2 = 0)) = none) :
    effMove t n hr s = slotTry t n (begin t n ((List.range (moveRows (slotOf s t n).desc)).foldl
      (fun s' r => if bitsAt (slotOf s t n).desc 16 0 2 = 0 then moveOut t n r true s' else moveIn t n r hr true s') s)) := by
  have none : (List.range (moveRows (slotOf s t n).desc)).filterMap (fun r => rowFault s c (moveRemote (slotOf s t n).desc r)
      (moveLen (slotOf s t n).desc) (decide (bitsAt (slotOf s t n).desc 16 0 2 = 0))) = [] :=
    List.filterMap_eq_nil_iff.mpr fun r mem => good r (List.mem_range.mp mem)
  unfold effMove
  rw [if_pos runs]
  dsimp only
  rw [if_neg dir, owner, Option.getD_some, none]
  rfl

/-- MOVE from the scratchpad: the rows stored (03 R77, R78). -/
theorem move_out {c : Nat} (hr : List Host.Cell) (runs : executes s t n 4 = true) (owner : tileOwner s t = some c)
    (dir : bitsAt (slotOf s t n).desc 16 0 2 = 0)
    (good : ∀ r, r < moveRows (slotOf s t n).desc → rowFault s c (moveRemote (slotOf s t n).desc r) (moveLen (slotOf s t n).desc) true = none) :
    (tileOf (effMove t n hr s) t).mem = (tileOf s t).mem ∧
    (effMove t n hr s).hbm = ((List.range (moveRows (slotOf s t n).desc)).foldl (fun w r =>
      (vaWrite (.desc t n (slotOf s t n).order) c (moveRemote (slotOf s t n).desc r)
        (spRead s t (moveLocal (slotOf s t n).desc r) (moveLen (slotOf s t n).desc)) w).st) s).hbm := by
  obtain ⟨moving, same⟩ := moveOut_rows (List.range (moveRows (slotOf s t n).desc)) s (moving_of_executes runs) ⟨rfl, rfl, rfl⟩
  rw [effMove_whole hr runs owner (by rw [dir]; decide) (by simpa [dir] using good), dir]
  rw [owner] at same
  simp only [if_true]
  refine ⟨?_, (hbm_ended _ t n).trans same.hbm⟩
  obtain ⟨-, kept, -⟩ := (windowed_ended _ t n).keeps moving.busy
  exact (Prod.mk.inj kept).1.trans moving.mem

/-! ## MOVE into the tile -/

/-- What the rows of a MOVE into tile `t` read is as it was in `s`, and the tile's memory is `m`. -/
structure Filling (t n : Nat) (s : State) (m : Tab Byte) (u : State) : Prop where
  busy : (tileOf u t).part ≠ .idle
  slot : slotOf u t n = slotOf s t n
  owner : tileOwner u t = tileOwner s t
  store : SameStore s u
  free : u.free = s.free
  mem : (tileOf u t).mem = m

/-- A row of a MOVE that does not fault is read whole. -/
theorem Filling.moveIn {m : Tab Byte} (x : Filling t n s m u) (hr : List Host.Cell) (r : Nat) :
    Filling t n s (memWrite 0 m (moveLocal (slotOf s t n).desc r)
      (vaRead s hr ((tileOwner s t).getD 0) (moveRemote (slotOf s t n).desc r) (moveLen (slotOf s t n).desc)).1)
      (moveIn t n r hr true u) := by
  unfold Machine.moveIn
  dsimp only
  rw [if_pos rfl, x.slot, x.owner, vaRead_congr x.store x.free]
  generalize (vaRead s hr _ _ _).1 = b
  have here : tileOf (spWrite t (moveLocal (slotOf s t n).desc r) b u) t =
      { tileOf u t with mem := memWrite 0 (tileOf u t).mem (moveLocal (slotOf s t n).desc r) b } := tileOf_setTile_self (by exact x.busy)
  refine ⟨?_, ?_, x.owner, ⟨x.store.mo, x.store.memKey, x.store.hbm⟩, x.free, ?_⟩
  · rw [here]
    exact x.busy
  · rw [slotOf, here]
    exact x.slot
  · rw [here]
    exact congrArg (fun m => memWrite 0 m _ b) x.mem

theorem Filling.rows {m : Tab Byte} (x : Filling t n s m u) (hr : List Host.Cell) (rows : List Nat) :
    Filling t n s (rows.foldl (fun m r => memWrite 0 m (moveLocal (slotOf s t n).desc r)
      (vaRead s hr ((tileOwner s t).getD 0) (moveRemote (slotOf s t n).desc r) (moveLen (slotOf s t n).desc)).1) m)
      (rows.foldl (fun s r => Machine.moveIn t n r hr true s) u) := by
  induction rows generalizing u m with
  | nil => exact x
  | cons r rows ih => exact ih (x.moveIn hr r)

/-- MOVE into the scratchpad: the rows read (03 R77, R78). -/
theorem move_in {c : Nat} (hr : List Host.Cell) (runs : executes s t n 4 = true) (owner : tileOwner s t = some c)
    (dir : bitsAt (slotOf s t n).desc 16 0 2 = 1)
    (good : ∀ r, r < moveRows (slotOf s t n).desc → rowFault s c (moveRemote (slotOf s t n).desc r) (moveLen (slotOf s t n).desc) false = none) :
    (effMove t n hr s).hbm = s.hbm ∧
    (tileOf (effMove t n hr s) t).mem = (List.range (moveRows (slotOf s t n).desc)).foldl (fun m r =>
      memWrite 0 m (moveLocal (slotOf s t n).desc r)
        (vaRead s hr c (moveRemote (slotOf s t n).desc r) (moveLen (slotOf s t n).desc)).1) (tileOf s t).mem := by
  have filled := Filling.rows (n := n) (m := (tileOf s t).mem) ⟨busy_of_executes runs, rfl, rfl, ⟨rfl, rfl, rfl⟩, rfl, rfl⟩ hr
    (List.range (moveRows (slotOf s t n).desc))
  rw [effMove_whole hr runs owner (by rw [dir]; decide) (by simpa [dir] using good), dir]
  rw [owner] at filled
  refine ⟨(hbm_ended _ t n).trans filled.store.hbm, ?_⟩
  obtain ⟨-, kept, -⟩ := (windowed_ended _ t n).keeps filled.busy
  exact (Prod.mk.inj kept).1.trans filled.mem

/-! ## MOVE to another tile -/

/-- A MOVE to tile `k` of the same context. -/
theorem effMove_across {c k : Nat} (hr : List Host.Cell) (runs : executes s t n 4 = true) (owner : tileOwner s t = some c)
    (dir : bitsAt (slotOf s t n).desc 16 0 2 = 2) (target : byteAt (slotOf s t n).desc 17 = k) (owned : tileOwner s k = some c)
    (calm : underAbseil s k = false) :
    effMove t n hr s = slotTry t n (begin t n ((List.range (moveRows (slotOf s t n).desc)).foldl (fun u r =>
      spWrite k (moveRemote (slotOf s t n).desc r) (spRead u t (moveLocal (slotOf s t n).desc r) (moveLen (slotOf s t n).desc)) u) s)) := by
  unfold effMove
  rw [if_pos runs]
  dsimp only
  rw [if_pos dir, target, owned, owner, calm, Option.getD_some, if_pos (by simp)]

theorem hbm_spWrites (k : Nat) (off : Nat → Nat) (b : State → Nat → Bytes) (rows : List Nat) (s : State) :
    (rows.foldl (fun u r => spWrite k (off r) (b u r) u) s).hbm = s.hbm := by
  induction rows generalizing s with
  | nil => rfl
  | cons r rows ih => exact (ih _).trans rfl

/-- Rows copied to another tile. -/
theorem rows_across {k : Nat} (ne : k ≠ t) (d : Bytes) (rows : List Nat) (s : State) (form : tabWf {} s.tile = true) :
    (tileOf (rows.foldl (fun u r => spWrite k (moveRemote d r) (spRead u t (moveLocal d r) (moveLen d)) u) s) k).mem =
      rows.foldl (fun m r => memWrite 0 m (moveRemote d r) (spRead s t (moveLocal d r) (moveLen d))) (tileOf s k).mem ∧
    tileOf (rows.foldl (fun u r => spWrite k (moveRemote d r) (spRead u t (moveLocal d r) (moveLen d)) u) s) t = tileOf s t := by
  induction rows generalizing s with
  | nil => exact ⟨rfl, rfl⟩
  | cons r rows ih =>
    obtain ⟨there, here⟩ := ih (spWrite k (moveRemote d r) (spRead s t (moveLocal d r) (moveLen d)) s) (tabWf_tput _ _ _ _ form)
    have set (j : Nat) : tileOf (spWrite k (moveRemote d r) (spRead s t (moveLocal d r) (moveLen d)) s) j =
        if j = k then { tileOf s k with mem := memWrite 0 (tileOf s k).mem (moveRemote d r) (spRead s t (moveLocal d r) (moveLen d)) }
        else tileOf s j := tileOf_setTile s k j _ form
    have same : tileOf (spWrite k (moveRemote d r) (spRead s t (moveLocal d r) (moveLen d)) s) t = tileOf s t :=
      (set t).trans (if_neg ne.symm)
    refine ⟨there.trans ?_, here.trans same⟩
    have read (r' : Nat) : spRead (spWrite k (moveRemote d r) (spRead s t (moveLocal d r) (moveLen d)) s) t (moveLocal d r') (moveLen d) =
        spRead s t (moveLocal d r') (moveLen d) := congrArg (fun x : Tile => memRead 0 x.mem (moveLocal d r') (moveLen d)) same
    rw [set k, if_pos rfl]
    simp only [read]
    rfl

/-- Rows copied within the tile. -/
theorem rows_within (d : Bytes) (rows : List Nat) (s : State) (busy : (tileOf s t).part ≠ .idle) :
    (tileOf (rows.foldl (fun u r => spWrite t (moveRemote d r) (spRead u t (moveLocal d r) (moveLen d)) u) s) t).mem =
      rows.foldl (fun m r => memWrite 0 m (moveRemote d r) (memRead 0 m (moveLocal d r) (moveLen d))) (tileOf s t).mem ∧
    (tileOf (rows.foldl (fun u r => spWrite t (moveRemote d r) (spRead u t (moveLocal d r) (moveLen d)) u) s) t).part ≠ .idle := by
  induction rows generalizing s with
  | nil => exact ⟨rfl, busy⟩
  | cons r rows ih =>
    have here : tileOf (spWrite t (moveRemote d r) (spRead s t (moveLocal d r) (moveLen d)) s) t =
        { tileOf s t with mem := memWrite 0 (tileOf s t).mem (moveRemote d r) (spRead s t (moveLocal d r) (moveLen d)) } :=
      tileOf_setTile_self (by exact busy)
    obtain ⟨mem, busy'⟩ := ih (spWrite t (moveRemote d r) (spRead s t (moveLocal d r) (moveLen d)) s) (by rw [here]; exact busy)
    refine ⟨mem.trans ?_, busy'⟩
    rw [here]
    rfl

/-! ## The engines -/

theorem matmul_acts {s : State} {t n : Nat} (form : tabWf Lane.clear (tileOf s t).exa = true) (runs : executes s t n 1 = true)
    (narrow : (matmulOf (slotOf s t n).desc).n ≤ 64) (x : Nat × Lane) (mem : x ∈ matmulImages s t (matmulOf (slotOf s t n).desc)) :
    laneOf (effMatmul t n s) t x.1 =
      (addLane (if (matmulOf (slotOf s t n).desc).clear then Lane.clear else laneOf s t x.1) x.2).open
        (archiveTile s t) s.free x.1 := by
  have once : ((matmulImages s t (matmulOf (slotOf s t n).desc)).map (·.1)).Nodup := by
    rw [keys_matmulImages]
    exact nodup_blockLanes narrow
  rw [laneOf, (matmul_leaves runs).2.1]
  exact (tget_mergedExa once _ form).1 x mem

/-- Every lane an EXA-READ with CLEAR reads is zero after it. -/
theorem exaRead_clears {s : State} {t n : Nat} (form : tabWf Lane.clear (tileOf s t).exa = true) (runs : executes s t n 2 = true)
    (clear : bitsAt (slotOf s t n).desc 25 4 1 = 1) (x : Nat × Nat) (mem : x ∈ readElems (slotOf s t n).desc) :
    laneOf (effExaRead t n s) t x.2 = Lane.clear := by
  rw [laneOf, (exaRead_leaves runs).2.1, if_pos clear]
  exact tget_clearedExa _ _ form _ (.inr ⟨x, mem, rfl⟩)

/-- Settles O10: each engine's writes, and the end of the descriptor, which leaves memory and lanes. -/
theorem tileEnginesAct : Obligations.TileEnginesAct := by
  refine ⟨fun s t n wf runs narrow => ?_, fun s t n wf runs => ?_, fun s t n runs => ?_, fun s t n c hr runs owner dir good => ?_,
    fun s t n c hr runs owner dir good => ?_, fun s t n c hr wf runs owner dir owned calm => ?_⟩
  · exact ⟨_, rfl, (matmul_leaves runs).1, matmul_acts (((formed_iff s).2 wf).exa t) runs narrow⟩
  · refine ⟨_, rfl, (exaRead_leaves runs).1, exaRead_clears (((formed_iff s).2 wf).exa t) runs, fun keep => ?_⟩
    rw [(exaRead_leaves runs).2.1, if_neg (by rw [keep]; decide)]
  · exact ⟨_, rfl, (vec_leaves runs).1, (vec_leaves runs).2.1⟩
  · exact ⟨_, rfl, move_in hr runs owner dir good⟩
  · exact ⟨_, rfl, move_out hr runs owner dir good⟩
  · refine ⟨_, congrArg Outcome.next (effMove_across hr runs owner dir rfl owned calm),
      (hbm_ended _ t n).trans (hbm_spWrites _ _ (fun u r => spRead u t _ _) _ s), fun ne => ?_, fun same => ?_⟩
    · obtain ⟨there, here⟩ := rows_across ne (slotOf s t n).desc (List.range (moveRows (slotOf s t n).desc)) s ((formed_iff s).2 wf).tile
      obtain ⟨-, -, others⟩ := (windowed_ended _ t n).keeps (by rw [here]; exact busy_of_executes runs)
      rw [others _ ne]
      exact there
    · rw [same]
      obtain ⟨mem, busy⟩ := rows_within (t := t) (slotOf s t n).desc (List.range (moveRows (slotOf s t n).desc)) s (busy_of_executes runs)
      obtain ⟨-, kept, -⟩ := (windowed_ended _ t n).keeps busy
      exact (Prod.mk.inj kept).1.trans mem

end
end Sys2Proof.Machine
end

section
/-!
PROOF. Every byte of HBM outside the stored addresses keeps its value (O53).
-/
namespace Sys2Proof.Machine
open Host Claims

/-! ## A decoded payload has the length its header gives (09 R459) -/

theorem length_etLimbs {mask fill n k : Nat} {b x r : Bytes} (is : etLimbs mask fill n k b = some (x, r)) : x.length = 4 * n := by
  induction n generalizing k b x r with
  | zero =>
    cases is
    rfl
  | succ n ih =>
    rw [etLimbs] at is
    split at is
    · split at is
      · cases is
      · next long =>
        obtain ⟨⟨y, q⟩, rest, same⟩ := Option.map_eq_some_iff.mp is
        cases same
        rw [List.length_append, List.length_take, ih rest]
        omega
    · obtain ⟨⟨y, q⟩, rest, same⟩ := Option.map_eq_some_iff.mp is
      cases same
      rw [List.length_append, leBytes_length, ih rest]
      omega

theorem length_etOne {b i r : Bytes} (is : etOne b = some (i, r)) : i.length = 48 := by
  unfold etOne at is
  dsimp only at is
  split at is
  · cases is
  · split at is
    · cases is
    · split at is
      · cases is
      · obtain ⟨⟨x, q⟩, limbs, same⟩ := Option.map_eq_some_iff.mp is
        cases same
        simp only [List.length_append, leBytes_length, length_etLimbs limbs]

theorem length_etMany {n : Nat} {b : Bytes} {l : List Bytes} (is : etMany n b = some l) :
    (l.flatMap (fun i => i ++ leBytes 16 0)).length = 64 * n := by
  induction n generalizing b l with
  | zero =>
    rw [etMany] at is
    split at is
    · cases is
      rfl
    · cases is
  | succ n ih =>
    rw [etMany] at is
    split at is
    · cases is
    · next i r one =>
      obtain ⟨l', rest, same⟩ := Option.map_eq_some_iff.mp is
      cases same
      rw [List.flatMap_cons, List.length_append, List.length_append, length_etOne one, leBytes_length, ih rest]
      omega

theorem length_plUnfold (w n x bits : Nat) : (plUnfold w n x bits).length = n := by
  induction n generalizing x bits with
  | zero => rfl
  | succ n ih => rw [plUnfold, List.length_cons, ih]

theorem length_plOne {n : Nat} {b r : Bytes} {x : List Nat} (some' : 1 ≤ n) (is : plOne n b = some (x, r)) : x.length = n := by
  unfold plOne at is
  split at is
  · cases is
  · dsimp only at is
    split at is
    · cases is
    · split at is
      · split at is
        · cases is
        · cases is
          rw [plSamples_length, List.length_take]
          omega
      · split at is
        · cases is
        · split at is
          · cases is
          · cases is
            rw [List.length_cons, length_plUnfold]
            omega

theorem length_plMany {fuel n : Nat} {b : Bytes} {x : List Nat} (is : plMany fuel n b = some x) : x.length = n := by
  induction fuel generalizing n b x with
  | zero =>
    rw [plMany] at is
    split at is
    · next none =>
      cases is
      simp only [Bool.and_eq_true, decide_eq_true_eq] at none
      exact none.1.symm
    · cases is
  | succ fuel ih =>
    rw [plMany] at is
    split at is
    · next none =>
      split at is
      · cases is
        exact none.symm
      · cases is
    · split at is
      · cases is
      · next y r one =>
        obtain ⟨x', rest, same⟩ := Option.map_eq_some_iff.mp is
        cases same
        rw [List.length_append, length_plOne (by omega) one, ih rest]
        omega

theorem length_becValues (e n bits : Nat) : (becValues e n bits).length = n := by
  induction n generalizing bits with
  | zero => rfl
  | succ n ih => rw [becValues, List.length_cons, ih]

theorem length_becMany {n : Nat} {b : Bytes} {x : List Nat} (is : becMany n b = some x) : x.length = 16 * n := by
  induction n generalizing b x with
  | zero =>
    rw [becMany] at is
    split at is
    · cases is
      rfl
    · cases is
  | succ n ih =>
    rw [becMany.eq_def] at is
    dsimp only at is
    split at is
    · cases is
    · split at is
      · cases is
      · split at is
        · split at is
          · cases is
          · obtain ⟨x', rest, same⟩ := Option.map_eq_some_iff.mp is
            cases same
            rw [List.length_append, plSamples_length, List.length_take, ih rest]
            omega
        · split at is
          · cases is
          · obtain ⟨x', rest, same⟩ := Option.map_eq_some_iff.mp is
            cases same
            rw [List.length_append, length_becValues, ih rest]
            omega

theorem length_decodeSeg {coding dlen : Nat} {b d : Bytes} (is : decodeSeg coding dlen b = some d) : d.length = dlen := by
  unfold decodeSeg at is
  split at is
  · split at is
    · next whole =>
      cases is
      exact whole
    · cases is
  · split at is
    · obtain ⟨l, many, same⟩ := Option.map_eq_some_iff.mp is
      cases same
      rw [length_etMany many]
      omega
    · cases is
  · split at is
    · obtain ⟨l, many, same⟩ := Option.map_eq_some_iff.mp is
      cases same
      rw [flatMap_leBytes_length, length_plMany many]
      omega
    · cases is
  · split at is
    · obtain ⟨l, many, same⟩ := Option.map_eq_some_iff.mp is
      cases same
      rw [flatMap_leBytes_length, length_becMany many]
      omega
    · cases is
  · cases is

/-- The payload of a request that passes its checks is no longer than its header says. -/
theorem length_reqCheck {s : State} {b d : Bytes} (is : reqCheck s b = .ok d) : d.length ≤ (parseHdr b).dlen := by
  unfold reqCheck at is
  dsimp only at is
  split at is
  · cases is
  · split at is
    · cases is
    · split at is
      · cases is
      · split at is
        · cases is
        · split at is
          · cases is
          · split at is
            · cases is
            · next payload =>
              cases is
              unfold payloadOf at payload
              split at payload
              · cases payload
              · split at payload
                · split at payload
                  · cases payload
                    exact Nat.zero_le _
                  · cases payload
                · exact (length_decodeSeg payload).le

/-! ## Requests (09 R223, R236 to R238) -/

section
variable {a : Nat} {s : State}

theorem spared_answer (src : Nat) (h : Hdr) (e : Effect) : Spared a e.st (answer src h e) :=
  .of_hbm ((within_answer src h e).keeps (·.hbm) fun _ => rfl)

theorem spared_got {t : State} {src : Nat} {b : Bytes} (took : takeHead src false s = .got b t) : Spared a s t :=
  .of_hbm ((within_got took).keeps (·.hbm) fun _ => rfl)

/-- A request leaves what its effect leaves. -/
theorem spared_destReq {src : Nat} {want : Hdr → Bool} {act : Hdr → Bytes → State → Effect}
    (effect : ∀ b s' d, takeHead src false s = .got b s' → d.length ≤ (parseHdr b).dlen → Spared a s' (act (parseHdr b) d s').st) :
    Spared a s (destReq src want act s) := by
  unfold destReq
  split
  · exact .refl a s
  · next t drop => exact .of_hbm ((within_dropped drop).keeps (·.hbm) fun _ => rfl)
  · next b t took =>
    dsimp only
    have taken : Spared a s t := spared_got took
    split
    · exact .refl a s
    · split
      · exact taken
      · split
        · exact .refl a s
        · split
          · split
            · exact .refl a s
            · exact taken
          · split
            · exact taken.trans (spared_answer src (parseHdr b) { st := t, refuse := _ })
            · next d ok =>
              exact taken.trans ((effect b t d took (length_reqCheck ok)).trans (spared_answer src (parseHdr b) (act (parseHdr b) d t)))

/-- The pieces of a request's range are those of its translation, in HBM. -/
theorem hbmPieces_spec {c va n : Nat} {write : Bool} {l : List Piece} (is : hbmPieces s c va n write = some l) :
    l = (translate s c va n).1 ∧ ∀ p ∈ l, p.mo.host = false := by
  unfold hbmPieces at is
  dsimp only at is
  split at is
  · cases is
  · split at is
    · next all =>
      cases is
      refine ⟨rfl, fun p mem => ?_⟩
      have one := List.all_eq_true.mp all p mem
      rw [Bool.and_eq_true, Bool.not_eq_true'] at one
      exact one.1
    · cases is

theorem out_of_hbmPieces {c va n : Nat} {write : Bool} {l : List Piece} (is : hbmPieces s c va n write = some l)
    (out : ¬vaCovers s c va n a) : ∀ p ∈ l, ¬storeCovers p.mo p.off p.len a := by
  obtain ⟨rfl, hbm⟩ := hbmPieces_spec is
  exact fun p mem covers => out ⟨p, mem, hbm p mem, covers⟩

/-- The pieces of a range have its length together, so one piece alone has it whole. -/
theorem len_vaPieces {c : Nat} (fuel : Nat) : ∀ va n, (vaPieces s c fuel va n).2 = none → ((vaPieces s c fuel va n).1.map (·.len)).sum = n := by
  induction fuel with
  | zero =>
    intro va n none
    rw [vaPieces] at none ⊢
    split at none
    · next zero => exact zero.symm
    · cases none
  | succ fuel ih =>
    intro va n none
    rw [vaPieces] at none ⊢
    split at none
    · next zero => rw [if_pos zero]; exact zero.symm
    · next more =>
      rw [if_neg more]
      split at none
      · cases none
      · next k m is =>
        have rest := ih _ _ none
        simp only [List.map_cons, List.sum_cons, rest]
        omega

theorem len_of_one {c va n : Nat} {write : Bool} {p : Piece} (is : hbmPieces s c va n write = some [p]) : p.len = n := by
  have whole : (translate s c va n).2 = none := by
    unfold hbmPieces at is
    dsimp only at is
    split at is
    · cases is
    · next ok =>
      rw [Bool.or_eq_true, not_or, Bool.not_eq_true, Option.isSome_eq_false_iff, Option.isNone_iff_eq_none] at ok
      exact ok.1
  have sum := len_vaPieces _ va n whole
  rw [← (show [p] = (vaPieces s c (s.obj.mo.length + 1) va n).1 from (hbmPieces_spec is).1)] at sum
  simpa using sum

theorem spared_actStore {h : Hdr} {d : Bytes} (fits : d.length ≤ h.dlen) (out : ¬vaCovers s h.dstCtx h.va h.dlen a) :
    Spared a s (actStore h d s).st := by
  unfold actStore
  split
  · exact .refl a s
  · split
    · next p pieces =>
      refine spared_objWrite (n := p.len) s (by rw [len_of_one pieces]; exact fits) ?_
      exact out_of_hbmPieces pieces out p List.mem_cons_self
    · exact .refl a s

theorem spared_actCopy {h : Hdr} {d : Bytes} (out : ¬vaCovers s h.dstCtx h.va h.dlen a) : Spared a s (actCopy h d s).st := by
  unfold actCopy
  split
  · exact .refl a s
  · split
    · exact .refl a s
    · next l pieces =>
      split
      · exact .refl a s
      · exact spared_landPieces l d [] s (out_of_hbmPieces pieces out)

theorem spared_actAtomic {h : Hdr} {d : Bytes} (out : ¬vaCovers s h.dstCtx h.va 8 a) : Spared a s (actAtomic h d s).st := by
  unfold actAtomic
  generalize (if h.aop = 4 then 16 else 8) = operands
  generalize range : (if h.va % 8 = 0 then hbmPieces s h.dstCtx h.va 8 true else none) = l
  split
  · exact .refl a s
  · split
    · next p =>
      split at range
      · refine spared_objWrite (n := p.len) s (by rw [leBytes_length, len_of_one range]) ?_
        exact out_of_hbmPieces range out p List.mem_cons_self
      · cases range
    · exact .refl a s

/-- The range of a request is translated the same once it is taken. -/
theorem vaCovers_of_got {t : State} {src : Nat} {b : Bytes} (took : takeHead src false s = .got b t) {c va n : Nat} :
    vaCovers t c va n a ↔ vaCovers s c va n a := by
  rw [vaCovers, vaCovers, translate_congr ((within_got took).keeps (·.obj.mo) fun _ => rfl)]

theorem spared_atomicReq {aop src : Nat}
    (out : ∀ b s', takeHead src false s = .got b s' → ¬vaCovers s (parseHdr b).dstCtx (parseHdr b).va 8 a) :
    Spared a s (atomicReq aop src s) :=
  spared_destReq fun b s' _ took _ => spared_actAtomic ((vaCovers_of_got took).not.mpr (out b s' took))

end

/-! ## MOVE (03 R77, R78) -/

section
variable {a t n : Nat} {s u : State}

/-- Bytes written one by one, where a row of the MOVE faults (log 15). -/
theorem moveOut_bytes (use : HostUse) (c va : Nat) (b : Bytes) (written : Nat → Bool) (is : List Nat) (x : Moving t n s u) (l : List Await)
    (inside : ∀ i ∈ is, i < b.length) (out : ∀ i ∈ is, ¬vaCovers s c (va + i) 1 a) :
    Moving t n s (is.foldl (fun (st : State × List Await) i =>
      if written i then
        ((vaWrite use c (va + i) (sliceB b i 1) st.1).st,
          st.2 ++ hostAwaits st.1.hif.nextReq (vaWrite use c (va + i) (sliceB b i 1) st.1).st ++
            (vaWrite use c (va + i) (sliceB b i 1) st.1).mirrors.map .mir)
      else st) (u, l)).1 ∧
    Spared a u (is.foldl (fun (st : State × List Await) i =>
      if written i then
        ((vaWrite use c (va + i) (sliceB b i 1) st.1).st,
          st.2 ++ hostAwaits st.1.hif.nextReq (vaWrite use c (va + i) (sliceB b i 1) st.1).st ++
            (vaWrite use c (va + i) (sliceB b i 1) st.1).mirrors.map .mir)
      else st) (u, l)).1 := by
  induction is generalizing u l with
  | nil => exact ⟨x, .refl a u⟩
  | cons i is ih =>
    have inside' : ∀ j ∈ is, j < b.length := fun j mem => inside j (List.mem_cons_of_mem i mem)
    have out' : ∀ j ∈ is, ¬vaCovers s c (va + j) 1 a := fun j mem => out j (List.mem_cons_of_mem i mem)
    rw [List.foldl_cons]
    by_cases w : written i = true
    · rw [if_pos w]
      have one : Spared a u (vaWrite use c (va + i) (sliceB b i 1) u).st := by
        refine spared_vaWrite u ?_
        rw [sliceB_length, vaCovers, translate_congr x.mo]
        exact out i List.mem_cons_self
      obtain ⟨moving, spared⟩ := ih (x.vaWrite use c (va + i) (sliceB b i 1)) (l ++ hostAwaits u.hif.nextReq
        (vaWrite use c (va + i) (sliceB b i 1) u).st ++ (vaWrite use c (va + i) (sliceB b i 1) u).mirrors.map .mir) inside' out'
      exact ⟨moving, one.trans spared⟩
    · rw [if_neg w]
      exact ih x l inside' out'

/-- A row of a MOVE leaves what neither it nor one of its bytes covers. -/
theorem spared_moveOut (x : Moving t n s u) (r : Nat) (all : Bool)
    (row : ¬vaCovers s ((tileOwner s t).getD 0) (moveRemote (slotOf s t n).desc r) (moveLen (slotOf s t n).desc) a)
    (bytes : ∀ i, i < moveLen (slotOf s t n).desc →
      ¬vaCovers s ((tileOwner s t).getD 0) (moveRemote (slotOf s t n).desc r + i) 1 a) :
    Moving t n s (moveOut t n r all u) ∧ Spared a u (moveOut t n r all u) := by
  have len : (spRead u t (moveLocal (slotOf s t n).desc r) (moveLen (slotOf s t n).desc)).length = moveLen (slotOf s t n).desc :=
    length_memRead ..
  unfold moveOut
  dsimp only
  rw [x.desc, x.order, x.binds, x.owner]
  generalize spRead u t (moveLocal (slotOf s t n).desc r) (moveLen (slotOf s t n).desc) = b at len ⊢
  split
  · have wrote := x.vaWrite (.desc t n (slotOf s t n).order) ((tileOwner s t).getD 0) (moveRemote (slotOf s t n).desc r) b
    have spared : Spared a u (vaWrite (.desc t n (slotOf s t n).order) ((tileOwner s t).getD 0) (moveRemote (slotOf s t n).desc r) b u).st := by
      refine spared_vaWrite u ?_
      rw [len, vaCovers, translate_congr x.mo]
      exact row
    generalize vaWrite (.desc t n (slotOf s t n).order) ((tileOwner s t).getD 0) (moveRemote (slotOf s t n).desc r) b u = w
      at wrote spared ⊢
    split
    · exact ⟨wrote.slotAwait _, spared.trans (.of_hbm rfl)⟩
    · refine ⟨?_, spared.trans (.of_hbm rfl)⟩
      apply Moving.slotAwait
      exact (wrote.slotAwait _).of_same rfl rfl rfl
  · obtain ⟨moving, spared⟩ := moveOut_bytes (.desc t n (slotOf s t n).order) ((tileOwner s t).getD 0) (moveRemote (slotOf s t n).desc r) b
      (fun i => wasWritten u (moveRemote (slotOf s t n).desc r + i)) (List.range (moveLen (slotOf s t n).desc)) x []
      (fun i mem => by rw [len]; exact List.mem_range.mp mem) (fun i mem => bytes i (List.mem_range.mp mem))
    exact ⟨moving.slotAwait _, spared.trans (.of_hbm rfl)⟩

theorem spared_moveOuts (rows : List Nat) (x : Moving t n s u) (all : Bool)
    (row : ∀ r ∈ rows, ¬vaCovers s ((tileOwner s t).getD 0) (moveRemote (slotOf s t n).desc r) (moveLen (slotOf s t n).desc) a)
    (bytes : ∀ r ∈ rows, ∀ i, i < moveLen (slotOf s t n).desc →
      ¬vaCovers s ((tileOwner s t).getD 0) (moveRemote (slotOf s t n).desc r + i) 1 a) :
    Spared a u (rows.foldl (fun s r => moveOut t n r all s) u) := by
  induction rows generalizing u with
  | nil => exact .refl a u
  | cons r rows ih =>
    obtain ⟨moving, spared⟩ := spared_moveOut x r all (row r List.mem_cons_self) (bytes r List.mem_cons_self)
    exact spared.trans (ih moving (fun q mem => row q (List.mem_cons_of_mem r mem)) (fun q mem => bytes q (List.mem_cons_of_mem r mem)))

theorem hbm_moveIns (rows : List Nat) (hr : List Host.Cell) (all : Bool) (s : State) :
    (rows.foldl (fun s r => moveIn t n r hr all s) s).hbm = s.hbm := by
  induction rows generalizing s with
  | nil => rfl
  | cons r rows ih => exact (ih _).trans ((within_moveIn s t n r hr all).keeps (·.hbm) fun _ => rfl)

theorem spared_ended (s : State) (t n : Nat) : Spared a s (slotTry t n (begin t n s)) := .of_hbm (hbm_ended s t n)

/-- A MOVE leaves what its rows do not cover. -/
theorem spared_effMove (hr : List Host.Cell) (out : bitsAt (slotOf s t n).desc 16 0 2 = 0 → ∀ r i, r < moveRows (slotOf s t n).desc →
      i < moveLen (slotOf s t n).desc →
      ¬vaCovers s ((tileOwner s t).getD 0) (moveRemote (slotOf s t n).desc r) (moveLen (slotOf s t n).desc) a ∧
      ¬vaCovers s ((tileOwner s t).getD 0) (moveRemote (slotOf s t n).desc r + i) 1 a) : Spared a s (effMove t n hr s) := by
  unfold effMove
  split
  case isFalse => exact .refl a s
  case isTrue runs =>
    dsimp only
    split
    · split
      · exact (Spared.of_hbm (hbm_spWrites _ _ (fun u r => spRead u t _ _) _ s)).trans (spared_ended _ t n)
      · exact (Spared.of_hbm ((within_slotErr s t n errNotOwner).keeps (·.hbm) fun _ => rfl)).trans (spared_ended _ t n)
    · generalize List.filterMap _ _ = faults
      have rows : Spared a s ((List.range (moveRows (slotOf s t n).desc)).foldl (fun s' r =>
          if bitsAt (slotOf s t n).desc 16 0 2 = 0 then moveOut t n r faults.isEmpty s' else moveIn t n r hr faults.isEmpty s') s) := by
        by_cases dir : bitsAt (slotOf s t n).desc 16 0 2 = 0
        · simp only [if_pos dir]
          have positive : 0 < moveLen (slotOf s t n).desc := Nat.succ_pos _
          refine spared_moveOuts _ (moving_of_executes runs) _ (fun r mem => ?_) fun r mem i less => ?_
          · exact (out dir r 0 (List.mem_range.mp mem) positive).1
          · exact (out dir r i (List.mem_range.mp mem) less).2
        · simp only [if_neg dir]
          exact .of_hbm (hbm_moveIns ..)
      refine (rows.trans ?_).trans (spared_ended _ t n)
      generalize List.foldl _ s _ = v
      refine Spared.trans (u := if faults.isEmpty then v else drawn v) ?_
        (.of_hbm ((within_moveFaults _ t n faults).keeps (·.hbm) fun _ => rfl))
      split
      · exact .refl a v
      · exact .of_hbm rfl

end

/-! ## Deposit (06 R154) -/

theorem spared_effDepositWrite {a off req : Nat} {data : Bytes} {poisoned : Bool} {s : State}
    (out : ¬storeCovers (moOf s (depOf s (off / 0x4000000)).memobj.toNat)
      ((depOf s (off / 0x4000000)).objOff.toNat + off % 0x4000000) data.length a) :
    Spared a s (effDepositWrite off data req poisoned s) := by
  unfold effDepositWrite
  split
  · exact .refl a s
  · dsimp only
    split
    · exact .of_hbm ((within_depRefuse s _ off).keeps (·.hbm) fun _ => rfl)
    · split
      · exact .of_hbm ((within_raise s _).keeps (·.hbm) fun _ => rfl)
      · refine Spared.trans (u := setDep s (off / 0x4000000)
          { depOf s (off / 0x4000000) with st := .opened, dseen := true }) (.of_hbm rfl) ?_
        have wrote := spared_objWrite (setDep s (off / 0x4000000)
          { depOf s (off / 0x4000000) with st := .opened, dseen := true }) (le_refl data.length) out
        split
        · exact wrote
        · exact wrote.trans (.of_hbm rfl)

/-- Settles O53: each store writes the bytes of its pieces and, for class U, the lines they lie in; a refusal writes nothing. -/
theorem storesKeepOtherBytes : Obligations.StoresKeepOtherBytes := by
  refine ⟨fun s m off a b form _ out => (spared_objWrite s le_rfl out).hbmRead form, fun s t src a form out h => ?_,
    fun s t src a form out h => ?_, fun s u t n a hr form out _ h => ?_, fun s t off req a data poisoned form _ out h => ?_⟩
  · have out' (b : Bytes) (s' : State) (took : takeHead src false s = .got b s') :
        ¬vaCovers s' (parseHdr b).dstCtx (parseHdr b).va (parseHdr b).dlen a := (vaCovers_of_got took).not.mpr (out b s' took)
    rcases h with h | h <;> cases h
    · exact (spared_destReq fun b s' _ took fits => spared_actStore fits (out' b s' took)).hbmRead form
    · exact (spared_destReq fun b s' _ took _ => spared_actCopy (out' b s' took)).hbmRead form
  · have any (aop : Nat) : hbmRead (atomicReq aop src s) a 1 = hbmRead s a 1 := (spared_atomicReq out).hbmRead form
    rcases h with h | h | h | h | h <;> cases h
    · exact any 0
    · exact any 1
    · exact any 2
    · exact any 3
    · exact any 4
  · cases h
    exact (spared_effMove hr out).hbmRead form
  · cases h
    exact (spared_effDepositWrite out).hbmRead form

end Sys2Proof.Machine
end

section
/-!
PROOF. What the commands of a port, the network's, the fabric's and the transaction engine's leave as it was (O32).
-/
namespace Sys2Proof.Machine
open Host Claims

/-! ## What a port's operations leave of the others (08) -/

/-- What `f` reads of every port but `p` is as it was. -/
structure Aside {β : Type} (f : Port → β) (p : Nat) (s u : State) : Prop where
  others : ∀ q, q ≠ p → f (portOf u q) = f (portOf s q)

/-- What no other port's change of state takes from a port. -/
def portHeld (x : Port) : PortSt × List DFrame × List DFrame := (x.st, x.rxQ, x.unack)

section
variable {β : Type} {f : Port → β} {p : Nat} {s u v : State}

theorem Aside.refl (f : Port → β) (p : Nat) (s : State) : Aside f p s s := ⟨fun _ _ => rfl⟩

theorem Aside.trans (a : Aside f p s u) (b : Aside f p u v) : Aside f p s v := ⟨fun q ne => (b.others q ne).trans (a.others q ne)⟩

theorem Aside.of_port (same : u.port = s.port) : Aside f p s u := ⟨fun q _ => by rw [portOf, portOf, same]⟩

theorem Aside.of_others (a : Aside id p s u) : Aside f p s u := ⟨fun q ne => congrArg f (a.others q ne)⟩

theorem aside_setPort (s : State) (p : Nat) (x : Port) : Aside f p s (setPort s p x) :=
  ⟨fun _ ne => congrArg f (portOf_setPort_of_ne x ne)⟩

theorem Aside.ite {c : Prop} [Decidable c] (a : c → Aside f p s u) (b : ¬c → Aside f p s v) : Aside f p s (if c then u else v) := by
  split
  case isTrue h => exact a h
  case isFalse h => exact b h

theorem aside_emit (o : Out) (s : State) : Aside f p s (emit o s) := .of_port rfl

theorem aside_raise (e : ErrRec) (s : State) : Aside f p s (raise e s) := .of_port ((within_raise s e).keeps State.port fun _ => rfl)

end

/-! ## Frames sent (08 R214, R219) -/

section
variable {p : Nat} (s : State)

theorem aside_xoffEval : Aside id p s (xoffEval p s) := aside_setPort ..

theorem aside_blockStart (recal : Bool) : Aside id p s (blockStart p recal s) := by
  unfold blockStart
  exact .ite (fun _ => (aside_setPort ..).trans (aside_emit ..)) fun _ => .refl ..

theorem aside_blockEnd : Aside id p s (blockEnd p s) := by
  unfold blockEnd
  exact .ite (fun _ => (aside_setPort ..).trans (aside_emit ..)) fun _ => aside_setPort ..

theorem aside_sendFrame (ty : Nat) (vcA : Bool) (seq : Nat) (b : Bytes) (recal : Bool) : Aside id p s (sendFrame p ty vcA seq b recal s) := by
  unfold sendFrame
  exact (aside_xoffEval s).trans ((aside_blockStart _ recal).trans ((aside_setPort ..).trans
    ((aside_emit ..).trans (aside_blockEnd _))))

theorem aside_refill (vcA : Bool) : Aside id p s (refill p vcA s) := by
  unfold refill
  dsimp only
  split
  · split
    · exact .refl ..
    · exact aside_setPort ..
  · split
    · exact .refl ..
    · exact aside_setPort ..

theorem aside_sendData (f : DFrame) (recal : Bool) : Aside id p s (sendData p f recal s) := by
  unfold sendData
  exact (aside_setPort ..).trans (aside_sendFrame ..)

theorem aside_sendCairn (c : Bytes) (recal : Bool) : Aside id p s (sendCairn p c recal s) := by
  unfold sendCairn
  exact (aside_setPort ..).trans (aside_sendFrame ..)

theorem aside_slotFrame (recal : Bool) : Aside id p s (slotFrame p recal s) := by
  unfold slotFrame
  dsimp only
  split
  · exact (aside_setPort ..).trans (aside_sendFrame ..)
  · split
    · exact aside_sendCairn ..
    · generalize one : (if (decide ((portOf s p).unack.length < 2048) && !(portOf s p).rxoffA) = true then refill p true s else s) = u
      have first : Aside id p s u := by
        rw [← one]
        exact .ite (fun _ => aside_refill s true) fun _ => .refl ..
      generalize two : (if (decide ((portOf s p).unack.length < 2048) && !(portOf s p).rxoffQ) = true then refill p false u else u) = v
      have second : Aside id p u v := by
        rw [← two]
        exact .ite (fun _ => aside_refill u false) fun _ => .refl ..
      refine first.trans (second.trans ?_)
      split
      · exact (aside_setPort ..).trans (aside_sendData ..)
      · split
        · exact (aside_setPort ..).trans (aside_sendData ..)
        · exact aside_sendFrame ..

theorem aside_initSlot : Aside id p s (initSlot p s) := by
  unfold initSlot
  refine .ite (fun _ => (aside_setPort ..).trans (aside_sendFrame ..)) fun _ => ?_
  split
  · exact aside_sendCairn ..
  · exact aside_sendFrame ..

theorem aside_effFrameTransmit : Aside id p s (effFrameTransmit p s) := by
  unfold effFrameTransmit
  exact .ite (fun _ => .refl ..) fun _ => .ite (fun _ => aside_slotFrame ..) fun _ => .ite (fun _ => aside_initSlot s) fun _ => .refl ..

theorem aside_fillBlock (recal : Bool) (n : Nat) (s : State) : Aside id p s (fillBlock p recal n s) := by
  induction n generalizing s with
  | zero => exact .refl ..
  | succ n ih => exact (aside_slotFrame s recal).trans (ih _)

theorem aside_effRecalStart : Aside id p s (effRecalStart p s) := by
  unfold effRecalStart
  dsimp only
  generalize is : fillBlock p true 5 _ = u
  have filled : Aside id p s u := is ▸ (aside_fillBlock ..).trans (aside_fillBlock ..)
  exact .ite (fun _ => .refl ..) fun _ => filled.trans ((aside_setPort ..).trans (aside_emit ..))

theorem aside_effRecalEnd : Aside id p s (effRecalEnd p s) := by
  unfold effRecalEnd
  dsimp only
  split
  · exact .ite (fun _ => aside_setPort ..) fun _ => .refl ..
  · exact .refl ..

theorem aside_effRecalPeriod : Aside id p s (effRecalPeriod p s) := by
  unfold effRecalPeriod
  exact .ite (fun _ => .refl ..) fun _ => aside_setPort ..

theorem aside_startTraining : Aside id p s (startTraining p s) := aside_setPort ..

theorem aside_effAutoTrain : Aside id p s (effAutoTrain p s) := by
  unfold effAutoTrain
  exact .ite (fun _ => aside_startTraining s) fun _ => .refl ..

theorem aside_effNlkFlow (w : RegWr) : Aside id p s (effNlkFlow p w s) := by
  unfold effNlkFlow
  exact .ite (fun _ => .refl ..) fun _ => .ite (fun _ => aside_setPort ..) fun _ => aside_setPort ..

end

/-! ## States and retrains (08 R202 to R205) -/

section
variable {p : Nat} (s : State)

theorem aside_lsaSync : Aside portHeld p s (lsaSync s) :=
  ⟨fun q _ => by
    have same := congrArg portHeld (noLsas_lsaSync s q)
    exact same⟩

theorem aside_setUp (up : Bool) : Aside portHeld p s (setUp p up s) := by
  unfold setUp
  exact .ite (fun _ => .refl ..) fun _ => (aside_setPort ..).trans (aside_lsaSync _)

theorem aside_dropTransit (k : Nat) : Aside portHeld p s (dropTransit k s) := by
  refine ⟨fun q _ => ?_⟩
  rw [portOf_dropTransit]
  rfl

theorem aside_portEnter (st : PortSt) : Aside portHeld p s (portEnter p st s) := by
  unfold portEnter
  exact (aside_setPort ..).trans ((aside_dropTransit ..).trans (aside_setUp ..))

theorem aside_portDown : Aside portHeld p s (portDown p s) := by
  unfold portDown
  exact (aside_portEnter s .down).trans ((aside_raise ..).trans
    (Aside.trans (.of_port ((within_endPortTags ..).keeps State.port fun _ => rfl)) (.of_port rfl)))

theorem aside_beginAttempt : Aside portHeld p s (beginAttempt p s) := by
  unfold beginAttempt
  exact (aside_setPort ..).trans (aside_raise ..)

theorem aside_retrainFailed : Aside portHeld p s (retrainFailed p s) := by
  unfold retrainFailed
  exact (aside_setPort ..).trans (.ite (fun _ => aside_portDown _) fun _ => aside_beginAttempt _)

theorem aside_retrainTrigger : Aside portHeld p s (retrainTrigger p s) := by
  unfold retrainTrigger
  refine .ite (fun _ => ?_) fun _ => .refl ..
  split
  · exact .ite (fun _ => aside_retrainFailed s) fun _ => aside_beginAttempt s
  · exact aside_beginAttempt s

theorem aside_lostSignal (handshake : Bool) : Aside portHeld p s (lostSignal p handshake s) := by
  unfold lostSignal
  exact .ite (fun _ => .ite (fun _ => aside_retrainFailed s) fun _ => .refl ..) fun _ =>
    .ite (fun _ => aside_setPort ..) fun _ => aside_retrainTrigger s

theorem aside_startReplay : Aside portHeld p s (startReplay p s) := by
  unfold startReplay
  exact .ite (fun _ => aside_retrainTrigger s) fun _ => aside_setPort ..

theorem aside_upAgain : Aside portHeld p s (upAgain p s) := by
  unfold upAgain
  exact .ite (fun _ => aside_setUp ..) fun _ => .refl ..

theorem aside_setEnable (en : Bool) : Aside portHeld p s (setEnable p en s) := by
  unfold setEnable
  dsimp only
  generalize is : setPort s p _ = u
  have set : Aside portHeld p s u := is ▸ aside_setPort ..
  refine set.trans ?_
  exact .ite (fun _ => .ite (fun _ => (aside_startTraining _).of_others) fun _ => .refl ..) fun _ =>
    .ite (fun _ => .refl ..) fun _ => (aside_portEnter ..).trans (.of_port rfl)

theorem aside_nlkWrite (w : RegWr) : Aside portHeld p s (nlkWrite p w s) := by
  unfold nlkWrite
  dsimp only
  refine .ite (fun _ => .refl ..) fun _ => ?_
  generalize is : setEnable p _ _ = u
  have set : Aside portHeld p s u := is ▸ (aside_setPort ..).trans (aside_setEnable ..)
  generalize one : (if ((rwOnes w 4).testBit 1 && (portOf u p).en && decide ((portOf u p).st = .down)) = true then startTraining p u else u) = v
  have train : Aside portHeld p u v := by
    rw [← one]
    exact .ite (fun _ => (aside_startTraining u).of_others) fun _ => .refl ..
  refine set.trans (train.trans ?_)
  exact .ite (fun _ => aside_retrainTrigger _) fun _ => .refl ..

/-! ## Blocks and frames received (08 R191, R199) -/

theorem aside_effFecBlock (lanes : List (List (BitVec 10))) (skew : Nat) : Aside portHeld p s (effFecBlock p lanes skew s) := by
  unfold effFecBlock
  refine .ite (fun _ => .refl ..) fun _ => ?_
  generalize blockReceived lanes _ = r
  obtain ⟨blk, corr, u0, u1⟩ := r
  dsimp only
  exact (aside_setPort ..).trans (.ite (fun _ => aside_lostSignal ..) fun _ => .refl ..)

theorem aside_rxError : Aside portHeld p s (rxError p s) := by
  unfold rxError
  exact .ite (fun _ => .refl ..) fun _ => aside_setPort ..

theorem aside_ackFrames (a : Nat) : Aside portHeld p s (ackFrames p a s) := by
  unfold ackFrames
  dsimp only
  split
  · exact .refl ..
  · exact aside_setPort ..

theorem aside_rxData (f : LFrame) : Aside portHeld p s (rxData p f s) := by
  unfold rxData
  exact .ite (fun _ => .ite (fun _ => (aside_setPort ..).trans (aside_rxError _)) fun _ => aside_setPort ..) fun _ =>
    .ite (fun _ => .refl ..) fun _ => aside_rxError s

theorem aside_rxGood (f : LFrame) : Aside portHeld p s (rxGood p f s) := by
  unfold rxGood
  dsimp only
  generalize is : setPort s p _ = u
  have set : Aside portHeld p s u := is ▸ aside_setPort ..
  generalize one : (if f.ackv = true then ackFrames p f.ack u else u) = v
  have acked : Aside portHeld p u v := by
    rw [← one]
    exact .ite (fun _ => aside_ackFrames u f.ack) fun _ => .refl ..
  generalize two : (if f.ty = 1 then rxData p f v else _) = x
  have taken : Aside portHeld p v x := by
    rw [← two]
    exact .ite (fun _ => aside_rxData v f) fun _ => .ite (fun _ => aside_setPort ..) fun _ => .refl ..
  refine set.trans (acked.trans (taken.trans ?_))
  exact .ite (fun _ => aside_startReplay _) fun _ => .refl ..

theorem aside_effFrameReceive : Aside portHeld p s (effFrameReceive p s) := by
  unfold effFrameReceive
  dsimp only
  split
  · exact .refl ..
  · refine .ite (fun _ => .refl ..) fun _ => ?_
    generalize is : setPort s p _ = u
    have set : Aside portHeld p s u := is ▸ aside_setPort ..
    refine set.trans (.ite (fun _ => .ite (fun _ => aside_setPort ..) fun _ => .refl ..) fun _ => .ite (fun _ => .refl ..) fun _ =>
      .ite (fun _ => aside_rxError u) fun _ => .ite (fun _ => (aside_setPort ..).trans (aside_rxError _)) fun _ =>
      .ite (fun _ => aside_setPort ..) fun _ => aside_rxGood ..)

theorem aside_effReplayTimeout : Aside portHeld p s (effReplayTimeout p s) := by
  unfold effReplayTimeout
  refine .ite (fun _ => .refl ..) fun _ => ?_
  dsimp only
  generalize one : (if ((portOf s p).errSt && !(portOf s p).nakDue &&
    decide ((portOf s p).nakAt + replayToNs (portOf s p) ≤ s.now)) = true then setPort s p { portOf s p with nakDue := true } else s) = u
  have due : Aside portHeld p s u := by
    rw [← one]
    exact .ite (fun _ => aside_setPort ..) fun _ => .refl ..
  refine due.trans ?_
  exact .ite (fun _ => aside_startReplay _) fun _ => .refl ..

/-! ## Training (08 R203, R204, R207) -/

theorem aside_effLossOfSignal (handshake : Bool) : Aside portHeld p s (effLossOfSignal p handshake s) := by
  unfold effLossOfSignal
  exact .ite (fun _ => aside_lostSignal ..) fun _ => .refl ..

theorem aside_effTrainingPatterns (handshake : Bool) : Aside portHeld p s (effTrainingPatterns p handshake s) := by
  unfold effTrainingPatterns
  exact .ite (fun _ => ⟨fun q ne => (aside_lostSignal (p := p) _ handshake).others q ne⟩) fun _ => .refl ..

theorem aside_effNlkRetrain (w : RegWr) : Aside portHeld p s (effNlkRetrain p w s) := by
  unfold effNlkRetrain
  exact .ite (fun _ => aside_nlkWrite ..) fun _ => .refl ..

theorem aside_effNlkTrain (w : RegWr) : Aside portHeld p s (effNlkTrain p w s) := by
  unfold effNlkTrain
  exact .ite (fun _ => aside_nlkWrite ..) fun _ => .refl ..

theorem aside_effTrainingComplete (tr : Option Trained) : Aside portHeld p s (effTrainingComplete p tr s) := by
  unfold effTrainingComplete
  refine .ite (fun _ => .refl ..) fun _ => ?_
  split
  · exact .ite (fun _ => aside_retrainFailed s) fun _ => .refl ..
  · exact .refl ..
  · exact (aside_setPort ..).trans (aside_upAgain _)

theorem aside_effTrainingTimeout : Aside portHeld p s (effTrainingTimeout p s) := by
  unfold effTrainingTimeout
  exact .ite (fun _ => aside_portDown s) fun _ => .refl ..

theorem aside_effRetrainTimeout : Aside portHeld p s (effRetrainTimeout p s) := by
  unfold effRetrainTimeout
  exact .ite (fun _ => aside_retrainFailed s) fun _ => .refl ..

end

/-- A register write of a port, straddling or not, leaves of the others what its effect leaves. -/
theorem aside_regWriteIf {β : Type} {f : Port → β} {p n : Nat} {act : State → State} {w : RegWr} {c : Prop} [Decidable c] {s t : State}
    (h : ∀ s, Aside f p s (act s)) (ran : (if c then .next s else regWrite w n act s) = .next t) : Aside f p s t := by
  split at ran
  · exact Outcome.next.inj ran ▸ .refl ..
  · obtain rfl := Outcome.next.inj ran
    refine .ite (fun _ => ?_) fun _ => h s
    unfold mayBe
    split
    · exact (Aside.of_port (s := s) (u := drawn s) rfl).trans (h _)
    · exact .of_port rfl

theorem linkFrame : Claims.LinkFrame := by
  intro s t p n w l0 l1 l2 l3 pol precode coef skew u
  refine ⟨?_, ?_, ?_⟩
  · rintro (h | h | h | h)
    · exact ⟨(within_regWriteIf (fun s => within_effNlkFlow s p w) h).eq_graft ▸ rfl, (aside_regWriteIf (fun s => aside_effNlkFlow s w) h).others⟩
    · exact ⟨((within_effAutoTrain ..).ran h).eq_graft ▸ rfl, (Outcome.next.inj h ▸ aside_effAutoTrain s).others⟩
    · exact ⟨((within_effRecalEnd ..).ran h).eq_graft ▸ rfl, (Outcome.next.inj h ▸ aside_effRecalEnd s).others⟩
    · exact ⟨((within_effRecalPeriod ..).ran h).eq_graft ▸ rfl, (Outcome.next.inj h ▸ aside_effRecalPeriod s).others⟩
  · rintro (h | h)
    · exact ⟨((within_effFrameTransmit ..).ran h).eq_graft ▸ rfl, (Outcome.next.inj h ▸ aside_effFrameTransmit s).others⟩
    · exact ⟨((within_effRecalStart ..).ran h).eq_graft ▸ rfl, (Outcome.next.inj h ▸ aside_effRecalStart s).others⟩
  · have split {t : State} (a : Aside portHeld p s t) (q : Nat) (ne : q ≠ p) : (portOf t q).st = (portOf s q).st ∧
        (portOf t q).rxQ = (portOf s q).rxQ ∧ (portOf t q).unack = (portOf s q).unack := by
      obtain ⟨st, rest⟩ := Prod.mk.inj (a.others q ne)
      obtain ⟨rx, un⟩ := Prod.mk.inj rest
      exact ⟨st, rx, un⟩
    rintro (h | h | h | h | h | h | h | h | h | h | h)
    · exact ⟨((within_effFecBlock ..).ran h).eq_graft ▸ rfl, split (Outcome.next.inj h ▸ aside_effFecBlock s _ n)⟩
    · exact ⟨((within_effFrameReceive ..).ran h).eq_graft ▸ rfl, split (Outcome.next.inj h ▸ aside_effFrameReceive s)⟩
    · exact ⟨((within_effReplayTimeout ..).ran h).eq_graft ▸ rfl, split (Outcome.next.inj h ▸ aside_effReplayTimeout s)⟩
    · exact ⟨((within_effLossOfSignal ..).ran h).eq_graft ▸ rfl, split (Outcome.next.inj h ▸ aside_effLossOfSignal s u)⟩
    · exact ⟨((within_effTrainingPatterns ..).ran h).eq_graft ▸ rfl, split (Outcome.next.inj h ▸ aside_effTrainingPatterns s u)⟩
    · exact ⟨(within_regWriteIf (fun s => within_effNlkRetrain s p w) h).eq_graft ▸ rfl,
        split (aside_regWriteIf (fun s => aside_effNlkRetrain s w) h)⟩
    · exact ⟨(within_regWriteIf (fun s => within_effNlkTrain s p w) h).eq_graft ▸ rfl,
        split (aside_regWriteIf (fun s => aside_effNlkTrain s w) h)⟩
    · exact ⟨(within_regWriteIf (fun s => within_effNlkEnable s p w) h).eq_graft ▸ rfl,
        split (aside_regWriteIf (fun s => aside_nlkWrite s w) h)⟩
    · exact ⟨((within_effTrainingComplete ..).ran h).eq_graft ▸ rfl, split (Outcome.next.inj h ▸ aside_effTrainingComplete s _)⟩
    · exact ⟨((within_effTrainingTimeout ..).ran h).eq_graft ▸ rfl, split (Outcome.next.inj h ▸ aside_effTrainingTimeout s)⟩
    · exact ⟨((within_effRetrainTimeout ..).ran h).eq_graft ▸ rfl, split (Outcome.next.inj h ▸ aside_effRetrainTimeout s)⟩

/-! ## The network's commands (07) -/

/-- A port of Ethernet but for the packets it holds back. -/
def bareEth (p : Nat) (s : State) : EthPort := { ethOf s p with heldTx := [] }

theorem eth_of_bare {s t : State} {p : Nat} (same : bareEth p t = bareEth p s) : { ethOf t p with heldTx := (ethOf s p).heldTx } = ethOf s p :=
  congrArg (fun x : EthPort => { x with heldTx := (ethOf s p).heldTx }) same

/-- What a port loses with a queue pair: the packets of it that it holds back. -/
def unheld (q : Nat) (x : EthPort) : EthPort := { x with heldTx := x.heldTx.filter (fun k => decide (k.qp ≠ q)) }

theorem ethOf_dropHeld (p q : Nat) (s : State) : ethOf (dropHeld q s) p = unheld q (ethOf s p) := by
  unfold ethOf
  exact lget_map {} (unheld q) rfl s.eth.port p

theorem bareEth_dropHeld (p q : Nat) (s : State) : bareEth p (dropHeld q s) = bareEth p s := by
  rw [bareEth, ethOf_dropHeld]
  rfl

theorem bareEth_qpError (p q : Nat) (cause : QpCause) (addr : Nat) (s : State) : bareEth p (qpError q cause addr s) = bareEth p s := by
  unfold qpError
  by_cases rts : (qpOf s q).st = .rts
  · rw [if_pos rts]
    exact ((within_raise ..).keeps (bareEth p) fun _ => rfl).trans ((bareEth_dropHeld ..).trans rfl)
  · rw [if_neg rts]

/-- A network command leaves of the Ethernet ports what its effect leaves. -/
theorem bareEth_netCmd {op lim p : Nat} {x : NetCmd} {bad : Bytes → Bool} {ctx : Bytes → Option Nat}
    {act : Bytes → State → Except Nat (Nat × State)} {s : State} (kept : ∀ d r, act d s = .ok r → bareEth p r.2 = bareEth p s) :
    bareEth p (netCmd op lim x bad ctx act s) = bareEth p s := by
  have failed (e : ErrRec) (code : Nat) : bareEth p (netDone code 0 (raise e s)) = bareEth p s :=
    (show bareEth p (raise e s) = bareEth p s from (within_raise ..).keeps (bareEth p) fun _ => rfl)
  unfold netCmd
  split
  · rfl
  · dsimp only
    split
    · exact failed ..
    · split
      · exact failed ..
      · split
        · exact failed ..
        · split
          · exact failed ..
          · next r ok => exact kept _ r ok

theorem bareEth_effQpDestroy (p : Nat) (x : NetCmd) (s : State) : bareEth p (effQpDestroy x s) = bareEth p s := by
  unfold effQpDestroy
  refine bareEth_netCmd fun d r ok => ?_
  split at ok
  · cases ok
  · cases ok
    exact bareEth_dropHeld ..

theorem bareEth_effQpFail (p : Nat) (x : NetCmd) (s : State) : bareEth p (effQpFail x s) = bareEth p s := by
  unfold effQpFail
  refine bareEth_netCmd fun d r ok => ?_
  split at ok
  · cases ok
    exact bareEth_qpError ..
  · cases ok

theorem networkFrame : Claims.NetworkFrame := by
  intro s t x p q f hr
  refine ⟨?_, ?_, ?_, fun h => ((within_effRoceInbound ..).ran h).eq_graft ▸ rfl⟩
  · rintro (h | h | h | h | h | h)
    · exact ⟨((within_effQpCreate ..).ran h).eq_graft ▸ rfl,
        eth_of_bare (((within_effQpCreate ..).ran h).keeps (bareEth p) fun _ => rfl)⟩
    · exact ⟨((within_effQpDestroy ..).ran h).eq_graft ▸ rfl, eth_of_bare (Outcome.next.inj h ▸ bareEth_effQpDestroy p x s)⟩
    · exact ⟨((within_effQpFail ..).ran h).eq_graft ▸ rfl, eth_of_bare (Outcome.next.inj h ▸ bareEth_effQpFail p x s)⟩
    · exact ⟨((within_effQpRecover ..).ran h).eq_graft ▸ rfl,
        eth_of_bare (((within_effQpRecover ..).ran h).keeps (bareEth p) fun _ => rfl)⟩
    · exact ⟨((within_effMrReg ..).ran h).eq_graft ▸ rfl,
        eth_of_bare (((within_effMrReg ..).ran h).keeps (bareEth p) fun _ => rfl)⟩
    · exact ⟨((within_effMrDereg ..).ran h).eq_graft ▸ rfl,
        eth_of_bare (((within_effMrDereg ..).ran h).keeps (bareEth p) fun _ => rfl)⟩
  · rintro (h | h | h | h | h | h | h | h | h)
    · exact ((within_effEthFrame ..).ran h).eq_graft ▸ rfl
    · exact ((within_effPfcPause ..).ran h).eq_graft ▸ rfl
    · exact ((within_effRocePost ..).ran h).eq_graft ▸ rfl
    · exact ((within_effRoceNak ..).ran h).eq_graft ▸ rfl
    · exact ((within_effRoceTimeout ..).ran h).eq_graft ▸ rfl
    · exact ((within_effRoceCnp ..).ran h).eq_graft ▸ rfl
    · exact ((within_effRoceRate ..).ran h).eq_graft ▸ rfl
    · exact ((within_effEthDown ..).ran h).eq_graft ▸ rfl
    · exact ((within_effEthUp ..).ran h).eq_graft ▸ rfl
  · rintro (h | h)
    · exact ((within_effRoceLanded ..).ran h).eq_graft ▸ rfl
    · exact ((within_effRoceAck ..).ran h).eq_graft ▸ rfl

/-! ## The fabric's commands (10) -/

/-- Conflicts of a device of no bound pair: what is settled, and the address given up. -/
theorem within_effAddressConflict_of_alone {s : State} (alone : pairBound s = false) :
    Within [.out, .port, .erqIn, .rtDirty, .fab, .dict] s (effAddressConflict s) := by
  obtain ⟨-, bound, -⟩ := conflictsSettled_keeps s
  have settle : Within [.out, .erqIn, .fab, .dict] s (conflictsSettled s) :=
    .sub (.foldl (fun s x => .after (within_raise ..) (.upd [.fab] (by rfl))) _ _) (by rfl)
  unfold effAddressConflict
  change Within _ s (if _ then conflictsSettled s else if (pairBound (conflictsSettled s) && _) = true then standDown _
    else setAddr 255 (conflictsSettled s))
  rw [bound, alone, Bool.false_and]
  split
  · exact settle.sub (by rfl)
  · rw [if_neg Bool.false_ne_true]
    exact .sub (.after (within_setAddr ..) settle) (by rfl)

theorem fabricFrame : Claims.FabricFrame := by
  intro s t p vcA
  have kept {u : State} (w : Within [.out, .port, .erqIn, .rtDirty, .fab, .dict] s u) :
      { u with port := s.port, fab := s.fab, erq := s.erq, dict := s.dict, out := s.out } = s ∧
        u.fab.route = s.fab.route ∧ u.fab.loaded = s.fab.loaded ∧ u.fab.transitDrop = s.fab.transitDrop :=
    ⟨w.eq_graft ▸ rfl, w.keeps (·.fab.route) fun _ => rfl, w.keeps (·.fab.loaded) fun _ => rfl, w.keeps (·.fab.transitDrop) fun _ => rfl⟩
  refine ⟨fun h => ((within_effTransit ..).ran h).eq_graft ▸ rfl, fun h => ((within_effCairnSend ..).ran h).eq_graft ▸ rfl,
    fun h => ((within_effRouteRecompute ..).ran h).eq_graft ▸ rfl, ?_⟩
  rintro (h | h | h | ⟨alone, h⟩)
  · exact kept ((within_effCairnReceive ..).ran h)
  · exact kept (((within_effCairnTimeout ..).ran h).sub (by rfl))
  · exact kept ((within_effAddressAssign ..).ran h)
  · exact kept ((within_effAddressConflict_of_alone alone).ran h)

/-! ## The transaction engine's commands (09) -/

/-- A DONE response lands nothing. -/
theorem hbm_effDoneResponse (src : Nat) (s : State) : (effDoneResponse src s).hbm = s.hbm := by
  unfold effDoneResponse sourceResp
  split
  · rfl
  · next drop => exact (within_dropped drop).keeps (·.hbm) fun _ => rfl
  · next b t got =>
    have taken : t.hbm = s.hbm := (within_got got).keeps (·.hbm) fun _ => rfl
    extract_lets h m
    clear_value m
    split
    · rfl
    · split
      · rfl
      · split
        · split
          · rfl
          · exact taken
        · split
          · exact taken
          · split
            · exact ((within_badResp ..).keeps (·.hbm) fun _ => rfl).trans taken
            · split
              · exact taken
              · rw [if_pos (by simp)]
                exact ((within_segDone ..).keeps (·.hbm) fun _ => rfl).trans taken

theorem transactionFrame : Claims.TransactionFrame := by
  rintro s u i ⟨n, rfl | rfl | rfl | rfl | rfl | rfl | rfl | rfl | rfl | rfl | rfl | rfl | rfl | rfl | rfl | rfl | rfl | rfl | rfl | rfl⟩ h
  · have w := (within_effSegmentSend ..).ran h
    exact ⟨w.eq_graft ▸ rfl, fun _ => w.keeps (·.hbm) fun _ => rfl⟩
  · have w := (within_effLoad ..).ran h
    exact ⟨w.eq_graft ▸ rfl, fun _ => w.keeps (·.hbm) fun _ => rfl⟩
  · exact ⟨((within_effStore ..).ran h).eq_graft ▸ rfl, fun other => absurd rfl (other n).1⟩
  · exact ⟨((within_effCopy ..).ran h).eq_graft ▸ rfl, fun other => absurd rfl (other n).2.1⟩
  · exact ⟨((within_effAtomicAdd ..).ran h).eq_graft ▸ rfl, fun other => absurd rfl (other n).2.2.1⟩
  · exact ⟨((within_effAtomicMin ..).ran h).eq_graft ▸ rfl, fun other => absurd rfl (other n).2.2.2.1⟩
  · exact ⟨((within_effAtomicMax ..).ran h).eq_graft ▸ rfl, fun other => absurd rfl (other n).2.2.2.2.1⟩
  · exact ⟨((within_effAtomicSwap ..).ran h).eq_graft ▸ rfl, fun other => absurd rfl (other n).2.2.2.2.2.1⟩
  · exact ⟨((within_effAtomicCas ..).ran h).eq_graft ▸ rfl, fun other => absurd rfl (other n).2.2.2.2.2.2.1⟩
  · have w := (within_effExaAdd ..).ran h
    exact ⟨w.eq_graft ▸ rfl, fun _ => w.keeps (·.hbm) fun _ => rfl⟩
  · have w := (within_effExaRed ..).ran h
    exact ⟨w.eq_graft ▸ rfl, fun _ => w.keeps (·.hbm) fun _ => rfl⟩
  · have w := (within_effReduceDone ..).ran h
    exact ⟨w.eq_graft ▸ rfl, fun _ => w.keeps (·.hbm) fun _ => rfl⟩
  · have w := (within_effFence ..).ran h
    exact ⟨w.eq_graft ▸ rfl, fun _ => w.keeps (·.hbm) fun _ => rfl⟩
  · exact ⟨((within_effDoneResponse ..).ran h).eq_graft ▸ rfl, fun _ => Outcome.next.inj h ▸ hbm_effDoneResponse n s⟩
  · exact ⟨((within_effDataResponse ..).ran h).eq_graft ▸ rfl, fun other => absurd rfl (other n).2.2.2.2.2.2.2⟩
  · have w := (within_effNtxLoad ..).ran h
    exact ⟨w.eq_graft ▸ rfl, fun _ => w.keeps (·.hbm) fun _ => rfl⟩
  · have w := (within_effNtxStore ..).ran h
    exact ⟨w.eq_graft ▸ rfl, fun _ => w.keeps (·.hbm) fun _ => rfl⟩
  · have w := (within_effNtxAtomic ..).ran h
    exact ⟨w.eq_graft ▸ rfl, fun _ => w.keeps (·.hbm) fun _ => rfl⟩
  · have w := (within_effNtxFence ..).ran h
    exact ⟨w.eq_graft ▸ rfl, fun _ => w.keeps (·.hbm) fun _ => rfl⟩
  · have w := (within_effTagQuarantineEnd ..).ran h
    exact ⟨w.eq_graft ▸ rfl, fun _ => w.keeps (·.hbm) fun _ => rfl⟩

/-- Settles O32: each command reaches only the parts put back; a port's operations set that port, and what a port that goes down takes
from the others is none of what they keep. -/
theorem linkSideFrames : Obligations.LinkSideFrames := ⟨networkFrame, linkFrame, fabricFrame, transactionFrame⟩

end Sys2Proof.Machine
end

section
/-!
PROOF. Accesses of the registers (O8; 00 R10, R13, R14; 01 R18, R19). A register found at an address holds that address, so an access that
straddles two registers has two parts; an RC register stores its new value and touches neither the trace nor the draws.
-/
namespace Sys2Proof.Machine
open Host Claims

/-! ## The register at an address -/

theorem hostRegs_holds {s : State} {a : Nat} {r : Reg} (at_a : hostRegs s a = some r) : r.base ≤ a ∧ a < r.base + r.n := by
  unfold hostRegs at at_a
  dsimp only at at_a
  split at at_a
  · next window =>
    simp only [Bool.and_eq_true, decide_eq_true_eq] at window
    obtain rfl := Option.some.inj at_a
    dsimp only
    omega
  split at at_a
  · next window =>
    simp only [Bool.and_eq_true, decide_eq_true_eq] at window
    obtain rfl := Option.some.inj at_a
    dsimp only
    omega
  split at at_a
  · have : a % 0x1000 ≤ a := Nat.mod_le ..
    have : a % 0x1000 < 0x1000 := Nat.mod_lt _ (by decide)
    split at at_a
    · obtain rfl := Option.some.inj at_a
      dsimp only
      omega
    split at at_a
    · obtain rfl := Option.some.inj at_a
      dsimp only
      omega
    split at at_a
    · obtain rfl := Option.some.inj at_a
      dsimp only [roReg]
      omega
    · obtain rfl := Option.some.inj at_a
      dsimp only [roReg]
      omega
  · simpa using List.find?_some at_a

/-- The register found at an address holds it. -/
theorem regAt_holds {view : RegView} {s : State} {a : Nat} {r : Reg} (at_a : regAt view s a = some r) : r.base ≤ a ∧ a < r.base + r.n := by
  unfold regAt at at_a
  split at at_a
  · next x found =>
    obtain rfl := Option.some.inj at_a
    simpa using List.find?_some found
  · split at at_a
    · exact hostRegs_holds at_a
    · cases at_a

/-- The MC's registers begin at 0x40001000. -/
theorem regAt_mc_none {src a : Nat} {s : State} (low : a < 0x40001000) : regAt (.mc src) s a = none := by
  have none : blockRegs (.mc src) s a = [] := by
    have n1 : ¬0x40001000 ≤ a := by omega
    have n2 : ¬0x40002000 ≤ a := by omega
    have n3 : ¬0x40003000 ≤ a := by omega
    have n4 : ¬0x40005100 ≤ a := by omega
    have n5 : ¬0x40005000 ≤ a := by omega
    have n6 : ¬0x40006000 ≤ a := by omega
    simp [blockRegs, n1, n2, n3, n4, n5, n6]
  simp [regAt, none]

/-! ## Writes -/

section
variable {s : State} {a : Nat} {b : Bytes}

/-- A write of the two registers it meets, each or not (R14). -/
theorem mayBe_storePart (view : RegView) (a : Nat) (b : Bytes) (p : Nat × Nat) (s : State) :
    ∃ w, mayBe (storePart view a b p) s = partTaken w view a b p s := mayBe_eq (s := s) (storePart view a b p)

theorem regParts_of_two {view : RegView} {r r2 : Reg} {n : Nat} (at_a : regAt view s a = some r)
    (past : r.base + r.n < a + n) (next : regAt view s (r.base + r.n) = some r2) (inside : a + n ≤ r2.base + r2.n) :
    regParts view s n a n = [(a, r.base + r.n - a), (r.base + r.n, a + n - (r.base + r.n))] := by
  obtain ⟨low, high⟩ := regAt_holds at_a
  obtain ⟨m, rfl⟩ : ∃ m, n = m + 2 := ⟨n - 2, by omega⟩
  have k : min (m + 2) (r.base + r.n - a) = r.base + r.n - a := by omega
  have there : a + (r.base + r.n - a) = r.base + r.n := by omega
  have rest : m + 2 - (r.base + r.n - a) = a + (m + 2) - (r.base + r.n) := by omega
  have some' : a + (m + 2) - (r.base + r.n) ≠ 0 := by omega
  have k2 : min (a + (m + 2) - (r.base + r.n)) (r2.base + r2.n - (r.base + r.n)) = a + (m + 2) - (r.base + r.n) := by omega
  have done (fuel x : Nat) : regParts view s fuel x 0 = [] := by cases fuel <;> simp [regParts]
  rw [regParts, if_neg (by omega), at_a]
  dsimp only
  rw [k, there, rest, regParts, if_neg some', next]
  dsimp only
  rw [k2, Nat.sub_self, done]

theorem regStore_of_two {view : RegView} {r r2 : Reg} (reached : regReached view s a r) (cut : r.whole = false)
    (past : r.base + r.n < a + b.length) (next : regAt view s (r.base + r.n) = some r2) (inside : a + b.length ≤ r2.base + r2.n) :
    ∃ w1 w2, regStore view a b s = partTaken w2 view a b (r.base + r.n, a + b.length - (r.base + r.n))
      (partTaken w1 view a b (a, r.base + r.n - a) s) := by
  obtain ⟨on, not_bar4, block_on, at_a⟩ := reached
  obtain ⟨low, high⟩ := regAt_holds at_a
  have some' : b ≠ [] := List.ne_nil_of_length_pos (by omega)
  obtain ⟨w1, first⟩ := mayBe_storePart view a b (a, r.base + r.n - a) s
  obtain ⟨w2, second⟩ := mayBe_storePart view a b (r.base + r.n, a + b.length - (r.base + r.n))
    (partTaken w1 view a b (a, r.base + r.n - a) s)
  refine ⟨w1, w2, ?_⟩
  rw [← second, ← first]
  simp [regStore, regPut, on, some', not_bar4, block_on, at_a, cut, Nat.not_le.mpr past, regParts_of_two at_a past next inside, onParts]

theorem regParts_of_none {view : RegView} (fuel : Nat) : ∀ a n, (∀ i, i < n → regAt view s (a + i) = none) → regParts view s fuel a n = [] := by
  induction fuel with
  | zero => exact fun _ _ _ => rfl
  | succ fuel ih =>
    intro a n none
    rw [regParts]
    split
    · rfl
    · next some' =>
      rw [show regAt view s a = Option.none from none 0 (by omega)]
      exact ih (a + 1) (n - 1) fun i less => by
        rw [Nat.add_assoc, Nat.add_comm 1 i]
        exact none (i + 1) (by omega)

/-- Bytes that no register holds take nothing (R13; log 62). -/
theorem regStore_of_none {view : RegView} (not_bar4 : view ≠ .bar4) (none : ∀ i, i < b.length → regAt view s (a + i) = none) :
    regStore view a b s = s := by
  by_cases empty : b = []
  · simp [regStore, empty]
  · have first : regAt view s a = Option.none := none 0 (List.length_pos_iff.mpr empty)
    have parts := regParts_of_none (view := view) (s := s) b.length a b.length none
    simp [regStore, regPut, not_bar4, first, parts, onParts]

theorem regStore_of_off {view : RegView} (not_bar4 : view ≠ .bar4) (off : blockOff view s a = true) : regStore view a b s = s := by
  simp [regStore, regPut, not_bar4, off]

end

/-! ## The MSI-X table (06 R138) -/

/-- Bytes found one by one are read together. -/
theorem memRead_of_bytes {d : Byte} {m : Tab Byte} {a : Nat} {b : Bytes} (each' : ∀ i, i < b.length → tget d m (a + i) = b.getD i d) :
    memRead d m a b.length = b := by
  induction b generalizing a with
  | nil => rfl
  | cons x b ih =>
    rw [List.length_cons, memRead]
    congr 1
    · exact each' 0 (by simp)
    · refine ih fun i less => ?_
      rw [Nat.add_assoc, Nat.add_comm 1 i]
      exact each' (i + 1) (by simpa using less)

/-- The MSI-X table below the Pending Bits is as it was, and has its form. -/
def TableKept (s t : State) : Prop :=
  tabWf 0 s.hif.msix = true → tabWf 0 t.hif.msix = true ∧ ∀ a < 0x8000, tget 0 t.hif.msix a = tget 0 s.hif.msix a

theorem TableKept.refl (s : State) : TableKept s s := fun form => ⟨form, fun _ _ => rfl⟩

theorem TableKept.trans {s t u : State} (x : TableKept s t) (y : TableKept t u) : TableKept s u := fun form =>
  ⟨(y (x form).1).1, fun a low => ((y (x form).1).2 a low).trans ((x form).2 a low)⟩

/-- A Pending Bit lies above the table (06 R138). -/
theorem tableKept_msixPend (v : Nat) (on : Bool) (s : State) : TableKept s (msixPend v on s) := by
  intro form
  unfold msixPend msixStore
  dsimp only
  generalize List.map _ _ = b
  refine ⟨tabWf_memWrite 0 b _ _ form, fun a low => ?_⟩
  rw [tget_memWrite 0 b _ _ a form, if_neg (by omega)]

theorem tableKept_foldl {α : Type} {g : State → α → State} (h : ∀ s x, TableKept s (g s x)) (l : List α) (s : State) :
    TableKept s (l.foldl g s) := by
  induction l generalizing s with
  | nil => exact .refl s
  | cons x l ih => exact (h s x).trans (ih _)

theorem tableKept_msixRelease (s : State) : TableKept s (msixRelease s) := by
  unfold msixRelease
  split
  · exact .refl s
  · exact tableKept_foldl (fun u v => by
      split
      · exact .refl u
      · exact tableKept_msixPend v false u) _ s

/-- Bytes stored in the table are read again (06 R138). -/
theorem msixRead_msixStore {s t : State} {a : Nat} {b : Bytes} (low : a + b.length ≤ 0x8000) (form : tabWf 0 s.hif.msix = true)
    (kept : TableKept (msixStore a b s) t) : msixRead t a b.length = b := by
  obtain ⟨l, is⟩ : ∃ l, l = b.zipIdx.map (fun e => e.1 ^^^ msixReset (a + e.2)) := ⟨_, rfl⟩
  have len : l.length = b.length := by rw [is, List.length_map, List.length_zipIdx]
  have stored : (msixStore a b s).hif.msix = memWrite 0 s.hif.msix a l := by rw [is]; rfl
  obtain ⟨-, same⟩ := kept (by rw [stored]; exact tabWf_memWrite 0 l _ a form)
  have read : memRead 0 t.hif.msix a b.length = l := by
    rw [← len]
    refine memRead_of_bytes fun i less => ?_
    rw [same (a + i) (by omega), stored, tget_memWrite 0 l _ a (a + i) form, if_pos (by omega), Nat.add_sub_cancel_left]
  rw [msixRead, read, is]
  refine List.ext_getElem (by simp) fun i _ _ => ?_
  simp

/-- A write of the table: what it stores is read again, whatever messages then leave (06 R138). -/
theorem regStore_bar4 {s : State} {a : Nat} {b : Bytes} (low : a + b.length ≤ 0x8000) (some' : b ≠ []) (bar : barOn s = true) :
    regStore .bar4 a b s = msixRelease (msixStore a b s) := by
  simp [regStore, viewOn, bar, some', regPut, msixWrite, low]

theorem msixOnly_regStore (s : State) (a : Nat) (b : Bytes) : msixOnly s (regStore .bar4 a b s) := by
  have w : Within [.out, .msix] s (regStore .bar4 a b s) := by
    unfold regStore regPut
    split
    · exact .refl _ s
    · exact within_msixWrite s a b
  exact w.eq_graft ▸ rfl

/-! ## Reads -/

/-- What a read stores in an RC register reaches neither the trace nor the draws. -/
structure Reg.Quiet (r : Reg) : Prop where
  puts : ∀ put, r.rc = some put → ∀ v s, (put v s).out = s.out ∧ (put v s).free = s.free

theorem Reg.Quiet.of_none {r : Reg} (none : r.rc = none) : r.Quiet := ⟨fun _ some' => by rw [none] at some'; cases some'⟩

theorem Reg.Quiet.rc {base val : Nat} {dom : Option Nat} {put : Nat → State → State}
    (h : ∀ v s, (put v s).out = s.out ∧ (put v s).free = s.free) : (rcReg base dom val put).Quiet := ⟨fun _ same => by
  obtain rfl := Option.some.inj same
  exact h⟩

/-- Registers none of which a read clears. -/
theorem quiet_of_unread {l : List Reg} (none : l.all (fun r => r.rc.isNone) = true) : ∀ r ∈ l, r.Quiet := fun r mem =>
  .of_none (Option.isNone_iff_eq_none.mp (List.all_eq_true.mp none r mem))

theorem quiet_nlkRegs (s : State) (p : Nat) : ∀ r ∈ nlkRegs s p, r.Quiet := by
  have count (b n : Nat) (d : Option Nat) (f : State → Nat → Port) : (rcReg b d n fun v s => setPort s p (f s v)).Quiet :=
    .rc fun _ _ => ⟨rfl, rfl⟩
  simp only [nlkRegs, List.forall_mem_cons]
  exact ⟨.of_none rfl, .of_none rfl, .of_none rfl, count .., count .., count .., count .., count .., count .., count .., count ..,
    List.forall_mem_nil _⟩

theorem quiet_ethRegs (s : State) (p : Nat) : ∀ r ∈ ethRegs s p, r.Quiet := by
  simp only [ethRegs, List.forall_mem_cons]
  exact ⟨.of_none rfl, .of_none rfl, .of_none rfl, .of_none rfl, .of_none rfl, .rc fun _ _ => ⟨rfl, rfl⟩, .rc fun _ _ => ⟨rfl, rfl⟩,
    List.forall_mem_nil _⟩

theorem quiet_fabRegs (s : State) : ∀ r ∈ fabRegs s, r.Quiet := by
  simp only [fabRegs, List.forall_mem_cons]
  exact ⟨.of_none rfl, .of_none rfl, .rc fun _ _ => ⟨rfl, rfl⟩, List.forall_mem_nil _⟩

theorem quiet_flRegs (s : State) (src : Nat) : ∀ r ∈ flRegs s src, r.Quiet := by
  simp only [flRegs, List.forall_mem_cons]
  exact ⟨.of_none rfl, .of_none rfl, .of_none rfl, .of_none rfl, .rc fun _ _ => ⟨rfl, rfl⟩, .of_none rfl, List.forall_mem_nil _⟩

theorem quiet_cvuRegs (s : State) (c : Nat) : ∀ r ∈ cvuRegs s c, r.Quiet := by
  have advance (b n v : Nat) (f : Cvu → Cvu) :
      Reg.Quiet { base := b, n := n, val := v, rc := some fun _ s => onCvu c (fun x s => setCvu s c (f x)) s } := ⟨fun _ same => by
    obtain rfl := Option.some.inj same
    exact fun _ s => ⟨(within_cvuFlags c f s).keeps State.out fun _ => rfl, (within_cvuFlags c f s).keeps State.free fun _ => rfl⟩⟩
  simp only [cvuRegs, List.forall_mem_cons]
  exact ⟨.of_none rfl, .of_none rfl, .of_none rfl, .of_none rfl, .of_none rfl, .of_none rfl, .of_none rfl, .of_none rfl, .of_none rfl,
    .of_none rfl, .of_none rfl, .of_none rfl, advance .., .of_none rfl, List.forall_mem_nil _⟩

theorem quiet_hostRegs {s : State} {a : Nat} {r : Reg} (at_a : hostRegs s a = some r) : r.Quiet := by
  unfold hostRegs at at_a
  dsimp only at at_a
  split at at_a
  · obtain rfl := Option.some.inj at_a
    exact .of_none rfl
  split at at_a
  · obtain rfl := Option.some.inj at_a
    exact .of_none rfl
  split at at_a
  · split at at_a
    · obtain rfl := Option.some.inj at_a
      exact .of_none rfl
    split at at_a
    · obtain rfl := Option.some.inj at_a
      exact .of_none rfl
    split at at_a
    · obtain rfl := Option.some.inj at_a
      exact .of_none rfl
    · obtain rfl := Option.some.inj at_a
      exact .of_none rfl
  · refine List.forall_mem_cons.2 ?_ r (List.mem_of_find?_eq_some at_a)
    simp only [List.forall_mem_cons]
    exact ⟨.of_none rfl, .of_none rfl, .of_none rfl, .of_none rfl, .of_none rfl, .of_none rfl, .of_none rfl, .of_none rfl,
      .of_none rfl, .of_none rfl, .of_none rfl, .of_none rfl, .of_none rfl, .rc fun _ _ => ⟨rfl, rfl⟩, .of_none rfl, .of_none rfl,
      .of_none rfl, .of_none rfl, .of_none rfl, List.forall_mem_nil _⟩

theorem quiet_blockRegs (view : RegView) (s : State) (a : Nat) : ∀ r ∈ blockRegs view s a, r.Quiet := by
  have plain {l : List Reg} (none : l.all (fun r => r.rc.isNone) = true) : ∀ r ∈ l, r.Quiet := quiet_of_unread none
  cases view with
  | bar4 => exact List.forall_mem_nil _
  | host =>
    unfold blockRegs
    exact forall_mem_ite (quiet_nlkRegs s _) <| forall_mem_ite (quiet_fabRegs s) <| forall_mem_ite (plain rfl) <|
      forall_mem_ite (plain rfl) <| forall_mem_ite (plain rfl) <| forall_mem_ite (plain rfl) <|
      forall_mem_ite (quiet_ethRegs s _) <| forall_mem_ite (plain rfl) <| forall_mem_ite (plain rfl) <|
      forall_mem_ite (plain rfl) <| forall_mem_ite (plain rfl) <| forall_mem_ite (plain rfl) <|
      List.forall_mem_nil _
  | mc src =>
    unfold blockRegs
    exact forall_mem_ite (quiet_cvuRegs s _) <| forall_mem_ite (plain rfl) <| forall_mem_ite (quiet_flRegs s _) <|
      forall_mem_ite (plain rfl) <| forall_mem_ite (plain rfl) <| forall_mem_ite (plain rfl) <|
      List.forall_mem_nil _

theorem quiet_regAt {view : RegView} {s : State} {a : Nat} {r : Reg} (at_a : regAt view s a = some r) : r.Quiet := by
  unfold regAt at at_a
  split at at_a
  · next x found =>
    obtain rfl := Option.some.inj at_a
    exact quiet_blockRegs view s a _ (List.mem_of_find?_eq_some found)
  · split at at_a
    · exact quiet_hostRegs at_a
    · cases at_a

theorem rcClear_quiet {r : Reg} (quiet : r.Quiet) (o n : Nat) (s : State) :
    (rcClear r o n s).out = s.out ∧ (rcClear r o n s).free = s.free := by
  unfold rcClear
  split
  · exact ⟨rfl, rfl⟩
  · next put is => exact quiet.puts put is _ s

/-- A read inside one register answers its bytes and clears what it reads where the register is RC (R10). -/
theorem regLoad_of_reached {view : RegView} {s : State} {a n : Nat} {r : Reg} (reached : regReached view s a r) (nonempty : n ≠ 0)
    (inside : a + n ≤ r.base + r.n) :
    regLoad view a n s = emit (.readData (sliceB (regBytes s r) (a - r.base) n)) (rcClear r (a - r.base) n (drawn s)) := by
  cases view with
  | bar4 => exact absurd rfl reached.2.1
  | host =>
    obtain ⟨on, not_bar4, block_on, at_a⟩ := reached
    simp [regLoad, regFetch, heldRead, on, nonempty, block_on, at_a, inside]
  | mc src =>
    have high : 0x40001000 ≤ a := by
      by_contra low
      have none := regAt_mc_none (src := src) (s := s) (Nat.not_le.mp low)
      rw [reached.2.2.2] at none
      cases none
    exact regLoad_of_regReached reached nonempty inside (xipAt_eq_none (by omega))

/-! ## XIP windows (16 R403, R407) -/

theorem xipAt_low {a n o : Nat} {bank : Bool} (is : xipAt a n = some (bank, o)) : a < 0x40001000 := by
  unfold xipAt at is
  split at is
  · next h =>
    simp only [Bool.and_eq_true, decide_eq_true_eq] at h
    omega
  · split at is
    · next h =>
      simp only [Bool.and_eq_true, decide_eq_true_eq] at h
      omega
    · cases is

/-- A read of an XIP window answers the bank's bytes, or is held while the bank is busy. -/
theorem regLoad_xip {s : State} {src a n o : Nat} {bank : Bool} (nonempty : n ≠ 0) (awake : mcAwake s = true)
    (is : xipAt a n = some (bank, o)) : regLoad (.mc src) a n s = if xipHeld s bank then
      { s with flash.waits := s.flash.waits ++ [(bank, o, n)] } else emit (.readData (flashRead s bank o n)) s := by
  have off : blockOff (.mc src) s a = false := by simp [blockOff, regAt_mc_none (src := src) (s := s) (xipAt_low is)]
  by_cases held : xipHeld s bank = true
  · simp [regLoad, viewOn, awake, nonempty, heldRead, is, held]
  · simp [regLoad, viewOn, awake, nonempty, heldRead, is, held, regFetch, off]

/-! ## The CRC error counter of a port (08) -/

theorem regBytes_of_defined {r : Reg} (s : State) (defined : r.wo = 0) : regBytes s r = leBytes r.n r.val := by
  have unmasked (x : Byte) : x &&& 255#8 = x := BitVec.and_allOnes
  simp [regBytes, defined, leBytes_eq_map_range, unmasked]

/-- The value a read of the counter leaves is put into the port. -/
def putCrcErr (p : Nat) (v : Nat) (s : State) : State := setPort s p { portOf s p with crcErr := BitVec.ofNat 32 v }

/-- The register CRC_ERR of a port. -/
def crcErrReg (s : State) (p : Nat) : Reg :=
  rcReg (0x400028 + 0x10000 * p) (some (if p < 4 then dLNKA else dLNKB)) (portOf s p).crcErr.toNat (putCrcErr p)

theorem regAt_crcErr {s : State} {p : Nat} (port : p < 8) : regAt .host s (0x400028 + 0x10000 * p) = some (crcErrReg s p) := by
  have addr : 0x400028 + 0x10000 * p = 0x400000 + 0x10000 * p + 0x28 := by omega
  have block : 0x400000 ≤ 0x400000 + 0x10000 * p + 0x28 ∧ 0x400000 + 0x10000 * p + 0x28 < 0x480000 := by omega
  have index : (0x400000 + 0x10000 * p - 0x3FFFD8) / 0x10000 = p := by omega
  have regs : blockRegs .host s (0x400028 + 0x10000 * p) = nlkRegs s p := by
    rw [addr]
    simp [blockRegs, block, index]
  rw [regAt, regs, crcErrReg, addr]
  simp only [nlkRegs]
  generalize 0x400000 + 0x10000 * p = b
  simp [rcReg, Nat.add_assoc]
  rfl

theorem rcClear_crcErr (s u : State) (p : Nat) : rcClear (crcErrReg s p) 0 4 u = putCrcErr p 0 u := by
  have zero (b : Bytes) (len : b.length = 4) : ofLe (putB b 0 (List.replicate 4 0)) = 0 := by
    rw [putB, List.take_zero, len, List.nil_append, List.drop_eq_nil_of_le (by simp [len])]
    rfl
  have value := zero (leBytes 4 (portOf s p).crcErr.toNat) (leBytes_length ..)
  exact congrArg (fun v => putCrcErr p v u) value

theorem regLoad_crcErr {s : State} {p : Nat} (port : p < 8) (bar : barOn s = true)
    (on : domOn s (if p < 4 then dLNKA else dLNKB) = true) :
    regLoad .host (0x400028 + 0x10000 * p) 4 s = emit (.readData (leBytes 4 (portOf s p).crcErr.toNat)) (putCrcErr p 0 (drawn s)) := by
  have at_a := regAt_crcErr (s := s) port
  have reached : regReached .host s (0x400028 + 0x10000 * p) (crcErrReg s p) :=
    ⟨bar, nofun, by simp [blockOff, at_a, crcErrReg, rcReg, on], at_a⟩
  rw [regLoad_of_reached (n := 4) reached (by decide) (le_refl _), regBytes_of_defined s rfl]
  have whole := sliceB_zero_length (leBytes 4 (portOf s p).crcErr.toNat)
  rw [leBytes_length] at whole
  have base : (crcErrReg s p).base = 0x400028 + 0x10000 * p := rfl
  rw [base, Nat.sub_self, rcClear_crcErr]
  exact congrArg (fun b => emit (.readData b) (putCrcErr p 0 (drawn s))) whole

/-! ## The obligation -/

theorem registerAccessesAct : Claims.RegisterAccessesAct := by
  refine ⟨fun s view a b r reached some' inside => ?_, fun s view a b r r2 reached cut past next inside => ?_,
    fun s view a b not_bar4 none => ?_, fun s a b low some' bar form => ⟨?_, fun off => ?_⟩,
    fun s view a n r reached some' inside => ?_, fun s src a n o bank some' awake xip => ⟨fun free => ?_, fun held => ?_⟩,
    fun s p port ports bar on => ?_, fun s a n bar off => ⟨?_, fun b => ?_⟩⟩
  · exact congrArg Outcome.next (regStore_of_regReached reached some' inside)
  · obtain ⟨w1, w2, stored⟩ := regStore_of_two reached cut past next inside
    exact ⟨w1, w2, congrArg Outcome.next stored⟩
  · exact congrArg Outcome.next (regStore_of_none not_bar4 none)
  · refine ⟨_, rfl, ?_, msixOnly_regStore s a b⟩
    rw [regStore_bar4 low some' bar]
    exact msixRead_msixStore low form (tableKept_msixRelease _)
  · refine congrArg Outcome.next ((regStore_bar4 low some' bar).trans ?_)
    have silent : msixOn (msixStore a b s) = false := by
      change (s.hif.msixEn && _) = false
      rw [off, Bool.false_and]
    rw [msixRelease, silent]
    rfl
  · obtain ⟨out, free⟩ := rcClear_quiet (quiet_regAt reached.2.2.2) (a - r.base) n (drawn s)
    refine ⟨_, congrArg Outcome.next (regLoad_of_reached reached some' inside), ?_, free⟩
    rw [emit_out, out]
    rfl
  · refine congrArg Outcome.next ((regLoad_xip some' awake xip).trans ?_)
    rw [free]
    rfl
  · refine congrArg Outcome.next ((regLoad_xip some' awake xip).trans ?_)
    rw [held]
    rfl
  · refine ⟨_, congrArg Outcome.next (regLoad_crcErr port bar on), rfl, ?_, fun q ne => ?_⟩
    · exact portOf_setPort_self (s := drawn s) (p := p) (by change p < s.port.length; omega) _
    · exact portOf_setPort_of_ne (s := drawn s) _ ne
  · simp only [exec, execBar0OffDomainAccess, bar, off]
    rfl
  · simp only [exec, execBar0OffDomainAccess, bar, off]
    rfl

theorem registerFrame : Claims.RegisterFrame := by
  intro s t a n b view r
  have offDomain (d : Option Bytes) (h : exec (.bar0OffDomainAccess a n d) s = .next t) :
      t = s ∨ d = none ∧ t = emit (.readData (List.replicate n 0xFF)) s := by
    simp only [exec, execBar0OffDomainAccess] at h
    split at h
    · exact .inl (Outcome.next.inj h).symm
    · cases d with
      | none => exact .inr ⟨rfl, (Outcome.next.inj h).symm⟩
      | some b => exact .inl (Outcome.next.inj h).symm
  refine ⟨fun h => ?_, fun h => ?_, fun h => ?_, fun reached keeps inside h => ?_, fun off not_bar4 h => ?_⟩
  · obtain same | ⟨none, -⟩ := offDomain (some b) h
    · exact same
    · cases none
  · obtain rfl | ⟨-, rfl⟩ := offDomain none h
    · rfl
    · rfl
  · exact Outcome.next.inj h ▸ msixOnly_regStore s a b
  · cases h
    by_cases empty : n = 0
    · rw [regLoad, if_pos (by simp [empty])]
    · rw [regLoad_of_reached reached empty inside, rcClear, keeps]
      rfl
  · exact (Outcome.next.inj h).symm.trans (regStore_of_off not_bar4 off)

/-- Settles O8: an access finds the registers at its addresses, one part for each; a read of an RC register stores what it leaves. -/
theorem registerAccesses : Obligations.RegisterAccesses := ⟨registerAccessesAct, registerFrame⟩

end Sys2Proof.Machine
end
